-- ==== Sys2Proof/Word.lean ====
section
/-! DEFINITION. The word types of the node: bytes and 64-bit words; and the operand types of commands that are not numbers. -/

namespace Sys2Proof

/-- One byte of memory, of a packet or of a register image. -/
abbrev Byte := BitVec 8

/-- A 64-bit word: a control register, a core register, a memory operand. -/
abbrev Word := BitVec 64

/-- A string of bytes, lowest address first. -/
abbrev Bytes := List Byte

/-- The operations of RV64A (R239): LR, SC, and the AMOs with their memory-side operation. -/
inductive AmoOp where
  | lr | sc | swap | add | xor | and | or | min | max | minu | maxu
  deriving DecidableEq, Repr

/-- What a scrub read finds in its line: nothing, a correctable error, or an uncorrectable one, in a DRAM die (0xF for a
lane). -/
inductive ScrubFind where
  | clean
  | corrected (die : Fin 16)
  | uncorrected (die : Fin 16)
  deriving DecidableEq, Repr

/-- What the ECC finds when a core's access reads its line or word (R116, R240): nothing; an error of a DRAM die of the tier's
line (0xF for a lane); or an error of one 8-byte word held in SRAM: a Cistern slice, the Dome cache (`dome`) or a scratchpad.
`bad` says that it is uncorrectable, `last` that it is in the line or word of the access's last byte and not its first. -/
inductive EccFind where
  | clean
  | tier (bad last : Bool) (die : Fin 16)
  | sram (bad last dome : Bool)
  deriving DecidableEq, Repr

/-- The errors the ECC finds in what a command of an engine or a home reads: each at a byte of this node's memory. -/
abbrev EccFinds := List (Nat × EccFind)

/-- The NOR operation that ended (R376): of the running Keep update, the background erase of a region's former slot, or
of a firmware staging. -/
inductive NorOp where
  | update
  | erase (region : Fin 10)
  | staging
  deriving DecidableEq, Repr

/-! ## Instructions of the Dome harts (R159, R190, R191) -/

/-- The floating-point formats of the Dome cores. -/
inductive FFmt where
  | half | single | double | bf16
  deriving DecidableEq, Repr

/-- How a CSR instruction combines its operand: CSRRW, CSRRS, CSRRC; from register rs1 or from its 5-bit number. -/
structure CsrForm where
  kind : Fin 3
  imm : Bool
  deriving DecidableEq, Repr

/-- Scalar floating-point instructions: F, D, Zfh, Zfbfmin and Zfa. -/
inductive FloatOp where
  | add | sub | mul | div | sqrt
  | madd | msub | nmsub | nmadd
  | sgnj | sgnjn | sgnjx
  | min | max | minm | maxm
  | eq | lt | le | ltq | leq
  | classify
  /-- From another format. -/
  | ofFmt (src : FFmt)
  /-- To and from a 32-bit or 64-bit (`wide`) integer. -/
  | toInt (wide sgn : Bool)
  | ofInt (wide sgn : Bool)
  /-- Bits to and from an integer register. -/
  | toBits | ofBits
  /-- To an integral value; `exact` sets NX. -/
  | round (exact : Bool)
  /-- The constant that rs1 numbers. -/
  | li
  /-- An access to fflags (1), frm (2) or fcsr (3). -/
  | csr (reg : Fin 4) (form : CsrForm)
  deriving DecidableEq, Repr

/-- Second operand of a vector instruction: a vector register, an integer register, an immediate, a float register. -/
inductive VForm where
  | vv | vx | vf
  | vi (imm : Fin 64)
  deriving DecidableEq, Repr

/-- Two-operand integer and fixed-point element operations (V, Zvbb). -/
inductive VInt where
  | add | sub | rsub | minu | min | maxu | max | and | or | xor | sll | srl | sra
  | mul | mulhu | mulhsu | mulh | divu | div | remu | rem
  | saddu | sadd | ssubu | ssub | aaddu | aadd | asubu | asub | smul | ssrl | ssra
  | andn | rol | ror
  deriving DecidableEq, Repr

/-- One-operand bit operations (Zvbb). -/
inductive VUn where
  | brev | brev8 | rev8 | clz | ctz | cpop
  deriving DecidableEq, Repr

/-- Widening integer operations; `wop` forms take a wide first operand. -/
inductive VWide where
  | addu | add | subu | sub | mulu | mulsu | mul | sll
  deriving DecidableEq, Repr

/-- Narrowing shifts and clips. -/
inductive VNarrow where
  | srl | sra | clipu | clip
  deriving DecidableEq, Repr

/-- Integer multiply-accumulate, and its widening forms. -/
inductive VMac where
  | macc | nmsac | madd | nmsub | wmaccu | wmacc | wmaccsu | wmaccus
  deriving DecidableEq, Repr

/-- Integer comparisons into a mask. -/
inductive VCmp where
  | eq | ne | ltu | lt | leu | le | gtu | gt
  deriving DecidableEq, Repr

/-- Two-operand floating-point element operations. -/
inductive VFp where
  | add | sub | rsub | mul | div | rdiv | min | max | sgnj | sgnjn | sgnjx
  deriving DecidableEq, Repr

/-- Fused multiply-adds. -/
inductive VFma where
  | macc | nmacc | msac | nmsac | madd | nmadd | msub | nmsub
  deriving DecidableEq, Repr

/-- Floating-point comparisons into a mask. -/
inductive VFcmp where
  | eq | ne | lt | le | gt | ge
  deriving DecidableEq, Repr

/-- One-operand floating-point element operations. -/
inductive VFun where
  | sqrt | rsqrt7 | rec7 | classify
  deriving DecidableEq, Repr

/-- Conversions: to integers (rounded, or truncated), from integers, and between widths (`rod` rounds to odd). -/
inductive VCvt where
  | xuF | xF | rtzXuF | rtzXF | fXu | fX | fF | rodF
  deriving DecidableEq, Repr

/-- Reductions. -/
inductive VRed where
  | sum | and | or | xor | minu | min | maxu | max | wsumu | wsum
  | fosum | fusum | fmin | fmax | fwosum | fwusum
  deriving DecidableEq, Repr

/-- Mask logic. -/
inductive VMask where
  | and | nand | andn | or | nor | orn | xor | xnor
  deriving DecidableEq, Repr

/-- Vector configuration, arithmetic, reduction, mask and permutation instructions, and the vector CSRs. -/
inductive VecOp where
  /-- vsetvli and vsetivli (`imm`) with a vtype immediate, vsetvl with vtype in rs2. -/
  | setvl (imm : Bool) (zimm : Fin 2048)
  | setvlReg
  | int (op : VInt)
  | un (op : VUn)
  /-- vzext and vsext by 2, 4 or 8 (1, 2, 3). -/
  | ext (sgn : Bool) (by_ : Fin 4)
  | wide (op : VWide) (wop : Bool)
  | narrow (op : VNarrow)
  | mac (op : VMac)
  | cmp (op : VCmp)
  /-- vadc, vsbc; vmadc and vmsbc into a mask. -/
  | carry (sub_ toMask : Bool)
  | merge
  | fp (op : VFp)
  /-- vfwadd, vfwsub (with `wop` the .w forms), vfwmul. -/
  | fpWide (op : VFp) (wop : Bool)
  | fma (op : VFma) (wide : Bool)
  | fcmp (op : VFcmp)
  | fun1 (op : VFun)
  /-- Single-width, widening (1) or narrowing (2) conversion. -/
  | cvt (op : VCvt) (width : Fin 3)
  | red (op : VRed)
  | mask (op : VMask)
  | cpopMask | first | sbf | sif | sof | iota | id
  | slideup | slidedown | slide1up | slide1down | gather | gather16 | compress
  /-- vmv.x.s, vmv.s.x, vfmv.f.s, vfmv.s.f. -/
  | mvXS | mvSX | mvFS | mvSF
  /-- vmvnr: 1, 2, 4 or 8 registers (0 to 3). -/
  | mvWhole (log2 : Fin 4)
  /-- An access to vstart (0), vxsat (1), vxrm (2), vcsr (3), vl (4), vtype (5) or vlenb (6). -/
  | csr (reg : Fin 7) (form : CsrForm)
  deriving DecidableEq, Repr

/-- Addressing of a vector memory instruction: unit stride, its fault-only-first, mask and whole-register forms, constant
stride, and indexed. -/
inductive VAddr where
  | unit | faultFirst | mask | whole | strided | indexed
  deriving DecidableEq, Repr

end Sys2Proof
end

