-- ==== Sys2Proof/Syntax.lean ====
section
/-! DEFINITION. The commands of the node: one constructor per row of spec/opcode_table.json, with the operands the spec
gives the command. Each docstring is the row's rule and summary. -/

namespace Sys2Proof

/-- A command, an event or an arrival: one indivisible step of the node. -/
inductive Instr where
  /-- R8: A Dome-core or Gatehouse write to a control register that has no row of its own takes effect under its access type. -/
  | registerWrite (addr : BitVec 48) (wide : Bool) (v : BitVec 64)
  /-- R32: The SET_PROFILE command checks its outcome table and, if it is valid and differs from the active profile or clock, starts a profile switch. -/
  | setProfile
  /-- R33: The profile switch finishes relock, realignment and plan offsets, then ACTIVE and TOWER_MHZ take the new values as SWITCHING returns to 0. -/
  | profileSwitchComplete
  /-- R39: At the end of each 4,096-cycle window the node computes the next issue-gating G from the weighted event counts, the cap and the margin plan. -/
  | gateWindowEnd (gated ungated : List (BitVec 32))
  /-- R41: Every 10 µs the 200 µs sliding average of measured input power is updated. -/
  | powerAverageUpdate (avg input : BitVec 16)
  /-- R41: Every 100 µs while the average stays above CAP_ACTIVE, the backstop lowers G by 8 down to 8, or stops and returns G to the estimator. -/
  | backstopStep
  /-- R42: A write to CAP_W is clamped to 1,200 W and LIMIT_W and takes effect at once, or at the next step boundary while a job is admitted. -/
  | nodePowerCapWrite (w : BitVec 16)
  /-- R43: Step time crosses a step boundary, and every action tied to the next boundary takes effect before any entry of the new step fires. -/
  | stepBoundary
  /-- R48: A master or promoted standby sends a stamped tick symbol at each tick point. -/
  | tickSend (stamp : BitVec 64)
  /-- R51: A tick symbol arrives on a port and is tested for validity, counted as bad, relayed or used for correction. -/
  | tickArrival (p : Fin 8) (tick : Bytes) (now : BitVec 64) (fine : BitVec 16) (clk res : Nat)
  /-- R61: A hold ends when the estimate reaches local step time, and step time advances again. -/
  | holdEnd
  /-- R61: A hold that has not ended after 64 tick intervals ends the lock, and the node enters LOST. -/
  | holdTimeout
  /-- R50: Every 1 ms each trained port sends a delay request to its link partner. -/
  | delayRequest (p : Fin 8)
  /-- R50: A port receives a delay request from its partner and answers with a delay response. -/
  | delayRequestArrival (p : Fin 8) (turnaround : Nat)
  /-- R50: A delay response yields one measurement, and the port publishes the median of its last 16 in TB_PORT_DELAYp. -/
  | delayResponseArrival (p : Fin 8) (round turnaround : Nat)
  /-- R63: Ticks of 4 consecutive tick points are missed, and the node switches parent or enters HOLDOVER. -/
  | ticksStop (clk : Nat)
  /-- R67: A standby master that has been in HOLDOVER for 8 tick intervals promotes itself to MASTER and sends ticks with SRC = 1. -/
  | standbyPromotion
  /-- R56: A rising edge of RTB_EPOCH at least 1 ms after a master bind loads START and sends the first tick. -/
  | rtbEpochEdge (since : Nat)
  /-- R483: No RTB_REF edge for 1 µs marks the reference absent, and a master sets REF_LOST in its status and ticks. -/
  | rtbRefLoss
  /-- R55: TIMEBASE_BIND with ROLE 0 returns the node to FREE, with step time continuing. -/
  | timebaseUnbind
  /-- R55: TIMEBASE_BIND with ROLE 1 binds the node as a follower and enters ACQUIRING. -/
  | timebaseBindFollower
  /-- R56: TIMEBASE_BIND with ROLE 2 makes the node the step master, which begins START at the next qualifying RTB_EPOCH edge. -/
  | timebaseBindMaster
  /-- R67: TIMEBASE_BIND with ROLE 3 binds the node as a standby master and enters ACQUIRING. -/
  | timebaseBindStandby
  /-- R68: A read of TB_NOW returns step time at one instant and latches FINE for the same hart. -/
  | tbNowRead (h : Fin 65) (rd : Fin 32) (now : BitVec 64) (fine : BitVec 16)
  /-- R70: An enabled alarm fires when step time is at or past its target, sets FIRED, clears ENABLE and may send an MSI. -/
  | alarmFire (a : Fin 32)
  /-- R78: Step time reaches an entry's FIRE_PHASE with every earlier entry fired, and the entry becomes pending. -/
  | entryFire (t : Fin 16)
  /-- R79: A running entry completes with its status and signals its counter, or sets the counter's FAILED mark. -/
  | entryComplete (t : Fin 16) (e : Fin 4096)
  /-- R81: Step time reaches DEADLINE_PHASE of an incomplete entry, which ends with DEADLINE_MISSED or its action's outcome. -/
  | entryDeadline (t : Fin 16) (e : Fin 4096)
  /-- R75: A TENSOR_RUN entry starts and issues its descriptor to each named spire's tensor engine. -/
  | tensorRun (t : Fin 16) (e : Fin 4096)
  /-- R106: A VECTOR_PROGRAM entry starts each named spire core at PROG_ADDR with its argument registers set. -/
  | vectorProgram (t : Fin 16) (e : Fin 4096)
  /-- R204: A SOLVE entry starts the terrace's Solver Engine on its descriptor, with the entry deadline. -/
  | solveEntry (t : Fin 16) (e : Fin 4096)
  /-- R75: A MOVE entry starts and issues its descriptor to each named data mover. -/
  | move (t : Fin 16) (e : Fin 4096)
  /-- R298: A COLLECTIVE entry starts an invocation of its group slot, in firing order. -/
  | collective (t : Fin 16) (e : Fin 4096)
  /-- R86: A FIELD_SEND entry copies LENGTH bytes in stamped chunks to the field's destination buffer. -/
  | fieldSend (t : Fin 16) (e : Fin 4096)
  /-- R88: A FIELD_WAIT entry tests its slot entry for the expected count or a failure. -/
  | fieldWait (t : Fin 16) (e : Fin 4096)
  /-- R76: A REFLECT entry tests whether a checkpoint is due and, if so, arms a reflection of its list for the next boundary. -/
  | reflect (t : Fin 16) (e : Fin 4096)
  /-- R417: A DIGEST entry hashes its extents on a free hash engine and holds the result for END_STEP. -/
  | digest (t : Fin 16) (e : Fin 4096)
  /-- R89: A QUIET entry opens a window in which the terrace serves only queued surveys, self-tests and calibrations. -/
  | quiet (t : Fin 16) (e : Fin 4096)
  /-- R75: A BARRIER entry waits until every named terrace, and the group if named, has reached the barrier. -/
  | barrier (t : Fin 16) (e : Fin 4096) (group : Bool)
  /-- R76: A RECORD_MARK entry writes MARK and step time to the record ring while recording is on. -/
  | recordMark (t : Fin 16) (e : Fin 4096)
  /-- R82: END_STEP folds the digests, publishes the step digest and writes the step summary once every other entry has completed. -/
  | endStep (t : Fin 16) (e : Fin 4096)
  /-- R87: A FIELD chunk arrives, is checked against the step window, written in place and counted in its slot entry once the whole field verifies. -/
  | fieldChunkArrival (node : Fin 32768) (addr : Fin 281474976710656) (last : Bool) (p : Bytes)
  /-- R90: SCHEDULE_LOAD stages and checks the named images and writes all inactive banks or none. -/
  | scheduleLoad
  /-- R93: SCHEDULE_ARM with operation ARM binds a bank swap to the first boundary at least 10 µs after acceptance. -/
  | scheduleArm
  /-- R93: SCHEDULE_ARM with operation DISARM cancels an armed swap unless the bound boundary is less than 10 µs away. -/
  | scheduleDisarm
  /-- R93: SCHEDULE_ARM with operation RESUME resumes halted terraces at the bound boundary. -/
  | scheduleResume
  /-- R96: A write of 1 to ENABLE of SCHED_RING_CTRL sets HEAD and TAIL to 0 and starts outcome records. -/
  | schedRingCtrlWrite (t : Fin 16) (v : BitVec 64)
  /-- R99: A write of OFF_REQ moves unnamed terraces between PARKED and OFF, or is kept until JOB_RELEASE for named ones. -/
  | nodeTerracePwrWrite (off : BitVec 16)
  /-- R110: SP.TQ queues a tensor descriptor to the spire's tensor engine, stalling while the queue is full or an entry holds the engine. -/
  | spTq (n : Fin 288) (rs1 : Fin 32)
  /-- R110: SP.MQ queues a data-mover descriptor to the spire's data mover, stalling while the queue is full or an entry holds the mover. -/
  | spMq (n : Fin 288) (rs1 : Fin 32)
  /-- R109: SP.WAIT waits until the unit's completion count reaches rs1 and returns the first failure status. -/
  | spWait (n : Fin 288) (mover : Bool) (rd rs1 : Fin 32)
  /-- R109: SP.TIME returns step time from the terrace replica and is refused in the Exact and Sealed profiles. -/
  | spTime (n : Fin 288) (rd : Fin 32) (now : Nat)
  /-- R109: SP.TWAIT stalls the spire core until step time is at or past rs1. -/
  | spTwait (n : Fin 288) (rs1 : Fin 32)
  /-- R109: Step time reaches the target of a waiting SP.TWAIT, and the spire core continues. -/
  | spTwaitExpiry (n : Fin 288)
  /-- R124: SP.AMAX returns an amax slot. -/
  | spAmax (n : Fin 288) (rd rs1 : Fin 32)
  /-- R125: SP.AMAXX returns an amax slot and resets it in the same cycle. -/
  | spAmaxx (n : Fin 288) (rd rs1 : Fin 32)
  /-- R107: SP.END ends the spire core's part, failing it with SPIRE_FAULT when rs1 is nonzero. -/
  | spEnd (n : Fin 288) (rs1 : Fin 32)
  /-- R225: A spire-core load or store goes uncached to its target under RVWMO. -/
  | spireLoadStore (n : Fin 288) (store : Bool) (size : Fin 4) (sgn : Bool) (rd rs1 rs2 : Fin 32) (imm : Fin 4096)
      (res : Fin 3) (ecc : EccFind)
  /-- R239: A spire-core RV64A instruction is performed as a memory-side operation, store or reservation, or refused when marked V. -/
  | spireAmo (n : Fin 288) (op : AmoOp) (wide : Bool) (rd rs1 rs2 : Fin 32) (res mres : Fin 3) (ecc : EccFind)
  /-- R253: A spire-core FENCE completes once earlier stores or reads are performed or concluded. -/
  | spireFence (n : Fin 288) (pred succ : Fin 16)
  /-- R224: FENCE.I invalidates the spire core's instruction cache so that later fetches see stored code. -/
  | spireFenceI (n : Fin 288)
  /-- R125: A Dome-core write to SPIRE_AMAXs replaces the slot, with a same-cycle update applied after it. -/
  | spireAmaxWrite (n : Fin 288) (slot : Fin 64) (v : Word) (update : Option (BitVec 32 × Bool))
  /-- R119: The data mover copies INNER_BYTES per row over ROWS and PLANES. -/
  | copy (n : Fin 288) (retries : Nat) (stop : Option Nat) (ecc : EccFinds)
  /-- R119: The data mover fills rows with the 8-byte pattern. -/
  | fill (n : Fin 288) (retries : Nat) (stop : Option Nat)
  /-- R121: The data mover gathers COUNT indexed elements into a contiguous destination. -/
  | gather (n : Fin 288) (retries : Nat) (stop : Option Nat) (ecc : EccFinds)
  /-- R119: The data mover scatters COUNT contiguous elements to indexed addresses, with the last repeated index winning. -/
  | scatter (n : Fin 288) (retries : Nat) (stop : Option Nat) (ecc : EccFinds)
  /-- R112: A mover descriptor completes once all its writes are performed at home, and the next queued descriptor is taken. -/
  | moverDescriptorComplete (n : Fin 288)
  /-- R133: The tensor engine computes D = A × Bᵀ (+ C) per batch on the narrow or wide path. -/
  | gemm (n : Fin 288) (retries : Nat) (bad : List Nat) (ecc : EccFinds)
  /-- R141: The tensor engine computes an implicit GEMM over a 2-D field. -/
  | stencil (n : Fin 288) (retries : Nat) (bad : List Nat) (ecc : EccFinds)
  /-- R140: The tensor engine computes a Q64 GEMM by sliced integer products into 160-bit accumulators. -/
  | q64Gemm (n : Fin 288) (retries : Nat) (bad : List Nat) (ecc : EccFinds)
  /-- R133: The tensor engine rounds an array of ACC128 accumulators to OUT_FMT. -/
  | round (n : Fin 288) (ecc : EccFinds)
  /-- R142: The tensor engine locks a region, checks its CRC-64 and seals it as a resident context. -/
  | ctxSeal (n : Fin 288) (ecc : EccFinds)
  /-- R144: The tensor engine releases a resident context. -/
  | ctxDrop (n : Fin 288)
  /-- R148: A tensor descriptor completes with the first applicable status, and the next queued descriptor is taken. -/
  | tensorDescriptorComplete (n : Fin 288) (cycles : Nat)
  /-- R172: SV.CFG sets element width, span and F16 type and sets VL. -/
  | svCfg (n : Fin 288) (rd rs1 rs2 : Fin 32)
  /-- R175: SV.BCAST writes a scalar into every element. -/
  | svBcast (n : Fin 288) (wd rs1 : Fin 32)
  /-- R175: SV.EXT moves one element into an integer register. -/
  | svExt (n : Fin 288) (rd ws rs2 : Fin 32)
  /-- R175: SV.PERM permutes elements by an index group. -/
  | svPerm (n : Fin 288) (wd ws1 ws2 : Fin 32)
  /-- R176: SV.LD loads VL elements at unit stride. -/
  | svLd (n : Fin 288) (res : Fin 3) (wd rs1 : Fin 32) (ecc : EccFinds)
  /-- R177: SV.ST stores VL elements at unit stride in ascending order. -/
  | svSt (n : Fin 288) (res : Fin 3) (ws rs1 : Fin 32)
  /-- R178: SV.LSEGn loads VL records of n fields into n groups. -/
  | svLseg (n : Fin 288) (nf res : Fin 3) (wd rs1 : Fin 32) (ecc : EccFinds)
  /-- R178: SV.SSEGn interleaves n groups into records in memory. -/
  | svSseg (n : Fin 288) (nf res : Fin 3) (ws rs1 : Fin 32)
  /-- R179: SV.GTH gathers elements at indexed addresses. -/
  | svGth (n : Fin 288) (res : Fin 3) (wd rs1 wi : Fin 32) (ecc : EccFinds)
  /-- R179: SV.SCT scatters elements to indexed addresses in ascending order. -/
  | svSct (n : Fin 288) (res : Fin 3) (ws rs1 wi : Fin 32)
  /-- R175: SV.ADD, SV.SUB and SV.MUL perform modular integer arithmetic. -/
  | svAddSubMul (n : Fin 288) (k res : Fin 3) (scalar : Bool) (wd ws1 r2 : Fin 32)
  /-- R175: SV.MIN, SV.MAX, SV.MINU and SV.MAXU take signed or unsigned extremes. -/
  | svMinMax (n : Fin 288) (mx sgn : Bool) (res : Fin 3) (scalar : Bool) (wd ws1 r2 : Fin 32)
  /-- R175: SV.AND, SV.OR and SV.XOR perform bitwise operations. -/
  | svAndOrXor (n : Fin 288) (k res : Fin 3) (scalar : Bool) (wd ws1 r2 : Fin 32)
  /-- R175: SV.SLL, SV.SRL and SV.SRA shift elements. -/
  | svSllSrlSra (n : Fin 288) (k res : Fin 3) (scalar : Bool) (wd ws1 r2 : Fin 32)
  /-- R183: SV.FADD, SV.FSUB and SV.FMUL perform IEEE operations with one rounding. -/
  | svFaddFsubFmul (n : Fin 288) (k res : Fin 3) (scalar : Bool) (wd ws1 r2 : Fin 32)
  /-- R183: SV.FMACC computes wd + ws1 × ws2 with one rounding. -/
  | svFmacc (n : Fin 288) (res : Fin 3) (scalar : Bool) (wd ws1 r2 : Fin 32)
  /-- R183: SV.FMIN and SV.FMAX take float extremes with NaN and zero ordering rules. -/
  | svFminFmax (n : Fin 288) (mx : Bool) (res : Fin 3) (scalar : Bool) (wd ws1 r2 : Fin 32)
  /-- R185: SV.CVT converts elements between formats and updates the named amax slot. -/
  | svCvt (n : Fin 288) (res : Fin 3) (wd ws rs2 : Fin 32)
  /-- R186: SV.MXCVT converts source elements into microscaling blocks and scales. -/
  | svMxcvt (n : Fin 288) (res : Fin 3) (wd ws rs2 : Fin 32)
  /-- R186: SV.MXEXP expands microscaling blocks using VEC_SCALE. -/
  | svMxexp (n : Fin 288) (res : Fin 3) (wd ws rs2 : Fin 32)
  /-- R184: An integer reduction combines elements pairwise into an integer register. -/
  | svRsumRminRmax (n : Fin 288) (k res : Fin 3) (rd ws : Fin 32)
  /-- R184: A float reduction combines elements pairwise with rounding at each level. -/
  | svFrsumFrminFrmax (n : Fin 288) (k res : Fin 3) (rd ws : Fin 32)
  /-- R189: A short-vector unit powers down after 256 cycles without an instruction. -/
  | svPowerDown (n : Fin 288)
  /-- R189: A Dome long-vector unit powers down after 256 Dome cycles without a vector instruction. -/
  | longVectorPowerDown (h : Fin 64)
  /-- R193: PKST stores a 64-byte packet to a Command Port slot as one submission. -/
  | pkst (h : Fin 64) (rs1 rs2 : Fin 32) (far : Vector (BitVec 8) 64) (mark dead refused : Bool)
  /-- R192: D.TWAIT stalls the Dome hart until step time is at or past rs1. -/
  | dTwait (h : Fin 64) (rs1 : Fin 32)
  /-- R192: Step time reaches the target of a waiting D.TWAIT, and the hart continues. -/
  | dTwaitExpiry (h : Fin 64)
  /-- R192: D.TIME returns step time from the Dome replica and is refused in the Exact and Sealed profiles. -/
  | dTime (h : Fin 64) (rd : Fin 32) (now : Nat)
  /-- R247: A Dome-hart load or store goes through its cache or, through a fabric slot, to a remote home. -/
  | domeLoadStore (h : Fin 64) (store fp : Bool) (size : Fin 4) (sgn : Bool) (rd rs1 rs2 : Fin 32) (imm : Fin 4096)
      (ecc : EccFind)
  /-- R248: A Dome AMO executes in the Dome cache, or as a memory-side operation for a fabric address. -/
  | domeAmo (h : Fin 64) (op : AmoOp) (wide : Bool) (rd rs1 rs2 : Fin 32) (mres : Fin 3) (ecc : EccFind)
  /-- R191: A Dome vector memory instruction runs and records a faulting element in vstart. -/
  | domeVectorMemory (h : Fin 64) (store : Bool) (addr : VAddr) (eew : Fin 4) (nf : Fin 8) (vm : Bool) (vd rs1 rs2 : Fin 32) (data : List (Byte × Bool)) (dead refused : List Nat) (ecc : EccFinds)
  /-- R201: The Solver Engine computes an exact Q64 dot product. -/
  | dot (t : Fin 16) (retries : Nat) (fail : Bool) (ecc : EccFinds)
  /-- R201: The Solver Engine computes X = ALPHA × A + B. -/
  | axpy (t : Fin 16) (retries : Nat) (fail : Bool) (ecc : EccFinds)
  /-- R201: The Solver Engine multiplies a CSR matrix by a vector. -/
  | spmv (t : Fin 16) (retries : Nat) (fail : Bool) (ecc : EccFinds)
  /-- R208: The Solver Engine solves a dense triangle or a factor set. -/
  | trsolve (t : Fin 16) (retries : Nat) (fail : Bool) (ecc : EccFinds)
  /-- R207: The Solver Engine computes a Cholesky factorisation into the non-current slot. -/
  | chol (t : Fin 16) (retries : Nat) (fail : Bool) (ecc : EccFinds)
  /-- R207: The Solver Engine computes an LDLᵀ factorisation. -/
  | ldlt (t : Fin 16) (retries : Nat) (fail : Bool) (ecc : EccFinds)
  /-- R207: The Solver Engine computes an LU factorisation with partial pivoting. -/
  | lu (t : Fin 16) (retries : Nat) (fail : Bool) (ecc : EccFinds)
  /-- R205: The Solver Engine computes a Householder QR factorisation. -/
  | qr (t : Fin 16) (retries : Nat) (fail : Bool) (ecc : EccFinds)
  /-- R209: The Solver Engine runs conjugate gradients. -/
  | cg (t : Fin 16) (n retries : Nat) (fail : Bool) (ecc : EccFinds)
  /-- R210: The Solver Engine runs stabilised biconjugate gradients. -/
  | bicgstab (t : Fin 16) (n retries : Nat) (fail : Bool) (ecc : EccFinds)
  /-- R211: The Solver Engine runs restarted GMRES(m). -/
  | gmres (t : Fin 16) (n retries : Nat) (fail : Bool) (ecc : EccFinds)
  /-- R220: The SOLVE command starts a command solve on a terrace's Solver Engine. -/
  | solve
  /-- R213: A SOLVE command's deadline arrives, and the engine stops and ends as Table 9.7 gives. -/
  | solveDeadline (t : Fin 16) (warm : Bool) (cycles : Nat)
  /-- R217: A solve ends at its first stopping condition or success and writes its result record. -/
  | solveComplete (t : Fin 16) (cycles : Nat)
  /-- R237: A memory-side ADD applies to its element or line at the home. -/
  | mopAdd (engine : Fin 24) (a : Nat) (ty : Fin 8) (fetch line : Bool) (v : Bytes) (retries : Nat) (bad : List Nat) (ecc : EccFinds)
  /-- R236: A memory-side MIN or MAX applies at the home. -/
  | mopMinMax (engine : Fin 24) (a : Nat) (mx : Bool) (ty : Fin 8) (fetch line : Bool) (v : Bytes) (retries : Nat) (bad : List Nat) (ecc : EccFinds)
  /-- R236: A memory-side unsigned MIN or MAX applies at the home. -/
  | mopMinuMaxu (engine : Fin 24) (a : Nat) (mx : Bool) (ty : Fin 8) (fetch line : Bool) (v : Bytes) (retries : Nat) (bad : List Nat) (ecc : EccFinds)
  /-- R236: A memory-side bitwise operation applies at the home. -/
  | mopAndOrXor (engine : Fin 24) (a : Nat) (op : Fin 3) (ty : Fin 8) (fetch line : Bool) (v : Bytes) (ecc : EccFinds)
  /-- R236: A memory-side SWAP writes the operand and returns the old value. -/
  | mopSwap (engine : Fin 24) (a : Nat) (ty : Fin 8) (v : Bytes) (ecc : EccFinds)
  /-- R236: A memory-side CAS replaces the element when it equals the compare value and returns the old value. -/
  | mopCas (engine : Fin 24) (a : Nat) (ty : Fin 8) (v : Bytes) (ecc : EccFinds)
  /-- R232: A write of 1 to CIST_PIN_CTRL.ARM reads and checks the pinned list and replaces or arms the pinned set. -/
  | cistPinArm (count : Nat)
  /-- R232: A write of 1 to CIST_PIN_CTRL.DISARM cancels the armed pinned set unless it is too late. -/
  | cistPinDisarm
  /-- R233: The background fill of a live pinned set ends and FILLING clears. -/
  | pinnedFillComplete (ordinary : List Nat)
  /-- R242: Background scrub reads a tier line, writing back corrected data or poisoning an uncorrectable line. -/
  | scrubAccess (line : Nat) (find : ScrubFind) (last : Bool)
  /-- R242: A write to MEM_SCRUB sets scrub enable and period, with a period of 0 taken as 1. -/
  | memScrubWrite (enable : Bool) (period : Fin 256)
  /-- R252: A READ request arrives at the home and is performed and replied to. -/
  | fabricRead (p : Bytes) (at10 : Nat) (ecc : EccFinds)
  /-- R257: A WRITE request arrives at the home and is applied once through the replay window. -/
  | fabricWrite (p : Bytes) (poison at10 : Nat)
  /-- R257: A MOP request arrives at the home and is queued on its line through the replay window. -/
  | fabricMop (p : Bytes) (at10 retries : Nat) (bad : List Nat) (ecc : EccFinds)
  /-- R267: A BULK_GET fetches a 4 KiB block for a Weir read block. -/
  | fabricBulkGet (p : Bytes) (at10 : Nat) (ecc : EccFinds)
  /-- R268: A BULK_PUT applies a Weir put block under its byte mask. -/
  | fabricBulkPut (p : Bytes) (poison at10 : Nat)
  /-- R255: An ACK carries ACK_SEQ to the home, which frees acknowledged replay entries. -/
  | fabricAck (p : Bytes) (at10 : Nat)
  /-- R250: A reply reaches its source, which checks it and completes, backs off or reports the outcome. -/
  | fabricReplyArrival (p : Bytes) (poison at10 : Nat)
  /-- R256: At 1/4, 2/4 and 3/4 of the dead-target bound, unreplied requests are retransmitted with RETRY set. -/
  | requestRetransmit (tag : Nat)
  /-- R260: A request without a reply at the dead-target bound concludes as TARGET_DEAD or ATOMIC_INDETERMINATE. -/
  | deadTargetBound (tag : Nat)
  /-- R259: After WAIT_NS the source resends from the refused write-type request. -/
  | backoffResend (engine : Fin 24) (dest : Fin 32768) (at10 : Nat)
  /-- R255: A source with no other traffic to a destination sends an ACK within 20 µs of a reply. -/
  | ackTimer (engine : Fin 24) (dest : Fin 32768)
  /-- R258: A home frees a source record and its entries after 1 ms without a request from that source. -/
  | sourceRecordExpiry (src : Fin 1048576) (at10 : Nat)
  /-- R260: A write to FAB_DEAD_BOUND is clamped to 4–250 µs and applies to later requests. -/
  | fabDeadBoundWrite (us : Fin 256)
  /-- R458: PRESENT rises on a receptacle, the insertion is counted, cable memory is read and the port trains. -/
  | cableInsert (p : Fin 10) (signal : Bool) (mem : Bytes)
  /-- R274: Training ends with the port UP, degraded, HELD or DOWN, with the corresponding event. -/
  | portTrainingEnd (p : Fin 10) (trains : List (Fin 256)) (ber : Nat) (offer : Bool) (node : Fin 32768) (port : Fin 16) (spine : Bool) (eq : Bytes)
  /-- R278: A link frame arrives and is checked, delivered in order, or discarded with a replay request. -/
  | linkFrameArrival (p : Fin 10) (seq ack : Fin 4096) (fixed : Nat) (fecFail : Bool) (crc : Nat) (data : Bytes)
  /-- R278: A replay request from the partner makes the sender replay from the named frame. -/
  | linkReplayRequest (p : Fin 10) (seq : Fin 4096)
  /-- R279: A partner that sends nothing for 10 µs makes the port retrain. -/
  | partnerSilence (p : Fin 10)
  /-- R282: An UP port loses signal, retrains at once and logs an unannounced loss. -/
  | lossOfSignal (p : Fin 10)
  /-- R281: A partner's drain notice makes the port drain its own end. -/
  | drainNotice (p : Fin 10)
  /-- R281: A draining port's replay buffer empties and the port enters DRAINED. -/
  | drainComplete (p : Fin 10)
  /-- R283: PORT_CONTROL ENABLE enables a port. -/
  | portEnable
  /-- R283: PORT_CONTROL DISABLE drains a port and powers its lanes off. -/
  | portDisable
  /-- R283: PORT_CONTROL DRAIN drains a port. -/
  | portDrain
  /-- R283: PORT_CONTROL UNDRAIN returns a DRAINED port to UP. -/
  | portUndrain
  /-- R283: PORT_CONTROL POLICY sets FEC_FORCE_STD and MODE_FLOOR for the next training. -/
  | portPolicy
  /-- R284: PORT_RETRAIN drains and retrains a port and completes with its mode. -/
  | portRetrain
  /-- R287: A router looks up a packet in its route set and forwards it, or discards it as unreachable. -/
  | transitPacket (tag : Fin 65536) (ver : Fin 16) (dest src : Fin 32768) (chunk : Bool) (data : Bytes)
  /-- R292: FABRIC_PLAN_LOAD install checks a plan and installs its route sets and relay entries all or nothing. -/
  | fabricPlanInstall
  /-- R292: FABRIC_PLAN_LOAD remove removes every route set and relay entry of a JOB_TAG. -/
  | fabricPlanRemove
  /-- R295: ROUTE_SWAP binds a route version change to the first boundary at least 10 µs after acceptance. -/
  | routeSwap
  /-- R302: A collective BROADCAST writes the root's source to every member. -/
  | broadcast (g : Fin 16)
  /-- R302: A collective REDUCE writes the element-wise reduction to the root. -/
  | reduce (g : Fin 16) (res : Fin 3)
  /-- R304: A collective ALLREDUCE writes the reduction to every member. -/
  | allreduce (g : Fin 16) (res : Fin 3)
  /-- R302: A collective ALLGATHER writes each member's source into every member's destination. -/
  | allgather (g : Fin 16)
  /-- R302: A collective REDUCE_SCATTER writes block i of the reduction to member i. -/
  | reduceScatter (g : Fin 16) (res : Fin 3)
  /-- R302: A collective BARRIER completes once every member has started the invocation. -/
  | collectiveBarrier (g : Fin 16) (others : Bool)
  /-- R312: A DATA chunk arrives and is used, held for the next invocation, or discarded as stale. -/
  | dataChunk (node : Fin 32768) (p : Bytes) (res : Fin 3)
  /-- R313: A TOKEN arrives, and its chunk commits when RESULT_CHECK matches. -/
  | token (node : Fin 32768) (p : Bytes)
  /-- R311: An ACK releases the sender's retained copy of a chunk. -/
  | chunkAck (field : Bool) (node : Fin 32768) (p : Bytes)
  /-- R311: A CREDIT lets the sender put another chunk in flight on the link. -/
  | credit (p : Bytes)
  /-- R310: A REFETCH makes the holder resend its retained chunk, or aborts after the fourth failure. -/
  | refetch (field : Bool) (node : Fin 32768) (p : Bytes)
  /-- R315: An ABORT ends the invocation at the member, which forwards it once and discards staging. -/
  | abort (node : Fin 32768) (p : Bytes)
  /-- R322: A DONE at the root of a JOB_BROADCAST sets the member's bit in the bitmap. -/
  | done (p : Bytes)
  /-- R321: A spare parent that lists the sender in ADOPTEE accepts it and sends chunks from the named index. -/
  | adopt (p : Bytes)
  /-- R321: A LOST message reports a lost member or parent to the root. -/
  | lost (p : Bytes)
  /-- R311: A chunk without ACK is resent at 1/4, 2/4 and 3/4 of the dead-target bound. -/
  | chunkResend (field : Bool) (g : Fin 16) (link : Fin 17) (entry : Fin 4096) (key : Nat)
  /-- R311: A chunk without ACK at the dead-target bound ends the invocation with TARGET_DEAD. -/
  | chunkAckTimeout (field : Bool) (g : Fin 16) (link : Fin 17) (entry : Fin 4096)
  /-- R321: A JOB_BROADCAST member without chunks from its parent for REPARENT_US re-parents, or a parent drops a silent child. -/
  | reparentTimeout (g : Fin 16) (link : Fin 17)
  /-- R322: The JOB_BROADCAST root completes with PARTIAL at its deadline or after 64 × REPARENT_US without progress. -/
  | broadcastRootTimeout (g : Fin 16)
  /-- R320: JOB_BROADCAST sends an image down a TREE group with verified commits and re-parenting. -/
  | jobBroadcast
  /-- R301: A write of 1 to COLL_INSTALL.ARM reads and checks a group plan and makes it live or arms it. -/
  | collInstallArm (slot : Fin 16) (addr : Fin 281474976710656)
  /-- R318: A write to COLL_FIELD_WEIGHT sets the field quantum multiplier, with 0 taken as 1. -/
  | collFieldWeightWrite (w : Fin 256)
  /-- R328: CKPT_POLICY sets the checkpoint triggers, reflection region and store from the next boundary. -/
  | ckptPolicy
  /-- R331: CKPT_NOW makes a checkpoint pending and completes with its outcome. -/
  | ckptNow
  /-- R344: CKPT_STATUS replies with the checkpoint status and progress registers. -/
  | ckptStatus
  /-- R334: The checkpoint engines finish copying every granule, and the guard is released. -/
  | reflectionCopyDone
  /-- R339: An NVMe Write, Read or Flush completion advances the drain or restore in Table 14.4 order. -/
  | storeIoCompletion (item : Nat) (good : Bool) (data : Bytes)
  /-- R342: No storage path to a target for DRAIN_TIMEOUT_MS ends the drain with STORE_UNREACHABLE. -/
  | drainTimeout
  /-- R347: RESTORE reads and verifies every manifest and shard before copying them to their destinations. -/
  | restore
  /-- R347: The restore copy from the reflection region ends, and RESTORE completes. -/
  | restoreCopyDone
  /-- R349: JOB_SHRINK cancels checkpoints, halts terraces, loads and arms a variant and restores lost members' state. -/
  | jobShrink
  /-- R350: If the restore has not completed 10 µs before E, JOB_SHRINK disarms its swaps and completes with DEADLINE_MISSED. -/
  | shrinkDeadline
  /-- R368: NODE_INFO returns a page of node information or the defect map. -/
  | nodeInfo
  /-- R400: READ_STAGE_REPORTS returns a stage report of the current or an earlier bring-up. -/
  | readStageReports
  /-- R382: KEEP_READ returns bytes of a Keep region. -/
  | keepRead
  /-- R382: KEEP_WRITE commits bytes into the defect map or site record. -/
  | keepWrite
  /-- R385: MARGIN_SURVEY queues survey parts per terrace or completes from background measurements. -/
  | marginSurvey
  /-- R391: MARGIN_REPLAN builds, stores and applies a new margin plan. -/
  | marginReplan
  /-- R385: SELF_TEST queues self-test parts per terrace. -/
  | selfTest
  /-- R384: READ_AGEING_LOG returns an ageing-log record. -/
  | readAgeingLog
  /-- R369: JOB_ADMIT checks and installs a job's plan, windows, groups and variants all or nothing and brings its terraces to ON. -/
  | jobAdmit
  /-- R370: JOB_RELEASE cancels checkpoints and recording and, at the next boundary, stops and removes the job. -/
  | jobRelease
  /-- R442: ATTEST forms and signs the attestation log. -/
  | attest
  /-- R436: FW_STAGE in mode 0 writes an image from memory into the non-current firmware slot. -/
  | fwStageLocal
  /-- R436: FW_STAGE in mode 1 programs one piece of an image into the non-current slot. -/
  | fwStagePiece
  /-- R436: A mode 1 staging that receives no piece for 60 s is cancelled. -/
  | fwStageTimeout
  /-- R437: FW_ACTIVATE commits a staged slot as current, with an immediate full reset when WHEN is 1. -/
  | fwActivate
  /-- R439: IDENTITY_READ returns a page of the identity record or the last attestation log. -/
  | identityRead
  /-- R448: KEY_ROTATE with WHICH 0 generates and commits a new session key pair and closes every session. -/
  | keyRotateNew
  /-- R448: KEY_ROTATE with WHICH 1 erases the session key pair. -/
  | keyRotateErase
  /-- R428: RECORD_START begins recording of the chosen classes into a deep-tier ring. -/
  | recordStart
  /-- R428: RECORD_STOP ends recording and reports the counts. -/
  | recordStop
  /-- R431: REPLAY resubmits recorded commands and compares arrivals and digests step by step. -/
  | replay
  /-- R368: PANEL_STATE returns the PANEL_ register values. -/
  | panelState
  /-- R459: PORT_RELEASE drains a port as a latch warning would and completes when it is DRAINED. -/
  | portRelease
  /-- R402: RESET_SCOPE with SCOPE 0 resets one terrace's compute units. -/
  | terraceComputeReset
  /-- R402: RESET_SCOPE with SCOPE 1 resets one Tower die's terraces and relocks its clock. -/
  | towerDieComputeReset
  /-- R402: RESET_SCOPE with SCOPE 2 resets both Tower dies and the Dome harts. -/
  | nodeComputeReset
  /-- R409: RESET_SCOPE with SCOPE 3 resets the whole module, which brings up again from B0. -/
  | fullModuleReset
  /-- R407: A partial reset ends, its units are released in reset state and its sequencers wait for the next boundary. -/
  | partialResetEnd
  /-- R357: The reply to a forwarded command arrives and becomes the slot's reply. -/
  | remoteReplyArrival (k : Fin 1024) (reply : Vector (BitVec 8) 64)
  /-- R357: A forwarded command without a reply within the dead-target bound gets TARGET_DEAD in its slot. -/
  | remoteReplyTimeout (k : Fin 1024)
  /-- R357: A forwarded command's completion record arrives and is written to the submitting channel's ring. -/
  | remoteRecordArrival (node : Fin 32768) (data : Vector (BitVec 8) 64)
  /-- R357: Every 1 ms the node probes the target of each outstanding remote handle and writes TARGET_DEAD records for dead ones. -/
  | remoteProbe (dead : List (Fin 32768))
  /-- R363: A write of 1 to ENABLE of a command ring sets HEAD and TAIL to 0 and releases held records. -/
  | nodeCmdRingCtrlWrite (c : Fin 16) (v : BitVec 64)
  /-- R363: A write that advances TAIL lets waiting completion records be written to the ring. -/
  | nodeCmdRingTailWrite (c : Fin 16) (tail : BitVec 32)
  /-- R364: An unacknowledged management record is sent again every 100 ms and dropped after 50 sends. -/
  | recordResend (k : Nat)
  /-- R446: A CLIENT_HELLO from an authorised operator opens a session with a NODE_HELLO. -/
  | clientHello (client : Nat) (msg : Bytes)
  /-- R364: An inner ACK message acknowledges a management record. -/
  | ack (sid counter client : Nat) (auth : Bool) (kind : Fin 4) (handle tag : BitVec 32)
  /-- R464: An inner KEEPALIVE is answered with a KEEPALIVE. -/
  | keepalive (sid counter client : Nat) (auth : Bool)
  /-- R447: A session closes after 300 s without an authenticated datagram, after 24 h or after 2³² datagrams. -/
  | sessionTimeout (sid : Nat)
  /-- R376: A NOR erase or program ends, and the Keep update moves to its next ordered step. -/
  | norOperationDone (op : NorOp) (good : Bool)
  /-- R375: Every 900 s of power-on time the node writes a COUNTER record to the journal. -/
  | counterRecordTimer (sec : BitVec 32)
  /-- R375: Every 1,000 hours of power-on time the counter set is folded into the Counters region. -/
  | counterFold (sec : BitVec 32)
  /-- R378: The input falls below 38 V, the Gatehouse writes one COUNTER record and stops, and the compute dies go down. -/
  | powerFail
  /-- R473: After the input has been at 40 V or above for 100 ms, standby restarts and a bring-up begins if MAIN_EN is high. -/
  | standbyRestart (a b main : Bool)
  /-- R473: The input falls below 40 V but stays at or above 38 V, and LOW is set. -/
  | inputLow
  /-- R473: One feed falls below 38 V while the other holds, and FEED_LOST is set. -/
  | feedLost (b high : Bool)
  /-- R395: A bring-up stage passes or fails, writes its report and starts the next stage, a restart or a hold. -/
  | stageComplete (k : Fin 11) (elapsed : BitVec 32) (good torn : Bool) (found : BitVec 16) (mask : BitVec 128) (good0 good1 : BitVec 160)
  /-- R395: A stage that does not end within its maximum time fails. -/
  | stageTimeout
  /-- R410: No firmware heartbeat for 1 s causes a full module reset with cause 2. -/
  | watchdogExpiry
  /-- R388: A survey or self-test part ends, appends its records and completes its request after the last part. -/
  | surveyPartEnd (t : Fin 16) (m1 mRate : BitVec 16) (ro : BitVec 32) (worst : Fin 16) (temp : BitVec 16) (failing : Bool)
  /-- R387: A survey or self-test whose DEADLINE passes with parts not run completes with NO_WINDOW. -/
  | surveyDeadline (handle : Nat)
  /-- R426: A Sealed twin that waits 20 µs without its partner diverges the pair. -/
  | twinTimeout (k : Nat)
  /-- R453: A press of the service button opens a removal request and drains ports once no job is admitted. -/
  | buttonPress
  /-- R455: A hold of 5 s cancels a pending request, undrains ports and resumes Keep updates. -/
  | buttonCancel
  /-- R456: LATCH rises while PRESENT is 1, and the node drains the port. -/
  | latchWarning (p : Fin 10)
  /-- R456: A latch released for 2 s with the cable still present returns the port to UP or trains it. -/
  | latchReleaseTimeout (p : Fin 10)
  /-- R458: PRESENT falls, and the port goes to WAIT after a warning or is handled as an unannounced loss otherwise. -/
  | cableRemove (p : Fin 10)
  /-- R466: A private write with FUNCTION 0x01 submits a command on the tray service bus. -/
  | tsbCommand (packet : Bytes)
  /-- R466: A private write with FUNCTION 0x02 selects the reply of the last command. -/
  | tsbReplySelect
  /-- R466: A private write with FUNCTION 0x03 selects the oldest queued record. -/
  | tsbRecordSelect
  /-- R467: A 64-byte read of a selected record removes it from the queue. -/
  | tsbRecordRead (n : Fin 65)
  /-- R465: The RSTDAA CCC resets the dynamic address. -/
  | rstdaa
  /-- R465: The SETDASA CCC assigns the dynamic address from the static address. -/
  | setdasa (static_ dyn : Fin 128)
  /-- R465: The ENEC CCC enables in-band interrupts. -/
  | enec (events : Fin 256)
  /-- R465: The DISEC CCC disables in-band interrupts. -/
  | disec (events : Fin 256)
  /-- R465: The GETSTATUS CCC returns target status. -/
  | getstatus
  /-- R465: The GETBCR CCC returns the bus characteristics register. -/
  | getbcr
  /-- R465: The GETDCR CCC returns the device characteristics register. -/
  | getdcr
  /-- R465: The GETMWL CCC returns the maximum write length. -/
  | getmwl
  /-- R465: The GETMRL CCC returns the maximum read length. -/
  | getmrl
  /-- R465: The SETMWL CCC sets the maximum write length. -/
  | setmwl (n : Fin 65536)
  /-- R465: The SETMRL CCC sets the maximum read length. -/
  | setmrl (n : Fin 65536)
  /-- R461: A Router Advertisement forms the management port's global address by SLAAC. -/
  | routerAdvertisement (pfx : Bytes) (len : Fin 129) (auto : Bool) (life : BitVec 32)
  /-- R461: A Neighbour Discovery message is answered on the management port. -/
  | neighbourDiscovery (target src : Bytes)
  /-- R461: An ICMPv6 echo request is answered on the management port. -/
  | icmpv6Echo (dst src data : Bytes)
  /-- R460: The 25GBASE-R management link goes up or down. -/
  | mgmtLinkChange (up : Bool)
  /-- R474: MAIN_EN goes high with standby good, and stage B0 begins. -/
  | mainEnRise
  /-- R475: MAIN_EN goes low, and the compute dies power down in reverse order. -/
  | mainEnFall
  /-- R468: A low pulse of TRAY_RESET_N of 1 ms or more starts a full module reset with cause 4. -/
  | trayResetPulse
  /-- R477: Every 100 µs each die and device temperature sensor is read. -/
  | temperatureSample (tower0 tower1 dome aqueduct : BitVec 8) (memory : Vector (BitVec 8) 8) (packages : Vector (BitVec 8) 16)
  /-- R478: Every 100 µs while a Tower die is above 100 °C, G falls by 8 until both dies are at or below 97 °C. -/
  | thermalBackstopStep
  /-- R280: Partner signal appears on an enabled port that waits in WAIT with its cable present, and the port starts training. -/
  | partnerSignal (p : Fin 10)
  /-- R473: A feed that had fallen below 38 V rises back to 38 V or above, and its FEED_x_OK bit is set again. -/
  | feedRestored (b : Bool)
  /-- R473: The input rises from the 38–40 V band back to 40 V or above, and NODE_SUPPLY.LOW clears. -/
  | inputRestored
  /-- R483: RTB_REF edges return within range after an absence, and TB_STATUS.REF_LOST clears. -/
  | rtbRefRestored
  /-- R474: The input first reaches 40 V, the standby rails come into regulation and the Gatehouse ROM starts. -/
  | standbyPowerApplied (a b main : Bool)
  /-- R383: A background retention sweep of a stack or package completes and updates its RET_MS. -/
  | retentionSweepComplete (m : Fin 24) (ms : BitVec 32) (temp : BitVec 16)
  /-- R383: The background second sampler of an UP port measures eye height and width and updates AGE_EYEn. -/
  | eyeMonitorSample (p : Fin 10) (heights widths : Bytes) (temp : BitVec 16)
  /-- R456: The debounced LATCH of a receptacle falls, which updates PANEL_CABLES.LATCH and starts the 2 s release timer. -/
  | latchRelease (p : Fin 10)
  /-- R263: A ticket's reserved queue place is released when its resend has not arrived 2 µs after its due time. -/
  | ticketReservationExpiry (line : Nat) (src : Fin 1048576) (seq : Fin 4294967296) (at10 : Nat)
  /-- R431: During REPLAY, the node submits a recorded COMMAND at its recorded time shifted by Δ steps. -/
  | replayCommandSubmit
  /-- R464: An authenticated management datagram carries an inner COMMAND message, which is deduplicated and submitted on the management channel. -/
  | mgmtCommand (sid counter client : Nat) (auth : Bool) (packet : Bytes)
  /-- R357: A command packet forwarded by another node arrives at this node's Gatehouse and is checked and run on the fabric channel. -/
  | fabricCommandPacket (src : Fin 32768) (jobTag : BitVec 16) (packet : Bytes)
  /-- R171: A spire-core CSR instruction reads or writes VEC_FAULT_IDX, VEC_SCALE or VEC_FLAGS, for example to clear a sticky flag or to abandon a faulted instruction. -/
  | spireCsrAccess (n : Fin 288) (op : Fin 3) (imm : Bool) (csr : Fin 4096) (rd rs1 : Fin 32)
  /-- R159: A Dome-hart floating-point instruction or frm/fcsr access executes, with rm values 0b001 to 0b110 raising illegal instruction and frm writes ignored. -/
  | domeFloatInstruction (h : Fin 64) (op : FloatOp) (fm : FFmt) (rm : Fin 8) (rd rs1 rs2 rs3 : Fin 32)
  /-- R190: A Dome-hart vector arithmetic or reduction instruction executes with the choices of R190, such as ordered vfredusum and fixed vxrm. -/
  | domeVectorInstruction (h : Fin 64) (op : VecOp) (form : VForm) (vm : Bool) (vd vs1 vs2 : Fin 32)
  deriving DecidableEq, Repr

end Sys2Proof
end

