-- ==== Sys2Proof/Decode.lean ====
section
/-! DEFINITION. Words of commands. Commands of this node arrive as packets, register writes, arrivals and events, none of
which spec/opcode_table.json gives bits, so no word spells one (log entry 1). -/

namespace Sys2Proof

/-- The command a word spells by the table's bits: the table gives no row any bits.
Details: DESIGN CHOICE, log entry 1. -/
def decodeTableWord (_nbits _w : Nat) : Option Instr := none

end Sys2Proof
end

