-- ==== Sys2Proof/Machine/Bits.lean ====
section
/-! DEFINITION. Bit fields, byte order, sign extension, saturation, and the keyed lists that hold sparse state. -/

namespace Sys2Proof.Machine

open Sys2Proof

/-- Bits [lo + w - 1 : lo] of a number. -/
def bits (v lo w : Nat) : Nat := (v >>> lo) % 2 ^ w

/-- A number with bits [lo + w - 1 : lo] replaced by x modulo 2^w. -/
def setBits (v lo w x : Nat) : Nat :=
  v - (bits v lo w) <<< lo + (x % 2 ^ w) <<< lo

/-- Bit i of a number. -/
def bit (v i : Nat) : Bool := v.testBit i

/-- A Boolean as a bit. -/
def b2n (b : Bool) : Nat := if b then 1 else 0

/-- The little-endian value of a byte string (R6). -/
def leNat : Bytes → Nat
  | [] => 0
  | b :: bs => b.toNat + 256 * leNat bs

/-- The n-byte little-endian form of a number (R6). -/
def natLE : Nat → Nat → Bytes
  | 0, _ => []
  | n + 1, v => BitVec.ofNat 8 v :: natLE n (v / 256)

/-- The n-byte field at byte offset off of a byte string, little-endian; bytes beyond the string read 0. -/
def fld (bs : Bytes) (off n : Nat) : Nat := leNat ((bs.drop off).take n)

/-- The n bytes at offset off of a byte string, 0 beyond its end. -/
def sub (bs : Bytes) (off n : Nat) : Bytes :=
  let p := (bs.drop off).take n
  p ++ List.replicate (n - p.length) 0

/-- A byte string written over bytes [off, off + length) of another. -/
def patch (bs : Bytes) (off : Nat) (new : Bytes) : Bytes :=
  sub bs 0 off ++ new ++ bs.drop (off + new.length)

/-- n zero bytes. -/
def zeros (n : Nat) : Bytes := List.replicate n 0

/-- Whether every byte is zero. -/
def allZero (bs : Bytes) : Bool := bs.all (· == 0)

/-- The two's complement value of the low w bits. -/
def signed (w v : Nat) : Int :=
  let u := v % 2 ^ w
  if u < 2 ^ (w - 1) then (u : Int) else (u : Int) - (2 ^ w : Nat)

/-- The low w bits of an integer. -/
def unsigned (w : Nat) (i : Int) : Nat := (i % ((2 ^ w : Nat) : Int)).toNat

/-- The low w bits of v, sign-extended to 64 bits. -/
def sext64 (w v : Nat) : Nat := unsigned 64 (signed w v)

/-- Addition that stops at the largest w-bit value. -/
def satAdd (w a b : Nat) : Nat := min (a + b) (2 ^ w - 1)

/-- Round up to a multiple. -/
def roundUp (v m : Nat) : Nat := (v + m - 1) / m * m

/-- The positions of the 1 bits among the low n bits, ascending. -/
def bitList (v n : Nat) : List Nat := (List.range n).filter (fun i => v.testBit i)

/-- The number of 1 bits among the low n bits. -/
def popcount (v n : Nat) : Nat := (bitList v n).length

/-- The number with exactly the listed bits set. -/
def maskOf : List Nat → Nat
  | [] => 0
  | i :: r => 2 ^ i ||| maskOf r

/-- A number with bit i set, or cleared. -/
def setBit (v i : Nat) (b : Bool) : Nat := setBits v i 1 (b2n b)

/-- The value at a key of a keyed list, or the default. -/
def mget {α : Type} : List (Nat × α) → Nat → α → α
  | [], _, d => d
  | (k', v) :: r, k, d => if k = k' then v else mget r k d

/-- The value at a key, if listed. -/
def mfind {α : Type} : List (Nat × α) → Nat → Option α
  | [], _ => none
  | (k', v) :: r, k => if k = k' then some v else mfind r k

/-- A keyed list with the value at a key replaced; keys are kept in rising order. -/
def mput {α : Type} : List (Nat × α) → Nat → α → List (Nat × α)
  | [], k, v => [(k, v)]
  | (k', v') :: r, k, v =>
    if k < k' then (k, v) :: (k', v') :: r
    else if k = k' then (k, v) :: r
    else (k', v') :: mput r k v

/-- A keyed list without a key. -/
def mdel {α : Type} : List (Nat × α) → Nat → List (Nat × α)
  | [], _ => []
  | (k', v') :: r, k => if k = k' then mdel r k else (k', v') :: mdel r k

/-- Insert a number into a strictly rising list. -/
def sinsert : List Nat → Nat → List Nat
  | [], k => [k]
  | k' :: r, k => if k < k' then k :: k' :: r else if k = k' then k' :: r else k' :: sinsert r k

/-- Replace element i of a list. -/
def lset {α : Type} : List α → Nat → α → List α
  | [], _, _ => []
  | _ :: r, 0, v => v :: r
  | x :: r, i + 1, v => x :: lset r i v

/-- The first failing check of a list of (condition that fails, status) pairs. -/
def firstFail : List (Bool × Nat) → Option Nat
  | [] => none
  | (c, st) :: r => if c then some st else firstFail r

/-- Whether two extents [a, a + n) and [b, b + m) share a byte. -/
def overlaps (a n b m : Nat) : Bool := a < b + m && b < a + n && 0 < n && 0 < m

end Sys2Proof.Machine
end

