-- ==== Sys2Proof/Machine/Hash.lean ====
section
/-! DEFINITION. The check functions of the node: SHA3-256 (R73, R417), CRC-8 (R47), CRC-32 (R278) and CRC-64 (R309). -/

namespace Sys2Proof.Machine

open Sys2Proof

/-! ## SHA3-256 (FIPS 202) -/

def rotl64 (v n : Nat) : Nat := ((v <<< n) ||| (v >>> (64 - n))) % 2 ^ 64

/-- Rotation offsets of rho, lane x + 5y. -/
def rhoOffsets : List Nat :=
  [0, 1, 62, 28, 27, 36, 44, 6, 55, 20, 3, 10, 43, 25, 39, 41, 45, 15, 21, 8, 18, 2, 61, 56, 14]

/-- Round constants of iota. -/
def roundConstants : List Nat :=
  [0x0000000000000001, 0x0000000000008082, 0x800000000000808A, 0x8000000080008000, 0x000000000000808B,
   0x0000000080000001, 0x8000000080008081, 0x8000000000008009, 0x000000000000008A, 0x0000000000000088,
   0x0000000080008009, 0x000000008000000A] ++
  [0x000000008000808B, 0x800000000000008B, 0x8000000000008089, 0x8000000000008003, 0x8000000000008002,
   0x8000000000000080, 0x000000000000800A, 0x800000008000000A, 0x8000000080008081, 0x8000000000008080,
   0x0000000080000001, 0x8000000080008008]

def keccakRound (a : List Nat) (rc : Nat) : List Nat :=
  let lane := fun (l : List Nat) (x y : Nat) => l.getD (x % 5 + 5 * (y % 5)) 0
  let c := (List.range 5).map (fun x => lane a x 0 ^^^ lane a x 1 ^^^ lane a x 2 ^^^ lane a x 3 ^^^ lane a x 4)
  let d := (List.range 5).map (fun x => c.getD ((x + 4) % 5) 0 ^^^ rotl64 (c.getD ((x + 1) % 5) 0) 1)
  let t := (List.range 25).map (fun i => rotl64 (a.getD i 0 ^^^ d.getD (i % 5) 0) (rhoOffsets.getD i 0))
  -- pi: B[y, 2x + 3y] = A[x, y]; lane (X, Y) of B comes from x = (X + 3Y) mod 5, y = X
  let b := (List.range 25).map (fun i => lane t (i % 5 + 3 * (i / 5)) (i % 5))
  let e := (List.range 25).map (fun i =>
    let x := i % 5
    let y := i / 5
    lane b x y ^^^ ((lane b (x + 1) y ^^^ (2 ^ 64 - 1)) &&& lane b (x + 2) y))
  match e with
  | [] => []
  | z :: r => (z ^^^ rc) :: r

def keccakF (a : List Nat) : List Nat := roundConstants.foldl keccakRound a

/-- The 17 lanes of a 136-byte block. -/
def laneWords : Nat → Bytes → List Nat
  | 0, _ => []
  | n + 1, bs => leNat (bs.take 8) :: laneWords n (bs.drop 8)

/-- Pad to whole 136-byte blocks: 0x06, zeros, and 0x80 in the last byte. -/
def sha3Pad (m : Bytes) : Bytes :=
  let k := 136 - m.length % 136
  if k = 1 then m ++ [0x86#8] else m ++ 0x06#8 :: (zeros (k - 2) ++ [0x80#8])

/-- Absorb n blocks. -/
def sha3Absorb : Nat → Bytes → List Nat → List Nat
  | 0, _, st => st
  | n + 1, bs, st =>
    let w := laneWords 17 bs ++ List.replicate 8 0
    sha3Absorb n (bs.drop 136) (keccakF (List.zipWith (· ^^^ ·) st w))

/-- SHA3-256: 32 bytes. -/
def sha3_256 (m : Bytes) : Bytes :=
  let p := sha3Pad m
  let st := sha3Absorb (p.length / 136) p (List.replicate 25 0)
  (st.take 4).flatMap (natLE 8)

/-! ## CRCs -/

/-- One bit of the CRC-8 register, polynomial x⁸ + x² + x + 1. -/
def crc8Bit (c : Nat) (b : Bool) : Nat :=
  let top := c.testBit 7 != b
  let c := (c <<< 1) % 256
  if top then c ^^^ 0x07 else c

/-- CRC-8, bytes in address order, most significant bit first, initial value 0 (R47). -/
def crc8 (bs : Bytes) : Nat :=
  bs.foldl (fun c b => [7, 6, 5, 4, 3, 2, 1, 0].foldl (fun c i => crc8Bit c (b.toNat.testBit i)) c) 0

/-- One bit of the CRC-64 register, the ECMA-182 polynomial processed reflected. -/
def crc64Bit (c : Nat) : Nat := if c % 2 = 1 then (c >>> 1) ^^^ 0xC96C5795D7870F42 else c >>> 1

/-- CRC-64 of R309: initial value and final XOR all ones, bytes in address order. -/
def crc64 (bs : Bytes) : Nat :=
  let step := fun (c : Nat) (b : Byte) =>
    crc64Bit (crc64Bit (crc64Bit (crc64Bit (crc64Bit (crc64Bit (crc64Bit (crc64Bit (c ^^^ b.toNat))))))))
  bs.foldl step (2 ^ 64 - 1) ^^^ (2 ^ 64 - 1)

/-- One bit of the CRC-32 of IEEE 802.3, least significant bit first. -/
def crc32Bit (c : Nat) : Nat := if c % 2 = 0 then c / 2 else c / 2 ^^^ 0xEDB88320

/-- The CRC-32 of IEEE 802.3 over bytes (R278): initial value and final complement of all ones. -/
def crc32 (b : Bytes) : Nat :=
  b.foldl (fun c x => (List.range 8).foldl (fun c _ => crc32Bit c) (c ^^^ x.toNat)) 0xFFFFFFFF ^^^ 0xFFFFFFFF

end Sys2Proof.Machine
end

