-- ==== Sys2Proof/Machine/Codes.lean ====
section
/-! DEFINITION. The status codes of Table 16.10, the opcodes of Table 16.9 and the event codes of Table 16.6. -/

namespace Sys2Proof.Machine

/-- Completed as requested. -/
def St.ok : Nat := 0x0000
/-- A broadcast ended without every member (R322). -/
def St.partial : Nat := 0x0001
/-- A solve started cold and succeeded (R216). -/
def St.warmRejected : Nat := 0x0002
/-- Accepted; the command waits for a QUIET window. -/
def St.noWindowYet : Nat := 0x0003
/-- Long command accepted; one completion record follows. -/
def St.accepted : Nat := 0x0004
/-- Reserved opcode. -/
def St.badOpcode : Nat := 0x1001
/-- A field or structure is malformed or out of range. -/
def St.badParam : Nat := 0x1002
/-- Privileged opcode off the tray service bus. -/
def St.notPrivileged : Nat := 0x1003
/-- Conflicting work is running, or a limit is reached. -/
def St.busy : Nat := 0x1004
/-- The opcode is excluded from this channel or job (R353, R357). -/
def St.channelRefused : Nat := 0x1005
/-- Long command on a local channel without an enabled ring. -/
def St.noRing : Nat := 0x1006
/-- A value left its analysed range (R134, R140, R196). -/
def St.rangeExceeded : Nat := 0x2001
/-- An operation marked V in the Exact or Sealed profile (R29). -/
def St.exactViolation : Nat := 0x2002
/-- No QUIET window fitted before the deadline. -/
def St.noWindow : Nat := 0x2003
/-- A spire core or data mover stopped (R107, R121). -/
def St.spireFault : Nat := 0x2004
/-- A descriptor named an unsealed context (R144). -/
def St.contextAbsent : Nat := 0x2005
/-- Zero pivot or zero D entry (R207, R208). -/
def St.singular : Nat := 0x2006
/-- Cholesky met a non-positive diagonal (R207). -/
def St.notDefinite : Nat := 0x2007
/-- MAX_ITER reached (R212). -/
def St.notConverged : Nat := 0x2008
/-- BiCGSTAB met an exact zero (R210). -/
def St.breakdown : Nat := 0x2009
/-- A chunk failed its CRC 4 times on one edge (R310). -/
def St.chunkUnrecoverable : Nat := 0x3001
/-- A digest or CRC did not match its data. -/
def St.digestMismatch : Nat := 0x3002
/-- Restore manifests of different steps (R347). -/
def St.ckptMixedSteps : Nat := 0x3003
/-- Restore manifest of another shape or member (R347). -/
def St.shapeMismatch : Nat := 0x3004
/-- Paired terraces' digests differed. -/
def St.sealedDiverged : Nat := 0x3005
/-- Poisoned data entered a result. -/
def St.poisonConsumed : Nat := 0x3006
/-- A residue check failed after its recompute. -/
def St.residueMismatch : Nat := 0x3007
/-- The target did not answer within the dead-target bound. -/
def St.targetDead : Nat := 0x4001
/-- A memory-side operation was applied once or not at all (R260). -/
def St.atomicIndeterminate : Nat := 0x4002
/-- The target's memory is in a reset or profile switch. -/
def St.nodeResetting : Nat := 0x4003
/-- A port runs below mode 0, or is DOWN or HELD (R284). -/
def St.portDegraded : Nat := 0x4004
/-- The home refused the address (Table 11.4). -/
def St.addressRefused : Nat := 0x4005
/-- No Weir window maps the address (R266). -/
def St.weirUnmapped : Nat := 0x4006
/-- Fabric replies only (R250). Never reported. -/
def St.backoff : Nat := 0x40F0
/-- Work not complete at its deadline. -/
def St.deadlineMissed : Nat := 0x5001
/-- A factorisation was abandoned; the destination is untouched (R213). -/
def St.deadlineAborted : Nat := 0x5002
/-- No valid tick for 64 steps, or a jump across a boundary (R62, R65). -/
def St.timebaseLost : Nat := 0x5003
/-- A Keep region reached its write budget. -/
def St.keepWorn : Nat := 0x6001
/-- The margin forecast fell below 6 months. -/
def St.serviceAdvised : Nat := 0x6002
/-- No storage path within DRAIN_TIMEOUT_MS (R342). -/
def St.storeUnreachable : Nat := 0x6003
/-- A storage target returned an error (R342). -/
def St.storeError : Nat := 0x6004
/-- A checkpoint fell due while another was running (R332). -/
def St.ckptOverlap : Nat := 0x6005
/-- A shrink or release cancelled a checkpoint (R342). -/
def St.ckptCancelled : Nat := 0x6006
/-- A signature failed, or its key is not trusted. -/
def St.signatureInvalid : Nat := 0x7001
/-- Firmware below the anti-rollback counter. -/
def St.rollbackRefused : Nat := 0x7002

def Op.nodeInfo : Nat := 0x0101
def Op.setProfile : Nat := 0x0102
def Op.resetScope : Nat := 0x0103
def Op.readStageReports : Nat := 0x0104
def Op.keepRead : Nat := 0x0201
def Op.keepWrite : Nat := 0x0202
def Op.marginSurvey : Nat := 0x0301
def Op.marginReplan : Nat := 0x0302
def Op.selfTest : Nat := 0x0303
def Op.readAgeingLog : Nat := 0x0304
def Op.scheduleLoad : Nat := 0x0401
def Op.scheduleArm : Nat := 0x0402
def Op.timebaseBind : Nat := 0x0403
def Op.fabricPlanLoad : Nat := 0x0501
def Op.portControl : Nat := 0x0502
def Op.routeSwap : Nat := 0x0503
def Op.portRetrain : Nat := 0x0504
def Op.jobAdmit : Nat := 0x0601
def Op.jobShrink : Nat := 0x0602
def Op.jobRelease : Nat := 0x0603
def Op.jobBroadcast : Nat := 0x0604
def Op.ckptPolicy : Nat := 0x0701
def Op.ckptNow : Nat := 0x0702
def Op.restore : Nat := 0x0703
def Op.ckptStatus : Nat := 0x0704
def Op.solve : Nat := 0x0801
def Op.attest : Nat := 0x0901
def Op.fwStage : Nat := 0x0902
def Op.fwActivate : Nat := 0x0903
def Op.identityRead : Nat := 0x0904
def Op.keyRotate : Nat := 0x0905
def Op.recordStart : Nat := 0x0A01
def Op.recordStop : Nat := 0x0A02
def Op.replay : Nat := 0x0A03
def Op.panelState : Nat := 0x0B01
def Op.portRelease : Nat := 0x0B02

/-- Every opcode of Table 16.9. -/
def Op.all : List Nat := [0x0101, 0x0102, 0x0103, 0x0104, 0x0201, 0x0202, 0x0301, 0x0302, 0x0303, 0x0304, 0x0401, 0x0402, 0x0403, 0x0501, 0x0502, 0x0503, 0x0504, 0x0601, 0x0602, 0x0603, 0x0604, 0x0701, 0x0702, 0x0703, 0x0704, 0x0801, 0x0901, 0x0902, 0x0903, 0x0904, 0x0905, 0x0A01, 0x0A02, 0x0A03, 0x0B01, 0x0B02]

/-- The long commands of Table 16.9. -/
def Op.longs : List Nat := [0x0301, 0x0302, 0x0303, 0x0401, 0x0501, 0x0504, 0x0601, 0x0602, 0x0603, 0x0604, 0x0702, 0x0703, 0x0801, 0x0901, 0x0902, 0x0905, 0x0A03, 0x0B02]

/-- The opcodes accepted on the fabric channel (column F of Table 16.9). -/
def Op.fabricOps : List Nat := [0x0402, 0x0503, 0x0602, 0x0603, 0x0604, 0x0702, 0x0704]

/-- The class of a status, bits [15:12] (R371). -/
def statusClass (st : Nat) : Nat := st / 4096

/-- Class 0x0 is success (R371, R79). -/
def isSuccess (st : Nat) : Bool := statusClass st == 0

def Ev.timebase : Nat := 0xE001
def Ev.port : Nat := 0xE002
def Ev.checkpoint : Nat := 0xE003
def Ev.health : Nat := 0xE004
def Ev.sealed : Nat := 0xE005
def Ev.halted : Nat := 0xE006
def Ev.panel : Nat := 0xE007
def Ev.stage : Nat := 0xE008

/-- The EVENT_MASK bit of an event code (Table 16.6). -/
def Ev.maskBit (code : Nat) : Nat := code - 0xE001

end Sys2Proof.Machine
end

