-- ==== Sys2Proof/Config.lean ====
section
/-! DEFINITION. What one implementation fixes, and the free values: constants without a body, of which nothing can be
proved, applied to the state's plain counter `fresh` and an index. -/

namespace Sys2Proof

/-- A free byte: what the spec leaves undefined or varying (R229). Details: DESIGN CHOICE, log entry 7. -/
opaque Config.freeByte : Nat → Nat → Byte

/-- A free natural number, narrowed by its user to the range the spec gives.
Details: DESIGN CHOICE, log entry 7; DEDUCED, log entry 62. -/
opaque Config.freeNat : Nat → Nat → Nat

/-- A free choice of yes or no. Details: DESIGN CHOICE, log entry 7. -/
opaque Config.freeBool : Nat → Nat → Bool

/-- The 32-byte key hash fused at manufacture (R432); its value is the module's own.
Details: DESIGN CHOICE, log entries 3, 93. -/
opaque Config.rootKeyHash : Nat → Byte

/-- A byte of a cryptographic output whose value the model leaves open: ML-DSA signatures, ML-KEM and AES-GCM texts,
generated key pairs (20, 21). Applied to the counter, the kind of output and the byte's index.
Details: DESIGN CHOICE, log entries 7, 93. -/
opaque Config.cryptoByte : Nat → Nat → Nat → Byte

/-- Whether an ML-DSA-44 signature verifies: public key, the 32-byte digest it was made over, signature (20). The spec
names the algorithm (FIPS 204) and not its steps. Details: DESIGN CHOICE, log entry 93. -/
opaque Config.mldsaVerify : List Byte → List Byte → List Byte → Bool

/-- What manufacture stores in the module: byte i of item k (17, 20): 0 the identity record, 1 the factory margin plan,
2 the digest of the ROM, 3 the defect fuses, 4 the firmware version, 5 its image digest.
Details: DESIGN CHOICE, log entry 3. -/
opaque Config.fused : Nat → Nat → Byte

/-- The fused slope σ of replanning, in mV per 10 MHz (R391). Details: DESIGN CHOICE, log entries 3, 83. -/
opaque Config.slope : Nat

/-- The fused mean oscillator frequency of a terrace, in kHz (R391). Details: DESIGN CHOICE, log entries 3, 83. -/
opaque Config.roFused : Nat → Nat

/-- The physical spires (bit k of 160) of a Tower die that the Keep's defect map marks failed: die, and the data of region 1,
whose layout the spec does not give (R401). Details: DESIGN CHOICE, log entry 105. -/
opaque Config.defectMap : Nat → List Byte → Nat

/-- Where the group plan of a shrink variant for a slot lies, if it has one: JOB_ID, variant, slot. R349 arms the variant's group
plans, and no parameter names them (R301, Table 16.8). Details: DESIGN CHOICE, log entry 104. -/
opaque Config.variantGroup : Nat → Nat → Nat → Option Nat

/-- The route version of a shrink variant, if it has one: JOB_ID and variant (R349). Details: DESIGN CHOICE, log entry 104. -/
opaque Config.variantRoute : Nat → Nat → Option Nat

/-- VARIANT code of this module (R36, Table 2.3): AE7N-F. DESIGN CHOICE, log entry 3. -/
def Config.variant : Nat := 0

/-- RATE_MAX_MHZ of the variant (Table 2.3). Details: DESIGN CHOICE, log entry 3. -/
def Config.rateMaxMhz : Nat := 1320

/-- LIMIT_W of the variant (Table 2.3). Details: DESIGN CHOICE, log entry 3. -/
def Config.limitW : Nat := 2800

end Sys2Proof
end

