-- ==== Sys2Proof/Machine/Regs.lean ====
section
/-! DEFINITION. The register map: every control register of the node by the manual's name, its address (R23, Table 1.6)
and the fields of its table, with the access type of each field (R8). One definition `R.<NAME>` per register and one
`F.<NAME>_<FIELD>` per field; an index (port, terrace, spire, entry) is an argument. -/

namespace Sys2Proof.Machine

/-- One field of one control register: the register's address, the field's lowest bit and its width. -/
structure Field where
  addr : Nat
  lo : Nat
  width : Nat
  deriving DecidableEq, Repr

/-- The access types of Table 0.3 (R8). -/
inductive Access where
  | ro | rw | w1c | wo
  deriving DecidableEq, Repr

/-- One register (or regular array of registers) of a block, for the checks of a register write. -/
structure RegDef where
  offset : Nat
  stride1 : Nat
  count1 : Nat
  stride2 : Nat
  count2 : Nat
  fields : List (Nat × Nat × Access)
  deriving DecidableEq, Repr

/-- First address of the control blocks (Table 1.6). -/
def nodeBlock : Nat := 0xF00000010000
def tbBlock : Nat := 0xF00000020000
def memBlock : Nat := 0xF00000030000
def cistBlock : Nat := 0xF00000040000
def fabBlock : Nat := 0xF00000050000
def collBlock : Nat := 0xF00000060000
def ckptBlock : Nat := 0xF00000070000
def keepBlock : Nat := 0xF00000080000
def ageBlock : Nat := 0xF00000090000
def secBlock : Nat := 0xF000000A0000
def panelBlock : Nat := 0xF000000B0000
def portBlock (p : Nat) : Nat := 0xF00000110000 + 0x10000 * p
def schedBlock (t : Nat) : Nat := 0xF00000210000 + 0x10000 * t
def solvBlock (t : Nat) : Nat := 0xF00000310000 + 0x10000 * t
def spireBlock (n : Nat) : Nat := 0xF00000410000 + 0x10000 * n

/-- Table 2.8. -/
def R.NODE_PROFILE : Nat := nodeBlock + 0x0100
def F.NODE_PROFILE_ACTIVE : Field := ⟨R.NODE_PROFILE, 0, 2⟩
def F.NODE_PROFILE_SWITCHING : Field := ⟨R.NODE_PROFILE, 2, 1⟩
def F.NODE_PROFILE_TOWER_MHZ : Field := ⟨R.NODE_PROFILE, 16, 16⟩
def F.NODE_PROFILE_DOME_MHZ : Field := ⟨R.NODE_PROFILE, 32, 16⟩
/-- Table 2.9. -/
def R.NODE_VARIANT : Nat := nodeBlock + 0x0108
def F.NODE_VARIANT_VARIANT : Field := ⟨R.NODE_VARIANT, 0, 2⟩
def F.NODE_VARIANT_RATE_MAX_MHZ : Field := ⟨R.NODE_VARIANT, 16, 16⟩
def F.NODE_VARIANT_LIMIT_W : Field := ⟨R.NODE_VARIANT, 32, 16⟩
def F.NODE_VARIANT_PLAN_MAX_MHZ : Field := ⟨R.NODE_VARIANT, 48, 16⟩
/-- Table 2.10. -/
def R.NODE_POWER_CAP : Nat := nodeBlock + 0x0110
def F.NODE_POWER_CAP_CAP_W : Field := ⟨R.NODE_POWER_CAP, 0, 16⟩
def F.NODE_POWER_CAP_CAP_ACTIVE : Field := ⟨R.NODE_POWER_CAP, 16, 16⟩
/-- Table 2.11. -/
def R.NODE_GATE : Nat := nodeBlock + 0x0118
def F.NODE_GATE_SLOTS : Field := ⟨R.NODE_GATE, 0, 7⟩
def F.NODE_GATE_SLOTS_MIN : Field := ⟨R.NODE_GATE, 8, 7⟩
def F.NODE_GATE_BACKSTOP_ACTIVE : Field := ⟨R.NODE_GATE, 15, 1⟩
/-- Table 2.12. -/
def R.NODE_GATE_CYCLES : Nat := nodeBlock + 0x0120
def F.NODE_GATE_CYCLES_CYCLES : Field := ⟨R.NODE_GATE_CYCLES, 0, 64⟩
/-- Table 2.13. -/
def R.NODE_POWER : Nat := nodeBlock + 0x0128
def F.NODE_POWER_EST_W : Field := ⟨R.NODE_POWER, 0, 16⟩
def F.NODE_POWER_INPUT_W : Field := ⟨R.NODE_POWER, 16, 16⟩
def F.NODE_POWER_PEAK_INPUT_W : Field := ⟨R.NODE_POWER, 32, 16⟩
/-- Table 2.14. -/
def R.NODE_PROFILE_EVENTS : Nat := nodeBlock + 0x0130
def F.NODE_PROFILE_EVENTS_EXACT_VIOL : Field := ⟨R.NODE_PROFILE_EVENTS, 0, 1⟩
def F.NODE_PROFILE_EVENTS_BACKSTOP : Field := ⟨R.NODE_PROFILE_EVENTS, 1, 1⟩
def F.NODE_PROFILE_EVENTS_CAP_UNMET : Field := ⟨R.NODE_PROFILE_EVENTS, 2, 1⟩
def F.NODE_PROFILE_EVENTS_CAP_CLAMPED : Field := ⟨R.NODE_PROFILE_EVENTS, 3, 1⟩
/-- Table 3.5. -/
def R.TB_NOW : Nat := tbBlock + 0x0000
def F.TB_NOW_PHASE : Field := ⟨R.TB_NOW, 0, 24⟩
def F.TB_NOW_STEP : Field := ⟨R.TB_NOW, 24, 40⟩
/-- Table 3.6. -/
def R.TB_NOW_FINE : Nat := tbBlock + 0x0008
def F.TB_NOW_FINE_FINE : Field := ⟨R.TB_NOW_FINE, 0, 16⟩
/-- Table 3.7. -/
def R.TB_STATUS : Nat := tbBlock + 0x0010
def F.TB_STATUS_STATE : Field := ⟨R.TB_STATUS, 0, 3⟩
def F.TB_STATUS_REF_LOST : Field := ⟨R.TB_STATUS, 3, 1⟩
def F.TB_STATUS_SRC : Field := ⟨R.TB_STATUS, 4, 1⟩
def F.TB_STATUS_PARENT_PORT : Field := ⟨R.TB_STATUS, 8, 4⟩
def F.TB_STATUS_HOLD_STEPS : Field := ⟨R.TB_STATUS, 16, 7⟩
def F.TB_STATUS_TB_ID : Field := ⟨R.TB_STATUS, 32, 16⟩
def F.TB_STATUS_TICK_LOG2 : Field := ⟨R.TB_STATUS, 48, 5⟩
/-- Table 3.8. -/
def R.TB_PERIOD : Nat := tbBlock + 0x0018
def F.TB_PERIOD_PERIOD_NS : Field := ⟨R.TB_PERIOD, 0, 34⟩
/-- Table 3.9. -/
def R.TB_SERVO : Nat := tbBlock + 0x0020
def F.TB_SERVO_ERROR_PS : Field := ⟨R.TB_SERVO, 0, 32⟩
def F.TB_SERVO_RATE_PPB : Field := ⟨R.TB_SERVO, 32, 24⟩
/-- Table 3.10. -/
def R.TB_EVENTS : Nat := tbBlock + 0x0028
def F.TB_EVENTS_LOCK_LOST : Field := ⟨R.TB_EVENTS, 0, 1⟩
def F.TB_EVENTS_HOLDOVER : Field := ⟨R.TB_EVENTS, 1, 1⟩
def F.TB_EVENTS_LOST : Field := ⟨R.TB_EVENTS, 2, 1⟩
def F.TB_EVENTS_JUMP : Field := ⟨R.TB_EVENTS, 3, 1⟩
def F.TB_EVENTS_HOLD : Field := ⟨R.TB_EVENTS, 4, 1⟩
def F.TB_EVENTS_PARENT_SWITCH : Field := ⟨R.TB_EVENTS, 5, 1⟩
def F.TB_EVENTS_BAD_TICK : Field := ⟨R.TB_EVENTS, 6, 1⟩
def F.TB_EVENTS_PROMOTED : Field := ⟨R.TB_EVENTS, 7, 1⟩
def F.TB_EVENTS_REF_LOST : Field := ⟨R.TB_EVENTS, 8, 1⟩
def F.TB_EVENTS_LOAD : Field := ⟨R.TB_EVENTS, 9, 1⟩
/-- Table 3.11. -/
def R.TB_COUNTS : Nat := tbBlock + 0x0030
def F.TB_COUNTS_BAD_TICKS : Field := ⟨R.TB_COUNTS, 0, 32⟩
def F.TB_COUNTS_PARENT_SWITCHES : Field := ⟨R.TB_COUNTS, 32, 16⟩
def F.TB_COUNTS_JUMPS_HOLDS : Field := ⟨R.TB_COUNTS, 48, 16⟩
/-- Table 3.12. -/
def R.TB_PORT_DELAY (i : Nat) : Nat := tbBlock + 0x0040 + 8 * i
def F.TB_PORT_DELAY_DELAY_PS (i : Nat) : Field := ⟨(R.TB_PORT_DELAY i), 0, 32⟩
def F.TB_PORT_DELAY_VALID (i : Nat) : Field := ⟨(R.TB_PORT_DELAY i), 32, 1⟩
/-- Table 3.13. -/
def R.TB_ALARM_TIME (i : Nat) : Nat := tbBlock + 0x0100 + 16 * i
def F.TB_ALARM_TIME_TARGET (i : Nat) : Field := ⟨(R.TB_ALARM_TIME i), 0, 64⟩
/-- Table 3.14. -/
def R.TB_ALARM_CTRL (i : Nat) : Nat := tbBlock + 0x0108 + 16 * i
def F.TB_ALARM_CTRL_ENABLE (i : Nat) : Field := ⟨(R.TB_ALARM_CTRL i), 0, 1⟩
def F.TB_ALARM_CTRL_FIRED (i : Nat) : Field := ⟨(R.TB_ALARM_CTRL i), 1, 1⟩
def F.TB_ALARM_CTRL_MSI (i : Nat) : Field := ⟨(R.TB_ALARM_CTRL i), 2, 1⟩
def F.TB_ALARM_CTRL_HART (i : Nat) : Field := ⟨(R.TB_ALARM_CTRL i), 8, 8⟩
def F.TB_ALARM_CTRL_EIID (i : Nat) : Field := ⟨(R.TB_ALARM_CTRL i), 16, 11⟩
/-- Table 4.10. -/
def R.SCHED_STATUS (t : Nat) : Nat := schedBlock t + 0x0000
def F.SCHED_STATUS_STATE (t : Nat) : Field := ⟨(R.SCHED_STATUS t), 0, 2⟩
def F.SCHED_STATUS_LIVE_BANK (t : Nat) : Field := ⟨(R.SCHED_STATUS t), 2, 1⟩
def F.SCHED_STATUS_ARMED (t : Nat) : Field := ⟨(R.SCHED_STATUS t), 3, 1⟩
def F.SCHED_STATUS_LOADING (t : Nat) : Field := ⟨(R.SCHED_STATUS t), 4, 1⟩
def F.SCHED_STATUS_INACTIVE_VALID (t : Nat) : Field := ⟨(R.SCHED_STATUS t), 5, 1⟩
def F.SCHED_STATUS_LIVE_VALID (t : Nat) : Field := ⟨(R.SCHED_STATUS t), 6, 1⟩
def F.SCHED_STATUS_OVERRUNNING (t : Nat) : Field := ⟨(R.SCHED_STATUS t), 7, 1⟩
def F.SCHED_STATUS_NEXT_ENTRY (t : Nat) : Field := ⟨(R.SCHED_STATUS t), 16, 13⟩
def F.SCHED_STATUS_VARIANT_LIVE (t : Nat) : Field := ⟨(R.SCHED_STATUS t), 32, 4⟩
def F.SCHED_STATUS_VARIANT_INACTIVE (t : Nat) : Field := ⟨(R.SCHED_STATUS t), 36, 4⟩
/-- Table 4.11. -/
def R.SCHED_STEP (t : Nat) : Nat := schedBlock t + 0x0008
def F.SCHED_STEP_STEP (t : Nat) : Field := ⟨(R.SCHED_STEP t), 0, 40⟩
/-- Table 4.12. -/
def R.SCHED_ARM_STEP (t : Nat) : Nat := schedBlock t + 0x0010
def F.SCHED_ARM_STEP_STEP (t : Nat) : Field := ⟨(R.SCHED_ARM_STEP t), 0, 40⟩
/-- Table 4.13. -/
def R.SCHED_VERSION_LIVE (t : Nat) : Nat := schedBlock t + 0x0018
def F.SCHED_VERSION_LIVE_VERSION (t : Nat) : Field := ⟨(R.SCHED_VERSION_LIVE t), 0, 64⟩
/-- Table 4.13. -/
def R.SCHED_VERSION_INACTIVE (t : Nat) : Nat := schedBlock t + 0x0020
def F.SCHED_VERSION_INACTIVE_VERSION (t : Nat) : Field := ⟨(R.SCHED_VERSION_INACTIVE t), 0, 64⟩
/-- Table 4.14. -/
def R.SCHED_COUNTS (t : Nat) : Nat := schedBlock t + 0x0028
def F.SCHED_COUNTS_LIVE_ENTRIES (t : Nat) : Field := ⟨(R.SCHED_COUNTS t), 0, 13⟩
def F.SCHED_COUNTS_INACTIVE_ENTRIES (t : Nat) : Field := ⟨(R.SCHED_COUNTS t), 16, 13⟩
def F.SCHED_COUNTS_RUNNING (t : Nat) : Field := ⟨(R.SCHED_COUNTS t), 32, 7⟩
/-- Table 4.15. -/
def R.SCHED_EVENTS (t : Nat) : Nat := schedBlock t + 0x0030
def F.SCHED_EVENTS_MISS (t : Nat) : Field := ⟨(R.SCHED_EVENTS t), 0, 1⟩
def F.SCHED_EVENTS_OVERRUN (t : Nat) : Field := ⟨(R.SCHED_EVENTS t), 1, 1⟩
def F.SCHED_EVENTS_SKIPPED (t : Nat) : Field := ⟨(R.SCHED_EVENTS t), 2, 1⟩
def F.SCHED_EVENTS_STALE_SIGNAL (t : Nat) : Field := ⟨(R.SCHED_EVENTS t), 3, 1⟩
def F.SCHED_EVENTS_FIELD_STALE (t : Nat) : Field := ⟨(R.SCHED_EVENTS t), 4, 1⟩
def F.SCHED_EVENTS_RING_FULL (t : Nat) : Field := ⟨(R.SCHED_EVENTS t), 5, 1⟩
def F.SCHED_EVENTS_HALTED (t : Nat) : Field := ⟨(R.SCHED_EVENTS t), 6, 1⟩
def F.SCHED_EVENTS_EXACT_VIOL (t : Nat) : Field := ⟨(R.SCHED_EVENTS t), 7, 1⟩
/-- Table 4.16. -/
def R.SCHED_TALLY (t : Nat) : Nat := schedBlock t + 0x0038
def F.SCHED_TALLY_MISSES (t : Nat) : Field := ⟨(R.SCHED_TALLY t), 0, 32⟩
def F.SCHED_TALLY_OVERRUNS (t : Nat) : Field := ⟨(R.SCHED_TALLY t), 32, 16⟩
def F.SCHED_TALLY_SKIPS (t : Nat) : Field := ⟨(R.SCHED_TALLY t), 48, 16⟩
/-- Table 4.17. -/
def R.SCHED_RING_BASE (t : Nat) : Nat := schedBlock t + 0x0040
def F.SCHED_RING_BASE_BASE (t : Nat) : Field := ⟨(R.SCHED_RING_BASE t), 6, 42⟩
/-- Table 4.18. -/
def R.SCHED_RING_CTRL (t : Nat) : Nat := schedBlock t + 0x0048
def F.SCHED_RING_CTRL_LOG2_RECORDS (t : Nat) : Field := ⟨(R.SCHED_RING_CTRL t), 0, 5⟩
def F.SCHED_RING_CTRL_ENABLE (t : Nat) : Field := ⟨(R.SCHED_RING_CTRL t), 8, 1⟩
def F.SCHED_RING_CTRL_MSI (t : Nat) : Field := ⟨(R.SCHED_RING_CTRL t), 9, 1⟩
def F.SCHED_RING_CTRL_HART (t : Nat) : Field := ⟨(R.SCHED_RING_CTRL t), 16, 8⟩
def F.SCHED_RING_CTRL_EIID (t : Nat) : Field := ⟨(R.SCHED_RING_CTRL t), 32, 11⟩
/-- Table 4.19. -/
def R.SCHED_RING_HEAD (t : Nat) : Nat := schedBlock t + 0x0050
def F.SCHED_RING_HEAD_INDEX (t : Nat) : Field := ⟨(R.SCHED_RING_HEAD t), 0, 32⟩
/-- Table 4.19. -/
def R.SCHED_RING_TAIL (t : Nat) : Nat := schedBlock t + 0x0058
def F.SCHED_RING_TAIL_INDEX (t : Nat) : Field := ⟨(R.SCHED_RING_TAIL t), 0, 32⟩
/-- Table 4.20. -/
def R.SCHED_LAST_DIGEST (t i : Nat) : Nat := schedBlock t + 0x0060 + 8 * i
def F.SCHED_LAST_DIGEST_BYTES (t i : Nat) : Field := ⟨(R.SCHED_LAST_DIGEST t i), 0, 64⟩
/-- Table 4.21. -/
def R.SCHED_CTR (t i : Nat) : Nat := schedBlock t + 0x0100 + 8 * i
def F.SCHED_CTR_VALUE (t i : Nat) : Field := ⟨(R.SCHED_CTR t i), 0, 16⟩
def F.SCHED_CTR_FAILED (t i : Nat) : Field := ⟨(R.SCHED_CTR t i), 16, 1⟩
/-- Table 4.22. -/
def R.SCHED_FIELD (t i j : Nat) : Nat := schedBlock t + 0x0200 + 32 * i + 8 * j
def F.SCHED_FIELD_STEP (t i j : Nat) : Field := ⟨(R.SCHED_FIELD t i j), 0, 40⟩
def F.SCHED_FIELD_COUNT (t i j : Nat) : Field := ⟨(R.SCHED_FIELD t i j), 40, 16⟩
def F.SCHED_FIELD_FAILED (t i j : Nat) : Field := ⟨(R.SCHED_FIELD t i j), 56, 1⟩
def F.SCHED_FIELD_VALID (t i j : Nat) : Field := ⟨(R.SCHED_FIELD t i j), 57, 1⟩
/-- Table 5.8. -/
def R.NODE_TERRACE_PWR : Nat := nodeBlock + 0x0140
def F.NODE_TERRACE_PWR_OFF_REQ : Field := ⟨R.NODE_TERRACE_PWR, 0, 16⟩
def F.NODE_TERRACE_PWR_POWERED : Field := ⟨R.NODE_TERRACE_PWR, 32, 16⟩
def F.NODE_TERRACE_PWR_ON : Field := ⟨R.NODE_TERRACE_PWR, 48, 16⟩
/-- Table 5.9. -/
def R.SPIRE_ID (n : Nat) : Nat := spireBlock n + 0x0000
def F.SPIRE_ID_LOGICAL (n : Nat) : Field := ⟨(R.SPIRE_ID n), 0, 9⟩
def F.SPIRE_ID_TERRACE (n : Nat) : Field := ⟨(R.SPIRE_ID n), 16, 4⟩
def F.SPIRE_ID_INDEX (n : Nat) : Field := ⟨(R.SPIRE_ID n), 24, 5⟩
def F.SPIRE_ID_TOWER (n : Nat) : Field := ⟨(R.SPIRE_ID n), 32, 1⟩
/-- Table 5.10. -/
def R.SPIRE_STATUS (n : Nat) : Nat := spireBlock n + 0x0008
def F.SPIRE_STATUS_CORE (n : Nat) : Field := ⟨(R.SPIRE_STATUS n), 0, 2⟩
def F.SPIRE_STATUS_TENS_OWNER (n : Nat) : Field := ⟨(R.SPIRE_STATUS n), 2, 2⟩
def F.SPIRE_STATUS_MOVER_OWNER (n : Nat) : Field := ⟨(R.SPIRE_STATUS n), 4, 2⟩
def F.SPIRE_STATUS_TQ_DEPTH (n : Nat) : Field := ⟨(R.SPIRE_STATUS n), 8, 4⟩
def F.SPIRE_STATUS_MQ_DEPTH (n : Nat) : Field := ⟨(R.SPIRE_STATUS n), 12, 4⟩
def F.SPIRE_STATUS_POWER (n : Nat) : Field := ⟨(R.SPIRE_STATUS n), 16, 2⟩
/-- Table 5.11. -/
def R.SPIRE_FAULT_INFO (n : Nat) : Nat := spireBlock n + 0x0010
def F.SPIRE_FAULT_INFO_CAUSE (n : Nat) : Field := ⟨(R.SPIRE_FAULT_INFO n), 0, 8⟩
def F.SPIRE_FAULT_INFO_UNIT (n : Nat) : Field := ⟨(R.SPIRE_FAULT_INFO n), 8, 3⟩
def F.SPIRE_FAULT_INFO_STATUS (n : Nat) : Field := ⟨(R.SPIRE_FAULT_INFO n), 16, 16⟩
/-- Table 5.12. -/
def R.SPIRE_FAULT_PC (n : Nat) : Nat := spireBlock n + 0x0018
def F.SPIRE_FAULT_PC_VALUE (n : Nat) : Field := ⟨(R.SPIRE_FAULT_PC n), 0, 64⟩
/-- Table 5.12. -/
def R.SPIRE_FAULT_TVAL (n : Nat) : Nat := spireBlock n + 0x0020
def F.SPIRE_FAULT_TVAL_VALUE (n : Nat) : Field := ⟨(R.SPIRE_FAULT_TVAL n), 0, 64⟩
/-- Table 5.13. -/
def R.SPIRE_MOVE_FAULT (n : Nat) : Nat := spireBlock n + 0x0028
def F.SPIRE_MOVE_FAULT_VALUE (n : Nat) : Field := ⟨(R.SPIRE_MOVE_FAULT n), 0, 64⟩
/-- Table 5.13. -/
def R.SPIRE_MOVE_FAULT_ADDR (n : Nat) : Nat := spireBlock n + 0x0030
def F.SPIRE_MOVE_FAULT_ADDR_VALUE (n : Nat) : Field := ⟨(R.SPIRE_MOVE_FAULT_ADDR n), 0, 64⟩
/-- Table 5.14. -/
def R.SPIRE_DONE (n : Nat) : Nat := spireBlock n + 0x0038
def F.SPIRE_DONE_TENSOR (n : Nat) : Field := ⟨(R.SPIRE_DONE n), 0, 32⟩
def F.SPIRE_DONE_MOVER (n : Nat) : Field := ⟨(R.SPIRE_DONE n), 32, 32⟩
/-- Table 5.15. -/
def R.SPIRE_SP_ECC (n : Nat) : Nat := spireBlock n + 0x0040
def F.SPIRE_SP_ECC_CORRECTED (n : Nat) : Field := ⟨(R.SPIRE_SP_ECC n), 0, 32⟩
def F.SPIRE_SP_ECC_POISONED (n : Nat) : Field := ⟨(R.SPIRE_SP_ECC n), 32, 16⟩
def F.SPIRE_SP_ECC_LAST_BANK (n : Nat) : Field := ⟨(R.SPIRE_SP_ECC n), 48, 4⟩
/-- Table 5.16. -/
def R.SPIRE_EVENTS (n : Nat) : Nat := spireBlock n + 0x0048
def F.SPIRE_EVENTS_FAULT (n : Nat) : Field := ⟨(R.SPIRE_EVENTS n), 0, 1⟩
def F.SPIRE_EVENTS_MOVE_FAULT (n : Nat) : Field := ⟨(R.SPIRE_EVENTS n), 1, 1⟩
def F.SPIRE_EVENTS_ECC_CORRECTED (n : Nat) : Field := ⟨(R.SPIRE_EVENTS n), 2, 1⟩
def F.SPIRE_EVENTS_ECC_POISON (n : Nat) : Field := ⟨(R.SPIRE_EVENTS n), 3, 1⟩
def F.SPIRE_EVENTS_OWNER_STALL (n : Nat) : Field := ⟨(R.SPIRE_EVENTS n), 4, 1⟩
/-- Table 5.17. -/
def R.SPIRE_BANK_STALLS (n : Nat) : Nat := spireBlock n + 0x0050
def F.SPIRE_BANK_STALLS_CYCLES (n : Nat) : Field := ⟨(R.SPIRE_BANK_STALLS n), 0, 64⟩
/-- Table 5.18. -/
def R.SPIRE_AMAX (n i : Nat) : Nat := spireBlock n + 0x0100 + 8 * i
def F.SPIRE_AMAX_AMAX (n i : Nat) : Field := ⟨(R.SPIRE_AMAX n i), 0, 32⟩
def F.SPIRE_AMAX_SAT_COUNT (n i : Nat) : Field := ⟨(R.SPIRE_AMAX n i), 32, 32⟩
/-- Table 6.7. -/
def R.TENS_STATUS (n : Nat) : Nat := spireBlock n + 0x4000
def F.TENS_STATUS_OP (n : Nat) : Field := ⟨(R.TENS_STATUS n), 0, 8⟩
def F.TENS_STATUS_SEALED (n : Nat) : Field := ⟨(R.TENS_STATUS n), 8, 4⟩
def F.TENS_STATUS_LAST_STATUS (n : Nat) : Field := ⟨(R.TENS_STATUS n), 16, 16⟩
/-- Table 6.8. -/
def R.TENS_PROGRESS (n : Nat) : Nat := spireBlock n + 0x4008
def F.TENS_PROGRESS_TILES (n : Nat) : Field := ⟨(R.TENS_PROGRESS n), 0, 32⟩
def F.TENS_PROGRESS_BATCH (n : Nat) : Field := ⟨(R.TENS_PROGRESS n), 32, 16⟩
/-- Table 6.9. -/
def R.TENS_EVENTS (n : Nat) : Nat := spireBlock n + 0x4010
def F.TENS_EVENTS_RANGE (n : Nat) : Field := ⟨(R.TENS_EVENTS n), 0, 1⟩
def F.TENS_EVENTS_POISON (n : Nat) : Field := ⟨(R.TENS_EVENTS n), 1, 1⟩
def F.TENS_EVENTS_RESIDUE_RETRY (n : Nat) : Field := ⟨(R.TENS_EVENTS n), 2, 1⟩
def F.TENS_EVENTS_RESIDUE_FAIL (n : Nat) : Field := ⟨(R.TENS_EVENTS n), 3, 1⟩
def F.TENS_EVENTS_SEAL_FAIL (n : Nat) : Field := ⟨(R.TENS_EVENTS n), 4, 1⟩
def F.TENS_EVENTS_CTX_DROPPED (n : Nat) : Field := ⟨(R.TENS_EVENTS n), 5, 1⟩
def F.TENS_EVENTS_CTX_WRITE_REFUSED (n : Nat) : Field := ⟨(R.TENS_EVENTS n), 6, 1⟩
/-- Table 6.10. -/
def R.TENS_COUNTS (n : Nat) : Nat := spireBlock n + 0x4018
def F.TENS_COUNTS_RANGE_ELEMS (n : Nat) : Field := ⟨(R.TENS_COUNTS n), 0, 32⟩
def F.TENS_COUNTS_RESIDUE_RETRIES (n : Nat) : Field := ⟨(R.TENS_COUNTS n), 32, 16⟩
def F.TENS_COUNTS_RESIDUE_FAILS (n : Nat) : Field := ⟨(R.TENS_COUNTS n), 48, 16⟩
/-- Table 6.11. -/
def R.TENS_MACS (n : Nat) : Nat := spireBlock n + 0x4020
def F.TENS_MACS_VALUE (n : Nat) : Field := ⟨(R.TENS_MACS n), 0, 64⟩
/-- Table 6.11. -/
def R.TENS_BUSY (n : Nat) : Nat := spireBlock n + 0x4028
def F.TENS_BUSY_VALUE (n : Nat) : Field := ⟨(R.TENS_BUSY n), 0, 64⟩
/-- Table 6.12. -/
def R.TENS_CTX (n i : Nat) : Nat := spireBlock n + 0x4100 + 16 * i
def F.TENS_CTX_BASE (n i : Nat) : Field := ⟨(R.TENS_CTX n i), 0, 21⟩
def F.TENS_CTX_LENGTH (n i : Nat) : Field := ⟨(R.TENS_CTX n i), 32, 21⟩
def F.TENS_CTX_SEALED (n i : Nat) : Field := ⟨(R.TENS_CTX n i), 63, 1⟩
/-- Table 6.13. -/
def R.TENS_CTX_CRC (n i : Nat) : Nat := spireBlock n + 0x4108 + 16 * i
def F.TENS_CTX_CRC_CRC (n i : Nat) : Field := ⟨(R.TENS_CTX_CRC n i), 0, 64⟩
/-- Table 8.6. -/
def R.VEC_STATUS (n : Nat) : Nat := spireBlock n + 0x8000
def F.VEC_STATUS_POWER (n : Nat) : Field := ⟨(R.VEC_STATUS n), 0, 2⟩
def F.VEC_STATUS_BUSY (n : Nat) : Field := ⟨(R.VEC_STATUS n), 2, 1⟩
def F.VEC_STATUS_CFG (n : Nat) : Field := ⟨(R.VEC_STATUS n), 8, 5⟩
def F.VEC_STATUS_VL (n : Nat) : Field := ⟨(R.VEC_STATUS n), 16, 10⟩
/-- Table 8.7. -/
def R.VEC_FAULT_IDX (n : Nat) : Nat := spireBlock n + 0x8008
def F.VEC_FAULT_IDX_VALUE (n : Nat) : Field := ⟨(R.VEC_FAULT_IDX n), 0, 64⟩
/-- Table 8.7. -/
def R.VEC_FAULT_ADDR (n : Nat) : Nat := spireBlock n + 0x8010
def F.VEC_FAULT_ADDR_VALUE (n : Nat) : Field := ⟨(R.VEC_FAULT_ADDR n), 0, 64⟩
/-- Table 8.8. -/
def R.VEC_SCALE (n : Nat) : Nat := spireBlock n + 0x8018
def F.VEC_SCALE_SCALES (n : Nat) : Field := ⟨(R.VEC_SCALE n), 0, 64⟩
/-- Table 8.9. -/
def R.VEC_EVENTS (n : Nat) : Nat := spireBlock n + 0x8020
def F.VEC_EVENTS_FAULT (n : Nat) : Field := ⟨(R.VEC_EVENTS n), 0, 1⟩
def F.VEC_EVENTS_TARGET_DEAD (n : Nat) : Field := ⟨(R.VEC_EVENTS n), 1, 1⟩
def F.VEC_EVENTS_POISON (n : Nat) : Field := ⟨(R.VEC_EVENTS n), 2, 1⟩
def F.VEC_EVENTS_RESIDUE_RETRY (n : Nat) : Field := ⟨(R.VEC_EVENTS n), 3, 1⟩
def F.VEC_EVENTS_RESIDUE_FAIL (n : Nat) : Field := ⟨(R.VEC_EVENTS n), 4, 1⟩
/-- Table 8.10. -/
def R.VEC_COUNTS (n : Nat) : Nat := spireBlock n + 0x8028
def F.VEC_COUNTS_WAKES (n : Nat) : Field := ⟨(R.VEC_COUNTS n), 0, 32⟩
def F.VEC_COUNTS_RESIDUE_RETRIES (n : Nat) : Field := ⟨(R.VEC_COUNTS n), 32, 16⟩
def F.VEC_COUNTS_RESIDUE_FAILS (n : Nat) : Field := ⟨(R.VEC_COUNTS n), 48, 16⟩
/-- Table 8.11. -/
def R.VEC_BUSY (n : Nat) : Nat := spireBlock n + 0x8030
def F.VEC_BUSY_CYCLES (n : Nat) : Field := ⟨(R.VEC_BUSY n), 0, 64⟩
/-- Table 9.13. -/
def R.SOLV_STATUS (t : Nat) : Nat := solvBlock t + 0x0000
def F.SOLV_STATUS_STATE (t : Nat) : Field := ⟨(R.SOLV_STATUS t), 0, 2⟩
def F.SOLV_STATUS_OWNER (t : Nat) : Field := ⟨(R.SOLV_STATUS t), 2, 1⟩
def F.SOLV_STATUS_OP (t : Nat) : Field := ⟨(R.SOLV_STATUS t), 8, 8⟩
def F.SOLV_STATUS_PHASE (t : Nat) : Field := ⟨(R.SOLV_STATUS t), 16, 2⟩
def F.SOLV_STATUS_ITERATIONS (t : Nat) : Field := ⟨(R.SOLV_STATUS t), 32, 32⟩
/-- Table 9.14. -/
def R.SOLV_DESC (t : Nat) : Nat := solvBlock t + 0x0008
def F.SOLV_DESC_VALUE (t : Nat) : Field := ⟨(R.SOLV_DESC t), 0, 64⟩
/-- Table 9.14. -/
def R.SOLV_DEADLINE (t : Nat) : Nat := solvBlock t + 0x0010
def F.SOLV_DEADLINE_VALUE (t : Nat) : Field := ⟨(R.SOLV_DEADLINE t), 0, 64⟩
/-- Table 9.15. -/
def R.SOLV_LAST (t : Nat) : Nat := solvBlock t + 0x0018
def F.SOLV_LAST_STATUS (t : Nat) : Field := ⟨(R.SOLV_LAST t), 0, 16⟩
def F.SOLV_LAST_FLAGS (t : Nat) : Field := ⟨(R.SOLV_LAST t), 16, 16⟩
def F.SOLV_LAST_RES_FRAC (t : Nat) : Field := ⟨(R.SOLV_LAST t), 32, 32⟩
/-- Table 9.16. -/
def R.SOLV_RANGE_INFO (t : Nat) : Nat := solvBlock t + 0x0020
def F.SOLV_RANGE_INFO_ROLE (t : Nat) : Field := ⟨(R.SOLV_RANGE_INFO t), 0, 8⟩
def F.SOLV_RANGE_INFO_INDEX (t : Nat) : Field := ⟨(R.SOLV_RANGE_INFO t), 32, 24⟩
/-- Table 9.17. -/
def R.SOLV_EVENTS (t : Nat) : Nat := solvBlock t + 0x0028
def F.SOLV_EVENTS_RANGE (t : Nat) : Field := ⟨(R.SOLV_EVENTS t), 0, 1⟩
def F.SOLV_EVENTS_MISSED (t : Nat) : Field := ⟨(R.SOLV_EVENTS t), 1, 1⟩
def F.SOLV_EVENTS_ABORTED (t : Nat) : Field := ⟨(R.SOLV_EVENTS t), 2, 1⟩
def F.SOLV_EVENTS_WARM_REJECTED (t : Nat) : Field := ⟨(R.SOLV_EVENTS t), 3, 1⟩
def F.SOLV_EVENTS_POISON (t : Nat) : Field := ⟨(R.SOLV_EVENTS t), 4, 1⟩
def F.SOLV_EVENTS_RESIDUE_RETRY (t : Nat) : Field := ⟨(R.SOLV_EVENTS t), 5, 1⟩
def F.SOLV_EVENTS_RESIDUE_FAIL (t : Nat) : Field := ⟨(R.SOLV_EVENTS t), 6, 1⟩
def F.SOLV_EVENTS_NUMERIC (t : Nat) : Field := ⟨(R.SOLV_EVENTS t), 7, 1⟩
/-- Table 9.18. -/
def R.SOLV_COUNTS (t : Nat) : Nat := solvBlock t + 0x0030
def F.SOLV_COUNTS_SOLVES (t : Nat) : Field := ⟨(R.SOLV_COUNTS t), 0, 32⟩
def F.SOLV_COUNTS_MISSES (t : Nat) : Field := ⟨(R.SOLV_COUNTS t), 32, 16⟩
def F.SOLV_COUNTS_RESIDUE_RETRIES (t : Nat) : Field := ⟨(R.SOLV_COUNTS t), 48, 16⟩
/-- Table 9.19. -/
def R.SOLV_WARM_FP (t : Nat) : Nat := solvBlock t + 0x0038
def F.SOLV_WARM_FP_FINGERPRINT (t : Nat) : Field := ⟨(R.SOLV_WARM_FP t), 0, 64⟩
/-- Table 9.20. -/
def R.SOLV_MACS (t : Nat) : Nat := solvBlock t + 0x0040
def F.SOLV_MACS_VALUE (t : Nat) : Field := ⟨(R.SOLV_MACS t), 0, 64⟩
/-- Table 9.20. -/
def R.SOLV_BUSY (t : Nat) : Nat := solvBlock t + 0x0048
def F.SOLV_BUSY_VALUE (t : Nat) : Field := ⟨(R.SOLV_BUSY t), 0, 64⟩
/-- Table 10.6. -/
def R.MEM_CONFIG : Nat := memBlock + 0x0000
def F.MEM_CONFIG_NEAR_GIB : Field := ⟨R.MEM_CONFIG, 0, 16⟩
def F.MEM_CONFIG_DEEP_GIB : Field := ⟨R.MEM_CONFIG, 16, 16⟩
def F.MEM_CONFIG_STACKS_M1 : Field := ⟨R.MEM_CONFIG, 32, 4⟩
def F.MEM_CONFIG_PACKAGES_M1 : Field := ⟨R.MEM_CONFIG, 36, 4⟩
/-- Table 10.7. -/
def R.MEM_EVENTS : Nat := memBlock + 0x0008
def F.MEM_EVENTS_CORRECTED : Field := ⟨R.MEM_EVENTS, 0, 1⟩
def F.MEM_EVENTS_POISONED : Field := ⟨R.MEM_EVENTS, 1, 1⟩
def F.MEM_EVENTS_SCRUB_POISON : Field := ⟨R.MEM_EVENTS, 2, 1⟩
def F.MEM_EVENTS_MOP_POISON : Field := ⟨R.MEM_EVENTS, 3, 1⟩
def F.MEM_EVENTS_HOT : Field := ⟨R.MEM_EVENTS, 4, 1⟩
def F.MEM_EVENTS_MOP_REFUSED : Field := ⟨R.MEM_EVENTS, 5, 1⟩
/-- Table 10.8. -/
def R.MEM_ECC_COUNTS : Nat := memBlock + 0x0010
def F.MEM_ECC_COUNTS_CORRECTED : Field := ⟨R.MEM_ECC_COUNTS, 0, 32⟩
def F.MEM_ECC_COUNTS_POISONED_LINES : Field := ⟨R.MEM_ECC_COUNTS, 32, 16⟩
def F.MEM_ECC_COUNTS_SCRUB_PASSES : Field := ⟨R.MEM_ECC_COUNTS, 48, 16⟩
/-- Table 10.9. -/
def R.MEM_ECC_LAST_ADDR : Nat := memBlock + 0x0018
def F.MEM_ECC_LAST_ADDR_VALUE : Field := ⟨R.MEM_ECC_LAST_ADDR, 0, 64⟩
/-- Table 10.9. -/
def R.MEM_ECC_LAST_INFO : Nat := memBlock + 0x0020
def F.MEM_ECC_LAST_INFO_VALUE : Field := ⟨R.MEM_ECC_LAST_INFO, 0, 64⟩
/-- Table 10.13. -/
def R.MEM_SCRUB : Nat := memBlock + 0x0028
def F.MEM_SCRUB_ENABLE : Field := ⟨R.MEM_SCRUB, 0, 1⟩
def F.MEM_SCRUB_PERIOD_H : Field := ⟨R.MEM_SCRUB, 8, 8⟩
/-- Table 10.14. -/
def R.MEM_MOP_COUNTS : Nat := memBlock + 0x0030
def F.MEM_MOP_COUNTS_OPS : Field := ⟨R.MEM_MOP_COUNTS, 0, 48⟩
def F.MEM_MOP_COUNTS_REFUSED : Field := ⟨R.MEM_MOP_COUNTS, 48, 16⟩
/-- Table 10.15. -/
def R.MEM_STACK (i : Nat) : Nat := memBlock + 0x0100 + 8 * i
def F.MEM_STACK_TRAINED (i : Nat) : Field := ⟨(R.MEM_STACK i), 0, 1⟩
def F.MEM_STACK_TEMP_C (i : Nat) : Field := ⟨(R.MEM_STACK i), 8, 8⟩
def F.MEM_STACK_REFRESH_NS (i : Nat) : Field := ⟨(R.MEM_STACK i), 16, 16⟩
def F.MEM_STACK_NARROW_GPS (i : Nat) : Field := ⟨(R.MEM_STACK i), 32, 16⟩
/-- Table 10.16. -/
def R.MEM_PKG (i : Nat) : Nat := memBlock + 0x0200 + 8 * i
def F.MEM_PKG_TRAINED (i : Nat) : Field := ⟨(R.MEM_PKG i), 0, 1⟩
def F.MEM_PKG_TEMP_C (i : Nat) : Field := ⟨(R.MEM_PKG i), 8, 8⟩
def F.MEM_PKG_REFRESH_NS (i : Nat) : Field := ⟨(R.MEM_PKG i), 16, 16⟩
/-- Table 10.17. -/
def R.CIST_STATUS : Nat := cistBlock + 0x0000
def F.CIST_STATUS_ARMED : Field := ⟨R.CIST_STATUS, 0, 1⟩
def F.CIST_STATUS_FILLING : Field := ⟨R.CIST_STATUS, 1, 1⟩
def F.CIST_STATUS_LIVE_COUNT : Field := ⟨R.CIST_STATUS, 8, 9⟩
def F.CIST_STATUS_LIVE_KIB : Field := ⟨R.CIST_STATUS, 32, 28⟩
/-- Table 10.18. -/
def R.CIST_PIN_LIST : Nat := cistBlock + 0x0008
def F.CIST_PIN_LIST_BASE : Field := ⟨R.CIST_PIN_LIST, 4, 44⟩
/-- Table 10.10. -/
def R.CIST_PIN_CTRL : Nat := cistBlock + 0x0010
def F.CIST_PIN_CTRL_COUNT : Field := ⟨R.CIST_PIN_CTRL, 0, 9⟩
def F.CIST_PIN_CTRL_ARM : Field := ⟨R.CIST_PIN_CTRL, 16, 1⟩
def F.CIST_PIN_CTRL_DISARM : Field := ⟨R.CIST_PIN_CTRL, 17, 1⟩
def F.CIST_PIN_CTRL_ERROR : Field := ⟨R.CIST_PIN_CTRL, 20, 4⟩
/-- Table 10.19. -/
def R.CIST_PIN_ARM_STEP : Nat := cistBlock + 0x0018
def F.CIST_PIN_ARM_STEP_STEP : Field := ⟨R.CIST_PIN_ARM_STEP, 0, 40⟩
/-- Table 10.20. -/
def R.CIST_EVENTS : Nat := cistBlock + 0x0020
def F.CIST_EVENTS_PIN_SWAPPED : Field := ⟨R.CIST_EVENTS, 0, 1⟩
def F.CIST_EVENTS_PIN_OVERFLOW : Field := ⟨R.CIST_EVENTS, 1, 1⟩
def F.CIST_EVENTS_PIN_ERROR : Field := ⟨R.CIST_EVENTS, 2, 1⟩
def F.CIST_EVENTS_LAST_USE_PINNED : Field := ⟨R.CIST_EVENTS, 3, 1⟩
/-- Table 10.21. -/
def R.CIST_HITS (i : Nat) : Nat := cistBlock + 0x0100 + 16 * i
def F.CIST_HITS_COUNT (i : Nat) : Field := ⟨(R.CIST_HITS i), 0, 64⟩
/-- Table 10.21. -/
def R.CIST_MISSES (i : Nat) : Nat := cistBlock + 0x0108 + 16 * i
def F.CIST_MISSES_COUNT (i : Nat) : Field := ⟨(R.CIST_MISSES i), 0, 64⟩
/-- Table 11.8. -/
def R.FAB_DEAD_BOUND : Nat := fabBlock + 0x1000
def F.FAB_DEAD_BOUND_BOUND_US : Field := ⟨R.FAB_DEAD_BOUND, 0, 8⟩
/-- Table 11.9. -/
def R.FAB_SEM_EVENTS : Nat := fabBlock + 0x1008
def F.FAB_SEM_EVENTS_TARGET_DEAD : Field := ⟨R.FAB_SEM_EVENTS, 0, 1⟩
def F.FAB_SEM_EVENTS_ATOMIC_INDET : Field := ⟨R.FAB_SEM_EVENTS, 1, 1⟩
def F.FAB_SEM_EVENTS_REFUSED : Field := ⟨R.FAB_SEM_EVENTS, 2, 1⟩
def F.FAB_SEM_EVENTS_RESETTING : Field := ⟨R.FAB_SEM_EVENTS, 3, 1⟩
def F.FAB_SEM_EVENTS_WEIR_UNMAPPED : Field := ⟨R.FAB_SEM_EVENTS, 4, 1⟩
def F.FAB_SEM_EVENTS_POSTED_FAIL : Field := ⟨R.FAB_SEM_EVENTS, 5, 1⟩
def F.FAB_SEM_EVENTS_BACKOFF_SENT : Field := ⟨R.FAB_SEM_EVENTS, 6, 1⟩
def F.FAB_SEM_EVENTS_REPLAY_HIT : Field := ⟨R.FAB_SEM_EVENTS, 7, 1⟩
/-- Table 11.10. -/
def R.FAB_SEM_MSI : Nat := fabBlock + 0x1010
def F.FAB_SEM_MSI_ENABLE : Field := ⟨R.FAB_SEM_MSI, 0, 1⟩
def F.FAB_SEM_MSI_HART : Field := ⟨R.FAB_SEM_MSI, 8, 8⟩
def F.FAB_SEM_MSI_EIID : Field := ⟨R.FAB_SEM_MSI, 16, 11⟩
/-- Table 11.11. -/
def R.FAB_LAST_FAIL : Nat := fabBlock + 0x1018
def F.FAB_LAST_FAIL_VALUE : Field := ⟨R.FAB_LAST_FAIL, 0, 64⟩
/-- Table 11.11. -/
def R.FAB_LAST_FAIL_ADDR : Nat := fabBlock + 0x1020
def F.FAB_LAST_FAIL_ADDR_VALUE : Field := ⟨R.FAB_LAST_FAIL_ADDR, 0, 64⟩
/-- Table 11.12. -/
def R.FAB_REPLAY : Nat := fabBlock + 0x1028
def F.FAB_REPLAY_ENTRIES : Field := ⟨R.FAB_REPLAY, 0, 17⟩
def F.FAB_REPLAY_RECORDS : Field := ⟨R.FAB_REPLAY, 32, 16⟩
/-- Table 11.13. -/
def R.FAB_REPLAY_COUNTS : Nat := fabBlock + 0x1030
def F.FAB_REPLAY_COUNTS_REPLAYS : Field := ⟨R.FAB_REPLAY_COUNTS, 0, 32⟩
def F.FAB_REPLAY_COUNTS_BACKOFFS : Field := ⟨R.FAB_REPLAY_COUNTS, 32, 32⟩
/-- Table 11.14. -/
def R.FAB_HOT : Nat := fabBlock + 0x1038
def F.FAB_HOT_HOT_LINES : Field := ⟨R.FAB_HOT, 0, 16⟩
def F.FAB_HOT_PEAK_TICKETS : Field := ⟨R.FAB_HOT, 16, 16⟩
/-- Table 11.15. -/
def R.FAB_RAE_OUT (i : Nat) : Nat := fabBlock + 0x1100 + 8 * i
def F.FAB_RAE_OUT_OUTSTANDING (i : Nat) : Field := ⟨(R.FAB_RAE_OUT i), 0, 10⟩
def F.FAB_RAE_OUT_PEAK (i : Nat) : Field := ⟨(R.FAB_RAE_OUT i), 16, 10⟩
def F.FAB_RAE_OUT_RETRANSMITS (i : Nat) : Field := ⟨(R.FAB_RAE_OUT i), 32, 32⟩
/-- Table 11.16. -/
def R.FAB_DOME_SLOT (i : Nat) : Nat := fabBlock + 0x1200 + 8 * i
def F.FAB_DOME_SLOT_NODE_ID (i : Nat) : Field := ⟨(R.FAB_DOME_SLOT i), 0, 15⟩
def F.FAB_DOME_SLOT_GLOBAL (i : Nat) : Field := ⟨(R.FAB_DOME_SLOT i), 15, 1⟩
def F.FAB_DOME_SLOT_VALID (i : Nat) : Field := ⟨(R.FAB_DOME_SLOT i), 16, 1⟩
/-- Table 11.17. -/
def R.FAB_WEIR_STATUS : Nat := fabBlock + 0x1600
def F.FAB_WEIR_STATUS_READ_BLOCKS : Field := ⟨R.FAB_WEIR_STATUS, 0, 11⟩
def F.FAB_WEIR_STATUS_PUT_BLOCKS : Field := ⟨R.FAB_WEIR_STATUS, 16, 11⟩
def F.FAB_WEIR_STATUS_WINDOWS : Field := ⟨R.FAB_WEIR_STATUS, 32, 7⟩
/-- Table 11.18. -/
def R.FAB_WEIR_WIN (i j : Nat) : Nat := fabBlock + 0x1800 + 32 * i + 8 * j
def F.FAB_WEIR_WIN_BYTES (i j : Nat) : Field := ⟨(R.FAB_WEIR_WIN i j), 0, 64⟩
/-- Table 12.8. -/
def R.FAB_NODE_ID : Nat := fabBlock + 0x0000
def F.FAB_NODE_ID_NODE_ID : Field := ⟨R.FAB_NODE_ID, 0, 15⟩
def F.FAB_NODE_ID_VALID : Field := ⟨R.FAB_NODE_ID, 15, 1⟩
/-- Table 12.9. -/
def R.FAB_PORTS : Nat := fabBlock + 0x0008
def F.FAB_PORTS_UP : Field := ⟨R.FAB_PORTS, 0, 10⟩
def F.FAB_PORTS_DEGRADED : Field := ⟨R.FAB_PORTS, 16, 10⟩
def F.FAB_PORTS_NOT_CARRYING : Field := ⟨R.FAB_PORTS, 32, 10⟩
def F.FAB_PORTS_TORUS_UP : Field := ⟨R.FAB_PORTS, 48, 3⟩
/-- Table 12.10. -/
def R.FAB_EVENTS : Nat := fabBlock + 0x0010
def F.FAB_EVENTS_PORT_DOWN : Field := ⟨R.FAB_EVENTS, 0, 1⟩
def F.FAB_EVENTS_PORT_DEGRADED : Field := ⟨R.FAB_EVENTS, 1, 1⟩
def F.FAB_EVENTS_MISWIRED : Field := ⟨R.FAB_EVENTS, 2, 1⟩
def F.FAB_EVENTS_FAILOVER : Field := ⟨R.FAB_EVENTS, 3, 1⟩
def F.FAB_EVENTS_ROUTE_MISS : Field := ⟨R.FAB_EVENTS, 4, 1⟩
def F.FAB_EVENTS_ROUTE_SWAPPED : Field := ⟨R.FAB_EVENTS, 5, 1⟩
def F.FAB_EVENTS_FEW_PORTS : Field := ⟨R.FAB_EVENTS, 6, 1⟩
def F.FAB_EVENTS_CACHE_SKIPPED : Field := ⟨R.FAB_EVENTS, 7, 1⟩
/-- Table 12.11. -/
def R.FAB_ROUTE_STORE : Nat := fabBlock + 0x0018
def F.FAB_ROUTE_STORE_SETS : Field := ⟨R.FAB_ROUTE_STORE, 0, 9⟩
def F.FAB_ROUTE_STORE_TAGS : Field := ⟨R.FAB_ROUTE_STORE, 16, 9⟩
def F.FAB_ROUTE_STORE_RELAYS : Field := ⟨R.FAB_ROUTE_STORE, 28, 4⟩
/-- Table 12.12. -/
def R.FAB_ROUTE_LIVE : Nat := fabBlock + 0x0020
def F.FAB_ROUTE_LIVE_JOB_TAG : Field := ⟨R.FAB_ROUTE_LIVE, 0, 16⟩
def F.FAB_ROUTE_LIVE_LIVE_VER : Field := ⟨R.FAB_ROUTE_LIVE, 16, 4⟩
def F.FAB_ROUTE_LIVE_ARMED_VER : Field := ⟨R.FAB_ROUTE_LIVE, 20, 4⟩
def F.FAB_ROUTE_LIVE_ARMED : Field := ⟨R.FAB_ROUTE_LIVE, 24, 1⟩
/-- Table 12.13. -/
def R.FAB_ROUTE_ARM_STEP : Nat := fabBlock + 0x0028
def F.FAB_ROUTE_ARM_STEP_STEP : Field := ⟨R.FAB_ROUTE_ARM_STEP, 0, 40⟩
/-- Table 12.14. -/
def R.FAB_ROUTE_MISSES : Nat := fabBlock + 0x0030
def F.FAB_ROUTE_MISSES_MISSES : Field := ⟨R.FAB_ROUTE_MISSES, 0, 32⟩
def F.FAB_ROUTE_MISSES_FAILOVERS : Field := ⟨R.FAB_ROUTE_MISSES, 32, 32⟩
/-- Table 12.15. -/
def R.FAB_PLAN_DIGEST (i : Nat) : Nat := fabBlock + 0x0040 + 8 * i
def F.FAB_PLAN_DIGEST_BYTES (i : Nat) : Field := ⟨(R.FAB_PLAN_DIGEST i), 0, 64⟩
/-- Table 12.16. -/
def R.FAB_TRANSIT_BYTES : Nat := fabBlock + 0x0060
def F.FAB_TRANSIT_BYTES_BYTES : Field := ⟨R.FAB_TRANSIT_BYTES, 0, 64⟩
/-- Table 12.17. -/
def R.PORT_STATUS (p : Nat) : Nat := portBlock p + 0x0000
def F.PORT_STATUS_STATE (p : Nat) : Field := ⟨(R.PORT_STATUS p), 0, 3⟩
def F.PORT_STATUS_ENABLED (p : Nat) : Field := ⟨(R.PORT_STATUS p), 3, 1⟩
def F.PORT_STATUS_MODE (p : Nat) : Field := ⟨(R.PORT_STATUS p), 4, 3⟩
def F.PORT_STATUS_DEGRADED (p : Nat) : Field := ⟨(R.PORT_STATUS p), 7, 1⟩
def F.PORT_STATUS_FEC (p : Nat) : Field := ⟨(R.PORT_STATUS p), 8, 1⟩
def F.PORT_STATUS_FEC_FORCE_STD (p : Nat) : Field := ⟨(R.PORT_STATUS p), 9, 1⟩
def F.PORT_STATUS_MODE_FLOOR (p : Nat) : Field := ⟨(R.PORT_STATUS p), 10, 3⟩
def F.PORT_STATUS_LANES_TRAINED (p : Nat) : Field := ⟨(R.PORT_STATUS p), 16, 8⟩
def F.PORT_STATUS_LANES_OOS (p : Nat) : Field := ⟨(R.PORT_STATUS p), 24, 8⟩
/-- Table 12.18. -/
def R.PORT_PARTNER (p : Nat) : Nat := portBlock p + 0x0008
def F.PORT_PARTNER_NODE_ID (p : Nat) : Field := ⟨(R.PORT_PARTNER p), 0, 15⟩
def F.PORT_PARTNER_PORT (p : Nat) : Field := ⟨(R.PORT_PARTNER p), 16, 4⟩
def F.PORT_PARTNER_VALID (p : Nat) : Field := ⟨(R.PORT_PARTNER p), 20, 1⟩
def F.PORT_PARTNER_MISWIRED (p : Nat) : Field := ⟨(R.PORT_PARTNER p), 21, 1⟩
def F.PORT_PARTNER_SPINE (p : Nat) : Field := ⟨(R.PORT_PARTNER p), 22, 1⟩
/-- Table 12.19. -/
def R.PORT_CABLE (p : Nat) : Nat := portBlock p + 0x0010
def F.PORT_CABLE_PRESENT (p : Nat) : Field := ⟨(R.PORT_CABLE p), 0, 1⟩
def F.PORT_CABLE_LATCH (p : Nat) : Field := ⟨(R.PORT_CABLE p), 1, 1⟩
def F.PORT_CABLE_TYPE (p : Nat) : Field := ⟨(R.PORT_CABLE p), 2, 2⟩
def F.PORT_CABLE_LENGTH_DM (p : Nat) : Field := ⟨(R.PORT_CABLE p), 8, 8⟩
def F.PORT_CABLE_INSERTIONS (p : Nat) : Field := ⟨(R.PORT_CABLE p), 16, 32⟩
/-- Table 12.20. -/
def R.PORT_EVENTS (p : Nat) : Nat := portBlock p + 0x0018
def F.PORT_EVENTS_TRAINED (p : Nat) : Field := ⟨(R.PORT_EVENTS p), 0, 1⟩
def F.PORT_EVENTS_DEGRADED (p : Nat) : Field := ⟨(R.PORT_EVENTS p), 1, 1⟩
def F.PORT_EVENTS_DOWN (p : Nat) : Field := ⟨(R.PORT_EVENTS p), 2, 1⟩
def F.PORT_EVENTS_RETRAIN (p : Nat) : Field := ⟨(R.PORT_EVENTS p), 3, 1⟩
def F.PORT_EVENTS_DRAINED (p : Nat) : Field := ⟨(R.PORT_EVENTS p), 4, 1⟩
def F.PORT_EVENTS_MISWIRED (p : Nat) : Field := ⟨(R.PORT_EVENTS p), 5, 1⟩
def F.PORT_EVENTS_CABLE_IN (p : Nat) : Field := ⟨(R.PORT_EVENTS p), 6, 1⟩
def F.PORT_EVENTS_UNANNOUNCED_LOSS (p : Nat) : Field := ⟨(R.PORT_EVENTS p), 7, 1⟩
/-- Table 12.21. -/
def R.PORT_COUNTS (p : Nat) : Nat := portBlock p + 0x0020
def F.PORT_COUNTS_LINK_REPLAYS (p : Nat) : Field := ⟨(R.PORT_COUNTS p), 0, 32⟩
def F.PORT_COUNTS_RETRAINS (p : Nat) : Field := ⟨(R.PORT_COUNTS p), 32, 16⟩
def F.PORT_COUNTS_DOWNS (p : Nat) : Field := ⟨(R.PORT_COUNTS p), 48, 16⟩
/-- Table 12.22. -/
def R.PORT_FEC (p : Nat) : Nat := portBlock p + 0x0028
def F.PORT_FEC_CORRECTED (p : Nat) : Field := ⟨(R.PORT_FEC p), 0, 48⟩
def F.PORT_FEC_UNCORRECTED (p : Nat) : Field := ⟨(R.PORT_FEC p), 48, 16⟩
/-- Table 12.23. -/
def R.PORT_TX_BYTES (p : Nat) : Nat := portBlock p + 0x0030
def F.PORT_TX_BYTES_BYTES (p : Nat) : Field := ⟨(R.PORT_TX_BYTES p), 0, 64⟩
/-- Table 12.23. -/
def R.PORT_RX_BYTES (p : Nat) : Nat := portBlock p + 0x0038
def F.PORT_RX_BYTES_BYTES (p : Nat) : Field := ⟨(R.PORT_RX_BYTES p), 0, 64⟩
/-- Table 13.10. -/
def R.COLL_STATUS : Nat := collBlock + 0x0000
def F.COLL_STATUS_RUNNING : Field := ⟨R.COLL_STATUS, 0, 16⟩
def F.COLL_STATUS_LIVE : Field := ⟨R.COLL_STATUS, 16, 16⟩
def F.COLL_STATUS_ARMED : Field := ⟨R.COLL_STATUS, 32, 16⟩
def F.COLL_STATUS_BCAST : Field := ⟨R.COLL_STATUS, 48, 1⟩
/-- Table 13.11. -/
def R.COLL_EVENTS : Nat := collBlock + 0x0008
def F.COLL_EVENTS_REFETCH : Field := ⟨R.COLL_EVENTS, 0, 1⟩
def F.COLL_EVENTS_UNRECOVERABLE : Field := ⟨R.COLL_EVENTS, 1, 1⟩
def F.COLL_EVENTS_ABORTED : Field := ⟨R.COLL_EVENTS, 2, 1⟩
def F.COLL_EVENTS_STALE_CHUNK : Field := ⟨R.COLL_EVENTS, 3, 1⟩
def F.COLL_EVENTS_REPARENT : Field := ⟨R.COLL_EVENTS, 4, 1⟩
def F.COLL_EVENTS_PARTIAL : Field := ⟨R.COLL_EVENTS, 5, 1⟩
def F.COLL_EVENTS_POISON : Field := ⟨R.COLL_EVENTS, 6, 1⟩
def F.COLL_EVENTS_RESIDUE_RETRY : Field := ⟨R.COLL_EVENTS, 7, 1⟩
def F.COLL_EVENTS_RESIDUE_FAIL : Field := ⟨R.COLL_EVENTS, 8, 1⟩
/-- Table 13.12. -/
def R.COLL_COUNTS : Nat := collBlock + 0x0010
def F.COLL_COUNTS_REFETCHES : Field := ⟨R.COLL_COUNTS, 0, 32⟩
def F.COLL_COUNTS_RESIDUE_RETRIES : Field := ⟨R.COLL_COUNTS, 32, 16⟩
def F.COLL_COUNTS_REPARENTS : Field := ⟨R.COLL_COUNTS, 48, 16⟩
/-- Table 13.13. -/
def R.COLL_COMMITTED : Nat := collBlock + 0x0018
def F.COLL_COMMITTED_BYTES : Field := ⟨R.COLL_COMMITTED, 0, 64⟩
/-- Table 13.14. -/
def R.COLL_FIELD_WEIGHT : Nat := collBlock + 0x0020
def F.COLL_FIELD_WEIGHT_WEIGHT : Field := ⟨R.COLL_FIELD_WEIGHT, 0, 8⟩
/-- Table 13.15. -/
def R.COLL_INSTALL : Nat := collBlock + 0x0028
def F.COLL_INSTALL_SLOT : Field := ⟨R.COLL_INSTALL, 0, 4⟩
def F.COLL_INSTALL_ARM : Field := ⟨R.COLL_INSTALL, 4, 1⟩
def F.COLL_INSTALL_ADDR : Field := ⟨R.COLL_INSTALL, 6, 42⟩
def F.COLL_INSTALL_ERROR : Field := ⟨R.COLL_INSTALL, 48, 4⟩
/-- Table 13.16. -/
def R.COLL_INSTALL_STEP : Nat := collBlock + 0x0030
def F.COLL_INSTALL_STEP_STEP : Field := ⟨R.COLL_INSTALL_STEP, 0, 40⟩
/-- Table 13.17. -/
def R.COLL_GRP_STATUS (i : Nat) : Nat := collBlock + 0x0100 + 32 * i
def F.COLL_GRP_STATUS_STATE (i : Nat) : Field := ⟨(R.COLL_GRP_STATUS i), 0, 2⟩
def F.COLL_GRP_STATUS_SHAPE (i : Nat) : Field := ⟨(R.COLL_GRP_STATUS i), 2, 2⟩
def F.COLL_GRP_STATUS_ARMED (i : Nat) : Field := ⟨(R.COLL_GRP_STATUS i), 4, 1⟩
def F.COLL_GRP_STATUS_TERRACE (i : Nat) : Field := ⟨(R.COLL_GRP_STATUS i), 8, 4⟩
def F.COLL_GRP_STATUS_MEMBERS (i : Nat) : Field := ⟨(R.COLL_GRP_STATUS i), 16, 17⟩
def F.COLL_GRP_STATUS_MY_INDEX (i : Nat) : Field := ⟨(R.COLL_GRP_STATUS i), 40, 17⟩
/-- Table 13.18. -/
def R.COLL_GRP_SEQ (i : Nat) : Nat := collBlock + 0x0108 + 32 * i
def F.COLL_GRP_SEQ_INVOCATION (i : Nat) : Field := ⟨(R.COLL_GRP_SEQ i), 0, 8⟩
def F.COLL_GRP_SEQ_WEIGHT (i : Nat) : Field := ⟨(R.COLL_GRP_SEQ i), 8, 8⟩
def F.COLL_GRP_SEQ_STEP (i : Nat) : Field := ⟨(R.COLL_GRP_SEQ i), 24, 40⟩
/-- Table 13.19. -/
def R.COLL_GRP_LAST (i : Nat) : Nat := collBlock + 0x0110 + 32 * i
def F.COLL_GRP_LAST_STATUS (i : Nat) : Field := ⟨(R.COLL_GRP_LAST i), 0, 16⟩
def F.COLL_GRP_LAST_ORIGIN (i : Nat) : Field := ⟨(R.COLL_GRP_LAST i), 16, 17⟩
def F.COLL_GRP_LAST_REFETCHES (i : Nat) : Field := ⟨(R.COLL_GRP_LAST i), 40, 24⟩
/-- Table 13.20. -/
def R.COLL_GRP_BYTES (i : Nat) : Nat := collBlock + 0x0118 + 32 * i
def F.COLL_GRP_BYTES_BYTES (i : Nat) : Field := ⟨(R.COLL_GRP_BYTES i), 0, 64⟩
/-- Table 14.10. -/
def R.CKPT_STATUS : Nat := ckptBlock + 0x0000
def F.CKPT_STATUS_STATE : Field := ⟨R.CKPT_STATUS, 0, 3⟩
def F.CKPT_STATUS_POLICY : Field := ⟨R.CKPT_STATUS, 3, 1⟩
def F.CKPT_STATUS_NOW_PENDING : Field := ⟨R.CKPT_STATUS, 4, 1⟩
def F.CKPT_STATUS_HALF : Field := ⟨R.CKPT_STATUS, 5, 1⟩
def F.CKPT_STATUS_SEQ : Field := ⟨R.CKPT_STATUS, 32, 32⟩
/-- Table 14.11. -/
def R.CKPT_REFL_BASE : Nat := ckptBlock + 0x0008
def F.CKPT_REFL_BASE_VALUE : Field := ⟨R.CKPT_REFL_BASE, 0, 64⟩
/-- Table 14.11. -/
def R.CKPT_REFL_LEN : Nat := ckptBlock + 0x0010
def F.CKPT_REFL_LEN_VALUE : Field := ⟨R.CKPT_REFL_LEN, 0, 64⟩
/-- Table 14.12. -/
def R.CKPT_TOTAL : Nat := ckptBlock + 0x0018
def F.CKPT_TOTAL_BYTES : Field := ⟨R.CKPT_TOTAL, 0, 48⟩
/-- Table 14.12. -/
def R.CKPT_COPIED : Nat := ckptBlock + 0x0020
def F.CKPT_COPIED_BYTES : Field := ⟨R.CKPT_COPIED, 0, 48⟩
/-- Table 14.12. -/
def R.CKPT_DRAINED : Nat := ckptBlock + 0x0028
def F.CKPT_DRAINED_BYTES : Field := ⟨R.CKPT_DRAINED, 0, 48⟩
/-- Table 14.13. -/
def R.CKPT_LAST : Nat := ckptBlock + 0x0030
def F.CKPT_LAST_STATUS : Field := ⟨R.CKPT_LAST, 0, 16⟩
def F.CKPT_LAST_STEP : Field := ⟨R.CKPT_LAST, 16, 40⟩
def F.CKPT_LAST_HALF : Field := ⟨R.CKPT_LAST, 56, 1⟩
/-- Table 14.14. -/
def R.CKPT_LAST_JOB : Nat := ckptBlock + 0x0038
def F.CKPT_LAST_JOB_JOB_ID : Field := ⟨R.CKPT_LAST_JOB, 0, 64⟩
/-- Table 14.15. -/
def R.CKPT_EVENTS : Nat := ckptBlock + 0x0040
def F.CKPT_EVENTS_DONE : Field := ⟨R.CKPT_EVENTS, 0, 1⟩
def F.CKPT_EVENTS_FAILED : Field := ⟨R.CKPT_EVENTS, 1, 1⟩
def F.CKPT_EVENTS_OVERLAP : Field := ⟨R.CKPT_EVENTS, 2, 1⟩
def F.CKPT_EVENTS_PORT_FALLBACK : Field := ⟨R.CKPT_EVENTS, 3, 1⟩
def F.CKPT_EVENTS_CACHE_SKIPPED : Field := ⟨R.CKPT_EVENTS, 4, 1⟩
def F.CKPT_EVENTS_RESTORED : Field := ⟨R.CKPT_EVENTS, 5, 1⟩
def F.CKPT_EVENTS_REFL_REFUSED : Field := ⟨R.CKPT_EVENTS, 6, 1⟩
/-- Table 14.16. -/
def R.CKPT_GUARD : Nat := ckptBlock + 0x0048
def F.CKPT_GUARD_STALLS : Field := ⟨R.CKPT_GUARD, 0, 32⟩
def F.CKPT_GUARD_MAX_STALL_NS : Field := ⟨R.CKPT_GUARD, 32, 16⟩
/-- Table 14.17. -/
def R.CKPT_MSI : Nat := ckptBlock + 0x0050
def F.CKPT_MSI_ENABLE : Field := ⟨R.CKPT_MSI, 0, 1⟩
def F.CKPT_MSI_HART : Field := ⟨R.CKPT_MSI, 8, 8⟩
def F.CKPT_MSI_EIID : Field := ⟨R.CKPT_MSI, 16, 11⟩
/-- Table 14.18. -/
def R.CKPT_LAST_DIGEST (i : Nat) : Nat := ckptBlock + 0x0060 + 8 * i
def F.CKPT_LAST_DIGEST_BYTES (i : Nat) : Field := ⟨(R.CKPT_LAST_DIGEST i), 0, 64⟩
/-- Table 16.11. -/
def R.NODE_CMD_RING_BASE (i : Nat) : Nat := nodeBlock + 0x0400 + 32 * i
def F.NODE_CMD_RING_BASE_BASE (i : Nat) : Field := ⟨(R.NODE_CMD_RING_BASE i), 6, 42⟩
/-- Table 16.12. -/
def R.NODE_CMD_RING_CTRL (i : Nat) : Nat := nodeBlock + 0x0408 + 32 * i
def F.NODE_CMD_RING_CTRL_LOG2_RECORDS (i : Nat) : Field := ⟨(R.NODE_CMD_RING_CTRL i), 0, 5⟩
def F.NODE_CMD_RING_CTRL_ENABLE (i : Nat) : Field := ⟨(R.NODE_CMD_RING_CTRL i), 8, 1⟩
def F.NODE_CMD_RING_CTRL_MSI (i : Nat) : Field := ⟨(R.NODE_CMD_RING_CTRL i), 9, 1⟩
def F.NODE_CMD_RING_CTRL_HART (i : Nat) : Field := ⟨(R.NODE_CMD_RING_CTRL i), 16, 8⟩
def F.NODE_CMD_RING_CTRL_EVENT_MASK (i : Nat) : Field := ⟨(R.NODE_CMD_RING_CTRL i), 24, 8⟩
def F.NODE_CMD_RING_CTRL_EIID (i : Nat) : Field := ⟨(R.NODE_CMD_RING_CTRL i), 32, 11⟩
/-- Table 16.13. -/
def R.NODE_CMD_RING_HEAD (i : Nat) : Nat := nodeBlock + 0x0410 + 32 * i
def F.NODE_CMD_RING_HEAD_INDEX (i : Nat) : Field := ⟨(R.NODE_CMD_RING_HEAD i), 0, 32⟩
/-- Table 16.13. -/
def R.NODE_CMD_RING_TAIL (i : Nat) : Nat := nodeBlock + 0x0418 + 32 * i
def F.NODE_CMD_RING_TAIL_INDEX (i : Nat) : Field := ⟨(R.NODE_CMD_RING_TAIL i), 0, 32⟩
/-- Table 16.14. -/
def R.NODE_CMD_EVENTS : Nat := nodeBlock + 0x0600
def F.NODE_CMD_EVENTS_EVENT_DROPPED : Field := ⟨R.NODE_CMD_EVENTS, 0, 1⟩
def F.NODE_CMD_EVENTS_MGMT_UNACKED : Field := ⟨R.NODE_CMD_EVENTS, 1, 1⟩
def F.NODE_CMD_EVENTS_SLOT_DROP : Field := ⟨R.NODE_CMD_EVENTS, 2, 1⟩
def F.NODE_CMD_EVENTS_REMOTE_DEAD : Field := ⟨R.NODE_CMD_EVENTS, 3, 1⟩
/-- Table 16.15. -/
def R.NODE_CMD_COUNTS : Nat := nodeBlock + 0x0608
def F.NODE_CMD_COUNTS_ACCEPTED : Field := ⟨R.NODE_CMD_COUNTS, 0, 32⟩
def F.NODE_CMD_COUNTS_REFUSED : Field := ⟨R.NODE_CMD_COUNTS, 32, 16⟩
def F.NODE_CMD_COUNTS_OUTSTANDING : Field := ⟨R.NODE_CMD_COUNTS, 48, 16⟩
/-- Table 17.13. -/
def R.KEEP_STATUS : Nat := keepBlock + 0x0000
def F.KEEP_STATUS_READY : Field := ⟨R.KEEP_STATUS, 0, 1⟩
def F.KEEP_STATUS_WRITING : Field := ⟨R.KEEP_STATUS, 1, 1⟩
def F.KEEP_STATUS_HOLDUP : Field := ⟨R.KEEP_STATUS, 2, 1⟩
def F.KEEP_STATUS_REBUILT : Field := ⟨R.KEEP_STATUS, 3, 1⟩
def F.KEEP_STATUS_DAMAGED : Field := ⟨R.KEEP_STATUS, 8, 10⟩
def F.KEEP_STATUS_JOURNAL_POS : Field := ⟨R.KEEP_STATUS, 32, 15⟩
/-- Table 17.14. -/
def R.KEEP_SEQ : Nat := keepBlock + 0x0008
def F.KEEP_SEQ_SEQ : Field := ⟨R.KEEP_SEQ, 0, 64⟩
/-- Table 17.15. -/
def R.KEEP_EVENTS : Nat := keepBlock + 0x0010
def F.KEEP_EVENTS_WORN : Field := ⟨R.KEEP_EVENTS, 0, 1⟩
def F.KEEP_EVENTS_DAMAGED : Field := ⟨R.KEEP_EVENTS, 1, 1⟩
def F.KEEP_EVENTS_SECTOR_REMAPPED : Field := ⟨R.KEEP_EVENTS, 2, 1⟩
def F.KEEP_EVENTS_HOLDUP : Field := ⟨R.KEEP_EVENTS, 3, 1⟩
def F.KEEP_EVENTS_TORN : Field := ⟨R.KEEP_EVENTS, 4, 1⟩
def F.KEEP_EVENTS_PLAN_FALLBACK : Field := ⟨R.KEEP_EVENTS, 5, 1⟩
def F.KEEP_EVENTS_SKIPPED : Field := ⟨R.KEEP_EVENTS, 6, 1⟩
/-- Table 17.16. -/
def R.KEEP_POWER : Nat := keepBlock + 0x0018
def F.KEEP_POWER_LOW : Field := ⟨R.KEEP_POWER, 0, 32⟩
def F.KEEP_POWER_HIGH : Field := ⟨R.KEEP_POWER, 32, 32⟩
/-- Table 17.16. -/
def R.KEEP_CUTS : Nat := keepBlock + 0x0020
def F.KEEP_CUTS_LOW : Field := ⟨R.KEEP_CUTS, 0, 32⟩
def F.KEEP_CUTS_HIGH : Field := ⟨R.KEEP_CUTS, 32, 32⟩
/-- Table 17.17. -/
def R.KEEP_REGION (i : Nat) : Nat := keepBlock + 0x0100 + 16 * i
def F.KEEP_REGION_VALUE (i : Nat) : Field := ⟨(R.KEEP_REGION i), 0, 64⟩
/-- Table 17.17. -/
def R.KEEP_BUDGET (i : Nat) : Nat := keepBlock + 0x0108 + 16 * i
def F.KEEP_BUDGET_VALUE (i : Nat) : Field := ⟨(R.KEEP_BUDGET i), 0, 64⟩
/-- Table 17.18. -/
def R.AGE_STATUS : Nat := ageBlock + 0x0000
def F.AGE_STATUS_QUEUED : Field := ⟨R.AGE_STATUS, 0, 7⟩
def F.AGE_STATUS_REPLANNING : Field := ⟨R.AGE_STATUS, 7, 1⟩
def F.AGE_STATUS_RUNNING : Field := ⟨R.AGE_STATUS, 16, 16⟩
def F.AGE_STATUS_RETIRED : Field := ⟨R.AGE_STATUS, 32, 16⟩
/-- Table 17.19. -/
def R.AGE_FORECAST : Nat := ageBlock + 0x0008
def F.AGE_FORECAST_MONTHS : Field := ⟨R.AGE_FORECAST, 0, 8⟩
def F.AGE_FORECAST_LIMITER : Field := ⟨R.AGE_FORECAST, 8, 3⟩
def F.AGE_FORECAST_UNIT : Field := ⟨R.AGE_FORECAST, 16, 8⟩
def F.AGE_FORECAST_ADVISED : Field := ⟨R.AGE_FORECAST, 24, 1⟩
/-- Table 17.20. -/
def R.AGE_PLAN : Nat := ageBlock + 0x0010
def F.AGE_PLAN_VALUE : Field := ⟨R.AGE_PLAN, 0, 64⟩
/-- Table 17.20. -/
def R.AGE_PLAN_DIGEST (i : Nat) : Nat := ageBlock + 0x0018 + 8 * i
def F.AGE_PLAN_DIGEST_VALUE (i : Nat) : Field := ⟨(R.AGE_PLAN_DIGEST i), 0, 64⟩
/-- Table 17.21. -/
def R.AGE_EVENTS : Nat := ageBlock + 0x0040
def F.AGE_EVENTS_SURVEY_DONE : Field := ⟨R.AGE_EVENTS, 0, 1⟩
def F.AGE_EVENTS_NO_WINDOW : Field := ⟨R.AGE_EVENTS, 1, 1⟩
def F.AGE_EVENTS_PLAN_APPLIED : Field := ⟨R.AGE_EVENTS, 2, 1⟩
def F.AGE_EVENTS_ADVISED : Field := ⟨R.AGE_EVENTS, 3, 1⟩
def F.AGE_EVENTS_TERRACE_RETIRED : Field := ⟨R.AGE_EVENTS, 4, 1⟩
def F.AGE_EVENTS_SELFTEST_FAIL : Field := ⟨R.AGE_EVENTS, 5, 1⟩
def F.AGE_EVENTS_QUEUE_FULL : Field := ⟨R.AGE_EVENTS, 6, 1⟩
/-- Table 17.22. -/
def R.AGE_TERRACE (i : Nat) : Nat := ageBlock + 0x0100 + 8 * i
def F.AGE_TERRACE_MARGIN_MV (i : Nat) : Field := ⟨(R.AGE_TERRACE i), 0, 16⟩
def F.AGE_TERRACE_VOLT_MV (i : Nat) : Field := ⟨(R.AGE_TERRACE i), 16, 8⟩
def F.AGE_TERRACE_MAX_MHZ (i : Nat) : Field := ⟨(R.AGE_TERRACE i), 32, 16⟩
/-- Table 17.23. -/
def R.AGE_MEM (i : Nat) : Nat := ageBlock + 0x0200 + 8 * i
def F.AGE_MEM_RET_MS (i : Nat) : Field := ⟨(R.AGE_MEM i), 0, 32⟩
def F.AGE_MEM_REFRESH_NS (i : Nat) : Field := ⟨(R.AGE_MEM i), 32, 16⟩
/-- Table 17.24. -/
def R.AGE_EYE (i : Nat) : Nat := ageBlock + 0x0300 + 8 * i
def F.AGE_EYE_MIN_HEIGHT_MV (i : Nat) : Field := ⟨(R.AGE_EYE i), 0, 8⟩
def F.AGE_EYE_MIN_WIDTH (i : Nat) : Field := ⟨(R.AGE_EYE i), 8, 8⟩
def F.AGE_EYE_WORST_LANE (i : Nat) : Field := ⟨(R.AGE_EYE i), 16, 3⟩
/-- Table 18.8. -/
def R.NODE_STAGE : Nat := nodeBlock + 0x0200
def F.NODE_STAGE_STAGE : Field := ⟨R.NODE_STAGE, 0, 4⟩
def F.NODE_STAGE_STATE : Field := ⟨R.NODE_STAGE, 4, 2⟩
def F.NODE_STAGE_RETRIED : Field := ⟨R.NODE_STAGE, 6, 1⟩
def F.NODE_STAGE_DEGRADED : Field := ⟨R.NODE_STAGE, 7, 1⟩
def F.NODE_STAGE_LAST_STATUS : Field := ⟨R.NODE_STAGE, 16, 16⟩
def F.NODE_STAGE_BRINGUPS : Field := ⟨R.NODE_STAGE, 32, 32⟩
/-- Table 18.9. -/
def R.NODE_RESET : Nat := nodeBlock + 0x0208
def F.NODE_RESET_TERRACES : Field := ⟨R.NODE_RESET, 0, 16⟩
def F.NODE_RESET_TOWERS : Field := ⟨R.NODE_RESET, 16, 2⟩
def F.NODE_RESET_NODE : Field := ⟨R.NODE_RESET, 18, 1⟩
def F.NODE_RESET_CAUSE : Field := ⟨R.NODE_RESET, 24, 3⟩
/-- Table 18.10. -/
def R.NODE_RESET_COUNTS : Nat := nodeBlock + 0x0210
def F.NODE_RESET_COUNTS_TERRACE : Field := ⟨R.NODE_RESET_COUNTS, 0, 32⟩
def F.NODE_RESET_COUNTS_TOWER : Field := ⟨R.NODE_RESET_COUNTS, 32, 16⟩
def F.NODE_RESET_COUNTS_NODE : Field := ⟨R.NODE_RESET_COUNTS, 48, 16⟩
/-- Table 19.7. -/
def R.NODE_REC_STATUS : Nat := nodeBlock + 0x0700
def F.NODE_REC_STATUS_STATE : Field := ⟨R.NODE_REC_STATUS, 0, 2⟩
def F.NODE_REC_STATUS_CLASSES : Field := ⟨R.NODE_REC_STATUS, 2, 3⟩
def F.NODE_REC_STATUS_BASE : Field := ⟨R.NODE_REC_STATUS, 6, 42⟩
def F.NODE_REC_STATUS_LENGTH_MIB : Field := ⟨R.NODE_REC_STATUS, 48, 16⟩
/-- Table 19.8. -/
def R.NODE_REC_HEAD : Nat := nodeBlock + 0x0708
def F.NODE_REC_HEAD_OFFSET : Field := ⟨R.NODE_REC_HEAD, 0, 48⟩
/-- Table 19.8. -/
def R.NODE_REC_TAIL : Nat := nodeBlock + 0x0710
def F.NODE_REC_TAIL_OFFSET : Field := ⟨R.NODE_REC_TAIL, 0, 48⟩
/-- Table 19.9. -/
def R.NODE_REC_COUNTS : Nat := nodeBlock + 0x0718
def F.NODE_REC_COUNTS_WRITTEN : Field := ⟨R.NODE_REC_COUNTS, 0, 40⟩
def F.NODE_REC_COUNTS_DROPPED : Field := ⟨R.NODE_REC_COUNTS, 40, 24⟩
/-- Table 19.13. -/
def R.NODE_REC_LENGTH : Nat := nodeBlock + 0x0720
def F.NODE_REC_LENGTH_BYTES : Field := ⟨R.NODE_REC_LENGTH, 0, 48⟩
/-- Table 19.10. -/
def R.NODE_SEALED_LAST : Nat := nodeBlock + 0x0800
def F.NODE_SEALED_LAST_CAUSE : Field := ⟨R.NODE_SEALED_LAST, 0, 3⟩
def F.NODE_SEALED_LAST_PAIR : Field := ⟨R.NODE_SEALED_LAST, 4, 3⟩
def F.NODE_SEALED_LAST_INDEX : Field := ⟨R.NODE_SEALED_LAST, 8, 5⟩
def F.NODE_SEALED_LAST_UNIT : Field := ⟨R.NODE_SEALED_LAST, 13, 3⟩
def F.NODE_SEALED_LAST_STEP : Field := ⟨R.NODE_SEALED_LAST, 16, 40⟩
/-- Table 19.11. -/
def R.NODE_CHECK_EVENTS : Nat := nodeBlock + 0x0808
def F.NODE_CHECK_EVENTS_DIVERGED : Field := ⟨R.NODE_CHECK_EVENTS, 0, 1⟩
def F.NODE_CHECK_EVENTS_MOP_RESIDUE : Field := ⟨R.NODE_CHECK_EVENTS, 1, 1⟩
def F.NODE_CHECK_EVENTS_CORE_RESIDUE : Field := ⟨R.NODE_CHECK_EVENTS, 2, 1⟩
def F.NODE_CHECK_EVENTS_MOVER_RESIDUE : Field := ⟨R.NODE_CHECK_EVENTS, 3, 1⟩
def F.NODE_CHECK_EVENTS_REPLAY_MISMATCH : Field := ⟨R.NODE_CHECK_EVENTS, 4, 1⟩
/-- Table 19.12. -/
def R.NODE_CHECK_COUNTS : Nat := nodeBlock + 0x0810
def F.NODE_CHECK_COUNTS_RETRIES : Field := ⟨R.NODE_CHECK_COUNTS, 0, 32⟩
def F.NODE_CHECK_COUNTS_FAILS : Field := ⟨R.NODE_CHECK_COUNTS, 32, 16⟩
def F.NODE_CHECK_COUNTS_DIVERGENCES : Field := ⟨R.NODE_CHECK_COUNTS, 48, 16⟩
/-- Table 20.6. -/
def R.SEC_STATUS : Nat := secBlock + 0x0000
def F.SEC_STATUS_BOOT_SLOT : Field := ⟨R.SEC_STATUS, 0, 1⟩
def F.SEC_STATUS_FALLBACK : Field := ⟨R.SEC_STATUS, 1, 1⟩
def F.SEC_STATUS_STAGED : Field := ⟨R.SEC_STATUS, 2, 1⟩
def F.SEC_STATUS_STAGING : Field := ⟨R.SEC_STATUS, 3, 1⟩
def F.SEC_STATUS_SESSIONS : Field := ⟨R.SEC_STATUS, 4, 4⟩
def F.SEC_STATUS_COUNTER : Field := ⟨R.SEC_STATUS, 8, 7⟩
def F.SEC_STATUS_SESSION_KEY : Field := ⟨R.SEC_STATUS, 15, 1⟩
def F.SEC_STATUS_ACTIVE_SVN : Field := ⟨R.SEC_STATUS, 16, 7⟩
def F.SEC_STATUS_STAGED_SVN : Field := ⟨R.SEC_STATUS, 24, 7⟩
/-- Table 20.7. -/
def R.SEC_FW_VERSION : Nat := secBlock + 0x0008
def F.SEC_FW_VERSION_VALUE : Field := ⟨R.SEC_FW_VERSION, 0, 64⟩
/-- Table 20.7. -/
def R.SEC_FW_DIGEST (i : Nat) : Nat := secBlock + 0x0010 + 8 * i
def F.SEC_FW_DIGEST_VALUE (i : Nat) : Field := ⟨(R.SEC_FW_DIGEST i), 0, 64⟩
/-- Table 20.7. -/
def R.SEC_STAGED_DIGEST (i : Nat) : Nat := secBlock + 0x0030 + 8 * i
def F.SEC_STAGED_DIGEST_VALUE (i : Nat) : Field := ⟨(R.SEC_STAGED_DIGEST i), 0, 64⟩
/-- Table 20.7. -/
def R.SEC_ROOT_HASH (i : Nat) : Nat := secBlock + 0x0050 + 8 * i
def F.SEC_ROOT_HASH_VALUE (i : Nat) : Field := ⟨(R.SEC_ROOT_HASH i), 0, 64⟩
/-- Table 20.8. -/
def R.SEC_EVENTS : Nat := secBlock + 0x0070
def F.SEC_EVENTS_FALLBACK_BOOT : Field := ⟨R.SEC_EVENTS, 0, 1⟩
def F.SEC_EVENTS_ROLLBACK_ADVANCED : Field := ⟨R.SEC_EVENTS, 1, 1⟩
def F.SEC_EVENTS_STAGE_FAILED : Field := ⟨R.SEC_EVENTS, 2, 1⟩
def F.SEC_EVENTS_SESSION_REFUSED : Field := ⟨R.SEC_EVENTS, 3, 1⟩
def F.SEC_EVENTS_KEY_ROTATED : Field := ⟨R.SEC_EVENTS, 4, 1⟩
def F.SEC_EVENTS_PRIV_REFUSED : Field := ⟨R.SEC_EVENTS, 5, 1⟩
/-- Table 20.9. -/
def R.SEC_COUNTS : Nat := secBlock + 0x0078
def F.SEC_COUNTS_REFUSED : Field := ⟨R.SEC_COUNTS, 0, 32⟩
def F.SEC_COUNTS_AUTH_FAILS : Field := ⟨R.SEC_COUNTS, 32, 16⟩
def F.SEC_COUNTS_ATTESTS : Field := ⟨R.SEC_COUNTS, 48, 16⟩
/-- Table 21.10. -/
def R.PANEL_STATUS : Nat := panelBlock + 0x0000
def F.PANEL_STATUS_COLOUR : Field := ⟨R.PANEL_STATUS, 0, 2⟩
def F.PANEL_STATUS_PATTERN : Field := ⟨R.PANEL_STATUS, 2, 2⟩
def F.PANEL_STATUS_CODE : Field := ⟨R.PANEL_STATUS, 4, 4⟩
def F.PANEL_STATUS_BUTTON : Field := ⟨R.PANEL_STATUS, 8, 1⟩
def F.PANEL_STATUS_REQUEST : Field := ⟨R.PANEL_STATUS, 9, 2⟩
/-- Table 21.11. -/
def R.PANEL_LIGHTS : Nat := panelBlock + 0x0008
/-- Table 21.11: the light of port k. -/
def F.PANEL_LIGHTS_PORT (k : Nat) : Field := ⟨R.PANEL_LIGHTS, 4 * k, 4⟩
/-- Table 21.12. -/
def R.PANEL_CABLES : Nat := panelBlock + 0x0010
def F.PANEL_CABLES_PRESENT : Field := ⟨R.PANEL_CABLES, 0, 10⟩
def F.PANEL_CABLES_LATCH : Field := ⟨R.PANEL_CABLES, 16, 10⟩
def F.PANEL_CABLES_WARNED : Field := ⟨R.PANEL_CABLES, 32, 10⟩
/-- Table 21.13. -/
def R.PANEL_EVENTS : Nat := panelBlock + 0x0018
def F.PANEL_EVENTS_PRESS : Field := ⟨R.PANEL_EVENTS, 0, 1⟩
def F.PANEL_EVENTS_CANCEL : Field := ⟨R.PANEL_EVENTS, 1, 1⟩
def F.PANEL_EVENTS_REMOVABLE : Field := ⟨R.PANEL_EVENTS, 2, 1⟩
def F.PANEL_EVENTS_LATCH_WARNING : Field := ⟨R.PANEL_EVENTS, 3, 1⟩
def F.PANEL_EVENTS_UNANNOUNCED_LOSS : Field := ⟨R.PANEL_EVENTS, 4, 1⟩
def F.PANEL_EVENTS_CABLE_IN : Field := ⟨R.PANEL_EVENTS, 5, 1⟩
def F.PANEL_EVENTS_MGMT_LINK : Field := ⟨R.PANEL_EVENTS, 6, 1⟩
def F.PANEL_EVENTS_TSB_DROPPED : Field := ⟨R.PANEL_EVENTS, 7, 1⟩
/-- Table 21.14. -/
def R.PANEL_COUNTS : Nat := panelBlock + 0x0020
def F.PANEL_COUNTS_PRESSES : Field := ⟨R.PANEL_COUNTS, 0, 16⟩
def F.PANEL_COUNTS_CANCELS : Field := ⟨R.PANEL_COUNTS, 16, 16⟩
def F.PANEL_COUNTS_LATCH_WARNINGS : Field := ⟨R.PANEL_COUNTS, 32, 16⟩
def F.PANEL_COUNTS_UNANNOUNCED : Field := ⟨R.PANEL_COUNTS, 48, 16⟩
/-- Table 21.15. -/
def R.PANEL_MGMT : Nat := panelBlock + 0x0028
def F.PANEL_MGMT_LINK_UP : Field := ⟨R.PANEL_MGMT, 0, 1⟩
def F.PANEL_MGMT_FEC : Field := ⟨R.PANEL_MGMT, 1, 2⟩
def F.PANEL_MGMT_ADDR_VALID : Field := ⟨R.PANEL_MGMT, 3, 1⟩
def F.PANEL_MGMT_STATIC : Field := ⟨R.PANEL_MGMT, 4, 1⟩
def F.PANEL_MGMT_CONFIG_BAD : Field := ⟨R.PANEL_MGMT, 5, 1⟩
def F.PANEL_MGMT_UDP_PORT : Field := ⟨R.PANEL_MGMT, 16, 16⟩
def F.PANEL_MGMT_MTU : Field := ⟨R.PANEL_MGMT, 32, 16⟩
def F.PANEL_MGMT_PREFIX_LEN : Field := ⟨R.PANEL_MGMT, 48, 8⟩
/-- Table 21.16. -/
def R.PANEL_MGMT_ADDR (i : Nat) : Nat := panelBlock + 0x0030 + 8 * i
def F.PANEL_MGMT_ADDR_BYTES (i : Nat) : Field := ⟨(R.PANEL_MGMT_ADDR i), 0, 64⟩
/-- Table 21.16. -/
def R.PANEL_MGMT_LL (i : Nat) : Nat := panelBlock + 0x0040 + 8 * i
def F.PANEL_MGMT_LL_BYTES (i : Nat) : Field := ⟨(R.PANEL_MGMT_LL i), 0, 64⟩
/-- Table 21.17. -/
def R.PANEL_MGMT_MAC : Nat := panelBlock + 0x0050
def F.PANEL_MGMT_MAC_MAC : Field := ⟨R.PANEL_MGMT_MAC, 0, 48⟩
/-- Table 21.18. -/
def R.PANEL_TSB : Nat := panelBlock + 0x0058
def F.PANEL_TSB_DYN_ADDR : Field := ⟨R.PANEL_TSB, 0, 7⟩
def F.PANEL_TSB_ADDR_VALID : Field := ⟨R.PANEL_TSB, 7, 1⟩
def F.PANEL_TSB_QUEUED : Field := ⟨R.PANEL_TSB, 8, 7⟩
def F.PANEL_TSB_IBI_ENABLED : Field := ⟨R.PANEL_TSB, 15, 1⟩
/-- Table 21.19. -/
def R.PANEL_CTRL : Nat := panelBlock + 0x0060
def F.PANEL_CTRL_LOCATE : Field := ⟨R.PANEL_CTRL, 0, 1⟩
/-- Table 22.9. -/
def R.NODE_SUPPLY : Nat := nodeBlock + 0x0300
def F.NODE_SUPPLY_FEED_A_MV : Field := ⟨R.NODE_SUPPLY, 0, 16⟩
def F.NODE_SUPPLY_FEED_B_MV : Field := ⟨R.NODE_SUPPLY, 16, 16⟩
def F.NODE_SUPPLY_INPUT_DA : Field := ⟨R.NODE_SUPPLY, 32, 16⟩
def F.NODE_SUPPLY_FEED_A_OK : Field := ⟨R.NODE_SUPPLY, 48, 1⟩
def F.NODE_SUPPLY_FEED_B_OK : Field := ⟨R.NODE_SUPPLY, 49, 1⟩
def F.NODE_SUPPLY_LOW : Field := ⟨R.NODE_SUPPLY, 50, 1⟩
def F.NODE_SUPPLY_MAIN_EN : Field := ⟨R.NODE_SUPPLY, 51, 1⟩
/-- Table 22.10. -/
def R.NODE_THERMAL : Nat := nodeBlock + 0x0308
def F.NODE_THERMAL_TOWER0_C : Field := ⟨R.NODE_THERMAL, 0, 8⟩
def F.NODE_THERMAL_TOWER1_C : Field := ⟨R.NODE_THERMAL, 8, 8⟩
def F.NODE_THERMAL_DOME_C : Field := ⟨R.NODE_THERMAL, 16, 8⟩
def F.NODE_THERMAL_AQUEDUCT_C : Field := ⟨R.NODE_THERMAL, 24, 8⟩
def F.NODE_THERMAL_LPDDR_C : Field := ⟨R.NODE_THERMAL, 32, 8⟩
def F.NODE_THERMAL_TRIP_UNIT : Field := ⟨R.NODE_THERMAL, 40, 5⟩
def F.NODE_THERMAL_BACKSTOP_ACTIVE : Field := ⟨R.NODE_THERMAL, 48, 1⟩
/-- Table 22.11. -/
def R.NODE_ENV_EVENTS : Nat := nodeBlock + 0x0310
def F.NODE_ENV_EVENTS_FEED_LOST : Field := ⟨R.NODE_ENV_EVENTS, 0, 1⟩
def F.NODE_ENV_EVENTS_LOW_INPUT : Field := ⟨R.NODE_ENV_EVENTS, 1, 1⟩
def F.NODE_ENV_EVENTS_HOT : Field := ⟨R.NODE_ENV_EVENTS, 2, 1⟩
def F.NODE_ENV_EVENTS_TRIP : Field := ⟨R.NODE_ENV_EVENTS, 3, 1⟩
def F.NODE_ENV_EVENTS_CABLE_POWER : Field := ⟨R.NODE_ENV_EVENTS, 4, 1⟩

/-- The registers of the NODE_ block, part 0. -/
def nodeRegs0 : List RegDef :=
  [⟨0x0100, 0, 1, 0, 1, [(0, 2, .ro), (2, 1, .ro), (16, 16, .ro), (32, 16, .ro)]⟩,
   ⟨0x0108, 0, 1, 0, 1, [(0, 2, .ro), (16, 16, .ro), (32, 16, .ro), (48, 16, .ro)]⟩,
   ⟨0x0110, 0, 1, 0, 1, [(0, 16, .rw), (16, 16, .ro)]⟩,
   ⟨0x0118, 0, 1, 0, 1, [(0, 7, .ro), (8, 7, .ro), (15, 1, .ro)]⟩,
   ⟨0x0120, 0, 1, 0, 1, [(0, 64, .ro)]⟩,
   ⟨0x0128, 0, 1, 0, 1, [(0, 16, .ro), (16, 16, .ro), (32, 16, .ro)]⟩,
   ⟨0x0130, 0, 1, 0, 1, [(0, 1, .w1c), (1, 1, .w1c), (2, 1, .w1c), (3, 1, .w1c)]⟩,
   ⟨0x0140, 0, 1, 0, 1, [(0, 16, .rw), (32, 16, .ro), (48, 16, .ro)]⟩,
   ⟨0x0400, 32, 16, 0, 1, [(6, 42, .rw)]⟩,
   ⟨0x0408, 32, 16, 0, 1, [(0, 5, .rw), (8, 1, .rw), (9, 1, .rw), (16, 8, .rw), (24, 8, .rw), (32, 11, .rw)]⟩,
   ⟨0x0410, 32, 16, 0, 1, [(0, 32, .ro)]⟩,
   ⟨0x0418, 32, 16, 0, 1, [(0, 32, .rw)]⟩]
/-- The registers of the NODE_ block, part 1. -/
def nodeRegs1 : List RegDef :=
  [⟨0x0600, 0, 1, 0, 1, [(0, 1, .w1c), (1, 1, .w1c), (2, 1, .w1c), (3, 1, .w1c)]⟩,
   ⟨0x0608, 0, 1, 0, 1, [(0, 32, .ro), (32, 16, .ro), (48, 16, .ro)]⟩,
   ⟨0x0200, 0, 1, 0, 1, [(0, 4, .ro), (4, 2, .ro), (6, 1, .ro), (7, 1, .ro), (16, 16, .ro), (32, 32, .ro)]⟩,
   ⟨0x0208, 0, 1, 0, 1, [(0, 16, .ro), (16, 2, .ro), (18, 1, .ro), (24, 3, .ro)]⟩,
   ⟨0x0210, 0, 1, 0, 1, [(0, 32, .ro), (32, 16, .ro), (48, 16, .ro)]⟩,
   ⟨0x0700, 0, 1, 0, 1, [(0, 2, .ro), (2, 3, .ro), (6, 42, .ro), (48, 16, .ro)]⟩,
   ⟨0x0708, 0, 1, 0, 1, [(0, 48, .ro)]⟩,
   ⟨0x0710, 0, 1, 0, 1, [(0, 48, .ro)]⟩,
   ⟨0x0718, 0, 1, 0, 1, [(0, 40, .ro), (40, 24, .ro)]⟩,
   ⟨0x0720, 0, 1, 0, 1, [(0, 48, .ro)]⟩,
   ⟨0x0800, 0, 1, 0, 1, [(0, 3, .ro), (4, 3, .ro), (8, 5, .ro), (13, 3, .ro), (16, 40, .ro)]⟩,
   ⟨0x0808, 0, 1, 0, 1, [(0, 1, .w1c), (1, 1, .w1c), (2, 1, .w1c), (3, 1, .w1c), (4, 1, .w1c)]⟩]
/-- The registers of the NODE_ block, part 2. -/
def nodeRegs2 : List RegDef :=
  [⟨0x0810, 0, 1, 0, 1, [(0, 32, .ro), (32, 16, .ro), (48, 16, .ro)]⟩,
   ⟨0x0300, 0, 1, 0, 1, [(0, 16, .ro), (16, 16, .ro), (32, 16, .ro), (48, 1, .ro), (49, 1, .ro), (50, 1, .ro), (51, 1, .ro)]⟩,
   ⟨0x0308, 0, 1, 0, 1, [(0, 8, .ro), (8, 8, .ro), (16, 8, .ro), (24, 8, .ro), (32, 8, .ro), (40, 5, .ro), (48, 1, .ro)]⟩,
   ⟨0x0310, 0, 1, 0, 1, [(0, 1, .w1c), (1, 1, .w1c), (2, 1, .w1c), (3, 1, .w1c), (4, 1, .w1c)]⟩]
def nodeRegs : List RegDef := nodeRegs0 ++ nodeRegs1 ++ nodeRegs2

/-- The registers of the TB_ block, part 0. -/
def tbRegs0 : List RegDef :=
  [⟨0x0000, 0, 1, 0, 1, [(0, 24, .ro), (24, 40, .ro)]⟩,
   ⟨0x0008, 0, 1, 0, 1, [(0, 16, .ro)]⟩,
   ⟨0x0010, 0, 1, 0, 1, [(0, 3, .ro), (3, 1, .ro), (4, 1, .ro), (8, 4, .ro), (16, 7, .ro), (32, 16, .ro), (48, 5, .ro)]⟩,
   ⟨0x0018, 0, 1, 0, 1, [(0, 34, .ro)]⟩,
   ⟨0x0020, 0, 1, 0, 1, [(0, 32, .ro), (32, 24, .ro)]⟩,
   ⟨0x0028, 0, 1, 0, 1, [(0, 1, .w1c), (1, 1, .w1c), (2, 1, .w1c), (3, 1, .w1c), (4, 1, .w1c), (5, 1, .w1c), (6, 1, .w1c), (7, 1, .w1c), (8, 1, .w1c), (9, 1, .w1c)]⟩,
   ⟨0x0030, 0, 1, 0, 1, [(0, 32, .ro), (32, 16, .ro), (48, 16, .ro)]⟩,
   ⟨0x0040, 8, 8, 0, 1, [(0, 32, .ro), (32, 1, .ro)]⟩,
   ⟨0x0100, 16, 32, 0, 1, [(0, 64, .rw)]⟩,
   ⟨0x0108, 16, 32, 0, 1, [(0, 1, .rw), (1, 1, .w1c), (2, 1, .rw), (8, 8, .rw), (16, 11, .rw)]⟩]
def tbRegs : List RegDef := tbRegs0

/-- The registers of the MEM_ block, part 0. -/
def memRegs0 : List RegDef :=
  [⟨0x0000, 0, 1, 0, 1, [(0, 16, .ro), (16, 16, .ro), (32, 4, .ro), (36, 4, .ro)]⟩,
   ⟨0x0008, 0, 1, 0, 1, [(0, 1, .w1c), (1, 1, .w1c), (2, 1, .w1c), (3, 1, .w1c), (4, 1, .w1c), (5, 1, .w1c)]⟩,
   ⟨0x0010, 0, 1, 0, 1, [(0, 32, .ro), (32, 16, .ro), (48, 16, .ro)]⟩,
   ⟨0x0018, 0, 1, 0, 1, [(0, 64, .ro)]⟩,
   ⟨0x0020, 0, 1, 0, 1, [(0, 64, .ro)]⟩,
   ⟨0x0028, 0, 1, 0, 1, [(0, 1, .rw), (8, 8, .rw)]⟩,
   ⟨0x0030, 0, 1, 0, 1, [(0, 48, .ro), (48, 16, .ro)]⟩,
   ⟨0x0100, 8, 8, 0, 1, [(0, 1, .ro), (8, 8, .ro), (16, 16, .ro), (32, 16, .ro)]⟩,
   ⟨0x0200, 8, 16, 0, 1, [(0, 1, .ro), (8, 8, .ro), (16, 16, .ro)]⟩]
def memRegs : List RegDef := memRegs0

/-- The registers of the CIST_ block, part 0. -/
def cistRegs0 : List RegDef :=
  [⟨0x0000, 0, 1, 0, 1, [(0, 1, .ro), (1, 1, .ro), (8, 9, .ro), (32, 28, .ro)]⟩,
   ⟨0x0008, 0, 1, 0, 1, [(4, 44, .rw)]⟩,
   ⟨0x0010, 0, 1, 0, 1, [(0, 9, .rw), (16, 1, .wo), (17, 1, .wo), (20, 4, .ro)]⟩,
   ⟨0x0018, 0, 1, 0, 1, [(0, 40, .ro)]⟩,
   ⟨0x0020, 0, 1, 0, 1, [(0, 1, .w1c), (1, 1, .w1c), (2, 1, .w1c), (3, 1, .w1c)]⟩,
   ⟨0x0100, 16, 16, 0, 1, [(0, 64, .ro)]⟩,
   ⟨0x0108, 16, 16, 0, 1, [(0, 64, .ro)]⟩]
def cistRegs : List RegDef := cistRegs0

/-- The registers of the FAB_ block, part 0. -/
def fabRegs0 : List RegDef :=
  [⟨0x1000, 0, 1, 0, 1, [(0, 8, .rw)]⟩,
   ⟨0x1008, 0, 1, 0, 1, [(0, 1, .w1c), (1, 1, .w1c), (2, 1, .w1c), (3, 1, .w1c), (4, 1, .w1c), (5, 1, .w1c), (6, 1, .w1c), (7, 1, .w1c)]⟩,
   ⟨0x1010, 0, 1, 0, 1, [(0, 1, .rw), (8, 8, .rw), (16, 11, .rw)]⟩,
   ⟨0x1018, 0, 1, 0, 1, [(0, 64, .ro)]⟩,
   ⟨0x1020, 0, 1, 0, 1, [(0, 64, .ro)]⟩,
   ⟨0x1028, 0, 1, 0, 1, [(0, 17, .ro), (32, 16, .ro)]⟩,
   ⟨0x1030, 0, 1, 0, 1, [(0, 32, .ro), (32, 32, .ro)]⟩,
   ⟨0x1038, 0, 1, 0, 1, [(0, 16, .ro), (16, 16, .ro)]⟩,
   ⟨0x1100, 8, 20, 0, 1, [(0, 10, .ro), (16, 10, .ro), (32, 32, .ro)]⟩,
   ⟨0x1200, 8, 128, 0, 1, [(0, 15, .rw), (15, 1, .rw), (16, 1, .rw)]⟩,
   ⟨0x1600, 0, 1, 0, 1, [(0, 11, .ro), (16, 11, .ro), (32, 7, .ro)]⟩,
   ⟨0x1800, 32, 64, 8, 4, [(0, 64, .ro)]⟩]
/-- The registers of the FAB_ block, part 1. -/
def fabRegs1 : List RegDef :=
  [⟨0x0000, 0, 1, 0, 1, [(0, 15, .ro), (15, 1, .ro)]⟩,
   ⟨0x0008, 0, 1, 0, 1, [(0, 10, .ro), (16, 10, .ro), (32, 10, .ro), (48, 3, .ro)]⟩,
   ⟨0x0010, 0, 1, 0, 1, [(0, 1, .w1c), (1, 1, .w1c), (2, 1, .w1c), (3, 1, .w1c), (4, 1, .w1c), (5, 1, .w1c), (6, 1, .w1c), (7, 1, .w1c)]⟩,
   ⟨0x0018, 0, 1, 0, 1, [(0, 9, .ro), (16, 9, .ro), (28, 4, .ro)]⟩,
   ⟨0x0020, 0, 1, 0, 1, [(0, 16, .ro), (16, 4, .ro), (20, 4, .ro), (24, 1, .ro)]⟩,
   ⟨0x0028, 0, 1, 0, 1, [(0, 40, .ro)]⟩,
   ⟨0x0030, 0, 1, 0, 1, [(0, 32, .ro), (32, 32, .ro)]⟩,
   ⟨0x0040, 8, 4, 0, 1, [(0, 64, .ro)]⟩,
   ⟨0x0060, 0, 1, 0, 1, [(0, 64, .ro)]⟩]
def fabRegs : List RegDef := fabRegs0 ++ fabRegs1

/-- The registers of the COLL_ block, part 0. -/
def collRegs0 : List RegDef :=
  [⟨0x0000, 0, 1, 0, 1, [(0, 16, .ro), (16, 16, .ro), (32, 16, .ro), (48, 1, .ro)]⟩,
   ⟨0x0008, 0, 1, 0, 1, [(0, 1, .w1c), (1, 1, .w1c), (2, 1, .w1c), (3, 1, .w1c), (4, 1, .w1c), (5, 1, .w1c), (6, 1, .w1c), (7, 1, .w1c), (8, 1, .w1c)]⟩,
   ⟨0x0010, 0, 1, 0, 1, [(0, 32, .ro), (32, 16, .ro), (48, 16, .ro)]⟩,
   ⟨0x0018, 0, 1, 0, 1, [(0, 64, .ro)]⟩,
   ⟨0x0020, 0, 1, 0, 1, [(0, 8, .rw)]⟩,
   ⟨0x0028, 0, 1, 0, 1, [(0, 4, .rw), (4, 1, .wo), (6, 42, .rw), (48, 4, .ro)]⟩,
   ⟨0x0030, 0, 1, 0, 1, [(0, 40, .ro)]⟩,
   ⟨0x0100, 32, 16, 0, 1, [(0, 2, .ro), (2, 2, .ro), (4, 1, .ro), (8, 4, .ro), (16, 17, .ro), (40, 17, .ro)]⟩,
   ⟨0x0108, 32, 16, 0, 1, [(0, 8, .ro), (8, 8, .ro), (24, 40, .ro)]⟩,
   ⟨0x0110, 32, 16, 0, 1, [(0, 16, .ro), (16, 17, .ro), (40, 24, .ro)]⟩,
   ⟨0x0118, 32, 16, 0, 1, [(0, 64, .ro)]⟩]
def collRegs : List RegDef := collRegs0

/-- The registers of the CKPT_ block, part 0. -/
def ckptRegs0 : List RegDef :=
  [⟨0x0000, 0, 1, 0, 1, [(0, 3, .ro), (3, 1, .ro), (4, 1, .ro), (5, 1, .ro), (32, 32, .ro)]⟩,
   ⟨0x0008, 0, 1, 0, 1, [(0, 64, .ro)]⟩,
   ⟨0x0010, 0, 1, 0, 1, [(0, 64, .ro)]⟩,
   ⟨0x0018, 0, 1, 0, 1, [(0, 48, .ro)]⟩,
   ⟨0x0020, 0, 1, 0, 1, [(0, 48, .ro)]⟩,
   ⟨0x0028, 0, 1, 0, 1, [(0, 48, .ro)]⟩,
   ⟨0x0030, 0, 1, 0, 1, [(0, 16, .ro), (16, 40, .ro), (56, 1, .ro)]⟩,
   ⟨0x0038, 0, 1, 0, 1, [(0, 64, .ro)]⟩,
   ⟨0x0040, 0, 1, 0, 1, [(0, 1, .w1c), (1, 1, .w1c), (2, 1, .w1c), (3, 1, .w1c), (4, 1, .w1c), (5, 1, .w1c), (6, 1, .w1c)]⟩,
   ⟨0x0048, 0, 1, 0, 1, [(0, 32, .ro), (32, 16, .ro)]⟩,
   ⟨0x0050, 0, 1, 0, 1, [(0, 1, .rw), (8, 8, .rw), (16, 11, .rw)]⟩,
   ⟨0x0060, 8, 4, 0, 1, [(0, 64, .ro)]⟩]
def ckptRegs : List RegDef := ckptRegs0

/-- The registers of the KEEP_ block, part 0. -/
def keepRegs0 : List RegDef :=
  [⟨0x0000, 0, 1, 0, 1, [(0, 1, .ro), (1, 1, .ro), (2, 1, .ro), (3, 1, .ro), (8, 10, .ro), (32, 15, .ro)]⟩,
   ⟨0x0008, 0, 1, 0, 1, [(0, 64, .ro)]⟩,
   ⟨0x0010, 0, 1, 0, 1, [(0, 1, .w1c), (1, 1, .w1c), (2, 1, .w1c), (3, 1, .w1c), (4, 1, .w1c), (5, 1, .w1c), (6, 1, .w1c)]⟩,
   ⟨0x0018, 0, 1, 0, 1, [(0, 32, .ro), (32, 32, .ro)]⟩,
   ⟨0x0020, 0, 1, 0, 1, [(0, 32, .ro), (32, 32, .ro)]⟩,
   ⟨0x0100, 16, 10, 0, 1, [(0, 64, .ro)]⟩,
   ⟨0x0108, 16, 10, 0, 1, [(0, 64, .ro)]⟩]
def keepRegs : List RegDef := keepRegs0

/-- The registers of the AGE_ block, part 0. -/
def ageRegs0 : List RegDef :=
  [⟨0x0000, 0, 1, 0, 1, [(0, 7, .ro), (7, 1, .ro), (16, 16, .ro), (32, 16, .ro)]⟩,
   ⟨0x0008, 0, 1, 0, 1, [(0, 8, .ro), (8, 3, .ro), (16, 8, .ro), (24, 1, .ro)]⟩,
   ⟨0x0010, 0, 1, 0, 1, [(0, 64, .ro)]⟩,
   ⟨0x0018, 8, 4, 0, 1, [(0, 64, .ro)]⟩,
   ⟨0x0040, 0, 1, 0, 1, [(0, 1, .w1c), (1, 1, .w1c), (2, 1, .w1c), (3, 1, .w1c), (4, 1, .w1c), (5, 1, .w1c), (6, 1, .w1c)]⟩,
   ⟨0x0100, 8, 16, 0, 1, [(0, 16, .ro), (16, 8, .ro), (32, 16, .ro)]⟩,
   ⟨0x0200, 8, 24, 0, 1, [(0, 32, .ro), (32, 16, .ro)]⟩,
   ⟨0x0300, 8, 10, 0, 1, [(0, 8, .ro), (8, 8, .ro), (16, 3, .ro)]⟩]
def ageRegs : List RegDef := ageRegs0

/-- The registers of the SEC_ block, part 0. -/
def secRegs0 : List RegDef :=
  [⟨0x0000, 0, 1, 0, 1, [(0, 1, .ro), (1, 1, .ro), (2, 1, .ro), (3, 1, .ro), (4, 4, .ro), (8, 7, .ro), (15, 1, .ro), (16, 7, .ro), (24, 7, .ro)]⟩,
   ⟨0x0008, 0, 1, 0, 1, [(0, 64, .ro)]⟩,
   ⟨0x0010, 8, 4, 0, 1, [(0, 64, .ro)]⟩,
   ⟨0x0030, 8, 4, 0, 1, [(0, 64, .ro)]⟩,
   ⟨0x0050, 8, 4, 0, 1, [(0, 64, .ro)]⟩,
   ⟨0x0070, 0, 1, 0, 1, [(0, 1, .w1c), (1, 1, .w1c), (2, 1, .w1c), (3, 1, .w1c), (4, 1, .w1c), (5, 1, .w1c)]⟩,
   ⟨0x0078, 0, 1, 0, 1, [(0, 32, .ro), (32, 16, .ro), (48, 16, .ro)]⟩]
def secRegs : List RegDef := secRegs0

/-- The registers of the PANEL_ block, part 0. -/
def panelRegs0 : List RegDef :=
  [⟨0x0000, 0, 1, 0, 1, [(0, 2, .ro), (2, 2, .ro), (4, 4, .ro), (8, 1, .ro), (9, 2, .ro)]⟩,
   ⟨0x0008, 0, 1, 0, 1, [(0, 4, .ro), (4, 4, .ro), (8, 4, .ro), (12, 4, .ro), (16, 4, .ro), (20, 4, .ro), (24, 4, .ro), (28, 4, .ro), (32, 4, .ro), (36, 4, .ro)]⟩,
   ⟨0x0010, 0, 1, 0, 1, [(0, 10, .ro), (16, 10, .ro), (32, 10, .ro)]⟩,
   ⟨0x0018, 0, 1, 0, 1, [(0, 1, .w1c), (1, 1, .w1c), (2, 1, .w1c), (3, 1, .w1c), (4, 1, .w1c), (5, 1, .w1c), (6, 1, .w1c), (7, 1, .w1c)]⟩,
   ⟨0x0020, 0, 1, 0, 1, [(0, 16, .ro), (16, 16, .ro), (32, 16, .ro), (48, 16, .ro)]⟩,
   ⟨0x0028, 0, 1, 0, 1, [(0, 1, .ro), (1, 2, .ro), (3, 1, .ro), (4, 1, .ro), (5, 1, .ro), (16, 16, .ro), (32, 16, .ro), (48, 8, .ro)]⟩,
   ⟨0x0030, 8, 2, 0, 1, [(0, 64, .ro)]⟩,
   ⟨0x0040, 8, 2, 0, 1, [(0, 64, .ro)]⟩,
   ⟨0x0050, 0, 1, 0, 1, [(0, 48, .ro)]⟩,
   ⟨0x0058, 0, 1, 0, 1, [(0, 7, .ro), (7, 1, .ro), (8, 7, .ro), (15, 1, .ro)]⟩,
   ⟨0x0060, 0, 1, 0, 1, [(0, 1, .rw)]⟩]
def panelRegs : List RegDef := panelRegs0

/-- The registers of the PORT_ block, part 0. -/
def portRegs0 : List RegDef :=
  [⟨0x0000, 0, 1, 0, 1, [(0, 3, .ro), (3, 1, .ro), (4, 3, .ro), (7, 1, .ro), (8, 1, .ro), (9, 1, .ro), (10, 3, .ro), (16, 8, .ro), (24, 8, .ro)]⟩,
   ⟨0x0008, 0, 1, 0, 1, [(0, 15, .ro), (16, 4, .ro), (20, 1, .ro), (21, 1, .ro), (22, 1, .ro)]⟩,
   ⟨0x0010, 0, 1, 0, 1, [(0, 1, .ro), (1, 1, .ro), (2, 2, .ro), (8, 8, .ro), (16, 32, .ro)]⟩,
   ⟨0x0018, 0, 1, 0, 1, [(0, 1, .w1c), (1, 1, .w1c), (2, 1, .w1c), (3, 1, .w1c), (4, 1, .w1c), (5, 1, .w1c), (6, 1, .w1c), (7, 1, .w1c)]⟩,
   ⟨0x0020, 0, 1, 0, 1, [(0, 32, .ro), (32, 16, .ro), (48, 16, .ro)]⟩,
   ⟨0x0028, 0, 1, 0, 1, [(0, 48, .ro), (48, 16, .ro)]⟩,
   ⟨0x0030, 0, 1, 0, 1, [(0, 64, .ro)]⟩,
   ⟨0x0038, 0, 1, 0, 1, [(0, 64, .ro)]⟩]
def portRegs : List RegDef := portRegs0

/-- The registers of the SCHED_ block, part 0. -/
def schedRegs0 : List RegDef :=
  [⟨0x0000, 0, 1, 0, 1, [(0, 2, .ro), (2, 1, .ro), (3, 1, .ro), (4, 1, .ro), (5, 1, .ro), (6, 1, .ro), (7, 1, .ro), (16, 13, .ro), (32, 4, .ro), (36, 4, .ro)]⟩,
   ⟨0x0008, 0, 1, 0, 1, [(0, 40, .ro)]⟩,
   ⟨0x0010, 0, 1, 0, 1, [(0, 40, .ro)]⟩,
   ⟨0x0018, 0, 1, 0, 1, [(0, 64, .ro)]⟩,
   ⟨0x0020, 0, 1, 0, 1, [(0, 64, .ro)]⟩,
   ⟨0x0028, 0, 1, 0, 1, [(0, 13, .ro), (16, 13, .ro), (32, 7, .ro)]⟩,
   ⟨0x0030, 0, 1, 0, 1, [(0, 1, .w1c), (1, 1, .w1c), (2, 1, .w1c), (3, 1, .w1c), (4, 1, .w1c), (5, 1, .w1c), (6, 1, .w1c), (7, 1, .w1c)]⟩,
   ⟨0x0038, 0, 1, 0, 1, [(0, 32, .ro), (32, 16, .ro), (48, 16, .ro)]⟩,
   ⟨0x0040, 0, 1, 0, 1, [(6, 42, .rw)]⟩,
   ⟨0x0048, 0, 1, 0, 1, [(0, 5, .rw), (8, 1, .rw), (9, 1, .rw), (16, 8, .rw), (32, 11, .rw)]⟩,
   ⟨0x0050, 0, 1, 0, 1, [(0, 32, .ro)]⟩,
   ⟨0x0058, 0, 1, 0, 1, [(0, 32, .rw)]⟩]
/-- The registers of the SCHED_ block, part 1. -/
def schedRegs1 : List RegDef :=
  [⟨0x0060, 8, 4, 0, 1, [(0, 64, .ro)]⟩,
   ⟨0x0100, 8, 32, 0, 1, [(0, 16, .ro), (16, 1, .ro)]⟩,
   ⟨0x0200, 32, 64, 8, 3, [(0, 40, .ro), (40, 16, .ro), (56, 1, .ro), (57, 1, .ro)]⟩]
def schedRegs : List RegDef := schedRegs0 ++ schedRegs1

/-- The registers of the SOLV_ block, part 0. -/
def solvRegs0 : List RegDef :=
  [⟨0x0000, 0, 1, 0, 1, [(0, 2, .ro), (2, 1, .ro), (8, 8, .ro), (16, 2, .ro), (32, 32, .ro)]⟩,
   ⟨0x0008, 0, 1, 0, 1, [(0, 64, .ro)]⟩,
   ⟨0x0010, 0, 1, 0, 1, [(0, 64, .ro)]⟩,
   ⟨0x0018, 0, 1, 0, 1, [(0, 16, .ro), (16, 16, .ro), (32, 32, .ro)]⟩,
   ⟨0x0020, 0, 1, 0, 1, [(0, 8, .ro), (32, 24, .ro)]⟩,
   ⟨0x0028, 0, 1, 0, 1, [(0, 1, .w1c), (1, 1, .w1c), (2, 1, .w1c), (3, 1, .w1c), (4, 1, .w1c), (5, 1, .w1c), (6, 1, .w1c), (7, 1, .w1c)]⟩,
   ⟨0x0030, 0, 1, 0, 1, [(0, 32, .ro), (32, 16, .ro), (48, 16, .ro)]⟩,
   ⟨0x0038, 0, 1, 0, 1, [(0, 64, .ro)]⟩,
   ⟨0x0040, 0, 1, 0, 1, [(0, 64, .ro)]⟩,
   ⟨0x0048, 0, 1, 0, 1, [(0, 64, .ro)]⟩]
def solvRegs : List RegDef := solvRegs0

/-- The registers of the SPIRE_ block (with TENS_ and VEC_), part 0. -/
def spireRegs0 : List RegDef :=
  [⟨0x0000, 0, 1, 0, 1, [(0, 9, .ro), (16, 4, .ro), (24, 5, .ro), (32, 1, .ro)]⟩,
   ⟨0x0008, 0, 1, 0, 1, [(0, 2, .ro), (2, 2, .ro), (4, 2, .ro), (8, 4, .ro), (12, 4, .ro), (16, 2, .ro)]⟩,
   ⟨0x0010, 0, 1, 0, 1, [(0, 8, .ro), (8, 3, .ro), (16, 16, .ro)]⟩,
   ⟨0x0018, 0, 1, 0, 1, [(0, 64, .ro)]⟩,
   ⟨0x0020, 0, 1, 0, 1, [(0, 64, .ro)]⟩,
   ⟨0x0028, 0, 1, 0, 1, [(0, 64, .ro)]⟩,
   ⟨0x0030, 0, 1, 0, 1, [(0, 64, .ro)]⟩,
   ⟨0x0038, 0, 1, 0, 1, [(0, 32, .ro), (32, 32, .ro)]⟩,
   ⟨0x0040, 0, 1, 0, 1, [(0, 32, .ro), (32, 16, .ro), (48, 4, .ro)]⟩,
   ⟨0x0048, 0, 1, 0, 1, [(0, 1, .w1c), (1, 1, .w1c), (2, 1, .w1c), (3, 1, .w1c), (4, 1, .w1c)]⟩,
   ⟨0x0050, 0, 1, 0, 1, [(0, 64, .ro)]⟩,
   ⟨0x0100, 8, 64, 0, 1, [(0, 32, .rw), (32, 32, .rw)]⟩]
/-- The registers of the SPIRE_ block (with TENS_ and VEC_), part 1. -/
def spireRegs1 : List RegDef :=
  [⟨0x4000, 0, 1, 0, 1, [(0, 8, .ro), (8, 4, .ro), (16, 16, .ro)]⟩,
   ⟨0x4008, 0, 1, 0, 1, [(0, 32, .ro), (32, 16, .ro)]⟩,
   ⟨0x4010, 0, 1, 0, 1, [(0, 1, .w1c), (1, 1, .w1c), (2, 1, .w1c), (3, 1, .w1c), (4, 1, .w1c), (5, 1, .w1c), (6, 1, .w1c)]⟩,
   ⟨0x4018, 0, 1, 0, 1, [(0, 32, .ro), (32, 16, .ro), (48, 16, .ro)]⟩,
   ⟨0x4020, 0, 1, 0, 1, [(0, 64, .ro)]⟩,
   ⟨0x4028, 0, 1, 0, 1, [(0, 64, .ro)]⟩,
   ⟨0x4100, 16, 4, 0, 1, [(0, 21, .ro), (32, 21, .ro), (63, 1, .ro)]⟩,
   ⟨0x4108, 16, 4, 0, 1, [(0, 64, .ro)]⟩,
   ⟨0x8000, 0, 1, 0, 1, [(0, 2, .ro), (2, 1, .ro), (8, 5, .ro), (16, 10, .ro)]⟩,
   ⟨0x8008, 0, 1, 0, 1, [(0, 64, .ro)]⟩,
   ⟨0x8010, 0, 1, 0, 1, [(0, 64, .ro)]⟩,
   ⟨0x8018, 0, 1, 0, 1, [(0, 64, .ro)]⟩]
/-- The registers of the SPIRE_ block (with TENS_ and VEC_), part 2. -/
def spireRegs2 : List RegDef :=
  [⟨0x8020, 0, 1, 0, 1, [(0, 1, .w1c), (1, 1, .w1c), (2, 1, .w1c), (3, 1, .w1c), (4, 1, .w1c)]⟩,
   ⟨0x8028, 0, 1, 0, 1, [(0, 32, .ro), (32, 16, .ro), (48, 16, .ro)]⟩,
   ⟨0x8030, 0, 1, 0, 1, [(0, 64, .ro)]⟩]
def spireRegs : List RegDef := spireRegs0 ++ spireRegs1 ++ spireRegs2

/-- The register definitions of the block that holds an address, and the address's offset in that block (Table 1.6). -/
def blockOf (a : Nat) : List RegDef × Nat :=
  let k := (a - 0xF00000010000) / 0x10000
  let off := a % 0x10000
  if a < 0xF00000010000 then ([], off)
  else if k = 0 then (nodeRegs, off) else if k = 1 then (tbRegs, off) else if k = 2 then (memRegs, off)
  else if k = 3 then (cistRegs, off) else if k = 4 then (fabRegs, off) else if k = 5 then (collRegs, off)
  else if k = 6 then (ckptRegs, off) else if k = 7 then (keepRegs, off) else if k = 8 then (ageRegs, off)
  else if k = 9 then (secRegs, off) else if k = 10 then (panelRegs, off)
  else if 16 ≤ k ∧ k < 26 then (portRegs, off)
  else if 32 ≤ k ∧ k < 48 then (schedRegs, off)
  else if 48 ≤ k ∧ k < 64 then (solvRegs, off)
  else if 64 ≤ k ∧ k < 352 then (spireRegs, off)
  else ([], off)

/-- Whether a register definition covers an offset of its block. -/
def RegDef.covers (d : RegDef) (off : Nat) : Bool :=
  let r := off - d.offset
  if off < d.offset then false
  else if d.count1 = 1 then r == 0
  else if d.count2 = 1 then r % d.stride1 == 0 && r / d.stride1 < d.count1
  else r / d.stride1 < d.count1 && r % d.stride1 % d.stride2 == 0 && r % d.stride1 / d.stride2 < d.count2

/-- The fields of the register at an address (none where the block has no register there: R10). -/
def fieldsAt (a : Nat) : List (Nat × Nat × Access) :=
  let (defs, off) := blockOf a
  match defs.find? (fun d => d.covers off) with
  | some d => d.fields
  | none => []

end Sys2Proof.Machine
end

