-- ==== Sys2Proof/Machine/State.lean ====
section
/-! DEFINITION. The state of the node as plain data: the control registers, memory with its poison marks, and what each
chapter gives the node beside its registers. Sparse tables are keyed lists with a default entry. -/

namespace Sys2Proof.Machine

open Sys2Proof

/-- A tick-relay entry (R49). -/
structure Relay where
  jobTag : Nat
  tbId : Nat
  primary : List Nat
  standby : List Nat
  childPrimary : Nat
  childStandby : Nat
  deriving DecidableEq, Repr

/-- The time base beside the TB_ registers (chapter 3). -/
structure TimeBase where
  /-- ROLE of the binding in force: 0 unbound, 1 follower, 2 master, 3 standby master (R54). -/
  role : Nat
  /-- START of a master bind that waits for its RTB_EPOCH edge (R56). -/
  start : Option Nat
  /-- The first valid tick after a follower bind loads step time (R57). -/
  loadPending : Bool
  /-- The 16-bit FINE of step time (R44). -/
  fine : Nat
  /-- FINE latched by each hart's last TB_NOW read (R68). -/
  hartFine : List (Nat × Nat)
  /-- STAMP of the last valid tick (R51). -/
  lastStamp : Option Nat
  /-- Local clock, in ns, of the last valid-format tick of each port (R63). -/
  portTick : List (Nat × Nat)
  /-- Consecutive valid ticks within 20 ns in ACQUIRING, and beyond 40 ns in LOCKED (R60). -/
  good : Nat
  bad : Nat
  /-- Step boundaries since ACQUIRING was entered (R60). -/
  acqSteps : Nat
  /-- Step time is held (R61). -/
  held : Bool
  /-- After a loss no step starts before the boundary that follows LOCKED (R65, R66). -/
  stopped : Bool
  /-- LOCKED has been entered since the loss: the next boundary restarts the sequencers (R66). -/
  restart : Bool
  /-- The last step of the binding has ended (R46). -/
  ended : Bool
  /-- After a load no step at or below this one starts (R57). -/
  barrier : Option Nat
  /-- RTB_REF is present and in range (R55, R483). -/
  refPresent : Bool
  /-- Step time runs (from stage B10 on, R58). -/
  running : Bool
  /-- The eight relay entries (R49). -/
  relays : List Relay
  /-- The last 16 delay measurements of each port, newest first (R50). -/
  meas : List (Nat × List Nat)
  /-- What the relay forwards of time bases this node is not bound to: selected port and last STAMP, by TB_ID × 2 + SRC
  (R49). -/
  relayed : List (Nat × (Nat × Nat))
  deriving DecidableEq, Repr

/-- Profile, clock and power beside the NODE_ registers (chapter 2). -/
structure Power where
  /-- The profile and clock a running switch moves to (R33). -/
  target : Option (Nat × Nat)
  /-- The cap waits for the next step boundary (R42). -/
  capWaiting : Bool
  /-- G in force when the window began (R39). -/
  windowG : Nat
  /-- The last 200 µs average of input power, in W (R41). -/
  avgW : Nat
  /-- The margin plan in force when the window began: a new plan's weights act from the next window (R392). -/
  windowPlan : Bytes
  deriving DecidableEq, Repr

/-- A schedule image header as the bank keeps it (Table 4.1). -/
structure Header where
  profile : Nat
  towerMhz : Nat
  tbId : Nat
  periodNs : Nat
  tickLog2 : Nat
  variant : Nat
  terrace : Nat
  haltOnError : Bool
  version : Nat
  digest : Bytes
  deriving DecidableEq, Repr

/-- A field-map entry (Table 4.5). -/
structure FieldMap where
  dstBase : Nat
  bufStride : Nat
  nbuf : Nat
  destTerrace : Nat
  destSlot : Nat
  valid : Bool
  deriving DecidableEq, Repr

/-- A schedule entry (Table 4.2). -/
structure Entry where
  action : Nat
  waitEn : Bool
  sigEn : Bool
  report : Bool
  tag : Nat
  firePhase : Nat
  waitCtr : Nat
  deadline : Nat
  sigCtr : Nat
  waitVal : Nat
  sigTerrace : Nat
  operand : Bytes
  deriving DecidableEq, Repr

/-- A schedule bank (R72). -/
structure Bank where
  header : Header
  fields : List FieldMap
  entries : List Entry
  deriving DecidableEq, Repr

/-- Where an entry of the current step stands (R78). -/
inductive EntryPhase where
  | waiting | pending | running | done
  deriving DecidableEq, Repr

/-- One entry of the step a terrace runs. -/
structure EntryState where
  phase : EntryPhase
  status : Nat
  started : Bool
  propagated : Bool
  /-- The entry whose failure propagated, or the entry itself (Table 4.9). -/
  source : Nat
  /-- Spires of the entry whose part has not ended. -/
  left : Nat
  /-- Status of the entry's own work, 0 for none. -/
  partStatus : Nat
  /-- Failing parts by spire index. -/
  parts : List (Nat × Nat)
  /-- The entry's work is done and its writes are performed (R226). -/
  ready : Bool
  /-- Table 4.9 action detail. -/
  detail : Nat
  /-- Result of a DIGEST entry held for END_STEP (R417). -/
  digest : Option Bytes
  /-- What the entry read when it fired, by spire index or 0: descriptors, an extent list (R76). -/
  snap : List (Nat × Bytes)
  deriving DecidableEq, Repr

/-- A terrace's sequencer beside the SCHED_ registers (chapter 4). -/
structure Terrace where
  bankA : Bank
  bankB : Bank
  /-- Bound step of an accepted RESUME (R93). -/
  resumeStep : Option Nat
  /-- A step is started and its END_STEP has not completed. -/
  inStep : Bool
  entries : List (Nat × EntryState)
  /-- Status and entry that first set each counter's FAILED mark (R80). -/
  ctrSource : List (Nat × (Nat × Nat))
  /-- A failed entry halts the terrace at the next boundary (R84, R426). -/
  haltPending : Bool
  /-- Status of the entry that halts it. -/
  haltStatus : Nat
  failCount : Nat
  firstFail : Nat
  unusable : Bool
  lateStart : Bool
  /-- The sequencer waits for the boundary after a terrace compute reset ends (R97). -/
  waitBoundary : Bool
  /-- Outcome counters of the step digest: the last 32-byte step digest and whether the step ran it. -/
  ranStep : Option Nat
  /-- The list the REFLECT entry of this step read: 0 or why it is bad, and its extents (R76, R332). -/
  reflectList : Option (Nat × List (Nat × Nat))
  deriving DecidableEq, Repr

/-- The channel a command arrived on (Table 16.2). -/
inductive Chan where
  | loc (c : Nat)
  | mgmt (session : Nat)
  | tray
  | fabric (node : Nat)
  deriving DecidableEq, Repr

/-- An accepted submission that waits for the Gatehouse to run it (R354). -/
structure Sub where
  chan : Chan
  /-- Slot of a local submission. -/
  slot : Nat
  opcode : Nat
  msi : Bool
  tag : Nat
  deadline : Nat
  /-- LENGTH of the packet and its parameter bytes. -/
  params : Bytes
  /-- The reply is discarded (a command that REPLAY submits, R431). -/
  silent : Bool
  deriving DecidableEq, Repr

/-- A long command accepted and not yet completed (R358, R360). -/
structure LongCmd where
  handle : Nat
  chan : Chan
  opcode : Nat
  tag : Nat
  msi : Bool
  silent : Bool
  deriving DecidableEq, Repr

/-- A management record that waits for its acknowledgement (R364). -/
structure MgmtRecord where
  session : Nat
  record : Bytes
  sends : Nat
  deriving DecidableEq, Repr

/-- An open management session (R446, R447). -/
structure Session where
  /-- Session ID, bytes 0–7 of T. -/
  sid : Nat
  /-- Highest counter accepted, and every accepted counter less than 1,024 below it. -/
  highest : Option Nat
  accepted : List Nat
  /-- Address and port of the last authenticated datagram. -/
  client : Nat
  /-- Datagrams received and sent. -/
  received : Nat
  sent : Nat
  deriving DecidableEq, Repr

/-- A forwarded command (R357). -/
structure Remote where
  target : Nat
  chan : Nat
  slot : Nat
  tag : Nat
  opcode : Nat
  msi : Bool
  /-- The handle the target gave; none until its reply arrives. -/
  handle : Option Nat
  deriving DecidableEq, Repr

/-- The Gatehouse's command state (chapter 16). -/
structure Command where
  /-- Reply bytes of each Command Port slot, keyed by channel × 64 + slot (R355). -/
  slots : List (Nat × Bytes)
  /-- Last handle sequence of each channel (R358): the local channel number, 0x80, 0xC0, or 0x10000 + session. -/
  seqs : List (Nat × Nat)
  longs : List LongCmd
  /-- Records that wait for room in a local ring, in order (R363), with their MSI flag. -/
  waiting : List (Nat × List (Bytes × Bool))
  mgmt : List MgmtRecord
  /-- Records queued for the tray (R364). -/
  tray : List Bytes
  /-- Kept replies of each management session (R365): session, TAG, packet, reply; newest first. -/
  kept : List (Nat × Nat × Bytes × Bytes)
  /-- Last event sequence given (R366). -/
  eventSeq : Nat
  /-- Accepted submissions in arrival order (R354). -/
  gate : List Sub
  remotes : List Remote
  sessions : List Session
  /-- The reply image of the last tray command, and the item the last FUNCTION selected (R466): 0 none, 1 reply,
  2 record. -/
  trayReply : Bytes
  traySelect : Nat
  deriving DecidableEq, Repr

/-- What the node sends: the kind of each message. -/
inductive MsgKind where
  /-- Message-signalled interrupt: destination hart, argument EIID (R70, R96, R363). -/
  | msi
  /-- Tick symbol on a port (R47): data holds its 16 bytes. -/
  | tick
  /-- Delay request and delay response on a port (R50). -/
  | delayRequest | delayResponse
  /-- Fabric request to a node: READ, WRITE, MOP, BULK_GET, BULK_PUT, ACK (R246). -/
  | fabricRequest
  /-- Fabric reply to a node (R250). -/
  | fabricReply
  /-- Forwarded command, its reply, its record, a probe (R357). -/
  | command | commandReply | commandRecord | probe
  /-- Collective message on an edge (Table 13.6). -/
  | collective
  /-- Field chunk (R86). -/
  | fieldChunk
  /-- Link control on a port: frame, replay request, drain notice, training (12). -/
  | linkFrame | replayRequest | drainNotice | train
  /-- Packet forwarded by the router on a port (R287), and the notice of a discarded one. -/
  | forward | unreachable
  /-- NVMe write, read and flush to a storage target (R339, R347). -/
  | storeWrite | storeRead | storeFlush
  /-- Management datagram inner message to a session; handshake message (R463, R464). -/
  | mgmtInner | nodeHello
  /-- In-band interrupt and read data of the tray service bus (R465, R466). -/
  | ibi | trayData
  /-- Neighbour Discovery and ICMPv6 answers (R461). -/
  | neighbour | icmpv6
  deriving DecidableEq, Repr

/-- One message the node has sent. -/
structure Msg where
  kind : MsgKind
  dest : Nat
  args : List Nat
  data : Bytes
  deriving DecidableEq, Repr

/-- The recorder beside the NODE_REC_ registers (R428–R431). -/
structure Recorder where
  /-- RECORD_START waits for the next step boundary: classes, base, length. -/
  starting : Option (Nat × Nat × Nat)
  /-- Sizes of the records held in the ring, oldest first. -/
  sizes : List Nat
  /-- Bytes in the 4 MiB buffer and the step time of that figure (R430). -/
  bufBytes : Nat
  bufAt : Nat
  /-- A record of the running step was dropped (R430). -/
  incomplete : Bool
  seq : Nat
  /-- Arrivals of the step by source: source, count, bytes, sum, first and last phase (Table 19.6). -/
  arrivals : List (Nat × (Nat × Nat × Nat × Nat × Nat))
  deriving DecidableEq, Repr

/-- A REPLAY in progress (R431). -/
structure Replay where
  handle : Nat
  fromStep : Nat
  /-- Live step of FROM_STEP, once known. -/
  liveStart : Option Nat
  /-- Records left to submit or compare: header and body bytes. -/
  records : List Bytes
  /-- The recording holds fabric arrivals. -/
  withArrivals : Bool
  /-- Step digests of the last step compared, in terrace order. -/
  lastDigests : Bytes
  deriving DecidableEq, Repr

/-- A held twin of the Sealed profile (R424). -/
structure Twin where
  pair : Nat
  shadow : Bool
  unit : Nat
  index : Nat
  seq : Nat
  addr : Nat
  data : Bytes
  mask : Nat
  mop : Nat
  deriving DecidableEq, Repr

/-- Checking state beside its registers (chapter 19). -/
structure Checking where
  recorder : Recorder
  replay : Option Replay
  twins : List Twin
  /-- Pair sequence of each unit, keyed by spire or terrace and unit (R424). -/
  pairSeq : List (Nat × Nat)
  /-- Pairs that diverged in this step (R426). -/
  diverged : List Nat
  /-- DIGEST requests that wait for a hash engine: terrace, entry (R419). -/
  hashQueue : List (Nat × Nat)
  deriving DecidableEq, Repr

/-- The pinned sets (R231–R233): extents as base and length. -/
structure Pinned where
  live : List (Nat × Nat)
  armed : Option (List (Nat × Nat))
  /-- Lines of the live set beyond 8 ways of their Cistern set: held as ordinary lines (R233). -/
  ordinary : List Nat
  deriving DecidableEq, Repr

/-- A queued descriptor: its address, its owner (the entry that holds the engine, or the spire core: R110, R111), and an
entry's descriptor as it was read when the entry fired (R76). -/
structure QDesc where
  addr : Nat
  owner : Option Nat
  snap : Option Bytes
  deriving DecidableEq, Repr

/-- The remote access a mover or a short-vector unit has out: none, one whose outcome has not come, or its status with the data
and poison marks of a load (R246, Table 11.4). -/
inductive UnitAccess where
  | none
  | out
  | got (status : Nat) (cells : List (Byte × Bool))
  deriving DecidableEq, Repr

/-- How far a mover is: its row or element and the bytes of it that are done. -/
structure MvWalk where
  /-- The command that runs the descriptor has come. -/
  started : Bool
  row : Nat
  off : Nat
  /-- What the piece at hand waits for: its read, or with `writing` its write. -/
  writing : Bool
  acc : UnitAccess
  /-- The status of the first access that a dead node or a failed put concluded, 0 for none (R122, R262). -/
  dead : Nat
  /-- The row or element whose address residue mismatched again (R422). -/
  bad : Option Nat
  deriving DecidableEq, Repr

/-- The descriptor an engine runs: its bytes as taken, its owner, whether its work is done, and with what status; and, of the
mover, how far it is. -/
structure DescRun where
  desc : Bytes
  owner : Option Nat
  worked : Bool
  status : Nat
  walk : MvWalk
  deriving DecidableEq, Repr

/-- What a spire core waits for (CORE = 3, Table 5.10). -/
inductive CoreWait where
  | none
  /-- SP.TQ and SP.MQ stalled with their descriptor address (R110, R111). -/
  | tq (addr : Nat)
  | mq (addr : Nat)
  /-- SP.WAIT: mover or tensor, count awaited, destination register. -/
  | wait (mover : Bool) (count : Nat) (rd : Nat)
  /-- SP.TWAIT target. -/
  | twait (target : Nat)
  /-- A load, fetch or short access whose remote reply is outstanding. -/
  | remote
  /-- A short-vector memory instruction that has not completed (R182). -/
  | sv
  /-- A FENCE whose predecessor set holds w, until every earlier store is concluded (R253). -/
  | fence
  deriving DecidableEq, Repr

/-- A short-vector register: 512 bits and one poison mark per 8-byte word (R171). -/
structure VReg where
  val : BitVec 512
  poison : Nat
  deriving DecidableEq, Repr

/-- A short-vector memory instruction under way (R177–R180): its group, fields, base and index group, and how far it is. -/
structure SvRun where
  store : Bool
  group : Nat
  nf : Nat
  base : Nat
  /-- The index group of SV.GTH and SV.SCT. -/
  index : Option Nat
  /-- What the residues of the Sealed profile found (R187). -/
  res : Nat
  elem : Nat
  field : Nat
  /-- Bytes of the field that are done, and what a load has read of them. -/
  off : Nat
  part : List (Byte × Bool)
  acc : UnitAccess
  /-- Fields of the record at hand, and the records before it, that a load has read. -/
  fields : List (Nat × Bool)
  done : List (List (Nat × Bool))
  deriving DecidableEq, Repr

/-- A spire beside its registers and scratchpad bytes (chapters 5 to 8). -/
structure Spire where
  pc : Word
  x : List (Nat × Word)
  mtvec : Word
  mepc : Word
  mcause : Word
  mtval : Word
  mscratch : Word
  mstatus : Word
  /-- The VECTOR_PROGRAM entry the core runs, none when idle. -/
  entry : Option Nat
  wait : CoreWait
  icacheValid : Bool
  /-- The core has executed SP.END or stopped; its part's status. -/
  ended : Bool
  partStatus : Nat
  tq : List QDesc
  mq : List QDesc
  tens : Option DescRun
  mover : Option DescRun
  /-- Completions of core-issued descriptors since program start, and the first failure status (R109). -/
  doneT : Nat
  doneM : Nat
  failT : Nat
  failM : Nat
  /-- Short-vector unit (R171): registers, element width code, span, F16 kind, VL, flags. -/
  v : List (Nat × VReg)
  ew : Nat
  span : Nat
  f16 : Nat
  vl : Nat
  vflags : Nat
  /-- The short-vector memory instruction the core waits for. -/
  sv : Option SvRun
  deriving DecidableEq, Repr

/-- A Dome hart: the integer, floating-point and vector state RVA23 gives it, and its wait (chapters 8, 11). -/
structure Hart where
  pc : Word
  x : List (Nat × Word)
  f : List (Nat × Word)
  fflags : Nat
  v : List (Nat × BitVec 2048)
  vtype : Nat
  vl : Nat
  vstart : Nat
  vxsat : Bool
  /-- D.TWAIT target (R192). -/
  twait : Option Nat
  /-- Last trap taken: cause, pc, value; a supervisor's handler is outside this manual. -/
  cause : Nat
  epc : Word
  tval : Nat
  trapped : Bool
  /-- Long-vector unit powered (R189). -/
  vecOn : Bool
  /-- LR reservation on a line held in the Dome cache. -/
  resv : Option Nat
  /-- Outstanding remote access: destination register, size, sign. -/
  remote : Option (Nat × Nat × Bool)
  deriving DecidableEq, Repr

/-- CKPT_POLICY parameters (Table 14.2). -/
structure Policy where
  everySteps : Nat
  intervalNs : Nat
  baseStep : Nat
  reflBase : Nat
  reflLen : Nat
  storeAddr : Nat
  domeList : Nat
  drainMs : Nat
  deriving DecidableEq, Repr

/-- A shard of a drain or restore: memory range, target, block, bytes written, digest. -/
structure Shard where
  dest : Nat
  length : Nat
  target : Nat
  lba : Nat
  digest : Bytes
  deriving DecidableEq, Repr

/-- A drain in progress (Table 14.4). -/
structure Drain where
  /-- Where Table 14.4 stands: 1 zero block, 2 its Flush, 3 shards, 4 Flush of every target, 5 manifest, 6 its Flush,
  7 the Keep's cache. -/
  order : Nat
  step : Nat
  half : Nat
  seq : Nat
  time : Nat
  /-- Store descriptor bytes, as read at the boundary. -/
  store : Bytes
  extents : List (Nat × Nat)
  shards : List Shard
  /-- Items of the present order not yet sent: shards, targets, or 0; and sent and not completed, with their port. -/
  todo : List Nat
  inFlight : List (Nat × Nat)
  manifest : Bytes
  /-- SCHEDULE_VERSION of terrace 0's live bank at the boundary. -/
  version : Nat
  /-- The CKPT_NOW it completes. -/
  handle : Option Nat
  deriving DecidableEq, Repr

/-- A restore source with what it names (Table 14.8): store descriptor, half, expected member and shape, remap entries
(old base, new base, length; none: every shard goes to its DEST). -/
structure RestoreSource where
  store : Bytes
  half : Nat
  member : Nat
  shape : Nat
  remap : Option (List (Nat × Nat × Nat))
  deriving DecidableEq, Repr

/-- A restore in progress (R347). -/
structure Restore where
  handle : Option Nat
  sources : List RestoreSource
  trust : List Bytes
  /-- 1 reading manifests, 2 reading shards, 3 copying. -/
  stage : Nat
  manifests : List Bytes
  /-- Shards in order: source, shard (DEST already remapped), reflection offset. -/
  shards : List (Nat × Shard × Nat)
  /-- Items not yet asked for: sources in stage 1, shards in stage 2; and asked for and not read, with their port. -/
  todo : List Nat
  inFlight : List (Nat × Nat)
  deriving DecidableEq, Repr

/-- A JOB_SHRINK in progress (R349, R350). -/
structure Shrink where
  handle : Nat
  variant : Nat
  effStep : Nat
  /-- A restore inside it has not ended. -/
  withRestore : Bool
  /-- Result digest of that restore. -/
  digest : Bytes
  deriving DecidableEq, Repr

/-- Checkpoint state beside its registers (chapter 14). -/
structure Ckpt where
  policy : Option Policy
  nextPolicy : Option Policy
  /-- Pending CKPT_NOW: handle and AT_STEP (R331). -/
  now : Option (Nat × Nat)
  /-- A REFLECT found a checkpoint due: its STEP, and whether a CKPT_NOW triggered it (R330). -/
  due : Option (Nat × Bool)
  /-- Granules of the running copy not yet COPIED: source and destination (R335). -/
  granules : List (Nat × Nat)
  copying : Bool
  drain : Option Drain
  restore : Option Restore
  shrink : Option Shrink
  /-- CKPT_SEQ (R339). -/
  seq : Nat
  deriving DecidableEq, Repr

/-- A route set (R286): in-pond entries by node-ID bits [8:0], pond entries by pond. -/
structure RouteSet where
  jobTag : Nat
  ver : Nat
  inPond : List Nat
  ponds : List Nat
  deriving DecidableEq, Repr

/-- What follows a drain of a port, or what asked for it (R281, R283, R284, R453, R456, R459). -/
inductive DrainFor where
  | none | drain | disable | retrain | latch | removal
  deriving DecidableEq, Repr

/-- One share of deficit round robin: its deficit in bytes, and whether its turn has begun (R296, R318). -/
structure Turn where
  deficit : Nat
  on : Bool
  deriving DecidableEq, Repr

/-- Chunks of one group slot, or of the fields (16), that wait at a port (R318). -/
structure ChunkQueue where
  group : Nat
  frames : List Bytes
  deriving DecidableEq, Repr

/-- Traffic of one JOB_TAG that waits at a port (R296): frames in their order, an empty one for each place that the shares of
the collective engine's chunks fill in their own turns (R318). -/
structure PortQueue where
  tag : Nat
  frames : List Bytes
  chunks : List (Turn × ChunkQueue)
  deriving DecidableEq, Repr

/-- A port beside its registers (R278–R284). -/
structure PortState where
  /-- Next link sequence number to send, next expected (12 bits). -/
  txSeq : Nat
  rxSeq : Nat
  /-- Frames sent and not acknowledged: sequence and bytes, oldest first. -/
  replay : List (Nat × Bytes)
  /-- A replay was requested and the frame asked for has not come. -/
  asked : Bool
  /-- Times the oldest frame has been replayed. -/
  replays : Nat
  drain : DrainFor
  /-- Handle of the PORT_RETRAIN or PORT_RELEASE that drains it. -/
  handle : Option Nat
  /-- Requests, replies and chunks that wait, in the order their tags are served (R296). -/
  queue : List (Turn × PortQueue)
  deriving DecidableEq, Repr

/-- The router (chapter 12). -/
structure Net where
  sets : List RouteSet
  ports : List (Nat × PortState)
  /-- Port last used for a destination under a set: (tag × 16 + version) × 2^15 + node, and the port (R289). -/
  lastPort : List (Nat × Nat)
  /-- Plan images of the Keep's cache, most recent first (R293). -/
  cache : List Bytes
  deriving DecidableEq, Repr

/-- Who receives the outcome of a remote request (Table 11.4). -/
inductive Waiter where
  /-- A load, or with `amo` a fetch, of a spire core: spire, destination register, bytes, sign. -/
  | core (n rd size : Nat) (sgn amo : Bool)
  /-- A store or post of a spire core; the entry it was issued under (R262). -/
  | corePost (n : Nat) (entry : Option Nat)
  /-- A load, or with `amo` a fetch, of a Dome hart. -/
  | hart (h rd size : Nat) (sgn amo : Bool)
  /-- A store or post of a Dome hart. -/
  | hartPost (h : Nat)
  /-- The data mover of a spire, or with `vec` its short-vector unit. -/
  | unit (n : Nat) (vec : Bool)
  /-- A Weir block fetch or flush (R267, R268): the block's node and base. -/
  | weir (node base : Nat)
  /-- Nobody: the unit was reset, and the reply is discarded (R297). -/
  | gone
  deriving DecidableEq, Repr

/-- An outstanding remote request (R246, R249). -/
structure Req where
  engine : Nat
  dest : Nat
  kind : Nat
  hint : Nat
  mop : Nat
  ver : Nat
  sizeLog2 : Nat
  addr : Nat
  seq : Nat
  tag : Nat
  data : Bytes
  /-- Poison marks of the data, by 8-byte word (R241). -/
  poison : Nat
  /-- Sends so far, up to 4 (R256), and whether it is held back: by BACKOFF (R259), or a READ behind a write to the same bytes
  (R252). -/
  sends : Nat
  held : Bool
  /-- Dead-target bound in µs at issue (R260). -/
  bound : Nat
  waiter : Waiter
  /-- Further waiters with their address and bytes: those whose stores a put carries (R268), and the pair's other member
  (R424). -/
  carry : List (Waiter × Nat × Nat)
  deriving DecidableEq, Repr

/-- A replay-window entry (R257). -/
structure ReplayEntry where
  seq : Nat
  status : Nat
  data : Bytes
  poison : Nat
  deriving DecidableEq, Repr

/-- A source record at the home (R257); `last` is the local clock, in 0.1 ns, of its latest request. -/
structure SrcRec where
  next : Nat
  last : Nat
  entries : List ReplayEntry
  deriving DecidableEq, Repr

/-- A line's queue of write-type requests (R263), times in 0.1 ns of the local clock: when each queued operation is
applied, and the tickets: source, SEQ and due time. -/
structure LineQueue where
  done : List Nat
  tickets : List (Nat × Nat × Nat)
  deriving DecidableEq, Repr

/-- A Weir block (R267). -/
structure WeirBlock where
  node : Nat
  base : Nat
  put : Bool
  /-- A read block whose data has not come. -/
  fetching : Bool
  data : Bytes
  /-- Byte mask of a put block, and of what was stored into a read block while it is fetched. -/
  mask : Nat
  /-- Poison marks of its data, by word. -/
  poison : Nat
  /-- Loads that wait for a read block; agents whose stores a put block holds: waiter, fabric address, bytes. -/
  waiting : List (Waiter × Nat × Nat)
  /-- A put block whose transfer waits for room at its Weir engine (R246). -/
  due : Bool
  /-- TAG of the BULK_GET that fetches a read block, and whether the block is discarded once its loads are served. -/
  tag : Nat
  dropped : Bool
  deriving DecidableEq, Repr

/-- Remote access state (chapter 11). -/
structure Fabric where
  reqs : List Req
  /-- SEQ counters by engine × 2^15 + destination (R255). -/
  seqs : List (Nat × Nat)
  nextTag : Nat
  /-- Destinations held by BACKOFF: engine, destination, first SEQ held, release time in 0.1 ns (R259). -/
  holds : List (Nat × Nat × Nat × Nat)
  /-- Destinations that owe an ACK: engine × 2^15 + destination (R255). -/
  owed : List Nat
  recs : List (Nat × SrcRec)
  lines : List (Nat × LineQueue)
  /-- Blocks held, most recently used first. -/
  blocks : List WeirBlock
  deriving DecidableEq, Repr

/-- A partial reset in progress (R402): its scope, its index and the terraces it resets. -/
structure PartialReset where
  scope : Nat
  index : Nat
  terraces : List Nat
  /-- Terraces that were HALTED when it began. -/
  halted : List Nat
  deriving DecidableEq, Repr


/-- A Keep region (R373): the data, GEN and current slot of a slotted one; the records, newest first with their index,
and the next index of a ring. -/
structure KRegion where
  data : Bytes
  gen : Nat
  slot : Nat
  recs : List (Nat × Bytes)
  next : Nat
  deriving DecidableEq, Repr

/-- What follows the commit of a Keep update. -/
inductive KeepThen where
  | none
  /-- KEEP_WRITE replies. -/
  | reply (q : Sub)
  /-- MARGIN_REPLAN applies the stored plan. -/
  | replan (handle : Nat)
  /-- KEY_ROTATE completes with the digest of the new public key. -/
  | keyRotate (handle : Nat) (digest : Bytes)
  /-- The outcome of the checkpoint is reported (Table 14.4). -/
  | ckptDone
  deriving DecidableEq, Repr

/-- A Keep update (R376, R377): it waits, erases (1) or programs (2). -/
structure KUpdate where
  region : Nat
  data : Bytes
  phase : Nat
  thn : KeepThen
  deriving DecidableEq, Repr

/-- The Keep (chapter 17). -/
structure Keep where
  regions : List (Nat × KRegion)
  updates : List KUpdate
  /-- Regions whose former slot is being erased in the background (R376). -/
  erasing : List Nat
  /-- Journal records by position, and the positions of the newest CHECKPOINT and COUNTER (R374, R375). -/
  journal : List (Nat × Bytes)
  cpPos : Option Nat
  ctrPos : Option Nat
  /-- SEQ of the last journal record, and the position of the next (R374); the registers show them from stage B2 on. -/
  seq : Nat
  pos : Nat
  powerOnS : Nat
  thermalCycles : Nat
  cuts : Nat
  bringups : Nat
  insertions : List (Nat × Nat)
  used : List (Nat × Nat)
  worn : List Nat
  damaged : List Nat
  /-- POWER_ON_S of the last COUNTER record and of the last fold (R375). -/
  lastCounter : Nat
  lastFold : Nat
  /-- Sectors mapped to spares: region and sector (R373). -/
  remapped : List (Nat × Nat)
  /-- Corrected errors and poisoned lines of the running scrub pass, by device (R383). -/
  ecc : List (Nat × (Nat × Nat))
  deriving DecidableEq, Repr

/-- A queued MARGIN_SURVEY or SELF_TEST (R385–R388); a calibration has no handle. -/
structure AgeReq where
  handle : Option Nat
  selfTest : Bool
  kinds : Nat
  level : Nat
  /-- Terraces whose part has not started, and whose part runs. -/
  left : List Nat
  running : List Nat
  mask : Nat
  deadline : Nat
  /-- Records of the parts that ended: terrace and record. -/
  recs : List (Nat × Bytes)
  failing : Nat
  /-- Terraces not run when the deadline passed. -/
  expired : Nat
  /-- Calibration of the node (R385). -/
  calibration : Bool
  deriving DecidableEq, Repr

/-- A MARGIN_REPLAN in progress (R392). -/
structure Replan where
  handle : Nat
  plan : Bytes
  /-- Step of application once the plan is stored; 0 for at once. -/
  step : Option Nat
  applied : Bool
  /-- Ports still to retrain, one at a time. -/
  ports : List Nat
  /-- Status the command completes with: OK, or KEEP_WORN (Table 17.6). -/
  status : Nat
  deriving DecidableEq, Repr

/-- Ageing state beside its registers (chapter 17). -/
structure Ageing where
  queue : List AgeReq
  replan : Option Replan
  /-- The margin plan in force (Table 17.11). -/
  plan : Bytes
  /-- Values per quantity: limiter × 256 + unit, then (POWER_ON_S, value), newest first (R393). -/
  hist : List (Nat × List (Nat × Int))
  /-- Step time and temperature of each device's last retention sweep, and of each port's last eye sample. -/
  retAt : List (Nat × (Nat × Nat))
  eyeAt : List (Nat × (Nat × Nat))
  /-- Eye height and width by port × 8 + lane (R383). -/
  eyes : List (Nat × (Nat × Nat))
  /-- Preset of largest eye area in each lane's last training, by port × 8 + lane (R391). -/
  presets : List (Nat × Bytes)
  /-- The forecast has risen to 9 months or more since the last advice (R394). -/
  rearmed : Bool
  deriving DecidableEq, Repr


/-- A solve that passed acceptance (chapter 9). -/
structure SolveRun where
  addr : Nat
  desc : Bytes
  /-- Exponents of the Range Table as read at acceptance (R199). -/
  exps : List Int
  /-- Factor-set header as read at acceptance. -/
  fset : Bytes
  nnz : Nat
  /-- The SOLVE entry that issued it, or the handle of a SOLVE command. -/
  entry : Option Nat
  handle : Option Nat
  /-- Deadline in step time, 0 for none. -/
  deadline : Nat
  /-- The start of an iterative solve is done. -/
  started : Bool
  /-- Completed iterations, or panels. -/
  k : Nat
  /-- Completed GMRES cycles. -/
  cyc : Nat
  /-- Vectors of an iterative solve: iterate, r, p, r̂₀, and GMRES's basis, columns, rotations and g. -/
  x : List Int
  r : List Int
  p : List Int
  rh : List Int
  rho : Int
  basis : List (List Int)
  hess : List (List Int)
  rots : List (Int × Int)
  g : List Int
  /-- Σ b² (R212). -/
  sumB : Nat
  resFrac : Nat
  range : Option (Nat × Nat)
  failIndex : Nat
  fp : Nat
  warmUsed : Bool
  warmRej : Bool
  /-- Parity of the buffer that holds the last complete iterate. -/
  lastBuf : Nat
  /-- The status at which the engine stopped; SOLVE_COMPLETE then finishes the solve. -/
  status : Option Nat
  deriving DecidableEq, Repr


/-- A chunk its sender retains (R310, R311): index × 2 + FINAL, the whole message, the TOKEN that follows it, how often it
was fetched again and resent. -/
structure CChunk where
  key : Nat
  msg : Bytes
  token : Option Bytes
  refetches : Nat
  resends : Nat
  deriving DecidableEq, Repr

/-- A link of an invocation: the neighbour's record, the sender's credits, chunks in flight, chunks that wait. -/
structure CLink where
  record : Nat
  credits : Nat
  out : List CChunk
  queue : List CChunk
  deriving DecidableEq, Repr

/-- Staged data of a chunk: the link it came on, payload, poison mask, members folded in. -/
structure CPart where
  link : Nat
  data : Bytes
  mask : Bytes
  contrib : Nat
  deriving DecidableEq, Repr

/-- What a JOB_BROADCAST adds to its invocation (R320–R322). -/
structure CBcast where
  handle : Nat
  reparentUs : Nat
  deadline : Nat
  /-- Root: bitmap address, and the members that reported DONE. -/
  bitmap : Nat
  members : List Nat
  /-- Spares tried. -/
  tried : Nat
  deriving DecidableEq, Repr

/-- An invocation of a group slot (R298). -/
structure CInv where
  step : Nat
  inv : Nat
  terr : Nat
  /-- Schedule entries of the member: terrace and entry. -/
  entries : List (Nat × Nat)
  desc : Bytes
  running : Bool
  links : List (Nat × CLink)
  /-- Partials of a tree member by chunk, in arrival order. -/
  parts : List (Nat × List CPart)
  /-- Final chunks without their TOKEN, and TOKENs without their chunk. -/
  finals : List (Nat × CPart)
  tokens : List (Nat × Bytes)
  committed : List Nat
  /-- Link × 2^40 + key of each chunk acknowledged. -/
  acked : List Nat
  /-- Link × 2^40 + key of each chunk used. -/
  used : List Nat
  poison : Bool
  refetches : Nat
  bcast : Option CBcast
  deriving DecidableEq, Repr

/-- A group slot (R298, R301). -/
structure CSlot where
  live : Option Bytes
  armed : Option (Bytes × Nat)
  cur : Option CInv
  queue : List CInv
  /-- Step and number of the newest invocation. -/
  lastStep : Nat
  lastInv : Option Nat
  /-- Messages held for the next invocation (R312), with the sender's node. -/
  held : List (Nat × Bytes)
  /-- Invocations of the live plan, by STAMP and INVOCATION, whose ABORT has been passed on (R315). -/
  aborted : List (Nat × Nat)
  /-- Record of the parent in the last JOB_BROADCAST, through which messages for the root go on (R322). -/
  up : Nat
  deriving DecidableEq, Repr

/-- A FIELD_SEND under way (R86). -/
structure FieldSend where
  terr : Nat
  entry : Nat
  dest : Nat
  destTerr : Nat
  slot : Nat
  stamp : Nat
  base : Nat
  chunks : Nat
  out : List CChunk
  queue : List CChunk
  acked : List Nat
  deriving DecidableEq, Repr

/-- A field that arrives (R87, R319): its chunks verified, its number of chunks once known, failures by chunk. -/
structure FieldRx where
  terr : Nat
  slot : Nat
  stamp : Nat
  /-- The sender's node plus 2^15 × the address of the field's chunk 0. -/
  key : Nat
  got : List Nat
  total : Option Nat
  fails : List (Nat × Nat)
  deriving DecidableEq, Repr

/-- The collective engine (chapter 13). -/
structure Coll where
  slots : List (Nat × CSlot)
  sends : List FieldSend
  fields : List FieldRx
  deriving DecidableEq, Repr



/-- The service panel and the tray service bus beside the PANEL_ registers (chapter 21). -/
structure Panel where
  /-- Ports whose cable arrived while REQUEST was 2 (R454). -/
  arrived : List Nat
  /-- Ports whose cable supports short-reach FEC, and whose cable is not powered (R481). -/
  short : List Nat
  unpowered : List Nat
  /-- TYPE and LENGTH_DM of the cable memory in each receptacle (Table 22.6). -/
  cables : List (Nat × Nat × Nat)
  /-- Value of the TSB_ADDR straps, and the maximum write and read lengths of the tray service bus (R465). -/
  strap : Nat
  /-- Value of the POS straps: the node ID (R272, R483). -/
  pos : Nat
  mwl : Nat
  mrl : Nat
  deriving DecidableEq, Repr

/-- Bring-up beside NODE_STAGE and NODE_RESET (chapter 18). -/
structure Boot where
  /-- Stage reports of the current bring-up, by stage (R399). -/
  reports : List (Nat × Bytes)
  /-- The bring-up record is in the Keep (R400). -/
  appended : Bool
  /-- The ROM holds after a failure at B1 (R434). -/
  romHold : Bool
  /-- No bring-up runs: MAIN_EN is low, or a trip, or the input failed (R473–R475, R479). -/
  standby : Bool
  /-- The input fell below 38 V and has not been restored (Table 22.3). -/
  failed : Bool
  /-- MAIN_EN has fallen since standby began: its next rise is a reset of cause 4 (Table 21.8). -/
  fell : Bool
  /-- Good physical spires of each Tower die, as stage B6 found them (R101, R401). -/
  good0 : Nat
  good1 : Nat
  deriving DecidableEq, Repr

/-- A firmware slot of region 6 (Table 20.1): whether it passes every test of R435 but the rollback check, and the fields
of its image. -/
structure FwSlot where
  good : Bool
  svn : Nat
  version : Nat
  advance : Bool
  digest : Bytes
  image : Bytes
  deriving DecidableEq, Repr

/-- A firmware staging that is open (R436). -/
structure Staging where
  chan : Chan
  /-- The FW_STAGE whose piece is being programmed, and whether the piece is the last. -/
  handle : Option Nat
  last : Bool
  slot : Nat
  received : Bytes
  /-- 0 waits for a piece, 1 erases the slot, 2 programs. -/
  phase : Nat
  deriving DecidableEq, Repr

/-- Security beside the SEC_ registers (chapter 20). -/
structure Security where
  /-- Fuses blown of the anti-rollback counter (R432). -/
  fuses : Nat
  slots : List (Nat × FwSlot)
  staging : Option Staging
  /-- Public key of the session key pair (R445, R448). -/
  sessKey : Option Bytes
  /-- The last signed attestation log (R439, R442). -/
  log : Bytes
  deriving DecidableEq, Repr


/-- The admitted job (R369, R370). -/
structure Job where
  jobTag : Nat
  mask : Nat
  jobId : Nat
  shapeId : Nat
  members : Nat
  memberIndex : Nat
  /-- Shrink variants: each a table of sixteen image addresses, with the IMAGE_DIGESTs checked at admission (R94). -/
  variants : List (List Nat × List Bytes)
  /-- Management session that submitted JOB_ADMIT (R366). -/
  session : Option Nat
  /-- Handle of the JOB_RELEASE in progress, and whether its boundary has passed (R370). -/
  releasing : Option (Nat × Bool)
  /-- The JOB_ADMIT that waits for running parts on its terraces to end (R387): handle, plan from the cache, PLAN_DIGEST. -/
  admitting : Option (Nat × Bool × Bytes)
  /-- A terrace of the job has started a step (R346). -/
  anyStep : Bool
  deriving DecidableEq, Repr

/-- The whole machine. -/
structure State where
  /-- Control registers that differ from their 0 default, by control address (R8–R10). -/
  regs : List (Nat × Word)
  /-- Tier and scratchpad bytes in canonical form: addresses rise, no listed byte is 0. -/
  mem : List Host.Cell
  /-- Poisoned 8-byte words, by word index (R116, R241). -/
  poison : List Nat
  /-- Words discarded by LAST_USE and not yet rewritten (R229). -/
  undef : List Nat
  /-- Lines the Dome last-level cache holds; true for dirty (R224). -/
  domeLines : List (Nat × Bool)
  /-- LR reservations of spire cores: spire and line (R239). -/
  resv : List (Nat × Nat)
  tb : TimeBase
  power : Power
  terr : List (Nat × Terrace)
  spires : List (Nat × Spire)
  harts : List (Nat × Hart)
  pinned : Pinned
  ckpt : Ckpt
  cmd : Command
  check : Checking
  net : Net
  fab : Fabric
  preset : Option PartialReset
  keep : Keep
  age : Ageing
  /-- The solve each terrace's Solver Engine runs. -/
  solver : List (Nat × SolveRun)
  coll : Coll
  panel : Panel
  boot : Boot
  sec : Security
  job : Option Job
  /-- Messages the node has sent, newest first. -/
  out : List Msg
  /-- The counter the free values are applied to (the model's own). -/
  fresh : Nat
  /-- Commands that wait, first in first out. -/
  pending : List Instr
  deriving DecidableEq, Repr


/-- A terrace's bank that has never been written. -/
def Header.empty : Header := ⟨0, 0, 0, 0, 0, 0, 0, false, 0, []⟩
def Bank.empty : Bank := ⟨Header.empty, [], []⟩
def EntryState.init : EntryState := ⟨.waiting, 0, false, false, 0, 0, 0, [], false, 0, none, []⟩
def Terrace.init : Terrace :=
  ⟨Bank.empty, Bank.empty, none, false, [], [], false, 0, 0, 0, false, false, false, none, none⟩
def VReg.zero : VReg := ⟨0, 0⟩
def Spire.init : Spire :=
  ⟨0, [], 0, 0, 0, 0, 0, 0, none, .none, false, false, 0, [], [], none, none, 0, 0, 0, 0, [], 0, 0, 0, 0, 0, none⟩
/-- Details: PRESUMED, log entry 56. -/
def Hart.init : Hart := ⟨0, [], [], 0, [], 2 ^ 63, 0, 0, false, none, 0, 0, 0, false, false, none, none⟩
/-- Details: DESIGN CHOICE, log entry 3. -/
def TimeBase.init : TimeBase :=
  ⟨0, none, false, 0, [], none, [], 0, 0, 0, false, false, false, false, none, true, false, [], [], []⟩
def Power.init : Power := ⟨none, false, 64, 0, []⟩
def Recorder.init : Recorder := ⟨none, [], 0, 0, false, 0, []⟩
def Checking.init : Checking := ⟨Recorder.init, none, [], [], [], []⟩
def Ckpt.init : Ckpt := ⟨none, none, none, none, [], false, none, none, none, 0⟩
def Command.init : Command := ⟨[], [], [], [], [], [], [], 0, [], [], [], [], 0⟩
def PortState.init : PortState := ⟨0, 0, [], false, 0, .none, none, []⟩
def Net.init : Net := ⟨[], [], [], []⟩
def Fabric.init : Fabric := ⟨[], [], 0, [], [], [], [], []⟩
def KRegion.init : KRegion := ⟨[], 0, 0, [], 0⟩
/-- Details: DESIGN CHOICE, log entry 3. -/
def MvWalk.init : MvWalk := ⟨false, 0, 0, false, .none, 0, none⟩
def Keep.init : Keep := ⟨[], [], [], [], none, none, 0, 0, 0, 0, 0, 0, [], [], [], [], 0, 0, [], []⟩
def Ageing.init : Ageing := ⟨[], none, [], [], [], [], [], [], true⟩
def CSlot.init : CSlot := ⟨none, none, none, [], 0, none, [], [], 0⟩
def Coll.init : Coll := ⟨[], [], []⟩
def LineQueue.init : LineQueue := ⟨[], []⟩
/-- Details: DESIGN CHOICE, log entry 3. -/
def Panel.init : Panel := ⟨[], [], [], [], 0, 0, 4161, 64⟩
/-- Details: DESIGN CHOICE, log entry 3. -/
def Boot.init : Boot := ⟨[], false, false, true, false, false, 0, 0⟩
/-- The firmware of slot A that manufacture stores: it verifies; its version and digest are the module's own.
Details: DESIGN CHOICE, log entry 3. -/
def FwSlot.factory : FwSlot :=
  ⟨true, 0, leNat ((List.range 8).map (Config.fused 4)), false, (List.range 32).map (Config.fused 5), []⟩
def FwSlot.empty : FwSlot := ⟨false, 0, 0, false, [], []⟩
def Security.init : Security := ⟨0, [(0, FwSlot.factory)], none, none, []⟩
def Pinned.init : Pinned := ⟨[], none, []⟩

/-- The registers whose Reset column is not 0 (the tables of chapters 2 to 22); "Fused", "Keep", "Boot", "Straps" and
"Sensed" values are the model's (log entry 3). -/
def resetRegs : List (Nat × Word) :=
  [(R.NODE_PROFILE, 1#64 ||| (1100#64 <<< 16) ||| (2600#64 <<< 32)),
   (R.NODE_VARIANT, BitVec.ofNat 64 (Config.variant + 2 ^ 16 * Config.rateMaxMhz + 2 ^ 32 * Config.limitW
      + 2 ^ 48 * Config.rateMaxMhz)),
   (R.NODE_POWER_CAP, BitVec.ofNat 64 (Config.limitW + 2 ^ 16 * Config.limitW)),
   (R.NODE_GATE, 64#64 ||| (64#64 <<< 8))]
  ++ (List.range 16).map (fun c => (R.NODE_CMD_RING_CTRL c, 4#64))
  ++ [(R.TB_STATUS, (0xF#64 <<< 8) ||| (6#64 <<< 48)), (R.TB_PERIOD, 1000000#64),
   (R.MEM_CONFIG, 768#64 ||| (2048#64 <<< 16) ||| (7#64 <<< 32) ||| (15#64 <<< 36)),
   (R.MEM_SCRUB, 1#64 ||| (24#64 <<< 8))]
  ++ (List.range 8).map (fun i => (R.MEM_STACK i, 3900#64 <<< 16))
  ++ (List.range 16).map (fun i => (R.MEM_PKG i, 3900#64 <<< 16))
  ++ [(R.FAB_DEAD_BOUND, 24#64), (R.COLL_FIELD_WEIGHT, 1#64),
   (R.KEEP_BUDGET 1, 2000#64 <<< 32), (R.KEEP_REGION 2, 2#64), (R.KEEP_BUDGET 2, 200000#64 <<< 32),
   (R.KEEP_REGION 3, 2#64), (R.KEEP_BUDGET 3, 12800000#64 <<< 32), (R.KEEP_REGION 4, 2#64),
   (R.KEEP_BUDGET 4, 200000#64 <<< 32), (R.KEEP_BUDGET 5, 100000#64 <<< 32), (R.KEEP_BUDGET 6, 10000#64 <<< 32),
   (R.KEEP_REGION 7, 2#64), (R.KEEP_BUDGET 7, 800000#64 <<< 32), (R.KEEP_BUDGET 8, 100000#64 <<< 32),
   (R.KEEP_BUDGET 9, 10000#64 <<< 32), (R.AGE_FORECAST, 255#64)]
  ++ (List.range 24).map (fun i => (R.AGE_MEM i, 3900#64 <<< 32))
  ++ [(R.PANEL_MGMT, (47110#64 <<< 16) ||| (1500#64 <<< 32))]
  ++ (List.range 10).map (fun p => (R.PORT_STATUS p, 8#64 ||| ((if p < 8 then 5#64 else 1#64) <<< 10)))
  ++ (List.range 16).map (fun t => (R.SCHED_RING_CTRL t, 4#64))

/-- The machine right after a full module reset: bring-up stage B0 begins (R9, R395), every register at its Reset
value, memory with nothing listed, no job, no command waiting. -/
def State.reset : State where
  regs := resetRegs
  mem := []
  poison := []
  undef := []
  domeLines := []
  resv := []
  tb := TimeBase.init
  power := Power.init
  terr := []
  spires := []
  harts := []
  pinned := Pinned.init
  ckpt := Ckpt.init
  cmd := Command.init
  check := Checking.init
  net := Net.init
  fab := Fabric.init
  preset := none
  keep := Keep.init
  age := Ageing.init
  solver := []
  coll := Coll.init
  panel := Panel.init
  boot := Boot.init
  sec := Security.init
  job := none
  out := []
  fresh := 0
  pending := []

/-- Why a step can end in a fault. No command of this node faults: every fault the spec describes (a core exception, an
error status) is an effect on the state. The one constructor names the memory hole, raised by no meaning. Safe. -/
inductive Fault where
  /-- An access to an address the spec says does not exist, where the spec names no exception for it. -/
  | noSuchAddress (addr : Nat)
  deriving DecidableEq, Repr

/-- Why a step can be refused. Safe: the machine stops where the hardware goes on. -/
inductive Refusal where
  /-- A command without a meaning; raised only by the arms of `exec`. -/
  | notModelled (mnemonic : String)
  deriving DecidableEq, Repr

/-- The answer of a step. -/
abbrev Out := Host.Outcome State Fault Refusal

end Sys2Proof.Machine
end

