-- ==== Sys2Proof/Machine/Ops.lean ====
section
/-! DEFINITION. The named operations every command's meaning is written over: registers and their fields, step time,
memory with poison, the address map, messages, completion records, replies and events. -/

namespace Sys2Proof.Machine

open Sys2Proof

/-! ## Answers -/

/-- A free number below n (0 when n is 0), number i of this command. Details: DESIGN CHOICE, log entry 7. -/
def State.free (s : State) (i n : Nat) : Nat := Config.freeNat s.fresh i % n

/-! ## Registers (R8–R10) -/

/-- The value a control register holds. -/
def State.rdReg (s : State) (a : Nat) : Nat := (mget s.regs a 0).toNat

/-- Store a whole control register; one that holds 0 is not listed. -/
def State.wrReg (s : State) (a v : Nat) : State :=
  { s with regs := if BitVec.ofNat 64 v = 0#64 then mdel s.regs a else mput s.regs a (BitVec.ofNat 64 v) }

/-- Read a field. -/
def State.rd (s : State) (f : Field) : Nat := bits (s.rdReg f.addr) f.lo f.width

/-- Store a field; the register's other bits stay. -/
def State.wr (s : State) (f : Field) (v : Nat) : State :=
  s.wrReg f.addr (setBits (s.rdReg f.addr) f.lo f.width v)

/-- Set a one-bit event. -/
def State.ev (s : State) (f : Field) : State := s.wr f 1

/-- Whether a field is nonzero. -/
def State.flag (s : State) (f : Field) : Bool := s.rd f != 0

/-- Add to a counter that saturates. -/
def State.inc (s : State) (f : Field) (n : Nat := 1) : State := s.wr f (satAdd f.width (s.rd f) n)

/-- Add to a counter that wraps. -/
def State.incw (s : State) (f : Field) (n : Nat := 1) : State := s.wr f (s.rd f + n)

/-- What residue checks of R422 found: recomputes that matched, and recomputes that mismatched again, with their event. -/
def State.residue (s : State) (event : Field) (retries fails : Nat) : State :=
  let s := if retries = 0 then s else s.inc F.NODE_CHECK_COUNTS_RETRIES retries
  if fails = 0 then s else (s.inc F.NODE_CHECK_COUNTS_FAILS fails).ev event

/-- Set or clear bit i of a field. -/
def State.wrBit (s : State) (f : Field) (i : Nat) (b : Bool) : State := s.wr f (setBit (s.rd f) i b)

/-- Clear every register of an address range and give the range the listed values. -/
def State.resetRange (s : State) (lo hi : Nat) : State :=
  let kept := s.regs.filter (fun r => !(lo ≤ r.1 && r.1 < hi))
  let init := resetRegs.filter (fun r => lo ≤ r.1 && r.1 < hi)
  { s with regs := init.foldl (fun m r => mput m r.1 r.2) kept }

/-! ## The end of a command -/

/-- The read-only registers that show how much is held: long commands outstanding (Table 16.15), records for the tray
(Table 21.18), open sessions (Table 20.6), the Weir's blocks (Table 11.17). Details: DEDUCED, log entry 21. -/
def State.showCounts (s : State) : State :=
  let puts := (s.fab.blocks.filter (·.put)).length
  ((((s.wr F.NODE_CMD_COUNTS_OUTSTANDING s.cmd.longs.length).wr F.PANEL_TSB_QUEUED s.cmd.tray.length).wr
    F.SEC_STATUS_SESSIONS s.cmd.sessions.length).wr F.FAB_WEIR_STATUS_READ_BLOCKS (s.fab.blocks.length - puts)).wr
    F.FAB_WEIR_STATUS_PUT_BLOCKS puts

/-- The command has its effect: the registers above show what is held, and the counter behind the free values advances. -/
def ok (s : State) : Out := .next { s.showCounts with fresh := s.fresh + 1 }

/-! ## Tables of units -/

def State.tr (s : State) (t : Nat) : Terrace := mget s.terr t Terrace.init
def State.setTr (s : State) (t : Nat) (x : Terrace) : State := { s with terr := mput s.terr t x }
def State.sp (s : State) (n : Nat) : Spire := mget s.spires n Spire.init
def State.setSp (s : State) (n : Nat) (x : Spire) : State := { s with spires := mput s.spires n x }
def State.hart (s : State) (h : Nat) : Hart := mget s.harts h Hart.init
def State.setHart (s : State) (h : Nat) (x : Hart) : State := { s with harts := mput s.harts h x }

/-- Apply a state change to each listed index in turn. -/
def forEach (l : List Nat) (s : State) (f : Nat → State → State) : State := l.foldl (fun s i => f i s) s

/-- The terraces of a 16-bit mask. -/
def terraces (mask : Nat) : List Nat := bitList mask 16

/-- The spires of a terrace. -/
def spiresOf (t : Nat) : List Nat := (List.range 18).map (fun i => 18 * t + i)

/-! ## Step time (R7, R43–R45) -/

/-- Step time: step in [63:24], phase in [23:0]. Details: DEDUCED, log entry 5. -/
def State.now (s : State) : Nat := s.rdReg R.TB_NOW
def State.step (s : State) : Nat := s.rd F.TB_NOW_STEP
/-- Details: DEDUCED, log entry 5. -/
def State.phase (s : State) : Nat := s.rd F.TB_NOW_PHASE
/-- Details: DEDUCED, log entry 5. -/
def State.periodNs (s : State) : Nat := s.rd F.TB_PERIOD_PERIOD_NS
/-- Details: DEDUCED, log entries 5, 30. -/
def State.setNow (s : State) (t fine : Nat) : State :=
  let s := s.wrReg R.TB_NOW t
  { s with tb := { s.tb with fine := fine } }

/-- Step time advances: it runs, no hold stops it, and no master bind waits for its RTB_EPOCH edge (R56, R58, R61). -/
def State.ticking (s : State) : Bool := s.tb.running && !s.tb.held && s.tb.start.isNone

/-- Step time reaches t: already past; or within the running step, when it advances. A boundary is crossed only by
STEP_BOUNDARY, a load or a jump (log entry 5). -/
def State.reach (s : State) (t : Nat) : Option State :=
  if t ≤ s.now then some s
  else if s.ticking && t / 2 ^ 24 == s.step then some (s.setNow t 0)
  else none

/-- Phase units of a span of nanoseconds, rounded up (R44). -/
def State.nsToPhase (s : State) (ns : Nat) : Nat := (2 ^ 24 * ns + s.periodNs - 1) / s.periodNs

/-- The first step boundary that begins at least 10 µs from now (R93, R232, R295, R301). -/
def State.boundStep (s : State) : Nat :=
  let t := s.now + s.nsToPhase 10000
  (t + 2 ^ 24 - 1) / 2 ^ 24

/-- Whether the boundary that begins a step is less than 10 µs away. -/
def State.tooLate (s : State) (step : Nat) : Bool := 2 ^ 24 * step < s.now + s.nsToPhase 10000

/-! ## The address map (R19–R25) -/

def scratchBase : Nat := 0xE00000000000
/-- The window address of an offset in a spire's scratchpad (R20). -/
def scratchAddr (n off : Nat) : Nat := scratchBase + 0x200000 * n + off

def inNear (a n : Nat) : Bool := a + n ≤ 0xC000000000
def inDeep (a n : Nat) : Bool := 0x10000000000 ≤ a && a + n ≤ 0x30000000000
/-- Whether an extent lies in one tier. -/
def inTiers (a n : Nat) : Bool := inNear a n || inDeep a n
def isScratch (a : Nat) : Bool := scratchBase ≤ a && a < scratchBase + 288 * 0x200000
def isCommandPort (a : Nat) : Bool := 0xF00000000000 ≤ a && a < 0xF00000010000
def isControl (a : Nat) : Bool := 0xF00000010000 ≤ a && a < 0xF00001610000

/-- Terrace power (R98): bit t of POWERED and of ON. -/
def State.powered (s : State) (t : Nat) : Bool := bit (s.rd F.NODE_TERRACE_PWR_POWERED) t
def State.isOn (s : State) (t : Nat) : Bool := bit (s.rd F.NODE_TERRACE_PWR_ON) t
/-- A compute reset of the terrace runs (Table 4.10). -/
def State.resetting (s : State) (t : Nat) : Bool := s.rd (F.SCHED_STATUS_STATE t) == 3

/-- Whether an extent lies wholly in the backed part of one powered scratchpad window (R20, R98). -/
def State.scratchBacked (s : State) (a n : Nat) : Bool :=
  isScratch a &&
    (let off := (a - scratchBase) % 0x200000
     off + n ≤ 0x180000 && s.powered ((a - scratchBase) / 0x200000 / 18))

/-- The regions reserved for the checkpoint engines and the recorder (R329, R428). -/
def State.reserved (s : State) (a n : Nat) : Bool :=
  (match s.ckpt.policy with
   | some p => overlaps a n p.reflBase p.reflLen
   | none => false) ||
  (s.rd F.NODE_REC_STATUS_STATE == 1 &&
    overlaps a n (s.rd F.NODE_REC_STATUS_BASE * 64) (s.rd F.NODE_REC_LENGTH_BYTES))

/-- Whether an operand extent of an engine is backed and not reserved (R21, R22, R329). -/
def State.backed (s : State) (a n : Nat) : Bool :=
  (inTiers a n || s.scratchBacked a n) && !s.reserved a n

/-- A refused access or extent that touches the reflection region sets REFL_REFUSED (R329, Table 14.16).
Details: DESIGN CHOICE, log entry 75. -/
def State.noteRefl (s : State) (a n : Nat) : State :=
  match s.ckpt.policy with
  | some p => if overlaps a n p.reflBase p.reflLen then s.ev F.CKPT_EVENTS_REFL_REFUSED else s
  | none => s

/-- The node ID (R24). -/
def State.nodeId (s : State) : Nat := s.rd F.FAB_NODE_ID_NODE_ID

/-- What a fabric address names (R25). -/
inductive Target where
  | here (addr : Nat)
  | self (addr : Nat)
  | pond (node addr : Nat)
  | weir (node addr : Nat)
  | bad
  deriving DecidableEq, Repr

/-- Interpret a fabric address (R25). -/
def State.target (s : State) (a : Nat) : Target :=
  let node := bits a 48 15
  let loc := bits a 0 48
  if !bit a 63 then (if node = 0 then .here loc else .bad)
  else if node = s.nodeId then .self loc
  else if node / 512 = s.nodeId / 512 then .pond node loc
  else .weir node loc

/-! ## Memory (R222–R243) -/

/-- Replace a byte; a byte of 0 is not listed. Details: DESIGN CHOICE, log entry 4. -/
def memPut : List Host.Cell → Nat → Byte → List Host.Cell
  | [], k, v => if v = 0 then [] else [(k, v)]
  | (k', v') :: r, k, v =>
    if k < k' then (if v = 0 then (k', v') :: r else (k, v) :: (k', v') :: r)
    else if k = k' then (if v = 0 then r else (k, v) :: r)
    else (k', v') :: memPut r k v

/-- One byte of memory: 0 where nothing is listed; a free value in a discarded word (R229).
Details: DESIGN CHOICE, log entry 4; DEDUCED, log entry 8. -/
def State.readByte (s : State) (a : Nat) : Byte :=
  if s.undef.contains (a / 8) then Config.freeByte s.fresh a else mget s.mem a 0

def State.readBytes (s : State) (a n : Nat) : Bytes := (List.range n).map (fun i => s.readByte (a + i))
def State.readNat (s : State) (a n : Nat) : Nat := leNat (s.readBytes a n)

/-- Whether a byte lies in a poisoned word (R241). -/
def State.poisonAt (s : State) (a : Nat) : Bool := s.poison.contains (a / 8)
/-- Whether an extent touches a poisoned word. -/
def State.poisoned (s : State) (a n : Nat) : Bool :=
  s.poison.any (fun w => a < 8 * w + 8 && 8 * w < a + n)

/-- Bytes with their poison marks. -/
def State.readCells (s : State) (a n : Nat) : List (Byte × Bool) :=
  (List.range n).map (fun i => (s.readByte (a + i), s.poisonAt (a + i)))

/-- Whether word w lies wholly inside an extent. Details: DEDUCED, log entry 8. -/
def wholeWord (a n w : Nat) : Bool := a ≤ 8 * w && 8 * w + 8 ≤ a + n

/-- Store consecutive bytes in the cell list. Details: DESIGN CHOICE, log entry 4; DEDUCED, log entry 8. -/
def memWrite : List Host.Cell → Nat → Bytes → List Host.Cell
  | m, _, [] => m
  | m, a, b :: bs => memWrite (memPut m a b) (a + 1) bs

/-- Write bytes at home: a whole word clears its poison and undefined marks; a partial one leaves them (R241, R229).
Details: DESIGN CHOICE, log entry 4. -/
def State.rawWrite (s : State) (a : Nat) (bs : Bytes) : State :=
  { s with
    mem := memWrite s.mem a bs
    poison := s.poison.filter (fun w => !wholeWord a bs.length w)
    undef := s.undef.filter (fun w => !wholeWord a bs.length w) }

/-- Mark words poisoned. -/
def State.setPoison (s : State) (ws : List Nat) : State := { s with poison := ws.foldl sinsert s.poison }

/-- The words an extent touches. -/
def wordsOf (a n : Nat) : List Nat :=
  if n = 0 then [] else (List.range ((a + n - 1) / 8 - a / 8 + 1)).map (fun i => a / 8 + i)

/-- Copy an extent with its poison and undefined marks; both ends are multiples of 8.
Details: DESIGN CHOICE, log entry 75. -/
def State.copyRange (s : State) (src dst n : Nat) : State :=
  let inSrc := fun k => src ≤ k && k < src + n
  let inDst := fun k => dst ≤ k && k < dst + n
  let wIn := fun w => inSrc (8 * w)
  let wOut := fun w => inDst (8 * w)
  let move := fun (ws : List Nat) =>
    (ws.filter wIn).foldl (fun l w => sinsert l (w - src / 8 + dst / 8)) (ws.filter (fun w => !wOut w))
  let rest := s.mem.filter (fun c => !inDst c.1)
  { s with
    mem := (s.mem.filter (fun c => inSrc c.1)).foldl (fun m c => memPut m (c.1 - src + dst) c.2) rest
    poison := move s.poison
    undef := move s.undef }

/-- Granules of the declared space are 64 KiB (R327). Details: DESIGN CHOICE, log entry 75. -/
def granuleBytes : Nat := 0x10000

/-- Before a write to declared granules not yet COPIED, they are copied ahead; each stall is counted (R335).
Details: DESIGN CHOICE, log entry 75. -/
def State.copyAhead (s : State) (a n : Nat) : State :=
  if !s.ckpt.copying then s
  else
    let hit := s.ckpt.granules.filter (fun g => overlaps a n g.1 granuleBytes)
    hit.foldl (fun s g =>
        (((s.copyRange g.1 g.2 granuleBytes).inc F.CKPT_GUARD_STALLS).incw F.CKPT_COPIED_BYTES granuleBytes).wr
          F.CKPT_GUARD_MAX_STALL_NS (max (s.rd F.CKPT_GUARD_MAX_STALL_NS) (s.free g.1 6001)))
      { s with ckpt := { s.ckpt with granules := s.ckpt.granules.filter (fun g => !overlaps a n g.1 granuleBytes) } }

/-- What a home does before it applies a write: the guard, the reservations on the line, the Dome copy (R335, R239,
R224). Details: DEDUCED, log entry 58. -/
def State.touch (s : State) (a n : Nat) : State :=
  let s := s.copyAhead a n
  { s with
    resv := s.resv.filter (fun r => !overlaps a n r.2 64)
    domeLines := s.domeLines.filter (fun l => !overlaps a n l.1 64) }

/-- A write by an agent of the node. -/
def State.write (s : State) (a : Nat) (bs : Bytes) : State := (s.touch a bs.length).rawWrite a bs
def State.writeNat (s : State) (a n v : Nat) : State := s.write a (natLE n v)

/-- A write of bytes with poison marks: a word that receives a poisoned byte is poisoned (R122, R241). -/
def State.writeCells (s : State) (a : Nat) (cs : List (Byte × Bool)) : State :=
  let s := s.write a (cs.map (·.1))
  s.setPoison (((List.range cs.length).filter (fun i => (cs.getD i (0, false)).2)).map (fun i => (a + i) / 8))

/-- Poison every word of an extent. -/
def State.poisonRange (s : State) (a n : Nat) : State := (s.touch a n).setPoison (wordsOf a n)

/-- Whether an extent meets a sealed context of a spire (R142, R143): the spire and slot. -/
def State.ctxHit (s : State) (a n : Nat) : Option (Nat × Nat) :=
  if !isScratch a then none
  else
    let sp := (a - scratchBase) / 0x200000
    let off := (a - scratchBase) % 0x200000
    match (List.range 4).find? (fun c => s.flag (F.TENS_CTX_SEALED sp c) &&
        overlaps off n (s.rd (F.TENS_CTX_BASE sp c)) (s.rd (F.TENS_CTX_LENGTH sp c))) with
    | some c => some (sp, c)
    | none => none

/-! ## Messages and interrupts -/

/-- Details: DESIGN CHOICE, log entry 11. -/
def State.send (s : State) (k : MsgKind) (dest : Nat) (args : List Nat) (data : Bytes) : State :=
  { s with out := ⟨k, dest, args, data⟩ :: s.out }

/-- An MSI to a Dome hart's supervisor interrupt file; EIID 0 or a hart above 63 suppresses it (R70).
Details: DESIGN CHOICE, log entry 11. -/
def State.msi (s : State) (hart eiid : Nat) : State :=
  if hart > 63 || eiid = 0 then s else s.send .msi hart [eiid] []

/-! ## The router (R280, R285–R289, R294, R296) -/

def Port.off : Nat := 0
def Port.wait : Nat := 1
def Port.train : Nat := 2
def Port.up : Nat := 3
def Port.draining : Nat := 4
def Port.drained : Nat := 5
def Port.down : Nat := 6
def Port.held : Nat := 7

def State.portState (s : State) (p : Nat) : Nat := s.rd (F.PORT_STATUS_STATE p)
def State.pt (s : State) (p : Nat) : PortState := mget s.net.ports p PortState.init
def State.setPt (s : State) (p : Nat) (x : PortState) : State :=
  { s with net := { s.net with ports := mput s.net.ports p x } }

def State.portsUp (s : State) : List Nat := (List.range 10).filter (fun p => s.portState p == Port.up)
/-- Ports 0–5 that are UP. -/
def State.torusUp (s : State) : Nat := (s.portsUp.filter (· < 6)).length

/-- JOB_TAG and version this node's sources use. -/
def State.liveTag (s : State) : Nat := s.rd F.FAB_ROUTE_LIVE_JOB_TAG
def State.liveVer (s : State) : Nat := s.rd F.FAB_ROUTE_LIVE_LIVE_VER

/-- Ring distance and first port of one dimension: the short way, ties positive (R288). -/
def dimPort (here there dim : Nat) : Option Nat :=
  let d := (there + 8 - here) % 8
  if d = 0 then none else some (2 * dim + (if d ≤ 4 then 0 else 1))

/-- The base set's entry for a destination (R288): PRIMARY, ALTERNATE and ALT_RULE. -/
def State.baseEntry (s : State) (dest : Nat) : Nat × Nat × Nat :=
  let me := s.nodeId
  if dest / 512 != me / 512 then (6, 7, 0)
  else
    let hops := [(6, 0), (3, 1), (0, 2)].filterMap (fun (sh, dim) => dimPort (bits me sh 3) (bits dest sh 3) dim)
    match hops with
    | [] => (0xE, 0xF, 0)
    | p :: rest =>
      if s.portState p == Port.up then (p, 0xF, 0)
      else (p, rest.headD 0xF, 0)

def RouteSet.entry (r : RouteSet) (here dest : Nat) : Nat :=
  if dest / 512 = here / 512 then r.inPond.getD (dest % 512) 0xF else r.ponds.getD (dest / 512) 0xF

/-- Where the router sends a packet (R287, R294). -/
inductive Route where
  | here
  | port (p : Nat)
  | unreachable
  | absent
  deriving DecidableEq, Repr

/-- The port an entry selects. Details: DEDUCED, log entry 69. -/
def State.pick (s : State) (primary alternate rule : Nat) : Route :=
  let up := fun (p : Nat) => p < 8 && s.portState p == Port.up
  if primary = 0xE then .here
  else if primary > 7 then .unreachable
  else
    let wantAlt := !up primary || (rule = 1 && s.flag (F.PORT_STATUS_DEGRADED primary))
    if wantAlt && up alternate then .port alternate
    else if up primary then .port primary
    else .unreachable

/-- Look a packet up in the set of its JOB_TAG and version; JOB_TAG 0 uses the base set (R285).
Details: DEDUCED, log entry 69. -/
def State.lookup (s : State) (tag ver dest : Nat) : Route :=
  if tag = 0 then
    let (p, a, r) := s.baseEntry dest
    s.pick p a r
  else
    match s.net.sets.find? (fun x => x.jobTag == tag && x.ver == ver) with
    | none => .absent
    | some set =>
      let e := set.entry s.nodeId dest
      s.pick (bits e 0 4) (bits e 4 4) (bits e 8 2)

/-- The key under which the port last used for a destination under a set is kept. -/
def routeKey (tag ver dest : Nat) : Nat := 2 ^ 15 * (tag * 16 + ver) + dest

/-- The output port for a destination under a set is now p: a change is a fail-over (R289). Details: DEDUCED, log entry 69. -/
def State.takePort (s : State) (key p : Nat) : State :=
  let moved := match mfind s.net.lastPort key with
    | some p' => p' != p
    | none => false
  let s := { s with net := { s.net with lastPort := mput s.net.lastPort key p } }
  if moved then (s.inc F.FAB_ROUTE_MISSES_FAILOVERS).ev F.FAB_EVENTS_FAILOVER else s

/-- The ports in use after a port state has changed: each destination that the router now sends elsewhere is a fail-over (R289). -/
def State.failOvers (s : State) : State :=
  s.net.lastPort.foldl (fun s (k, _) =>
    match s.lookup (k / 2 ^ 19) (k / 2 ^ 15 % 16) (k % 2 ^ 15) with
    | .port p => s.takePort k p
    | _ => s) s

/-- Route a packet (R285, R287). Details: DEDUCED, log entry 69. -/
def State.routeTo (s : State) (tag ver dest : Nat) : State × Route :=
  let r := s.lookup tag ver dest
  match r with
  | .port p => (s.takePort (routeKey tag ver dest) p, r)
  | _ => (s, r)

/-- A discarded packet is counted (R287, R294). Details: DESIGN CHOICE, log entry 70. -/
def State.routeMiss (s : State) : State := (s.inc F.FAB_ROUTE_MISSES_MISSES).ev F.FAB_EVENTS_ROUTE_MISS

/-- A share that waits changes where it stands; a new one is served last. -/
def joinShare {α : Type} (mine : α → Bool) (new : α) (put : α → α) (l : List (Turn × α)) : List (Turn × α) :=
  if l.any (fun x => mine x.2) then l.map (fun x => (x.1, if mine x.2 then put x.2 else x.2))
  else l ++ [(⟨0, false⟩, put new)]

/-- A message of this node joins its tag's traffic: a chunk, or a TOKEN behind it, in the share of its group or of the fields; a
control message ahead of every chunk (R318). Details: DESIGN CHOICE, log entry 100. -/
def PortQueue.put (q : PortQueue) (k : MsgKind) (b : Bytes) : PortQueue :=
  let group := if k == .fieldChunk then 16 else fld b 1 1 % 16
  if k == .fieldChunk || (k == .collective && fld b 0 1 ≤ 2) then
    { q with
      frames := q.frames ++ [[]]
      chunks := joinShare (fun c => c.group == group) ⟨group, []⟩ (fun c => { c with frames := c.frames ++ [b] }) q.chunks }
  else if k == .collective then
    { q with frames := q.frames.takeWhile (!·.isEmpty) ++ b :: q.frames.dropWhile (!·.isEmpty) }
  else { q with frames := q.frames ++ [b] }

/-- Traffic of a JOB_TAG at a port changes; a tag that has none waiting is served last (R296).
Details: DESIGN CHOICE, log entry 100. -/
def State.portPut (s : State) (p tag : Nat) (put : PortQueue → PortQueue) : State :=
  let x := s.pt p
  s.setPt p { x with queue := joinShare (fun q => q.tag == tag) ⟨tag, [], []⟩ put x.queue }

/-- A packet in transit waits at a port for its turn, behind the traffic of its tag (R296). -/
def State.portSend (s : State) (p tag : Nat) (data : Bytes) : State :=
  s.portPut p tag (fun q => { q with frames := q.frames ++ [data] })

/-- Send a packet of this node on its route: kept here when it is for this node, and without a route discarded and counted (R285,
R287, R294). Details: DEDUCED, log entry 69. -/
def State.sendPacket (s : State) (k : MsgKind) (tag ver dest : Nat) (args : List Nat) (b : Bytes) : State :=
  if dest = s.nodeId then s.send k dest args b
  else match s.routeTo tag ver dest with
    | (s, .port p) => (s.portPut p tag (fun q => q.put k b)).send k dest args b
    | (s, _) => s.routeMiss

/-- Send a packet under this node's job and the version in force. -/
def State.sendLive (s : State) (k : MsgKind) (dest : Nat) (args : List Nat) (b : Bytes) : State :=
  s.sendPacket k s.liveTag s.liveVer dest args b

/-! ## Structures in memory (R487) -/

/-- A structure whose first 64 bytes give its length: 0 when its whole extent is backed and free of poison, which is tested before
any of its contents; else BAD_PARAM or POISON_CONSUMED (R487). -/
def State.structFault (s : State) (a : Nat) (size : Bytes → Nat) : Nat :=
  if !s.backed a 64 then St.badParam
  else if s.poisoned a 64 then St.poisonConsumed
  else if !s.backed a (size (s.readBytes a 64)) then St.badParam
  else if s.poisoned a (size (s.readBytes a 64)) then St.poisonConsumed
  else 0

/-! ## Completion and event records (R362–R366) -/

/-- The 64-byte record of Table 16.4, PHASE 0. -/
def State.mkRecord (s : State) (kind code status handle tag detail : Nat) (result : Bytes) : Bytes :=
  natLE 1 kind ++ [0] ++ natLE 2 s.nodeId ++ natLE 2 code ++ natLE 2 status ++ natLE 4 handle ++ natLE 4 tag
    ++ natLE 8 s.now ++ natLE 8 detail ++ sub result 0 32

/-- Records of a ring: 2^LOG2_RECORDS, the exponent held to 4–12 (Table 16.12). -/
def ringSize (log2 : Nat) : Nat := 2 ^ (min (max log2 4) 12)

/-- Whether a local ring is enabled and has room (R363). -/
def State.ringRoom (s : State) (c : Nat) : Bool :=
  s.flag (F.NODE_CMD_RING_CTRL_ENABLE c) &&
    (s.rd (F.NODE_CMD_RING_HEAD_INDEX c) + 2 ^ 32 - s.rd (F.NODE_CMD_RING_TAIL_INDEX c)) % 2 ^ 32
      < ringSize (s.rd (F.NODE_CMD_RING_CTRL_LOG2_RECORDS c))

/-- Write a record to a ring with room: the record, then HEAD, then the MSI (R363). -/
def State.ringWrite (s : State) (c : Nat) (rcd : Bytes) (msi : Bool) : State :=
  let n := ringSize (s.rd (F.NODE_CMD_RING_CTRL_LOG2_RECORDS c))
  let h := s.rd (F.NODE_CMD_RING_HEAD_INDEX c)
  let phase := 1 - h / n % 2
  let b0 := fld rcd 0 1
  let s := s.write (s.rd (F.NODE_CMD_RING_BASE_BASE c) * 64 + h % n * 64)
    (patch rcd 0 (natLE 1 (setBits b0 7 1 phase)))
  let s := s.wr (F.NODE_CMD_RING_HEAD_INDEX c) (h + 1)
  if msi || s.flag (F.NODE_CMD_RING_CTRL_MSI c)
  then s.msi (s.rd (F.NODE_CMD_RING_CTRL_HART c)) (s.rd (F.NODE_CMD_RING_CTRL_EIID c)) else s

def State.setWaiting (s : State) (c : Nat) (l : List (Bytes × Bool)) : State :=
  { s with cmd := { s.cmd with waiting := mput s.cmd.waiting c l } }

/-- Write waiting records, in order, while the ring has room (R363). -/
def flushList (c : Nat) : List (Bytes × Bool) → State → State
  | [], s => s.setWaiting c []
  | r :: rs, s => if s.ringRoom c then flushList c rs (s.ringWrite c r.1 r.2) else s.setWaiting c (r :: rs)

def State.flushRing (s : State) (c : Nat) : State := flushList c (mget s.cmd.waiting c []) s

/-- Deliver a record to a local ring: written, held in order, or (an event that finds 256 waiting) dropped (R363).
Details: DEDUCED, log entry 20. -/
def State.toRing (s : State) (c : Nat) (rcd : Bytes) (msi isEvent : Bool) : State :=
  let w := mget s.cmd.waiting c []
  if w.isEmpty && s.ringRoom c then s.ringWrite c rcd msi
  else if isEvent && 256 ≤ w.length then s.ev F.NODE_CMD_EVENTS_EVENT_DROPPED
  else s.setWaiting c (w ++ [(rcd, msi)])

/-- Whether a management session is open. Details: DEDUCED, log entry 15. -/
def State.isOpen (s : State) (session : Nat) : Bool := s.cmd.sessions.any (·.sid == session)

/-- Send an inner message to a session; the datagram is counted (R447, R464). Details: DESIGN CHOICE, log entry 11. -/
def State.mgmtSend (s : State) (session inner : Nat) (body : Bytes) : State :=
  if !s.isOpen session then s
  else
    let count := fun (x : Session) => if x.sid == session then { x with sent := x.sent + 1 } else x
    { s with cmd := { s.cmd with sessions := s.cmd.sessions.map count } }.send .mgmtInner session [inner] body

/-- Send a record to an open management session and keep it until it is acknowledged (R364). -/
def State.toMgmt (s : State) (session : Nat) (rcd : Bytes) : State :=
  if !s.isOpen session then s
  else
  let s := { s with cmd := { s.cmd with mgmt := s.cmd.mgmt ++ [MgmtRecord.mk session rcd 1] } }
  s.mgmtSend session 3 rcd

/-- The in-band interrupt: while the queue is not empty and interrupts are enabled (R465).
Details: DESIGN CHOICE, log entry 11. -/
def State.ibi (s : State) : State :=
  if s.flag F.PANEL_TSB_IBI_ENABLED && !s.cmd.tray.isEmpty then s.send .ibi 0 [s.cmd.tray.length] [] else s

/-- Remove the first event record of a queue. -/
def dropOldestEvent : List Bytes → List Bytes
  | [] => []
  | r :: rs => if fld r 0 1 % 4 = 1 then rs else r :: dropOldestEvent rs

/-- Queue a record for the tray; a full queue drops its oldest event (R364, R467).
Details: DESIGN CHOICE, log entry 11. -/
def State.toTray (s : State) (rcd : Bytes) : State :=
  let full := 64 ≤ s.cmd.tray.length
  let q := if full then dropOldestEvent s.cmd.tray else s.cmd.tray
  let s := if full then (s.ev F.NODE_CMD_EVENTS_EVENT_DROPPED).ev F.PANEL_EVENTS_TSB_DROPPED else s
  { s with cmd := { s.cmd with tray := q ++ [rcd] } }.ibi

/-- Deliver a completion record to its channel. -/
def State.deliver (s : State) (l : LongCmd) (rcd : Bytes) : State :=
  match l.chan with
  | .loc c => s.toRing c rcd l.msi false
  | .mgmt i => s.toMgmt i rcd
  | .tray => s.toTray rcd
  | .fabric n => s.sendLive .commandRecord n [] rcd

/-- A long command completes: one record, RESULT zero unless the status is of class 0x0 or kept (R359, R362). -/
def State.completeKeep (s : State) (handle status detail : Nat) (result : Bytes) : State :=
  match s.cmd.longs.find? (fun l => l.handle == handle) with
  | none => s
  | some l =>
    let s := { s with cmd := { s.cmd with longs := s.cmd.longs.filter (fun l => l.handle != handle) } }
    if l.silent then s
    else s.deliver l (s.mkRecord 0 l.opcode status (handle % 2 ^ 32) l.tag detail result)

/-- Details: DEDUCED, log entry 14. -/
def State.complete (s : State) (handle status detail : Nat) (result : Bytes) : State :=
  s.completeKeep handle status detail (if isSuccess status then result else [])

/-- Raise an event and deliver it to the rings that ask for it, the job's session or every session, and the tray
(R366). Details: DEDUCED, log entry 20. -/
def State.raiseEvent (s : State) (code status detail : Nat) (result : Bytes) : State :=
  let seq := (s.cmd.eventSeq + 1) % 2 ^ 32
  let s := { s with cmd := { s.cmd with eventSeq := seq } }
  let rcd := s.mkRecord 1 code status 0 seq detail result
  let s := forEach (List.range 16) s (fun c s =>
    if s.flag (F.NODE_CMD_RING_CTRL_ENABLE c) && bit (s.rd (F.NODE_CMD_RING_CTRL_EVENT_MASK c)) (Ev.maskBit code)
    then s.toRing c rcd false true else s)
  let sessions := match s.job with
    | some j => (match j.session with | some i => [i] | none => [])
    | none => s.cmd.sessions.map (·.sid)
  let s := forEach sessions s (fun i s => s.toMgmt i rcd)
  s.toTray rcd

/-! ## Replies (R354–R359) -/

/-- The 64-byte reply of Table 16.3. Details: DEDUCED, log entry 20. -/
def mkReply (drops state opcode status handle tag : Nat) (data : Bytes) : Bytes :=
  natLE 2 0x4C52 ++ natLE 1 drops ++ natLE 1 state ++ natLE 2 opcode ++ natLE 2 status ++ natLE 4 handle
    ++ natLE 4 tag ++ sub data 0 48

/-- The reply image of a Command Port slot; EMPTY until a PKST (R355). -/
def State.slot (s : State) (k : Nat) : Bytes := mget s.cmd.slots k (mkReply 0 0 0 0 0 0 [])
/-- Details: DEDUCED, log entry 20. -/
def State.setSlot (s : State) (k : Nat) (r : Bytes) : State :=
  { s with cmd := { s.cmd with slots := mput s.cmd.slots k r } }

/-- Complete the newest kept packet of a session and TAG with its reply (R365). Details: DEDUCED, log entry 20. -/
def keepReply : List (Nat × Nat × Bytes × Bytes) → Nat → Nat → Bytes → List (Nat × Nat × Bytes × Bytes)
  | [], _, _, _ => []
  | (i, t, p, r) :: l, session, tag, reply =>
    if i = session && t = tag then (i, t, p, reply) :: l else (i, t, p, r) :: keepReply l session tag reply

/-- Send a command's reply on its channel. Details: DEDUCED, log entry 20. -/
def State.replyTo (s : State) (chan : Chan) (slot opcode tag status handle : Nat) (data : Bytes) : State :=
  match chan with
  | .loc c =>
    let k := c * 64 + slot
    s.setSlot k (mkReply (fld (s.slot k) 2 1) 2 opcode status handle tag data)
  | .mgmt i =>
    let r := mkReply 0 2 opcode status handle tag data
    { s with cmd := { s.cmd with kept := keepReply s.cmd.kept i tag r } }.mgmtSend i 2 r
  | .tray => { s with cmd := { s.cmd with
      trayReply := mkReply (fld s.cmd.trayReply 2 1) 2 opcode status handle tag data } }
  | .fabric n => s.sendLive .commandReply n [] (mkReply 0 2 opcode status handle tag data)

/-- Details: DEDUCED, log entry 20. -/
def State.reply (s : State) (q : Sub) (status : Nat) (data : Bytes) : State :=
  if q.silent then s else s.replyTo q.chan q.slot q.opcode q.tag status 0 data

/-- A command is refused at submission: its status, and no effect (R367). Details: DEDUCED, log entry 14. -/
def State.refuse (s : State) (q : Sub) (status : Nat) : State :=
  (s.inc F.NODE_CMD_COUNTS_REFUSED).reply q status []

/-- The channel code of a handle (Table 16.2). -/
def Chan.code : Chan → Nat
  | .loc c => c
  | .mgmt _ => 0x40
  | .tray => 0x80
  | .fabric _ => 0xC0

/-- The key of a channel's sequence count: each management session counts on its own (R358).
Details: DEDUCED, log entry 20. -/
def Chan.seqKey : Chan → Nat
  | .mgmt i => 0x10000 + i
  | c => c.code

/-- A long command is accepted: it receives the next handle of its channel, and its reply carries ACCEPTED or
NO_WINDOW_YET (R358, R359). The internal handle of a management command also carries its session above bit 31. -/
def State.acceptAs (s : State) (q : Sub) (status : Nat) : State × Nat :=
  let k := q.chan.seqKey
  let n := mget s.cmd.seqs k 0 % 0xFFFFFF + 1
  let h := 2 ^ 24 * q.chan.code + n
  let key := match q.chan with
    | .mgmt i => h + 2 ^ 32 * i
    | _ => h
  let s := { s with cmd := { s.cmd with
    seqs := mput s.cmd.seqs k n
    longs := s.cmd.longs ++ [LongCmd.mk key q.chan q.opcode q.tag q.msi q.silent] } }
  let s := s.inc F.NODE_CMD_COUNTS_ACCEPTED
  (if q.silent then s else s.replyTo q.chan q.slot q.opcode q.tag status h [], key)

/-- Details: DEDUCED, log entry 14. -/
def State.accept (s : State) (q : Sub) : State × Nat := s.acceptAs q St.accepted

/-- A short command's outcome. Details: DEDUCED, log entry 14. -/
def State.short (s : State) (q : Sub) (status : Nat) (data : Bytes) : State :=
  (s.inc F.NODE_CMD_COUNTS_ACCEPTED).reply q status data

/-- A long command accepted and completed in this step. Details: DEDUCED, log entry 14. -/
def State.longNow (s : State) (q : Sub) (status detail : Nat) (result : Bytes) : State :=
  let (s, h) := s.accept q
  s.complete h status detail result

/-- Parameter byte ranges an opcode uses (Table 16.9), without the reserved bytes: KEEP_WRITE uses COUNT bytes of data, and
FW_STAGE what its mode names. Details: DEDUCED, log entries 13, 17. -/
def paramRanges (opcode : Nat) (ps : Bytes) : List (Nat × Nat) :=
  match opcode with
  | 0x0101 => [(0, 1)]
  | 0x0102 => [(0, 1), (2, 2)]
  | 0x0103 => [(0, 2)]
  | 0x0104 => [(0, 2)]
  | 0x0201 => [(0, 1), (4, 5)]
  | 0x0202 => [(0, 1), (4, 6), (16, fld ps 8 2)]
  | 0x0301 => [(0, 3)]
  | 0x0303 => [(0, 3)]
  | 0x0304 => [(0, 4)]
  | 0x0401 => [(0, 2), (8, 8)]
  | 0x0402 => [(0, 3)]
  | 0x0403 => [(0, 4), (8, 16)]
  | 0x0501 => [(0, 1), (2, 2), (8, 8)]
  | 0x0502 => [(0, 4)]
  | 0x0503 => [(0, 3)]
  | 0x0504 => [(0, 1)]
  | 0x0601 => [(0, 104)]
  | 0x0602 => [(0, 3), (8, 24)]
  | 0x0603 => [(0, 2)]
  | 0x0604 => [(0, 48)]
  | 0x0701 => [(0, 56)]
  | 0x0702 => [(0, 8)]
  | 0x0703 => [(0, 2), (8, 16)]
  | 0x0801 => [(0, 1), (8, 8)]
  | 0x0901 => [(0, 40)]
  | 0x0902 => if fld ps 0 1 = 0 then [(0, 1), (8, 16)] else [(0, 2), (4, 4), (32, 4096)]
  | 0x0903 => [(0, 2)]
  | 0x0904 => [(0, 1)]
  | 0x0905 => [(0, 1)]
  | 0x0A01 => [(0, 1), (8, 16)]
  | 0x0A03 => [(0, 24)]
  | 0x0B02 => [(0, 1)]
  | _ => []

/-- Whether a parameter byte outside the opcode's ranges is nonzero (R352, R11).
Details: DEDUCED, log entries 13, 17. -/
def reservedParams (opcode : Nat) (ps : Bytes) : Bool :=
  (List.range ps.length).any (fun i =>
    !((paramRanges opcode ps).any (fun r => r.1 ≤ i && i < r.1 + r.2)) && ps.getD i 0 != 0)

/-- Parameter field of n bytes at an offset; beyond LENGTH it reads 0 (R352). Details: DESIGN CHOICE, log entry 12. -/
def Sub.p (q : Sub) (off n : Nat) : Nat := fld q.params off n

/-- Run the submission at the front of the gate if it is for this row; otherwise the row has nothing to act on.
Details: DESIGN CHOICE, log entry 12. -/
def State.withSub (s : State) (opcode : Nat) (sel : Sub → Bool) (f : Sub → State → State) : Out :=
  match s.cmd.gate with
  | q :: r =>
    if q.opcode == opcode && sel q then
      let s := { s with cmd := { s.cmd with gate := r } }
      if reservedParams opcode q.params then
        ok (if Op.longs.contains opcode then s.refuse q St.badParam else s.short q St.badParam [])
      else ok (f q s)
    else ok s
  | [] => ok s

/-! ## Job -/

def State.jobMask (s : State) : Nat := match s.job with | some j => j.mask | none => 0
def State.admitted (s : State) : Bool := s.job.isSome
/-- The profile in force: 0 Rate, 1 Exact, 2 Sealed. -/
def State.profile (s : State) : Nat := s.rd F.NODE_PROFILE_ACTIVE
/-- Operations marked V are refused in the Exact and Sealed profiles (R29). -/
def State.refusesV (s : State) : Bool := s.profile != 0
def State.sealed (s : State) : Bool := s.profile == 2

/-- The node is at stage B11 (R395). -/
def State.ready (s : State) : Bool := s.rd F.NODE_STAGE_STATE == 1

/-! ## Recorder (R428–R430) -/

/-- Whether records of a class bit are being written (0 for STEP and MARK). Details: DEDUCED, log entry 88. -/
def State.recording (s : State) (cls : Option Nat) : Bool :=
  s.rd F.NODE_REC_STATUS_STATE == 1 &&
    (match cls with | some c => bit (s.rd F.NODE_REC_STATUS_CLASSES) c | none => true)

/-- Write bytes to the record ring, wrapping. -/
def State.ringBytes (s : State) (base len off : Nat) (bs : Bytes) : State :=
  let first := min bs.length (len - off)
  (s.write (base + off) (bs.take first)).write base (bs.drop first)

/-- Drop whole records from the front until n bytes fit. Details: DEDUCED, log entry 88. -/
def evictRecords (len : Nat) : List Nat → Nat → Nat → List Nat × Nat
  | [], _, _ => ([], 0)
  | sz :: r, used, n =>
    if used + n ≤ len then (sz :: r, 0)
    else
      let (l, k) := evictRecords len r (used - sz) n
      (l, k + sz)

/-- Form a record of a kind; a record that finds the 4 MiB buffer full is dropped and counted (R429, R430). The buffer
drains at 8 bytes per nanosecond of step time. Details: DEDUCED, log entry 88. -/
def State.recordPut (s : State) (cls : Option Nat) (kind flags : Nat) (body : Bytes) : State :=
  if !s.recording cls then s
  else
    let r := s.check.recorder
    let elapsed := (s.now - r.bufAt) * s.periodNs / 2 ^ 24
    let rcd := natLE 8 s.now ++ natLE 1 kind ++ natLE 1 flags ++ natLE 2 body.length ++ natLE 4 r.seq
      ++ sub body 0 (roundUp body.length 16)
    let held := r.bufBytes - 8 * elapsed
    if held + rcd.length > 4 * 2 ^ 20 then
      let s := { s with check := { s.check with recorder :=
        { r with bufBytes := held, bufAt := s.now, incomplete := true } } }
      s.inc F.NODE_REC_COUNTS_DROPPED
    else
      let base := s.rd F.NODE_REC_STATUS_BASE * 64
      let len := s.rd F.NODE_REC_LENGTH_BYTES
      let used := r.sizes.foldl (· + ·) 0
      let (kept, gone) := evictRecords len r.sizes used rcd.length
      let head := s.rd F.NODE_REC_HEAD_OFFSET
      let s := s.ringBytes base len head rcd
      let s := s.wr F.NODE_REC_HEAD_OFFSET ((head + rcd.length) % len)
      let s := s.wr F.NODE_REC_TAIL_OFFSET ((s.rd F.NODE_REC_TAIL_OFFSET + gone) % len)
      let s := s.incw F.NODE_REC_COUNTS_WRITTEN
      { s with check := { s.check with recorder :=
        { r with sizes := kept ++ [rcd.length], bufBytes := held + rcd.length, bufAt := s.now, seq := r.seq + 1 } } }

end Sys2Proof.Machine
end

