-- ==== Sys2Proof/Machine/Sequencer.lean ====
section
/-! DEFINITION. The schedule sequencer's own operations (chapter 4): image parsing, firing, starting, completion,
signals, failure propagation, outcome records and the start of a step. -/

namespace Sys2Proof.Machine

open Sys2Proof

/-! ## Images (R73, R74, R85) -/

def parseHeader (b : Bytes) : Header :=
  { profile := fld b 3 1, towerMhz := fld b 4 2, tbId := fld b 6 2, periodNs := fld b 8 8, tickLog2 := fld b 16 1,
    variant := fld b 17 1, terrace := fld b 18 1, haltOnError := bit (fld b 19 1) 0, version := fld b 24 8,
    digest := sub b 32 32 }

def parseFieldMap (b : Bytes) : FieldMap :=
  { dstBase := fld b 0 8, bufStride := fld b 8 4, nbuf := fld b 12 1, destTerrace := fld b 13 1 % 16,
    destSlot := fld b 14 1 % 64, valid := bit (fld b 15 1) 0 }

def parseEntry (b : Bytes) : Entry :=
  let f := fld b 1 1
  { action := fld b 0 1, waitEn := bit f 0, sigEn := bit f 1, report := bit f 2, tag := fld b 2 2,
    firePhase := fld b 4 3, waitCtr := fld b 7 1 % 32, deadline := fld b 8 3, sigCtr := fld b 11 1 % 32,
    waitVal := fld b 12 2, sigTerrace := fld b 14 1 % 16, operand := sub b 16 16 }

/-- Action codes (Table 4.3). -/
def Act.tensorRun : Nat := 0x01
def Act.vectorProgram : Nat := 0x02
def Act.solve : Nat := 0x03
def Act.move : Nat := 0x04
def Act.collective : Nat := 0x05
def Act.fieldSend : Nat := 0x06
def Act.fieldWait : Nat := 0x07
def Act.reflect : Nat := 0x08
def Act.digest : Nat := 0x09
def Act.quiet : Nat := 0x0A
def Act.barrier : Nat := 0x0B
def Act.recordMark : Nat := 0x0C
def Act.endStep : Nat := 0x0F

/-- Operand field of n bytes at entry byte off (16 to 31), Table 4.4. -/
def Entry.op (e : Entry) (off n : Nat) : Nat := fld e.operand (off - 16) n
def Entry.spireMask (e : Entry) : Nat := e.op 16 4 % 2 ^ 18
def Entry.addr (e : Entry) : Nat := e.op 24 8 % 2 ^ 48

/-! ## Banks and entry states -/

def State.liveBank (s : State) (t : Nat) : Bank :=
  if s.flag (F.SCHED_STATUS_LIVE_BANK t) then (s.tr t).bankB else (s.tr t).bankA
def State.inactiveBank (s : State) (t : Nat) : Bank :=
  if s.flag (F.SCHED_STATUS_LIVE_BANK t) then (s.tr t).bankA else (s.tr t).bankB

/-- Write a terrace's inactive bank; SCHEDULE_LOAD and JOB_SHRINK only (R72). -/
def State.writeInactive (s : State) (t : Nat) (b : Bank) : State :=
  let s := if s.flag (F.SCHED_STATUS_LIVE_BANK t) then s.setTr t { s.tr t with bankA := b }
    else s.setTr t { s.tr t with bankB := b }
  let s := s.wr (F.SCHED_STATUS_INACTIVE_VALID t) 1
  let s := s.wr (F.SCHED_STATUS_VARIANT_INACTIVE t) b.header.variant
  let s := s.wr (F.SCHED_VERSION_INACTIVE_VERSION t) b.header.version
  s.wr (F.SCHED_COUNTS_INACTIVE_ENTRIES t) b.entries.length

/-- Swap the banks: the inactive bank becomes live, the live one inactive, contents kept (R93).
Details: DEDUCED, log entry 36. -/
def State.swapBanks (s : State) (t : Nat) : State :=
  let live := s.liveBank t
  let inact := s.inactiveBank t
  let lv := s.rd (F.SCHED_STATUS_LIVE_VALID t)
  let iv := s.rd (F.SCHED_STATUS_INACTIVE_VALID t)
  let s := s.wr (F.SCHED_STATUS_LIVE_BANK t) (1 - s.rd (F.SCHED_STATUS_LIVE_BANK t))
  let s := (s.wr (F.SCHED_STATUS_LIVE_VALID t) iv).wr (F.SCHED_STATUS_INACTIVE_VALID t) lv
  let s := (s.wr (F.SCHED_STATUS_VARIANT_LIVE t) inact.header.variant).wr (F.SCHED_STATUS_VARIANT_INACTIVE t)
    live.header.variant
  let s := (s.wr (F.SCHED_VERSION_LIVE_VERSION t) inact.header.version).wr (F.SCHED_VERSION_INACTIVE_VERSION t)
    live.header.version
  let s := (s.wr (F.SCHED_COUNTS_LIVE_ENTRIES t) inact.entries.length).wr (F.SCHED_COUNTS_INACTIVE_ENTRIES t)
    live.entries.length
  s.wr (F.SCHED_STATUS_ARMED t) 0

def State.entry (s : State) (t i : Nat) : Option Entry := (s.liveBank t).entries[i]?
def State.es (s : State) (t i : Nat) : EntryState := mget (s.tr t).entries i EntryState.init
def State.setEs (s : State) (t i : Nat) (x : EntryState) : State :=
  let r := s.tr t
  s.setTr t { r with entries := mput r.entries i x }

/-- Entries of a terrace that run now. -/
def State.runningEntries (s : State) (t : Nat) : List Nat :=
  ((s.tr t).entries.filter (fun e => e.2.phase == .running)).map (·.1)
def State.pendingEntries (s : State) (t : Nat) : List Nat :=
  ((s.tr t).entries.filter (fun e => e.2.phase == .pending)).map (·.1)
def State.countRunning (s : State) (t : Nat) : State :=
  s.wr (F.SCHED_COUNTS_RUNNING t) (s.runningEntries t).length

/-! ## Exclusive resources (R75, R78, R111) -/

/-- A unit an entry holds: 0 tensor engine, 1 spire core and short-vector unit, 2 data mover, 3 Solver Engine; with the
spire's index in the terrace. -/
abbrev Unit3 := Nat × Nat

/-- TENSOR_MASK of the SOLVE descriptor a SOLVE entry read as it fired (R204). -/
def State.solveTensorMask (s : State) (t i : Nat) : Nat := fld (mget (s.es t i).snap 0 []) 116 4 % 2 ^ 18

def State.resources (s : State) (t i : Nat) (e : Entry) : List Unit3 :=
  let by18 := fun (k m : Nat) => (bitList m 18).map (fun i => (k, i))
  if e.action == Act.tensorRun then by18 0 e.spireMask
  else if e.action == Act.vectorProgram then by18 1 e.spireMask
  else if e.action == Act.move then by18 2 e.spireMask
  else if e.action == Act.solve then (3, 0) :: by18 0 (s.solveTensorMask t i)
  else if e.action == Act.quiet then (3, 0) :: (by18 0 0x3FFFF ++ by18 1 0x3FFFF ++ by18 2 0x3FFFF)
  else []

/-- The units an entry holds, and for a COLLECTIVE its turn at the group slot, 4: the entries of a slot start in the order in
which they fire, which is table order (R91, R298). -/
def State.claims (s : State) (t i : Nat) (e : Entry) : List Unit3 :=
  s.resources t i e ++ (if e.action == Act.collective then [(4, e.op 16 1 % 16)] else [])

/-- A tensor engine or mover with core-issued work is not free (R111); a Solver Engine with a run is not. -/
def State.unitBusy (s : State) (t : Nat) (u : Unit3) : Bool :=
  let x := s.sp (18 * t + u.2)
  if u.1 = 0 then !x.tq.isEmpty || x.tens.isSome
  else if u.1 = 2 then !x.mq.isEmpty || x.mover.isSome
  else if u.1 = 3 then s.rd (F.SOLV_STATUS_STATE t) != 0
  else false

/-- The units the running entries of a terrace hold. -/
def State.heldUnits (s : State) (t : Nat) : List Unit3 :=
  (s.runningEntries t).flatMap (fun j => match s.entry t j with | some e => s.resources t j e | none => [])

/-- Whether entry's wait is met (R78 point 1). -/
def State.waitMet (s : State) (t : Nat) (e : Entry) : Bool :=
  !e.waitEn || e.waitVal ≤ s.rd (F.SCHED_CTR_VALUE t e.waitCtr)

/-- The conditions of R78: a pending entry whose wait is met, whose units are free and claimed by no lower pending entry, and
with fewer than 64 entries running; COLLECTIVE entries of a slot keep their order (R298). -/
def State.mayStart (s : State) (t i : Nat) : Bool :=
  match s.entry t i with
  | none => false
  | some e =>
    let rs := s.claims t i e
    (s.tr t).inStep && (s.es t i).phase == .pending && s.waitMet t e &&
    (s.runningEntries t).length < 64 &&
    rs.all (fun u => !(s.heldUnits t).contains u && !s.unitBusy t u) &&
    (s.pendingEntries t).all (fun j => i ≤ j ||
      (match s.entry t j with
       | some e' => (s.claims t j e').all (fun u => !rs.contains u)
       | none => true))

/-- R78: an entry that meets the conditions starts once every lower one that meets them has started.
Details: DEDUCED, log entry 36. -/
def State.startable (s : State) (t i : Nat) : Bool :=
  s.mayStart t i && (s.pendingEntries t).all (fun j => i ≤ j || !s.mayStart t j)

/-- The entry holds its units and runs. -/
def State.startEntry (s : State) (t i : Nat) : State :=
  (s.setEs t i { s.es t i with phase := .running, started := true, source := i }).countRunning t

/-! ## Outcome ring (R96) -/

/-- Write a 32-byte outcome record; a full ring drops it (Table 4.9). Details: DEDUCED, log entry 37. -/
def State.outcome (s : State) (t entry action kind status tag detail : Nat) (head : Bytes) : State :=
  if !s.flag (F.SCHED_RING_CTRL_ENABLE t) then s
  else
    let n := 2 ^ (min (max (s.rd (F.SCHED_RING_CTRL_LOG2_RECORDS t)) 4) 16)
    let h := s.rd (F.SCHED_RING_HEAD_INDEX t)
    if (h + 2 ^ 32 - s.rd (F.SCHED_RING_TAIL_INDEX t)) % 2 ^ 32 == n then s.ev (F.SCHED_EVENTS_RING_FULL t)
    else
      let rcd := natLE 8 s.now ++ natLE 2 entry ++ natLE 1 action ++ natLE 1 kind ++ natLE 2 status ++ natLE 2 tag
        ++ natLE 8 detail ++ sub head 0 8
      let s := s.write (s.rd (F.SCHED_RING_BASE_BASE t) * 64 + h % n * 32) rcd
      let s := s.wr (F.SCHED_RING_HEAD_INDEX t) (h + 1)
      if s.flag (F.SCHED_RING_CTRL_MSI t)
      then s.msi (s.rd (F.SCHED_RING_CTRL_HART t)) (s.rd (F.SCHED_RING_CTRL_EIID t)) else s

/-! ## Completion, signals, propagation (R79, R80, R84) -/

/-- A signal to counter SIG_CTR of a terrace: dropped as stale unless the terrace runs the sender's step of the job
(R79). The first failure is remembered with its entry (R80). Details: DEDUCED, log entry 37. -/
def State.signal (s : State) (step target ctr status source : Nat) : State :=
  if !(bit s.jobMask target && s.rd (F.SCHED_STATUS_STATE target) == 1 &&
       s.rd (F.SCHED_STEP_STEP target) == step && ((s.tr target).inStep || (s.tr target).ranStep == some step))
  then s.ev (F.SCHED_EVENTS_STALE_SIGNAL target)
  else if isSuccess status then s.inc (F.SCHED_CTR_VALUE target ctr)
  else if s.flag (F.SCHED_CTR_FAILED target ctr) then s
  else
    let r := s.tr target
    (s.ev (F.SCHED_CTR_FAILED target ctr)).setTr target
      { r with ctrSource := mput r.ctrSource ctr (status, source) }

/-- Both members of a pair in the Sealed profile, the terrace alone otherwise (R30, R425).
Details: DEDUCED, log entry 90. -/
def State.members (s : State) (t : Nat) : List Nat := if s.sealed then [t % 8, t % 8 + 8] else [t]

/-- One entry ends: its state, tallies, outcome record and signal, without the propagation that follows.
Details: DEDUCED, log entry 37. -/
def State.endEntry (s : State) (t i status : Nat) (propagated : Bool) (source : Nat) (sig : Bool) : State :=
  match s.entry t i with
  | none => s
  | some e =>
    let x := s.es t i
    let r := s.tr t
    let x' := { x with phase := .done, status := status, propagated := propagated, source := source, ready := false }
    let failed := 2 ≤ statusClass status
    let r' := { r with
      entries := mput r.entries i x'
      failCount := if isSuccess status then r.failCount else r.failCount + 1
      firstFail := if !isSuccess status && r.firstFail == 0 then status else r.firstFail
      unusable := r.unusable || failed
      haltPending := r.haltPending || (failed && (s.liveBank t).header.haltOnError)
      haltStatus := if failed && r.haltStatus == 0 then status else r.haltStatus }
    let s := (s.setTr t r').countRunning t
    let missed := status == St.deadlineMissed || status == St.deadlineAborted
    let s := if missed && !propagated then (s.ev (F.SCHED_EVENTS_MISS t)).inc (F.SCHED_TALLY_MISSES t) else s
    let s := if status == St.exactViolation then s.ev (F.SCHED_EVENTS_EXACT_VIOL t) else s
    let detail := b2n x.started + 2 * b2n failed + 4 * b2n propagated + 2 ^ 16 * source + 2 ^ 32 * (x.detail % 2 ^ 32)
    let s := if failed || e.report then s.outcome t i e.action 0 status e.tag detail [] else s
    if e.sigEn && sig then
      forEach (s.members e.sigTerrace) s (fun target s =>
        s.signal (s.rd (F.SCHED_STEP_STEP t)) target e.sigCtr status i)
    else s

/-- Whether an entry waits on a counter that is FAILED below its value (R80). -/
def State.waitFailed (s : State) (t : Nat) (e : Entry) : Bool :=
  e.waitEn && !s.waitMet t e && s.flag (F.SCHED_CTR_FAILED t e.waitCtr)

/-- Status and source entry of the failure that an entry's counter passes on. -/
def State.waitSource (s : State) (t i : Nat) (e : Entry) : Nat × Nat :=
  mget (s.tr t).ctrSource e.waitCtr (St.deadlineMissed, i)

/-- The first pending entry, of any terrace, whose wait is not met and whose counter is FAILED: with the status and
source entry to pass on (R80). END_STEP waits for the other entries all the same (R82). Details: DEDUCED, log entry 37. -/
def State.doomed (s : State) : Option (Nat × Nat × Nat × Nat) :=
  (List.range 16).findSome? (fun t =>
    (s.pendingEntries t).findSome? (fun i =>
      match s.entry t i with
      | some e =>
        if s.waitFailed t e && e.action != Act.endStep then
          let (st, src) := s.waitSource t i e
          some (t, i, st, src)
        else none
      | none => none))

/-- Complete doomed entries until none is left; each pass ends one entry, so the fuel is the number of entries.
Details: DEDUCED, log entry 37. -/
def propagate : Nat → State → State
  | 0, s => s
  | n + 1, s =>
    match s.doomed with
    | none => s
    | some (t, i, st, src) => propagate n (s.endEntry t i st true src true)

/-- An entry completes with a status (R79), and every failure it causes follows (R80).
Details: DEDUCED, log entry 37. -/
def State.completeEntry (s : State) (t i status : Nat) : State :=
  propagate 65536 (s.endEntry t i status false i true)

/-- The work of a running entry is done: ENTRY_COMPLETE may complete it. -/
def State.entryReady (s : State) (t i status : Nat) : State :=
  let x := s.es t i
  if x.phase == .running then s.setEs t i { x with ready := true, partStatus := status } else s

/-- One spire's part of an entry ends, with its status; a failure is kept by spire index, so that the first in ascending
index decides the entry (R107). Details: DEDUCED, log entry 37. -/
def State.partDone (s : State) (t i spire status : Nat) : State :=
  let x := s.es t i
  if x.phase != .running then s
  else
    let left := setBit x.left spire false
    s.setEs t i { x with
      left := left, ready := left == 0
      parts := if isSuccess status then x.parts else mput x.parts spire status }

/-- The status a ready entry completes with: its own, else the first failing part in ascending spire index (R107).
Details: DEDUCED, log entry 37. -/
def EntryState.outcome (x : EntryState) : Nat :=
  if !isSuccess x.partStatus then x.partStatus
  else match x.parts with
    | (_, st) :: _ => st
    | [] => x.partStatus

/-! ## Starting a step (R57, R65, R77, R83) -/

/-- Whether a terrace may start a step at all. Details: DEDUCED, log entry 36. -/
def State.mayRun (s : State) (t step : Nat) : Bool :=
  bit s.jobMask t && s.rd (F.SCHED_STATUS_STATE t) == 1 && !(s.tr t).waitBoundary && !s.tb.stopped &&
    (match s.tb.barrier with | some b => b < step | none => true) &&
    (match s.job with | some j => (match j.releasing with | some (_, done) => !done | none => true) | none => false)

/-- The sequencer starts a step: an armed swap whose bound step has come takes effect, then R77.
Details: DEDUCED, log entry 36. -/
def State.startStep (s : State) (t step : Nat) (late : Bool) : State :=
  if !s.mayRun t step then s
  else
    let s := if s.flag (F.SCHED_STATUS_ARMED t) && s.rd (F.SCHED_ARM_STEP_STEP t) ≤ step then s.swapBanks t else s
    if !s.flag (F.SCHED_STATUS_LIVE_VALID t) then s
    else
      let s := forEach (List.range 32) s (fun c s => s.wrReg (R.SCHED_CTR t c) 0)
      let s := ((s.wr (F.SCHED_STATUS_NEXT_ENTRY t) 0).wr (F.SCHED_STEP_STEP t) step).wr
        (F.SCHED_STATUS_OVERRUNNING t) 0
      let r := s.tr t
      let s := s.setTr t { r with
        inStep := true, entries := [], ctrSource := [], failCount := 0, firstFail := 0, unusable := false, lateStart := late, reflectList := none }
      let s := s.countRunning t
      match s.job with
      | some j => { s with job := some { j with anyStep := true } }
      | none => s

/-! ## Field waits (R88) -/

/-- FIELD_WAIT's test: met, failed, or still waiting (R88). Details: DEDUCED, log entry 38. -/
def State.fieldTest (s : State) (t : Nat) (e : Entry) : Option Nat :=
  let slot := e.op 16 1 % 64
  let want := s.rd (F.SCHED_STEP_STEP t) - e.op 17 1
  let k := want % 3
  if s.flag (F.SCHED_FIELD_VALID t slot k) && s.rd (F.SCHED_FIELD_STEP t slot k) == want then
    if e.op 18 2 ≤ s.rd (F.SCHED_FIELD_COUNT t slot k) then some St.ok
    else if s.flag (F.SCHED_FIELD_FAILED t slot k) then some St.chunkUnrecoverable
    else none
  else none

/-! ## End of a step (R82, R83) -/

/-- A skipped-step record, with its event and tally (R83, R96). Details: DEDUCED, log entry 36. -/
def State.skipStep (s : State) (t step status : Nat) : State :=
  ((s.ev (F.SCHED_EVENTS_SKIPPED t)).inc (F.SCHED_TALLY_SKIPS t)).outcome t 0xFFFF 0 2 status 0 (step % 2 ^ 40) []

/-- The step digest: SHA3-256 of the preamble and the folded results in table order (R418). -/
def State.stepDigest (s : State) (t : Nat) : Bytes :=
  let h := (s.liveBank t).header
  let ds := (s.tr t).entries.filterMap (fun e => if isSuccess e.2.status then e.2.digest else none)
  sha3_256 (natLE 8 h.version ++ natLE 1 h.terrace ++ natLE 1 h.variant ++ natLE 2 ds.length ++ zeros 20
    ++ ds.flatten)

/-! ## Arrivals of the step (R429, Table 19.6) -/

/-- A write-type request or chunk from a source engine was applied: it counts in the step's ARRIVALS, with the CRC-64 over
its address, MOP and payload (log entry 47). -/
def State.noteArrival (s : State) (source addr mop : Nat) (payload : Bytes) : State :=
  let r := s.check.recorder
  let (n, bytes, sum, first, _) := mget r.arrivals source (0, 0, 0, s.phase, 0)
  let x := (n + 1, bytes + payload.length,
    (sum + crc64 (natLE 8 addr ++ natLE 2 mop ++ payload)) % 2 ^ 64, first, s.phase)
  { s with check := { s.check with recorder := { r with arrivals := mput r.arrivals source x } } }

/-- The source of chunks from a node: its collective engine has no engine index of Table 11.1 (log entry 47). -/
def chunkSource (node : Nat) : Nat := node * 32 + 31

end Sys2Proof.Machine
end

