-- ==== Sys2Proof/Machine/Formats.lean ====
section
/-! DEFINITION. Number formats (chapter 7): encodings, the one rounding rule, exact arithmetic over dyadic values,
conversions and their saturation. -/

namespace Sys2Proof.Machine

open Sys2Proof

/-- A value: NaN, a signed infinity, or ±m × 2^w with a signed zero (R151, R152). -/
inductive FVal where
  | nan
  | inf (neg : Bool)
  | fin (neg : Bool) (m : Nat) (w : Int)
  deriving DecidableEq, Repr

/-- How a floating-point format uses its top exponent: IEEE infinities and NaNs, the one NaN of E4M3, or neither. -/
inductive TopExp where
  | ieee | e4m3 | finite
  deriving DecidableEq, Repr

/-- A floating-point format (Table 7.1). -/
structure Fmt where
  ebits : Nat
  mbits : Nat
  bias : Nat
  top : TopExp
  nan : Nat
  deriving DecidableEq, Repr

def fmtE2M1 : Fmt := ⟨2, 1, 1, .finite, 0⟩
def fmtE2M3 : Fmt := ⟨2, 3, 1, .finite, 0⟩
def fmtE3M2 : Fmt := ⟨3, 2, 3, .finite, 0⟩
def fmtE4M3 : Fmt := ⟨4, 3, 7, .e4m3, 0x7F⟩
def fmtE5M2 : Fmt := ⟨5, 2, 15, .ieee, 0x7E⟩
def fmtBF16 : Fmt := ⟨8, 7, 127, .ieee, 0x7FC0⟩
def fmtFP16 : Fmt := ⟨5, 10, 15, .ieee, 0x7E00⟩
def fmtFP32 : Fmt := ⟨8, 23, 127, .ieee, 0x7FC00000⟩
def fmtFP64 : Fmt := ⟨11, 52, 1023, .ieee, 0x7FF8000000000000⟩

/-- The floating-point format of a format code (Table 6.3); other codes read as FP64 and are never asked for. -/
def fmtOf (code : Nat) : Fmt :=
  match code with
  | 0x0 => fmtE2M1 | 0x1 => fmtE2M3 | 0x2 => fmtE3M2 | 0x3 => fmtE4M3 | 0x4 => fmtE5M2
  | 0x7 => fmtBF16 | 0x8 => fmtFP16 | 0x9 => fmtFP32 | _ => fmtFP64

/-- Width in bits of an element of a format code (Tables 7.1, 7.2). -/
def fmtWidth (code : Nat) : Nat :=
  match code with
  | 0x0 => 4 | 0x1 => 6 | 0x2 => 6 | 0x3 => 8 | 0x4 => 8 | 0x5 => 4 | 0x6 => 8 | 0x7 => 16 | 0x8 => 16 | 0x9 => 32
  | 0xA => 64 | 0xB => 64 | 0xC => 32 | 0xD => 128 | _ => 8

/-- A float code of Table 6.3. -/
def isFloatCode (code : Nat) : Bool := code ≤ 4 || (7 ≤ code && code ≤ 0xA)

def Fmt.width (f : Fmt) : Nat := 1 + f.ebits + f.mbits

/-- Decode an encoding (R151, R152). -/
def Fmt.decode (f : Fmt) (c : Nat) : FVal :=
  let neg := c.testBit (f.ebits + f.mbits)
  let e := bits c f.mbits f.ebits
  let m := bits c 0 f.mbits
  let topE := 2 ^ f.ebits - 1
  if f.top == .ieee && e == topE then (if m = 0 then .inf neg else .nan)
  else if f.top == .e4m3 && e == topE && m == 2 ^ f.mbits - 1 then .nan
  else if e = 0 then .fin neg m (1 - (f.bias : Int) - f.mbits)
  else .fin neg (2 ^ f.mbits + m) ((e : Int) - f.bias - f.mbits)

/-- Shift right by k, round to nearest, ties to even. -/
def shrRne (a k : Nat) : Nat :=
  if k = 0 then a
  else
    let q := a >>> k
    let r := a % 2 ^ k
    let half := 2 ^ (k - 1)
    if r > half || (r = half && q % 2 = 1) then q + 1 else q

/-- a × 2^e, e an integer, rounded to an integer, ties to even. -/
def scaleRne (a : Nat) (e : Int) : Nat :=
  if 0 ≤ e then a * 2 ^ e.toNat else shrRne a (-e).toNat

/-- The position of the highest 1 bit; 0 for 0. -/
def msb (n : Nat) : Nat := Nat.log2 n

/-- A code from its sign, exponent field and mantissa field. Details: DEDUCED, log entry 53. -/
def Fmt.pack (f : Fmt) (neg : Bool) (e m : Nat) : Nat := b2n neg * 2 ^ (f.ebits + f.mbits) + e * 2 ^ f.mbits + m

/-- Largest finite code of a sign. -/
def Fmt.maxCode (f : Fmt) (neg : Bool) : Nat :=
  match f.top with
  | .ieee => f.pack neg (2 ^ f.ebits - 2) (2 ^ f.mbits - 1)
  | .e4m3 => f.pack neg (2 ^ f.ebits - 1) (2 ^ f.mbits - 2)
  | .finite => f.pack neg (2 ^ f.ebits - 1) (2 ^ f.mbits - 1)

/-- The code of finite overflow and of an infinite source (Table 7.3). -/
def Fmt.overflow (f : Fmt) (neg ovfNan : Bool) : Nat :=
  match f.top with
  | .ieee => f.pack neg (2 ^ f.ebits - 1) 0
  | .e4m3 => if ovfNan then f.nan else f.maxCode neg
  | .finite => f.maxCode neg

/-- round_rne of R163 on ±a × 2^w: the code and whether a saturation occurs. Details: DEDUCED, log entry 53. -/
def Fmt.round (f : Fmt) (neg : Bool) (a : Nat) (w : Int) (ovfNan : Bool) : Nat × Bool :=
  if a = 0 then (f.pack neg 0 0, false)
  else
    let p : Int := (msb a : Int) + w
    let emin : Int := 1 - (f.bias : Int)
    let q := max p emin - f.mbits
    let m := scaleRne a (w - q)
    if m = 0 then (f.pack neg 0 0, false)
    else
      let (m, q) := if m ≥ 2 ^ (f.mbits + 1) then (m / 2, q + 1) else (m, q)
      let topE : Int := match f.top with | .ieee => 2 ^ f.ebits - 2 | _ => 2 ^ f.ebits - 1
      let qMax : Int := topE - f.bias - f.mbits
      let mMax : Nat := match f.top with | .e4m3 => 2 ^ (f.mbits + 1) - 2 | _ => 2 ^ (f.mbits + 1) - 1
      if q > qMax || (q = qMax && m > mMax) then (f.overflow neg ovfNan, true)
      else if m < 2 ^ f.mbits then (f.pack neg 0 m, false)
      else (f.pack neg (q + f.mbits + f.bias).toNat (m - 2 ^ f.mbits), false)

/-- Whether an infinite source counts a saturation (Table 7.3). -/
def Fmt.infSat (f : Fmt) : Bool := f.top != .ieee

/-- Convert any value to a floating-point format (R163, R164): code and saturation. Details: DEDUCED, log entry 53. -/
def Fmt.convert (f : Fmt) (v : FVal) (ovfNan : Bool) : Nat × Bool :=
  match v with
  | .nan => (f.nan, false)
  | .inf neg => (f.overflow neg ovfNan, f.infSat)
  | .fin neg m w => f.round neg m w ovfNan

/-- A value rounded to a format, as a code. -/
def Fmt.enc (f : Fmt) (v : FVal) : Nat := (f.convert v false).1

/-! ## Exact arithmetic -/

/-- The signed mantissa. -/
def sgnM (neg : Bool) (m : Nat) : Int := if neg then -(m : Int) else m

/-- A value from a signed mantissa; an exact zero takes the sign given. -/
def FVal.ofInt (i : Int) (w : Int) (zeroNeg : Bool) : FVal :=
  if i = 0 then .fin zeroNeg 0 0 else .fin (i < 0) i.natAbs w

def FVal.neg : FVal → FVal
  | .nan => .nan
  | .inf n => .inf (!n)
  | .fin n m w => .fin (!n) m w

def FVal.isNan : FVal → Bool
  | .nan => true
  | _ => false

def FVal.isInf : FVal → Bool
  | .inf _ => true
  | _ => false

def FVal.sign : FVal → Bool
  | .nan => false
  | .inf n => n
  | .fin n _ _ => n

def FVal.isZero : FVal → Bool
  | .fin _ 0 _ => true
  | _ => false

/-- Exact sum, IEEE rules for special values and the sign of zero under round to nearest. -/
def FVal.add (a b : FVal) : FVal :=
  match a, b with
  | .nan, _ => .nan
  | _, .nan => .nan
  | .inf x, .inf y => if x == y then .inf x else .nan
  | .inf x, _ => .inf x
  | _, .inf y => .inf y
  | .fin x m v, .fin y n w =>
    if m = 0 && n = 0 then .fin (x && y) 0 0
    else
      let u := if m = 0 then w else if n = 0 then v else min v w
      let i := (if m = 0 then 0 else sgnM x m * 2 ^ (v - u).toNat) + (if n = 0 then 0 else sgnM y n * 2 ^ (w - u).toNat)
      FVal.ofInt i u false

def FVal.sub (a b : FVal) : FVal := a.add b.neg

/-- Exact product, IEEE rules for special values. -/
def FVal.mul (a b : FVal) : FVal :=
  match a, b with
  | .nan, _ => .nan
  | _, .nan => .nan
  | .inf x, .inf y => .inf (x != y)
  | .inf x, .fin y n _ => if n = 0 then .nan else .inf (x != y)
  | .fin x m _, .inf y => if m = 0 then .nan else .inf (x != y)
  | .fin x m v, .fin y n w => .fin (x != y) (m * n) (v + w)

/-- Quotient, exact or with a sticky bit far below every format's last place (k extra bits). -/
def FVal.div (a b : FVal) (k : Nat) : FVal :=
  match a, b with
  | .nan, _ => .nan
  | _, .nan => .nan
  | .inf _, .inf _ => .nan
  | .inf x, .fin y _ _ => .inf (x != y)
  | .fin x _ _, .inf y => .fin (x != y) 0 0
  | .fin x m v, .fin y n w =>
    if n = 0 then (if m = 0 then .nan else .inf (x != y))
    else
      let num := m * 2 ^ k
      let q := num / n
      let sticky := if num % n = 0 then 0 else 1
      .fin (x != y) (2 * q + sticky) (v - w - k - 1)

/-- Integer square root, one bit a step from bit k down. -/
def isqrtFrom : Nat → Nat → Nat → Nat
  | 0, _, r => r
  | k + 1, n, r => let t := r + 2 ^ k; isqrtFrom k n (if t * t ≤ n then t else r)

def isqrt (n : Nat) : Nat := isqrtFrom (msb n / 2 + 1) n 0

/-- Square root, exact or with a sticky bit. -/
def FVal.sqrt : FVal → FVal
  | .nan => .nan
  | .inf false => .inf false
  | .inf true => .nan
  | .fin n m w =>
    if m = 0 then .fin n 0 0
    else if n then .nan
    else
      let (m, w) := if w % 2 = 0 then (m, w) else (2 * m, w - 1)
      let x := 2 ^ 240 * m
      let r := isqrt x
      .fin false (2 * r + (if r * r = x then 0 else 1)) (w / 2 - 121)

/-- Compare two values that are not NaN: a < b. -/
def FVal.lt (a b : FVal) : Bool :=
  match a, b with
  | .nan, _ => false
  | _, .nan => false
  | .inf x, .inf y => x && !y
  | .inf x, _ => x
  | _, .inf y => !y
  | .fin x m v, .fin y n w =>
    let u := min v w
    decide (sgnM x m * 2 ^ (v - u).toNat < sgnM y n * 2 ^ (w - u).toNat)

def FVal.eq (a b : FVal) : Bool := !a.isNan && !b.isNan && !a.lt b && !b.lt a

/-- Fused multiply-add, exact. -/
def FVal.fma (a b c : FVal) : FVal := (a.mul b).add c

/-- Arithmetic in a format: operands decoded, the exact result rounded once (R158, R162). -/
def Fmt.add (f : Fmt) (a b : Nat) : Nat := f.enc ((f.decode a).add (f.decode b))
def Fmt.sub (f : Fmt) (a b : Nat) : Nat := f.enc ((f.decode a).sub (f.decode b))
def Fmt.mul (f : Fmt) (a b : Nat) : Nat := f.enc ((f.decode a).mul (f.decode b))
def Fmt.fma (f : Fmt) (a b c : Nat) : Nat := f.enc ((f.decode a).fma (f.decode b) (f.decode c))

/-- A value as a signed integer in units of 2^e, rounded to nearest even; none for NaN and infinities. -/
def FVal.toUnits (v : FVal) (e : Int) : Option Int :=
  match v with
  | .fin n m w => some (sgnM n (scaleRne m (w - e)))
  | _ => none

/-- Saturate an integer to w bits, two's complement; with whether it saturated. -/
def satInt (w : Nat) (i : Int) : Nat × Bool :=
  let hi : Int := 2 ^ (w - 1) - 1
  let lo : Int := -(2 ^ (w - 1))
  if i > hi then (unsigned w hi, true) else if i < lo then (unsigned w lo, true) else (unsigned w i, false)

/-- Convert to a two's complement integer of w bits in units of 2^e (Table 7.3): code, saturation for finite overflow and
infinities. -/
def toIntFmt (w : Nat) (e : Int) (v : FVal) : Nat × Bool :=
  match v with
  | .nan => (2 ^ (w - 1), false)
  | .inf neg => (if neg then 2 ^ (w - 1) else 2 ^ (w - 1) - 1, true)
  | .fin n m x => satInt w (sgnM n (scaleRne m (x - e)))

/-- To Q64 with scale exponent e (R165): code, and whether the conversion is out of range.
Details: DEDUCED, log entry 53. -/
def toQ64 (e : Int) (v : FVal) : Nat × Bool :=
  match v with
  | .nan => (2 ^ 63, true)
  | _ => toIntFmt 64 e v

/-- A Q64 integer as a value (R154). -/
def q64Val (q : Nat) (e : Int) : FVal := FVal.ofInt (signed 64 q) e false

/-- fp32_code of R169. -/
def fp32Code (v : FVal) : Nat := fmtFP32.enc v

/-- |v|. -/
def FVal.abs : FVal → FVal
  | .nan => .nan
  | .inf _ => .inf false
  | .fin _ m w => .fin false m w

end Sys2Proof.Machine
end

