-- ==== Sys2Proof/Machine/SolverMath.lean ====
section
/-! DEFINITION. The exact arithmetic of the Solver Engine (chapter 9): values held exactly and rounded once to a role, the
kernels, the iterations and the factorisations. -/

namespace Sys2Proof.Machine

open Sys2Proof

/-! ## The descriptor (Tables 9.3, 9.4) -/

def svOp (d : Bytes) : Nat := fld d 0 1
def svWarm (d : Bytes) : Bool := bit (fld d 1 1) 0
def svLower (d : Bytes) : Bool := bit (fld d 1 1) 1
def svUnit (d : Bytes) : Bool := bit (fld d 1 1) 2
def svMat (d : Bytes) : Nat := fld d 2 1
def svGm (d : Bytes) : Nat := fld d 3 1
def svMaxIter (d : Bytes) : Nat := fld d 4 4
def svN (d : Bytes) : Nat := fld d 8 4
def svNc (d : Bytes) : Nat := fld d 12 4
def svA (d : Bytes) : Nat := fld d 16 8
def svRowPtr (d : Bytes) : Nat := fld d 24 8
def svColIdx (d : Bytes) : Nat := fld d 32 8
def svB (d : Bytes) : Nat := fld d 40 8
def svX (d : Bytes) : Nat := fld d 48 8
def svXAlt (d : Bytes) : Nat := fld d 56 8
def svWork (d : Bytes) : Nat := fld d 64 8
def svRange (d : Bytes) : Nat := fld d 72 8
def svWarmAddr (d : Bytes) : Nat := fld d 80 8
def svResult (d : Bytes) : Nat := fld d 88 8
def svAlpha (d : Bytes) : Int := signed 64 (fld d 96 8)
def svLda (d : Bytes) : Nat := fld d 104 4
def svLdb (d : Bytes) : Nat := fld d 108 4
def svTol (d : Bytes) : Nat := fld d 112 4
def svTensors (d : Bytes) : Nat := fld d 116 4
def svScr (d : Bytes) : Nat := fld d 120 4

def svFact (d : Bytes) : Bool := 5 ≤ svOp d && svOp d ≤ 8
def svIter (d : Bytes) : Bool := 9 ≤ svOp d && svOp d ≤ 11
/-- Columns of A: N for TRSOLVE, NCOL otherwise (R203). -/
def svCols (d : Bytes) : Nat := if svOp d = 4 then svN d else svNc d

/-! ## Exact values (R195) -/

/-- An exact value n / d × 2^e (R195). -/
structure Ex where
  n : Int
  d : Nat
  e : Int
  deriving DecidableEq, Repr

def Ex.zero : Ex := ⟨0, 1, 0⟩
/-- A Q64 integer at an exponent. -/
def Ex.q (q e : Int) : Ex := ⟨q, 1, e⟩

def Ex.add (a b : Ex) : Ex :=
  if a.n = 0 then b
  else if b.n = 0 then a
  else
    let e := min a.e b.e
    let na := a.n * (2 ^ (a.e - e).toNat : Nat)
    let nb := b.n * (2 ^ (b.e - e).toNat : Nat)
    ⟨na * b.d + nb * a.d, a.d * b.d, e⟩

def Ex.neg (a : Ex) : Ex := ⟨-a.n, a.d, a.e⟩
def Ex.sub (a b : Ex) : Ex := a.add b.neg
def Ex.mul (a b : Ex) : Ex := ⟨a.n * b.n, a.d * b.d, a.e + b.e⟩
/-- The quotient by a nonzero value. -/
def Ex.div (a b : Ex) : Ex :=
  ⟨(if b.n < 0 then -a.n else a.n) * b.d, a.d * b.n.natAbs, a.e - b.e⟩
def Ex.sum (l : List Ex) : Ex := l.foldl Ex.add Ex.zero

/-- a / b to the nearest integer, ties to even (R158). -/
def rneDiv (a b : Nat) : Nat :=
  let q := a / b
  let r := a % b
  if 2 * r > b || (2 * r = b && q % 2 = 1) then q + 1 else q

/-- |x| / 2^e as a fraction of naturals. -/
def Ex.frac (x : Ex) (e : Int) : Nat × Nat :=
  (x.n.natAbs * 2 ^ (x.e - e).toNat, x.d * 2 ^ (e - x.e).toNat)

/-- Bring an integer into the signed 64-bit range: the value and whether it saturated (R196).
Details: DEDUCED, log entry 41. -/
def satQ (i : Int) : Int × Bool :=
  if i > 2 ^ 63 - 1 then (2 ^ 63 - 1, true) else if i < -(2 ^ 63) then (-(2 ^ 63), true) else (i, false)

/-- An exact value rounded once to units of 2^e. Details: DEDUCED, log entry 41. -/
def Ex.round (x : Ex) (e : Int) : Int × Bool :=
  let (a, b) := x.frac e
  let m : Int := (rneDiv a b : Nat)
  satQ (if x.n < 0 then -m else m)

/-- The square root of a value that is not negative, rounded once to units of 2^e. -/
def Ex.sqrtRound (x : Ex) (e : Int) : Int × Bool :=
  let (a, b) := x.frac (2 * e)
  let f := isqrt (a / b)
  let up := 4 * a > (2 * f + 1) * (2 * f + 1) * b || (4 * a = (2 * f + 1) * (2 * f + 1) * b && f % 2 = 1)
  satQ ((if up then f + 1 else f : Nat) : Int)

/-! ## Roles (Table 9.2) -/

def Role.a : Nat := 0
def Role.b : Nat := 1
def Role.x : Nat := 2
def Role.r : Nat := 3
def Role.p : Nat := 4
def Role.q : Nat := 5
def Role.s : Nat := 6
def Role.alpha : Nat := 7
def Role.beta : Nat := 8
def Role.dot : Nat := 9
def Role.factor : Nat := 10
def Role.diag : Nat := 11
def Role.schur : Nat := 12
def Role.basis : Nat := 13
def Role.hess : Nat := 14

/-- The exponents of a solve and its first saturation: role and element index (R196, R199). -/
structure SArith where
  exps : List Int
  range : Option (Nat × Nat)
  deriving DecidableEq, Repr

def SArith.e (c : SArith) (role : Nat) : Int := c.exps.getD role 0
def SArith.note (c : SArith) (sat : Bool) (role i : Nat) : SArith :=
  if sat && c.range.isNone then { c with range := some (role, i) } else c
/-- The exact value of a stored quantity. -/
def SArith.val (c : SArith) (q : Int) (role : Nat) : Ex := Ex.q q (c.e role)

/-- Round once to a role. Details: DEDUCED, log entry 41. -/
def SArith.rnd (c : SArith) (x : Ex) (role i : Nat) : Int × SArith :=
  let (q, sat) := x.round (c.e role)
  (q, c.note sat role i)

/-- The divide unit: division by zero is a range event (R197, R200). -/
def SArith.div (c : SArith) (a b : Ex) (role i : Nat) : Int × SArith :=
  if b.n = 0 then
    ((if a.n = 0 then 0 else if a.n < 0 then -(2 ^ 63) else 2 ^ 63 - 1), c.note true role i)
  else c.rnd (a.div b) role i

/-- The square-root unit: a negative operand is a range event and gives 0 (R197). -/
def SArith.sqrt (c : SArith) (a : Ex) (role i : Nat) : Int × SArith :=
  if a.n < 0 then (0, c.note true role i)
  else
    let (q, sat) := a.sqrtRound (c.e role)
    (q, c.note sat role i)

/-- Round the elements of a vector once each, from index i. -/
def SArith.vecFrom (role : Nat) : List Ex → Nat → SArith → List Int × SArith
  | [], _, c => ([], c)
  | x :: xs, i, c =>
    let (q, c) := c.rnd x role i
    let (qs, c) := SArith.vecFrom role xs (i + 1) c
    (q :: qs, c)
def SArith.vec (c : SArith) (role : Nat) (xs : List Ex) : List Int × SArith := SArith.vecFrom role xs 0 c

/-- Divide the elements of a vector by one value. -/
def SArith.divVec (b : Ex) (role : Nat) : List Ex → Nat → SArith → List Int × SArith
  | [], _, c => ([], c)
  | x :: xs, i, c =>
    let (q, c) := c.div x b role i
    let (qs, c) := SArith.divVec b role xs (i + 1) c
    (q :: qs, c)

/-- An exact dot product of stored vectors. Details: DEDUCED, log entry 41. -/
def SArith.dot (c : SArith) (u : List Int) (ru : Nat) (w : List Int) (rw : Nat) : Ex :=
  Ex.q ((List.zipWith (· * ·) u w).foldl (· + ·) 0) (c.e ru + c.e rw)

/-- A sparse row: column and Q64 integer. -/
abbrev SRow := List (Nat × Int)

/-- The exact product of a matrix with a stored vector. Details: DEDUCED, log entry 41. -/
def SArith.mv (c : SArith) (rows : List SRow) (v : List Int) (role : Nat) : List Ex :=
  rows.map (fun row => Ex.q (row.foldl (fun a (j, q) => a + q * v.getD j 0) 0) (c.e Role.a + c.e role))

/-- u + k w, element by element, exact. Details: DEDUCED, log entry 41. -/
def SArith.axpy (c : SArith) (u : List Int) (ru : Nat) (k : Ex) (w : List Int) (rw : Nat) : List Ex :=
  List.zipWith (fun a b => (c.val a ru).add (k.mul (c.val b rw))) u w

/-! ## The convergence test (R212) -/

/-- Whether 2⁶⁴ ρ_r ≤ TOL² ρ_b, and RES_FRAC, from the two sums of squares with their exponents.
Details: DEDUCED, log entry 41. -/
def convTest (sumR : Nat) (er : Int) (sumB : Nat) (eb : Int) (tol : Nat) : Bool × Nat :=
  let m := min (2 * er) (2 * eb)
  let l := sumR * 2 ^ (2 * er - m).toNat
  let r := sumB * 2 ^ (2 * eb - m).toNat
  (2 ^ 64 * l ≤ tol ^ 2 * r,
   if l = 0 then 0 else if r = 0 then 0xFFFFFFFF else min (isqrt (2 ^ 64 * l / r)) 0xFFFFFFFF)

def sumSq (v : List Int) : Nat := v.foldl (fun a q => a + q.natAbs ^ 2) 0

/-! ## Kernels (R201, R208) -/

/-- Solve a triangle row by row into role X: `coef i` gives row i's entries as exact values, `diag i` its pivot, none for
a unit diagonal; the order of rows is given. The result, or the first column with a zero pivot. -/
def SArith.triangle (coef : Nat → List (Nat × Ex)) (diag : Nat → Option Ex) (rhs : Nat → Ex) (idx : Nat → Nat) :
    List Nat → List (Nat × Int) → SArith → (List (Nat × Int)) × SArith × Option Nat
  | [], x, c => (x, c, none)
  | i :: rest, x, c =>
    let acc := Ex.sum ((coef i).map (fun (j, a) => a.mul (c.val (mget x j 0) Role.x)))
    let num := (rhs i).sub acc
    match diag i with
    | none =>
      let (q, c) := c.rnd num Role.x (idx i)
      SArith.triangle coef diag rhs idx rest (mput x i q) c
    | some d =>
      if d.n = 0 then (x, c, some i)
      else
        let (q, c) := c.div num d Role.x (idx i)
        SArith.triangle coef diag rhs idx rest (mput x i q) c

/-! ## Conjugate gradients (R209) -/

/-- What an iterative solve carries: iterate, residual, direction, and the method's other vectors and scalars. -/
structure IterSt where
  x : List Int
  r : List Int
  p : List Int
  /-- r̂₀ of BICGSTAB. -/
  rh : List Int
  rho : Int
  /-- GMRES: basis vectors, Hessenberg columns, rotations, g. -/
  basis : List (List Int)
  hess : List (List Int)
  rots : List (Int × Int)
  g : List Int
  deriving DecidableEq, Repr

def IterSt.init : IterSt := ⟨[], [], [], [], 0, [], [], [], []⟩

/-- r = rnd(b − A x, R). -/
def SArith.residual (c : SArith) (rows : List SRow) (b x : List Int) : List Int × SArith :=
  c.vec Role.r (List.zipWith (fun q ax => (c.val q Role.b).sub ax) b (c.mv rows x Role.x))

/-- The start of CG and BICGSTAB: r, p and ρ. -/
def SArith.start (c : SArith) (rows : List SRow) (b x : List Int) : IterSt × SArith :=
  let (r, c) := c.residual rows b x
  let (p, c) := c.vec Role.p (r.map (c.val · Role.r))
  let (rho, c) := c.rnd (c.dot r Role.r r Role.r) Role.dot 0
  ({ IterSt.init with x := x, r := r, p := p, rh := r, rho := rho }, c)

/-- One CG iteration: the new state and q. Details: DEDUCED, log entry 41. -/
def SArith.cgStep (c : SArith) (rows : List SRow) (t : IterSt) : IterSt × List Int × SArith :=
  let (q, c) := c.vec Role.q (c.mv rows t.p Role.p)
  let (al, c) := c.div (c.val t.rho Role.dot) (c.dot t.p Role.p q Role.q) Role.alpha 0
  let (x, c) := c.vec Role.x (c.axpy t.x Role.x (c.val al Role.alpha) t.p Role.p)
  let (r, c) := c.vec Role.r (c.axpy t.r Role.r (c.val al Role.alpha).neg q Role.q)
  let (rn, c) := c.rnd (c.dot r Role.r r Role.r) Role.dot 0
  let (be, c) := c.div (c.val rn Role.dot) (c.val t.rho Role.dot) Role.beta 0
  let (p, c) := c.vec Role.p (c.axpy r Role.r (c.val be Role.beta) t.p Role.p)
  ({ t with x := x, r := r, p := p, rho := rn }, q, c)

/-! ## BiCGSTAB (R210) -/

/-- How a BiCGSTAB iteration ends: BREAKDOWN before x changes; converged at s; complete; complete with ρ_new zero. -/
inductive BiEnd where
  | breakdown | early | full | rhoZero
  deriving DecidableEq, Repr

/-- One BiCGSTAB iteration: how it ends, its state, RES_FRAC of the test of s, and v, s, t.
Details: DEDUCED, log entry 41. -/
def SArith.biStep (c : SArith) (rows : List SRow) (t : IterSt) (sumB tol : Nat) :
    BiEnd × IterSt × Nat × List (List Int) × SArith :=
  let (v, c) := c.vec Role.q (c.mv rows t.p Role.p)
  let d := c.dot t.rh Role.r v Role.q
  if d.n = 0 then (.breakdown, t, 0, [v], c)
  else
    let (al, c) := c.div (c.val t.rho Role.dot) d Role.alpha 0
    let av := c.val al Role.alpha
    let (s, c) := c.vec Role.s (c.axpy t.r Role.r av.neg v Role.q)
    let (pass, rf) := convTest (sumSq s) (c.e Role.s) sumB (c.e Role.b) tol
    if pass then
      let (x, c) := c.vec Role.x (c.axpy t.x Role.x av t.p Role.p)
      (.early, { t with x := x }, rf, [v, s], c)
    else
      let (tt, c) := c.vec Role.s (c.mv rows s Role.s)
      let d2 := c.dot tt Role.s tt Role.s
      if d2.n = 0 then (.breakdown, t, rf, [v, s, tt], c)
      else
        let (om, c) := c.div (c.dot tt Role.s s Role.s) d2 Role.beta 0
        let ov := c.val om Role.beta
        let xs := List.zipWith (fun e b => e.add (ov.mul (c.val b Role.s))) (c.axpy t.x Role.x av t.p Role.p) s
        let (x, c) := c.vec Role.x xs
        let (r, c) := c.vec Role.r (c.axpy s Role.s ov.neg tt Role.s)
        let dn := c.dot t.rh Role.r r Role.r
        if dn.n = 0 then (.rhoZero, { t with x := x, r := r }, rf, [v, s, tt], c)
        else
          let (rn, c) := c.rnd dn Role.dot 0
          let (q1, c) := c.div (c.val rn Role.dot) (c.val t.rho Role.dot) Role.beta 0
          let (q2, c) := c.div av ov Role.beta 0
          let (be, c) := c.rnd ((c.val q1 Role.beta).mul (c.val q2 Role.beta)) Role.beta 0
          let bv := c.val be Role.beta
          let pv := List.zipWith (fun a b => (c.val a Role.p).sub (ov.mul (c.val b Role.q))) t.p v
          let (p, c) := c.vec Role.p (List.zipWith (fun a b => (c.val a Role.r).add (bv.mul b)) r pv)
          (.full, { t with x := x, r := r, p := p, rho := rn }, rf, [v, s, tt], c)

/-! ## GMRES (R211) -/

/-- The start of a cycle from a residual: g₀ = ‖r‖ and v₀ = r / g₀. -/
def SArith.gmCycle (c : SArith) (t : IterSt) : IterSt × SArith :=
  let (g, c) := c.sqrt (c.dot t.r Role.r t.r Role.r) Role.hess 0
  ({ t with basis := [], hess := [], rots := [], g := [g] }, c)

/-- Normalise a vector of role R by a norm of role HESS into the basis. -/
def SArith.gmPush (c : SArith) (t : IterSt) (w : List Int) (h : Int) : IterSt × SArith :=
  let (v, c) := SArith.divVec (c.val h Role.hess) Role.basis (w.map (c.val · Role.r)) 0 c
  ({ t with basis := t.basis ++ [v] }, c)

/-- Modified Gram–Schmidt of a vector of role `rw` against the basis, from basis vector i on. -/
def SArith.gmOrth : List (List Int) → Nat → List Int → Nat → List Int → SArith → List Int × List Int × SArith
  | [], _, w, _, hs, c => (w, hs, c)
  | v :: vs, i, w, rw, hs, c =>
    let (h, c) := c.rnd (c.dot w rw v Role.basis) Role.hess i
    let (w, c) := c.vec Role.r (c.axpy w rw (c.val h Role.hess).neg v Role.basis)
    SArith.gmOrth vs (i + 1) w Role.r (hs ++ [h]) c

/-- Apply the earlier rotations to a Hessenberg column, from row i on. Details: DEDUCED, log entry 41. -/
def SArith.gmRotate : List (Int × Int) → Nat → List Int → SArith → List Int × SArith
  | [], _, h, c => (h, c)
  | (cs, sn) :: rs, i, h, c =>
    let v := fun (k : Int) => c.val k Role.hess
    let a := v (h.getD i 0)
    let b := v (h.getD (i + 1) 0)
    let (x, c') := c.rnd (((v cs).mul a).add ((v sn).mul b)) Role.hess i
    let (y, c') := c'.rnd (((v cs).mul b).sub ((v sn).mul a)) Role.hess (i + 1)
    SArith.gmRotate rs (i + 1) (lset (lset h i x) (i + 1) y) c'

/-- One Arnoldi step: the state with the new column, rotation and g, the vector w, and its norm h_{j+1,j}.
Details: DEDUCED, log entry 41. -/
def SArith.gmStep (c : SArith) (rows : List SRow) (t : IterSt) : IterSt × List Int × Int × SArith :=
  let j := t.hess.length
  let (q, c) := c.vec Role.q (c.mv rows (t.basis.getD j []) Role.basis)
  let (w, hs, c) := SArith.gmOrth t.basis 0 q Role.q [] c
  let (hn, c) := c.sqrt (c.dot w Role.r w Role.r) Role.hess (j + 1)
  let (h, c) := SArith.gmRotate t.rots 0 (hs ++ [hn]) c
  let v := fun (k : Int) => c.val k Role.hess
  let a := v (h.getD j 0)
  let b := v hn
  let (n, c) := c.sqrt ((a.mul a).add (b.mul b)) Role.hess j
  let (cs, c) := c.div a (v n) Role.hess j
  let (sn, c) := c.div b (v n) Role.hess j
  let gj := v (t.g.getD j 0)
  let (g0, c) := c.rnd ((v cs).mul gj) Role.hess j
  let (g1, c) := c.rnd ((v sn).mul gj).neg Role.hess (j + 1)
  ({ t with hess := t.hess ++ [lset (h.take (j + 1)) j n], rots := t.rots ++ [(cs, sn)]
            g := lset t.g j g0 ++ [g1] }, w, hn, c)

/-- The end of a cycle: y from the triangular system, in role HESS, then x = rnd(x + V y, X). -/
def SArith.gmFinish (c : SArith) (t : IterSt) : IterSt × SArith :=
  let j := t.hess.length
  let (y, c) := (List.range j).reverse.foldl (fun (acc : List (Nat × Int) × SArith) i =>
      let (y, c) := acc
      let s := Ex.sum ((List.range j).filter (fun k => i < k) |>.map (fun k =>
        (c.val ((t.hess.getD k []).getD i 0) Role.hess).mul (c.val (mget y k 0) Role.hess)))
      let (q, c) := c.div ((c.val (t.g.getD i 0) Role.hess).sub s) (c.val ((t.hess.getD i []).getD i 0) Role.hess)
        Role.hess i
      (mput y i q, c)) ([], c)
  let vy := fun (i : Nat) => Ex.sum ((List.range j).map (fun k =>
    (c.val ((t.basis.getD k []).getD i 0) Role.basis).mul (c.val (mget y k 0) Role.hess)))
  let xs := (List.range t.x.length).map (fun i => (c.val (t.x.getD i 0) Role.x).add (vy i))
  let (x, c) := c.vec Role.x xs
  ({ t with x := x }, c)

/-! ## Factorisations (R205–R207) -/

/-- What a factorisation holds: each element's current Q64 integer and role, by row × columns + column; the pivots or τ;
the failing column with its status. -/
structure FactSt where
  m : List (Nat × (Int × Nat))
  extra : List Int
  fail : Option (Nat × Nat)
  deriving DecidableEq, Repr

def FactSt.at_ (f : FactSt) (cols : Nat) (c : SArith) (i j : Nat) : Ex :=
  let (q, role) := mget f.m (i * cols + j) (0, Role.a)
  c.val q role
def FactSt.put (f : FactSt) (cols i j : Nat) (q : Int) (role : Nat) : FactSt :=
  { f with m := mput f.m (i * cols + j) (q, role) }

/-- Σ over k in [p, n) of l_ik × m(k) × r_kj. -/
def panelSum (p n : Nat) (term : Nat → Ex) : Ex := Ex.sum ((List.range (n - p)).map (fun t => term (p + t)))

/-- Rows i with lo ≤ i < hi. -/
def span (lo hi : Nat) : List Nat := (List.range (hi - lo)).map (lo + ·)

/-- A state with an arithmetic context, folded over indices unless it has failed. -/
def factFold (l : List Nat) (st : FactSt × SArith) (step : Nat → FactSt × SArith → FactSt × SArith) : FactSt × SArith :=
  l.foldl (fun st i => if st.1.fail.isSome then st else step i st) st

/-- Column k of CHOL or LDLT inside the panel that begins at p. Details: DEDUCED, log entry 41. -/
def SArith.cholCol (ldl : Bool) (n p k : Nat) (st : FactSt × SArith) : FactSt × SArith :=
  let (f, c) := st
  let at' := fun i j => f.at_ n c i j
  let d := fun j => if ldl then at' j j else Ex.q 1 0
  let acc := fun i => (at' i k).sub (panelSum p k (fun j => ((at' i j).mul (d j)).mul (at' k j)))
  let dk := acc k
  if !ldl && dk.n ≤ 0 then ({ f with fail := some (k, 0x2007) }, c)
  else
    let (q, c) := if ldl then c.rnd dk Role.diag k else c.sqrt dk Role.factor (k * n + k)
    let role := if ldl then Role.diag else Role.factor
    if q = 0 && ldl then ({ f with fail := some (k, 0x2006) }, c)
    else
      let pivot := c.val q role
      (span (k + 1) n).foldl (fun (st : FactSt × SArith) i =>
          let (f, c) := st
          let (v, c) := c.div (acc i) pivot Role.factor (i * n + k)
          (f.put n i k v Role.factor, c)) (f.put n k k q role, c)

/-- One panel of CHOL or LDLT: its columns, then the trailing update. -/
def SArith.cholPanel (ldl : Bool) (n p : Nat) (st : FactSt × SArith) : FactSt × SArith :=
  let e := min (p + 64) n
  let st := factFold (span p e) st (fun k st => SArith.cholCol ldl n p k st)
  if st.1.fail.isSome then st
  else
    let f0 := st.1
    (span e n).foldl (fun st i => (span e (i + 1)).foldl (fun (st : FactSt × SArith) j =>
      let (f, c) := st
      let d := fun k => if ldl then f0.at_ n c k k else Ex.q 1 0
      let v := (f0.at_ n c i j).sub (panelSum p e (fun k => ((f0.at_ n c i k).mul (d k)).mul (f0.at_ n c j k)))
      let (q, c) := c.rnd v Role.schur (i * n + j)
      (f.put n i j q Role.schur, c)) st) st

/-- Exchange two rows. -/
def FactSt.swapRows (f : FactSt) (n i k : Nat) : FactSt :=
  if i = k then f
  else (List.range n).foldl (fun (f : FactSt) j =>
    let a := mget f.m (i * n + j) (0, Role.a)
    let b := mget f.m (k * n + j) (0, Role.a)
    (f.put n i j b.1 b.2).put n k j a.1 a.2) f

/-- The row of largest magnitude among those listed, the lowest on a tie (R207). -/
def pivotRow (col : Nat → Int) : List Nat → Nat × Nat
  | [] => (0, 0)
  | i :: rest =>
    let (b, m) := pivotRow col rest
    if rest.isEmpty || m ≤ (col i).natAbs then (i, (col i).natAbs) else (b, m)

/-- Column k of LU: rounded to SCHUR, pivoted, divided; then row k of U across the matrix (R207).
Details: DEDUCED, log entry 41. -/
def SArith.luCol (n p k : Nat) (st : FactSt × SArith) : FactSt × SArith :=
  let (f, c) := (span k n).foldl (fun (st : FactSt × SArith) i =>
    let (f, c) := st
    let v := (f.at_ n c i k).sub (panelSum p k (fun j => (f.at_ n c i j).mul (f.at_ n c j k)))
    let (q, c) := c.rnd v Role.schur (i * n + k)
    (f.put n i k q Role.schur, c)) st
  let (r, m) := pivotRow (fun i => (mget f.m (i * n + k) (0, 0)).1) (span k n)
  if m = 0 then ({ f with fail := some (k, 0x2006) }, c)
  else
    let f := f.swapRows n r k
    let f := { f with extra := f.extra ++ [(r : Int)] }
    let pivot := f.at_ n c k k
    let (f, c) := (span (k + 1) n).foldl (fun (st : FactSt × SArith) i =>
      let (f, c) := st
      let (q, c) := c.div (f.at_ n c i k) pivot Role.factor (i * n + k)
      (f.put n i k q Role.factor, c)) (f, c)
    (span k n).foldl (fun (st : FactSt × SArith) j =>
      let (f, c) := st
      let v := if j = k then pivot
        else (f.at_ n c k j).sub (panelSum p k (fun i => (f.at_ n c k i).mul (f.at_ n c i j)))
      let (q, c) := c.rnd v Role.factor (k * n + j)
      (f.put n k j q Role.factor, c)) (f, c)

def SArith.luPanel (n p : Nat) (st : FactSt × SArith) : FactSt × SArith :=
  let e := min (p + 64) n
  let st := factFold (span p e) st (fun k st => SArith.luCol n p k st)
  if st.1.fail.isSome then st
  else
    let f0 := st.1
    (span e n).foldl (fun st i => (span e n).foldl (fun (st : FactSt × SArith) j =>
      let (f, c) := st
      let v := (f0.at_ n c i j).sub (panelSum p e (fun k => (f0.at_ n c i k).mul (f0.at_ n c k j)))
      let (q, c) := c.rnd v Role.schur (i * n + j)
      (f.put n i j q Role.schur, c)) st) st

/-- Apply reflection k exactly to a column: rows below k change by v_i τ (v · x).
Details: DESIGN CHOICE, log entry 40. -/
def FactSt.reflect (f : FactSt) (c : SArith) (n cols k : Nat) (x : Nat → Ex) : List Ex :=
  let v := fun i => if i = k then Ex.q 1 0 else f.at_ cols c i k
  let w := (Ex.sum ((span k n).map (fun i => (v i).mul (x i)))).mul (c.val (f.extra.getD k 0) Role.diag)
  (List.range n).map (fun i => if i < k then x i else (x i).sub ((v i).mul w))

/-- Column j after the reflections of the panel from p to k, exact. -/
def FactSt.reflected (f : FactSt) (c : SArith) (n cols p k j : Nat) : List Ex :=
  (span p k).foldl (fun (x : List Ex) t => f.reflect c n cols t (fun i => x.getD i Ex.zero))
    ((List.range n).map (fun i => f.at_ cols c i j))

/-- Column k of QR inside the panel from p (R205, R207): a zero column gives τ = 0.
Details: DESIGN CHOICE, log entry 40. -/
def SArith.qrCol (n cols p k : Nat) (st : FactSt × SArith) : FactSt × SArith :=
  let (f, c) := st
  let col := f.reflected c n cols p k k
  -- rows of R above the diagonal, then the column below in role SCHUR
  let (f, c) := (span p n).foldl (fun (st : FactSt × SArith) i =>
    let (f, c) := st
    let role := if i < k then Role.factor else Role.schur
    let (q, c) := c.rnd (col.getD i Ex.zero) role (i * cols + k)
    (f.put cols i k q role, c)) (f, c)
  let x0 := f.at_ cols c k k
  let below := (span k n).map (fun i => f.at_ cols c i k)
  let norm2 := Ex.sum (below.map (fun x => x.mul x))
  if norm2.n = 0 then ({ (f.put cols k k 0 Role.factor) with extra := f.extra ++ [0] }, c)
  else
    let (nm, c) := c.sqrt norm2 Role.factor (k * cols + k)
    let rkk : Int := if x0.n < 0 then nm else -nm
    let r := c.val rkk Role.factor
    let (tau, c) := c.div (r.sub x0) r Role.diag k
    let (f, c) := (span (k + 1) n).foldl (fun (st : FactSt × SArith) i =>
      let (f, c) := st
      let (q, c) := c.div (f.at_ cols c i k) (x0.sub r) Role.factor (i * cols + k)
      (f.put cols i k q Role.factor, c)) (f, c)
    ({ (f.put cols k k rkk Role.factor) with extra := f.extra ++ [tau] }, c)

def SArith.qrPanel (n cols p : Nat) (st : FactSt × SArith) : FactSt × SArith :=
  let e := min (p + 64) cols
  let st := (span p e).foldl (fun st k => SArith.qrCol n cols p k st) st
  let f0 := st.1
  (span e cols).foldl (fun (st : FactSt × SArith) j =>
    let col := f0.reflected st.2 n cols p e j
    (span p n).foldl (fun (st : FactSt × SArith) i =>
      let (f, c) := st
      let role := if i < e then Role.factor else Role.schur
      let (q, c) := c.rnd (col.getD i Ex.zero) role (i * cols + j)
      (f.put cols i j q role, c)) st) st

/-- Panels of 64 columns of a matrix. -/
def panelStarts (cols : Nat) : List Nat := (List.range ((cols + 63) / 64)).map (64 * ·)

/-- Run the panels until one fails or saturates: the state, and the panels completed (R218). -/
def factRun (panel : Nat → FactSt × SArith → FactSt × SArith) : List Nat → Nat → FactSt × SArith →
    (FactSt × SArith) × Nat
  | [], k, st => (st, k)
  | p :: ps, k, st =>
    if st.1.fail.isSome || st.2.range.isSome then (st, k)
    else
      let st := panel p st
      factRun panel ps (if st.1.fail.isSome then k else k + 1) st

/-- The words of a finished slot (R205). Details: DESIGN CHOICE, log entry 40. -/
def factSlot (op n cols : Nat) (f : FactSt) : List Int :=
  ((List.range n).flatMap (fun i => (List.range cols).map (fun j =>
    if op ≤ 6 && i < j then 0 else (mget f.m (i * cols + j) (0, 0)).1))) ++ f.extra

end Sys2Proof.Machine
end

