-- ==== Sys2Proof/Machine/Engine.lean ====
section
/-! DEFINITION. What the engines of a terrace share: pair writes of the Sealed profile (R424–R426), LAST_USE discards
(R229, R230), poison consumption, and the completion of descriptors (R110–R113). -/

namespace Sys2Proof.Machine

open Sys2Proof

/-! ## Sealed pairs (R423–R426) -/

/-- Unit codes of NODE_SEALED_LAST.UNIT (Table 19.10). -/
def PairUnit.core : Nat := 0
def PairUnit.tensor : Nat := 1
def PairUnit.mover : Nat := 2
def PairUnit.vector : Nat := 3
def PairUnit.solver : Nat := 4
def PairUnit.rae : Nat := 5

/-- Whether a waiter is a load, a store or a unit of a spire. -/
def Waiter.ofSpire (n : Nat) (w : Waiter) : Bool :=
  match w with
  | .core k .. => k == n
  | .unit k _ => k == n
  | _ => false

/-- Outstanding requests stay, but their outcomes reach nobody the test names (R297). -/
def State.forget (s : State) (lost : Waiter → Bool) : State :=
  let drop := fun (w : Waiter) => if lost w then Waiter.gone else w
  let each := fun (l : List (Waiter × Nat × Nat)) => l.map (fun (w : Waiter × Nat × Nat) => (drop w.1, w.2))
  { s with fab := { s.fab with
    reqs := s.fab.reqs.map (fun r => { r with waiter := drop r.waiter, carry := each r.carry })
    blocks := s.fab.blocks.map (fun b => { b with waiting := each b.waiting }) } }

/-! ## The result record of a solve (R217) -/

/-- FLAGS of Table 9.9. -/
def SolveRun.flags (r : SolveRun) (status : Nat) : Nat :=
  b2n r.warmRej + 2 * b2n (!isSuccess status) + 4 * b2n r.range.isSome + 8 * b2n r.warmUsed + 16 * r.lastBuf

/-- The result record. -/
def State.resultRecord (s : State) (r : SolveRun) (status : Nat) : Bytes :=
  let (role, i) := r.range.getD (0, 0)
  natLE 2 status ++ natLE 2 (r.flags status) ++ natLE 4 r.k ++ natLE 8 s.now
    ++ natLE 4 (if svIter r.desc then r.resFrac else 0) ++ natLE 4 r.failIndex ++ natLE 8 r.fp ++ natLE 1 role ++ zeros 3
    ++ natLE 4 i ++ zeros 24

/-! ## Divergence (R426) -/

/-- The units of a terrace whose entries a divergence ends: entry-owned descriptors, running programs with what they
issued, a solve of an entry, which writes its result record (R217), field sends and waiting digests end where they stand (R426).
Details: DEDUCED, log entry 46. -/
def State.haltUnits (s : State) (t : Nat) : State :=
  let s := forEach (spiresOf t) s (fun n s =>
    let x := s.sp n
    let prog := x.entry.isSome
    let mine : Option Nat → Bool := fun o => o.isSome || prog
    let keep : Option DescRun → Option DescRun := fun r =>
      match r with
      | some d => if mine d.owner then none else r
      | none => none
    let s := s.setSp n { x with
      tq := x.tq.filter (fun (q : QDesc) => !mine q.owner)
      mq := x.mq.filter (fun (q : QDesc) => !mine q.owner)
      tens := keep x.tens, mover := keep x.mover
      entry := none, wait := if prog then .none else x.wait, sv := if prog then none else x.sv }
    let s := s.forget (fun w => (prog && w.ofSpire n) || (w == .unit n false && (keep x.mover).isNone))
    if prog then s.wr (F.SPIRE_STATUS_CORE n) 0 else s)
  let s := match mfind s.solver t with
    | some r =>
      if r.entry.isSome then
        let s := s.writeCells (svResult r.desc) ((s.resultRecord r St.sealedDiverged).map (·, false))
        { s with solver := mdel s.solver t }.wr (F.SOLV_STATUS_STATE t) 0
      else s
    | none => s
  { s with
    coll := { s.coll with sends := s.coll.sends.filter (fun (f : FieldSend) => f.terr != t) }
    check := { s.check with hashQueue := s.check.hashQueue.filter (fun (h : Nat × Nat) => h.1 != t) } }

/-- Whether a paired unit still has work: one that a divergence stopped issues no more writes (R426).
Details: DEDUCED, log entry 90. -/
def State.unitAlive (s : State) (t unit index : Nat) : Bool :=
  if unit == PairUnit.mover then (s.sp (18 * t + index)).mover.isSome
  else if unit == PairUnit.solver then (mfind s.solver t).isSome
  else if unit == PairUnit.core || unit == PairUnit.vector then (s.sp (18 * t + index)).entry.isSome
  else true

/-- Key of a unit's pair sequence count. Details: DEDUCED, log entries 46, 90. -/
def pairKey (pair unit index : Nat) (shadow : Bool) : Nat := ((pair * 8 + unit) * 32 + index) * 2 + b2n shadow

/-- After a divergence the units it stopped in one member or both count their writes from one number again.
Details: DEDUCED, log entry 46. -/
def State.pairAlign (s : State) (pair : Nat) : State :=
  let alive := fun (k : Nat) => [pair, pair + 8].any (fun t => s.unitAlive t (k / 64 % 8) (k / 2 % 32))
  let keys := (s.check.pairSeq.map (·.1)).filter (fun k => k / 512 == pair && !alive k)
  let seqs := keys.foldl (fun m k =>
    let n := max (mget m k 0) (mget m (k ^^^ 1) 0)
    mput (mput m k n) (k ^^^ 1) n) s.check.pairSeq
  { s with check := { s.check with pairSeq := seqs } }

/-- A pair diverges (R426): running entries of both members end, the step is UNUSABLE, the pair halts at the next
boundary, the event is raised and the cause recorded. Details: DEDUCED, log entry 46. -/
def State.diverge (s : State) (pair cause index unit : Nat) : State :=
  let s := ((s.ev F.NODE_CHECK_EVENTS_DIVERGED).inc F.NODE_CHECK_COUNTS_DIVERGENCES)
  let s := (s.wr F.NODE_SEALED_LAST_CAUSE cause).wr F.NODE_SEALED_LAST_PAIR pair
  let s := (s.wr F.NODE_SEALED_LAST_INDEX index).wr F.NODE_SEALED_LAST_UNIT unit
  let s := s.wr F.NODE_SEALED_LAST_STEP s.step
  let s := { s with check := { s.check with diverged := sinsert s.check.diverged pair } }
  let s := forEach [pair, pair + 8] s (fun t s =>
    let s := s.haltUnits t
    let s := forEach (s.runningEntries t) s (fun i s => s.completeEntry t i St.sealedDiverged)
    let r := s.tr t
    s.setTr t { r with unusable := true, haltPending := true, haltStatus := St.sealedDiverged })
  (s.pairAlign pair).raiseEvent Ev.sealed St.sealedDiverged (pair + s.step * 2 ^ 8) []

/-- The words two twins cover. Details: DEDUCED, log entry 46. -/
def twinWords (a b : Twin) : List Nat := wordsOf a.addr a.data.length ++ wordsOf b.addr b.data.length

/-- A tier write or post operation of a paired unit: the first twin is held, the second compared; equal twins are
performed once, differing ones poison what they cover (R424, R426). `perform` is the write itself.
Details: DEDUCED, log entries 46, 90. -/
def State.pairOp (s : State) (t unit index addr : Nat) (data : Bytes) (mask mop : Nat) (perform : State → State) :
    State :=
  let pair := t % 8
  let shadow := 8 ≤ t
  let key := pairKey pair unit index shadow
  let seq := mget s.check.pairSeq key 0
  let s := { s with check := { s.check with pairSeq := mput s.check.pairSeq key (seq + 1) } }
  let mine : Twin := ⟨pair, shadow, unit, index, seq, addr, data, mask, mop⟩
  let isPartner := fun (w : Twin) =>
    w.pair == pair && w.unit == unit && w.index == index && w.seq == seq && w.shadow != shadow
  match s.check.twins.find? isPartner with
  | none => { s with check := { s.check with twins := s.check.twins ++ [mine] } }
  | some w =>
    let s := { s with check := { s.check with twins := s.check.twins.filter (fun x => !isPartner x) } }
    if w.addr == addr && w.data == data && w.mask == mask && w.mop == mop then perform s
    else ((s.touch addr data.length).setPoison ((twinWords w mine).filter (· < 2 ^ 45))).diverge pair 1 index unit

/-- Whether a write of a unit is still held for its twin: it has not been performed (R424, R226). -/
def State.twinsOut (s : State) (t unit index : Nat) : Bool :=
  s.check.twins.any (fun w => w.pair == t % 8 && w.shadow == decide (8 ≤ t) && w.unit == unit && w.index == index)

/-- The spire at the same place of the pair's other member (R423). -/
def mirror (n : Nat) : Nat := (n + 144) % 288

/-- Whether a twin that its pair still holds covers bytes a member of the pair reads: the read waits (R424).
Details: DEDUCED, log entries 46, 90. -/
def State.twinHeld (s : State) (t a n : Nat) : Bool :=
  s.check.twins.any (fun w => w.pair == t % 8 && overlaps a n w.addr w.data.length)

/-- A write by a unit of terrace t: scratchpad and unpaired writes are performed; tier writes of the Sealed profile go
through the pair. Details: DEDUCED, log entry 90. -/
def State.unitWrite (s : State) (t unit index addr : Nat) (cells : List (Byte × Bool)) : State :=
  if !s.sealed then s.writeCells addr cells
  else if !s.unitAlive t unit index then s
  else if isScratch addr then s.writeCells addr cells
  else
    let mask := maskOf ((List.range cells.length).filter (fun i => (cells.getD i (0, false)).2))
    s.pairOp t unit index addr (cells.map (·.1)) mask 0 (fun s => s.writeCells addr cells)

/-! ## LAST_USE (R229, R230) -/

/-- Whether a line is held as pinned: it lies in the live set and within 8 ways of its Cistern set (R233).
Details: DEDUCED, log entry 8. -/
def State.isPinned (s : State) (line : Nat) : Bool :=
  s.pinned.live.any (fun e => overlaps line 64 e.1 e.2) && !s.pinned.ordinary.contains line

/-- The 64-byte lines an extent covers whole. Details: DEDUCED, log entry 8. -/
def wholeLines (a n : Nat) : List Nat :=
  let first := (a + 63) / 64
  let last := (a + n) / 64
  (List.range (last - first)).map (fun i => (first + i) * 64)

/-- A LAST_USE read discards every unpinned tier line it covers whole: its words become undefined.
Details: DEDUCED, log entry 8. -/
def State.discard (s : State) (a n : Nat) : State :=
  if !inTiers a n then s
  else forEach (wholeLines a n) s (fun l s =>
    if s.isPinned l then s.ev F.CIST_EVENTS_LAST_USE_PINNED
    else
      let s := s.touch l 64
      { s with
        poison := s.poison.filter (fun w => !(l / 8 ≤ w && w < l / 8 + 8))
        undef := (wordsOf l 64).foldl sinsert s.undef })

/-! ## Addresses of descriptors (R119–R121, R176) -/

/-- A base plus an offset within bits [47:0]; none when it carries out or borrows. -/
def formAddr (base : Nat) (off : Int) : Option Nat :=
  let l : Int := (base % 2 ^ 48 : Nat) + off
  if 0 ≤ l && l < 2 ^ 48 then some (2 ^ 48 * (base / 2 ^ 48) + l.toNat) else none

/-- The node-local address a fabric address names at this node, none when it names another node (R25 rules 1 and 3). -/
def State.localOf (s : State) (a : Nat) : Option Nat :=
  match s.target a with
  | .here l => some l
  | .self l => some l
  | _ => none

/-- Window w's 32 bytes (Table 11.5). Details: DEDUCED, log entry 68. -/
def State.window (s : State) (w : Nat) : Bytes := (List.range 4).flatMap (fun k => natLE 8 (s.rdReg (R.FAB_WEIR_WIN w k)))

/-- The window that maps an address of another pond (R265). Details: DEDUCED, log entry 68. -/
def State.windowOf (s : State) (node loc : Nat) : Option Bytes :=
  ((List.range 64).map s.window).find? (fun w =>
    bit (fld w 2 1) 0 && fld w 3 1 == node / 512 && fld w 4 2 ≤ node % 512 && node % 512 ≤ fld w 6 2
      && fld w 8 8 ≤ loc && loc < fld w 8 8 + fld w 16 8 && fld w 0 2 == s.liveTag)

/-- Whether Weir windows map every 4 KiB of an extent in another pond (R266). -/
def State.mapped (s : State) (node loc n : Nat) : Bool :=
  (List.range ((loc + n + 4095) / 4096 - loc / 4096)).all (fun i => (s.windowOf node ((loc / 4096 + i) * 4096)).isSome)

/-- Whether an extent at a fabric address may be used by an engine: backed here, at another node of the pond, or mapped by Weir
windows (R21, R25, R266). -/
def State.usable (s : State) (a n : Nat) : Bool :=
  match s.target a with
  | .here l => s.backed l n
  | .self l => s.backed l n
  | .pond _ _ => true
  | .weir node l => s.mapped node l n
  | .bad => false

/-- Whether a descriptor extent may be read: node-local or fabric under R25, 64-byte aligned, backed. One that lies at another node,
or behind a Weir window, is not read: its descriptor completes with BAD_PARAM. Details: DESIGN CHOICE, log entry 101. -/
def State.descAddr (s : State) (a n : Nat) : Option Nat :=
  match s.localOf a with
  | some l => if a % 64 == 0 && s.backed l n then some l else none
  | none => none

/-- A refused write to a sealed context sets the owner's event (R143). -/
def State.ctxRefused (s : State) (spire : Nat) : State := s.ev (F.TENS_EVENTS_CTX_WRITE_REFUSED spire)

/-! ## Waking a spire core (R109–R111) -/

/-- CORE of SPIRE_STATUS: 0 idle, 1 running, 2 stopped, 3 stalled. -/
def State.setCore (s : State) (n v : Nat) : State := s.wr (F.SPIRE_STATUS_CORE n) v

def Spire.xr (x : Spire) (r : Nat) : Word := if r = 0 then 0 else mget x.x r 0
def Spire.setX (x : Spire) (r : Nat) (v : Word) : Spire := if r = 0 then x else { x with x := mput x.x r v }

/-- Queue depths and owners shown in SPIRE_STATUS (Table 5.10). Details: DEDUCED, log entry 50. -/
def ownerCode (run : Option DescRun) (q : List QDesc) : Nat :=
  match run, q with
  | some r, _ => (match r.owner with | some _ => 1 | none => 2)
  | none, d :: _ => (match d.owner with | some _ => 1 | none => 2)
  | none, [] => 0

def State.showQueues (s : State) (n : Nat) : State :=
  let x := s.sp n
  let s := s.wr (F.SPIRE_STATUS_TQ_DEPTH n) (x.tq.length + b2n x.tens.isSome)
  let s := s.wr (F.SPIRE_STATUS_MQ_DEPTH n) (x.mq.length + b2n x.mover.isSome)
  (s.wr (F.SPIRE_STATUS_TENS_OWNER n) (ownerCode x.tens x.tq)).wr (F.SPIRE_STATUS_MOVER_OWNER n)
    (ownerCode x.mover x.mq)

/-- Complete a waiting SP.WAIT whose count is reached: rd receives 0 or the first failure status. -/
def State.wakeWait (s : State) (n : Nat) : State :=
  let x := s.sp n
  match x.wait with
  | .wait mover count rd =>
    let done := if mover then x.doneM else x.doneT
    if count ≤ done then
      let st := if mover then x.failM else x.failT
      (s.setSp n { x.setX rd (BitVec.ofNat 64 st) with wait := .none, pc := x.pc + 4 }).setCore n 1
    else s
  | _ => s

/-- Whether every core-issued descriptor of a spire has completed. -/
def Spire.drained (x : Spire) : Bool :=
  x.tq.all (·.owner.isSome) && x.mq.all (·.owner.isSome) &&
    (match x.tens with | some r => r.owner.isSome | none => true) &&
    (match x.mover with | some r => r.owner.isSome | none => true)

/-- Whether a request or a put block of the Weir still carries an access of the agents a test names (R226, R268). -/
def State.owes (s : State) (mine : Waiter → Bool) : Bool :=
  s.fab.reqs.any (fun r => mine r.waiter || r.carry.any (fun c => mine c.1))
    || s.fab.blocks.any (fun b => b.put && b.waiting.any (fun c => mine c.1))

/-- Whether a waiter is a store or post operation of a spire core. -/
def Waiter.postOf (n : Nat) (w : Waiter) : Bool := match w with | .corePost k _ => k == n | _ => false

/-- Whether a store or post operation of a spire core has not yet been performed at home: its acknowledgement is outstanding, a
put block holds it, or its twin has not come (R226, R253, R268, R424). -/
def State.postsOut (s : State) (n : Nat) : Bool :=
  s.owes (Waiter.postOf n) || s.twinsOut (n / 18) PairUnit.core (n % 18)

/-- Whether a write of a mover, or with `vec` of a short-vector unit, has not yet been performed at home (R112, R177). -/
def State.unitOut (s : State) (n : Nat) (vec : Bool) : Bool :=
  s.owes (· == .unit n vec) || s.twinsOut (n / 18) (if vec then PairUnit.vector else PairUnit.mover) (n % 18)

/-- A waiting FENCE completes once no earlier store of the core is outstanding (R253). -/
def State.wakeFence (s : State) (n : Nat) : State :=
  let x := s.sp n
  if x.wait == .fence && !s.postsOut n then (s.setSp n { x with wait := .none, pc := x.pc + 4 }).setCore n 1 else s

/-- The part of a VECTOR_PROGRAM ends once the core has ended, its descriptors have completed and its stores are
performed (R107, R226). -/
def State.corePart (s : State) (n : Nat) : State :=
  let s := s.wakeFence n
  let x := s.sp n
  match x.entry with
  | some i =>
    if x.ended && x.drained && !s.postsOut n then
      let s := if isSuccess x.partStatus then s.wr (F.SPIRE_FAULT_INFO_UNIT n) 0 else s
      let s := s.wr (F.SPIRE_FAULT_INFO_STATUS n) x.partStatus
      (s.setSp n { x with entry := none }).partDone (n / 18) i (n % 18) x.partStatus
    else s
  | none => s

/-- The first failure of a core's part gives its status and the unit that failed (R107, Table 5.11). -/
def State.partFails (s : State) (n unit status : Nat) : State :=
  let x := s.sp n
  if !isSuccess x.partStatus || isSuccess status then s
  else (s.setSp n { x with partStatus := status }).wr (F.SPIRE_FAULT_INFO_UNIT n) unit

/-- After a write of a spire core, what waits for it or for its twin goes on: a FENCE, or the end of the part, of either member
of the pair. -/
def State.wakePosts (s : State) (n : Nat) : State := if s.sealed then (s.corePart n).corePart (mirror n) else s

/-- Whether an entry holds the tensor engine or mover of a spire (R111). Details: DEDUCED, log entry 50. -/
def State.engineHeld (s : State) (n : Nat) (mover : Bool) : Bool :=
  (s.heldUnits (n / 18)).contains (if mover then 2 else 0, n % 18)

/-- Whether a queue of 8 has no room, its running descriptor included (R110, Table 5.10).
Details: DEDUCED, log entry 50. -/
def State.queueFull (s : State) (n : Nat) (mover : Bool) : Bool :=
  let x := s.sp n
  8 ≤ (if mover then x.mq.length + b2n x.mover.isSome else x.tq.length + b2n x.tens.isSome)

/-- Queue a descriptor for an owner; one that finds the engine free takes it, and the counts of SPIRE_DONE start again
(Table 5.14). Details: DEDUCED, log entry 50. -/
def State.pushDesc (s : State) (n : Nat) (mover : Bool) (addr : Nat) (owner : Option Nat)
    (snap : Option Bytes) : State :=
  let x := s.sp n
  let idle := if mover then x.mq.isEmpty && x.mover.isNone else x.tq.isEmpty && x.tens.isNone
  let s := if idle then s.wr (if mover then F.SPIRE_DONE_MOVER n else F.SPIRE_DONE_TENSOR n) 0 else s
  (s.setSp n (if mover then { x with mq := x.mq ++ [⟨addr, owner, snap⟩] } else { x with tq := x.tq ++ [⟨addr, owner, snap⟩] })).showQueues
    n

/-- A stalled SP.TQ or SP.MQ issues once no entry holds the engine and its queue has room (R110, R111).
Details: DEDUCED, log entry 50. -/
def State.retryIssue (s : State) (n : Nat) : State :=
  let x := s.sp n
  let go := fun (mover : Bool) (addr : Nat) =>
    if s.engineHeld n mover || s.queueFull n mover then s
    else ((s.setSp n { x with wait := .none, pc := x.pc + 4 }).setCore n 1).pushDesc n mover addr none none
  match x.wait with
  | .tq addr => go false addr
  | .mq addr => go true addr
  | _ => s

/-- A tensor (false) or mover (true) descriptor of a spire completes with a status: it is counted for its owner (R107,
R110, Table 5.14). Details: DEDUCED, log entry 50. -/
def State.countDesc (s : State) (n : Nat) (mover : Bool) (owner : Option Nat) (status : Nat) : State :=
  let s := if mover then s.incw (F.SPIRE_DONE_MOVER n)
    else (s.incw (F.SPIRE_DONE_TENSOR n)).wr (F.TENS_STATUS_LAST_STATUS n) status
  match owner with
  | some i => s.partDone (n / 18) i (n % 18) status
  | none =>
    let x := s.sp n
    let fail := fun (old : Nat) => if old == 0 && !isSuccess status then status else old
    let x := if mover then { x with doneM := x.doneM + 1, failM := fail x.failM }
      else { x with doneT := x.doneT + 1, failT := fail x.failT }
    (((s.setSp n x).partFails n (if mover then 2 else 1) status).wakeWait n).corePart n

/-- Descriptors queued behind a failed one complete with its status and no effect (R113).
Details: DEDUCED, log entry 50. -/
def State.discardQueue (s : State) (n : Nat) (mover : Bool) (status : Nat) : State :=
  let x := s.sp n
  let q := if mover then x.mq else x.tq
  let s := s.setSp n (if mover then { x with mq := [] } else { x with tq := [] })
  q.foldl (fun s d => s.countDesc n mover d.owner status) s

end Sys2Proof.Machine
end

