-- ==== Sys2Proof/Machine/Operands.lean ====
section
/-! DEFINITION. The operand forms of the commands that carry packed operands: the memory-side operation code (R236),
short-vector registers and groups (R173, R174), and the control words of conversions (R185, R186). -/

namespace Sys2Proof.Machine

open Sys2Proof

/-! ## The memory-side operation code (R236, Table 10.5) -/

def mopOp (m : Nat) : Nat := bits m 0 4
def mopType (m : Nat) : Nat := bits m 4 3
def mopFetch (m : Nat) : Bool := bit m 7
def mopLine (m : Nat) : Bool := bit m 8

/-- Element bytes of a TYPE. -/
def mopBytes (m : Nat) : Nat :=
  match mopType m with
  | 0 => 4 | 1 => 8 | 2 => 2 | 3 => 4 | 4 => 8 | _ => 16

def mopFloat (m : Nat) : Bool := 2 ≤ mopType m && mopType m ≤ 4
def mopFmt (m : Nat) : Fmt := if mopType m = 2 then fmtBF16 else if mopType m = 3 then fmtFP32 else fmtFP64

/-- Whether Table 10.5 defines the combination. Details: DEDUCED, log entry 63. -/
def mopDefined (m : Nat) : Bool :=
  let op := mopOp m
  let ty := mopType m
  m < 512 && ty ≤ 5 &&
  (if op = 0 then true
   else if op = 1 || op = 2 then ty ≤ 4
   else if op = 8 || op = 9 || op = 3 || op = 4 || op = 5 then ty ≤ 1
   else if op = 6 || op = 7 then ty ≤ 1 && mopFetch m && !mopLine m
   else false)

/-- Whether the row of Table 10.5 is marked V: every fetch form, SWAP, CAS, and floating-point ADD. -/
def mopV (m : Nat) : Bool := mopFetch m || (mopOp m = 0 && mopFloat m)

/-- SV.FMIN and SV.FMAX (R183): the other operand beside a NaN, the canonical NaN of two, −0 below +0.
Details: DEDUCED, log entry 63. -/
def fminMax (f : Fmt) (mx : Bool) (a b : Nat) : Nat :=
  let x := f.decode a
  let y := f.decode b
  if x.isNan && y.isNan then f.nan
  else if x.isNan then b
  else if y.isNan then a
  else
    let less := x.lt y || (x.isZero && y.isZero && x.sign && !y.sign)
    if less == mx then b else a

/-- Signed or unsigned integer extremes of w bits. Details: DEDUCED, log entry 63. -/
def iminMax (w : Nat) (mx sgn : Bool) (a b : Nat) : Nat :=
  let less := if sgn then decide (signed w a < signed w b) else decide (a % 2 ^ w < b % 2 ^ w)
  if less == mx then b else a

/-- The effect of an operation on one element m with operand v (Table 10.5); a CAS operand holds the compare value in
its low half. Details: DEDUCED, log entry 63. -/
def mopElem (mop m v : Nat) : Nat :=
  let w := 8 * mopBytes mop
  let f := mopFmt mop
  match mopOp mop with
  | 0 => if mopFloat mop then f.add m v else (m + v) % 2 ^ w
  | 1 => if mopFloat mop then fminMax f false m v else iminMax w false true m v
  | 2 => if mopFloat mop then fminMax f true m v else iminMax w true true m v
  | 8 => iminMax w false false m v
  | 9 => iminMax w true false m v
  | 3 => m &&& v
  | 4 => m ||| v
  | 5 => m ^^^ v
  | 6 => v % 2 ^ w
  | _ => if m = v % 2 ^ w then v / 2 ^ w % 2 ^ w else m

/-! ## Short-vector groups (R172–R174) -/

/-- Element width in bits of EW. -/
def svBits (ew : Nat) : Nat := 8 * 2 ^ ew
/-- Registers per group of SPAN. -/
def svSpan (span : Nat) : Nat := 2 ^ span
/-- VLMAX of a configuration. -/
def svVlmax (ew span : Nat) : Nat := 2 ^ span * 512 / svBits ew

/-- Whether a register may name a group of k registers (R173). -/
def groupOk (first k : Nat) : Bool := first % k = 0 && first + k ≤ 32

/-- Registers that n elements of w bits need, rounded up to a power of two (R185). -/
def groupFor (n w : Nat) : Nat :=
  let r := (n * w + 511) / 512
  if r ≤ 1 then 1 else if r ≤ 2 then 2 else if r ≤ 4 then 4 else if r ≤ 8 then 8 else 16

/-- Whether two groups share a register. -/
def groupsMeet (a ka b kb : Nat) : Bool := a < b + kb && b < a + ka

/-! ## Conversion control words (R185, R186) -/

def cwSrc (c : Nat) : Nat := bits c 0 4
def cwDst (c : Nat) : Nat := bits c 4 4
def cwSlot (c : Nat) : Nat := bits c 8 6
def cwOvf (c : Nat) : Bool := bit c 14
def cwQexp (c : Nat) : Int := signed 16 (bits c 32 16)

/-- Formats SV.CVT names: E4M3, E5M2, INT8, BF16, FP16, FP32, FP64, Q64, INT32. -/
def cvtCode (c : Nat) : Bool := c == 3 || c == 4 || c == 6 || (7 ≤ c && c ≤ 0xC)

def cvtCwOk (c : Nat) : Bool :=
  cvtCode (cwSrc c) && cvtCode (cwDst c) && cwSrc c != cwDst c && bits c 15 17 = 0 && bits c 48 16 = 0 && c < 2 ^ 64

/-- SV.MXCVT: a wide source and a block format; SV.MXEXP exchanges them. -/
def mxCwOk (c : Nat) (expand : Bool) : Bool :=
  let wide := if expand then cwDst c else cwSrc c
  let blk := if expand then cwSrc c else cwDst c
  7 ≤ wide && wide ≤ 9 && (blk ≤ 4 || blk == 6) && bits c 14 50 = 0

/-! ## Core loads and stores -/

/-- A value of `size` bytes loaded into a register, with or without sign extension. Details: PRESUMED, log entry 49. -/
def loadValue (size : Nat) (sgn : Bool) (v : Nat) : Word :=
  BitVec.ofNat 64 (if sgn then sext64 (8 * size) v else v % 2 ^ (8 * size))

/-- OP of Table 10.5 that an AMO is performed as. -/
def amoMop : AmoOp → Nat
  | .swap => 6 | .add => 0 | .xor => 5 | .and => 3 | .or => 4
  | .min => 1 | .max => 2 | .minu => 8 | .maxu => 9 | _ => 0

end Sys2Proof.Machine
end

