-- ==== Sys2Proof/Machine/MemOps.lean ====
section
/-! DEFINITION. The memory side (chapter 10): what a home serves, memory-side operations, the pinned set, scrub. -/

namespace Sys2Proof.Machine

open Sys2Proof

/-! ## What a home serves (R21, R22, R329, R405) -/

/-- Whether a partial reset stops the terrace. -/
def State.inReset (s : State) (t : Nat) : Bool :=
  match s.preset with
  | some p => p.terraces.contains t
  | none => false

/-- The status with which a home answers an access of a fabric source: OK, NODE_RESETTING or ADDRESS_REFUSED (Table 11.4,
Table 18.5). -/
def State.homeStatus (s : State) (a n : Nat) (isWrite : Bool) : Nat :=
  let wide := match s.preset with
    | some p => p.scope != 0
    | none => false
  if wide || s.flag F.NODE_PROFILE_SWITCHING then St.nodeResetting
  else if isScratch a && s.inReset ((a - scratchBase) / 0x200000 / 18) then St.nodeResetting
  else if !s.backed a n || (isWrite && (s.ctxHit a n).isSome) then St.addressRefused
  else St.ok

/-- A refused access sets the event of the sealed context or reflection region that it meets (R143, R329). -/
def State.noteCtx (s : State) (a n : Nat) : State :=
  let s := s.noteRefl a n
  match s.ctxHit a n with
  | some (sp, _) => s.ctxRefused sp
  | none => s

/-- Whether a core of this node may access a local extent: backed, not reserved, and not in a scratchpad that a reset
holds. -/
def State.coreMay (s : State) (a n : Nat) : Bool :=
  s.backed a n && !(isScratch a && s.inReset ((a - scratchBase) / 0x200000 / 18))

/-! ## Errors and scrub (R240–R243) -/

/-- Stack of a near-tier address, package of a deep-tier one (R223). Details: DEDUCED, log entry 65. -/
def deviceOf (a : Nat) : Nat :=
  if a < 0x10000000000 then
    let d := if 0x6000000000 ≤ a then 1 else 0
    let g := (a - 0x6000000000 * d) >>> 8
    4 * d + (g ^^^ g >>> 8 ^^^ g >>> 16) % 4
  else
    let g := (a - 0x10000000000) >>> 8
    (g ^^^ g >>> 8 ^^^ g >>> 16) % 16

/-- The home slice of a tier address, as a terrace number (R222, R223). Details: DEDUCED, log entry 65. -/
def homeOf (a : Nat) : Nat :=
  if a < 0x10000000000 then
    let d := if 0x6000000000 ≤ a then 1 else 0
    let o := a - 0x6000000000 * d
    8 * d + (o >>> 10 ^^^ o >>> 20) % 8
  else
    let o := a - 0x10000000000
    8 * ((o >>> 12 ^^^ o >>> 20) % 2) + (o >>> 13 ^^^ o >>> 21) % 8

/-- Record a tier error (Table 10.9). Details: DEDUCED, log entry 65. -/
def State.memError (s : State) (line die : Nat) (bad : Bool) : State :=
  let place := if line < 0x10000000000 then 0 else 1
  (s.wrReg R.MEM_ECC_LAST_ADDR line).wrReg R.MEM_ECC_LAST_INFO
    (b2n bad + 2 * place + deviceOf line * 2 ^ 8 + die * 2 ^ 12)

/-- A corrected line or a poisoned line of the running scrub pass. Details: DEDUCED, log entry 65. -/
def State.eccNote (s : State) (line : Nat) (bad : Bool) : State :=
  let d := if line < 0x10000000000 then deviceOf line else 8 + deviceOf line
  let (c, p) := mget s.keep.ecc d (0, 0)
  { s with keep := { s.keep with ecc := mput s.keep.ecc d (if bad then (c, p + 1) else (c + 1, p)) } }

/-- An error over the tiers and slices, counted with its event (Tables 10.7, 10.8). -/
def State.eccCount (s : State) (bad : Bool) : State :=
  if bad then (s.inc F.MEM_ECC_COUNTS_POISONED_LINES).ev F.MEM_EVENTS_POISONED
  else (s.inc F.MEM_ECC_COUNTS_CORRECTED).ev F.MEM_EVENTS_CORRECTED

/-- An error of a scratchpad word (R116, Tables 5.15, 5.16); its bank is bits [9:6] of the offset (R114). -/
def State.scratchError (s : State) (a : Nat) (bad : Bool) : State :=
  let n := (a - scratchBase) / 0x200000
  let s := s.wr (F.SPIRE_SP_ECC_LAST_BANK n) (bits a 6 4)
  if bad then ((s.inc (F.SPIRE_SP_ECC_POISONED n)).ev (F.SPIRE_EVENTS_ECC_POISON n)).setPoison [a / 8]
  else (s.inc (F.SPIRE_SP_ECC_CORRECTED n)).ev (F.SPIRE_EVENTS_ECC_CORRECTED n)

/-- What the ECC finds at an access of `n` bytes of this node: the error is corrected and written back, or the tier's whole
line or the SRAM's word is poisoned, before the access reads it (R116, R240, R241). The device bits of LAST_INFO have no value
for an SRAM error. Details: DEDUCED, log entry 65. -/
def State.eccFound (s : State) (a n : Nat) (f : EccFind) : State :=
  match f with
  | .clean => s
  | .tier bad last die =>
    let line := (if last then a + n - 1 else a) / 64 * 64
    if isScratch a then s
    else
      let s := ((s.eccCount bad).memError line die bad).eccNote line bad
      if bad then s.setPoison (wordsOf line 64) else s
  | .sram bad last dome =>
    let w := (if last then a + n - 1 else a) / 8 * 8
    if isScratch a then s.scratchError w bad
    else
      let s := ((s.eccCount bad).wrReg R.MEM_ECC_LAST_ADDR (w / 64 * 64)).wrReg R.MEM_ECC_LAST_INFO
        (b2n bad + 2 * (if dome then 3 else 2) + 2 ^ 8 * s.free 1 256)
      if bad then s.setPoison [w / 8] else s

/-- The errors the ECC finds in what a command reads, in order. Details: DEDUCED, log entry 65. -/
def State.eccAll (s : State) (l : EccFinds) : State := l.foldl (fun s e => s.eccFound e.1 1 e.2) s

/-- MEM_SCRUB_WRITE: a period of 0 is taken as 1 (R242, Table 10.13). Details: DEDUCED, log entry 65. -/
def execMemScrubWrite (enable : Bool) (period : Fin 256) (s : State) : Out :=
  ok ((s.wr F.MEM_SCRUB_ENABLE (b2n enable)).wr F.MEM_SCRUB_PERIOD_H (max 1 period.val))

/-! ## Memory-side operations (R235–R241) -/

/-- Result of a memory-side operation: its status, the old element or line, and the poison mask by 8-byte word. -/
structure MopResult where
  status : Nat
  old : Bytes
  poison : Nat
  deriving DecidableEq, Repr

/-- Whether R236 defines the operation at this address. Details: DEDUCED, log entry 63. -/
def mopAligned (a mop : Nat) : Bool :=
  mopDefined mop && a % (if mopLine mop then 64 else mopBytes mop) = 0 && !(isScratch a && mopFloat mop)

/-- Apply the operation to element i of the operation's span; a poisoned element keeps its mark and its bytes, but SWAP
writes (R241). Details: DEDUCED, log entry 63. -/
def State.mopApply (s : State) (a mop : Nat) (v : Bytes) (i : Nat) : State :=
  let k := mopBytes mop
  let e := a + i * k
  let p := s.poisoned e k
  let s := if p then s.ev F.MEM_EVENTS_MOP_POISON else s
  if p && mopOp mop != 6 then s
  else
    let m := s.readNat e k
    let x := if mopOp mop = 7 then fld v 0 (2 * k) else fld v (i * k) k
    if mopOp mop = 7 && m != x % 2 ^ (8 * k) then s
    else s.rawWrite e (natLE k (mopElem mop m x))

/-- Whether an operation uses the memory-side adder: ADD, MIN, MAX, MINU and MAXU. Details: DEDUCED, log entry 91. -/
def mopAdder (mop : Nat) : Bool := mopOp mop ≤ 2 || mopOp mop == 8 || mopOp mop == 9

/-- The adder's residues (R422): of the operation's elements `retries` were recomputed and matched, and those of `bad`
mismatched again: they are written as poison, a fetch returns them as poison, and the status is RESIDUE_MISMATCH. -/
def State.mopResidue (s : State) (a mop retries : Nat) (bad : List Nat) (r : MopResult) : State × MopResult :=
  let n := if mopLine mop then 64 else mopBytes mop
  let bad := (bad.filter (· < n / mopBytes mop)).foldl sinsert []
  if !mopAdder mop then (s, r)
  else
    let s := s.residue F.NODE_CHECK_EVENTS_MOP_RESIDUE (min retries (n / mopBytes mop)) bad.length
    if bad.isEmpty then (s, r)
    else
      let ws := bad.flatMap (fun i => wordsOf (a + i * mopBytes mop) (mopBytes mop))
      (s.setPoison ws, { r with
        status := St.residueMismatch
        poison := if mopFetch mop then r.poison ||| maskOf ((List.range ((n + 7) / 8)).filter (fun j => ws.contains (a / 8 + j)))
          else 0 })

/-- A memory-side operation at its home (R236–R238): refused, or applied to its element or to every element of its
line; `retries` and `bad` are what the adder's residues find. Details: DEDUCED, log entry 63. -/
def State.mopAt (s : State) (a mop : Nat) (v : Bytes) (retries : Nat := 0) (bad : List Nat := []) : State × MopResult :=
  let n := if mopLine mop then 64 else mopBytes mop
  let st := s.homeStatus a n true
  if st == St.nodeResetting then (s, ⟨st, [], 0⟩)
  else if !mopAligned a mop || v.length != (if mopOp mop = 7 then 2 * n else n) then
    ((s.ev F.MEM_EVENTS_MOP_REFUSED).inc F.MEM_MOP_COUNTS_REFUSED, ⟨St.addressRefused, [], 0⟩)
  else if st != St.ok then (s.noteCtx a n, ⟨st, [], 0⟩)
  else
    let old := s.readBytes a n
    let poison := maskOf ((List.range ((n + 7) / 8)).filter (fun i => s.poisonAt (a + 8 * i)))
    let s := s.touch a n
    let s := forEach (List.range (n / mopBytes mop)) s (fun i s => s.mopApply a mop v i)
    (s.incw F.MEM_MOP_COUNTS_OPS).mopResidue a mop retries bad
      ⟨St.ok, if mopFetch mop then old else [], if mopFetch mop then poison else 0⟩

/-- A memory-side operation of an engine of this node under R25 rule 3: performed here, its reply sent to the engine.
Details: DEDUCED, log entry 63. -/
def State.mopLocal (s : State) (engine a mop : Nat) (v : Bytes) (retries : Nat := 0) (bad : List Nat := []) : State :=
  let (s, r) := s.mopAt a mop v retries bad
  s.send .fabricReply s.nodeId [r.status, s.nodeId * 32 + engine, 0, 0, r.poison] r.old

/-- The MOP code of OP, TYPE, FETCH and LINE. -/
def mopCode (op ty : Nat) (fetch line : Bool) : Nat := op + 16 * ty + 128 * b2n fetch + 256 * b2n line

/-- Details: DEDUCED, log entry 63. -/
def execMopAdd (engine : Fin 24) (a : Nat) (ty : Fin 8) (fetch line : Bool) (v : Bytes) (retries : Nat) (bad : List Nat)
    (ecc : EccFinds) (s : State) : Out :=
  ok ((s.eccAll ecc).mopLocal engine a (mopCode 0 ty fetch line) v retries bad)
/-- Details: DEDUCED, log entry 63. -/
def execMopMinMax (engine : Fin 24) (a : Nat) (mx : Bool) (ty : Fin 8) (fetch line : Bool) (v : Bytes) (retries : Nat)
    (bad : List Nat) (ecc : EccFinds) (s : State) : Out :=
  ok ((s.eccAll ecc).mopLocal engine a (mopCode (if mx then 2 else 1) ty fetch line) v retries bad)
/-- Details: DEDUCED, log entry 63. -/
def execMopMinuMaxu (engine : Fin 24) (a : Nat) (mx : Bool) (ty : Fin 8) (fetch line : Bool) (v : Bytes) (retries : Nat)
    (bad : List Nat) (ecc : EccFinds) (s : State) : Out :=
  ok ((s.eccAll ecc).mopLocal engine a (mopCode (if mx then 9 else 8) ty fetch line) v retries bad)
/-- Details: DEDUCED, log entry 63. -/
def execMopAndOrXor (engine : Fin 24) (a : Nat) (op : Fin 3) (ty : Fin 8) (fetch line : Bool) (v : Bytes)
    (ecc : EccFinds) (s : State) : Out :=
  ok ((s.eccAll ecc).mopLocal engine a (mopCode (3 + op) ty fetch line) v)
/-- Details: DEDUCED, log entry 63. -/
def execMopSwap (engine : Fin 24) (a : Nat) (ty : Fin 8) (v : Bytes) (ecc : EccFinds) (s : State) : Out :=
  ok ((s.eccAll ecc).mopLocal engine a (mopCode 6 ty true false) v)
/-- Details: DEDUCED, log entry 63. -/
def execMopCas (engine : Fin 24) (a : Nat) (ty : Fin 8) (v : Bytes) (ecc : EccFinds) (s : State) : Out :=
  ok ((s.eccAll ecc).mopLocal engine a (mopCode 7 ty true false) v)

/-! ## Pinned sets (R231–R233) -/

/-- ERROR of an ARM or DISARM (Table 10.10), with its event. Details: DEDUCED, log entry 64. -/
def State.pinError (s : State) (code : Nat) : State :=
  let s := s.wr F.CIST_PIN_CTRL_ERROR code
  if code = 0 then s else s.ev F.CIST_EVENTS_PIN_ERROR

/-- Whether some two extents of a list share a byte. Details: DEDUCED, log entry 64. -/
def anyOverlap : List (Nat × Nat) → Bool
  | [] => false
  | e :: r => r.any (fun f => overlaps e.1 e.2 f.1 f.2) || anyOverlap r

/-- The check of a pinned list (R231, R487): 0 or the code of Table 10.10. Details: DEDUCED, log entry 64. -/
def State.pinCheck (s : State) (count base : Nat) : Nat :=
  let ents := (List.range count).map (fun i => (s.readNat (base + 16 * i) 8, s.readNat (base + 16 * i + 8) 4))
  if count > 256 then 1
  else if count != 0 && !s.backed base (16 * count) then 3
  else if s.poisoned base (16 * count) then 8
  else if ents.any (fun e => e.1 / 2 ^ 48 != 0) ||
      (List.range count).any (fun i => s.readNat (base + 16 * i + 12) 4 != 0) then 7
  else if ents.any (fun e => e.1 % 4096 != 0 || e.2 % 4096 != 0 || e.2 = 0) then 2
  else if ents.any (fun e => !inTiers e.1 e.2) then 3
  else if anyOverlap ents then 4
  else if (ents.map (·.2)).foldl (· + ·) 0 > 128 * 2 ^ 20 then 5
  else 0

/-- A set becomes live (R233): counted, and its lines are fetched in the background. Details: DEDUCED, log entry 64. -/
def State.pinLive (s : State) (set : List (Nat × Nat)) : State :=
  let s := { s with pinned := { s.pinned with live := set, ordinary := [] } }
  let s := (s.wr F.CIST_STATUS_LIVE_COUNT set.length).wr F.CIST_STATUS_LIVE_KIB
    ((set.map (·.2)).foldl (· + ·) 0 / 1024)
  (s.wr F.CIST_STATUS_FILLING (b2n (!set.isEmpty))).ev F.CIST_EVENTS_PIN_SWAPPED

/-- CIST_PIN_ARM: a write of 1 to CIST_PIN_CTRL.ARM with COUNT (R232). Details: DEDUCED, log entry 64. -/
def State.pinArm (s : State) (count : Nat) : State :=
  let s := s.wr F.CIST_PIN_CTRL_COUNT count
  if s.flag F.CIST_STATUS_ARMED then s.pinError 6
  else
    let base := s.rd F.CIST_PIN_LIST_BASE * 16
    let code := s.pinCheck (s.rd F.CIST_PIN_CTRL_COUNT) base
    if code != 0 then s.pinError code
    else
      let set := (List.range (s.rd F.CIST_PIN_CTRL_COUNT)).map
        (fun i => (s.readNat (base + 16 * i) 8, s.readNat (base + 16 * i + 8) 4))
      let s := s.pinError 0
      if !s.admitted then s.pinLive set
      else
        let s := { s with pinned := { s.pinned with armed := some set } }
        (s.wr F.CIST_STATUS_ARMED 1).wr F.CIST_PIN_ARM_STEP_STEP s.boundStep

/-- CIST_PIN_ARM: a write of 1 to ARM with its COUNT. Details: DEDUCED, log entry 64. -/
def execCistPinArm (count : Nat) (s : State) : Out := ok (s.pinArm count)

/-- A write of 1 to DISARM. Details: DEDUCED, log entry 64. -/
def State.pinDisarm (s : State) : State :=
  if !s.flag F.CIST_STATUS_ARMED then s.pinError 0
  else if s.tooLate (s.rd F.CIST_PIN_ARM_STEP_STEP) then s.pinError 6
  else ({ s with pinned := { s.pinned with armed := none } }.wr F.CIST_STATUS_ARMED 0).pinError 0

/-- CIST_PIN_DISARM. Details: DEDUCED, log entry 64. -/
def execCistPinDisarm (s : State) : Out := ok s.pinDisarm

/-- PINNED_FILL_COMPLETE: FILLING clears; `ordinary` names the lines beyond 8 ways of their sets, which are held as ordinary lines
(R233). Details: DEDUCED, log entry 64. -/
def execPinnedFillComplete (ordinary : List Nat) (s : State) : Out :=
  if !s.flag F.CIST_STATUS_FILLING then ok s
  else
    let s := { s with pinned := { s.pinned with ordinary := ordinary } }.wr F.CIST_STATUS_FILLING 0
    ok (if ordinary.isEmpty then s else s.ev F.CIST_EVENTS_PIN_OVERFLOW)

/-- The armed pinned set becomes live at its step boundary (R232). Details: DEDUCED, log entry 64. -/
def State.pinBoundary (s : State) (step : Nat) : State :=
  match s.pinned.armed with
  | some set =>
    if s.rd F.CIST_PIN_ARM_STEP_STEP ≤ step then
      ({ s with pinned := { s.pinned with armed := none } }.wr F.CIST_STATUS_ARMED 0).pinLive set
    else s
  | none => s

end Sys2Proof.Machine
end

