-- ==== Sys2Proof/Machine/Flags.lean ====
section
/-! DEFINITION. What the cores of the node report: spire-core exceptions (R108), the sticky flags and events of the
short-vector unit (R180, R181, R187), Dome-hart traps, and the floating-point flags of the Dome cores (R159). -/

namespace Sys2Proof.Machine

open Sys2Proof

/-- RISC-V exception causes the node raises. Details: PRESUMED, log entry 49. -/
def Cause.illegal : Nat := 2
/-- Details: PRESUMED, log entry 49. -/
def Cause.loadMisaligned : Nat := 4
/-- Details: PRESUMED, log entry 49. -/
def Cause.load : Nat := 5
/-- Details: PRESUMED, log entry 49. -/
def Cause.storeMisaligned : Nat := 6
/-- Details: PRESUMED, log entry 49. -/
def Cause.store : Nat := 7
def Cause.hardware : Nat := 19

/-! ## Spire cores (R105–R108) -/

/-- The core runs an instruction now: CORE is 1. -/
def State.coreRuns (s : State) (n : Nat) : Bool := s.rd (F.SPIRE_STATUS_CORE n) == 1

/-- mstatus after a trap to machine mode from machine mode: MPIE takes MIE, MIE is cleared, MPP is machine. -/
def trapStatus (m : Nat) : Nat := setBits (setBits (setBits m 7 1 (bits m 3 1)) 3 1 0) 11 2 3

/-- The core stops: the fault is recorded and its part fails (R107, R108). -/
def State.coreStop (s : State) (n cause unit pc tval : Nat) : State :=
  let s := ((s.wr (F.SPIRE_FAULT_INFO_CAUSE n) cause).partFails n unit St.spireFault).wrReg (R.SPIRE_FAULT_PC n) pc
  let s := (s.wrReg (R.SPIRE_FAULT_TVAL n) tval).ev (F.SPIRE_EVENTS_FAULT n)
  let s := s.setCore n 2
  let x := s.sp n
  ((s.setSp n { x with ended := true, wait := .none }).wr (F.SPIRE_FAULT_INFO_STATUS n) x.partStatus).corePart n

/-- A spire-core exception: mepc, mcause and mtval are set; the core traps to mtvec, or stops when mtvec is 0 (R108).
UNIT is 0 for the core and 3 for the short-vector unit (Table 5.11).
Details: PRESUMED, log entry 49; DEDUCED, log entry 91. -/
def State.coreTrap (s : State) (n cause unit tval : Nat) : State :=
  let x := s.sp n
  let x := { x with mepc := x.pc, mcause := BitVec.ofNat 64 cause, mtval := BitVec.ofNat 64 tval, wait := .none, sv := none }
  if x.mtvec = 0 then (s.setSp n x).coreStop n cause unit x.pc.toNat tval
  else
    (s.setSp n { x with
      pc := x.mtvec &&& ~~~3#64
      mstatus := BitVec.ofNat 64 (trapStatus x.mstatus.toNat) }).setCore n 1

/-- An illegal-instruction exception, with no other effect. -/
def State.illegal (s : State) (n : Nat) : State := s.coreTrap n Cause.illegal 0 0

/-- An operation marked V in the Exact or Sealed profile: illegal, with EXACT_VIOL set (R29, R239). -/
def State.exactRefused (s : State) (n : Nat) : State := (s.ev F.NODE_PROFILE_EVENTS_EXACT_VIOL).illegal n

/-- The instruction completes: rd receives a value (x0 discards it) and the pc moves on.
Details: PRESUMED, log entry 49. -/
def State.coreNext (s : State) (n rd : Nat) (v : Word) : State :=
  let x := s.sp n
  s.setSp n { x.setX rd v with pc := x.pc + 4 }

/-- The core stalls in its instruction. -/
def State.coreWait (s : State) (n : Nat) (w : CoreWait) : State :=
  (s.setSp n { s.sp n with wait := w }).setCore n 3

/-! ## Short-vector flags (Tables 8.1, 8.9) -/

/-- Details: DEDUCED, log entry 55. -/
def State.vecIdx (s : State) (n : Nat) : Nat := bits (s.rdReg (R.VEC_FAULT_IDX n)) 0 10

/-- A load placed poison in a register (R181). -/
def State.vecPoison (s : State) (n : Nat) : State :=
  let x := s.sp n
  (s.setSp n { x with vflags := setBit x.vflags 1 true }).ev (F.VEC_EVENTS_POISON n)

/-- An element reached a dead node (R181). -/
def State.vecDead (s : State) (n : Nat) : State :=
  let x := s.sp n
  (s.setSp n { x with vflags := setBit x.vflags 0 true }).ev (F.VEC_EVENTS_TARGET_DEAD n)

/-- A short-vector memory instruction stops at element i (R180). Details: DEDUCED, log entry 55. -/
def State.vecFault (s : State) (n i addr : Nat) (isStore : Bool) : State :=
  let s := ((s.wrReg (R.VEC_FAULT_IDX n) i).wrReg (R.VEC_FAULT_ADDR n) addr).ev (F.VEC_EVENTS_FAULT n)
  s.coreTrap n (if isStore then Cause.store else Cause.load) 3 addr

/-- A short-vector instruction completes: VEC_FAULT_IDX returns to 0 (R173). -/
def State.vecDone (s : State) (n rd : Nat) (v : Word) : State :=
  let s := s.wrReg (R.VEC_FAULT_IDX n) 0
  s.coreNext n rd v

/-- VEC_STATUS follows the configuration (Table 8.6). -/
def State.showVec (s : State) (n : Nat) : State :=
  let x := s.sp n
  (s.wr (F.VEC_STATUS_CFG n) (x.ew + 4 * x.span + 16 * x.f16)).wr (F.VEC_STATUS_VL n) x.vl

/-- The short-vector state at the start of a program, at a compute reset and at OFF (R171). -/
def State.resetVec (s : State) (n : Nat) : State :=
  let s := s.setSp n { s.sp n with v := [], ew := 0, span := 0, f16 := 0, vl := 0, vflags := 0 }
  ((s.wrReg (R.VEC_FAULT_IDX n) 0).wrReg (R.VEC_SCALE n) 0).showVec n

/-! ## Dome harts -/

/-- A Dome-hart exception: cause, pc and value are kept; the supervisor's handler is the programmer's.
Details: PRESUMED, log entry 56. -/
def State.hartTrap (s : State) (h cause tval : Nat) : State :=
  let x := s.hart h
  s.setHart h { x with cause := cause, epc := x.pc, tval := tval, trapped := true, remote := none }

/-- Details: PRESUMED, log entry 56. -/
def Hart.xr (x : Hart) (r : Nat) : Word := if r = 0 then 0 else mget x.x r 0

/-- Write a register: 0 is x0 and discards the value; 32 to 63 name f0 to f31. Details: PRESUMED, log entry 56. -/
def Hart.setX (x : Hart) (r : Nat) (v : Word) : Hart :=
  if r = 0 then x else if r < 32 then { x with x := mput x.x r v } else { x with f := mput x.f (r - 32) v }

/-- A value of `size` bytes as a register receives it: sign-extended or not in an integer register, NaN-boxed in a
floating-point one. -/
def domeValue (rd size : Nat) (sgn : Bool) (v : Nat) : Word :=
  if rd < 32 then loadValue size sgn v else BitVec.ofNat 64 (2 ^ 64 - 2 ^ (8 * size) + v % 2 ^ (8 * size))

/-- The instruction of a hart completes. Details: PRESUMED, log entry 56. -/
def State.hartNext (s : State) (h rd : Nat) (v : Word) : State :=
  let x := s.hart h
  s.setHart h { x.setX rd v with pc := x.pc + 4, trapped := false }

/-- fflags bits (R159, the RISC-V F extension). -/
def Fl.nx : Nat := 1
def Fl.uf : Nat := 2
def Fl.of : Nat := 4
def Fl.dz : Nat := 8
def Fl.nv : Nat := 16

/-- Whether an encoding is a signalling NaN: a NaN whose top mantissa bit is 0. -/
def Fmt.isSNan (f : Fmt) (c : Nat) : Bool := (f.decode c).isNan && !c.testBit (f.mbits - 1)

/-- Flags of delivering an exact value in a format: inexact, overflow, and underflow when the result is inexact and tiny
after rounding. -/
def Fmt.flags (f : Fmt) (v : FVal) : Nat :=
  match v with
  | .fin neg m w =>
    let (c, ovf) := f.round neg m w false
    if ovf then Fl.of ||| Fl.nx
    else
      let r := f.decode c
      if r.eq v then 0
      else
        let p : Int := (msb m : Int) + w
        let emin : Int := 1 - (f.bias : Int)
        -- tiny after rounding: rounded with unbounded exponent, still below 2^emin
        let tiny := p < emin && !(p = emin - 1 && 2 ^ (f.mbits + 1) ≤ scaleRne m (w - (p - f.mbits)))
        Fl.nx ||| (if tiny then Fl.uf else 0)
  | _ => 0

end Sys2Proof.Machine
end

