-- ==== Sys2Proof/Machine/Keep.lean ====
section
/-! DEFINITION. The Keep (R372–R382): regions, journal, updates and their NOR operations, budgets, the ageing log. -/

namespace Sys2Proof.Machine

open Sys2Proof

/-- The slotted regions of Table 17.2; the others are rings. -/
def keepSlotted (g : Nat) : Bool := g == 0 || g == 1 || g == 5 || g == 6 || g == 8 || g == 9

/-- Size of a region in bytes (Table 17.2). -/
def keepSize (g : Nat) : Nat :=
  match g with
  | 0 => 262144 | 1 => 65536 | 2 => 262144 | 3 => 16777216 | 4 => 262144 | 5 => 262144 | 6 => 33554432
  | 7 => 1048576 | 8 => 65536 | _ => 65536

/-- Record size of a ring region. -/
def keepRecord (g : Nat) : Nat := match g with | 2 => 2048 | 4 => 512 | _ => 64

/-- Budget of a region (Table 17.2). -/
def keepBudget (g : Nat) : Nat :=
  match g with
  | 0 => 0 | 1 => 2000 | 2 => 200000 | 3 => 12800000 | 4 => 200000 | 5 => 100000 | 6 => 10000 | 7 => 800000
  | 8 => 100000 | _ => 10000

def State.region (s : State) (g : Nat) : KRegion := mget s.keep.regions g KRegion.init
def State.used (s : State) (g : Nat) : Nat := mget s.keep.used g 0

/-- The KEEP_REGIONg, KEEP_BUDGETg and KEEP_STATUS.DAMAGED values (Tables 17.13, 17.17).
Details: DEDUCED, log entry 21. -/
def State.showRegion (s : State) (g : Nat) : State :=
  let r := s.region g
  let bit0 := if keepSlotted g then r.slot else 0
  let held := if keepSlotted g then r.gen else r.recs.length
  let s := s.wrReg (R.KEEP_REGION g) (bit0 + 2 * b2n (!keepSlotted g) + 4 * b2n (s.keep.damaged.contains g)
    + 8 * b2n (s.keep.worn.contains g) + 2 ^ 32 * held)
  let s := s.wrReg (R.KEEP_BUDGET g) (s.used g + 2 ^ 32 * keepBudget g)
  s.wr F.KEEP_STATUS_DAMAGED (maskOf s.keep.damaged)

/-- The KEEP_POWER, KEEP_CUTS and PORTn_CABLE.INSERTIONS values (Table 17.16). Details: DEDUCED, log entry 21. -/
def State.showCounters (s : State) : State :=
  let s := (s.wr F.KEEP_POWER_LOW s.keep.powerOnS).wr F.KEEP_POWER_HIGH s.keep.thermalCycles
  let s := (s.wr F.KEEP_CUTS_LOW s.keep.cuts).wr F.KEEP_CUTS_HIGH s.keep.bringups
  forEach (List.range 10) s (fun p s => s.wr (F.PORT_CABLE_INSERTIONS p) (mget s.keep.insertions p 0))

def State.setRegion (s : State) (g : Nat) (r : KRegion) : State :=
  ({ s with keep := { s.keep with regions := mput s.keep.regions g r } }).showRegion g

/-! ## Journal (R374, R375) -/

/-- A 256-byte journal record (Table 17.3). -/
def journalRecord (type seq region slot genPos lenKept : Nat) (body : Bytes) : Bytes :=
  let b := natLE 2 0x4A52 ++ [1] ++ natLE 1 type ++ zeros 4 ++ natLE 8 seq ++ natLE 1 region ++ natLE 1 slot ++ zeros 2
    ++ natLE 4 genPos ++ natLE 4 lenKept ++ zeros 4 ++ sub body 0 192
  b ++ sha3_256 b

/-- The counter set (Table 17.4). -/
def State.counterSet (s : State) : Bytes :=
  natLE 4 s.keep.powerOnS ++ natLE 4 s.keep.thermalCycles ++ natLE 4 s.keep.cuts ++ natLE 4 s.keep.bringups
    ++ (List.range 10).flatMap (fun p => natLE 4 (mget s.keep.insertions p 0))
    ++ (List.range 10).flatMap (fun g => natLE 4 (s.used g))

/-- BODY of a CHECKPOINT record (Table 17.3). -/
def State.checkpointBody (s : State) : Bytes :=
  (List.range 10).flatMap (fun g =>
    let r := s.region g
    let oldest := match r.recs.getLast? with | some (i, _) => i | none => r.next
    natLE 4 (if keepSlotted g then r.gen else oldest) ++ natLE 4 r.next
      ++ natLE 8 (r.slot + 2 * b2n (s.keep.damaged.contains g) + 4 * b2n (s.keep.worn.contains g)))

/-- Store one record at the journal's position. Details: DEDUCED, log entry 80. -/
def State.journalPut (s : State) (type region slot genPos lenKept : Nat) (body : Bytes) : State :=
  let k := s.keep
  let seq := (k.seq + 1) % 2 ^ 64
  let pos := k.pos
  let s := { s with keep := { k with
    journal := mput k.journal pos (journalRecord type seq region slot genPos lenKept body)
    cpPos := if type = 5 then some pos else k.cpPos
    ctrPos := if type = 4 then some pos else k.ctrPos
    seq := seq
    pos := (pos + 1) % 2 ^ 15 } }
  (s.wr F.KEEP_SEQ_SEQ seq).wr F.KEEP_STATUS_JOURNAL_POS s.keep.pos

/-- A journal write that would overwrite the newest CHECKPOINT or COUNTER first writes both afresh (R375).
Details: DEDUCED, log entry 80. -/
def State.journal (s : State) (type region slot genPos lenKept : Nat) (body : Bytes) : State :=
  let pos := some s.keep.pos
  let s := if s.keep.cpPos == pos || s.keep.ctrPos == pos then
      (s.journalPut 5 0 0 0 0 s.checkpointBody).journalPut 4 0 0 0 0 s.counterSet
    else s
  s.journalPut type region slot genPos lenKept body

/-- A COUNTER record (R375). Details: DEDUCED, log entry 84. -/
def State.counterRecord (s : State) : State :=
  let s := s.journal 4 0 0 0 0 s.counterSet
  { s with keep := { s.keep with lastCounter := s.keep.powerOnS } }

/-- What a fold writes to the Counters region: the counter set of the newest COUNTER record, and after it that record's SEQ (R375).
Details: DEDUCED, log entry 84. -/
def State.foldData (s : State) : Bytes :=
  match s.keep.ctrPos with
  | some p => sub (mget s.keep.journal p []) 32 96 ++ sub (mget s.keep.journal p []) 8 8
  | none => s.counterSet ++ zeros 8

/-! ## Budgets (R381) -/

/-- Queue an update (R376). Details: DEDUCED, log entry 80. -/
def State.keepPut (s : State) (g : Nat) (data : Bytes) (thn : KeepThen) : State :=
  let s := { s with keep := { s.keep with updates := s.keep.updates ++ [KUpdate.mk g data 0 thn] } }
  s.wr F.KEEP_STATUS_WRITING 1

/-- An ageing-log record (Table 17.9). -/
def State.ageRecord (s : State) (kind unit temp : Nat) (data : Bytes) : Bytes :=
  natLE 4 s.keep.powerOnS ++ natLE 1 kind ++ natLE 1 unit ++ natLE 2 temp ++ natLE 8 s.now ++ sub data 0 32 ++ zeros 16

/-- Queue an ageing-log record of the Keep itself: 0 worn, 1 damaged, 2 sector remapped (Table 17.9). -/
def State.keepNote (s : State) (g cause : Nat) : State :=
  if s.keep.worn.contains 3 then s.ev F.KEEP_EVENTS_SKIPPED
  else s.keepPut 3 (s.ageRecord 9 g 0 (natLE 1 cause)) .none

/-- One unit of a region's budget is consumed; at the budget the region is worn, once (R381).
Details: DEDUCED, log entry 80. -/
def State.consume (s : State) (g : Nat) : State :=
  let u := s.used g + 1
  let s := { s with keep := { s.keep with used := mput s.keep.used g u } }
  if u < keepBudget g || s.keep.worn.contains g then s.showRegion g
  else
    let s := ({ s with keep := { s.keep with worn := sinsert s.keep.worn g } }).showRegion g
    let s := (s.ev F.KEEP_EVENTS_WORN).raiseEvent Ev.health St.keepWorn g []
    s.keepNote g 0

def State.isWorn (s : State) (g : Nat) : Bool := s.keep.worn.contains g

/-! ## Updates (R376, R377) -/

/-- Records per sector and sectors of a ring region. -/
def ringPerSector (g : Nat) : Nat := 65536 / keepRecord g
def ringSectors (g : Nat) : Nat := keepSize g / 65536

/-- Whether the tail of a ring lies in a sector that holds committed records of the pass before.
Details: DEDUCED, log entry 80. -/
def State.tailOccupied (s : State) (g : Nat) : Bool :=
  let r := s.region g
  r.recs.any (fun x => x.1 / ringPerSector g + ringSectors g == r.next / ringPerSector g)

/-- REQUEST is 2: the Gatehouse starts no Keep update (R454). Details: DEDUCED, log entry 80. -/
def State.removable (s : State) : Bool := s.rd F.PANEL_STATUS_REQUEST == 2

/-- Begin the update at the front if it waits: a retired or unerased place is erased first, else the data is
programmed. Details: DEDUCED, log entry 80. -/
def State.keepStart (s : State) : State :=
  match s.keep.updates with
  | [] => s.wr F.KEEP_STATUS_WRITING 0
  | u :: us =>
    if u.phase != 0 then s
    else if s.removable then s.wr F.KEEP_STATUS_WRITING 0
    else
      let g := u.region
      if keepSlotted g then
        let p := if s.keep.erasing.contains g then 1 else 2
        { s with keep := { s.keep with updates := { u with phase := p } :: us } }
      else if s.tailOccupied g then
        let r := s.region g
        let old := r.next / ringPerSector g - ringSectors g
        let kept := r.recs.filter (fun x => x.1 / ringPerSector g != old)
        let oldest := match kept.getLast? with | some (i, _) => i | none => r.next
        let s := s.journal 3 g 0 (old % ringSectors g) oldest []
        let s := (s.setRegion g { r with recs := kept }).consume g
        { s with keep := { s.keep with updates := { u with phase := 1 } :: s.keep.updates.drop 1 } }
      else { s with keep := { s.keep with updates := { u with phase := 2 } :: us } }

/-- The write of the COMMIT or APPEND record: the region changes here and nowhere else (R376, R377).
Details: DEDUCED, log entry 80. -/
def State.keepCommit (s : State) (g : Nat) (data : Bytes) : State :=
  let r := s.region g
  if keepSlotted g then
    let slot := 1 - r.slot
    let s := s.journal 1 g slot (r.gen + 1) data.length (sha3_256 data)
    let s := { s with keep := { s.keep with
      erasing := if g == 6 then s.keep.erasing else sinsert s.keep.erasing g
      damaged := s.keep.damaged.filter (· != g) } }
    (s.setRegion g { r with data := data, gen := r.gen + 1, slot := slot }).consume g
  else
    let s := s.journal 2 g 0 r.next data.length (sha3_256 data)
    s.setRegion g { r with recs := (r.next, data) :: r.recs, next := r.next + 1 }

/-- Updates of worn regions that Table 17.6 skips. Details: DEDUCED, log entry 80. -/
def skipWhenWorn (g : Nat) : Bool := g == 3 || g == 4 || g == 5 || g == 7 || g == 8

/-- Queue an update of a region whose writes a worn region skips. Details: DEDUCED, log entry 80. -/
def State.keepAppend (s : State) (g : Nat) (data : Bytes) : State :=
  if s.isWorn g && skipWhenWorn g then s.ev F.KEEP_EVENTS_SKIPPED
  else (s.keepPut g data .none).keepStart

/-- Append a record to the ageing log (R384). -/
def State.ageLog (s : State) (kind unit temp : Nat) (data : Bytes) : State :=
  s.keepAppend 3 (s.ageRecord kind unit temp data)

/-- A NOR operation of the running update ends (R376, R377): an erase is followed by the program, the program by the
commit; a failed one maps a spare sector and is done again. The answer is what follows a commit.
Details: DEDUCED, log entry 80. -/
def State.norUpdate (s : State) (good : Bool) : State × KeepThen :=
  match s.keep.updates with
  | [] => (s, .none)
  | u :: us =>
    if u.phase = 0 then (s.keepStart, .none)
    else if !good then
      let s := { s with keep := { s.keep with remapped := s.keep.remapped ++ [(u.region, s.region u.region |>.next)] } }
      ((s.ev F.KEEP_EVENTS_SECTOR_REMAPPED).keepNote u.region 2, .none)
    else if u.phase = 1 then
      ({ s with keep := { s.keep with updates := { u with phase := 2 } :: us
                                      erasing := s.keep.erasing.filter (· != u.region) } }, .none)
    else
      let s := s.keepCommit u.region u.data
      let s := { s with keep := { s.keep with updates := s.keep.updates.drop 1 } }
      (s.keepStart, u.thn)

/-- The Gatehouse stops: an erase or program in progress is abandoned. A slot begun is erased again before use, and a ring
position begun is skipped (R376, R377, R379). Details: DEDUCED, log entry 80. -/
def State.keepAbandon (s : State) : State :=
  let begun := s.keep.updates.filter (fun u => u.phase != 0)
  let slots := (begun.filter (fun u => keepSlotted u.region)).map (·.region)
  let tails := (begun.filter (fun u => !keepSlotted u.region && u.phase == 2)).map (·.region)
  let s := { s with keep := { s.keep with updates := [], erasing := slots.foldl sinsert s.keep.erasing } }
  forEach tails s (fun g s => s.setRegion g { s.region g with next := (s.region g).next + 1 })

/-- The background erase of a region's former slot ends (R376). Details: DEDUCED, log entry 80. -/
def State.norErase (s : State) (g : Nat) (good : Bool) : State :=
  if !s.keep.erasing.contains g then s
  else
    let s := { s with keep := { s.keep with erasing := s.keep.erasing.filter (· != g) } }
    if good then s
    else
      let s := { s with keep := { s.keep with remapped := s.keep.remapped ++ [(g, 1 - (s.region g).slot)] } }
      ((s.ev F.KEEP_EVENTS_SECTOR_REMAPPED).keepNote g 2).keepStart

/-! ## Reading (R382) -/

/-- Byte i of the identity region: the identity record (Table 20.3); what manufacture stores beside it is fused (R439).
Details: DESIGN CHOICE, log entry 81. -/
def identityByte (i : Nat) : Byte :=
  if i < 4 then (natLE 2 0x4944 ++ [1] ++ natLE 1 Config.variant).getD i 0
  else if 32 ≤ i && i < 64 then 0 else Config.fused 0 i

/-- Details: DESIGN CHOICE, log entry 81. -/
def identityBytes (off n : Nat) : Bytes := (List.range n).map (fun i => identityByte (off + i))

/-- IDENTITY_KEY. Details: DESIGN CHOICE, log entries 81, 93. -/
def identityKey : Bytes := identityBytes 64 1312

/-- The ASCII characters of a text. -/
def asciiBytes (x : String) : Bytes := x.toList.map (fun c => BitVec.ofNat 8 c.toNat)

/-- A byte as two lower-case hexadecimal digits. -/
def hexByte (b : Byte) : Bytes :=
  [b.toNat / 16, b.toNat % 16].map (fun d => BitVec.ofNat 8 (if d < 10 then 48 + d else 87 + d))

/-- The node's UUID: bytes 0 to 15 of the SHA3-256 of IDENTITY_KEY, with version 8 and variant 0b10 (R441). -/
def hostUuid : Bytes :=
  let h := sub (sha3_256 identityKey) 0 16
  patch (patch h 6 (natLE 1 (0x80 + fld h 6 1 % 16))) 8 (natLE 1 (0x80 + fld h 8 1 % 64))

/-- The host NQN of the storage ports (R337, R441). -/
def hostNqn : Bytes :=
  let hex := fun (off n : Nat) => (sub hostUuid off n).flatMap hexByte
  let dash := asciiBytes "-"
  asciiBytes "nqn.2014-08.org.nvmexpress:uuid:" ++ hex 0 4 ++ dash ++ hex 4 2 ++ dash ++ hex 6 2 ++ dash ++ hex 8 2 ++ dash ++ hex 10 6

/-- The connection to target t of a store descriptor from a storage port (R337, Table 14.6): host name, the port's address, the
target's address, namespace and NQN. -/
def connection (store : Bytes) (t port : Nat) : Bytes :=
  hostNqn ++ sub store (if port = 8 then 16 else 32) 16 ++ sub store (64 + 320 * t) 20 ++ sub store (64 + 320 * t + 64) 224

/-- A command to target t of a store, with the connection it goes on (R337, R441). Details: DESIGN CHOICE, log entry 76. -/
def State.toStore (s : State) (store : Bytes) (k : MsgKind) (t port : Nat) (args : List Nat) (data : Bytes) : State :=
  s.send k t (port :: args) (connection store t port ++ data)

/-- Current contents of a region: its data, or its records newest first. Details: DESIGN CHOICE, log entry 81. -/
def State.keepData (s : State) (g : Nat) : Bytes :=
  if s.keep.damaged.contains g then []
  else if keepSlotted g then (s.region g).data else ((s.region g).recs.map (·.2)).flatten

/-- Bytes of a region; beyond its current length they are free. Details: DESIGN CHOICE, log entry 81. -/
def State.keepRead (s : State) (g off n : Nat) : Bytes :=
  if g = 0 then identityBytes off n
  else
  let d := s.keepData g
  (List.range n).map (fun i => if off + i < d.length then d.getD (off + i) 0 else Config.freeByte s.fresh (off + i))

/-- The size KEEP_READ and KEEP_WRITE may address: less the 64-byte slot header of a slotted region.
Details: DESIGN CHOICE, log entry 81. -/
def keepLimit (g : Nat) : Nat := if keepSlotted g then keepSize g - 64 else keepSize g

/-- KEEP_READ (Table 17.7). Details: DESIGN CHOICE, log entry 81. -/
def execKeepRead (s : State) : Out :=
  s.withSub Op.keepRead (fun _ => true) (fun q s =>
    let g := q.p 0 1
    let off := q.p 4 4
    let n := q.p 8 1
    if g > 9 || n = 0 || n > 48 || off + n > keepLimit g then s.short q St.badParam []
    else if s.keep.damaged.contains g then s.short q St.digestMismatch []
    else s.short q St.ok (s.keepRead g off n))

/-- KEEP_WRITE (Table 17.7, R444, R445): the reply follows the commit.
Details: DEDUCED, log entry 16; DESIGN CHOICE, log entry 81. -/
def execKeepWrite (s : State) : Out :=
  s.withSub Op.keepWrite (fun _ => true) (fun q s =>
    let g := q.p 0 1
    let off := q.p 4 4
    let n := q.p 8 2
    let r := s.region g
    let whole := off = 0 && r.data.length ≤ n
    if g > 9 || n = 0 || n > 4080 || off + n > keepLimit g || q.params.length < 16 + n then s.short q St.badParam []
    else if g != 1 && g != 9 then s.short q St.badParam []
    else if g == 9 && overlaps off n 4096 4096 then s.short q St.badParam []
    else if s.keep.damaged.contains g && !whole then s.short q St.digestMismatch []
    else if s.removable || s.keep.erasing.contains g || s.keep.updates.any (·.region == g) then s.short q St.busy []
    else if s.isWorn g then s.short q St.keepWorn []
    else
      let len := max r.data.length (off + n)
      (s.keepPut g (patch (sub r.data 0 len) off (sub q.params 16 n)) (.reply q)).keepStart)

end Sys2Proof.Machine
end

