-- ==== Sys2Proof/Machine/Ports.lean ====
section
/-! DEFINITION. Ports and links (chapter 12): port states, draining and training, link frames, port arbitration, and fabric plans. -/

namespace Sys2Proof.Machine

open Sys2Proof

/-! ## Port states (R280, Table 12.3) -/

/-- FAB_PORTS follows the port states (Table 12.9). -/
def State.showPorts (s : State) : State :=
  let s := s.wr F.FAB_PORTS_UP (maskOf s.portsUp)
  let s := s.wr F.FAB_PORTS_DEGRADED (maskOf (s.portsUp.filter (fun p => s.flag (F.PORT_STATUS_DEGRADED p))))
  let s := s.wr F.FAB_PORTS_NOT_CARRYING (maskOf ((List.range 10).filter (fun p =>
    s.portState p ≤ 2 || 6 ≤ s.portState p)))
  s.wr F.FAB_PORTS_TORUS_UP s.torusUp

/-- Fewer than 4 of ports 0–5 are UP on a node that runs (R276). -/
def State.fewPorts (s : State) : State := if s.ready && s.torusUp < 4 then s.ev F.FAB_EVENTS_FEW_PORTS else s

/-- Whether a port in this state carries no traffic until it trains with a partner: what waited at it is lost.
Details: DESIGN CHOICE, log entry 100. -/
def portDead (st : Nat) : Bool := st == Port.off || st == Port.wait || st == Port.down || st == Port.held

/-- A port enters a state: the destinations it served may fail over (R289), and few ports may be left (R276). -/
def State.setPort (s : State) (p st : Nat) : State :=
  let s := if portDead st then s.setPt p { s.pt p with queue := [] } else s
  ((s.wr (F.PORT_STATUS_STATE p) st).showPorts).failOvers.fewPorts

/-- The PORT event (Table 16.6). -/
def State.portEvent (s : State) (p status : Nat) : State :=
  s.raiseEvent Ev.port status (p + s.portState p * 2 ^ 8 + s.rd (F.PORT_STATUS_MODE p) * 2 ^ 12
    + 2 ^ 16 * s.rd (F.PORT_STATUS_LANES_TRAINED p)) []

/-- Leave UP: no lane is in use. Details: DEDUCED, log entry 71. -/
def State.portIdle (s : State) (p : Nat) : State :=
  ((s.wr (F.PORT_STATUS_LANES_TRAINED p) 0).wr (F.PORT_STATUS_MODE p) 0).wr (F.PORT_STATUS_DEGRADED p) 0

/-- Training begins with the equalisation presets of the plan in force; the lanes it takes out of service are skipped (R274,
R392), the replay buffer is discarded, and the link starts anew (R279). Details: DEDUCED, log entry 72. -/
def State.startTraining (s : State) (p : Nat) : State :=
  let s := if s.age.plan.isEmpty then s else s.wr (F.PORT_STATUS_LANES_OOS p) (fld s.age.plan (848 + p) 1)
  let s := s.setPt p { s.pt p with txSeq := 0, rxSeq := 0, replay := [], asked := false, replays := 0, drain := .none }
  let s := { s with tb := { s.tb with meas := mdel s.tb.meas p } }.wr (F.TB_PORT_DELAY_VALID p) 0
  (((s.portIdle p).wr (F.PORT_PARTNER_VALID p) 0).setPort p Port.train).send .train p [] (sub s.age.plan (208 + 64 * p) 64)

/-- A port retrains by itself (R279). -/
def State.retrain (s : State) (p : Nat) : State :=
  ((s.ev (F.PORT_EVENTS_RETRAIN p)).inc (F.PORT_COUNTS_RETRAINS p)).startTraining p

/-- A drain or a link is lost: the port trains anew, and what it drained for stays asked for (R279, R281).
Details: DEDUCED, log entry 72. -/
def State.relink (s : State) (p : Nat) : State :=
  let retrain := (s.pt p).drain == .retrain
  let disable := (s.pt p).drain == .disable
  let s := s.retrain p
  if disable then (s.portIdle p).setPort p Port.off
  else if retrain then s.setPt p { s.pt p with drain := .retrain } else s

/-- A drain begins (R281): the partner is told. Details: DEDUCED, log entry 71. -/
def State.startDrain (s : State) (p : Nat) (d : DrainFor) (handle : Option Nat) : State :=
  let s := s.setPt p { s.pt p with drain := d, handle := handle }
  (s.setPort p Port.draining).send .drainNotice p [] []

/-! ## Link frames (R278, R279) -/

/-- The CRC-32 of a link frame: over its sequence number, the acknowledgement it carries and its data (R278).
Details: DESIGN CHOICE, log entry 102. -/
def frameCrc (seq ack : Nat) (data : Bytes) : Nat := crc32 (natLE 2 seq ++ natLE 2 ack ++ data)

/-- Put a frame on the link with the acknowledgement in force and its CRC-32. -/
def State.frameSend (s : State) (p seq : Nat) (data : Bytes) : State :=
  let ack := (s.pt p).rxSeq
  s.send .linkFrame p [seq, ack, frameCrc seq ack data] data

/-- A frame leaves on a port: numbered, kept in the replay buffer, counted. -/
def State.frameOut (s : State) (p : Nat) (data : Bytes) : State :=
  let x := s.pt p
  let s := s.setPt p { x with txSeq := (x.txSeq + 1) % 4096, replay := x.replay ++ [(x.txSeq, data)] }
  (s.incw (F.PORT_TX_BYTES_BYTES p) data.length).frameSend p x.txSeq data

/-- Whether the replay buffer of 512 KiB takes one more frame, and the 12-bit number still tells it from the oldest (R278).
Details: DESIGN CHOICE, log entry 102. -/
def PortState.room (x : PortState) (n : Nat) : Bool :=
  (x.replay.map (fun f => f.2.length)).sum + n ≤ 512 * 1024 && x.replay.length < 2047

/-- Deficit round robin (R296, R318): the share in front begins its turn with its quantum, sends while its deficit covers its next
frame, and then goes behind the others; one with nothing left leaves with its deficit. Answers the next frame. -/
def drr {α : Type} (quantum : α → Nat) (front : α → Option (Bytes × α)) :
    Nat → List (Turn × α) → Option (Bytes × List (Turn × α))
  | 0, _ => none
  | _ + 1, [] => none
  | k + 1, (t, q) :: r =>
    match front q with
    | none => drr quantum front k r
    | some (f, rest) =>
      let d := if t.on then t.deficit else t.deficit + quantum q
      if f.length ≤ d then some (f, if (front rest).isNone then r else (⟨d - f.length, true⟩, rest) :: r)
      else drr quantum front k (r ++ [(⟨d, false⟩, q)])

/-- Turns within which a quantum of at least 4,608 bytes covers the longest frame of `n` shares. -/
def drrTurns (n longest : Nat) : Nat := n * (longest / 4608 + 2)

def ChunkQueue.front (q : ChunkQueue) : Option (Bytes × ChunkQueue) :=
  match q.frames with
  | [] => none
  | f :: r => some (f, { q with frames := r })

/-- The longest frame among lists. -/
def longest (l : List (List Bytes)) : Nat := (l.map (fun fs => (fs.map List.length).foldl max 0)).foldl max 0

/-- Quantum of a group's chunks, 4,608 × WEIGHT bytes, and of the fields', 4,608 × COLL_FIELD_WEIGHT bytes (R318). -/
def State.chunkQuantum (s : State) (q : ChunkQueue) : Nat :=
  4608 * max 1 (if q.group = 16 then s.rd F.COLL_FIELD_WEIGHT_WEIGHT else s.rd (F.COLL_GRP_SEQ_WEIGHT q.group))

/-- The next frame of a tag's traffic; a chunk's place is filled in the turns of the chunks' shares (R318). -/
def State.tagFront (s : State) (q : PortQueue) : Option (Bytes × PortQueue) :=
  match q.frames with
  | [] => none
  | f :: r =>
    let next := drr s.chunkQuantum ChunkQueue.front (drrTurns q.chunks.length (longest (q.chunks.map (·.2.frames)))) q.chunks
    match f.isEmpty, next with
    | true, some (c, cs) => some (c, { q with frames := r, chunks := cs })
    | _, _ => some (f, { q with frames := r })

/-- The next frame of a port, each tag with an equal quantum (R296). -/
def State.portFront (s : State) (l : List (Turn × PortQueue)) : Option (Bytes × List (Turn × PortQueue)) :=
  drr (fun _ => 4608) s.tagFront
    (drrTurns l.length (longest (l.flatMap (fun q => q.2.frames :: q.2.chunks.map (·.2.frames))))) l

/-- A port that carries requests sends one waiting frame: ticks and link control go at once, before it (R280, R296).
Details: DESIGN CHOICE, log entry 100. -/
def State.servePort (s : State) (p : Nat) : State :=
  let x := s.pt p
  if !(s.portState p == Port.up || s.portState p == Port.draining) then s
  else match s.portFront x.queue with
    | none => s
    | some (f, queue) => if x.room f.length then (s.setPt p { x with queue := queue }).frameOut p f else s

/-- Every port sends its next frame. Details: DESIGN CHOICE, log entry 100. -/
def State.servePorts (s : State) : State := forEach (List.range 10) s (fun p s => s.servePort p)

/-- Whether sequence a lies before b, modulo 4,096. Details: DEDUCED, log entry 72. -/
def seqBefore (a b : Nat) : Bool := (b + 4096 - a) % 4096 - 1 < 2047 && a != b

/-- The receiver's acknowledgement releases every frame before `ack`. Details: DEDUCED, log entry 72. -/
def State.frameAck (s : State) (p ack : Nat) : State :=
  let x := s.pt p
  let kept := x.replay.filter (fun f => !seqBefore f.1 ack)
  s.setPt p { x with replay := kept, replays := if kept.length < x.replay.length then 0 else x.replays }

/-- What the FEC of a port found in a frame (Table 12.22): symbols it corrected, and a frame it could not correct. -/
def State.fecFound (s : State) (p fixed : Nat) (failed : Bool) : State :=
  let s := s.incw (F.PORT_FEC_CORRECTED p) fixed
  if failed then s.inc (F.PORT_FEC_UNCORRECTED p) else s

/-- A frame as it leaves the FEC decoder: a good one in order is delivered once, and a good one that came before is discarded.
Any other is discarded and a replay requested from the frame expected; until that frame comes only its own failure asks again
(R278). Details: DEDUCED, log entry 72. -/
def State.frameIn (s : State) (p seq ack : Nat) (good : Bool) (data : Bytes) : State :=
  let x := s.pt p
  if good && seq == x.rxSeq then
    let s := s.frameAck p ack
    let s := s.setPt p { s.pt p with rxSeq := (x.rxSeq + 1) % 4096, asked := false }
    s.incw (F.PORT_RX_BYTES_BYTES p) data.length
  else if good && seqBefore seq x.rxSeq then s
  else if x.asked && (good || seq != x.rxSeq) then s
  else (s.setPt p { x with asked := true }).send .replayRequest p [x.rxSeq] []

/-- Whether the link of a port carries frames or link control (Table 12.3). -/
def State.linked (s : State) (p : Nat) : Bool :=
  let st := s.portState p
  st == Port.up || st == Port.draining || st == Port.drained || st == Port.held

/-- LINK_FRAME_ARRIVAL: `fixed` symbols were corrected in the frame, `fecFail` says that it fails its FEC, and `crc` is the CRC-32
it carries (R278). Details: DEDUCED, log entry 72. -/
def execLinkFrameArrival (p : Fin 10) (seq ack : Fin 4096) (fixed : Nat) (fecFail : Bool) (crc : Nat) (data : Bytes) (s : State) :
    Out :=
  if !s.linked p then ok s
  else ok ((s.fecFound p fixed fecFail).frameIn p seq ack (crc == frameCrc seq ack data && !fecFail) data)

/-- The sender's side of a replay request: every frame kept is sent again; at the ninth request for one frame the port retrains
(R278, R279). Details: DEDUCED, log entry 72. -/
def State.replayFrom (s : State) (p seq : Nat) : State :=
  let s := s.frameAck p seq
  let x := s.pt p
  if x.replay.isEmpty then s
  else if 8 ≤ x.replays then s.relink p
  else
    let s := (s.setPt p { x with replays := x.replays + 1 }).inc (F.PORT_COUNTS_LINK_REPLAYS p)
    x.replay.foldl (fun s f => s.frameSend p f.1 f.2) s

/-- DRAIN_NOTICE: the partner drains, and the port drains its own end (R281). -/
def execDrainNotice (p : Fin 10) (s : State) : Out :=
  if s.portState p == Port.up then ok (s.startDrain p .drain none) else ok s

/-! ## Port commands (R283) -/

def portSel (k : Nat) (q : Sub) : Bool := q.p 1 1 == k || (k == 0 && q.p 1 1 > 4)

/-- The first rows of Table 12.4: parameters, then a drain or retrain in progress. -/
def portBad (q : Sub) : Bool :=
  let p := q.p 0 1
  p > 9 || q.p 1 1 > 4 || q.p 2 1 > 1 || q.p 3 1 > (if p < 8 then 5 else 1)

def State.portBusy (s : State) (p : Nat) : Bool :=
  s.portState p == Port.draining || (s.pt p).drain == .retrain || (s.pt p).handle.isSome

/-- A drain of port 0–5 that would leave fewer than 4 of them UP. Details: DEDUCED, log entry 71. -/
def State.drainRefused (s : State) (p : Nat) : Bool :=
  p < 6 && ((s.portsUp.filter (fun k => k < 6 && k != p)).length < 4)

/-- PORT_CONTROL: the rows of Table 12.4, then the operation; the reply carries PORTn_STATUS.
Details: DEDUCED, log entry 71. -/
def State.portControl (s : State) (op : Nat) (f : Nat → Sub → State → State) : Out :=
  s.withSub Op.portControl (portSel op) (fun q s =>
    let p := q.p 0 1
    let done := fun (s : State) => s.short q St.ok (natLE 8 (s.rdReg (R.PORT_STATUS p)))
    if portBad q then s.short q St.badParam []
    else if s.portBusy p then s.short q St.busy []
    else if (op == 1 || op == 2) && s.drainRefused p then s.short q St.badParam []
    else done (f p q s))

/-- UNDRAIN: a DRAINED port returns to UP (R283); one that never trained trains, or waits for its cable.
Details: DEDUCED, log entry 71. -/
def State.undrain (s : State) (p : Nat) : State :=
  if s.portState p != Port.drained then s
  else if s.rd (F.PORT_STATUS_LANES_TRAINED p) != 0 then s.setPort p Port.up
  else if s.flag (F.PORT_CABLE_PRESENT p) then s.startTraining p
  else s.setPort p Port.wait

/-- Details: DEDUCED, log entries 13, 71. -/
def execPortEnable (s : State) : Out :=
  s.portControl 0 (fun p _ s =>
    if s.flag (F.PORT_STATUS_ENABLED p) then s
    else (s.wr (F.PORT_STATUS_ENABLED p) 1).setPort p Port.wait)

/-- Details: DEDUCED, log entry 71. -/
def execPortDisable (s : State) : Out :=
  s.portControl 1 (fun p _ s =>
    let s := s.wr (F.PORT_STATUS_ENABLED p) 0
    if s.portState p == Port.up then s.startDrain p .disable none else (s.portIdle p).setPort p Port.off)

/-- Details: DEDUCED, log entry 71. -/
def execPortDrain (s : State) : Out :=
  s.portControl 2 (fun p _ s =>
    if s.portState p == Port.up then s.startDrain p .drain none
    else if s.portState p == Port.train || s.portState p == Port.wait then (s.portIdle p).setPort p Port.drained
    else s)

/-- Details: DEDUCED, log entry 71. -/
def execPortUndrain (s : State) : Out := s.portControl 3 (fun p _ s => s.undrain p)

def execPortPolicy (s : State) : Out :=
  s.portControl 4 (fun p q s =>
    (s.wr (F.PORT_STATUS_FEC_FORCE_STD p) (q.p 2 1)).wr (F.PORT_STATUS_MODE_FLOOR p) (q.p 3 1))

/-- The completion of a PORT_RETRAIN (R284, Table 16.9). Details: DEDUCED, log entry 71. -/
def State.retrainDone (s : State) (p handle : Nat) : State :=
  let good := s.portState p == Port.up && s.rd (F.PORT_STATUS_MODE p) == 0
  s.complete handle (if good then St.ok else St.portDegraded)
    (s.rd (F.PORT_STATUS_MODE p) + s.rd (F.PORT_STATUS_LANES_TRAINED p) * 2 ^ 8 + 2 ^ 16 * s.rd (F.PORT_STATUS_FEC p)) []

/-- PORT_RETRAIN: refused as a DRAIN would be; else the port drains, then trains (R284).
Details: DEDUCED, log entry 71. -/
def execPortRetrain (s : State) : Out :=
  s.withSub Op.portRetrain (fun _ => true) (fun q s =>
    let p := q.p 0 1
    if p > 9 then s.refuse q St.badParam
    else if s.portBusy p then s.refuse q St.busy
    else if s.drainRefused p then s.refuse q St.badParam
    else
      let (s, h) := s.accept q
      if s.portState p == Port.up then s.startDrain p .retrain (some h)
      else if !s.flag (F.PORT_STATUS_ENABLED p) then s.retrainDone p h
      else
        let s := s.startTraining p
        s.setPt p { s.pt p with handle := some h })

/-! ## Chunk headers (R308, R309) -/

/-- Poison mask bytes of n payload bytes. -/
def maskBytes (n : Nat) : Nat := (n + 63) / 64

/-- The check value of a chunk: CRC-64 over bytes 0–23, the payload and the mask.
Details: DESIGN CHOICE, log entry 70. -/
def chunkCheck (p : Bytes) : Nat := crc64 (sub p 0 24 ++ p.drop 32)

/-- Whether a chunk or control message carries its right check value. Details: DESIGN CHOICE, log entry 70. -/
def chunkOk (p : Bytes) : Bool := 32 ≤ p.length && fld p 24 8 == chunkCheck p

/-- A header of Table 13.6 with its check value. Details: DESIGN CHOICE, log entry 70. -/
def chunkMsg (kind group retry final inv stamp contrib chunk length origin : Nat) (body : Bytes) : Bytes :=
  let h := natLE 1 kind ++ natLE 1 group ++ natLE 1 (retry + 2 * final) ++ natLE 1 inv ++ natLE 5 stamp ++ natLE 3 contrib
    ++ natLE 4 chunk ++ natLE 4 length ++ natLE 4 origin
  h ++ natLE 8 (crc64 (h ++ body)) ++ body

/-- A control message that names the chunk of another header: ACK, CREDIT, REFETCH.
Details: DESIGN CHOICE, log entry 70. -/
def chunkReply (p : Bytes) (kind origin : Nat) : Bytes :=
  chunkMsg kind (fld p 1 1) 0 (fld p 2 1 / 2 % 2) (fld p 3 1) (fld p 4 5) 0 (fld p 12 4) 0 origin []

/-- TRANSIT_PACKET: forwarded, or discarded and counted (R287); a collective chunk that fails its check at this router is
discarded, and REFETCH goes to its sender's node and names the node it was going to (R310).
Details: DESIGN CHOICE, log entry 70. -/
def execTransitPacket (tag : Fin 65536) (ver : Fin 16) (dest src : Fin 32768) (chunk : Bool) (data : Bytes) (s : State) :
    Out :=
  if chunk && !chunkOk data then
    ok (s.sendPacket .collective tag ver src [fld data 1 1, dest] (chunkReply data 5 (fld data 20 3 % 2 ^ 17)))
  else
  match s.routeTo tag ver dest with
  | (s, .port p) => ok ((s.incw F.FAB_TRANSIT_BYTES_BYTES data.length).portSend p tag data)
  | (s, .here) => ok s
  | (s, _) => ok s.routeMiss

/-! ## Fabric plans (R291–R293) -/

/-- A fabric plan as parsed from its image (Table 12.6). -/
structure Plan where
  jobTag : Nat
  nodeId : Nat
  sets : List RouteSet
  relays : List Relay
  windows : List Bytes
  liveVer : Nat
  digest : Bytes
  image : Bytes
  deriving DecidableEq, Repr

/-- Length of a plan image from its header. -/
def planLength (h : Bytes) : Nat := 64 + 1216 * fld h 8 1 + 16 * fld h 9 1 + 32 * fld h 10 1

/-- Whether the header's own fields are right (Table 12.7, first row). Details: DEDUCED, log entry 69. -/
def planHeaderOk (h : Bytes) : Bool :=
  fld h 0 2 == 0x4650 && fld h 2 1 == 1 && fld h 3 1 == 0 && fld h 4 2 != 0 && fld h 6 2 < 32768
    && 1 ≤ fld h 8 1 && fld h 8 1 ≤ 16 && fld h 9 1 ≤ 8 && fld h 10 1 ≤ 64 && fld h 11 1 < 16 && allZero (sub h 12 20)

/-- Details: DEDUCED, log entry 69. -/
def parsePlan (b : Bytes) : Plan :=
  let n := fld b 8 1
  let r := fld b 9 1
  let tag := fld b 4 2
  let blk := fun i => sub b (64 + 1216 * i) 1216
  let rel := fun i => sub b (64 + 1216 * n + 16 * i) 16
  let ports := fun (x : Bytes) (off : Nat) => ((List.range 3).map (fun k => fld x (off + k) 1)).filter (· != 0xFF)
  { jobTag := tag
    nodeId := fld b 6 2
    sets := (List.range n).map (fun i =>
      ⟨tag, fld (blk i) 0 1 % 16, (List.range 512).map (fun k => fld (blk i) (64 + 2 * k) 2),
        (List.range 64).map (fun k => fld (blk i) (1088 + 2 * k) 2)⟩)
    relays := (List.range r).map (fun i =>
      ⟨tag, fld (rel i) 0 2, ports (rel i) 2, ports (rel i) 5, fld (rel i) 8 1, fld (rel i) 9 1⟩)
    windows := (List.range (fld b 10 1)).map (fun i => sub b (64 + 1216 * n + 16 * r + 32 * i) 32)
    liveVer := fld b 11 1 % 16
    digest := sub b 32 32
    image := b }

/-- Whether a route entry is well formed at an index (Table 12.5); `own` says that the index is this node's. -/
def entryOk (own : Bool) (e : Nat) : Bool :=
  let p := bits e 0 4
  let a := bits e 4 4
  (p ≤ 7 || (p == 0xE && own) || p == 0xF) && (a ≤ 7 || a == 0xF) && bits e 8 2 ≤ 1 && bits e 10 6 == 0

/-- Whether a Weir window is well formed (Table 11.5). -/
def windowOk (w : Bytes) : Bool :=
  fld w 2 1 < 4 && fld w 3 1 < 64 && fld w 4 2 < 512 && fld w 6 2 < 512 && fld w 8 8 < 2 ^ 48 && fld w 8 8 % 4096 == 0
    && fld w 16 8 < 2 ^ 48 && fld w 16 8 % 4096 == 0 && fld w 16 8 != 0 && allZero (sub w 24 8)

/-- The contents checks of Table 12.7 but NODE_ID. Details: DEDUCED, log entry 69. -/
def planContentsOk (b : Bytes) : Bool :=
  let pl := parsePlan b
  let n := fld b 8 1
  let own := pl.nodeId
  let parentsOk := fun (x : Bytes) => (List.range 6).all (fun k => fld x (2 + k) 1 ≤ 7 || fld x (2 + k) 1 == 0xFF)
  (pl.sets.map (·.ver)).eraseDups.length == pl.sets.length
    && pl.sets.any (·.ver == pl.liveVer)
    && (List.range n).all (fun i => fld b (64 + 1216 * i) 1 < 16 && allZero (sub b (65 + 1216 * i) 63))
    && pl.sets.all (fun st =>
      (List.range 512).all (fun k => entryOk (k == own % 512) (st.inPond.getD k 0))
      && (List.range 64).all (fun k => entryOk (k == own / 512) (st.ponds.getD k 0)))
    && (List.range (fld b 9 1)).all (fun i =>
      let r := sub b (64 + 1216 * n + 16 * i) 16
      parentsOk r && allZero (sub r 10 6))
    && pl.windows.all windowOk

/-- The digest of a structure whose 32-byte digest field at `off` counts as zero. -/
def digestOf (b : Bytes) (off : Nat) : Bytes := sha3_256 (patch b off (zeros 32))

/-- Read a plan at an address: BAD_PARAM, POISON_CONSUMED or DIGEST_MISMATCH, else the plan (Table 12.7, R487).
Details: DEDUCED, log entries 69, 98. -/
def State.planRead (s : State) (a : Nat) : Nat × Option Plan :=
  match s.structFault a planLength with
  | 0 =>
      let h := s.readBytes a 64
      let b := s.readBytes a (planLength h)
      if !planHeaderOk h || fld h 6 2 != s.nodeId || !planContentsOk b then (St.badParam, none)
      else if digestOf b 32 != sub b 32 32 then (St.digestMismatch, none)
      else (St.ok, some (parsePlan b))
  | st => (st, none)

/-- FAB_ROUTE_STORE follows the store (Table 12.11). -/
def State.showStore (s : State) : State :=
  let s := s.wr F.FAB_ROUTE_STORE_SETS s.net.sets.length
  let s := s.wr F.FAB_ROUTE_STORE_TAGS ((s.net.sets.map (·.jobTag)).eraseDups.length)
  s.wr F.FAB_ROUTE_STORE_RELAYS s.tb.relays.length

/-- The store's sets and relay entries after an install. -/
def setsWith (old : List RouteSet) (pl : Plan) : List RouteSet :=
  old.filter (fun x => !(x.jobTag == pl.jobTag && pl.sets.any (·.ver == x.ver))) ++ pl.sets
def relaysWith (old : List Relay) (pl : Plan) : List Relay := old.filter (·.jobTag != pl.jobTag) ++ pl.relays

/-- Details: DEDUCED, log entry 69. -/
def State.storeFull (s : State) (pl : Plan) : Bool :=
  let sets := setsWith s.net.sets pl
  sets.length > 256 || (sets.filter (·.jobTag == pl.jobTag)).length > 16
    || (relaysWith s.tb.relays pl).length > 8

/-- The image goes to the Keep's cache, most recent first; a worn region skips the write (R293).
Details: DEDUCED, log entry 69. -/
def State.cachePlan (s : State) (image : Bytes) : State :=
  if s.isWorn 5 then s.ev F.FAB_EVENTS_CACHE_SKIPPED
  else
    let l := (image :: s.net.cache.filter (· != image)).take 8
    { s with net := { s.net with cache := l } }.keepAppend 5 l.flatten

/-- Install a plan's route sets and relay entries (R292). Details: DEDUCED, log entry 69. -/
def State.installPlan (s : State) (pl : Plan) : State :=
  let s := { s with
    net := { s.net with sets := setsWith s.net.sets pl }
    tb := { s.tb with relays := relaysWith s.tb.relays pl } }
  s.showStore.cachePlan pl.image

/-- Remove every route set and relay entry of a tag (R292, R295). Details: DEDUCED, log entry 69. -/
def State.removePlan (s : State) (tag : Nat) : State :=
  let s := { s with
    net := { s.net with
      sets := s.net.sets.filter (·.jobTag != tag)
      lastPort := s.net.lastPort.filter (fun x => x.1 / 2 ^ 19 != tag) }
    tb := { s.tb with relays := s.tb.relays.filter (·.jobTag != tag) } }
  s.showStore

/-- Whether a set is live or armed for this node's admitted job. Details: DEDUCED, log entry 69. -/
def State.setInUse (s : State) (tag ver : Nat) : Bool :=
  s.admitted && s.liveTag == tag &&
    (s.liveVer == ver || (s.flag F.FAB_ROUTE_LIVE_ARMED && s.rd F.FAB_ROUTE_LIVE_ARMED_VER == ver))

/-- A JOB_ADMIT or JOB_RELEASE is in progress. -/
def State.jobChanging (s : State) : Bool :=
  match s.job with
  | some j => j.admitting.isSome || j.releasing.isSome
  | none => false

/-- Details: DEDUCED, log entries 13, 69. -/
def execFabricPlanInstall (s : State) : Out :=
  s.withSub Op.fabricPlanLoad (fun q => q.p 0 1 != 1) (fun q s =>
    if q.p 0 1 > 1 || q.p 2 2 = 0 then s.longNow q St.badParam 0 []
    else match s.planRead (q.p 8 8) with
      | (st, none) => s.longNow q st 0 []
      | (_, some pl) =>
        if pl.jobTag != q.p 2 2 then s.longNow q St.badParam 0 []
        else if s.storeFull pl then s.longNow q St.badParam 0 []
        else if s.jobChanging || pl.sets.any (fun x => s.setInUse x.jobTag x.ver) then s.longNow q St.busy 0 []
        else (s.installPlan pl).longNow q St.ok 0 pl.digest)

/-- Details: DEDUCED, log entry 69. -/
def execFabricPlanRemove (s : State) : Out :=
  s.withSub Op.fabricPlanLoad (fun q => q.p 0 1 == 1) (fun q s =>
    let tag := q.p 2 2
    if tag = 0 then s.longNow q St.badParam 0 []
    else if s.jobChanging || s.net.sets.any (fun x => x.jobTag == tag && s.setInUse tag x.ver)
    then s.longNow q St.busy 0 []
    else (s.removePlan tag).longNow q St.ok 0 [])

/-- ROUTE_SWAP (R295). Details: DEDUCED, log entry 69. -/
def execRouteSwap (s : State) : Out :=
  s.withSub Op.routeSwap (fun _ => true) (fun q s =>
    let tag := q.p 0 2
    let ver := q.p 2 1
    if !s.admitted || s.liveTag != tag || !s.net.sets.any (fun x => x.jobTag == tag && x.ver == ver) then
      s.short q St.badParam []
    else if s.flag F.FAB_ROUTE_LIVE_ARMED then s.short q St.busy []
    else
      let b := s.boundStep
      let s := (s.wr F.FAB_ROUTE_LIVE_ARMED 1).wr F.FAB_ROUTE_LIVE_ARMED_VER ver
      (s.wr F.FAB_ROUTE_ARM_STEP_STEP b).short q St.ok (natLE 8 b))

/-- An armed route version becomes live at its boundary (R295). Details: DEDUCED, log entry 69. -/
def State.routeBoundary (s : State) (step : Nat) : State :=
  if s.flag F.FAB_ROUTE_LIVE_ARMED && s.rd F.FAB_ROUTE_ARM_STEP_STEP ≤ step then
    ((s.wr F.FAB_ROUTE_LIVE_LIVE_VER (s.rd F.FAB_ROUTE_LIVE_ARMED_VER)).wr F.FAB_ROUTE_LIVE_ARMED 0).ev
      F.FAB_EVENTS_ROUTE_SWAPPED
  else s

end Sys2Proof.Machine
end

