-- ==== Sys2Proof/Machine/Fabric.lean ====
section
/-! DEFINITION. Fabric memory semantics (chapter 11): sources and their requests, outcomes, the home with its replay window
and hot lines, and the Weir. -/

namespace Sys2Proof.Machine

open Sys2Proof

/-! ## Kinds (Table 11.3) -/

def Kind.read : Nat := 0
def Kind.write : Nat := 1
def Kind.mop : Nat := 2
def Kind.bulkGet : Nat := 3
def Kind.bulkPut : Nat := 4
def Kind.ack : Nat := 5

/-- Write-type requests carry a SEQ (R255). -/
def writeType (k : Nat) : Bool := k == Kind.write || k == Kind.mop || k == Kind.bulkPut

/-- The engine that issues for a spire, and for a Dome hart (Table 11.1). Details: DEDUCED, log entry 66. -/
def spireEngine (n : Nat) : Nat := n / 18
/-- Details: DEDUCED, log entry 66. -/
def hartEngine (h : Nat) : Nat := 16 + h / 16

/-! ## The source's table (R246, R251, R255) -/

def State.outTo (s : State) (engine dest : Nat) : List Req :=
  s.fab.reqs.filter (fun r => r.engine == engine && r.dest == dest)

/-- OUTSTANDING and PEAK of an engine (Table 11.15). -/
def State.showRae (s : State) (e : Nat) : State :=
  if 20 ≤ e then s
  else
    let n := (s.fab.reqs.filter (fun r => r.engine == e)).length
    (s.wr (F.FAB_RAE_OUT_OUTSTANDING e) n).wr (F.FAB_RAE_OUT_PEAK e) (max n (s.rd (F.FAB_RAE_OUT_PEAK e)))

/-- An engine that holds 768 requests takes no more (R246). -/
def State.engineFull (s : State) (e : Nat) : Bool := 768 ≤ (s.fab.reqs.filter (fun r => r.engine == e)).length

def seqKey (engine dest : Nat) : Nat := 2 ^ 15 * engine + dest
/-- Details: DEDUCED, log entry 66. -/
def State.nextSeq (s : State) (engine dest : Nat) : Nat := mget s.fab.seqs (seqKey engine dest) 0

/-- ACK_SEQ: the lowest SEQ to the destination whose reply is lacking, else the next SEQ (Table 11.3).
Details: DEDUCED, log entry 66. -/
def State.ackSeq (s : State) (engine dest : Nat) : Nat :=
  match ((s.outTo engine dest).filter (fun r => writeType r.kind)).map (·.seq) with
  | [] => s.nextSeq engine dest
  | q :: _ => q

/-- The packet of a request: header, payload, CRC-64 (R249). -/
def State.reqPacket (s : State) (r : Req) (retry : Bool) : Bytes :=
  let b := natLE 1 r.kind ++ natLE 1 (r.hint + 4 * b2n retry) ++ natLE 2 r.mop ++ natLE 1 r.ver ++ natLE 1 r.sizeLog2
    ++ natLE 2 s.liveTag ++ natLE 8 r.addr ++ natLE 4 (s.nodeId * 32 + r.engine) ++ natLE 4 r.seq
    ++ natLE 4 (s.ackSeq r.engine r.dest) ++ natLE 4 r.tag ++ r.data
  b ++ natLE 8 (crc64 b)

/-- A request leaves on its route; its poison marks travel beside it (R241). Details: DEDUCED, log entry 66. -/
def State.sendReq (s : State) (r : Req) (retry : Bool) : State :=
  s.sendPacket .fabricRequest s.liveTag r.ver r.dest [r.poison] (s.reqPacket r retry)

/-- Bytes a request reads or writes at its home. -/
def Req.bytes (r : Req) : Nat := 2 ^ r.sizeLog2

/-- Whether a write-type request issued before `r` to the same bytes is outstanding: a READ waits for it (R252).
Details: DEDUCED, log entry 66. -/
def State.readWaits (s : State) (r : Req) : Bool :=
  r.kind == Kind.read && ((s.outTo r.engine r.dest).takeWhile (fun x => x.tag != r.tag)).any (fun x =>
    writeType x.kind && overlaps r.addr r.bytes x.addr x.bytes)

/-- Send the READs that nothing before them holds back any more. Details: DEDUCED, log entry 66. -/
def State.releaseReads (s : State) : State :=
  (s.fab.reqs.filter (fun r => r.held && r.kind == Kind.read && !s.readWaits r)).foldl (fun s r =>
    ({ s with fab := { s.fab with
      reqs := s.fab.reqs.map (fun (x : Req) => if x.tag == r.tag then { x with held := false, sends := 1 } else x) } }).sendReq r
        false) s

/-! ## Outcomes (R260–R262) -/

/-- The value a dead load returns: bytes of 0x7FF4_DEAD_DEAD_DEAD at their offset in each aligned word (R261). -/
def deadByte (a : Nat) : Byte := BitVec.ofNat 8 (0x7FF4DEADDEADDEAD >>> (8 * (a % 8)))
def deadBytes (a n : Nat) : Bytes := (List.range n).map (fun i => deadByte (a + i))

/-- The events of a concluded request (Table 11.9). -/
def State.semEvent (s : State) (status : Nat) : State :=
  if status == St.targetDead then s.ev F.FAB_SEM_EVENTS_TARGET_DEAD
  else if status == St.atomicIndeterminate then s.ev F.FAB_SEM_EVENTS_ATOMIC_INDET
  else if status == St.addressRefused then s.ev F.FAB_SEM_EVENTS_REFUSED
  else if status == St.nodeResetting then s.ev F.FAB_SEM_EVENTS_RESETTING
  else if status == St.weirUnmapped then s.ev F.FAB_SEM_EVENTS_WEIR_UNMAPPED
  else s

/-- The MSI of a Dome source (R262, Table 11.10). -/
def State.semMsi (s : State) : State :=
  if s.flag F.FAB_SEM_MSI_ENABLE then s.msi (s.rd F.FAB_SEM_MSI_HART) (s.rd F.FAB_SEM_MSI_EIID) else s

/-- A posted failure is recorded (R262, Table 11.11). -/
def State.postedFail (s : State) (engine dest addr status : Nat) : State :=
  ((s.wrReg R.FAB_LAST_FAIL (status + 2 ^ 16 * engine + 2 ^ 21 * dest)).wrReg R.FAB_LAST_FAIL_ADDR addr).ev
    F.FAB_SEM_EVENTS_POSTED_FAIL

/-- The entry a spire core runs takes the status of its posted failure, as the core's (R262). -/
def State.postToEntry (s : State) (n : Nat) (entry : Option Nat) (status : Nat) : State :=
  if (s.sp n).entry == entry then s.partFails n 0 status else s

/-- Data reaches a spire core's register: poison raises a hardware error (R241); else the core goes on. -/
def State.coreData (s : State) (n rd size : Nat) (sgn : Bool) (addr : Nat) (data : Bytes) (poison : Bool) : State :=
  match (s.sp n).wait with
  | .remote =>
    let s := (s.setSp n { s.sp n with wait := .none }).setCore n 1
    if poison then s.coreTrap n Cause.hardware 0 addr else s.coreNext n rd (loadValue size sgn (leNat data))
  | _ => s

def State.hartData (s : State) (h rd size : Nat) (sgn : Bool) (addr : Nat) (data : Bytes) (poison : Bool) : State :=
  match (s.hart h).remote with
  | some _ =>
    let s := s.setHart h { s.hart h with remote := none }
    if poison then s.hartTrap h Cause.hardware addr else s.hartNext h rd (domeValue rd size sgn (leNat data))
  | none => s

/-- Bytes that begin at an address, with the poison marks of their 8-byte words. -/
def markCells (addr : Nat) (data : Bytes) (poison : Nat) : List (Byte × Bool) :=
  (List.range data.length).map (fun i => (data.getD i 0, bit poison ((addr % 8 + i) / 8)))

/-- The poison marks of bytes that begin at an address, by 8-byte word. -/
def cellMarks (addr : Nat) (cs : List (Byte × Bool)) : Nat :=
  maskOf ((List.range ((addr % 8 + cs.length + 7) / 8)).filter (fun w =>
    (List.range cs.length).any (fun i => (addr % 8 + i) / 8 == w && (cs.getD i (0, false)).2)))

/-- The outcome of a unit's access: what it waits for, or, for a mover whose put was left behind, the status that its descriptor
takes (R122, Table 11.4). -/
def State.unitGot (s : State) (n : Nat) (vec : Bool) (status : Nat) (cells : List (Byte × Bool)) : State :=
  let x := s.sp n
  if vec then
    match x.sv with
    | some r => if r.acc == .out then s.setSp n { x with sv := some { r with acc := .got status cells } } else s
    | none => s
  else match x.mover with
    | some r =>
      let w := r.walk
      if w.acc == .out then s.setSp n { x with mover := some { r with walk := { w with acc := .got status cells } } }
      else if isSuccess status || w.dead != 0 then s
      else s.setSp n { x with mover := some { r with walk := { w with dead := status } } }
    | none => s

/-- A store or post operation has been performed at home, or concluded with a failure already recorded (R226, R262). -/
def State.storeEnd (s : State) (status : Nat) (w : Waiter) : State :=
  match w with
  | .corePost n entry => (if isSuccess status then s else s.postToEntry n entry status).corePart n
  | .hartPost _ => if isSuccess status then s else s.semMsi
  | .unit n vec => s.unitGot n vec status []
  | _ => s

/-- What a waiting load, fetch, store, post operation or unit sees; `poison` marks the 8-byte words of the data (Table 11.4).
Details: DEDUCED, log entry 66. -/
def State.conclude (s : State) (engine dest addr status : Nat) (w : Waiter) (data : Bytes) (poison : Nat) : State :=
  let dead := status == St.targetDead || status == St.atomicIndeterminate
  match w with
  | .core n rd size sgn amo =>
    if isSuccess status then s.coreData n rd size sgn addr data (poison != 0)
    else if status == St.residueMismatch then
      (s.postToEntry n (s.sp n).entry status).coreData n rd size sgn addr data true
    else if dead then s.coreData n rd size sgn addr (deadBytes addr size) false
    else match (s.sp n).wait with
      | .remote => s.coreTrap n (if amo then Cause.store else Cause.load) 0 addr
      | _ => s
  | .corePost .. => (if isSuccess status then s else s.postedFail engine dest addr status).storeEnd status w
  | .hart h rd size sgn amo =>
    if isSuccess status then s.hartData h rd size sgn addr data (poison != 0)
    else if status == St.residueMismatch then s.hartData h rd size sgn addr data true
    else if dead then (s.hartData h rd size sgn addr (deadBytes addr size) false).semMsi
    else match (s.hart h).remote with
      | some _ => s.hartTrap h (if amo then Cause.store else Cause.load) addr
      | none => s
  | .hartPost _ => (if isSuccess status then s else s.postedFail engine dest addr status).storeEnd status w
  | .unit n vec => s.unitGot n vec status (markCells addr data poison)
  | .weir .. => s
  | .gone => s

/-! ## The Weir's blocks (R267) -/

def weirBlockBytes : Nat := 4096

def State.wblock (s : State) (node base : Nat) (put : Bool) : Option WeirBlock :=
  s.fab.blocks.find? (fun b => b.node == node && b.base == base && b.put == put && !b.dropped)

/-- The block in use at a place, dropped. Details: DEDUCED, log entry 68. -/
def State.dropBlock (s : State) (node base : Nat) (put : Bool) : State :=
  { s with fab := { s.fab with
    blocks := s.fab.blocks.filter (fun b => !(b.node == node && b.base == base && b.put == put && !b.dropped)) } }

/-- Replace a block and make it the most recently used. Details: DEDUCED, log entry 68. -/
def State.putBlock (s : State) (b : WeirBlock) : State :=
  let s := s.dropBlock b.node b.base b.put
  { s with fab := { s.fab with blocks := b :: s.fab.blocks } }

/-- Poison marks of a block after bytes with marks are stored at an offset: a word stored whole takes its own mark (R241). -/
def patchMarks (old off : Nat) (cs : List (Byte × Bool)) : Nat :=
  let new := cellMarks off cs
  maskOf ((List.range 512).filter (fun w =>
    if off < 8 * w + 8 && 8 * w < off + cs.length then
      bit new (w - off / 8) || (bit old w && !wholeWord off cs.length w)
    else bit old w))

/-- What a block's fetch brings: bytes stored since then stay over it (R267). -/
def WeirBlock.fetched (b : WeirBlock) (data : Bytes) (poison : Nat) : WeirBlock :=
  { b with
    fetching := false, waiting := [], mask := 0
    data := (List.range weirBlockBytes).map (fun i => if bit b.mask i then b.data.getD i 0 else data.getD i 0)
    poison := maskOf ((List.range 512).filter (fun w =>
      let m := bits b.mask (8 * w) 8
      (bit b.poison w && m != 0) || (bit poison w && m != 0xFF))) }

/-- Bytes and poison marks a load sees in a block: a put block of the same 4 KiB overlays the read data (R267).
Details: DEDUCED, log entry 68. -/
def State.blockBytes (s : State) (node base off n : Nat) (rb : WeirBlock) : Bytes × Nat :=
  let pb := s.wblock node base true
  let masked := fun i => match pb with | some b => bit b.mask i | none => false
  let cells := (List.range n).map (fun k =>
    let i := off + k
    match pb with
    | some b => if masked i then (b.data.getD i 0, bit b.poison (i / 8)) else (rb.data.getD i 0, bit rb.poison (i / 8))
    | none => (rb.data.getD i 0, bit rb.poison (i / 8)))
  (cells.map (·.1), cellMarks off cells)

/-! ## Issue and conclusion -/

/-- A request is new at its engine: numbered, tabled, and sent unless BACKOFF or R252 holds it back (R246, R249–R252, R255, R259).
Details: DEDUCED, log entry 66. -/
def State.table (s : State) (engine dest ver addr kind hint mop sizeLog2 : Nat) (data : Bytes) (poison : Nat) (w : Waiter)
    (carry : List (Waiter × Nat × Nat)) : State :=
  let seq := s.nextSeq engine dest
  let r : Req :=
    { engine := engine, dest := dest, kind := kind, hint := hint, mop := mop, ver := ver, sizeLog2 := sizeLog2, addr := addr,
      seq := if writeType kind then seq else 0, tag := s.fab.nextTag, data := data, poison := poison, sends := 0, held := false,
      bound := s.rd F.FAB_DEAD_BOUND_BOUND_US, waiter := w, carry := carry }
  let held := (writeType kind && s.fab.holds.any (fun h => h.1 == engine && h.2.1 == dest)) || s.readWaits r
  let r := { r with held := held, sends := if held then 0 else 1 }
  let s := { s with fab := { s.fab with
    reqs := s.fab.reqs ++ [r]
    nextTag := (s.fab.nextTag + 1) % 2 ^ 32
    seqs := if writeType kind then mput s.fab.seqs (seqKey engine dest) ((seq + 1) % 2 ^ 32) else s.fab.seqs
    owed := s.fab.owed.filter (· != seqKey engine dest) } }
  let s := s.showRae engine
  if held then s else s.sendReq r false

/-- The version a request to a node is issued under: that of the requests outstanding to it, else the live one (R251). -/
def State.issueVer (s : State) (engine dest : Nat) : Nat :=
  match s.outTo engine dest with | r :: _ => r.ver | [] => s.liveVer

/-- Those whose stores a put carries see its outcome; a failure is recorded once, for the put (R262, R268). -/
def State.putEnd (s : State) (engine dest addr status : Nat) (owners : List (Waiter × Nat × Nat)) : State :=
  let s := if isSuccess status then s else s.postedFail engine dest addr status
  owners.foldl (fun s c => s.storeEnd status c.1) s

/-- The loads that waited for a block's BULK_GET are served from it, and the block stays unless it was discarded meanwhile (R267,
R268). -/
def State.getEnd (s : State) (engine tag status : Nat) (data : Bytes) (poison : Nat) : State :=
  match s.fab.blocks.find? (fun b => b.fetching && b.tag == tag) with
  | none => s
  | some b =>
    let nb := b.fetched data poison
    let rest := s.fab.blocks.filter (fun x => !(x.fetching && x.tag == tag))
    let keep := isSuccess status && !b.dropped
    let s := { s with fab := { s.fab with blocks := if keep then nb :: rest else rest } }
    b.waiting.foldl (fun s (w, addr, n) =>
      let (bs, p) := s.blockBytes b.node b.base (addr % 2 ^ 48 - b.base) n nb
      s.conclude engine b.node addr status w bs p) s

/-- The outcome of a request reaches its waiter and, of a paired write, the other member's (Table 11.4, R424). -/
def State.told (s : State) (r : Req) (status : Nat) (data : Bytes) (poison : Nat) : State :=
  match r.waiter with
  | .weir _ _ =>
    if r.kind == Kind.bulkGet then s.getEnd r.engine r.tag status data poison
    else s.putEnd r.engine r.dest r.addr status r.carry
  | w =>
    let s := s.conclude r.engine r.dest r.addr status w data poison
    r.carry.foldl (fun s c => s.storeEnd status c.1) s

/-- Bulk transfers outstanding at a Weir engine. -/
def State.bulkOut (s : State) (engine : Nat) : Nat :=
  (s.fab.reqs.filter (fun r => r.engine == engine && (r.kind == Kind.bulkGet || r.kind == Kind.bulkPut))).length

/-- The Weir engine that serves a 4 KiB block (Table 11.1). Details: DEDUCED, log entry 66. -/
def weirEngine (base : Nat) : Nat := 20 + base / 4096 % 4

/-- A fabric address from node and local parts. -/
def fabricAddr (node loc : Nat) : Nat := 2 ^ 63 + 2 ^ 48 * node + loc

/-- The BULK_PUT of a block leaves the buffers (R268); an unreachable destination concludes it at once (R260).
Details: DEDUCED, log entry 68. -/
def State.issuePut (s : State) (b : WeirBlock) : State :=
  let s := s.dropBlock b.node b.base true
  let e := weirEngine b.base
  let a := fabricAddr b.node b.base
  let ver := s.issueVer e b.node
  if s.lookup s.liveTag ver b.node == .unreachable then (s.semEvent St.targetDead).putEnd e b.node a St.targetDead b.waiting
  else s.table e b.node ver a Kind.bulkPut 1 0 12 (sub b.data 0 4096 ++ natLE 512 b.mask) b.poison (.weir b.node b.base) b.waiting

/-- A put block is flushed as one BULK_PUT with its byte mask (R268), once its engine has room for a transfer (R246).
Details: DEDUCED, log entry 68. -/
def State.flushBlock (s : State) (b : WeirBlock) : State :=
  if 64 ≤ s.bulkOut (weirEngine b.base) then s.putBlock { b with due := true } else s.issuePut b

/-- Blocks whose flush waited for room leave, the oldest first. Details: DEDUCED, log entry 68. -/
def State.flushDue (s : State) : State :=
  (s.fab.blocks.filter (fun b => b.put && b.due)).reverse.foldl (fun s b => s.flushBlock b) s

/-- A request concludes: it leaves its table, its events are set, its waiters see the outcome, and what waited behind it goes on. -/
def State.finishReq (s : State) (r : Req) (status : Nat) (data : Bytes) (poison : Nat) : State :=
  let s := { s with fab := { s.fab with reqs := s.fab.reqs.filter (fun x => x.tag != r.tag) } }
  ((((s.showRae r.engine).semEvent status).told r status data poison).releaseReads).flushDue

/-- Issue a request to a node: concluded at issue when its route is unreachable (R260). Details: DEDUCED, log entry 66. -/
def State.issue (s : State) (engine dest addr kind hint mop sizeLog2 : Nat) (data : Bytes) (poison : Nat) (w : Waiter)
    (carry : List (Waiter × Nat × Nat)) : State :=
  let ver := s.issueVer engine dest
  if s.lookup s.liveTag ver dest == .unreachable then
    let s := (s.semEvent St.targetDead).conclude engine dest addr St.targetDead w [] 0
    carry.foldl (fun s c => s.storeEnd St.targetDead c.1) s
  else s.table engine dest ver addr kind hint mop sizeLog2 data poison w carry

/-! ## The Weir (R265–R268) -/

/-- Flush every put block that a test selects. Details: DEDUCED, log entry 66. -/
def State.flushWhere (s : State) (sel : WeirBlock → Bool) : State :=
  (s.fab.blocks.filter (fun b => b.put && sel b)).foldl (fun s b => s.flushBlock b) s

/-- Flush every put block. Details: DEDUCED, log entry 66. -/
def State.flushPuts (s : State) : State := s.flushWhere (fun _ => true)

/-- Flush the put blocks that hold a store of the agents a test names (R268). -/
def State.flushOwned (s : State) (mine : Waiter → Bool) : State := s.flushWhere (fun b => b.waiting.any (fun c => mine c.1))

/-- Discard every read block whose data has come (R268). Details: DEDUCED, log entry 68. -/
def State.dropReads (s : State) : State :=
  { s with fab := { s.fab with blocks := s.fab.blocks.filter (fun b => b.put || b.fetching) } }

/-- Whether a put is on its way or held (R226, R370). -/
def State.putsOut (s : State) : Bool :=
  s.fab.blocks.any (·.put) || s.fab.reqs.any (fun r => r.kind == Kind.bulkPut)

/-- The block the Weir reuses next: the least recently used read block, else the oldest put block (R267).
Details: DEDUCED, log entry 68. -/
def State.victim (s : State) : Option WeirBlock :=
  match (s.fab.blocks.filter (fun b => !b.put && !b.fetching)).getLast? with
  | some b => some b
  | none => (s.fab.blocks.filter (fun b => b.put && !b.due)).getLast?

/-- Make room among the 1,024 buffers. Details: DEDUCED, log entry 68. -/
def State.weirRoom (s : State) : State :=
  if s.fab.blocks.length < 1024 then s
  else match s.victim with
    | some b => if b.put then s.flushBlock b else s.dropBlock b.node b.base false
    | none => s

/-- A load through a window: from its read block, or waiting for the block's one BULK_GET (R267).
Details: DEDUCED, log entry 68. -/
def State.weirLoad (s : State) (node loc n : Nat) (w : Waiter) : State :=
  let base := loc / 4096 * 4096
  let addr := fabricAddr node loc
  let e := weirEngine base
  match s.wblock node base false with
  | some b =>
    if b.fetching then s.putBlock { b with waiting := b.waiting ++ [(w, addr, n)] }
    else
      let s := s.putBlock b
      let (bs, p) := s.blockBytes node base (loc - base) n b
      s.conclude e node addr St.ok w bs p
  | none =>
    let s := s.weirRoom
    let ver := s.issueVer e node
    if s.lookup s.liveTag ver node == .unreachable then
      (s.semEvent St.targetDead).conclude e node addr St.targetDead w [] 0
    else
      let s := s.putBlock ⟨node, base, false, true, zeros 4096, 0, 0, [(w, addr, n)], false, s.fab.nextTag, false⟩
      s.table e node ver (fabricAddr node base) Kind.bulkGet 1 0 12 [] 0 (.weir node base) []

/-- Bytes stored into a block, its mask widened over them. -/
def WeirBlock.store (b : WeirBlock) (off : Nat) (cs : List (Byte × Bool)) : WeirBlock :=
  { b with
    data := patch (sub b.data 0 4096) off (cs.map (·.1))
    mask := b.mask ||| maskOf ((List.range cs.length).map (fun i => off + i))
    poison := patchMarks b.poison off cs }

/-- A store through a window: into the put block of its 4 KiB, which keeps who stored, and into the read block if one exists
(R267). Details: DEDUCED, log entry 68. -/
def State.weirStore (s : State) (node loc : Nat) (cs : List (Byte × Bool)) (owners : List Waiter) : State :=
  let base := loc / 4096 * 4096
  let off := loc - base
  let hold := fun (l : List (Waiter × Nat × Nat)) =>
    owners.foldl (fun l w => if l.any (fun c => c.1 == w) then l else l ++ [(w, fabricAddr node loc, cs.length)]) l
  let s := match s.wblock node base true with
    | some b => s.putBlock { b.store off cs with waiting := hold b.waiting }
    | none =>
      s.weirRoom.putBlock ((⟨node, base, true, false, zeros 4096, 0, 0, hold [], false, 0, false⟩ : WeirBlock).store off cs)
  match s.wblock node base false with
  | some b =>
    let b' := b.store off cs
    s.putBlock (if b.fetching then b' else { b' with mask := b.mask })
  | none => s

/-- A memory-side operation through a window: the put block is flushed, the operation sent alone, the read block discarded, and one
still fetched serves only the loads that wait (R267). Details: DEDUCED, log entry 68. -/
def State.weirMop (s : State) (node loc mop sizeLog2 : Nat) (data : Bytes) (w : Waiter) (carry : List (Waiter × Nat × Nat)) :
    State :=
  let base := loc / 4096 * 4096
  let s := match s.wblock node base true with
    | some b => s.issuePut b
    | none => s
  let s := match s.wblock node base false with
    | some b =>
      let t := s.dropBlock node base false
      if b.fetching then { t with fab := { t.fab with blocks := { b with dropped := true } :: t.fab.blocks } } else t
    | none => s
  s.issue (weirEngine base) node (fabricAddr node loc) Kind.mop 0 mop sizeLog2 data 0 w carry

/-- The status of an access to another pond: WEIR_UNMAPPED, ADDRESS_REFUSED or OK (R266). Details: DEDUCED, log entry 68. -/
def State.weirStatus (s : State) (node loc : Nat) (isWrite : Bool) : Nat :=
  match s.windowOf node loc with
  | none => St.weirUnmapped
  | some w => if isWrite && !bit (fld w 2 1) 1 then St.addressRefused else St.ok

/-- Whether a store of a core finds no window (R266): the one refusal that it takes as an exception and not as a posted failure
(Table 11.4). -/
def State.weirTraps (s : State) (t : Target) : Bool :=
  match t with
  | .weir node loc => s.weirStatus node loc true == St.weirUnmapped
  | _ => false

/-! ## Remote accesses of cores and units -/

/-- Where an access of a core or unit goes: here with its status, to another node, or nowhere (R21, R25).
Details: PRESUMED, log entry 49. -/
def State.coreTarget (s : State) (a n : Nat) (isWrite : Bool) : Target × Nat :=
  let t := s.target a
  (t, match t with
    | .here l => if !s.coreMay l n || (isWrite && (s.ctxHit l n).isSome) then St.addressRefused else St.ok
    | .self l => s.homeStatus l n isWrite
    | .bad => St.addressRefused
    | _ => St.ok)

/-- The local part of a target. -/
def Target.loc : Target → Nat
  | .here l => l
  | .self l => l
  | .pond _ l => l
  | .weir _ l => l
  | .bad => 0

def Target.remote : Target → Bool
  | .pond _ _ => true
  | .weir _ _ => true
  | _ => false

/-- A refused access sets the events of what it met: a reflection region, a sealed context, and under R25 rule 3 the outcome (R143,
R329, Table 11.9). -/
def State.noteRefusal (s : State) (t : Target) (size st : Nat) (isWrite : Bool) : State :=
  let note := fun (l : Nat) => if isWrite then s.noteCtx l size else s.noteRefl l size
  match t with
  | .here l => note l
  | .self l => (note l).semEvent st
  | _ => s

/-- log₂ of an access size. -/
def sizeLog (n : Nat) : Nat := if n = 64 then 6 else Nat.log2 n

/-- An access of another node waits at its source: its engine holds 768 requests, or a transfer through the Weir finds 64 at its
engine or no buffer it may reuse (R246, R267). Details: DEDUCED, log entries 66, 68. -/
def State.stalls (s : State) (engine : Nat) (t : Target) : Bool :=
  match t with
  | .pond _ _ => s.engineFull engine
  | .weir _ loc =>
    64 ≤ s.bulkOut (weirEngine (loc / 4096 * 4096)) || (1024 ≤ s.fab.blocks.length && (match s.victim with
      | some b => b.put && 64 ≤ s.bulkOut (weirEngine b.base)
      | none => true))
  | _ => false

/-- A remote load, with the hint of its unit; refused at the source under R266. -/
def State.remoteLoad (s : State) (engine n : Nat) (t : Target) (hint : Nat) (w : Waiter) : State :=
  match t with
  | .pond node loc => s.issue engine node (fabricAddr node loc) Kind.read hint 0 (sizeLog n) [] 0 w []
  | .weir node loc =>
    let st := s.weirStatus node loc false
    if st == St.ok then s.weirLoad node loc n w
    else (s.semEvent st).conclude engine node (fabricAddr node loc) st w [] 0
  | _ => s

/-- The other member's waiter of a paired write. -/
def State.mirrorWaiter (s : State) (w : Waiter) : Waiter :=
  match w with
  | .corePost n _ => .corePost (mirror n) (s.sp (mirror n)).entry
  | .unit n vec => .unit (mirror n) vec
  | w => w

/-- Send a write or post operation of a unit: in the Sealed profile paired at the primary's engine, which alone sends it (R424).
`send` takes the engine and the waiters. Details: DEDUCED, log entry 46. -/
def State.pairSend (s : State) (engine unit index addr : Nat) (data : Bytes) (mask mop : Nat) (w : Waiter)
    (send : Nat → List Waiter → State → State) : State :=
  let paired := match w with | .corePost .. => s.sealed | .unit .. => s.sealed | _ => false
  if paired then
    s.pairOp engine unit index addr data mask mop (fun s => send (engine % 8) [w, s.mirrorWaiter w] s)
  else send engine [w] s

/-- The waiters behind the first, as a request carries them. -/
def carried (addr n : Nat) (ws : List Waiter) : List (Waiter × Nat × Nat) := (ws.drop 1).map (fun w => (w, addr, n))

/-- A store reaches its engine: a request, or the Weir's put block, which a mover leaves behind and a short-vector store flushes at
once (R177, R248, R267). -/
def State.storeOut (s : State) (engine : Nat) (t : Target) (hint : Nat) (cs : List (Byte × Bool)) (ws : List Waiter) : State :=
  let w := ws.headD .gone
  match t with
  | .pond node loc =>
    let a := fabricAddr node loc
    s.issue engine node a Kind.write hint 0 (sizeLog cs.length) (cs.map (·.1)) (cellMarks a cs) w (carried a cs.length ws)
  | .weir node loc =>
    let st := s.weirStatus node loc true
    if st == St.ok then
      let s := s.weirStore node loc cs ws
      match w with
      | .unit _ true => s.flushOwned (fun x => ws.contains x)
      | .unit _ false => ws.foldl (fun s x => s.storeEnd St.ok x) s
      | _ => s
    else
      let s := (s.semEvent st).conclude engine node (fabricAddr node loc) st w [] 0
      (ws.drop 1).foldl (fun s x => s.storeEnd st x) s
  | _ => s

/-- The unit of a waiter as the pair numbers it (Table 19.10), and its index. -/
def Waiter.pairUnit : Waiter → Nat × Nat
  | .unit n vec => (if vec then PairUnit.vector else PairUnit.mover, n % 18)
  | .corePost n _ => (PairUnit.core, n % 18)
  | _ => (0, 0)

/-- A remote store of bytes with poison marks. -/
def State.remoteStore (s : State) (engine : Nat) (t : Target) (hint : Nat) (cs : List (Byte × Bool)) (w : Waiter) : State :=
  let a := match t with | .pond node loc => fabricAddr node loc | .weir node loc => fabricAddr node loc | _ => 0
  s.pairSend engine w.pairUnit.1 w.pairUnit.2 a (cs.map (·.1)) (cellMarks a cs) 0 w (fun e ws s => s.storeOut e t hint cs ws)

/-- A remote memory-side operation leaves its engine. -/
def State.mopOut (s : State) (engine : Nat) (t : Target) (mop : Nat) (data : Bytes) (ws : List Waiter) : State :=
  let sz := sizeLog (if mopLine mop then 64 else mopBytes mop)
  let w := ws.headD .gone
  match t with
  | .pond node loc =>
    let a := fabricAddr node loc
    s.issue engine node a Kind.mop 0 mop sz data 0 w (carried a data.length ws)
  | .weir node loc =>
    let st := s.weirStatus node loc true
    if st == St.ok then s.weirMop node loc mop sz data w (carried (fabricAddr node loc) data.length ws)
    else
      let s := (s.semEvent st).conclude engine node (fabricAddr node loc) st w [] 0
      (ws.drop 1).foldl (fun s x => s.storeEnd st x) s
  | _ => s

/-- A remote memory-side operation. -/
def State.remoteMop (s : State) (engine : Nat) (t : Target) (mop : Nat) (data : Bytes) (w : Waiter) : State :=
  let a := match t with | .pond node loc => fabricAddr node loc | .weir node loc => fabricAddr node loc | _ => 0
  s.pairSend engine w.pairUnit.1 w.pairUnit.2 a data 0 mop w (fun e ws s => s.mopOut e t mop data ws)

/-! ## Replies at the source (R250, R255, R256, R259, R260) -/

/-- A reply arrives: one that fails its checks is discarded; BACKOFF holds the refused request and those after it; any other
status concludes the request. `poison` marks the data's words; `at10` is the local clock in 0.1 ns. -/
def State.fabricReply (s : State) (p : Bytes) (poison at10 : Nat) : State :=
  let n := p.length
  let body := p.take (n - 8)
  let src := fld p 4 3
  if n < 24 || fld p 0 1 != 8 || fld p (n - 8) 8 != crc64 body || src / 32 != s.nodeId then s
  else match s.fab.reqs.find? (fun r => r.tag == fld p 8 4 && r.engine == src % 32) with
    | none => s
    | some r =>
      let st := fld p 2 2
      if st == St.backoff then
        let heldReq := fun (x : Req) => x.engine == r.engine && x.dest == r.dest && writeType x.kind
          && (x.seq + 2 ^ 32 - r.seq) % 2 ^ 32 < 2 ^ 31
        { s with fab := { s.fab with
          reqs := s.fab.reqs.map (fun x => if heldReq x then { x with held := true } else x)
          holds := s.fab.holds.filter (fun h => !(h.1 == r.engine && h.2.1 == r.dest))
            ++ [(r.engine, r.dest, r.seq, at10 + 10 * fld p 12 4)] } }
      else
        let s := s.finishReq r st (body.drop 16) poison
        { s with fab := { s.fab with owed := sinsert s.fab.owed (seqKey r.engine r.dest) } }

/-- Send a request again; one never sent before leaves for the first time (R256, R259). -/
def State.sendAgain (s : State) (r : Req) : State :=
  let upd := fun (x : Req) => if x.tag == r.tag then { x with ver := r.ver, held := false, sends := max 1 x.sends } else x
  { s with fab := { s.fab with reqs := s.fab.reqs.map upd } }.sendReq r (r.sends != 0)

/-- Retransmit an unreplied READ alone, or with any write-type request all of those to its destination, in SEQ order, under the
route version in force; one that is held back waits on. RETRANSMITS counts each (R256). Details: DEDUCED, log entry 66. -/
def State.retransmit (s : State) (r : Req) : State :=
  let sel := fun (x : Req) => !x.held && (if writeType r.kind then writeType x.kind else x.tag == r.tag)
  ((s.outTo r.engine r.dest).filter sel).foldl (fun s x =>
    let s := s.sendAgain { x with ver := s.liveVer }
    if r.engine < 20 then s.inc (F.FAB_RAE_OUT_RETRANSMITS r.engine) else s) s

/-- REQUEST_RETRANSMIT: a quarter of the bound has passed for an unreplied request, for the first, second or third time
(R256). -/
def execRequestRetransmit (tag : Nat) (s : State) : Out :=
  match s.fab.reqs.find? (fun r => r.tag == tag) with
  | none => ok s
  | some r =>
    if r.sends = 0 || 4 ≤ r.sends then ok s
    else
      let s := { s with fab := { s.fab with
        reqs := s.fab.reqs.map (fun (x : Req) => if x.tag == tag then { x with sends := x.sends + 1 } else x) } }
      ok (s.retransmit r)

/-- No reply by the bound (R260, Table 11.4). -/
def State.deadTarget (s : State) (tag : Nat) : State :=
  match s.fab.reqs.find? (fun r => r.tag == tag) with
  | none => s
  | some r => s.finishReq r (if r.kind == Kind.mop then St.atomicIndeterminate else St.targetDead) [] 0

/-- BACKOFF_RESEND: WAIT_NS has passed, and the source resends from the refused request, each under the version it was issued
under (R251, R259). -/
def execBackoffResend (engine : Fin 24) (dest : Fin 32768) (at10 : Nat) (s : State) : Out :=
  match s.fab.holds.find? (fun h => h.1 == engine.val && h.2.1 == dest.val) with
  | none => ok s
  | some (_, _, seq, until_) =>
    if at10 < until_ then ok s
    else
      let s := { s with fab := { s.fab with
        holds := s.fab.holds.filter (fun h => !(h.1 == engine.val && h.2.1 == dest.val)) } }
      ok (((s.outTo engine dest).filter (fun x => writeType x.kind && (x.seq + 2 ^ 32 - seq) % 2 ^ 32 < 2 ^ 31)).foldl
        (fun s x => s.sendAgain x) s)

/-- The ACK that an engine owes a node (R255). -/
def State.ackReq (s : State) (engine dest : Nat) : Req :=
  { engine := engine, dest := dest, kind := Kind.ack, hint := 0, mop := 0, ver := s.liveVer, sizeLog2 := 0,
    addr := fabricAddr dest 0, seq := 0, tag := 0, data := [], poison := 0, sends := 1, held := false, bound := 0,
    waiter := .gone, carry := [] }

/-- ACK_TIMER: a source that owes an ACK and has sent nothing since sends one (R255). -/
def execAckTimer (engine : Fin 24) (dest : Fin 32768) (s : State) : Out :=
  let k := seqKey engine dest
  if !s.fab.owed.contains k then ok s
  else
    let s := { s with fab := { s.fab with owed := s.fab.owed.filter (· != k) } }
    ok (s.sendReq (s.ackReq engine dest) false)

/-- FAB_DEAD_BOUND_WRITE: the bound is held to 4–250 µs (R260). -/
def execFabDeadBoundWrite (us : Fin 256) (s : State) : Out :=
  ok (s.wr F.FAB_DEAD_BOUND_BOUND_US (min (max us.val 4) 250))

/-! ## The home (R257, R258, R263) -/

/-- FAB_REPLAY follows the records (Table 11.12). -/
def State.showReplay (s : State) : State :=
  (s.wr F.FAB_REPLAY_ENTRIES ((s.fab.recs.map (fun r => r.2.entries.length)).foldl (· + ·) 0)).wr F.FAB_REPLAY_RECORDS
    s.fab.recs.length

/-- Details: DEDUCED, log entry 67. -/
def State.setRec (s : State) (src : Nat) (r : SrcRec) : State :=
  ({ s with fab := { s.fab with recs := mput s.fab.recs src r } }).showReplay

/-- The reply to a request: header, data, CRC-64 (R250); poison marks travel beside it.
Details: DEDUCED, log entry 67. -/
def State.replyReq (s : State) (p : Bytes) (status waitNs : Nat) (data : Bytes) (poison : Nat) : State :=
  let src := fld p 16 3 % 2 ^ 20
  let b := natLE 2 8 ++ natLE 2 status ++ natLE 4 src ++ natLE 4 (fld p 28 4) ++ natLE 4 waitNs ++ data
  let s := if status == St.backoff then (s.ev F.FAB_SEM_EVENTS_BACKOFF_SENT).inc F.FAB_REPLAY_COUNTS_BACKOFFS else s
  s.sendPacket .fabricReply (fld p 6 2) (fld p 4 1 % 16) (src / 32) [poison] (b ++ natLE 8 (crc64 b))

/-- Requests and reserved places ahead on a line at a time. -/
def LineQueue.busy (q : LineQueue) (at10 : Nat) : Nat := (q.done.filter (fun t => at10 < t)).length + q.tickets.length

def State.setLine (s : State) (line at10 : Nat) (q : LineQueue) : State :=
  let q := { q with done := q.done.filter (fun t => at10 < t) }
  let s := { s with fab := { s.fab with
    lines := if q.done.isEmpty && q.tickets.isEmpty then mdel s.fab.lines line else mput s.fab.lines line q } }
  let hot := (s.fab.lines.filter (fun l => 64 ≤ l.2.busy at10)).length
  (s.wr F.FAB_HOT_HOT_LINES hot).wr F.FAB_HOT_PEAK_TICKETS
    (max (min q.tickets.length 65535) (s.rd F.FAB_HOT_PEAK_TICKETS))

/-- Ask a line's queue for a place (R263): none when granted, else the WAIT_NS of the ticket.
Details: DEDUCED, log entry 67. -/
def State.lineAdmit (s : State) (line src seq at10 : Nat) : State × Option Nat :=
  let q := mget s.fab.lines line LineQueue.init
  let mine := q.tickets.find? (fun t => t.1 == src && t.2.1 == seq)
  let others := q.tickets.filter (fun t => !(t.1 == src && t.2.1 == seq))
  let inTime := match mine with | some (_, _, due) => decide (at10 ≤ due + 20000) | none => false
  let q' := { q with tickets := others }
  if inTime || q'.busy at10 < 64 then
    let fin := max at10 (q.done.foldl max 0) + 18
    (s.setLine line at10 { q' with done := q.done ++ [fin] }, none)
  else
    let wait := (q'.busy at10 * 18 + 9) / 10
    (s.setLine line at10 { q' with tickets := others ++ [(src, seq, at10 + 10 * wait)] }, some wait)

/-- Write bytes with a poison mask by 8-byte word of the data. -/
def State.writeMarked (s : State) (a : Nat) (data : Bytes) (poison : Nat) : State :=
  s.writeCells a ((List.range data.length).map (fun i => (data.getD i 0, bit poison ((a % 8 + i) / 8))))

/-- Write the bytes of a 4 KiB block that its mask selects, a whole word at once where it selects all eight (R241, R268). -/
def State.putMasked (s : State) (a : Nat) (data : Bytes) (mask poison : Nat) : State :=
  (List.range (data.length / 8)).foldl (fun s w =>
    let cell := fun (i : Nat) => (data.getD i 0, bit poison w)
    if bits mask (8 * w) 8 = 0xFF then s.writeCells (a + 8 * w) ((List.range 8).map (fun j => cell (8 * w + j)))
    else (List.range 8).foldl (fun s j => if bit mask (8 * w + j) then s.writeCells (a + 8 * w + j) [cell (8 * w + j)] else s) s) s

/-- Perform a write-type request at home: status, result and its poison (R238, R257). Details: DEDUCED, log entry 67. -/
def State.performReq (s : State) (p : Bytes) (poison : Nat) (retries : Nat := 0) (bad : List Nat := []) : State × MopResult :=
  let k := fld p 0 1 % 16
  let a := fld p 8 6
  let body := (p.take (p.length - 8)).drop 32
  if k == Kind.mop then s.mopAt a (fld p 2 2) body retries bad
  else if k == Kind.write then
    let st := s.homeStatus a body.length true
    if st == St.ok then (s.writeMarked a body poison, ⟨St.ok, [], 0⟩) else (s.noteCtx a body.length, ⟨st, [], 0⟩)
  else
    let st := s.homeStatus a 4096 true
    if st == St.ok then
      (s.putMasked a (sub body 0 4096) (fld body 4096 512) poison, ⟨St.ok, [], 0⟩)
    else (s.noteCtx a 4096, ⟨st, [], 0⟩)

/-- Whether a packet is a well-formed request of a kind: its CRC holds and its payload has the length of Table 11.2.
Details: DEDUCED, log entry 67. -/
def reqOk (p : Bytes) (kind : Nat) : Bool :=
  let n := p.length
  let pay := n - 40
  let sz := fld p 5 1
  40 ≤ n && fld p 0 1 == kind && fld p (n - 8) 8 == crc64 (p.take (n - 8))
    && (if kind == Kind.write then (sz ≤ 3 || sz == 6) && pay == 2 ^ sz
        else if kind == Kind.bulkPut then pay == 4608
        else if kind == Kind.mop then pay ≤ 128
        else pay == 0)

/-- The actions of R257 on an arriving write-type request. Details: DEDUCED, log entry 67. -/
def State.homeWrite (s : State) (p : Bytes) (poison at10 : Nat) (retries : Nat := 0) (bad : List Nat := [])
    (ecc : EccFinds := []) : State :=
  let src := fld p 16 3 % 2 ^ 20
  let seq := fld p 20 4
  match (match mfind s.fab.recs src with
    | some r => some r
    | none => if s.fab.recs.length < 65535 then some ⟨seq, at10, []⟩ else none) with
  | none => s.replyReq p St.backoff 2000 [] 0
  | some r =>
    let ackSeq := fld p 24 4
    let r := { r with
      last := at10
      entries := r.entries.filter (fun e => (e.seq + 2 ^ 32 - ackSeq) % 2 ^ 32 < 2 ^ 31) }
    let s := s.setRec src r
    let d := (seq + 2 ^ 32 - r.next) % 2 ^ 32
    if 2 ^ 31 ≤ d then
      match r.entries.find? (fun e => e.seq == seq) with
      | some e =>
        ((s.inc F.FAB_REPLAY_COUNTS_REPLAYS).ev F.FAB_SEM_EVENTS_REPLAY_HIT).replyReq p e.status 0 e.data e.poison
      | none => s
    else if d != 0 then s
    else
      let line := fld p 8 6 / 64 * 64
      match s.lineAdmit line src seq at10 with
      | (s, some w) => s.replyReq p St.backoff w [] 0
      | (t, none) =>
        -- for want of a replay entry the line's queue stays as it was
        if 1024 ≤ r.entries.length || 65536 ≤ s.rd F.FAB_REPLAY_ENTRIES then s.replyReq p St.backoff 2000 [] 0
        else
          let s := t
          let (s, res) := (s.eccAll ecc).performReq p poison retries bad
          let s := if res.status == St.ok || res.status == St.residueMismatch
            then s.noteArrival src (fld p 8 8) (fld p 2 2) ((p.take (p.length - 8)).drop 32) else s
          let s := s.setRec src { r with
            next := (r.next + 1) % 2 ^ 32
            entries := r.entries ++ [⟨seq, res.status, res.old, res.poison⟩] }
          s.replyReq p res.status 0 res.old res.poison

/-- FABRIC_WRITE, FABRIC_MOP and FABRIC_BULK_PUT: a write-type request arrives; `poison` marks its payload's words.
Details: DEDUCED, log entry 67. -/
def execFabricWrite (p : Bytes) (poison at10 : Nat) (s : State) : Out :=
  if reqOk p Kind.write then ok (s.homeWrite p poison at10) else ok s
/-- Details: DEDUCED, log entry 67. -/
def execFabricMop (p : Bytes) (at10 retries : Nat) (bad : List Nat) (ecc : EccFinds) (s : State) : Out :=
  if reqOk p Kind.mop then ok (s.homeWrite p 0 at10 retries bad ecc) else ok s
/-- Details: DEDUCED, log entry 67. -/
def execFabricBulkPut (p : Bytes) (poison at10 : Nat) (s : State) : Out :=
  if reqOk p Kind.bulkPut then ok (s.homeWrite p poison at10) else ok s

/-- A read-type request's arrival refreshes its source's record and frees acknowledged entries.
Details: DEDUCED, log entry 67. -/
def State.homeSeen (s : State) (p : Bytes) (at10 : Nat) : State :=
  let src := fld p 16 3 % 2 ^ 20
  match mfind s.fab.recs src with
  | none => s
  | some r => s.setRec src { r with
      last := at10
      entries := r.entries.filter (fun e => (e.seq + 2 ^ 32 - fld p 24 4) % 2 ^ 32 < 2 ^ 31) }

/-- Perform a READ of n bytes and reply with data and poison marks (R250); LAST_USE discards (R229).
Details: DEDUCED, log entry 67. -/
def State.homeRead (s : State) (p : Bytes) (n : Nat) : State :=
  let a := fld p 8 6
  let st := s.homeStatus a n false
  if st != St.ok then (s.noteRefl a n).replyReq p st 0 [] 0
  else
    let data := s.readBytes a n
    let poison := maskOf ((List.range ((a % 8 + n + 7) / 8)).filter (fun i => s.poisonAt (a / 8 * 8 + 8 * i)))
    let s := s.replyReq p St.ok 0 data poison
    if bits (fld p 1 1) 0 2 == 2 then s.discard a n else s

/-- Details: DEDUCED, log entry 67. -/
def execFabricRead (p : Bytes) (at10 : Nat) (ecc : EccFinds) (s : State) : Out :=
  let sz := fld p 5 1
  if reqOk p Kind.read && (sz ≤ 3 || sz == 6) then ok (((s.homeSeen p at10).eccAll ecc).homeRead p (2 ^ sz)) else ok s

/-- FABRIC_BULK_GET: a whole aligned 4 KiB block (R267). Details: DEDUCED, log entry 67. -/
def execFabricBulkGet (p : Bytes) (at10 : Nat) (ecc : EccFinds) (s : State) : Out :=
  if reqOk p Kind.bulkGet && fld p 5 1 == 12 then ok (((s.homeSeen p at10).eccAll ecc).homeRead p 4096) else ok s

/-- FABRIC_ACK: ACK_SEQ frees replay entries (R255, R257). Details: DEDUCED, log entry 67. -/
def execFabricAck (p : Bytes) (at10 : Nat) (s : State) : Out :=
  if reqOk p Kind.ack then ok (s.homeSeen p at10) else ok s

/-- SOURCE_RECORD_EXPIRY: no request from the source for 1 ms (R258). Details: DEDUCED, log entry 67. -/
def execSourceRecordExpiry (src : Fin 1048576) (at10 : Nat) (s : State) : Out :=
  match mfind s.fab.recs src with
  | some r =>
    if r.last + 10000000 ≤ at10 then ok ({ s with fab := { s.fab with recs := mdel s.fab.recs src } }).showReplay
    else ok s
  | none => ok s

/-- TICKET_RESERVATION_EXPIRY: the place reserved for a ticket is released 2 µs after its due time (R263).
Details: DEDUCED, log entry 67. -/
def execTicketReservationExpiry (line : Nat) (src : Fin 1048576) (seq : Fin 4294967296) (at10 : Nat) (s : State) : Out :=
  match mfind s.fab.lines line with
  | some q => ok (s.setLine line at10 { q with
      tickets := q.tickets.filter (fun t => !(t.1 == src.val && t.2.1 == seq.val && t.2.2 + 20000 < at10)) })
  | none => ok s

end Sys2Proof.Machine
end

