-- ==== Sys2Proof/Machine/Mover.lean ====
section
/-! DEFINITION. The data mover (R118–R123): taking a descriptor, COPY, FILL, GATHER, SCATTER, completion, and a stop. -/

namespace Sys2Proof.Machine

open Sys2Proof

/-! ## The descriptor (Table 5.6) -/

def mvOp (d : Bytes) : Nat := fld d 0 1
def mvSrcHint (d : Bytes) : Nat := fld d 1 1 % 4
def mvDstHint (d : Bytes) : Nat := fld d 1 1 / 4 % 4
def mvElem (d : Bytes) : Nat := if fld d 2 1 % 2 = 0 then 4 else 8
def mvInner (d : Bytes) : Nat := fld d 4 4
def mvSrc (d : Bytes) : Nat := fld d 8 8
def mvDst (d : Bytes) : Nat := fld d 16 8
def mvRows (d : Bytes) : Nat := fld d 24 4
def mvPlanes (d : Bytes) : Nat := fld d 28 4
def mvStride (d : Bytes) (off : Nat) : Int := signed 32 (fld d off 4)
def mvIndex (d : Bytes) : Nat := fld d 48 8
def mvCount (d : Bytes) : Nat := fld d 56 4

/-- The offset of row (p, r) at the source or the destination. -/
def mvRowOff (d : Bytes) (dst : Bool) (p r : Nat) : Int :=
  (p : Int) * mvStride d (if dst then 44 else 40) + (r : Int) * mvStride d (if dst then 36 else 32)

/-- Every row (p, r) in order: ascending p, then r. -/
def mvRowList (d : Bytes) : List (Nat × Nat) :=
  (List.range (mvPlanes d)).flatMap (fun p => (List.range (mvRows d)).map (fun r => (p, r)))

/-- Reserved fields, ranges and unused fields (Table 5.6). -/
def mvMalformed (d : Bytes) : Bool :=
  let op := mvOp d
  let common := op > 3 || mvSrcHint d == 3 || 2 ≤ mvDstHint d || fld d 1 1 / 16 != 0 || fld d 2 1 / 2 != 0
    || fld d 3 1 != 0 || fld d 60 4 != 0
  let rowOp := op == 0 || op == 3
  let rows := mvInner d = 0 || mvInner d > 16777216 || mvRows d = 0 || mvRows d > 1048576 || mvPlanes d = 0
    || mvPlanes d > 1048576 || fld d 2 1 != 0 || fld d 56 4 != 0
  let elems := mvCount d = 0 || mvCount d > 16777216 || fld d 4 4 != 0 || !allZero (sub d 24 24)
    || mvIndex d % 4 != 0 || mvIndex d / 2 ^ 48 != 0
  common || (if rowOp then rows else elems)
    || (op == 0 && fld d 48 8 != 0)
    || (op == 3 && (fld d 8 8 != 0 || fld d 32 4 != 0 || fld d 40 4 != 0 || mvSrcHint d != 0))

/-- The node a fabric address names and the local address there. -/
def State.nodeOf (s : State) (a : Nat) : Nat × Nat :=
  match s.target a with
  | .here l => (s.nodeId, l)
  | .self l => (s.nodeId, l)
  | .pond n l => (n, l)
  | .weir n l => (n, l)
  | .bad => (0x8000, a)

/-- The least and one past the greatest byte of all rows: strides are linear, so the corners decide. -/
def mvBounds (d : Bytes) (dst : Bool) : Int × Int :=
  let base : Int := ((if dst then mvDst d else mvSrc d) % 2 ^ 48 : Nat)
  let ps := [0, mvPlanes d - 1]
  let rs := [0, mvRows d - 1]
  let offs := ps.flatMap (fun p => rs.map (fun r => base + mvRowOff d dst p r))
  (offs.foldl min (offs.headD base), offs.foldl max (offs.headD base) + mvInner d)

/-- Whether a row's extent is formed within 48 bits and usable. -/
def State.mvRowOk (s : State) (base : Nat) (off : Int) (n : Nat) : Bool :=
  match formAddr base off with
  | some a => a % 2 ^ 48 + n ≤ 2 ^ 48 && s.usable a n
  | none => false

/-- Acceptance of a mover descriptor (R21, R120, R143): true when it must be rejected.
Details: DEDUCED, log entry 54. -/
def State.mvRejected (s : State) (d : Bytes) : Bool :=
  mvMalformed d ||
  (if mvOp d == 0 || mvOp d == 3 then
    (mvRowList d).any (fun (p, r) =>
      !s.mvRowOk (mvDst d) (mvRowOff d true p r) (mvInner d) ||
      (mvOp d == 0 && !s.mvRowOk (mvSrc d) (mvRowOff d false p r) (mvInner d)))
    || (mvOp d == 0 && (s.nodeOf (mvSrc d)).1 == (s.nodeOf (mvDst d)).1 &&
        (mvBounds d false).1 < (mvBounds d true).2 && (mvBounds d true).1 < (mvBounds d false).2)
  else
    !s.backed (mvIndex d) (4 * mvCount d) ||
    (if mvOp d == 1 then !s.mvRowOk (mvDst d) 0 (mvCount d * mvElem d)
     else !s.mvRowOk (mvSrc d) 0 (mvCount d * mvElem d)))

/-- The sealed context a descriptor's contiguous writes would meet (R143). -/
def State.mvCtxHit (s : State) (d : Bytes) : Option Nat :=
  let hit := fun (a n : Nat) => match s.localOf a with
    | some l => (s.ctxHit l n).map (·.1)
    | none => none
  if mvOp d == 0 || mvOp d == 3 then
    (mvRowList d).findSome? (fun (p, r) => match formAddr (mvDst d) (mvRowOff d true p r) with
      | some a => hit a (mvInner d)
      | none => none)
  else if mvOp d == 1 then hit (mvDst d) (mvCount d * mvElem d)
  else none

/-! ## Taking descriptors (R110–R113) -/

/-- Check a mover descriptor as it is taken: BAD_PARAM or POISON_CONSUMED, else its bytes (R110, R487).
Details: DEDUCED, log entries 54, 98. -/
def State.mvCheck (s : State) (a : Nat) (snap : Option Bytes) : Nat × Bytes × Option Nat :=
  match snap with
  | some d =>
    if s.mvRejected d then (St.badParam, d, none)
    else match s.mvCtxHit d with
      | some sp => (St.badParam, d, some sp)
      | none => (St.ok, d, none)
  | none =>
  match s.descAddr a 64 with
  | none => (St.badParam, [], none)
  | some l =>
    if s.poisoned l 64 then (St.poisonConsumed, [], none)
    else
      let d := s.readBytes l 64
      if s.mvRejected d then (St.badParam, d, none)
      else match s.mvCtxHit d with
        | some sp => (St.badParam, d, some sp)
        | none => (St.ok, d, none)

/-- Whether the reflection region meets the descriptor or an extent its acceptance checks (R329). -/
def State.mvRefl (s : State) (a : Nat) (d : Bytes) : Bool :=
  match s.ckpt.policy with
  | none => false
  | some p =>
    let hit := fun (x n : Nat) => match s.localOf x with
      | some l => overlaps l n p.reflBase p.reflLen
      | none => false
    let row := fun (base : Nat) (off : Int) => match formAddr base off with
      | some x => hit x (mvInner d)
      | none => false
    hit a 64 ||
    (if mvOp d == 0 || mvOp d == 3 then (mvRowList d).any (fun (p, r) =>
        row (mvDst d) (mvRowOff d true p r) || (mvOp d == 0 && row (mvSrc d) (mvRowOff d false p r)))
     else hit (mvIndex d) (4 * mvCount d) || hit (if mvOp d == 1 then mvDst d else mvSrc d) (mvCount d * mvElem d))

/-- The mover takes descriptors from its queue until one starts or the queue is empty. -/
def takeMover (n : Nat) : Nat → State → State
  | 0, s => s
  | k + 1, s =>
    let x := s.sp n
    match x.mover, x.mq with
    | none, q :: r =>
      let (st, d, ctx) := s.mvCheck q.addr q.snap
      let s := match ctx with | some c => s.ctxRefused c | none => s
      let s := if st == St.badParam && s.mvRefl q.addr d then s.ev F.CKPT_EVENTS_REFL_REFUSED else s
      if st == St.ok then (s.setSp n { x with mover := some ⟨d, q.owner, false, St.ok, MvWalk.init⟩, mq := r }).showQueues n
      else takeMover n k (((s.setSp n { x with mq := r }).countDesc n true q.owner st).showQueues n)
    | _, _ => s.showQueues n

def State.takeMovers (s : State) (n : Nat) : State := takeMover n 9 s

/-! ## Running (R119, R121, R122, R246) -/

/-- Whether a descriptor moves rows (COPY, FILL) and not elements. -/
def mvRowOp (d : Bytes) : Bool := mvOp d == 0 || mvOp d == 3

/-- Rows or elements of a descriptor, and the bytes of each. -/
def mvItems (d : Bytes) : Nat := if mvRowOp d then mvPlanes d * mvRows d else mvCount d
def mvLen (d : Bytes) : Nat := if mvRowOp d then mvInner d else mvElem d

/-- Address of the index word of element k. -/
def mvIdxWord (d : Bytes) (k : Nat) : Nat := mvIndex d + 4 * k

/-- The offset of row or element k at the source or the destination (R119): row k is row (k / ROWS, k mod ROWS). -/
def State.mvOff (s : State) (d : Bytes) (dst : Bool) (k : Nat) : Int :=
  if mvRowOp d then mvRowOff d dst (k / mvRows d) (k % mvRows d)
  else if dst == (mvOp d == 2) then ((s.readNat (mvIdxWord d k) 4 * mvElem d : Nat) : Int)
  else ((k * mvElem d : Nat) : Int)

/-- The address of row or element k (R120): none when it or its bytes leave bits [47:0]. -/
def State.mvAddr (s : State) (d : Bytes) (dst : Bool) (k : Nat) : Option Nat :=
  match formAddr (if dst then mvDst d else mvSrc d) (s.mvOff d dst k) with
  | some a => if a % 2 ^ 48 + mvLen d ≤ 2 ^ 48 then some a else none
  | none => none

/-- The address of row or element k as issued: the offset is added in 64 bits, so a carry or borrow of bit 47 runs into bits
[63:48]. Details: DESIGN CHOICE, log entry 101. -/
def State.mvIssued (s : State) (d : Bytes) (dst : Bool) (k : Nat) : Nat :=
  (((if dst then mvDst d else mvSrc d : Nat) + s.mvOff d dst k) % 2 ^ 64).toNat

/-- The mover stops at an element or row with its index, held in 32 bits, and address (R121, R143, Table 5.13).
Details: DEDUCED, log entry 54. -/
def State.moveFault (s : State) (n index addr : Nat) : State :=
  ((s.wr (F.SPIRE_MOVE_FAULT_VALUE n) (index % 2 ^ 32)).wr (F.SPIRE_MOVE_FAULT_ADDR_VALUE n) addr).ev
    (F.SPIRE_EVENTS_MOVE_FAULT n)

/-- The mover's run, changed. -/
def State.setWalk (s : State) (n : Nat) (f : MvWalk → MvWalk) : State :=
  let x := s.sp n
  match x.mover with
  | some r => s.setSp n { x with mover := some { r with walk := f r.walk } }
  | none => s

/-- The work of the running descriptor is done, with its status; the Weir's puts that hold its stores are flushed (R268). -/
def State.moverWorked (s : State) (n status : Nat) : State :=
  let x := s.sp n
  match x.mover with
  | some r =>
    (s.setSp n { x with mover := some { r with worked := true, status := status } }).flushOwned (· == .unit n false)
  | none => s

/-- The mover stops at row or element k with an address and a status (R121, R143). -/
def State.mvStop (s : State) (n status k addr : Nat) : State := (s.moveFault n k addr).moverWorked n status

/-- The bytes a mover moves at once: what is left of a row or element here, and of another node an aligned 64, 8, 4, 2 or 1
(R248). A run that a limit stops takes no more of a row than that. Details: DEDUCED, log entry 54. -/
def State.mvPiece (s : State) (d : Bytes) (src dst : Option Nat) (off lim : Nat) : Nat :=
  let far := ([src, dst].filterMap id).filter (fun a => (s.localOf a).isNone)
  let rest := mvLen d - off
  let rest := if mvRowOp d then min rest lim else rest
  if far.isEmpty then rest
  else ([64, 8, 4, 2].find? (fun p => p ≤ rest && far.all (fun a => (a + off) % p == 0))).getD 1

/-- `p` more bytes of the row or element are done; a source of this node read with LAST_USE is discarded with its last bytes
(R229). -/
def State.mvAdvance (s : State) (n : Nat) (d : Bytes) (w : MvWalk) (src : Option Nat) (p dead : Nat) : State :=
  let w := { w with writing := false, acc := .none, dead := if w.dead = 0 then dead else w.dead }
  if w.off + p < mvLen d then s.setWalk n (fun _ => { w with off := w.off + p })
  else
    let s := match src.bind s.localOf with
      | some l => if mvSrcHint d == 2 then s.discard l (mvLen d) else s
      | none => s
    s.setWalk n (fun _ => { w with row := w.row + 1, off := 0 })

/-- Write bytes of row or element k at its destination: here, or as a request to the home (R246). None while the mover waits for
room at its engine. `dead` is the status of their read, when its home is dead (R122). -/
def State.mvWrite (s : State) (n : Nat) (d : Bytes) (w : MvWalk) (src : Option Nat) (cs : List (Byte × Bool)) (dead : Nat) :
    Option State :=
  match s.mvAddr d true w.row with
  | none => some (s.mvStop n St.spireFault w.row (s.mvIssued d true w.row))
  | some b =>
    let (t, st) := s.coreTarget (b + w.off) cs.length true
    if t.remote then
      if s.stalls (spireEngine n) t then none
      else
        let s := s.setWalk n (fun _ =>
          { w with writing := true, acc := .out, dead := if w.dead = 0 then dead else w.dead })
        some (s.remoteStore (spireEngine n) t (mvDstHint d) cs (.unit n false))
    else if st != St.ok then some ((s.noteRefusal t cs.length st true).mvStop n St.spireFault w.row b)
    else
      some ((s.unitWrite (n / 18) PairUnit.mover (n % 18) t.loc cs).mvAdvance n d w src cs.length dead)

/-- Read bytes of row or element k, and write them when they are at hand. None while the mover waits: for room at its engine, or
for a twin that covers what it reads (R424). -/
def State.mvRead (s : State) (n : Nat) (d : Bytes) (w : MvWalk) (a p : Nat) : Option State :=
  let (t, st) := s.coreTarget (a + w.off) p false
  if t.remote then
    if s.stalls (spireEngine n) t then none
    else some ((s.setWalk n (fun _ => { w with acc := .out })).remoteLoad (spireEngine n) p t (mvSrcHint d) (.unit n false))
  else if st != St.ok then some ((s.noteRefusal t p st false).mvStop n St.spireFault w.row a)
  else if s.twinHeld (n / 18) t.loc p then none
  else s.mvWrite n d w (some a) (s.readCells t.loc p) 0

/-- Byte j of a row of FILL. -/
def mvPattern (d : Bytes) (off p : Nat) : List (Byte × Bool) :=
  (List.range p).map (fun j => (BitVec.ofNat 8 (mvIndex d >>> (8 * ((off + j) % 8))), false))

/-- The next piece of a mover begins: an index word is read first, and an address residue that mismatched again stops the mover at
its row or element as R121 states (R422). -/
def State.mvBegin (s : State) (n : Nat) (d : Bytes) (w : MvWalk) (lim : Nat) : Option State :=
  let k := w.row
  if !mvRowOp d && s.twinHeld (n / 18) (mvIdxWord d k) 4 then none
  else if !mvRowOp d && s.poisoned (mvIdxWord d k) 4 then some (s.mvStop n St.poisonConsumed k (mvIdxWord d k))
  else if w.bad == some k && w.off == 0 then
    some ((s.residue F.NODE_CHECK_EVENTS_MOVER_RESIDUE 0 1).mvStop n St.residueMismatch k
      (s.mvIssued d (mvRowOp d || mvOp d == 2) k))
  else if mvOp d == 3 then
    s.mvWrite n d w none (mvPattern d w.off (s.mvPiece d none (s.mvAddr d true k) w.off lim)) 0
  else match s.mvAddr d false k with
    | none => some (s.mvStop n St.spireFault k (s.mvIssued d false k))
    | some a => s.mvRead n d w a (s.mvPiece d (some a) (s.mvAddr d true k) w.off lim)

/-- The outcome of the mover's remote access (Table 11.4): a dead node's data is the value of R261 and its store is passed over
(R122); any other failure stops the mover at its row or element. -/
def State.mvOutcome (s : State) (n : Nat) (d : Bytes) (w : MvWalk) (st : Nat) (cs : List (Byte × Bool)) (lim : Nat) :
    Option State :=
  let k := w.row
  let src := if mvOp d == 3 then none else s.mvAddr d false k
  let p := s.mvPiece d src (s.mvAddr d true k) w.off lim
  let at_ := if w.writing then (s.mvAddr d true k).getD 0 else src.getD 0
  if !isSuccess st && st != St.targetDead then some (s.mvStop n St.spireFault k at_)
  else if w.writing then some (s.mvAdvance n d w src p (if isSuccess st then 0 else st))
  else if isSuccess st then s.mvWrite n d w src cs 0
  else s.mvWrite n d w src ((deadBytes (at_ + w.off) p).map (·, false)) st

/-- One piece of the mover's run; none when it waits, is done, or has not begun. -/
def State.mvStep (s : State) (n lim : Nat) : Option State :=
  match (s.sp n).mover with
  | none => none
  | some r =>
    let w := r.walk
    if r.worked || !w.started then none
    else if mvItems r.desc ≤ w.row then some (s.moverWorked n St.ok)
    else match w.acc with
      | .none => s.mvBegin n r.desc w lim
      | .out => none
      | .got st cs => s.mvOutcome n r.desc w st cs lim

/-- Steps enough for a mover's whole run. -/
def State.mvFuel (s : State) (n : Nat) : Nat :=
  match (s.sp n).mover with
  | some r => 3 * (mvItems r.desc * mvLen r.desc) + 3
  | none => 0

/-- The bytes that the mover at hand moves at once here. -/
def State.mvWhole (s : State) (n : Nat) : Nat := match (s.sp n).mover with | some r => mvLen r.desc | none => 0

/-- A mover runs until it waits or is done; of a pair, both members do, each step of one before the next of the other (R424). -/
def mvRun (n : Nat) : Nat → State → State
  | 0, s => s
  | k + 1, s =>
    match s.mvStep n (s.mvWhole n) with
    | some s => mvRun n k s
    | none =>
      if !s.sealed then s
      else match s.mvStep (mirror n) (s.mvWhole (mirror n)) with
        | some s => mvRun n k s
        | none => s

def State.mvGo (s : State) (n : Nat) : State := mvRun n (s.mvFuel n + s.mvFuel (mirror n)) s

/-- Run the mover's descriptor if its OP is the one of this command, or let a run that waits go on. `retries` and `stop` are what
the residues of the Sealed profile find (R422): recomputes that matched, and the row or element whose recompute mismatched
again; `ecc` is what the ECC finds. Details: DEDUCED, log entry 54. -/
def State.runMover (s : State) (n op retries : Nat) (stop : Option Nat) (ecc : EccFinds) : State :=
  match (s.sp n).mover with
  | some r =>
    if r.worked || mvOp r.desc != op then s
    else
      let s := s.eccAll ecc
      let s := if r.walk.started then s
        else
          let s := s.setWalk n (fun w => { w with started := true, bad := if s.sealed then stop else none })
          if s.sealed then s.residue F.NODE_CHECK_EVENTS_MOVER_RESIDUE retries 0 else s
      s.mvGo n
  | none => s

def execCopy (n : Fin 288) (retries : Nat) (stop : Option Nat) (ecc : EccFinds) (s : State) : Out :=
  ok (s.runMover n 0 retries stop ecc)
def execFill (n : Fin 288) (retries : Nat) (stop : Option Nat) (s : State) : Out := ok (s.runMover n 3 retries stop [])
def execGather (n : Fin 288) (retries : Nat) (stop : Option Nat) (ecc : EccFinds) (s : State) : Out :=
  ok (s.runMover n 1 retries stop ecc)
def execScatter (n : Fin 288) (retries : Nat) (stop : Option Nat) (ecc : EccFinds) (s : State) : Out :=
  ok (s.runMover n 2 retries stop ecc)

/-- The status a worked descriptor completes with: its own failure, else that of a store or put its home did not take (R122). -/
def DescRun.outcome (r : DescRun) : Nat := if isSuccess r.status && r.walk.dead != 0 then r.walk.dead else r.status

/-- MOVER_DESCRIPTOR_COMPLETE: the worked descriptor is counted once its writes are acknowledged at home and its twins have met;
a failure discards the queue; the next is taken (R112, R113, R226). -/
def execMoverDescriptorComplete (n : Fin 288) (s : State) : Out :=
  let x := s.sp n
  match x.mover with
  | some r =>
    if !r.worked || s.unitOut n false then ok s
    else
      let s := (s.setSp n { x with mover := none }).countDesc n true r.owner r.outcome
      let s := if isSuccess r.outcome then s else s.discardQueue n true r.outcome
      ok ((s.retryIssue n).takeMovers n)
  | none => ok s

/-! ## Stopping (R81, R100, R119) -/

/-- A mover runs at most to a byte of its order. -/
def mvRunTo (n goal : Nat) : Nat → State → State
  | 0, s => s
  | k + 1, s =>
    match (s.sp n).mover with
    | none => s
    | some r =>
      let pos := r.walk.row * mvLen r.desc + r.walk.off
      if goal ≤ pos then s
      else match s.mvStep n (goal - pos) with
        | some s => mvRunTo n goal k s
        | none => s

/-- A stopped mover has written a prefix of its bytes, of free length, and issues no further write; those issued are performed
(R119). One that waits for another node's outcome has written what comes before. It then holds no descriptor.
Details: DEDUCED, log entry 54. -/
def State.stopMover (s : State) (n : Nat) : State :=
  match (s.sp n).mover with
  | none => s
  | some r =>
    let s := if r.worked || r.walk.started then s
      else
        let goal := if mvRowOp r.desc then s.free n (mvItems r.desc * mvLen r.desc + 1)
          else mvLen r.desc * s.free n (mvItems r.desc + 1)
        mvRunTo n goal (s.mvFuel n) (s.setWalk n (fun w => { w with started := true }))
    let s := s.forget (· == .unit n false)
    (s.setSp n { s.sp n with mover := none }).showQueues n

end Sys2Proof.Machine
end

