-- ==== Sys2Proof/Machine/Tensor.lean ====
section
/-! DEFINITION. The tensor engine (chapter 6): acceptance, the narrow, wide and Q64 paths, ROUND, resident contexts,
completion and a stop. -/

namespace Sys2Proof.Machine

open Sys2Proof

/-! ## The descriptor (Table 6.2) -/

def tnOp (d : Bytes) : Nat := fld d 0 1
def tnAFmt (d : Bytes) : Nat := fld d 1 1 % 16
def tnBFmt (d : Bytes) : Nat := fld d 1 1 / 16
def tnOutFmt (d : Bytes) : Nat := fld d 2 1 % 16
def tnCMode (d : Bytes) : Nat := fld d 2 1 / 16 % 4
def tnSlot (d : Bytes) : Nat := fld d 3 1 % 64
def tnOvf (d : Bytes) : Bool := bit (fld d 3 1) 6
def tnScaled (d : Bytes) : Bool := bit (fld d 4 1) 0
def tnFixed (d : Bytes) : Bool := bit (fld d 4 1) 1
def tnKseg (d : Bytes) : Nat := fld d 4 1 / 4 % 8
def tnCtx (d : Bytes) : Nat := fld d 5 1 % 4
def tnCtxEn (d : Bytes) : Bool := bit (fld d 5 1) 2
def tnFrameLsb (d : Bytes) : Int := signed 16 (fld d 6 2)
def tnM (d : Bytes) : Nat := fld d 8 4
def tnN (d : Bytes) : Nat := fld d 12 4
def tnK (d : Bytes) : Nat := fld d 16 4
def tnBatch (d : Bytes) : Nat := fld d 20 4
/-- Offsets A, B, C, D, SA, SB: operand x = 0 to 5. -/
def tnOff (d : Bytes) (x : Nat) : Nat := fld d (24 + 4 * x) 4
/-- Row strides LDA, LDB, LDC, LDD. -/
def tnLd (d : Bytes) (x : Nat) : Nat := fld d (48 + 4 * x) 4
/-- Batch strides. -/
def tnBs (d : Bytes) (x : Nat) : Int := signed 32 (fld d (64 + 4 * x) 4)
def tnShift (d : Bytes) : Int := signed 8 (fld d 96 1)
def tnKH (d : Bytes) : Nat := fld d 80 1
def tnKW (d : Bytes) : Nat := fld d 81 1
def tnDilY (d : Bytes) : Nat := fld d 82 1 % 16
def tnDilX (d : Bytes) : Nat := fld d 82 1 / 16
def tnPad (d : Bytes) : Nat := fld d 83 1
def tnOutW (d : Bytes) : Nat := fld d 84 4
def tnInW (d : Bytes) : Nat := fld d 88 4
def tnCin (d : Bytes) : Nat := fld d 92 4
/-- EA, EB, EC, E_OUT. -/
def tnE (d : Bytes) (x : Nat) : Int := signed 16 (fld d (80 + 2 * x) 2)

/-- Rows of the input field of a STENCIL (R141). -/
def tnHin (d : Bytes) : Nat :=
  tnM d / tnOutW d + (if tnPad d = 1 then (tnKH d - 1) * tnDilY d else 0)

/-- Which accumulation path a descriptor's inputs take: 0 narrow, 1 wide half (BF16, FP16), 2 wide full (FP32, FP64),
3 Q64. -/
def tnPath (d : Bytes) : Nat :=
  if tnAFmt d ≤ 6 then 0 else if tnAFmt d ≤ 8 then 1 else if tnAFmt d ≤ 10 then 2 else 3

/-- lsb and h of a narrow format (Table 6.3). -/
def narrowLsb (code : Nat) (scaled : Bool) : Int :=
  match code with
  | 0 => -1 | 1 => -3 | 2 => -4 | 3 => -9 | 4 => -16 | 5 => 0 | _ => if scaled then -6 else 0
def narrowH (code : Nat) (scaled : Bool) : Int :=
  match code with
  | 0 => 3 | 1 => 3 | 2 => 5 | 3 => 9 | 4 => 16 | 5 => 4 | _ => if scaled then 2 else 8

/-! ## Acceptance (R128–R132) -/

/-- Table 6.4. -/
def tnCombo (d : Bytes) : Bool :=
  let a := tnAFmt d
  let b := tnBFmt d
  let o := tnOutFmt d
  let c := tnCMode d
  let floatOut := o == 3 || o == 4 || o == 7 || o == 8 || o == 9
  if tnOp d == 4 then a == 0 && b == 0 && floatOut && c == 2 && tnFixed d
  else if tnOp d == 3 then a == 0xB && b == 0xB && o == 0xB && c ≤ 1
  else if a ≤ 6 && b ≤ 6 then
    let ints := (a == 5 || a == 6) && (b == 5 || b == 6) && !tnScaled d
    (floatOut || (o == 0xC && ints) || (o == 0xD && tnFixed d)) && (c == 0 || (c == 2 && tnFixed d))
  else if a == 7 && b == 7 then (o == 7 || o == 9) && c ≤ 1
  else if a == 8 && b == 8 then (o == 8 || o == 9) && c ≤ 1
  else if a == 9 && b == 9 then o == 9 && c ≤ 1
  else if a == 0xA && b == 0xA then o == 0xA && c ≤ 1
  else false

/-- Bytes of one row of each operand: A, B, C, D. -/
def tnRowBytes (d : Bytes) (x : Nat) : Nat :=
  let bytes := fun (n fmt : Nat) => (n * fmtWidth fmt + 7) / 8
  match x with
  | 0 => if tnOp d == 2 then bytes (tnCin d) (tnAFmt d) else bytes (tnK d) (tnAFmt d)
  | 1 => bytes (tnK d) (tnBFmt d)
  | 2 => bytes (tnN d) (if tnCMode d = 2 then 0xD else tnOutFmt d)
  | _ => bytes (tnN d) (tnOutFmt d)

/-- Rows of each operand in one batch. -/
def tnRowsOf (d : Bytes) (x : Nat) : Nat :=
  match x with
  | 0 => if tnOp d == 2 then tnHin d * tnInW d else tnM d
  | 1 => tnN d
  | _ => tnM d

/-- The bounding extent of an operand over all batches: first and one past the last offset.
Details: DEDUCED, log entry 52. -/
def tnExtent (d : Bytes) (x : Nat) : Int × Int :=
  let span : Int := ((tnBatch d - 1 : Nat) : Int) * tnBs d x
  let base : Int := tnOff d x
  (base + min 0 span, base + max 0 span + ((tnRowsOf d x - 1) * tnLd d x + tnRowBytes d x : Nat))

/-- Bytes of the scales SA (x = 4) and SB (x = 5). -/
def tnScaleBytes (d : Bytes) (x : Nat) : Nat :=
  if x = 4 then
    (if tnOp d == 2 then tnBatch d * (tnHin d * tnInW d) * tnCin d / 32 else tnBatch d * tnM d * tnK d / 32)
  else tnBatch d * tnN d * tnK d / 32

/-- Details: DEDUCED, log entry 52. -/
def tnScaleExtent (d : Bytes) (x : Nat) : Int × Int :=
  ((tnOff d x : Int), ((tnOff d x + tnScaleBytes d x : Nat) : Int))

def inPad (e : Int × Int) : Bool := 0 ≤ e.1 && e.2 ≤ 0x180000
/-- Details: DEDUCED, log entry 52. -/
def meets (e f : Int × Int) : Bool := e.1 < f.2 && f.1 < e.2

/-- The operands an operation uses: A and B for GEMM, STENCIL, Q64_GEMM; C by C_MODE; D always; scales by SCALED. -/
def tnUsesAB (d : Bytes) : Bool := tnOp d != 4
def tnUsesC (d : Bytes) : Bool := tnCMode d != 0

/-- Reserved bits and fields the operation does not use (Table 6.2, R128): without C its offset, strides and exponent are such, and
without scales theirs. Details: DEDUCED, log entry 52. -/
def tnReserved (d : Bytes) : Bool :=
  let op := tnOp d
  let base := fld d 2 1 / 64 != 0 || fld d 3 1 / 128 != 0 || fld d 4 1 / 32 != 0 || fld d 5 1 / 8 != 0
    || !allZero (sub d 97 31)
  base ||
  (if op == 5 then !allZero (sub d 1 4) || fld d 5 1 / 4 != 0 || !allZero (sub d 6 30) || !allZero (sub d 40 40)
      || !allZero (sub d 92 5)
   else if op == 6 then !allZero (sub d 1 4) || fld d 5 1 / 4 != 0 || !allZero (sub d 6 91)
   else if op == 4 then fld d 1 1 != 0 || tnScaled d || tnKseg d != 0 || fld d 5 1 != 0 || tnOff d 0 != 0
      || tnOff d 1 != 0 || !allZero (sub d 40 16) || !allZero (sub d 64 8) || !allZero (sub d 80 16)
   else (tnCMode d == 0 && (tnOff d 2 != 0 || tnLd d 2 != 0 || tnBs d 2 != 0))
      || (if op == 3 then fld d 3 1 != 0 || tnFixed d || fld d 6 2 != 0 || !allZero (sub d 40 8) || !allZero (sub d 88 8)
            || (tnCMode d == 0 && tnE d 2 != 0)
          else (op == 1 && !allZero (sub d 80 16)) || (!tnScaled d && !allZero (sub d 40 8))))

/-- Ranges and shapes (R132). -/
def tnShape (d : Bytes) : Bool :=
  let op := tnOp d
  let m := tnM d
  let wide := tnPath d == 1 || tnPath d == 2
  m = 0 || m > 65536 || tnN d = 0 || tnN d > 65536 || tnBatch d = 0 || tnBatch d > 65536
  || (if op == 4 then tnK d != 0 else tnK d = 0 || tnK d > 16777216)
  || tnKseg d > 4 || (!(wide && op != 4 && op != 3) && tnKseg d != 0)
  || tnShift d < -127 || ((tnOutFmt d == 0xD || op == 3) && tnShift d != 0)
  || (op == 2 && (tnKH d % 2 = 0 || tnKH d > 9 || tnKW d % 2 = 0 || tnKW d > 9 || tnDilY d = 0 || tnDilX d = 0
      || tnPad d > 1 || tnOutW d = 0 || m % tnOutW d != 0 || tnCin d = 0 || tnK d != tnKH d * tnKW d * tnCin d
      || tnInW d != (if tnPad d = 0 then tnOutW d else tnOutW d + (tnKW d - 1) * tnDilX d)))
  || (tnScaled d && ((if op == 2 then tnCin d else tnK d) % 32 != 0 || tnAFmt d == 5 || tnBFmt d == 5
      || tnAFmt d > 6 || tnBFmt d > 6))
  || (op == 3 && tnCMode d == 1 &&
      (tnE d 2 - (tnE d 0 + tnE d 1) < 0 || tnE d 2 - (tnE d 0 + tnE d 1) > 31))

/-- Alignment, row lengths and extents (R132). Details: DEDUCED, log entry 52. -/
def tnLayout (d : Bytes) : Bool :=
  let xs := (if tnUsesAB d then [0, 1] else []) ++ (if tnUsesC d then [2] else []) ++ [3]
  xs.any (fun x =>
    tnOff d x % 64 != 0 || tnLd d x % (if x = 0 && tnOp d == 2 then 32 else 64) != 0
    || tnLd d x < tnRowBytes d x || !inPad (tnExtent d x))
  || (tnScaled d && (!inPad (tnScaleExtent d 4) || !inPad (tnScaleExtent d 5)))
  || (tnUsesAB d && (meets (tnExtent d 3) (tnExtent d 0) || meets (tnExtent d 3) (tnExtent d 1)))
  || (tnScaled d && (meets (tnExtent d 3) (tnScaleExtent d 4) || meets (tnExtent d 3) (tnScaleExtent d 5)))
  || (tnUsesC d && meets (tnExtent d 3) (tnExtent d 2)
      && !(tnExtent d 3 == tnExtent d 2 && tnLd d 3 == tnLd d 2 && tnBs d 3 == tnBs d 2))

def State.ctxExtent (s : State) (n c : Nat) : Int × Int :=
  ((s.rd (F.TENS_CTX_BASE n c) : Int), ((s.rd (F.TENS_CTX_BASE n c) + s.rd (F.TENS_CTX_LENGTH n c) : Nat) : Int))

/-- D meets a sealed context. -/
def State.tnCtxHit (s : State) (n : Nat) (d : Bytes) : Bool :=
  (List.range 4).any (fun c => s.flag (F.TENS_CTX_SEALED n c) && meets (tnExtent d 3) (s.ctxExtent n c))

/-- The status a descriptor's check ends with, OK when it may start; and whether a sealed context was to be written.
Details: DEDUCED, log entries 52, 98. -/
def State.tnVerdict (s : State) (n : Nat) (d : Bytes) : Nat × Bool :=
  let op := tnOp d
  if op == 0 || op > 6 || tnReserved d then (St.badParam, false)
  else if op == 6 then (St.ok, false)
  else if op == 5 then
    let len := fld d 88 4
    let e : Int × Int := ((tnOff d 3 : Int), ((tnOff d 3 + len : Nat) : Int))
    if tnOff d 3 % 64 != 0 || len < 64 || len > 1048576 || len % 64 != 0 || !inPad e
        || s.flag (F.TENS_CTX_SEALED n (tnCtx d))
        || (List.range 4).any (fun c => s.flag (F.TENS_CTX_SEALED n c) && meets e (s.ctxExtent n c))
    then (St.badParam, false) else (St.ok, false)
  else if !tnCombo d || tnCMode d == 3 || tnShape d || tnLayout d then (St.badParam, false)
  else if s.tnCtxHit n d then (St.badParam, true)
  else if op != 4 && tnCtxEn d then
    if !s.flag (F.TENS_CTX_SEALED n (tnCtx d)) then (St.contextAbsent, false)
    else
      let b := tnExtent d 1
      let c := s.ctxExtent n (tnCtx d)
      if b.1 < c.1 || c.2 < b.2 then (St.badParam, false) else (St.ok, false)
  else (St.ok, false)

/-- Check a tensor descriptor: one that an entry read as it fired, or the one in memory as the engine takes it (R76, R110,
R132, R487). Details: DEDUCED, log entry 52. -/
def State.tnCheck (s : State) (n a : Nat) (snap : Option Bytes) : Nat × Bytes × Bool :=
  match snap with
  | some d =>
    let (st, c) := s.tnVerdict n d
    (st, d, c)
  | none =>
  match s.descAddr a 128 with
  | none => (St.badParam, [], false)
  | some l =>
    if s.poisoned l 128 then (St.poisonConsumed, [], false)
    else
      let d := s.readBytes l 128
      let (st, c) := s.tnVerdict n d
      (st, d, c)

/-- The engine takes descriptors from its queue until one starts or the queue is empty (R110, R132). -/
def takeTensor (n : Nat) : Nat → State → State
  | 0, s => s
  | k + 1, s =>
    let x := s.sp n
    match x.tens, x.tq with
    | none, q :: r =>
      let (st, d, c) := s.tnCheck n q.addr q.snap
      let s := if c then s.ctxRefused n else s
      let s := if st == St.poisonConsumed then s.ev (F.TENS_EVENTS_POISON n) else s
      if st == St.ok then
        let s := (s.setSp n { x with tens := some ⟨d, q.owner, false, St.ok, MvWalk.init⟩, tq := r }).showQueues n
        (s.wr (F.TENS_STATUS_OP n) (tnOp d)).wrReg (R.TENS_PROGRESS n) 0
      else takeTensor n k (((s.setSp n { x with tq := r }).countDesc n false q.owner st).showQueues n)
    | _, _ => s.showQueues n

def State.takeTensors (s : State) (n : Nat) : State := takeTensor n 9 s

/-! ## Operand elements -/

/-- A w-bit element at a bit position of a row; w ≤ 128 (R155). -/
def State.elem (s : State) (n off bitpos w : Nat) : Nat :=
  let a := scratchAddr n (off + bitpos / 8)
  bits (s.readNat a ((bitpos % 8 + w + 7) / 8)) (bitpos % 8) w

def State.elemPoison (s : State) (n off bitpos w : Nat) : Bool :=
  s.poisoned (scratchAddr n (off + bitpos / 8)) ((bitpos % 8 + w + 7) / 8)

/-- Offset of row i of operand x in batch b. -/
def tnRow (d : Bytes) (x b i : Nat) : Nat := ((tnOff d x : Int) + (b : Int) * tnBs d x + ((i * tnLd d x : Nat) : Int)).toNat

/-- The input point and channel of reduction index k at output row i (R141): none outside the field under PAD 0. -/
def tnPoint (d : Bytes) (i k : Nat) : Option (Nat × Nat) :=
  let ci := k % tnCin d
  let kx := k / tnCin d % tnKW d
  let ky := k / tnCin d / tnKW d
  let y := i / tnOutW d
  let x := i % tnOutW d
  if tnPad d = 1 then some ((y + ky * tnDilY d) * tnInW d + x + kx * tnDilX d, ci)
  else
    let y' : Int := (y : Int) + ((ky : Int) - (tnKH d / 2 : Nat)) * tnDilY d
    let x' : Int := (x : Int) + ((kx : Int) - (tnKW d / 2 : Nat)) * tnDilX d
    if 0 ≤ y' && y' < tnHin d && 0 ≤ x' && x' < tnInW d then some (y'.toNat * tnInW d + x'.toNat, ci) else none

/-- Where A's element for output row i, reduction index k lies: row offset and index along the row. -/
def tnAPos (d : Bytes) (b i k : Nat) : Option (Nat × Nat) :=
  if tnOp d == 2 then (tnPoint d i k).map (fun (q, ci) => (tnRow d 0 b q, ci)) else some (tnRow d 0 b i, k)

/-- The scale byte offset of A's block at reduction block j. -/
def tnSaPos (d : Bytes) (b i j : Nat) : Option Nat :=
  if tnOp d == 2 then
    (tnPoint d i (32 * j)).map (fun (q, ci) =>
      tnOff d 4 + (b * (tnHin d * tnInW d) + q) * (tnCin d / 32) + ci / 32)
  else some (tnOff d 4 + (b * tnM d + i) * (tnK d / 32) + j)

def tnSbPos (d : Bytes) (b nn j : Nat) : Nat := tnOff d 5 + (b * tnN d + nn) * (tnK d / 32) + j

/-- One output element: its code, and what it did to the counts and the amax slot. -/
structure TElem where
  code : Nat
  poison : Bool
  /-- Counted in RANGE_ELEMS. -/
  range : Bool
  /-- amax update: the value (none for no update) and the saturation. -/
  amax : Option FVal
  sat : Bool
  deriving DecidableEq, Repr

/-- Poison of any operand word of output element (b, i, nn) (R145). A point outside the field under PAD 0 contributes no product, so
its B and SB words are not read either. Details: DESIGN CHOICE, log entry 101. -/
def State.tnPoisoned (s : State) (n : Nat) (d : Bytes) (b i nn : Nat) : Bool :=
  let ks := List.range (tnK d)
  let wa := fmtWidth (tnAFmt d)
  let wb := fmtWidth (tnBFmt d)
  (tnUsesAB d && ks.any (fun k =>
    (match tnAPos d b i k with
     | some (r, e) => s.elemPoison n r (e * wa) wa || s.elemPoison n (tnRow d 1 b nn) (k * wb) wb
     | none => false)))
  || (tnScaled d && (List.range (tnK d / 32)).any (fun j =>
      match tnSaPos d b i j with
      | some o => s.elemPoison n o 0 8 || s.elemPoison n (tnSbPos d b nn j) 0 8
      | none => false))
  || (tnUsesC d &&
      (let wc := if tnCMode d = 2 then 128 else fmtWidth (tnOutFmt d)
       s.elemPoison n (tnRow d 2 b i) (nn * wc) wc))

/-- Decode a narrow element (R152). -/
def narrowVal (code c : Nat) (scaled : Bool) : FVal :=
  if code == 5 then FVal.ofInt (signed 4 c) 0 false
  else if code == 6 then FVal.ofInt (signed 8 c) (if scaled then -6 else 0) false
  else (fmtOf code).decode c

/-- What the products of an element leave: special flags, and the exact integer sum in units of 2^lsb. -/
structure NAcc where
  nan : Bool
  pinf : Bool
  ninf : Bool
  acc : Int
  deriving DecidableEq, Repr

/-- Add one product scaled by 2^sc (R133, R135). -/
def NAcc.step (st : NAcc) (a b : FVal) (sc lsb : Int) : NAcc :=
  match a.mul b with
  | .nan => { st with nan := true }
  | .inf true => { st with ninf := true }
  | .inf false => { st with pinf := true }
  | .fin neg m w => { st with acc := st.acc + sgnM neg m * 2 ^ (w + sc - lsb).toNat }

/-- ⌈log₂ K⌉. -/
def ceilLog2 (k : Nat) : Nat := if k ≤ 1 then 0 else Nat.log2 (k - 1) + 1

/-- The output of a narrow element or of ROUND from its accumulator (R133–R135, R147). -/
def tnOutput (d : Bytes) (st : NAcc) (lsb : Int) (failed : Bool) : TElem :=
  let o := tnOutFmt d
  let special : Option FVal :=
    if st.nan || (st.pinf && st.ninf) then some .nan
    else if st.pinf then some (.inf false) else if st.ninf then some (.inf true) else none
  match special with
  | some v =>
    if o == 0xD then
      ⟨if v == .inf false then 2 ^ 127 - 1 else 2 ^ 127, false, true, none, false⟩
    else
      let (c, sat) := if o == 0xC then toIntFmt 32 0 v else (fmtOf o).convert v (tnOvf d)
      ⟨c, false, false, if v.isNan then none else some v, sat⟩
  | none =>
    if failed then
      ⟨if o == 0xD then 2 ^ 127 else if o == 0xC then 2 ^ 31 else (fmtOf o).nan, false, true, none, false⟩
    else if o == 0xD then ⟨unsigned 128 st.acc, false, false, none, false⟩
    else
      let v := FVal.ofInt st.acc (lsb + tnShift d) false
      let (c, sat) := if o == 0xC then toIntFmt 32 0 v else (fmtOf o).convert v (tnOvf d)
      ⟨c, false, false, some v, sat⟩

/-- The narrow path (R133–R135). Details: DEDUCED, log entry 53. -/
def State.tnNarrow (s : State) (n : Nat) (d : Bytes) (b i nn : Nat) : TElem :=
  let sc := tnScaled d
  let wa := fmtWidth (tnAFmt d)
  let wb := fmtWidth (tnBFmt d)
  let blocks : List (Nat × Option Int) := -- each block in the field: its index, and its scale (none for a NaN block)
    if sc then (List.range (tnK d / 32)).filterMap (fun j =>
      (tnSaPos d b i j).map (fun o =>
        let sa := s.elem n o 0 8
        let sb := s.elem n (tnSbPos d b nn j) 0 8
        (j, if sa = 0xFF || sb = 0xFF then none else some ((sa : Int) - 127 + ((sb : Int) - 127)))))
    else [(0, some 0)]
  let scales := blocks.filterMap (·.2)
  let smin := scales.foldl min (scales.headD 0)
  let smax := scales.foldl max (scales.headD 0)
  let lsbAB := narrowLsb (tnAFmt d) sc + narrowLsb (tnBFmt d) sc
  let lsb := if tnFixed d then tnFrameLsb d else smin + lsbAB
  let h := smax + narrowH (tnAFmt d) sc + narrowH (tnBFmt d) sc + ceilLog2 (tnK d)
  let passes := scales.isEmpty ||
    (if tnFixed d then decide (lsb ≤ smin + lsbAB) && decide (h - lsb ≤ 127) else decide (h - lsb ≤ 127))
  let nanBlock := blocks.any (fun x => x.2.isNone)
  let start : NAcc := ⟨nanBlock, false, false, 0⟩
  let acc := (List.range (tnK d)).foldl (fun st k =>
    match tnAPos d b i k with
    | none => st
    | some (r, e) =>
      let sj : Option Int := if sc then mget blocks (k / 32) none else some 0
      match sj with
      | none => st
      | some sj => st.step (narrowVal (tnAFmt d) (s.elem n r (e * wa) wa) sc)
          (narrowVal (tnBFmt d) (s.elem n (tnRow d 1 b nn) (k * wb) wb) sc) sj lsb) start
  let c : Int := if tnCMode d = 2 then signed 128 (s.elem n (tnRow d 2 b i) (nn * 128) 128) else 0
  let total := acc.acc + c
  let ovf := total < -(2 ^ 127) || total ≥ 2 ^ 127
  tnOutput d { acc with acc := total } lsb (!passes || ovf)

/-- Pairwise sums of a list of a power-of-two length, level by level (R137). Details: DEDUCED, log entry 53. -/
def treeSum (f : Fmt) : Nat → List Nat → Nat
  | 0, l => l.headD 0
  | k + 1, l => treeSum f k ((List.range (l.length / 2)).map (fun i => f.add (l.getD (2 * i) 0) (l.getD (2 * i + 1) 0)))

/-- A's and B's elements for the wide and Q64 paths; none where the product is +0. Details: DEDUCED, log entry 53. -/
def State.tnPair (s : State) (n : Nat) (d : Bytes) (b i nn k : Nat) : Option (Nat × Nat) :=
  if tnK d ≤ k then none
  else
    let wa := fmtWidth (tnAFmt d)
    let wb := fmtWidth (tnBFmt d)
    match tnAPos d b i k with
    | none => none
    | some (r, e) => some (s.elem n r (e * wa) wa, s.elem n (tnRow d 1 b nn) (k * wb) wb)

/-- The wide path (R137, R138). Details: DEDUCED, log entry 53. -/
def State.tnWide (s : State) (n : Nat) (d : Bytes) (b i nn : Nat) : TElem :=
  let half := tnPath d == 1
  let fin := fmtOf (tnAFmt d)
  let fo := fmtOf (tnOutFmt d)
  let acc := if half then fmtFP32 else fin
  let segs := 2 ^ tnKseg d
  let len := (tnK d + segs * 16 - 1) / (segs * 16) * 16
  let parts := (List.range segs).map (fun g =>
    if half then
      (List.range (len / 16)).foldl (fun part c =>
        let ps := (List.range 16).map (fun q =>
          match s.tnPair n d b i nn (g * len + 16 * c + q) with
          | some (x, y) => acc.enc ((fin.decode x).mul (fin.decode y))
          | none => 0)
        acc.add part (treeSum acc 4 ps)) 0
    else
      (List.range len).foldl (fun part k =>
        match s.tnPair n d b i nn (g * len + k) with
        | some (x, y) => acc.fma x y part
        | none => acc.add 0 part) 0)
  let r := treeSum acc (tnKseg d) parts
  let r := if tnCMode d = 1 then
      let w := fmtWidth (tnOutFmt d)
      let c := s.elem n (tnRow d 2 b i) (nn * w) w
      acc.enc ((acc.decode r).add (fo.decode c))
    else r
  let v : FVal := match acc.decode r with
    | .fin neg m w => .fin neg m (w + tnShift d)
    | v => v
  let (c, sat) := fo.convert v (tnOvf d)
  ⟨c, false, false, if half && !v.isNan then some v else none, half && sat⟩

/-- The Q64 path (R140). Details: DEDUCED, log entry 53. -/
def State.tnQ64 (s : State) (n : Nat) (d : Bytes) (b i nn : Nat) : TElem :=
  let sum : Int := (List.range (tnK d)).foldl (fun acc k =>
    match s.tnPair n d b i nn k with
    | some (x, y) => acc + signed 64 x * signed 64 y
    | none => acc) 0
  let eab := tnE d 0 + tnE d 1
  let sum := if tnCMode d = 1 then
      sum + signed 64 (s.elem n (tnRow d 2 b i) (nn * 64) 64) * 2 ^ (tnE d 2 - eab).toNat
    else sum
  let q := scaleRne sum.natAbs (eab - tnE d 3)
  let (c, sat) := satInt 64 (if sum < 0 then -(q : Int) else q)
  ⟨c, false, sat, none, false⟩

/-- ROUND of an ACC128 element in the frame FRAME_LSB (R133). -/
def State.tnRound (s : State) (n : Nat) (d : Bytes) (b i nn : Nat) : TElem :=
  tnOutput d ⟨false, false, false, signed 128 (s.elem n (tnRow d 2 b i) (nn * 128) 128)⟩ (tnFrameLsb d) false

/-- One output element of the running descriptor. Details: DEDUCED, log entry 53. -/
def State.tnElem (s : State) (n : Nat) (d : Bytes) (b i nn : Nat) : TElem :=
  if s.tnPoisoned n d b i nn then ⟨0, true, false, none, false⟩
  else if tnOp d == 4 then s.tnRound n d b i nn
  else if tnPath d == 0 then s.tnNarrow n d b i nn
  else if tnPath d == 3 then s.tnQ64 n d b i nn
  else s.tnWide n d b i nn

/-- amax_update of R169 on a slot of a spire; v = none for no magnitude. -/
def State.amaxUpdate (s : State) (n slot : Nat) (v : Option FVal) (sat : Bool) : State :=
  let s := match v with
    | some v =>
      let a := fp32Code v.abs
      if a > s.rd (F.SPIRE_AMAX_AMAX n slot) then s.wr (F.SPIRE_AMAX_AMAX n slot) a else s
    | none => s
  if sat then s.inc (F.SPIRE_AMAX_SAT_COUNT n slot) else s

/-! ## Running (R133–R148) -/

/-- A run's state and the conditions it met. -/
structure TnRun where
  s : State
  poison : Bool
  range : Bool
  deriving DecidableEq, Repr

/-- Tiles of 64 × 64 outputs along the rows and columns of one batch. -/
def tnTilesM (d : Bytes) : Nat := (tnM d + 63) / 64
def tnTilesN (d : Bytes) : Nat := (tnN d + 63) / 64

/-- Compute and write the part of output row i that tile column tj holds. A tile listed in `bad` is written as poison
(R146): its elements update no amax slot, count no range and raise no POISON event, whatever they read. Of a D word that a poisoned
element makes poison, a clean element still updates its slot and counts under R134. Details: DESIGN CHOICE, log entry 101. -/
def TnRun.segment (r : TnRun) (n : Nat) (d : Bytes) (b i tj : Nat) (bad : Bool) : TnRun :=
  let cols := (List.range (min 64 (tnN d - 64 * tj))).map (fun c => 64 * tj + c)
  let w := fmtWidth (tnOutFmt d) / 8
  let es := cols.map (fun nn => r.s.tnElem n d b i nn)
  let cells := es.flatMap (fun e => (natLE w e.code).map (fun x => (x, bad || e.poison)))
  let s := r.s.writeCells (scratchAddr n (tnRow d 3 b i + 64 * tj * w)) cells
  if bad then { r with s := s }
  else
    let s := es.foldl (fun s e => if e.poison then s else s.amaxUpdate n (tnSlot d) e.amax e.sat) s
    let s := es.foldl (fun s e => if e.range then (s.inc (F.TENS_COUNTS_RANGE_ELEMS n)).ev (F.TENS_EVENTS_RANGE n)
      else s) s
    { s := s, poison := r.poison || es.any (·.poison), range := r.range || es.any (·.range) }

/-- Run every tile that `sel` selects; `bad` lists the tiles that fail their recompute. -/
def TnRun.tiles (r : TnRun) (n : Nat) (d : Bytes) (sel : Nat → Bool) (bad : List Nat) : TnRun :=
  let tm := tnTilesM d
  let tn := tnTilesN d
  (List.range (tnBatch d)).foldl (fun r b =>
    (List.range (tnM d)).foldl (fun r i =>
      (List.range tn).foldl (fun r tj =>
        let k := (b * tm + i / 64) * tn + tj
        if sel k then r.segment n d b i tj (bad.contains k) else r) r) r) r

/-- Whether the engine checks residues: the exact paths in every profile, the wide path in the Sealed profile (R27, R146). -/
def State.tnChecked (s : State) (d : Bytes) : Bool := tnPath d == 0 || tnPath d == 3 || s.sealed

/-- Run the engine's descriptor if its OP is this command's. Of the tiles whose residues are checked `retries` matched on recompute
and those of `bad` failed it (R146); `ecc` is what the ECC finds. Details: DEDUCED, log entry 52. -/
def State.runTensor (s : State) (n op retries : Nat) (bad : List Nat) (ecc : EccFinds) : State :=
  let x := s.sp n
  match x.tens with
  | some run =>
    if run.worked || tnOp run.desc != op then s
    else
      let d := run.desc
      let total := tnBatch d * tnTilesM d * tnTilesN d
      let bad := if s.tnChecked d then (bad.filter (· < total)).foldl sinsert [] else []
      let again := if s.tnChecked d then min retries (total - bad.length) + bad.length else 0
      let r := (TnRun.mk (s.eccAll ecc) false false).tiles n d (fun _ => true) bad
      let s := r.s
      let s := if again = 0 then s
        else (s.inc (F.TENS_COUNTS_RESIDUE_RETRIES n) again).ev (F.TENS_EVENTS_RESIDUE_RETRY n)
      let s := if bad.isEmpty then s
        else (s.inc (F.TENS_COUNTS_RESIDUE_FAILS n) bad.length).ev (F.TENS_EVENTS_RESIDUE_FAIL n)
      let s := if r.poison then s.ev (F.TENS_EVENTS_POISON n) else s
      let s := (s.wr (F.TENS_PROGRESS_TILES n) total).wr (F.TENS_PROGRESS_BATCH n) (tnBatch d - 1)
      let s := s.incw (F.TENS_MACS_VALUE n) (tnBatch d * tnM d * tnN d * tnK d)
      let st := if !bad.isEmpty then St.residueMismatch else if r.poison then St.poisonConsumed
        else if r.range then St.rangeExceeded else St.ok
      let x := s.sp n
      s.setSp n { x with tens := some { run with worked := true, status := st } }
  | none => s

def execGemm (n : Fin 288) (retries : Nat) (bad : List Nat) (ecc : EccFinds) (s : State) : Out :=
  ok (s.runTensor n 1 retries bad ecc)
def execStencil (n : Fin 288) (retries : Nat) (bad : List Nat) (ecc : EccFinds) (s : State) : Out :=
  ok (s.runTensor n 2 retries bad ecc)
def execQ64Gemm (n : Fin 288) (retries : Nat) (bad : List Nat) (ecc : EccFinds) (s : State) : Out :=
  ok (s.runTensor n 3 retries bad ecc)
def execRound (n : Fin 288) (ecc : EccFinds) (s : State) : Out := ok (s.runTensor n 4 0 [] ecc)

/-- Mark the running descriptor worked with a status. Details: DEDUCED, log entries 52, 91. -/
def State.tensorWorked (s : State) (n status : Nat) : State :=
  let x := s.sp n
  match x.tens with
  | some r => s.setSp n { x with tens := some { r with worked := true, status := status } }
  | none => s

/-- The SEALED mask of TENS_STATUS. -/
def State.showSealed (s : State) (n : Nat) : State :=
  s.wr (F.TENS_STATUS_SEALED n) (maskOf ((List.range 4).filter (fun c => s.flag (F.TENS_CTX_SEALED n c))))

/-- CTX_SEAL: lock, CRC-64, then seal, or release the lock (R142). -/
def execCtxSeal (n : Fin 288) (ecc : EccFinds) (s : State) : Out :=
  match (s.sp n).tens with
  | some r =>
    if r.worked || tnOp r.desc != 5 then ok s
    else
      let s := s.eccAll ecc
      let d := r.desc
      let len := fld d 88 4
      let a := scratchAddr n (tnOff d 3)
      let crc := crc64 (s.readBytes a len)
      let c := tnCtx d
      if s.poisoned a len then ok ((s.ev (F.TENS_EVENTS_SEAL_FAIL n)).tensorWorked n St.poisonConsumed)
      else if crc != fld d 80 8 then ok ((s.ev (F.TENS_EVENTS_SEAL_FAIL n)).tensorWorked n St.digestMismatch)
      else
        let s := (s.wr (F.TENS_CTX_BASE n c) (tnOff d 3)).wr (F.TENS_CTX_LENGTH n c) len
        let s := (s.wr (F.TENS_CTX_SEALED n c) 1).wr (F.TENS_CTX_CRC_CRC n c) crc
        ok ((s.showSealed n).tensorWorked n St.ok)
  | none => ok s

/-- Release a resident context; the bytes stay (R144), and the slot's TENS_CTX and TENS_CTX_CRC return to their reset values.
Details: DESIGN CHOICE, log entry 101. -/
def State.dropCtx (s : State) (n c : Nat) : State :=
  ((s.wrReg (R.TENS_CTX n c) 0).wrReg (R.TENS_CTX_CRC n c) 0).showSealed n

def execCtxDrop (n : Fin 288) (s : State) : Out :=
  match (s.sp n).tens with
  | some r =>
    if r.worked || tnOp r.desc != 6 then ok s
    else ok ((s.dropCtx n (tnCtx r.desc)).tensorWorked n St.ok)
  | none => ok s

/-- Drop every context of a spire by reset, OFF or JOB_RELEASE (R144). -/
def State.dropAllCtx (s : State) (n : Nat) : State :=
  if (List.range 4).any (fun c => s.flag (F.TENS_CTX_SEALED n c)) then
    (forEach [0, 1, 2, 3] s (fun c s => s.dropCtx n c)).ev (F.TENS_EVENTS_CTX_DROPPED n)
  else s

/-- TENSOR_DESCRIPTOR_COMPLETE: the worked descriptor is counted with its status; a failure discards the queue; the next
is taken (R112, R113, R148). `cycles` is how long it ran (R150). -/
def execTensorDescriptorComplete (n : Fin 288) (cycles : Nat) (s : State) : Out :=
  let x := s.sp n
  match x.tens with
  | some r =>
    if !r.worked then ok s
    else
      let s := ((s.setSp n { x with tens := none }).wr (F.TENS_STATUS_OP n) 0).incw (F.TENS_BUSY_VALUE n) cycles
      let s := s.countDesc n false r.owner r.status
      let s := if isSuccess r.status then s else s.discardQueue n false r.status
      ok ((s.retryIssue n).takeTensors n)
  | none => ok s

/-- A stopped descriptor has written a free set of whole tiles (R148); the engine then holds none.
Details: DEDUCED, log entry 52. -/
def State.stopTensor (s : State) (n : Nat) : State :=
  let x := s.sp n
  match x.tens with
  | none => s
  | some run =>
    let s' :=
      if run.worked || tnOp run.desc ≥ 5 then s
      else
        let d := run.desc
        let total := tnBatch d * tnTilesM d * tnTilesN d
        let sel := fun k => Config.freeBool s.fresh (2 ^ 48 * n + k)
        let r := (TnRun.mk s false false).tiles n d sel []
        (r.s.wr (F.TENS_PROGRESS_TILES n) ((List.range total).filter sel).length)
    let x := s'.sp n
    ((s'.setSp n { x with tens := none }).wr (F.TENS_STATUS_OP n) 0).showQueues n

end Sys2Proof.Machine
end

