-- ==== Sys2Proof/Machine/Vector.lean ====
section
/-! DEFINITION. The short-vector unit (R171–R189): groups as bit streams, element arithmetic, memory instructions with
their faults, conversions, reductions, and its power. -/

namespace Sys2Proof.Machine

open Sys2Proof

/-! ## Groups (R173, R174) -/

def Spire.vreg (x : Spire) (r : Nat) : VReg := mget x.v r VReg.zero

/-- w bits at bit lo of the stream of the group that begins at a register; they span at most two registers. -/
def Spire.bitsAt (x : Spire) (first lo w : Nat) : Nat :=
  let a := (x.vreg (first + lo / 512)).val.toNat
  let b := (x.vreg (first + lo / 512 + 1)).val.toNat
  bits (a + 2 ^ 512 * b) (lo % 512) w

def Spire.setBitsAt (x : Spire) (first lo w v : Nat) : Spire :=
  let r := first + lo / 512
  let one := fun (x : Spire) (r pos n v : Nat) =>
    let g := x.vreg r
    { x with v := mput x.v r { g with val := BitVec.ofNat 512 (setBits g.val.toNat pos n v) } }
  let n := min w (512 - lo % 512)
  let x := one x r (lo % 512) n v
  if n < w then one x (r + 1) 0 (w - n) (v >>> n) else x

/-- Mark of slice i of a group. -/
def Spire.slice (x : Spire) (first i : Nat) : Bool := bit (x.vreg (first + i / 8)).poison (i % 8)

/-- Details: DEDUCED, log entry 55. -/
def Spire.setSlice (x : Spire) (first i : Nat) (b : Bool) : Spire :=
  let r := first + i / 8
  let g := x.vreg r
  { x with v := mput x.v r { g with poison := setBit g.poison (i % 8) b } }

/-- Element i of w bits, and whether a slice it lies in is poisoned. -/
def Spire.el (x : Spire) (first w i : Nat) : Nat := x.bitsAt first (i * w) w
def Spire.elPoison (x : Spire) (first w i : Nat) : Bool :=
  x.slice first (i * w / 64) || x.slice first ((i * w + w - 1) / 64)

/-- Write elements from index `start` on; a slice written whole takes the marks of its elements alone, one written in
part keeps its own mark beside them. Details: DEDUCED, log entry 55. -/
def Spire.putEls (x : Spire) (first w start : Nat) (vals : List (Nat × Bool)) : Spire :=
  let n := vals.length
  let lo := start * w
  let hi := (start + n) * w
  let x1 := (List.range n).foldl (fun x j => x.setBitsAt first ((start + j) * w) w (vals.getD j (0, false)).1) x
  let slices := if n = 0 then [] else (List.range ((hi - 1) / 64 - lo / 64 + 1)).map (fun j => lo / 64 + j)
  slices.foldl (fun x1 sl =>
    let whole := lo ≤ 64 * sl && 64 * sl + 64 ≤ hi
    let any := (List.range n).any (fun j =>
      (vals.getD j (0, false)).2 && (start + j) * w < 64 * sl + 64 && 64 * sl < (start + j + 1) * w)
    x1.setSlice first sl (any || (!whole && x.slice first sl))) x1

/-- The float format of an element width. -/
def Spire.fmt (x : Spire) : Fmt :=
  if x.ew = 1 then (if x.f16 = 1 then fmtBF16 else fmtFP16) else if x.ew = 2 then fmtFP32 else fmtFP64

/-! ## Running an instruction (R173, R187, R189) -/

/-- The unit wakes for an instruction when it is powered down (R189), and its busy cycles count: one or more for each, how many is
free (Table 8.11). Details: DESIGN CHOICE, log entry 9. -/
def State.svWake (s : State) (n : Nat) : State :=
  let s := s.incw (F.VEC_BUSY_CYCLES n) (1 + s.free 0 (2 ^ 64))
  if s.rd (F.VEC_STATUS_POWER n) == 2 then s
  else (s.wr (F.VEC_STATUS_POWER n) 2).inc (F.VEC_COUNTS_WAKES n)

/-- End an instruction whose destination is a group of k registers (k = 0 for none). In the Sealed profile `res` is what
the residues found: 1 a retry that matched, 2 a second mismatch, which poisons the destination and traps (R187).
Details: DEDUCED, log entry 91. -/
def State.svEnd (s : State) (n res dst k rd : Nat) (v : Word) : State :=
  if !s.sealed || res = 0 then s.vecDone n rd v
  else
    let s := (s.inc (F.VEC_COUNTS_RESIDUE_RETRIES n)).ev (F.VEC_EVENTS_RESIDUE_RETRY n)
    if res = 1 then s.vecDone n rd v
    else
      let x := (List.range (8 * k)).foldl (fun x i => x.setSlice dst i true) (s.sp n)
      let s := ((s.setSp n x).inc (F.VEC_COUNTS_RESIDUE_FAILS n)).ev (F.VEC_EVENTS_RESIDUE_FAIL n)
      s.coreTrap n Cause.hardware 3 0

/-- After an instruction: a core that has stopped has the Weir's puts that hold its stores flushed (R226, R268). -/
def State.coreDone (s : State) (n : Nat) : State :=
  if s.rd (F.SPIRE_STATUS_CORE n) % 2 = 0 then s.flushOwned (Waiter.postOf n) else s

/-- An instruction of a running core: illegal with no effect, or its effect. -/
def State.svRun (s : State) (n : Nat) (legal : Spire → Bool) (f : State → Spire → State) : Out :=
  if !s.coreRuns n then ok s
  else
    let s := s.svWake n
    ok ((if legal (s.sp n) then f s (s.sp n) else s.illegal n).coreDone n)

/-- Element arithmetic: elements VL_START to VL − 1 of the destination group receive `compute`'s values and marks. -/
def State.svArith (s : State) (n res dst : Nat) (legal : Spire → Bool) (compute : Spire → Nat → Nat × Bool) : Out :=
  s.svRun n (fun x => groupOk dst (svSpan x.span) && legal x) (fun s x =>
    let start := s.vecIdx n
    let vals := (List.range (x.vl - start)).map (fun j => compute x (start + j))
    (s.setSp n (x.putEls dst (svBits x.ew) start vals)).svEnd n res dst (svSpan x.span) 0 0)

/-- The second operand of an arithmetic instruction: a group, or the low EW bits of an integer register (Table 8.2). -/
def Spire.opB (x : Spire) (scalar : Bool) (r i : Nat) : Nat × Bool :=
  let w := svBits x.ew
  if scalar then ((x.xr r).toNat % 2 ^ w, false) else (x.el r w i, x.elPoison r w i)

def Spire.groups (x : Spire) (l : List Nat) : Bool := l.all (fun r => groupOk r (svSpan x.span))

/-- A two-operand instruction over integer or float codes. -/
def State.svBin (s : State) (n res : Nat) (scalar : Bool) (wd ws1 r2 : Nat) (isFloat : Bool)
    (f : Spire → Nat → Nat → Nat) : Out :=
  s.svArith n res wd (fun x => x.groups (if scalar then [ws1] else [ws1, r2]) && (!isFloat || x.ew != 0)) (fun x i =>
    let w := svBits x.ew
    let (b, pb) := x.opB scalar r2 i
    (f x (x.el ws1 w i) b, x.elPoison ws1 w i || pb))

/-! ## Configuration and moves (R172, Table 8.3) -/

def execSvCfg (n : Fin 288) (rd rs1 rs2 : Fin 32) (s : State) : Out :=
  s.svRun n (fun x => (x.xr rs2).toNat < 32) (fun s x =>
    let c := (x.xr rs2).toNat
    let ew := bits c 0 2
    let span := bits c 2 2
    let vl := min (x.xr rs1).toNat (svVlmax ew span)
    let s := (s.setSp n { x with ew := ew, span := span, f16 := bits c 4 1, vl := vl }).showVec n
    s.vecDone n rd (BitVec.ofNat 64 vl))

def execSvBcast (n : Fin 288) (wd rs1 : Fin 32) (s : State) : Out :=
  s.svArith n 0 wd (fun _ => true) (fun x _ => ((x.xr rs1).toNat % 2 ^ svBits x.ew, false))

def execSvExt (n : Fin 288) (rd ws rs2 : Fin 32) (s : State) : Out :=
  s.svRun n (fun x => x.groups [ws]) (fun s x =>
    let w := svBits x.ew
    let i := (x.xr rs2).toNat
    if x.vl ≤ s.vecIdx n then s.vecDone n 0 0
    else if svVlmax x.ew x.span ≤ i then s.vecDone n rd 0
    else if x.elPoison ws w i then s.coreTrap n Cause.hardware 3 0
    else s.vecDone n rd (BitVec.ofNat 64 (sext64 w (x.el ws w i))))

/-- SV.PERM: a destination that overlaps a source, which the rule forbids, is an illegal instruction (R175).
Details: DESIGN CHOICE, log entry 101. -/
def execSvPerm (n : Fin 288) (wd ws1 ws2 : Fin 32) (s : State) : Out :=
  s.svArith n 0 wd (fun x =>
      let k := svSpan x.span
      x.groups [ws1, ws2] && !groupsMeet wd k ws1 k && !groupsMeet wd k ws2 k) (fun x i =>
    let w := svBits x.ew
    let j := x.el ws2 w i
    let p := x.elPoison ws2 w i
    if j < x.vl then (x.el ws1 w j, p || x.elPoison ws1 w j) else (0, p))

/-! ## Integer and float arithmetic (Table 8.3, R183) -/

def execSvAddSubMul (n : Fin 288) (k res : Fin 3) (scalar : Bool) (wd ws1 r2 : Fin 32) (s : State) : Out :=
  s.svBin n res scalar wd ws1 r2 false (fun x a b =>
    let w := svBits x.ew
    if k = 0 then (a + b) % 2 ^ w else if k = 1 then (a + 2 ^ w - b) % 2 ^ w else a * b % 2 ^ w)

def execSvMinMax (n : Fin 288) (mx sgn : Bool) (res : Fin 3) (scalar : Bool) (wd ws1 r2 : Fin 32) (s : State) : Out :=
  s.svBin n res scalar wd ws1 r2 false (fun x a b => iminMax (svBits x.ew) mx sgn a b)

def execSvAndOrXor (n : Fin 288) (k res : Fin 3) (scalar : Bool) (wd ws1 r2 : Fin 32) (s : State) : Out :=
  s.svBin n res scalar wd ws1 r2 false (fun _ a b => if k = 0 then a &&& b else if k = 1 then a ||| b else a ^^^ b)

def execSvSllSrlSra (n : Fin 288) (k res : Fin 3) (scalar : Bool) (wd ws1 r2 : Fin 32) (s : State) : Out :=
  s.svBin n res scalar wd ws1 r2 false (fun x a b =>
    let w := svBits x.ew
    let sh := b % w
    if k = 0 then a * 2 ^ sh % 2 ^ w else if k = 1 then a / 2 ^ sh else unsigned w (signed w a / 2 ^ sh))

def execSvFaddFsubFmul (n : Fin 288) (k res : Fin 3) (scalar : Bool) (wd ws1 r2 : Fin 32) (s : State) : Out :=
  s.svBin n res scalar wd ws1 r2 true (fun x a b =>
    if k = 0 then x.fmt.add a b else if k = 1 then x.fmt.sub a b else x.fmt.mul a b)

def execSvFminFmax (n : Fin 288) (mx : Bool) (res : Fin 3) (scalar : Bool) (wd ws1 r2 : Fin 32) (s : State) : Out :=
  s.svBin n res scalar wd ws1 r2 true (fun x a b => fminMax x.fmt mx a b)

/-- wd = wd + ws1 × ws2, one rounding. -/
def execSvFmacc (n : Fin 288) (res : Fin 3) (scalar : Bool) (wd ws1 r2 : Fin 32) (s : State) : Out :=
  s.svArith n res wd (fun x => x.groups (if scalar then [ws1.val] else [ws1.val, r2.val]) && x.ew != 0) (fun x i =>
    let w := svBits x.ew
    let (b, pb) := x.opB scalar r2 i
    (x.fmt.fma (x.el ws1 w i) b (x.el wd w i), x.elPoison ws1 w i || pb || x.elPoison wd w i))

/-! ## Memory (R176–R182) -/

/-- Bytes of a field, and the byte offset of field f of element i: at unit stride, of a record, or by an index (R176, R178, R179). -/
def Spire.svBytes (x : Spire) : Nat := svBits x.ew / 8
def Spire.svOff (x : Spire) (r : SvRun) (i f : Nat) : Nat :=
  match r.index with
  | some wi => x.el wi (svBits x.ew) i * x.svBytes
  | none => (i * r.nf + f) * x.svBytes

/-- The address of a field (R176): none when it or its bytes leave bits [47:0]. -/
def Spire.svAddr (x : Spire) (r : SvRun) (i f : Nat) : Option Nat :=
  match formAddr r.base (x.svOff r i f : Nat) with
  | some a => if a % 2 ^ 48 + x.svBytes ≤ 2 ^ 48 then some a else none
  | none => none

/-- The address as issued, for a fault record: the whole base with the offset added in 64 bits (R180).
Details: DESIGN CHOICE, log entry 101. -/
def issuedAddr (base off : Nat) : Nat := (base + off) % 2 ^ 64

/-- A unit's access of m bytes that stops at once: refused here, or by the Weir for want of a window that allows it (R180, R266).
The answer is the state with the events of the refusal. -/
def State.svRefused (s : State) (addr : Option Nat) (m : Nat) (store : Bool) : Option State :=
  match addr with
  | none => some s
  | some a =>
    let (t, st) := s.coreTarget a m store
    match t with
    | .weir node l =>
      let w := s.weirStatus node l store
      if w != St.ok then some (s.semEvent w) else none
    | .pond _ _ => none
    | _ => if st != St.ok then some (s.noteRefusal t m st store) else none

/-- The instruction at hand, changed. -/
def State.setSv (s : State) (n : Nat) (r : SvRun) : State := s.setSp n { s.sp n with sv := some r }

/-- What a load has read of whole elements goes to its groups (R173, R178). -/
def State.svPut (s : State) (n : Nat) (r : SvRun) : State :=
  if r.store then s
  else
    let x := s.sp n
    let k := svSpan x.span
    let start := r.elem - r.done.length
    s.setSp n ((List.range r.nf).foldl (fun x f =>
      x.putEls (r.group + f * k) (svBits x.ew) start (r.done.map (fun vs => vs.getD f (0, false)))) x)

/-- The instruction stops at element r.elem, its address as issued (R180). -/
def State.svFault (s : State) (n : Nat) (r : SvRun) (f : Nat) : State :=
  let x := s.sp n
  (s.svPut n r).vecFault n r.elem (issuedAddr r.base (x.svOff r r.elem f)) r.store

/-- Every element is done: a load's data is in its groups, and the core goes on. Of a store the writes are performed at home and its
twins have met, else none (R177, R182, R424). -/
def State.svFinish (s : State) (n : Nat) (r : SvRun) : Option State :=
  if r.store && s.unitOut n true then none
  else
    let s := s.svPut n r
    let k := svSpan (s.sp n).span
    some (((s.setSp n { s.sp n with sv := none, wait := .none }).setCore n 1).svEnd n r.res (if r.store then 0 else r.group)
      (if r.store then 0 else r.nf * k) 0 0)

/-- A field is done; a load has read it. With the last field of an element a load's poison sets the flags (R181). -/
def State.svNext (s : State) (n : Nat) (r : SvRun) (cell : Nat × Bool) : State :=
  let r := { r with off := 0, part := [], acc := .none, fields := r.fields ++ [cell] }
  if r.field + 1 < r.nf then s.setSv n { r with field := r.field + 1 }
  else
    let s := if !r.store && r.fields.any (·.2) then s.vecPoison n else s
    s.setSv n { r with elem := r.elem + 1, field := 0, fields := [], done := if r.store then [] else r.done ++ [r.fields] }

/-- `cs` more bytes of a field are done. -/
def State.svTake (s : State) (n : Nat) (r : SvRun) (cs : List (Byte × Bool)) : State :=
  let part := r.part ++ cs
  if part.length < (s.sp n).svBytes then s.setSv n { r with off := r.off + cs.length, part := part, acc := .none }
  else s.svNext n r (leNat (part.map (·.1)), part.any (·.2))

/-- The bytes of a field of another node that one request carries. -/
def svPiece (a off rest : Nat) : Nat := ([8, 4, 2].find? (fun p => p ≤ rest && (a + off) % p == 0)).getD 1

/-- The bytes of the field at hand that a store writes, with the marks of the slices they lie in (R181). -/
def Spire.svCells (x : Spire) (r : SvRun) : List (Byte × Bool) :=
  let g := r.group + r.field * svSpan x.span
  let w := svBits x.ew
  (natLE x.svBytes (x.el g w r.elem)).map (·, x.elPoison g w r.elem)

/-- Whether a field of the record at hand lies in bytes whose twin the pair still holds (R424). -/
def State.svHeld (s : State) (n : Nat) (r : SvRun) : Bool :=
  let x := s.sp n
  !r.store && !s.check.twins.isEmpty && (List.range r.nf).any (fun f =>
    match (x.svAddr r r.elem f).bind s.localOf with
    | some l => s.twinHeld (n / 18) l x.svBytes
    | none => false)

/-- The field at hand, or the next piece of it at another node. None while the core waits. Details: DEDUCED, log entry 55. -/
def State.svField (s : State) (n : Nat) (r : SvRun) : Option State :=
  let x := s.sp n
  match x.svAddr r r.elem r.field with
  | none => some (s.svFault n r r.field)
  | some a =>
    let (t, _) := s.coreTarget a x.svBytes r.store
    if t.remote then
      let p := svPiece a r.off (x.svBytes - r.off)
      let (t, _) := s.coreTarget (a + r.off) p r.store
      if s.stalls (spireEngine n) t then none
      else
        let s := s.setSv n { r with acc := .out }
        some (if r.store then s.remoteStore (spireEngine n) t 0 (((x.svCells r).drop r.off).take p) (.unit n true)
          else s.remoteLoad (spireEngine n) p t 0 (.unit n true))
    else if r.store then
      some ((s.unitWrite (n / 18) PairUnit.vector (n % 18) t.loc (x.svCells r)).svNext n r (0, false))
    else some (s.svTake n r (s.readCells t.loc x.svBytes))

/-- An element begins: it stops at the first field that is refused, before any field is performed (R178, R180).
Details: DEDUCED, log entry 55. -/
def State.svBegin (s : State) (n : Nat) (r : SvRun) : Option State :=
  let x := s.sp n
  if r.field != 0 || r.off != 0 then s.svField n r
  else match (List.range r.nf).findSome? (fun f =>
      (s.svRefused (x.svAddr r r.elem f) x.svBytes r.store).map (fun t => (f, t))) with
    | some (f, t) => some (t.svFault n r f)
    | none => if s.svHeld n r then none else s.svField n r

/-- The outcome of a remote access of the instruction (Table 11.4): a dead node gives the value of R261 and the flags of R181; any
other failure stops the instruction at its element. A store that a dead node concluded is a posted failure of the node's and no
failure of the core's part (R181). Details: DEDUCED, log entry 55. -/
def State.svOutcome (s : State) (n : Nat) (r : SvRun) (st : Nat) (cs : List (Byte × Bool)) : State :=
  let x := s.sp n
  let a := (x.svAddr r r.elem r.field).getD 0
  let p := svPiece a r.off (x.svBytes - r.off)
  if !isSuccess st && st != St.targetDead then s.svFault n r r.field
  else
    let cs := if r.store then List.replicate p (0, false)
      else if isSuccess st then cs
      else (deadBytes (a + r.off) p).map (·, false)
    (if isSuccess st then s else s.vecDead n).svTake n r cs

/-- One field or piece of a short-vector memory instruction; none when the core waits or has no such instruction. -/
def State.svStep (s : State) (n : Nat) : Option State :=
  match (s.sp n).sv with
  | none => none
  | some r =>
    if (s.sp n).vl ≤ r.elem then s.svFinish n r
    else match r.acc with
      | .none => s.svBegin n r
      | .out => none
      | .got st cs => some (s.svOutcome n r st cs)

/-- Steps enough for a whole instruction. -/
def State.svFuel (s : State) (n : Nat) : Nat :=
  match (s.sp n).sv with
  | some r => 3 * ((s.sp n).vl * r.nf * (s.sp n).svBytes) + 3
  | none => 0

/-- A short-vector memory instruction runs until it waits or completes; of a pair, both members' do (R424). -/
def svRunOn (n : Nat) : Nat → State → State
  | 0, s => s
  | k + 1, s =>
    match s.svStep n with
    | some s => svRunOn n k s
    | none =>
      if !s.sealed then s
      else match s.svStep (mirror n) with
        | some s => svRunOn n k s
        | none => s

def State.svGo (s : State) (n : Nat) : State := svRunOn n (s.svFuel n + s.svFuel (mirror n)) s

/-- A short-vector memory instruction of a running core, or, while the core waits in one, the next look at what it waits for.
`ecc` is what the ECC finds in what it reads. -/
def State.svMem (s : State) (n : Nat) (ecc : EccFinds) (legal : Spire → Bool) (start : State → Spire → SvRun) : Out :=
  if (s.sp n).wait == .sv then ok ((s.eccAll ecc).svGo n)
  else s.svRun n legal (fun s x => ((((s.eccAll ecc).setSv n (start s x)).coreWait n .sv).svGo n))

/-- A load into `nf` groups that begin at wd, or a store from them. -/
def State.svMove (s : State) (n res : Nat) (store : Bool) (w rs1 nf : Nat) (index : Option Nat) (legal : Spire → Bool)
    (ecc : EccFinds) : Out :=
  s.svMem n ecc (fun x => let k := svSpan x.span; groupOk w k && w + nf * k ≤ 32 && legal x) (fun s x =>
    { store := store, group := w, nf := nf, base := (x.xr rs1).toNat, index := index, res := res, elem := s.vecIdx n, field := 0,
      off := 0, part := [], acc := .none, fields := [], done := [] })

def execSvLd (n : Fin 288) (res : Fin 3) (wd rs1 : Fin 32) (ecc : EccFinds) (s : State) : Out :=
  s.svMove n res false wd rs1 1 none (fun _ => true) ecc

def execSvSt (n : Fin 288) (res : Fin 3) (ws rs1 : Fin 32) (s : State) : Out :=
  s.svMove n res true ws rs1 1 none (fun _ => true) []

/-- SV.LSEGn with n = nf + 2 fields. -/
def execSvLseg (n : Fin 288) (nf res : Fin 3) (wd rs1 : Fin 32) (ecc : EccFinds) (s : State) : Out :=
  s.svMove n res false wd rs1 (nf + 2) none (fun _ => true) ecc

def execSvSseg (n : Fin 288) (nf res : Fin 3) (ws rs1 : Fin 32) (s : State) : Out :=
  s.svMove n res true ws rs1 (nf + 2) none (fun _ => true) []

def execSvGth (n : Fin 288) (res : Fin 3) (wd rs1 wi : Fin 32) (ecc : EccFinds) (s : State) : Out :=
  s.svMove n res false wd rs1 1 (some wi) (fun x =>
    let k := svSpan x.span
    2 ≤ x.ew && groupOk wi k && !groupsMeet wd k wi k) ecc

def execSvSct (n : Fin 288) (res : Fin 3) (ws rs1 wi : Fin 32) (s : State) : Out :=
  s.svMove n res true ws rs1 1 (some wi) (fun x => 2 ≤ x.ew && groupOk wi (svSpan x.span)) []

/-- A deadline stops the unit inside an instruction: the elements already written are not defined (R182). A load's are those of its
groups; a store's, the bytes of this node it wrote. Details: DEDUCED, log entry 55. -/
def State.stopSv (s : State) (n : Nat) : State :=
  let x := s.sp n
  match x.sv with
  | none => s
  | some r =>
    let w := svBits x.ew
    let from_ := s.vecIdx n
    let each := (List.range (r.elem - from_)).flatMap (fun j => (List.range r.nf).map (fun f => (from_ + j, f)))
    let s := each.foldl (fun s (i, f) =>
      if r.store then
        match (x.svAddr r i f).bind s.localOf with
        | some l => s.writeCells l ((natLE x.svBytes (s.free (i * 8 + f) (2 ^ w))).map (·, false))
        | none => s
      else
        s.setSp n ((s.sp n).putEls (r.group + f * svSpan x.span) w i [(s.free (i * 8 + f) (2 ^ w), false)])) s
    (s.setSp n { s.sp n with sv := none }).forget (· == .unit n true)

/-- Every unit that may have got what it waited for goes on: short-vector instructions, movers, and the end of parts whose stores the
Weir still holds (R177, R226, R268). -/
def State.pump (s : State) : State :=
  s.spires.foldl (fun s (n, _) =>
    let s := (s.svGo n).mvGo n
    if (s.sp n).ended && (s.sp n).entry.isSome then s.flushOwned (Waiter.postOf n) else s) s

/-! ## Conversions (R168, R185, R186) -/

/-- Decode an element of a format code; Q64 takes the exponent QEXP. -/
def cvtDecode (code : Nat) (e : Int) (c : Nat) : FVal :=
  if code == 6 then FVal.ofInt (signed 8 c) 0 false
  else if code == 0xC then FVal.ofInt (signed 32 c) 0 false
  else if code == 0xB then q64Val c e
  else (fmtOf code).decode c

/-- Encode a value in a format code: code and saturation; an out-of-range Q64 counts as one (R185).
Details: DEDUCED, log entry 53. -/
def cvtEncode (code : Nat) (e : Int) (ovf : Bool) (v : FVal) : Nat × Bool :=
  if code == 6 then toIntFmt 8 0 v
  else if code == 0xC then toIntFmt 32 0 v
  else if code == 0xB then toQ64 e v
  else (fmtOf code).convert v ovf

/-- SV.CVT: an element-wise conversion that updates the named amax slot for each element without poison. -/
def execSvCvt (n : Fin 288) (res : Fin 3) (wd ws rs2 : Fin 32) (s : State) : Out :=
  let cw := ((s.sp n).xr rs2).toNat
  let sw := fmtWidth (cwSrc cw)
  let dw := fmtWidth (cwDst cw)
  let ks := fun (x : Spire) => groupFor x.vl sw
  let kd := fun (x : Spire) => groupFor x.vl dw
  s.svRun n (fun x => cvtCwOk cw && ks x ≤ 8 && kd x ≤ 8 && groupOk ws (ks x) && groupOk wd (kd x)) (fun s x =>
    let start := s.vecIdx n
    let es := (List.range (x.vl - start)).map (fun j =>
      let v := cvtDecode (cwSrc cw) (cwQexp cw) (x.el ws sw (start + j))
      (v, cvtEncode (cwDst cw) (cwQexp cw) (cwOvf cw) v, x.elPoison ws sw (start + j)))
    let s := s.setSp n (x.putEls wd dw start (es.map (fun e => (e.2.1.1, e.2.2))))
    let s := es.foldl (fun s e =>
      if e.2.2 then s else s.amaxUpdate n (cwSlot cw) (if e.1.isNan then none else some e.1) e.2.1.2) s
    s.svEnd n res wd (kd x) 0 0)

/-- emax of a block element format (Table 7.6). -/
def mxEmax (code : Nat) : Int := match code with | 0 => 2 | 1 => 2 | 2 => 4 | 3 => 8 | 4 => 15 | _ => 0

/-- mx_block of R168 on 32 values: the scale byte, and for each element its code, amax value and saturation.
Details: DEDUCED, log entry 53. -/
def mxBlock (code : Nat) (xs : List FVal) : Nat × List (Nat × Option FVal × Bool) :=
  let hasInf := code == 4
  let nan := xs.any (fun v => v.isNan || (v.isInf && !hasInf))
  if nan then (0xFF, xs.map (fun v => (0, if v.isNan then none else some v, !v.isNan && v.isInf)))
  else
    let lg : List Int := xs.filterMap (fun v => match v with
      | .fin _ m w => if m = 0 then none else some ((msb m : Int) + w)
      | _ => none)
    let k : Int := match lg with
      | [] => 0
      | e :: r => max (-127) (min 127 (r.foldl max e - mxEmax code))
    let conv := fun (v : FVal) =>
      let y := match v with
        | .fin neg m w => FVal.fin neg m (w - k)
        | v => v
      if code == 6 then
        match toIntFmt 8 (-6) y with
        | (c, sat) => (if c = 0x80 then 0x81 else c, sat || c = 0x80)
      else (fmtOf code).convert y false
    ((k + 127).toNat, xs.map (fun v => let (c, sat) := conv v; (c, some v, sat)))

/-- SV.MXCVT: VL source elements become VL / 32 blocks; scales go to VEC_SCALE. -/
def execSvMxcvt (n : Fin 288) (res : Fin 3) (wd ws rs2 : Fin 32) (s : State) : Out :=
  let cw := ((s.sp n).xr rs2).toNat
  let sw := fmtWidth (cwSrc cw)
  let dw := fmtWidth (cwDst cw)
  s.svRun n (fun x => mxCwOk cw false && x.vl % 32 = 0 && x.vl ≤ 256 && groupFor x.vl sw ≤ 8
      && groupOk ws (groupFor x.vl sw) && groupOk wd (groupFor x.vl dw)) (fun s x =>
    let blocks := (List.range (x.vl / 32)).map (fun j =>
      let idx := (List.range 32).map (32 * j + ·)
      (mxBlock (cwDst cw) (idx.map (fun i => (fmtOf (cwSrc cw)).decode (x.el ws sw i))),
       idx.any (fun i => x.elPoison ws sw i)))
    let vals := blocks.flatMap (fun (b, p) => b.2.map (fun e => (e.1, p)))
    let s := s.setSp n (x.putEls wd dw 0 vals)
    let s := if x.vl = 0 then s else s.wrReg (R.VEC_SCALE n) (leNat (blocks.map (fun (b, _) => BitVec.ofNat 8 b.1)))
    let s := blocks.foldl (fun s (b, p) =>
      if p then s else b.2.foldl (fun s e => s.amaxUpdate n (cwSlot cw) e.2.1 e.2.2) s) s
    s.svEnd n res wd (groupFor x.vl dw) 0 0)

/-- SV.MXEXP: blocks expand with the scales of VEC_SCALE; a NaN scale gives NaN elements. The unscaled value that R169 records is
the value an element stands for, element × scale. Details: DESIGN CHOICE, log entry 101. -/
def execSvMxexp (n : Fin 288) (res : Fin 3) (wd ws rs2 : Fin 32) (s : State) : Out :=
  let cw := ((s.sp n).xr rs2).toNat
  let sw := fmtWidth (cwSrc cw)
  let dw := fmtWidth (cwDst cw)
  s.svRun n (fun x => mxCwOk cw true && x.vl % 32 = 0 && x.vl ≤ 256 && groupFor x.vl dw ≤ 8
      && groupOk ws (groupFor x.vl sw) && groupOk wd (groupFor x.vl dw)) (fun s x =>
    let es := (List.range x.vl).map (fun i =>
      let sc := bits (s.rdReg (R.VEC_SCALE n)) (8 * (i / 32)) 8
      let v : FVal := if sc = 0xFF then .nan else
        match narrowVal (cwSrc cw) (x.el ws sw i) true with
        | .fin neg m w => .fin (neg && m != 0) m (w + (sc : Int) - 127)
        | v => v
      (v, (fmtOf (cwDst cw)).convert v false, x.elPoison ws sw i))
    let s := s.setSp n (x.putEls wd dw 0 (es.map (fun e => (e.2.1.1, e.2.2))))
    let s := es.foldl (fun s e =>
      if e.2.2 then s else s.amaxUpdate n (cwSlot cw) (if e.1.isNan then none else some e.1) e.2.1.2) s
    s.svEnd n res wd (groupFor x.vl dw) 0 0)

/-! ## Reductions (R184) -/

/-- Combine pairwise, level by level; the fuel is the number of levels. Details: DEDUCED, log entry 53. -/
def pairwise (f : Nat → Nat → Nat) : Nat → List Nat → Nat
  | 0, l => l.headD 0
  | k + 1, l => pairwise f k ((List.range (l.length / 2)).map (fun i => f (l.getD (2 * i) 0) (l.getD (2 * i + 1) 0)))

/-- Details: DEDUCED, log entry 53. -/
def State.svReduce (s : State) (n res rd ws : Nat) (isFloat : Bool) (ident : Spire → Nat)
    (f : Spire → Nat → Nat → Nat) (out : Spire → Nat → Nat) : Out :=
  s.svRun n (fun x => x.groups [ws] && (!isFloat || x.ew != 0)) (fun s x =>
    let w := svBits x.ew
    let lv := ceilLog2 x.vl
    let xs := (List.range x.vl).map (fun i => x.el ws w i)
    if (List.range x.vl).any (fun i => x.elPoison ws w i) then s.coreTrap n Cause.hardware 3 0
    else
      let xs := xs ++ List.replicate (2 ^ lv - x.vl) (ident x)
      s.svEnd n res 0 0 rd (BitVec.ofNat 64 (out x (pairwise (f x) lv xs))))

def execSvRsumRminRmax (n : Fin 288) (k res : Fin 3) (rd ws : Fin 32) (s : State) : Out :=
  s.svReduce n res rd ws false
    (fun x => let w := svBits x.ew; if k = 0 then 0 else if k = 1 then 2 ^ (w - 1) - 1 else 2 ^ (w - 1))
    (fun x a b => let w := svBits x.ew; if k = 0 then (a + b) % 2 ^ w else iminMax w (k = 2) true a b)
    (fun x v => sext64 (svBits x.ew) v)

/-- FRSUM, FRMIN, FRMAX: identities +0, +∞ and −∞. -/
def execSvFrsumFrminFrmax (n : Fin 288) (k res : Fin 3) (rd ws : Fin 32) (s : State) : Out :=
  s.svReduce n res rd ws true
    (fun x => if k = 0 then 0 else x.fmt.pack (k = 2) (2 ^ x.fmt.ebits - 1) 0)
    (fun x a b => if k = 0 then x.fmt.add a b else fminMax x.fmt (k = 2) a b)
    (fun _ v => v)

/-! ## Power (R189) -/

/-- SV_POWER_DOWN: 256 cycles without an instruction; registers, marks and CSRs stay. -/
def execSvPowerDown (n : Fin 288) (s : State) : Out := ok (s.wr (F.VEC_STATUS_POWER n) 0)

/-- LONG_VECTOR_POWER_DOWN: the long-vector unit of a Dome hart powers down; nothing else changes. -/
def execLongVectorPowerDown (h : Fin 64) (s : State) : Out := ok (s.setHart h { s.hart h with vecOn := false })

end Sys2Proof.Machine
end

