-- ==== Sys2Proof/Machine/SpireCore.lean ====
section
/-! DEFINITION. The spire core's commands (chapter 5): the vendor instructions of Table 5.5, loads and stores, the AMOs of
R239, fences, CSR instructions, and a Dome write to an amax slot. -/

namespace Sys2Proof.Machine

open Sys2Proof

/-- A core instruction acts only while the core runs. -/
def State.onCore (s : State) (n : Nat) (f : State → State) : Out := if s.coreRuns n then ok ((f s).coreDone n) else ok s

/-! ## Issuing descriptors (R110, R111) -/

/-- SP.TQ and SP.MQ: the descriptor is queued, or the core stalls. Details: DEDUCED, log entry 50. -/
def State.coreIssue (s : State) (n : Nat) (mover : Bool) (rs1 : Nat) : State :=
  let addr := ((s.sp n).xr rs1).toNat
  let s := if s.engineHeld n mover then s.ev (F.SPIRE_EVENTS_OWNER_STALL n) else s
  let s := (s.coreWait n (if mover then .mq addr else .tq addr)).retryIssue n
  if mover then s.takeMovers n else s.takeTensors n

/-- Details: DEDUCED, log entry 50. -/
def execSpTq (n : Fin 288) (rs1 : Fin 32) (s : State) : Out := s.onCore n (fun s => s.coreIssue n false rs1)
/-- Details: DEDUCED, log entry 50. -/
def execSpMq (n : Fin 288) (rs1 : Fin 32) (s : State) : Out := s.onCore n (fun s => s.coreIssue n true rs1)

/-- SP.WAIT on the tensor engine or the mover (R109). -/
def execSpWait (n : Fin 288) (mover : Bool) (rd rs1 : Fin 32) (s : State) : Out :=
  s.onCore n (fun s => (s.coreWait n (.wait mover ((s.sp n).xr rs1).toNat rd)).wakeWait n)

/-! ## Step time (R69, R109) -/

/-- SP.TIME at step time `now`. Details: DEDUCED, log entry 57. -/
def execSpTime (n : Fin 288) (rd : Fin 32) (now : Nat) (s : State) : Out :=
  s.onCore n (fun s =>
    if s.refusesV then s.exactRefused n
    else match s.reach now with
      | some s => s.coreNext n rd (BitVec.ofNat 64 s.now)
      | none => s)

/-- SP.TWAIT: the core goes on at once when the target has passed, and waits otherwise.
Details: DEDUCED, log entry 57. -/
def execSpTwait (n : Fin 288) (rs1 : Fin 32) (s : State) : Out :=
  s.onCore n (fun s =>
    let t := ((s.sp n).xr rs1).toNat
    if t ≤ s.now then s.coreNext n 0 0 else s.coreWait n (.twait t))

/-- SP_TWAIT_EXPIRY: step time reaches the target of a waiting SP.TWAIT. Details: DEDUCED, log entry 57. -/
def execSpTwaitExpiry (n : Fin 288) (s : State) : Out :=
  match (s.sp n).wait with
  | .twait t =>
    match s.reach t with
    | some s => ok (((s.setSp n { s.sp n with wait := .none }).setCore n 1).coreNext n 0 0)
    | none => ok s
  | _ => ok s

/-! ## Amax slots (R124, R125) -/

def State.amaxSlot (s : State) (n : Nat) (rs1 : Nat) : Nat := ((s.sp n).xr rs1).toNat % 64

def execSpAmax (n : Fin 288) (rd rs1 : Fin 32) (s : State) : Out :=
  s.onCore n (fun s => s.coreNext n rd (BitVec.ofNat 64 (s.rdReg (R.SPIRE_AMAX n (s.amaxSlot n rs1)))))

def execSpAmaxx (n : Fin 288) (rd rs1 : Fin 32) (s : State) : Out :=
  s.onCore n (fun s =>
    let slot := s.amaxSlot n rs1
    let v := s.rdReg (R.SPIRE_AMAX n slot)
    (s.wrReg (R.SPIRE_AMAX n slot) 0).coreNext n rd (BitVec.ofNat 64 v))

/-- SPIRE_AMAX_WRITE: a Dome-core write replaces the slot; an update of the same cycle, a magnitude and a saturation as a
conversion gives them, lands after it (R125). -/
def execSpireAmaxWrite (n : Fin 288) (slot : Fin 64) (v : Word) (update : Option (BitVec 32 × Bool)) (s : State) : Out :=
  let s := s.wrReg (R.SPIRE_AMAX n slot) v.toNat
  ok (match update with
    | some (x, sat) => s.amaxUpdate n slot (some (fmtFP32.decode x.toNat)) sat
    | none => s)

/-! ## The end of a part (R107) -/

def execSpEnd (n : Fin 288) (rs1 : Fin 32) (s : State) : Out :=
  s.onCore n (fun s =>
    let x := s.sp n
    let v := x.xr rs1
    let s := if v = 0 then s
      else
        let s := (s.wr (F.SPIRE_FAULT_INFO_CAUSE n) 0xFF).partFails n 0 St.spireFault
        ((s.wr (F.SPIRE_FAULT_INFO_STATUS n) (s.sp n).partStatus).wrReg (R.SPIRE_FAULT_PC n) x.pc.toNat).wrReg
          (R.SPIRE_FAULT_TVAL n) v.toNat
    ((s.setSp n { s.sp n with ended := true }).setCore n 0).corePart n)

/-! ## Loads, stores and AMOs (R105, R225, R239) -/

/-- A refused access of a spire core: the outcome's event when it went through the fabric, the context's event, and an
access fault, or a posted failure for a store under R25 rule 3 (R143, R262, Table 11.4). -/
def State.coreRefuse (s : State) (n a size : Nat) (t : Target) (st : Nat) (isWrite : Bool) (w : Waiter) : State :=
  let s := s.noteRefusal t size st isWrite
  match t with
  | .self _ => s.conclude (spireEngine n) s.nodeId a st w [] 0
  | _ => s.coreTrap n (if isWrite then Cause.store else Cause.load) 0 a

/-- A spire-core load of `size` bytes. Details: PRESUMED, log entry 49. -/
def State.coreLoad (s : State) (n rd a size : Nat) (sgn : Bool) : State :=
  let (t, st) := s.coreTarget a size false
  let e := spireEngine n
  if t.remote && a % size != 0 then s.coreTrap n Cause.loadMisaligned 0 a
  else if s.stalls e t then s
  else if t.remote then (s.coreWait n .remote).remoteLoad e size t 0 (.core n rd size sgn false)
  else if st != St.ok then s.coreRefuse n a size t st false (.core n rd size sgn false)
  else if s.twinHeld (n / 18) t.loc size then s
  else if s.poisoned t.loc size then s.coreTrap n Cause.hardware 0 a
  else s.coreNext n rd (loadValue size sgn (s.readNat t.loc size))

/-- After a write of a core of a Sealed pair, what waits for it or for its twin goes on. -/
def State.paired (s : State) (n : Nat) : State := if s.sealed then (s.wakePosts n).pump else s

/-- A spire-core store: for want of a Weir window it is an access fault (R266). Details: PRESUMED, log entry 49. -/
def State.coreStore (s : State) (n a size : Nat) (v : Word) : State :=
  let (t, st) := s.coreTarget a size true
  let e := spireEngine n
  let cs := (natLE size v.toNat).map (·, false)
  let w : Waiter := .corePost n (s.sp n).entry
  if t.remote && a % size != 0 then s.coreTrap n Cause.storeMisaligned 0 a
  else if s.stalls e t then s
  else if s.weirTraps t then (s.semEvent St.weirUnmapped).coreTrap n Cause.store 0 a
  else if t.remote then (s.coreNext n 0 0).remoteStore e t 0 cs w
  else if st != St.ok then
    match t with
    | .self _ => (s.coreRefuse n a size t st true w).coreNext n 0 0
    | _ => s.coreRefuse n a size t st true w
  else ((s.unitWrite (n / 18) PairUnit.core (n % 18) t.loc cs).coreNext n 0 0).paired n

/-- The residues of the core's integer unit and address generation, which the Sealed profile checks (R422): `res` is 1 for
a recompute that matched and 2 for one that mismatched again, a hardware error with no other effect; its mtval is open.
Details: DEDUCED, log entry 91. -/
def State.coreResidue (s : State) (n res : Nat) (run : State → State) : State :=
  if !s.sealed || res = 0 then run s
  else if res = 1 then run (s.residue F.NODE_CHECK_EVENTS_CORE_RESIDUE 1 0)
  else (s.residue F.NODE_CHECK_EVENTS_CORE_RESIDUE 0 1).coreTrap n Cause.hardware 0 (s.free 0 (2 ^ 64))

/-- What the ECC finds at a core's access to memory of this node; a store of a whole scratchpad word reads nothing (R116).
Details: DEDUCED, log entry 65. -/
def State.coreEcc (s : State) (n a size : Nat) (store : Bool) (f : EccFind) : State :=
  let (t, st) := s.coreTarget a size store
  if t.remote || st != St.ok || (!store && s.twinHeld (n / 18) t.loc size)
      || (store && isScratch t.loc && size == 8 && t.loc % 8 == 0) then s
  else s.eccFound t.loc size f

/-- SPIRE_LOAD_STORE: an integer load or store of 2^size bytes at rs1 + imm; `ecc` is what the ECC finds there. -/
def execSpireLoadStore (n : Fin 288) (store : Bool) (size : Fin 4) (sgn : Bool) (rd rs1 rs2 : Fin 32) (imm : Fin 4096)
    (res : Fin 3) (ecc : EccFind) (s : State) : Out :=
  s.onCore n (fun s => s.coreResidue n res fun s =>
    let x := s.sp n
    let a := (x.xr rs1 + BitVec.ofNat 64 (sext64 12 imm)).toNat
    let s := s.coreEcc n a (2 ^ size.val) store ecc
    if store then s.coreStore n a (2 ^ size.val) (x.xr rs2) else s.coreLoad n rd a (2 ^ size.val) sgn)

/-- A post operation of a core that its home could not perform is a posted failure (R262, R422). -/
def State.mopPosted (s : State) (n a status : Nat) : State :=
  if status == St.ok then s else s.conclude (spireEngine n) s.nodeId a status (.corePost n (s.sp n).entry) [] 0

/-- A memory-side operation of a core at home (R239): poison in a fetched value raises mcause 19.
Details: PRESUMED, log entry 49. -/
def State.coreMop (s : State) (n rd a size mop v : Nat) (t : Target) (retries : Nat := 0) (bad : List Nat := []) : State :=
  let (s', r) := s.mopAt t.loc mop (natLE size v) retries bad
  if rd = 0 then (s'.mopPosted n a r.status).coreNext n 0 0
  else if r.poison != 0 then
    (if r.status == St.ok then s' else s'.postToEntry n (s'.sp n).entry r.status).coreTrap n Cause.hardware 0 a
  else s'.coreNext n rd (loadValue size true (leNat r.old))

/-- LR and SC: a reservation on one line at its home, one for each core (R239). Details: PRESUMED, log entry 49. -/
def State.coreLr (s : State) (n rd a size : Nat) (t : Target) : State :=
  let l := t.loc / 64 * 64
  if s.poisoned t.loc size then s.coreTrap n Cause.hardware 0 a
  else
    let v := loadValue size true (s.readNat t.loc size)
    ({ s with resv := mput s.resv n l }).coreNext n rd v

/-- Details: PRESUMED, log entry 49. -/
def State.coreSc (s : State) (n rd size : Nat) (v : Word) (t : Target) : State :=
  let held := mfind s.resv n == some (t.loc / 64 * 64)
  let s := { s with resv := mdel s.resv n }
  if held then (s.write t.loc (natLE size v.toNat)).coreNext n rd 0
  else s.coreNext n rd 1

/-- Whether an AMO's row is marked V (R239, Table 10.5). -/
def amoV (op : AmoOp) (rd : Nat) : Bool :=
  match op with
  | .lr => true
  | .sc => true
  | _ => rd != 0

/-- SPIRE_AMO: an RV64A instruction of 4 or 8 bytes. `res` is what the core's residues find and `mres` what those of the
memory-side adder at home find (R422): 1 a recompute that matched, 2 one that mismatched again. -/
def execSpireAmo (n : Fin 288) (op : AmoOp) (wide : Bool) (rd rs1 rs2 : Fin 32) (res mres : Fin 3) (ecc : EccFind)
    (s : State) : Out :=
  s.onCore n (fun s => s.coreResidue n res fun s =>
    let retries := if mres.val = 1 then 1 else 0
    let bad := if mres.val = 2 then [0] else []
    let x := s.sp n
    let size := if wide then 8 else 4
    let a := (x.xr rs1).toNat
    let v := x.xr rs2
    let isLoad := op == .lr
    let (t, st) := s.coreTarget a size (!isLoad)
    let e := spireEngine n
    let mop := mopCode (amoMop op) (b2n wide) (rd.val != 0) false
    if amoV op rd && s.refusesV then s.exactRefused n
    else if a % size != 0 then
      -- the control region is unbacked to a spire core: any access there is an access fault (R22)
      let fault := if !t.remote && (isControl t.loc || isCommandPort t.loc) then (if isLoad then Cause.load else Cause.store)
        else if isLoad then Cause.loadMisaligned else Cause.storeMisaligned
      s.coreTrap n fault 0 a
    else if t.remote && (op == .lr || op == .sc) then s.coreTrap n (if isLoad then Cause.load else Cause.store) 0 a
    else if op == .swap && rd.val == 0 then (s.coreEcc n a size true ecc).coreStore n a size v
    else if s.stalls e t then s
    else if t.remote then
      if rd.val == 0 then
        if s.weirTraps t then (s.semEvent St.weirUnmapped).coreTrap n Cause.store 0 a
        else (s.coreNext n 0 0).remoteMop e t mop (natLE size v.toNat) (.corePost n x.entry)
      else (s.coreWait n .remote).remoteMop e t mop (natLE size v.toNat) (.core n rd size true true)
    else if st != St.ok then
      match t with
      | .self _ =>
        if rd.val == 0 && op != .sc then (s.coreRefuse n a size t st true (.corePost n x.entry)).coreNext n 0 0
        else (s.noteRefusal t size st (!isLoad)).coreTrap n (if isLoad then Cause.load else Cause.store) 0 a
      | _ => s.coreRefuse n a size t st (!isLoad) (.corePost n x.entry)
    else
      let s := s.coreEcc n a size false ecc
      match op with
      | .lr => s.coreLr n rd a size t
      | .sc => s.coreSc n rd size v t
      | _ =>
        if s.sealed && !isScratch t.loc then
          (s.pairOp (n / 18) PairUnit.core (n % 18) t.loc (natLE size v.toNat) (2 ^ size - 1) mop
            (fun s =>
              let (s, r) := s.mopAt t.loc mop (natLE size v.toNat) retries bad
              s.mopPosted n a r.status)).coreNext n 0 0 |>.paired n
        else s.coreMop n rd a size mop v.toNat t retries bad)

/-! ## Fences (R225, R253, R268) -/

/-- SPIRE_FENCE with its predecessor and successor sets (bits 1 r, 0 w): w before waits for every store, and sends the
Weir's puts; r after discards the Weir's read blocks. -/
def execSpireFence (n : Fin 288) (pred succ : Fin 16) (s : State) : Out :=
  s.onCore n (fun s =>
    let s := if bit pred 0 then s.flushOwned (Waiter.postOf n) else s
    let s := if bit succ 1 then s.dropReads else s
    if bit pred 0 then (s.coreWait n .fence).wakeFence n else s.coreNext n 0 0)

/-- SPIRE_FENCE_I: the instruction cache holds nothing (R224). -/
def execSpireFenceI (n : Fin 288) (s : State) : Out :=
  s.onCore n (fun s => (s.setSp n { s.sp n with icacheValid := false }).coreNext n 0 0)

/-! ## CSRs (Table 8.1, R105) -/

/-- A machine-mode CSR of the spire core; none where the core has no such CSR. The mandatory identity and counter CSRs
read free values: the manual states none. Details: PRESUMED, log entry 49. -/
def State.csrRead (s : State) (n csr : Nat) : Option Nat :=
  let x := s.sp n
  if csr = 0x7C0 then some (s.vecIdx n)
  else if csr = 0x7C1 then some (x.ew + 4 * x.span + 16 * x.f16 + 2 ^ 16 * x.vl)
  else if csr = 0x7C2 then some (s.rdReg (R.VEC_SCALE n))
  else if csr = 0x7C3 then some x.vflags
  else if csr = 0x300 then some (setBits x.mstatus.toNat 11 2 3)
  else if csr = 0x301 then some (2 * 2 ^ 62 + 2 ^ 0 + 2 ^ 2 + 2 ^ 8 + 2 ^ 12)
  else if csr = 0x304 || csr = 0x344 then some 0
  else if csr = 0x305 then some x.mtvec.toNat
  else if csr = 0x340 then some x.mscratch.toNat
  else if csr = 0x341 then some x.mepc.toNat
  else if csr = 0x342 then some x.mcause.toNat
  else if csr = 0x343 then some x.mtval.toNat
  else if (0xF11 ≤ csr && csr ≤ 0xF15) || csr = 0xB00 || csr = 0xB02 then some (s.free csr (2 ^ 64))
  else none

/-- Write a CSR; a read-only field keeps its value. Details: PRESUMED, log entry 49. -/
def State.csrWrite (s : State) (n csr v : Nat) : State :=
  let x := s.sp n
  let w := BitVec.ofNat 64 v
  if csr = 0x7C0 then s.wrReg (R.VEC_FAULT_IDX n) (v % 1024)
  else if csr = 0x7C2 then s.wrReg (R.VEC_SCALE n) v
  else if csr = 0x7C3 then s.setSp n { x with vflags := v % 4 }
  else if csr = 0x300 then s.setSp n { x with mstatus := w &&& 0x88#64 }
  else if csr = 0x305 then s.setSp n { x with mtvec := w &&& ~~~2#64 }
  else if csr = 0x340 then s.setSp n { x with mscratch := w }
  else if csr = 0x341 then s.setSp n { x with mepc := w &&& ~~~1#64 }
  else if csr = 0x342 then s.setSp n { x with mcause := w }
  else if csr = 0x343 then s.setSp n { x with mtval := w }
  else s

/-- SPIRE_CSR_ACCESS: CSRRW (0), CSRRS (1) or CSRRC (2), from register rs1 or, with `imm`, the 5-bit value rs1. -/
def execSpireCsrAccess (n : Fin 288) (op : Fin 3) (imm : Bool) (csr : Fin 4096) (rd rs1 : Fin 32) (s : State) : Out :=
  s.onCore n (fun s =>
    let src := if imm then rs1.val else ((s.sp n).xr rs1).toNat
    let writes := op.val == 0 || rs1.val != 0
    match s.csrRead n csr with
    | none => s.illegal n
    | some old =>
      if writes && csr.val / 1024 == 3 then s.illegal n
      else
        let new := if op.val = 0 then src else if op.val = 1 then old ||| src else old &&& (2 ^ 64 - 1 - src)
        let s := if writes then s.csrWrite n csr new else s
        s.coreNext n rd (BitVec.ofNat 64 old))

end Sys2Proof.Machine
end

