-- ==== Sys2Proof/Machine/Solver.lean ====
section
/-! DEFINITION. Terrace power (R98, R99) and the Solver Engine (chapter 9): acceptance, kernels, factorisations, iterative
solves, deadlines, warm blocks and result records. -/

namespace Sys2Proof.Machine

open Sys2Proof

/-! ## Terrace power (R98, R99) -/

/-- OFF: scratchpads and amax slots are lost, contexts dropped, the short-vector unit reset (R99, R144, R171).
Details: DEDUCED, log entry 51. -/
def State.losePower (s : State) (t : Nat) : State :=
  let lo := scratchAddr (18 * t) 0
  let hi := scratchAddr (18 * t + 18) 0
  let s := forEach (spiresOf t) s (fun n s =>
    let s := forEach (List.range 64) s (fun i s => s.wrReg (R.SPIRE_AMAX n i) 0)
    (s.dropAllCtx n).resetVec n)
  { s with
    mem := s.mem.filter (fun c => !(lo ≤ c.1 && c.1 < hi))
    poison := s.poison.filter (fun w => !(lo ≤ 8 * w && 8 * w < hi))
    undef := s.undef.filter (fun w => !(lo ≤ 8 * w && 8 * w < hi)) }

/-- Move a terrace to 0 OFF, 1 PARKED or 2 ON (Tables 5.2, 5.8, 5.10). Details: DEDUCED, log entry 51. -/
def State.setPower (s : State) (t v : Nat) : State :=
  let s := if v = 0 && s.powered t then s.losePower t else s
  let s := (s.wrBit F.NODE_TERRACE_PWR_POWERED t (v != 0)).wrBit F.NODE_TERRACE_PWR_ON t (v == 2)
  forEach (spiresOf t) s (fun n s => s.wr (F.SPIRE_STATUS_POWER n) v)

/-- Whether an admitted job, a SOLVE command, a survey or a self-test uses a terrace. Details: DEDUCED, log entry 51. -/
def State.inUse (s : State) (t : Nat) : Bool :=
  bit s.jobMask t || (match mfind s.solver t with | some r => r.handle.isSome | none => false)
    || s.age.queue.any (fun q => q.running.contains t)

/-- A terrace nothing uses is PARKED, or OFF when OFF_REQ asks for it or the plan retires it (R98, R390).
Details: DEDUCED, log entry 51. -/
def State.settlePower (s : State) (t : Nat) : State :=
  if s.inUse t then s.setPower t 2
  else s.setPower t (if bit (s.rd F.NODE_TERRACE_PWR_OFF_REQ) t || bit (s.rd F.AGE_STATUS_RETIRED) t then 0 else 1)

/-! ## Acceptance (Tables 9.3, 9.4) -/

/-- Fields the OP does not use, and reserved bits, are zero (R11, R202). -/
def svUnusedZero (d : Bytes) : Bool :=
  let op := svOp d
  let mat := 3 ≤ op
  let dense := mat && svMat d = 0
  let csr := mat && svMat d = 1
  let z := fun (used : Bool) (off n : Nat) => used || fld d off n = 0
  (svIter d || !svWarm d) && ((op = 4 && svMat d = 0) || (!svLower d && !svUnit d)) && fld d 1 1 < 8
    && z mat 2 1 && z (op = 11) 3 1 && z (svIter d) 4 4 && z csr 24 8 && z csr 32 8 && z (!svFact d) 40 8
    && z (svIter d) 56 8 && z (svIter d) 64 8 && z (svIter d && svWarm d) 80 8 && z (op = 2) 96 8 && z dense 104 4
    && z (op = 4) 108 4 && z (svIter d) 112 4 && svTensors d < 2 ^ 18 && fld d 124 4 = 0

/-- Ranges of Table 9.4 and of R203. -/
def svShape (d : Bytes) : Bool :=
  let op := svOp d
  let n := svN d
  let nc := svNc d
  1 ≤ op && op ≤ 11
    && (if op ≤ 2 then true else if op = 3 then svMat d = 1 else if op = 4 then svMat d = 0 || svMat d = 2 else svMat d ≤ 1)
    && 1 ≤ n && n ≤ (if svFact d && svMat d = 0 then 65536 else 16777216)
    && (if op ≤ 2 then nc = 0 else if op = 3 then 1 ≤ nc && nc ≤ 16777216 else if op = 4 then 1 ≤ nc && nc ≤ 65536
        else if op = 8 then 1 ≤ nc && nc ≤ n else nc = n)
    && (!svIter d || svMaxIter d != 0) && (op != 11 || (1 ≤ svGm d && svGm d ≤ 64))
    && svLda d % 8 = 0 && (!(3 ≤ op && svMat d = 0) || 8 * svCols d ≤ svLda d)
    && svLdb d % 8 = 0 && (op != 4 || 8 * nc ≤ svLdb d)
    && svScr d % 64 = 0 && svScr d + 0x80000 ≤ 0x180000

/-- Roles the operation names (Table 9.3), as a mask; a factor set carries its own exponents (R208). -/
def svRoles (d : Bytes) : Nat :=
  match svOp d with
  | 1 => maskOf [0, 1, 2]
  | 2 => maskOf [0, 1, 2, 7]
  | 3 => maskOf [0, 1, 2]
  | 4 => if svMat d = 2 then maskOf [1, 2] else maskOf [0, 1, 2]
  | 5 => maskOf [0, 10, 12]
  | 6 => maskOf [0, 10, 11, 12]
  | 7 => maskOf [0, 10, 12]
  | 8 => maskOf [0, 10, 11, 12]
  | 9 => maskOf [0, 1, 2, 3, 4, 5, 7, 8, 9]
  | 10 => maskOf [0, 1, 2, 3, 4, 5, 6, 7, 8, 9]
  | _ => maskOf [0, 1, 2, 3, 5, 13, 14]

/-- A Range Table's form (R198). -/
def rangeTableOk (r : Bytes) (need : Nat) : Bool :=
  let valid := fld r 4 4
  fld r 0 2 = 0x5254 && fld r 2 1 = 1 && fld r 3 1 = 0 && valid < 2 ^ 15 && allZero (sub r 8 56)
    && valid &&& need = need && (List.range 32).all (fun i => bit valid i || fld r (64 + 2 * i) 2 = 0)

def rangeExps (r : Bytes) : List Int := (List.range 32).map (fun i => signed 16 (fld r (64 + 2 * i) 2))

/-- An operand extent: base, bytes, alignment, and whether the solve writes it as an output of R203. -/
structure SExt where
  name : Nat
  base : Nat
  len : Nat
  al : Nat
  out : Bool
  deriving DecidableEq, Repr

/-- Words of the work area (Table 9.5). Details: DESIGN CHOICE, log entry 40. -/
def svWorkBytes (d : Bytes) : Nat :=
  match svOp d with
  | 9 => 24 * svN d
  | 10 => 48 * svN d
  | 11 => 8 * (svGm d + 2) * svN d
  | _ => 0

/-- Bytes of one slot of a factor set (R205). Details: DESIGN CHOICE, log entry 40. -/
def slotBytes (op n nc : Nat) : Nat := 8 * n * nc + (if op = 7 || op = 8 then 8 * nc else 0)

/-- Factor-set header fields (Table 9.6). Details: DESIGN CHOICE, log entry 40. -/
def fsOp (h : Bytes) : Nat := fld h 2 1
/-- Details: DESIGN CHOICE, log entry 40. -/
def fsCur (h : Bytes) : Nat := fld h 3 1
def fsNc (h : Bytes) : Nat := fld h 4 4
def fsSlot (h : Bytes) (i : Nat) : Nat := fld h (8 + 8 * i) 8
def fsN (h : Bytes) : Nat := fld h 24 4

/-- The extents of a solve: names 1 A, 2 B, 3 X, 4 others. -/
def svExtents (addr : Nat) (d fset : Bytes) (nnz : Nat) : List SExt :=
  let op := svOp d
  let n := svN d
  let nc := svNc d
  let a : List SExt :=
    if op ≤ 2 then [⟨1, svA d, 8 * n, 8, false⟩]
    else if svMat d = 0 then [⟨1, svA d, (n - 1) * svLda d + 8 * svCols d, 8, false⟩]
    else if svMat d = 1 then
      [⟨1, svA d, 8 * nnz, 8, false⟩, ⟨4, svRowPtr d, 8 * (n + 1), 8, false⟩, ⟨4, svColIdx d, 4 * nnz, 8, false⟩]
    else [⟨1, svA d, 64, 64, false⟩]
      ++ (if fsCur fset ≤ 1 then [⟨4, fsSlot fset (fsCur fset), slotBytes (fsOp fset) (fsN fset) (fsNc fset), 8, false⟩] else [])
  let span := (n - 1) * svLdb d + 8 * nc
  let b : List SExt :=
    if svFact d then [] else if op = 4 then [⟨2, svB d, span, 8, false⟩]
    else [⟨2, svB d, 8 * (if op = 3 then nc else n), 8, false⟩]
  let xRows := if svMat d = 2 && fsOp fset = 8 then fsNc fset else n
  let x : List SExt :=
    if svFact d then [⟨3, svX d, 64, 64, true⟩, ⟨4, fsSlot fset 0, slotBytes op n nc, 8, true⟩,
      ⟨4, fsSlot fset 1, slotBytes op n nc, 8, true⟩]
    else if op = 4 then [⟨3, svX d, (xRows - 1) * svLdb d + 8 * nc, 8, true⟩]
    else [⟨3, svX d, if op = 1 then 8 else 8 * n, 8, true⟩]
  let it : List SExt :=
    if svIter d then [⟨4, svXAlt d, 8 * n, 8, true⟩, ⟨4, svWork d, svWorkBytes d, 8, true⟩]
      ++ (if svWarm d then [⟨4, svWarmAddr d, 64 + 8 * n, 64, false⟩] else [])
    else []
  [⟨4, addr, 128, 64, false⟩, ⟨4, svRange d, 128, 64, false⟩, ⟨4, svResult d, 64, 64, true⟩] ++ a ++ b ++ x ++ it

def SExt.meets (a b : SExt) : Bool := overlaps a.base a.len b.base b.len

/-- Outputs overlap no other extent, but AXPY and SPMV may write X over an identical B (R203). -/
def svOverlap (op : Nat) : List SExt → Bool
  | [] => false
  | e :: r =>
    r.any (fun f => (e.out || f.out) && e.meets f &&
      !((op == 2 || op == 3) && ((e.name == 2 && f.name == 3) || (e.name == 3 && f.name == 2))
        && e.base == f.base && e.len == f.len))
    || svOverlap op r

/-- Whether an extent may be used: node-local, aligned, backed, and outside sealed contexts when written. -/
def State.svExtOk (s : State) (e : SExt) : Bool :=
  e.base < 2 ^ 48 && e.base % e.al = 0 && (e.len = 0 || s.backed e.base e.len)
    && !(e.out && (s.ctxHit e.base e.len).isSome)

/-- The staging region meets no sealed context of a spire in TENSOR_MASK. -/
def State.svStageOk (s : State) (t : Nat) (d : Bytes) : Bool :=
  (bitList (svTensors d) 18).all (fun i => (s.ctxHit (scratchAddr (18 * t + i) (svScr d)) 0x80000).isNone)

/-- Acceptance of a SOLVE descriptor (R203): a status, or the run it becomes. A factor set must carry its MAGIC, and for
TRSOLVE match the descriptor (log entry 40). Details: DESIGN CHOICE, log entry 40; DEDUCED, log entry 98. -/
def State.svAccept (s : State) (t addr : Nat) (d : Bytes) (poisonD : Bool) (entry handle : Option Nat) (deadline : Nat) :
    Nat × Option SolveRun × List SExt :=
  let bad := (St.badParam, none, [])
  let ra := svRange d
  let rOk := ra < 2 ^ 48 && ra % 64 = 0 && s.backed ra 128
  if poisonD || (rOk && s.poisoned ra 128) then (St.poisonConsumed, none, [])
  else if !svUnusedZero d || !svShape d || !rOk then bad
  else
    let rt := s.readBytes ra 128
    let needsSet := svFact d || svMat d = 2
    let fa := if svFact d then svX d else svA d
    let faOk := fa < 2 ^ 48 && fa % 64 = 0 && s.backed fa 64
    let fset := s.readBytes fa 64
    let csr := 3 ≤ svOp d && svMat d = 1
    let np := svRowPtr d + 8 * svN d
    let npOk := svRowPtr d < 2 ^ 48 && svRowPtr d % 8 = 0 && s.backed (svRowPtr d) (8 * (svN d + 1))
    if !rangeTableOk rt (svRoles d) || (needsSet && !faOk) || (csr && !npOk) then bad
    else
      let badSet := needsSet && (fld fset 0 2 != 0x4653 || !(fsCur fset ≤ 1 || fsCur fset = 0xFF)
        || !allZero (sub fset 48 16)
        || (svMat d = 2 && fsCur fset ≤ 1 && (fsN fset != svN d || fsOp fset < 5 || 8 < fsOp fset)))
      let nnz := if csr then s.readNat np 8 else 0
      let exts := svExtents addr d fset nnz
      if badSet || !exts.all s.svExtOk || svOverlap (svOp d) exts || !s.svStageOk t d then (St.badParam, none, exts)
      else
        let exps := rangeExps rt
        let exps := if svMat d = 2 then lset (lset exps Role.factor (signed 16 (fld fset 28 2))) Role.diag
            (signed 16 (fld fset 30 2)) else exps
        let pois := (needsSet && s.poisoned fa 64) || (csr && s.poisoned np 8)
        (St.ok, some
          { addr := addr, desc := d, exps := exps, fset := if needsSet then fset else [], nnz := nnz, entry := entry
            handle := handle, deadline := deadline, started := false, k := 0, cyc := 0, x := [], r := [], p := []
            rh := [], rho := 0, basis := [], hess := [], rots := [], g := [], sumB := 0, resFrac := 0, range := none
            failIndex := 0, fp := 0, warmUsed := false, warmRej := false, lastBuf := 0
            status := if pois then some St.poisonConsumed
              else if svMat d = 2 && fsCur fset = 0xFF then some St.singular else none }, exts)

/-! ## The run and its registers -/

/-- Store a terrace's run; SOLV_STATUS follows it, and a first saturation is recorded (R196, Tables 9.13, 9.16). -/
def State.putRun (s : State) (t : Nat) (r : SolveRun) : State :=
  let old := mfind s.solver t
  let fresh := r.range.isSome && (match old with | some o => o.range.isNone | none => true)
  let s := { s with solver := mput s.solver t r }
  let s := match fresh, r.range with
    | true, some (role, i) =>
      ((s.wr (F.SOLV_RANGE_INFO_ROLE t) role).wr (F.SOLV_RANGE_INFO_INDEX t) i).ev (F.SOLV_EVENTS_RANGE t)
    | _, _ => s
  s.wr (F.SOLV_STATUS_ITERATIONS t) r.k

/-- Store a run that the engine still has; a divergence may have ended it (R426). -/
def State.keepRun (s : State) (t : Nat) (r : SolveRun) : State := if (mfind s.solver t).isSome then s.putRun t r else s

/-- A solve begins: the engine takes the run. -/
def State.beginRun (s : State) (t : Nat) (r : SolveRun) : State :=
  let s := s.putRun t r
  let s := ((s.wr (F.SOLV_STATUS_STATE t) 1).wr (F.SOLV_STATUS_OWNER t) (b2n r.handle.isSome)).wr (F.SOLV_STATUS_OP t)
    (svOp r.desc)
  let s := s.wr (F.SOLV_STATUS_PHASE t) (if svIter r.desc then 0 else 1)
  (s.wrReg (R.SOLV_DESC t) r.addr).wrReg (R.SOLV_DEADLINE t) r.deadline

/-- Read n Q64 words. -/
def State.readQ (s : State) (a n : Nat) : List Int := (List.range n).map (fun i => signed 64 (s.readNat (a + 8 * i) 8))

/-- Matrix rows as the engine reads them, with 0 or the status of a poisoned word or a CSR content fault (R203, R218). -/
def State.solveRows (s : State) (r : SolveRun) : Nat × List SRow :=
  let d := r.desc
  let n := svN d
  if svMat d = 1 then
    let ptr := (List.range (n + 1)).map (fun i => s.readNat (svRowPtr d + 8 * i) 8)
    let bad := ptr.headD 0 != 0 || (List.range n).any (fun i => ptr.getD (i + 1) 0 < ptr.getD i 0) || ptr.getD n 0 != r.nnz
    if s.poisoned (svRowPtr d) (8 * (n + 1)) then (St.poisonConsumed, [])
    else if bad then (St.badParam, [])
    else if s.poisoned (svColIdx d) (4 * r.nnz) then (St.poisonConsumed, [])
    else
      let col := fun k => s.readNat (svColIdx d + 4 * k) 4
      if (List.range r.nnz).any (fun k => svNc d ≤ col k) then (St.badParam, [])
      else if s.poisoned (svA d) (8 * r.nnz) then (St.poisonConsumed, [])
      else (0, (List.range n).map (fun i => (span (ptr.getD i 0) (ptr.getD (i + 1) 0)).map (fun k =>
        (col k, signed 64 (s.readNat (svA d + 8 * k) 8)))))
  else
    let rowAt := fun i => svA d + i * svLda d
    if (List.range n).any (fun i => s.poisoned (rowAt i) (8 * svCols d)) then (St.poisonConsumed, [])
    else (0, (List.range n).map (fun i => (s.readQ (rowAt i) (svCols d)).zipIdx.map (fun (q, j) => (j, q))))

/-- Write Q64 words at listed addresses as the engine does, through the pair in the Sealed profile. -/
def State.svWriteAt (s : State) (t : Nat) (ws : List (Nat × Int)) : State :=
  ws.foldl (fun s w => s.unitWrite t PairUnit.solver 0 w.1 ((natLE 8 (unsigned 64 w.2)).map (fun b => (b, false)))) s

def State.svWrite (s : State) (t a : Nat) (v : List Int) : State :=
  s.svWriteAt t (v.zipIdx.map (fun (q, i) => (a + 8 * i, q)))

/-- Bytes written whole as one unit write. -/
def State.svBytes (s : State) (t a : Nat) (bs : Bytes) : State :=
  s.unitWrite t PairUnit.solver 0 a (bs.map (fun b => (b, false)))

/-- Some of the listed words are written: which, timing decides (Table 9.7). Details: DESIGN CHOICE, log entry 42. -/
def State.svPartial (s : State) (t : Nat) (ws : List (Nat × Int)) : State :=
  s.svWriteAt t ((ws.zipIdx.filter (fun w => Config.freeBool s.fresh w.2)).map (·.1))

def State.svMacs (s : State) (t n : Nat) : State := s.incw (F.SOLV_MACS_VALUE t) n

/-- The structure fingerprint (R214). -/
def State.fingerprint (s : State) (r : SolveRun) : Nat :=
  let d := r.desc
  let e := fun role => natLE 2 (unsigned 16 (r.exps.getD role 0))
  let csr := if svMat d = 1 then s.readBytes (svRowPtr d) (8 * (svN d + 1)) ++ s.readBytes (svColIdx d) (4 * r.nnz) else []
  fld (sha3_256 (natLE 1 (svMat d) ++ natLE 4 (svN d) ++ natLE 4 (svNc d) ++ e Role.a ++ e Role.b ++ e Role.x ++ csr)) 0 8

/-- Residue recomputes of a pass or panel (R218). Details: DEDUCED, log entry 91. -/
def State.svResidue (s : State) (t retries : Nat) (fail : Bool) : State :=
  let n := retries + b2n fail
  let s := if n = 0 then s else (s.ev (F.SOLV_EVENTS_RESIDUE_RETRY t)).inc (F.SOLV_COUNTS_RESIDUE_RETRIES t) n
  if fail then s.ev (F.SOLV_EVENTS_RESIDUE_FAIL t) else s

/-- The run of a terrace that is under way with one of the OPs; it waits while a held twin covers an operand (R424). -/
def State.activeRun (s : State) (t op : Nat) : Option SolveRun :=
  match mfind s.solver t with
  | some r =>
    let held := (svExtents r.addr r.desc r.fset r.nnz).any (fun e => s.twinHeld t e.base e.len)
    if svOp r.desc = op && r.status.isNone && !held then some r else none
  | none => none

/-! ## Kernels -/

/-- One triangle over the right-hand sides of B, in rows `order`: the words of X and the failing column. -/
def trCols (c : SArith) (coef : Nat → List (Nat × Ex)) (diag : Nat → Option Ex) (order : List Nat) (nc : Nat)
    (rhs : Nat → Nat → Ex) : List (Nat × List (Nat × Int)) × SArith × Option Nat :=
  (List.range nc).foldl (fun acc k =>
    let (xs, c, fail) := acc
    if fail.isSome then acc
    else
      let (x, c, f) := SArith.triangle coef diag (fun i => rhs i k) (fun i => i * nc + k) order [] c
      (xs ++ [(k, x)], c, f)) ([], c, none)

/-- Values of a triangular result as stored words of role X. -/
def trVal (c : SArith) (xs : List (Nat × List (Nat × Int))) (i k : Nat) : Ex := c.val (mget (mget xs k []) i 0) Role.x

/-- A solve with a factor set, by its operation (R208): the words of X, and the column of a zero pivot. -/
def factSolve (c : SArith) (op n cols nc : Nat) (m : Nat → Nat → Int) (extra : Nat → Int) (rhs : Nat → Nat → Ex) :
    List (Nat × List (Nat × Int)) × SArith × Option Nat :=
  let f := fun i j => c.val (m i j) Role.factor
  let low := fun i => (List.range i).map (fun j => (j, f i j))
  let up := fun i => (span (i + 1) n).map (fun j => (j, f i j))
  let lowT := fun i => (span (i + 1) n).map (fun j => (j, f j i))
  let fwd := List.range n
  let bwd := (List.range n).reverse
  if op = 5 then
    let (y, c, fl) := trCols c low (fun i => some (f i i)) fwd nc rhs
    if fl.isSome then (y, c, fl) else trCols c lowT (fun i => some (f i i)) bwd nc (trVal c y)
  else if op = 6 then
    let (y, c, _) := trCols c low (fun _ => none) fwd nc rhs
    let dv := fun i => c.val (m i i) Role.diag
    let (z, c, fl) := trCols c (fun _ => []) (fun i => some (dv i)) fwd nc (trVal c y)
    if fl.isSome then (z, c, fl) else trCols c lowT (fun _ => none) bwd nc (trVal c z)
  else if op = 7 then
    -- the pivots exchange rows of B in order
    let perm := (List.range n).foldl (fun (p : List Nat) k =>
      let r := (extra k).toNat
      lset (lset p k (p.getD r 0)) r (p.getD k 0)) (List.range n)
    let (y, c, _) := trCols c low (fun _ => none) fwd nc (fun i k => rhs (perm.getD i 0) k)
    trCols c up (fun i => some (f i i)) bwd nc (trVal c y)
  else
    -- Qᵀ B, one reflection at a time, rounded to role X; then R
    let v := fun k i => if i = k then Ex.q 1 0 else f i k
    let (y, c) := (List.range nc).foldl (fun (acc : List (Nat × List Ex) × SArith) col =>
      let (ys, c) := acc
      let (y, c) := (List.range cols).foldl (fun (st : List Ex × SArith) k =>
        let (y, c) := st
        let w := (Ex.sum ((span k n).map (fun i => (v k i).mul (y.getD i Ex.zero)))).mul (c.val (extra k) Role.diag)
        let (ts, c) := (span k n).foldl (fun (a : List Int × SArith) i =>
          let (q, c) := a.2.rnd ((y.getD i Ex.zero).sub ((v k i).mul w)) Role.x (i * nc + col)
          (a.1 ++ [q], c)) ([], c)
        (y.take k ++ ts.map (c.val · Role.x), c)) ((List.range n).map (fun i => rhs i col), c)
      (ys ++ [(col, y)], c)) ([], c)
    let upC := fun i => (span (i + 1) cols).map (fun j => (j, f i j))
    trCols c upC (fun i => some (f i i)) (List.range cols).reverse nc (fun i k => (mget y k []).getD i Ex.zero)

/-- What a kernel computes: its status, first saturation, the words it writes, its MACs, and FAIL_INDEX. -/
def State.kernel (s : State) (r : SolveRun) : Nat × SArith × List (Nat × Int) × Nat × Nat :=
  let d := r.desc
  let n := svN d
  let nc := svNc d
  let c : SArith := ⟨r.exps, none⟩
  let done := fun (c : SArith) (ws : List (Nat × Int)) (macs : Nat) =>
    (if c.range.isSome then St.rangeExceeded else St.ok, c, ws, macs, 0)
  let bLen := if svOp d = 3 then nc else n
  let bPoison := if svOp d = 4 then (List.range n).any (fun i => s.poisoned (svB d + i * svLdb d) (8 * nc))
    else s.poisoned (svB d) (8 * bLen)
  if bPoison then (St.poisonConsumed, c, [], 0, 0)
  else if svOp d ≤ 2 then
    if s.poisoned (svA d) (8 * n) then (St.poisonConsumed, c, [], 0, 0)
    else
      let a := s.readQ (svA d) n
      let b := s.readQ (svB d) n
      if svOp d = 1 then
        let (q, c) := c.rnd (c.dot a Role.a b Role.b) Role.x 0
        done c [(svX d, q)] n
      else
        let (x, c) := c.vec Role.x (c.axpy b Role.b (c.val (svAlpha d) Role.alpha) a Role.a)
        done c (x.zipIdx.map (fun (q, i) => (svX d + 8 * i, q))) n
  else if svOp d = 3 then
    let (st, rows) := s.solveRows r
    if st != 0 then (st, c, [], 0, 0)
    else
      let (x, c) := c.vec Role.x (c.mv rows (s.readQ (svB d) nc) Role.b)
      done c (x.zipIdx.map (fun (q, i) => (svX d + 8 * i, q))) r.nnz
  else
    let rhs := fun i k => c.val (signed 64 (s.readNat (svB d + i * svLdb d + 8 * k) 8)) Role.b
    let ws := fun (xs : List (Nat × List (Nat × Int))) => xs.flatMap (fun (k, x) =>
      x.map (fun (i, q) => (svX d + i * svLdb d + 8 * k, q)))
    let fin := fun (res : List (Nat × List (Nat × Int)) × SArith × Option Nat) =>
      match res with
      | (xs, c, some k) => (St.singular, c, ws xs, n * n * nc / 2, k)
      | (xs, c, none) => done c (ws xs) (n * n * nc / 2)
    if svMat d = 2 then
      let h := r.fset
      let slot := fsSlot h (fsCur h)
      let cols := fsNc h
      if s.poisoned slot (slotBytes (fsOp h) n cols) then (St.poisonConsumed, c, [], 0, 0)
      else
        let m := fun i j => signed 64 (s.readNat (slot + 8 * (i * cols + j)) 8)
        let extra := fun k => signed 64 (s.readNat (slot + 8 * (n * cols + k)) 8)
        fin (factSolve c (fsOp h) n cols nc m extra rhs)
    else
      let (st, rows) := s.solveRows r
      if st != 0 then (st, c, [], 0, 0)
      else
        let at' := fun i j => c.val (((rows.getD i []).getD j (0, 0)).2) Role.a
        let side := fun i => if svLower d then (List.range i).map (fun j => (j, at' i j))
          else (span (i + 1) n).map (fun j => (j, at' i j))
        fin (trCols c side (fun i => if svUnit d then none else some (at' i i))
          (if svLower d then List.range n else (List.range n).reverse) nc rhs)

/-- Words of X for a kernel stopped before it computed: each keeps its value or receives a free one.
Details: DESIGN CHOICE, log entry 42. -/
def State.svScramble (s : State) (t : Nat) (r : SolveRun) : State :=
  let d := r.desc
  let rows := if svMat d = 2 && fsOp r.fset = 8 then fsNc r.fset else svN d
  let ws := if svOp d = 1 then [svX d]
    else if svOp d = 4 then (List.range rows).flatMap (fun i => (List.range (svNc d)).map (fun k => svX d + i * svLdb d + 8 * k))
    else (List.range (svN d)).map (fun i => svX d + 8 * i)
  s.svPartial t (ws.zipIdx.map (fun (a, i) => (a, signed 64 (s.free (2 ^ 40 + i) (2 ^ 64)))))

/-- What a run that stopped part-way has done of its arithmetic: whether it met the first saturation, and how many of `k` panels it
completed, timing decides (R196, R217). Details: DESIGN CHOICE, log entry 42. -/
def State.partRun (s : State) (r : SolveRun) (c : SArith) (k : Nat) : SolveRun :=
  { r with range := if Config.freeBool s.fresh (2 ^ 41) then c.range else none, k := s.free (2 ^ 41) (k + 1) }

/-- Run a kernel (R201); the row acts on a run of its own OP. -/
def State.runKernel (s : State) (t op retries : Nat) (fail : Bool) (ecc : EccFinds) : State :=
  match s.activeRun t op with
  | none => s
  | some r =>
    let s := (s.eccAll ecc).svResidue t retries fail
    let (st, c, ws, macs, failAt) := s.kernel r
    if st == St.poisonConsumed || st == St.badParam then
      (s.svScramble t r).keepRun t { r with status := some st }
    else if fail then
      (s.svPartial t ws).keepRun t { s.partRun r c 0 with status := some St.residueMismatch }
    else
      ((s.svWriteAt t ws).svMacs t macs).keepRun t { r with status := some st, range := c.range, failIndex := failAt }

def execDot (t : Fin 16) (retries : Nat) (fail : Bool) (ecc : EccFinds) (s : State) : Out :=
  ok (s.runKernel t 1 retries fail ecc)
def execAxpy (t : Fin 16) (retries : Nat) (fail : Bool) (ecc : EccFinds) (s : State) : Out :=
  ok (s.runKernel t 2 retries fail ecc)
def execSpmv (t : Fin 16) (retries : Nat) (fail : Bool) (ecc : EccFinds) (s : State) : Out :=
  ok (s.runKernel t 3 retries fail ecc)
def execTrsolve (t : Fin 16) (retries : Nat) (fail : Bool) (ecc : EccFinds) (s : State) : Out :=
  ok (s.runKernel t 4 retries fail ecc)

/-! ## Factorisations -/

/-- The slot a factorisation writes: the one that is not current (R205). -/
def otherSlot (h : Bytes) : Nat := fsSlot h (if fsCur h = 0 then 1 else 0)

/-- The factorisation of A: 0 or a status, the state reached, and the panels completed.
Details: DESIGN CHOICE, log entry 40. -/
def State.factorise (s : State) (r : SolveRun) : Nat × FactSt × SArith × Nat :=
  let d := r.desc
  let n := svN d
  let cols := svNc d
  let c : SArith := ⟨r.exps, none⟩
  let (st, rows) := s.solveRows r
  if st != 0 then (st, ⟨[], [], none⟩, c, 0)
  else
    let m := rows.zipIdx.foldl (fun m (row, i) => row.foldl (fun m (j, q) => mput m (i * cols + j) (q, Role.a)) m)
      ([] : List (Nat × (Int × Nat)))
    let panel := match svOp d with
      | 5 => SArith.cholPanel false n
      | 6 => SArith.cholPanel true n
      | 7 => SArith.luPanel n
      | _ => SArith.qrPanel n cols
    let ((f, c), k) := factRun panel (panelStarts cols) 0 (⟨m, [], none⟩, c)
    let st := match f.fail with
      | some (_, st) => st
      | none => if c.range.isSome then St.rangeExceeded else 0
    (st, f, c, k)

/-- MACs of a factorisation: each element counts the products its updates sum. -/
def factMacs (op n cols : Nat) : Nat :=
  if op ≤ 6 then ((List.range n).map (fun i => (List.range (i + 1)).foldl (· + ·) 0)).foldl (· + ·) 0
  else if op = 7 then ((List.range n).map (fun i => ((List.range n).map (fun j => min i j)).foldl (· + ·) 0)).foldl (· + ·) 0
  else ((List.range cols).map (fun k => 2 * (n - k) * (cols - 1 - k))).foldl (· + ·) 0

/-- The words of the other slot. Details: DESIGN CHOICE, log entry 40. -/
def slotWords (r : SolveRun) (f : FactSt) : List (Nat × Int) :=
  (factSlot (svOp r.desc) (svN r.desc) (svNc r.desc) f).zipIdx.map (fun (q, i) => (otherSlot r.fset + 8 * i, q))

/-- The other slot is partly written: with the panels' words, or, where poison stopped the engine before the model forms them, free
ones (Table 9.7, R218). Details: DESIGN CHOICE, log entry 42. -/
def State.slotPart (s : State) (t : Nat) (r : SolveRun) (st : Nat) (f : FactSt) : State :=
  let ws := slotWords r f
  s.svPartial t (if st == St.poisonConsumed || st == St.badParam
    then ws.zipIdx.map (fun (w, i) => (w.1, signed 64 (s.free (2 ^ 40 + i) (2 ^ 64)))) else ws)

/-- Run a factorisation: the other slot is written; the header only when SOLVE_COMPLETE commits (R205–R207, R218). -/
def State.runFact (s : State) (t op retries : Nat) (fail : Bool) (ecc : EccFinds) : State :=
  match s.activeRun t op with
  | none => s
  | some r =>
    let s := (s.eccAll ecc).svResidue t retries fail
    let r := { r with fp := s.fingerprint r }
    let (st, f, c, k) := s.factorise r
    if fail && (st == 0 || st == St.rangeExceeded) then
      (s.slotPart t r st f).keepRun t { s.partRun r c (k - 1) with status := some St.residueMismatch }
    else if st != 0 then
      (s.slotPart t r st f).keepRun t { r with
        status := some st, range := c.range, k := k
        failIndex := match f.fail with | some (i, _) => i | none => 0 }
    else
      let s := (s.svWriteAt t (slotWords r f)).svMacs t (factMacs op (svN r.desc) (svNc r.desc))
      (s.keepRun t { r with status := some St.ok, range := c.range, k := k }).wr (F.SOLV_STATUS_PHASE t) 2

def execChol (t : Fin 16) (retries : Nat) (fail : Bool) (ecc : EccFinds) (s : State) : Out :=
  ok (s.runFact t 5 retries fail ecc)
def execLdlt (t : Fin 16) (retries : Nat) (fail : Bool) (ecc : EccFinds) (s : State) : Out :=
  ok (s.runFact t 6 retries fail ecc)
def execLu (t : Fin 16) (retries : Nat) (fail : Bool) (ecc : EccFinds) (s : State) : Out :=
  ok (s.runFact t 7 retries fail ecc)
def execQr (t : Fin 16) (retries : Nat) (fail : Bool) (ecc : EccFinds) (s : State) : Out :=
  ok (s.runFact t 8 retries fail ecc)

/-- The committed factor-set header (Table 9.6). Details: DESIGN CHOICE, log entry 40. -/
def State.fsHeader (s : State) (r : SolveRun) : Bytes :=
  let d := r.desc
  let h := r.fset
  let e := fun role => natLE 2 (unsigned 16 (r.exps.getD role 0))
  let diag := svOp d = 6 || svOp d = 8
  sub h 0 2 ++ natLE 1 (svOp d) ++ natLE 1 (if fsCur h = 0 then 1 else 0) ++ natLE 4 (svNc d) ++ sub h 8 16
    ++ natLE 4 (svN d) ++ e Role.factor ++ (if diag then e Role.diag else natLE 2 0) ++ natLE 8 r.fp ++ natLE 8 s.now
    ++ zeros 16

/-! ## Iterative solves (R209–R212) -/

/-- The iterate's buffer. Details: DESIGN CHOICE, log entry 40. -/
def svBuf (d : Bytes) (parity : Nat) : Nat := if parity % 2 = 0 then svX d else svXAlt d

def SolveRun.iter (r : SolveRun) : IterSt := ⟨r.x, r.r, r.p, r.rh, r.rho, r.basis, r.hess, r.rots, r.g⟩
def SolveRun.setIter (r : SolveRun) (t : IterSt) (c : SArith) : SolveRun :=
  { r with x := t.x, r := t.r, p := t.p, rh := t.rh, rho := t.rho, basis := t.basis, hess := t.hess
           rots := t.rots, g := t.g, range := c.range }

/-- The convergence test on what the run holds (R212). -/
def SolveRun.test (r : SolveRun) : Bool × Nat :=
  let c : SArith := ⟨r.exps, none⟩
  let tol := svTol r.desc
  if svOp r.desc = 11 then convTest (sumSq [r.g.getLastD 0]) (c.e Role.hess) r.sumB (c.e Role.b) tol
  else convTest (sumSq r.r) (c.e Role.r) r.sumB (c.e Role.b) tol

/-- What the engine decides before an iteration: RANGE_EXCEEDED, OK, NOT_CONVERGED, or to go on (R212, R218). -/
def SolveRun.decide (r : SolveRun) : SolveRun :=
  let (pass, rf) := r.test
  let st := if r.range.isSome then some St.rangeExceeded
    else if pass then some St.ok
    else if svMaxIter r.desc ≤ r.k then some St.notConverged
    else none
  { r with resFrac := rf, status := st }

/-- x₀, r₀ and the first test; the fingerprint and the warm block first with WARM_EN (R209, R216). -/
def State.iterStart (s : State) (t : Nat) (r : SolveRun) : State × SolveRun :=
  let d := r.desc
  let n := svN d
  let wa := svWarmAddr d
  let r := if svWarm d then { r with fp := s.fingerprint r } else r
  if s.poisoned (svB d) (8 * n) || (svWarm d && s.poisoned wa 64) then
    (s, { r with status := some St.poisonConsumed })
  else
    let match_ := svWarm d && s.readNat wa 2 == 0x5753 && s.readNat (wa + 2) 1 == 1 && s.readNat (wa + 8) 8 == r.fp
      && s.readNat (wa + 16) 4 == n && signed 16 (s.readNat (wa + 20) 2) == r.exps.getD Role.x 0
    if match_ && s.poisoned (wa + 64) (8 * n) then (s, { r with status := some St.poisonConsumed, warmUsed := true })
    else
      let x := if match_ then s.readQ (wa + 64) n else List.replicate n 0
      let r := { r with x := x, warmUsed := match_, warmRej := svWarm d && !match_, started := true }
      let s := s.svWrite t (svX d) x
      let (st, rows) := s.solveRows r
      if st != 0 then (s, { r with status := some st })
      else
        let b := s.readQ (svB d) n
        let c : SArith := ⟨r.exps, none⟩
        let r := { r with sumB := sumSq b }
        let macs := rows.foldl (fun a row => a + row.length) 0 + n
        let s := (s.svMacs t macs).wr (F.SOLV_STATUS_PHASE t) 1
        if svOp d = 11 then
          let (rr, c) := c.residual rows b x
          let (it, c) := c.gmCycle { IterSt.init with x := x, r := rr }
          (s, (r.setIter it c).decide)
        else
          let (it, c) := c.start rows b x
          let s := s.svWrite t (svWork d) it.r
          let s := if svOp d = 10 then (s.svWrite t (svWork d + 8 * n) it.rh).svWrite t (svWork d + 16 * n) it.p
            else s.svWrite t (svWork d + 8 * n) it.p
          (s, (r.setIter it c).decide)

/-- Iterate k of CG or BICGSTAB is complete: it is written to its buffer. -/
def State.iterate (s : State) (t : Nat) (r : SolveRun) (it : IterSt) (c : SArith) : State × SolveRun :=
  let r := { r.setIter it c with k := r.k + 1, lastBuf := (r.k + 1) % 2 }
  (s.svWrite t (svBuf r.desc r.k) it.x, r)

/-- Write a work vector, number i of Table 9.5. -/
def State.svWorkVec (s : State) (t : Nat) (d : Bytes) (i : Nat) (v : List Int) : State :=
  s.svWrite t (svWork d + 8 * i * svN d) v

def State.cgOne (s : State) (t : Nat) (rows : List SRow) (r : SolveRun) : State × SolveRun :=
  let d := r.desc
  let nnz := rows.foldl (fun a row => a + row.length) 0
  let (it, q, c) := SArith.cgStep ⟨r.exps, r.range⟩ rows r.iter
  let s := ((s.svWorkVec t d 0 it.r).svWorkVec t d 1 it.p).svWorkVec t d 2 q
  let (s, r) := (s.svMacs t (nnz + 5 * svN d)).iterate t r it c
  (s, r.decide)

def State.biOne (s : State) (t : Nat) (rows : List SRow) (r : SolveRun) : State × SolveRun :=
  let d := r.desc
  let n := svN d
  let nnz := rows.foldl (fun a row => a + row.length) 0
  let (how, it, rf, vecs, c) := SArith.biStep ⟨r.exps, r.range⟩ rows r.iter r.sumB (svTol d)
  let s := vecs.zipIdx.foldl (fun s (v, i) => s.svWorkVec t d (3 + i) v) s
  let s := (s.svWorkVec t d 0 it.r).svWorkVec t d 2 it.p
  let rangeOr := fun (st : Nat) => if c.range.isSome then St.rangeExceeded else st
  match how with
  | .breakdown =>
    -- RES_FRAC is that of the last test: s's, when v is not all that was formed
    (s.svMacs t (nnz + n), { r with
      range := c.range, status := some St.breakdown, resFrac := if vecs.length = 1 then r.resFrac else rf })
  | .early =>
    let (s, r) := (s.svMacs t (nnz + 3 * n)).iterate t r it c
    (s, { r with resFrac := rf, status := some (rangeOr St.ok) })
  | .full =>
    let (s, r) := (s.svMacs t (2 * nnz + 9 * n)).iterate t r it c
    (s, r.decide)
  | .rhoZero =>
    let (s, r) := (s.svMacs t (2 * nnz + 9 * n)).iterate t r it c
    let (pass, rf) := r.test
    (s, { r with resFrac := rf, status := some (rangeOr (if pass then St.ok else St.breakdown)) })

/-- The end of a GMRES cycle: x is updated and written to the buffer of its cycle. -/
def State.gmEnd (s : State) (t : Nat) (r : SolveRun) : State × SolveRun :=
  let (it, c) := SArith.gmFinish ⟨r.exps, r.range⟩ r.iter
  let r := { r.setIter it c with cyc := r.cyc + 1, lastBuf := (r.cyc + 1) % 2 }
  let s := s.svMacs t (r.hess.length * (svN r.desc + r.hess.length))
  (s.svWrite t (svBuf r.desc r.cyc) it.x, r)

/-- The end of a cycle reads x, and the next cycle's residual B, from memory: a poisoned word stops the engine (R218). -/
def State.gmPoison (s : State) (r : SolveRun) (withB : Bool) : Bool :=
  let n := svN r.desc
  s.poisoned (svBuf r.desc r.lastBuf) (8 * n) || (withB && s.poisoned (svB r.desc) (8 * n))

/-- One Arnoldi step, with the end of its cycle at m steps or at convergence, and the next residual (R211). -/
def State.gmOne (s : State) (t : Nat) (rows : List SRow) (b : List Int) (r : SolveRun) : State × SolveRun :=
  let d := r.desc
  let n := svN d
  let nnz := rows.foldl (fun a row => a + row.length) 0
  let c : SArith := ⟨r.exps, r.range⟩
  let (it, c) := if r.basis.isEmpty then c.gmPush r.iter r.r (r.g.getD 0 0) else (r.iter, c)
  let s := if r.basis.isEmpty then s.svWorkVec t d 0 (it.basis.getD 0 []) else s
  let (it, w, h, c) := c.gmStep rows it
  let j := it.hess.length
  let s := (s.svWorkVec t d (svGm d + 1) w).svMacs t (nnz + 2 * j * n + n)
  let r := { r.setIter it c with k := r.k + 1 }
  let d1 := r.decide
  if d1.status == some St.ok then
    if s.gmPoison r false then (s, { d1 with status := some St.poisonConsumed }) else
    let (s, r) := s.gmEnd t d1
    (s, { r with status := some (if r.range.isSome then St.rangeExceeded else St.ok) })
  else if j = svGm d && !r.range.isSome then
    if s.gmPoison r true then (s, { d1 with status := some St.poisonConsumed }) else
    let (s, r) := s.gmEnd t d1
    let c : SArith := ⟨r.exps, r.range⟩
    let (rr, c) := c.residual rows b r.x
    let (it, c) := c.gmCycle { r.iter with r := rr }
    (s.svMacs t (nnz + n), (r.setIter it c).decide)
  else if d1.status.isSome then (s, d1)
  else
    let (it, c) := SArith.gmPush ⟨r.exps, r.range⟩ r.iter w h
    (s.svWorkVec t d j (it.basis.getD j []), { d1.setIter it c with resFrac := d1.resFrac, status := none })

/-- Whether a word that an iteration reads of the work area (Table 9.5), or of the iterate, is poisoned (R218). -/
def State.workPoison (s : State) (r : SolveRun) : Bool :=
  let d := r.desc
  let n := svN d
  let vecs := match svOp d with
    | 9 => 2
    | 10 => 3
    | _ => r.basis.length
  s.poisoned (svWork d) (8 * vecs * n) || (svOp d != 11 && s.poisoned (svBuf d r.lastBuf) (8 * n))

/-- At most n iterations; each reads A again (R199). -/
def iterRun (t : Nat) : Nat → State → SolveRun → State × SolveRun
  | 0, s, r => (s, r)
  | n + 1, s, r =>
    if r.status.isSome then (s, r)
    else
      let (st, rows) := s.solveRows r
      let b := s.readQ (svB r.desc) (svN r.desc)
      if st != 0 then (s, { r with status := some st })
      else if s.workPoison r then (s, { r with status := some St.poisonConsumed })
      else
        let (s, r) := match svOp r.desc with
          | 9 => s.cgOne t rows r
          | 10 => s.biOne t rows r
          | _ => s.gmOne t rows b r
        iterRun t n s r

/-- Start an iterative solve if it has not started, and run up to n iterations; `fail` says that the next pass fails its
recompute (R218). -/
def State.runIter (s : State) (t op n retries : Nat) (fail : Bool) (ecc : EccFinds) : State :=
  match s.activeRun t op with
  | none => s
  | some r =>
    let s := s.eccAll ecc
    let (s, r) := if r.started then (s, r) else s.iterStart t r
    let (s, r) := iterRun t n s r
    let failed := fail && r.status.isNone
    let s := s.svResidue t retries failed
    s.keepRun t (if failed then { r with status := some St.residueMismatch } else r)

def execCg (t : Fin 16) (n retries : Nat) (fail : Bool) (ecc : EccFinds) (s : State) : Out :=
  ok (s.runIter t 9 n retries fail ecc)
def execBicgstab (t : Fin 16) (n retries : Nat) (fail : Bool) (ecc : EccFinds) (s : State) : Out :=
  ok (s.runIter t 10 n retries fail ecc)
def execGmres (t : Fin 16) (n retries : Nat) (fail : Bool) (ecc : EccFinds) (s : State) : Out :=
  ok (s.runIter t 11 n retries fail ecc)

/-! ## The end of a solve (R209, R213, R216–R220) -/

/-- The output whose digest a command's record carries (R220). -/
def State.solveOutput (s : State) (r : SolveRun) : Bytes :=
  let d := r.desc
  if svFact d then
    let h := s.readBytes (svX d) 64
    s.readBytes (fsSlot h (fsCur h)) (slotBytes (svOp d) (svN d) (svNc d))
  else if svOp d = 4 then
    let rows := if svMat d = 2 && fsOp r.fset = 8 then fsNc r.fset else svN d
    s.readBytes (svX d) ((rows - 1) * svLdb d + 8 * svNc d)
  else s.readBytes (svX d) (if svOp d = 1 then 8 else 8 * svN d)

/-- The engine ends: registers, and the entry or command that issued the solve. The handle of a pair's command completes
with its last member (R220). Details: DESIGN CHOICE, log entry 42. -/
def State.endRun (s : State) (t : Nat) (r : SolveRun) (status : Nat) : State :=
  if (mfind s.solver t).isNone then s else
  let s := { s with solver := mdel s.solver t }
  let s := ((s.wr (F.SOLV_STATUS_STATE t) 0).inc (F.SOLV_COUNTS_SOLVES t))
  let s := match r.entry with
    | some i => (s.setEs t i { s.es t i with detail := r.k }).entryReady t i status
    | none => s
  match r.handle with
  | some h =>
    let s := s.settlePower t
    if s.solver.any (fun q => q.2.handle == some h) then s
    else s.complete h status 0 (sha3_256 (s.readBytes (svResult r.desc) 64 ++ s.solveOutput r))
  | none => s

/-- Write the result record and the SOLV_ registers that follow it (R217, Tables 9.15, 9.17, 9.18). -/
def State.recordRun (s : State) (t : Nat) (r : SolveRun) (status : Nat) : State :=
  let s := s.svBytes t (svResult r.desc) (s.resultRecord r status)
  let s := (s.wr (F.SOLV_LAST_STATUS t) status).wr (F.SOLV_LAST_FLAGS t) (r.flags status)
  let s := s.wr (F.SOLV_LAST_RES_FRAC t) (if svIter r.desc then r.resFrac else 0)
  let numeric := [St.singular, St.notDefinite, St.notConverged, St.breakdown].contains status
  let s := if r.warmRej then s.ev (F.SOLV_EVENTS_WARM_REJECTED t) else s
  let s := if status == St.poisonConsumed then s.ev (F.SOLV_EVENTS_POISON t) else s
  let s := if numeric then s.ev (F.SOLV_EVENTS_NUMERIC t) else s
  let s := if status == St.deadlineMissed then s.ev (F.SOLV_EVENTS_MISSED t) else s
  let s := if status == St.deadlineAborted then s.ev (F.SOLV_EVENTS_ABORTED t) else s
  if status == St.deadlineMissed || status == St.deadlineAborted then s.inc (F.SOLV_COUNTS_MISSES t) else s

/-- The warm block's header (Table 9.8). -/
def State.warmHeader (s : State) (r : SolveRun) : Bytes :=
  natLE 2 0x5753 ++ natLE 1 1 ++ zeros 5 ++ natLE 8 r.fp ++ natLE 4 (svN r.desc)
    ++ natLE 2 (unsigned 16 (r.exps.getD Role.x 0)) ++ zeros 2 ++ natLE 8 s.now ++ zeros 32

/-- SOLVE_COMPLETE: the final copy, the warm write or the header commit, then the record; `cycles` is how long it ran. -/
def execSolveComplete (t : Fin 16) (cycles : Nat) (s : State) : Out :=
  match mfind s.solver t with
  | none => ok s
  | some r =>
    match r.status with
    | none => ok s
    | some st =>
      let s := s.incw (F.SOLV_BUSY_VALUE t) cycles
      if st == St.ok && svIter r.desc then
        let s := if r.lastBuf = 1 then s.svWrite t (svX r.desc) r.x else s
        let r := { r with lastBuf := 0 }
        let s := if svWarm r.desc then
            let s := s.svBytes t (svWarmAddr r.desc + 2) [0]
            let s := s.svWrite t (svWarmAddr r.desc + 64) r.x
            (s.svBytes t (svWarmAddr r.desc) (s.warmHeader r)).wrReg (R.SOLV_WARM_FP t) r.fp
          else s
        let st := if r.warmRej then St.warmRejected else St.ok
        ok ((s.recordRun t r st).endRun t r st)
      else if st == St.ok && svFact r.desc then
        let s := s.svBytes t (svX r.desc) (s.fsHeader r)
        ok ((s.recordRun t r st).endRun t r st)
      else ok ((s.recordRun t r st).endRun t r st)

/-- What a deadline leaves (Table 9.7): `warm` says that it arrives during the warm write of a converged solve. None when
the solve has already stopped. Details: DESIGN CHOICE, log entry 42. -/
def State.deadlineRun (s : State) (t : Nat) (r : SolveRun) (warm : Bool) : Option (State × SolveRun × Nat) :=
  let d := r.desc
  match r.status with
  | none =>
    if svIter d then some (s, r, St.deadlineMissed)
    else if svFact d then
      let r := { r with fp := s.fingerprint r }
      let (st, f, c, k) := s.factorise r
      some (s.slotPart t r st f, s.partRun r c k, St.deadlineAborted)
    else
      let (st, c, ws, _, _) := s.kernel r
      if st == St.poisonConsumed || st == St.badParam then some (s.svScramble t r, r, St.deadlineMissed)
      else some (s.svPartial t ws, s.partRun r c 0, St.deadlineMissed)
  | some st =>
    if st == St.ok && svFact d then some (s, r, St.deadlineAborted)
    else if st == St.ok && svIter d && r.lastBuf = 1 && !(warm && svWarm d) then
      some (s.svPartial t (r.x.zipIdx.map (fun (q, i) => (svX d + 8 * i, q))), r, St.deadlineMissed)
    else if st == St.ok && svIter d && svWarm d then
      let s := if r.lastBuf = 1 then s.svWrite t (svX d) r.x else s
      let s := s.svBytes t (svWarmAddr d + 2) [0]
      let s := s.svPartial t (r.x.zipIdx.map (fun (q, i) => (svWarmAddr d + 64 + 8 * i, q)))
      some (s, { r with lastBuf := 0 }, St.deadlineMissed)
    else none

/-- SOLVE_DEADLINE: step time reaches the deadline of the running solve (R213). -/
def execSolveDeadline (t : Fin 16) (warm : Bool) (cycles : Nat) (s : State) : Out :=
  match mfind s.solver t with
  | none => ok s
  | some r =>
    if r.deadline = 0 then ok s
    else match s.reach r.deadline with
      | none => ok s
      | some s =>
        match s.deadlineRun t r warm with
        | none => ok s
        | some (s, r, st) => ok ((((s.keepRun t r).incw (F.SOLV_BUSY_VALUE t) cycles).recordRun t r st).endRun t r st)

/-- Stop a terrace's engine at an entry's deadline (R81): the status its entry ends with.
Details: DESIGN CHOICE, log entry 42. -/
def State.stopSolver (s : State) (t : Nat) : State × Nat :=
  match mfind s.solver t with
  | none => (s, St.deadlineMissed)
  | some r =>
    match s.deadlineRun t r false with
    | some (s, r, st) => (((s.keepRun t r).recordRun t r st).endRun t r st, st)
    | none =>
      let st := r.status.getD St.deadlineMissed
      ((s.recordRun t r st).endRun t r st, st)

/-- A terrace compute reset stops the engine without a record (R219), and leaves memory as a deadline does at a point that timing
decides; a command on it completes with NODE_RESETTING (R406). Details: DESIGN CHOICE, log entry 42. -/
def State.resetSolver (s : State) (t : Nat) : State :=
  match mfind s.solver t with
  | none => s
  | some r =>
    let s := match s.deadlineRun t r (Config.freeBool s.fresh (2 ^ 42)) with
      | some (s, _, _) => s
      | none => s
    let s := ({ s with solver := mdel s.solver t }).wr (F.SOLV_STATUS_STATE t) 0
    match r.handle with
    | some h => s.complete h St.nodeResetting 0 []
    | none => s

/-! ## Accepting a solve (R203, R213, R220) -/

/-- Accept a descriptor at an address for an entry or a command: 0 when the engine took it, else the status with which it
ends at once. `d` and its poison are as the sequencer or the engine read them. -/
def State.solveStart (s : State) (t addr : Nat) (d : Bytes) (poisonD : Bool) (entry handle : Option Nat)
    (deadline : Nat) : State × Nat :=
  if deadline != 0 && deadline ≤ s.now then (s, St.deadlineMissed)
  else
    let (st, r, exts) := s.svAccept t addr d poisonD entry handle deadline
    match r with
    | some r => (s.beginRun t r, 0)
    | none =>
      -- a refused output over a sealed context, or any extent over the reflection region, sets its event
      let s := exts.foldl (fun s e =>
        let s := s.noteRefl e.base e.len
        match (if e.out then s.ctxHit e.base e.len else none) with
        | some (sp, _) => s.ctxRefused sp
        | none => s) s
      (s, st)

/-- SOLVE: the long command 0x0801. -/
def execSolve (s : State) : Out :=
  s.withSub Op.solve (fun _ => true) (fun q s =>
    let t := q.p 0 1
    let addr := q.p 8 8
    if t > 15 || (s.sealed && t > 7) then s.refuse q St.badParam
    else
      let ts := s.members t
      if ts.any (fun u => bit s.jobMask u || s.rd (F.SOLV_STATUS_STATE u) != 0) || s.flag F.NODE_PROFILE_SWITCHING then
        s.refuse q St.busy
      else
        let (s, h) := s.accept q
        if addr ≥ 2 ^ 48 || addr % 64 != 0 || !s.backed addr 128 then s.complete h St.badParam 0 []
        else
          let pois := s.poisoned addr 128
          let d := s.readBytes addr 128
          let s := forEach ts s (fun u s => s.setPower u 2)
          let (s, sts) := ts.foldl (fun (acc : State × List Nat) u =>
            let (s, st) := acc.1.solveStart u addr d pois none (some h) q.deadline
            (s, acc.2 ++ [st])) (s, [])
          match sts.find? (· != 0) with
          | some st =>
            let s := forEach ts { s with solver := s.solver.filter (fun e => e.2.handle != some h) }
              (fun u s => (s.wr (F.SOLV_STATUS_STATE u) 0).settlePower u)
            s.complete h st 0 []
          | none => s)

end Sys2Proof.Machine
end

