-- ==== Sys2Proof/Machine/Coll.lean ====
section
/-! DEFINITION. Collectives (chapter 13): group plans, invocations, the chunk pipeline, verified commit, aborts and
JOB_BROADCAST. -/

namespace Sys2Proof.Machine

open Sys2Proof

/-! ## Group plans (R299–R301) -/

def gpShape (b : Bytes) : Nat := fld b 3 1
def gpTag (b : Bytes) : Nat := fld b 4 2
def gpSlot (b : Bytes) : Nat := fld b 6 1
def gpWeight (b : Bytes) : Nat := fld b 7 1
def gpMembers (b : Bytes) : Nat := fld b 8 4
def gpMe (b : Bytes) : Nat := fld b 12 4
def gpTerrace (b : Bytes) : Nat := fld b 16 1
def gpChildren (b : Bytes) : Nat := fld b 17 1
def gpSpares (b : Bytes) : Nat := fld b 18 1
def gpAdopt (b : Bytes) : Nat := fld b 19 1
/-- Details: DEDUCED, log entry 43. -/
def gpList (b : Bytes) : Nat := fld b 24 8
def gpPrev (b : Bytes) : Nat := fld b 32 8
def gpNext (b : Bytes) : Nat := fld b 40 8
def gpChild (b : Bytes) (i : Nat) : Nat := fld b (48 + 8 * i) 8
def gpSpare (b : Bytes) (i : Nat) : Nat := fld b (112 + 8 * i) 8
def gpAdoptee (b : Bytes) (i : Nat) : Nat := fld b (128 + 8 * i) 8
def gpTree (b : Bytes) : Bool := gpShape b == 1

/-- Fields of a neighbour record (Table 13.2). -/
def nbNode (r : Nat) : Nat := bits r 0 15
def nbTerrace (r : Nat) : Nat := bits r 16 4
def nbIndex (r : Nat) : Nat := bits r 32 17
def nbValid (r : Nat) : Bool := bit r 63
def nbReserved (r : Nat) : Bool := bit r 15 || bits r 20 12 != 0 || bits r 49 14 != 0

/-- Whether the first n of m records are valid and the others are not. -/
def nbCount (rec_ : Nat → Nat) (n m : Nat) : Bool := (List.range m).all (fun i => nbValid (rec_ i) == decide (i < n))

/-- Reserved fields and ranges of Table 13.1 (ERROR 5). -/
def gpForm (b : Bytes) : Bool :=
  let p := gpMembers b
  let me := gpMe b
  let recs := (List.range 20).map (fun k => fld b (32 + 8 * k) 8)
  let tree := gpTree b
  gpSlot b < 16 && gpTerrace b < 16 && fld b 20 4 = 0 && allZero (sub b 192 32) && 1 ≤ gpWeight b
    && 1 ≤ p && p ≤ 65536 && me < p
    && gpChildren b ≤ 8 && gpSpares b ≤ 2 && gpAdopt b ≤ 8
    && (tree || (gpChildren b = 0 && gpSpares b = 0 && gpAdopt b = 0))
    && (gpShape b = 2 || gpList b = 0) && gpList b < 2 ^ 48
    && (gpShape b != 2 || allZero (sub b 32 160))
    && recs.all (fun r => !nbReserved r && (!nbValid r || nbIndex r < p))
    && nbCount (gpChild b) (gpChildren b) 8 && nbCount (gpSpare b) (gpSpares b) 2 && nbCount (gpAdoptee b) (gpAdopt b) 8
    && (!tree || fld b 40 8 = 0)
    && (gpShape b != 0 || (nbValid (gpPrev b) && nbIndex (gpPrev b) == (me + p - 1) % p
        && nbValid (gpNext b) && nbIndex (gpNext b) == (me + 1) % p))

/-- Check the group plan at an address (R299, R300, R487): the code of Table 13.15, and the plan with a LIST's neighbours
filled in. `tag` is the JOB_TAG it must carry, none for any. Details: DEDUCED, log entry 43. -/
def State.groupCheck (s : State) (addr : Nat) (slot tag : Option Nat) : Nat × Bytes :=
  if addr % 64 != 0 || !s.backed addr 256 then (1, [])
  else if s.poisoned addr 256 then (7, [])
  else
    let b := s.readBytes addr 256
    if fld b 0 2 != 0x4750 || fld b 2 1 != 1 || gpShape b > 2 then (2, [])
    else if sha3_256 (patch b 224 (zeros 32)) != sub b 224 32 then (3, [])
    else if gpTag b = 0 || (match tag with | some t => t != gpTag b | none => false)
        || (match slot with | some k => k != gpSlot b | none => false) then (4, [])
    else if !gpForm b then (5, [])
    else if gpShape b != 2 then (0, b)
    else
      let p := gpMembers b
      let me := gpMe b
      let at_ := fun (i : Nat) => gpList b + 8 * (i % p)
      let idx := [me + p - 1, me, me + 1].map at_
      if !idx.all (fun a => s.backed a 8) then (1, [])
      else if idx.any (fun a => s.poisoned a 8) then (7, [])
      else
        let rd := fun i => s.readNat (at_ i) 8
        let mine := rd me
        if !(nbValid mine && nbNode mine == s.nodeId && nbTerrace mine == gpTerrace b) then (4, [])
        else if idx.any (fun a => let r := s.readNat a 8; nbReserved r || !nbValid r || p ≤ nbIndex r) then (5, [])
        else (0, patch b 32 (natLE 8 (rd (me + p - 1)) ++ natLE 8 (rd (me + 1))))

/-! ## Slots and their registers (Tables 13.10, 13.17, 13.18) -/

def State.cslot (s : State) (g : Nat) : CSlot := mget s.coll.slots g CSlot.init

def State.showSlot (s : State) (g : Nat) : State :=
  let x := s.cslot g
  let b := x.live.getD []
  let st := match x.live, x.cur with
    | none, _ => 0
    | some _, none => 1
    | some _, some _ => 2
  let s := ((s.wrBit F.COLL_STATUS_RUNNING g x.cur.isSome).wrBit F.COLL_STATUS_LIVE g x.live.isSome).wrBit
    F.COLL_STATUS_ARMED g x.armed.isSome
  let s := s.wr F.COLL_STATUS_BCAST (b2n (s.coll.slots.any (fun y =>
    match y.2.cur with | some i => i.bcast.isSome | none => false)))
  let s := ((s.wr (F.COLL_GRP_STATUS_STATE g) st).wr (F.COLL_GRP_STATUS_SHAPE g) (gpShape b)).wr
    (F.COLL_GRP_STATUS_ARMED g) (b2n x.armed.isSome)
  let s := ((s.wr (F.COLL_GRP_STATUS_TERRACE g) (gpTerrace b)).wr (F.COLL_GRP_STATUS_MEMBERS g) (gpMembers b)).wr
    (F.COLL_GRP_STATUS_MY_INDEX g) (gpMe b)
  s.wr (F.COLL_GRP_SEQ_WEIGHT g) (gpWeight b)

def State.setSlotC (s : State) (g : Nat) (x : CSlot) : State :=
  ({ s with coll := { s.coll with slots := mput s.coll.slots g x } }).showSlot g

/-- A plan becomes live: the slot's byte count starts again (Table 13.20). Details: DEDUCED, log entry 43. -/
def State.groupLive (s : State) (g : Nat) (b : Bytes) : State :=
  (s.setSlotC g { s.cslot g with live := some b, armed := none, aborted := [], up := 0 }).wrReg (R.COLL_GRP_BYTES g) 0

/-- COLL_INSTALL_ARM: a write of COLL_INSTALL with ARM = 1 (R301). Details: DEDUCED, log entry 43. -/
def State.collInstall (s : State) (slot addr : Nat) : State :=
  let s := (s.wr F.COLL_INSTALL_SLOT slot).wr F.COLL_INSTALL_ADDR (addr / 64)
  let a := addr / 64 * 64
  let tag := match s.job with | some j => some j.jobTag | none => none
  let (code, b) := s.groupCheck a (some slot) tag
  let x := s.cslot slot
  let busy := x.armed.isSome || (match x.cur with | some i => i.bcast.isSome | none => false)
  let code := if code = 0 && busy then 6 else code
  let s := s.wr F.COLL_INSTALL_ERROR code
  if code != 0 then s
  else if !s.admitted then s.groupLive slot b
  else
    let step := s.boundStep
    (s.setSlotC slot { x with armed := some (b, step) }).wr F.COLL_INSTALL_STEP_STEP step

/-- COLL_INSTALL_ARM: a write of 1 to ARM with SLOT and ADDR. Details: DEDUCED, log entry 43. -/
def execCollInstallArm (slot : Fin 16) (addr : Fin 281474976710656) (s : State) : Out := ok (s.collInstall slot addr)

/-- COLL_FIELD_WEIGHT_WRITE: 0 is taken as 1 (Table 13.14). -/
def execCollFieldWeightWrite (w : Fin 256) (s : State) : Out := ok (s.wr F.COLL_FIELD_WEIGHT_WEIGHT (max 1 w.val))

/-! ## The descriptor (Tables 13.3–13.5, R306, R307) -/

def cdOp (d : Bytes) : Nat := fld d 0 1
def cdRed (d : Bytes) : Nat := fld d 1 1
def cdType (d : Bytes) : Nat := fld d 2 1
def cdOrder (d : Bytes) : Nat := fld d 3 1
def cdChunk (d : Bytes) : Nat := 2 ^ (if fld d 4 1 = 0 then 16 else fld d 4 1)
def cdRoot (d : Bytes) : Nat := fld d 8 4
def cdMask (d : Bytes) : Nat := fld d 12 4
def cdOff (d : Bytes) : Nat := fld d 16 4
def cdLen (d : Bytes) : Nat := fld d 20 4
def cdSrc (d : Bytes) : Nat := fld d 24 8
def cdDst (d : Bytes) : Nat := fld d 32 8
def cdLength (d : Bytes) : Nat := fld d 40 8

def cdReduces (d : Bytes) : Bool := cdOp d == 2 || cdOp d == 3 || cdOp d == 5

/-- Table 13.4: whether ORDER suits the reduction. -/
def redOk (op ty order : Nat) : Bool :=
  if 2 ≤ ty && ty ≤ 4 then
    (op = 0 && (order = 1 || order = 2)) || ((op = 1 || op = 2) && order = 0)
  else if ty = 5 then op = 0 && order = 0
  else ty ≤ 1 && [0, 1, 2, 3, 4, 5, 8, 9].contains op && order = 0

/-- The order class of a descriptor: a reduction's ORDER, 0 otherwise (R303). -/
def cdClass (d : Bytes) : Nat := if cdReduces d then cdOrder d else 0

/-- Whether this member is the root. -/
def cdIsRoot (b d : Bytes) : Bool := if gpTree b then !nbValid (gpPrev b) else cdRoot d == gpMe b

/-- Bytes of SRC and DST this member uses. -/
def cdSrcLen (b d : Bytes) : Nat :=
  if cdOp d = 6 || (cdOp d = 1 && !cdIsRoot b d) then 0
  else if cdOp d = 5 then gpMembers b * cdLength d else cdLength d
def cdDstLen (b d : Bytes) : Nat :=
  if cdOp d = 6 || (cdOp d = 2 && !cdIsRoot b d) then 0
  else if cdOp d = 4 then gpMembers b * cdLength d else cdLength d

/-- Whether the staging region is in range, outside sealed contexts, and holds the slots needed.
Details: DEDUCED, log entry 43. -/
def State.stageOk (s : State) (t : Nat) (d : Bytes) (slots : Nat) : Bool :=
  let c := cdChunk d
  cdMask d < 2 ^ 18 && cdOff d % 64 = 0 && cdLen d % c = 0 && cdOff d + cdLen d ≤ 0x180000
    && slots ≤ popcount (cdMask d) 18 * (cdLen d / c)
    && (bitList (cdMask d) 18).all (fun i => (s.ctxHit (scratchAddr (18 * t + i) (cdOff d)) (cdLen d)).isNone)

/-- An operand extent of a collective: a node-local address, and the bytes the member uses backed (R306, R307). -/
def State.cdExtent (s : State) (a n : Nat) (isWrite : Bool) : Bool :=
  a < 2 ^ 48 && (n = 0 || (s.backed a n && !(isWrite && (s.ctxHit a n).isSome)))

/-- The check of a descriptor against the live plan (R306, R307): OK or BAD_PARAM. -/
def State.cdCheck (s : State) (t : Nat) (b d : Bytes) (cls : Nat) : Nat :=
  let op := cdOp d
  let red := cdReduces d
  let c := fld d 4 1
  let src := cdSrcLen b d
  let dst := cdDstLen b d
  let usesRoot := !gpTree b && (op = 1 || op = 2)
  let good :=
    1 ≤ op && op ≤ 6 && (red || (cdRed d = 0 && cdType d = 0 && cdOrder d = 0))
      && (!red || redOk (cdRed d) (cdType d) (cdOrder d)) && cdClass d = cls
      && (c = 0 || (12 ≤ c && c ≤ 18)) && fld d 5 3 = 0 && (usesRoot || cdRoot d = 0) && cdRoot d < gpMembers b
      && allZero (sub d 48 16) && cdLength d % 64 = 0
      && (op != 6 || (cdSrc d = 0 && cdDst d = 0 && cdLength d = 0))
      && gpTerrace b = (if s.sealed then t % 8 else t)
      && s.cdExtent (cdSrc d) src false && s.cdExtent (cdDst d) dst true
      && (!overlaps (cdSrc d) src (cdDst d) dst || (op = 3 && cdSrc d == cdDst d))
      && s.stageOk (if s.sealed then t % 8 else t) d (8 * (if gpTree b then 1 + gpChildren b else 2))
  if good then St.ok else St.badParam

/-! ## Chunks of an invocation (R304, R308) -/

/-- Bytes of one block. Details: DESIGN CHOICE, log entry 45. -/
def cBlock (b d : Bytes) : Nat :=
  if cdOp d = 3 && !gpTree b then roundUp ((cdLength d + gpMembers b - 1) / gpMembers b) 64 else cdLength d

/-- Blocks of the operation's data. Details: DESIGN CHOICE, log entry 45. -/
def cBlocks (b d : Bytes) : Nat :=
  if cdOp d = 4 || cdOp d = 5 || (cdOp d = 3 && !gpTree b) then gpMembers b else if cdOp d = 6 then 0 else 1

/-- Chunks per block: the chunk index is block × chunks per block + position, so that no two chunks of an invocation share
one (log entry 45). -/
def cPer (b d : Bytes) : Nat := (cBlock b d + cdChunk d - 1) / cdChunk d

/-- Bytes of block i: the last blocks of a ring ALLREDUCE may be short or empty. Details: DESIGN CHOICE, log entry 45. -/
def cBlockLen (b d : Bytes) (i : Nat) : Nat :=
  let w := cBlock b d
  if cdOp d = 3 && !gpTree b then min (cdLength d - i * w) w else w

/-- Block, offset in the block, and bytes of a chunk. Details: DESIGN CHOICE, log entry 45. -/
def cChunkOf (b d : Bytes) (k : Nat) : Nat × Nat × Nat :=
  let per := max 1 (cPer b d)
  let blk := k / per
  let off := k % per * cdChunk d
  (blk, off, min (cdChunk d) (cBlockLen b d blk - off))

/-- Every chunk index with bytes. Details: DESIGN CHOICE, log entry 45. -/
def cChunks (b d : Bytes) : List Nat :=
  (List.range (cBlocks b d * cPer b d)).filter (fun k => (cChunkOf b d k).2.2 != 0)

/-- Where a chunk of this member's SRC lies. Details: DESIGN CHOICE, log entry 45. -/
def cSrcAddr (b d : Bytes) (k : Nat) : Nat :=
  let (blk, off, _) := cChunkOf b d k
  cdSrc d + (if cdOp d = 4 then 0 else blk * cBlock b d) + off

/-- Where a chunk commits at this member, if it does. Details: DESIGN CHOICE, log entry 45. -/
def cDstAddr (b d : Bytes) (k : Nat) : Option Nat :=
  let (blk, off, _) := cChunkOf b d k
  if cdOp d = 5 then (if blk = gpMe b then some (cdDst d + off) else none)
  else if cdOp d = 2 then (if cdIsRoot b d then some (cdDst d + off) else none)
  else some (cdDst d + blk * cBlock b d + off)

/-- The member that finishes block blk of a ring reduction, or where a broadcast or gathered block begins. -/
def cOwner (d : Bytes) (blk : Nat) : Nat := if cdOp d = 1 || cdOp d = 2 then cdRoot d else blk

/-- Links that a chunk leaves this member on as a partial or as a final chunk; `from_` is the link it came on, none at the
member where it arises. -/
def cOnward (b d : Bytes) (k : Nat) (final : Bool) (from_ : Option Nat) (extra : List Nat) : List Nat :=
  let p := gpMembers b
  let me := gpMe b
  let (blk, _, _) := cChunkOf b d k
  let kids := (List.range (gpChildren b)).map (1 + ·) ++ extra
  if gpTree b then
    if cdReduces d then
      if !final then (if nbValid (gpPrev b) then [0] else [])
      else if cdOp d = 2 then [] else kids
    else if cdOp d = 1 then kids
    else ((if nbValid (gpPrev b) then [0] else []) ++ kids).filter (fun l => some l != from_)
  else if p = 1 then []
  else if cdReduces d then
    if !final then (if me = cOwner d blk then [] else [1])
    else if cdOp d = 3 && (me + 1) % p != cOwner d blk then [1] else []
  else if (me + 1) % p != cOwner d blk then [1] else []

/-- Whether chunk k passes this member as a partial. -/
def cHasPartial (d : Bytes) : Bool := cdReduces d

/-- Every (link, key) this member must send. -/
def cSends (b d : Bytes) (extra : List Nat) : List Nat :=
  let me := gpMe b
  let keyOn : Nat → Bool → List Nat → List Nat := fun k final ls => ls.map (fun l => 2 ^ 40 * l + k * 2 + b2n final)
  (cChunks b d).flatMap (fun k =>
    let (blk, _, _) := cChunkOf b d k
    if cdReduces d then keyOn k false (cOnward b d k false none extra) ++ keyOn k true (cOnward b d k true none extra)
    else if gpTree b && cdOp d = 4 then
      -- a gathered block leaves on every link but the one it came on: all but one unless it arises here
      if blk = me then keyOn k true (cOnward b d k true none extra) else []
    else keyOn k true (cOnward b d k true none extra))

/-- Chunks this member must commit. -/
def cCommits (b d : Bytes) : List Nat := (cChunks b d).filter (fun k => (cDstAddr b d k).isSome)

/-! ## Combining (R237, R303, R316) -/

/-- One element width for masks: the words an element covers are poisoned together. -/
def redMask (ty : Nat) (m : Nat) (words : Nat) : Nat :=
  if ty != 5 then m
  else maskOf ((List.range words).filter (fun i => bit m i || bit m (i / 2 * 2) || bit m (i / 2 * 2 + 1)))

/-- a ⊕ b on whole chunks: payload and mask. -/
def redBytes (d : Bytes) (a b : CPart) : CPart :=
  let mop := cdRed d + 16 * cdType d
  let k := mopBytes mop
  let n := a.data.length
  let data := (List.range (n / k)).flatMap (fun i => natLE k (mopElem mop (fld a.data (i * k) k) (fld b.data (i * k) k)))
  let m := redMask (cdType d) (leNat a.mask ||| leNat b.mask) (n / 8)
  ⟨a.link, data, natLE (maskBytes n) m, a.contrib + b.contrib⟩

/-- This member's own chunk. -/
def State.cOwn (s : State) (b d : Bytes) (k : Nat) : CPart :=
  let (_, _, n) := cChunkOf b d k
  let a := cSrcAddr b d k
  let m := maskOf ((List.range (n / 8)).filter (fun i => s.poisonAt (a + 8 * i)))
  let m := if cdReduces d then redMask (cdType d) m (n / 8) else m
  ⟨0xFF, s.readBytes a n, natLE (maskBytes n) m, 1⟩

/-! ## Sending (R308, R311) -/

/-- Details: DEDUCED, log entry 44. -/
def CInv.link (i : CInv) (l : Nat) : CLink := mget i.links l ⟨0, 4, [], []⟩
def CInv.setLink (i : CInv) (l : Nat) (x : CLink) : CInv := { i with links := mput i.links l x }

/-- Send queued chunks while at most 4 are in flight and credits last; each TOKEN follows its chunk.
Details: DEDUCED, log entry 44. -/
def pumpLink (g l : Nat) : Nat → CInv → State → CInv × State
  | 0, i, s => (i, s)
  | n + 1, i, s =>
    let x := i.link l
    match x.queue with
    | c :: r =>
      if x.out.length < 4 && 0 < x.credits then
        let s := s.sendLive .collective (nbNode x.record) [g, nbTerrace x.record] c.msg
        let s := match c.token with
          | some t => s.sendLive .collective (nbNode x.record) [g, nbTerrace x.record] t
          | none => s
        pumpLink g l n (i.setLink l { x with queue := r, out := x.out ++ [c], credits := x.credits - 1 }) s
      else (i, s)
    | [] => (i, s)

/-- Queue a chunk on links and send what may go. Details: DEDUCED, log entry 44. -/
def State.emit (s : State) (g : Nat) (b : Bytes) (i : CInv) (links : List Nat) (k : Nat) (final : Bool) (x : CPart)
    (token : Bool) : CInv × State :=
  let me := gpMe b
  let msg := chunkMsg 0 g 0 (b2n final) i.inv i.step x.contrib k x.data.length me (x.data ++ x.mask)
  let tok := chunkMsg 2 g 0 (b2n final) i.inv i.step x.contrib k 8 me (natLE 8 (crc64 (x.data ++ x.mask)))
  let c : CChunk := ⟨k * 2 + b2n final, msg, if token then some tok else none, 0, 0⟩
  links.foldl (fun (acc : CInv × State) l =>
    let (i, s) := acc
    let y := i.link l
    pumpLink g l 8 (i.setLink l { y with queue := y.queue ++ [c] }) s) (i, s)

/-- A control message to a neighbour. -/
def State.ctrl (s : State) (g record : Nat) (m : Bytes) : State :=
  s.sendLive .collective (nbNode record) [g, nbTerrace record] m

/-! ## Commit (R313, R316) -/

/-- Commit a verified final chunk: written to its destination with its marks. -/
def State.cCommit (s : State) (g : Nat) (b : Bytes) (i : CInv) (k : Nat) (x : CPart) : CInv × State :=
  match cDstAddr b i.desc k with
  | none => (i, s)
  | some a =>
    if i.committed.contains k then (i, s)
    else
      let m := leNat x.mask
      let s := s.writeCells a (x.data.zipIdx.map (fun (v, j) => (v, bit m (j / 8))))
      let n := x.data.length
      let s := (s.incw F.COLL_COMMITTED_BYTES n).incw (F.COLL_GRP_BYTES_BYTES g) n
      let s := if m != 0 then s.ev F.COLL_EVENTS_POISON else s
      ({ i with committed := sinsert i.committed k, poison := i.poison || m != 0 }, s)

/-- Links of adopted children. -/
def CInv.adopted (i : CInv) : List Nat := (i.links.map (·.1)).filter (9 ≤ ·)

/-- A chunk's result is complete here: committed, and sent on with its TOKEN, but not to a child that is owed it no more or never
was (R321). -/
def State.cFinish (s : State) (g : Nat) (b : Bytes) (i : CInv) (k : Nat) (x : CPart) (from_ : Option Nat) :
    CInv × State :=
  let (i, s) := s.cCommit g b i k x
  let ls := (cOnward b i.desc k true from_ i.adopted).filter (fun l => !i.acked.contains (2 ^ 40 * l + k * 2 + 1))
  s.emit g b i ls k true x (cdReduces i.desc)

/-- Whether the member's part is complete (R314). -/
def CInv.complete (i : CInv) (b : Bytes) : Bool :=
  i.running && cdOp i.desc != 6
    && (cCommits b i.desc).all i.committed.contains
    && (cSends b i.desc i.adopted).all i.acked.contains
    && i.links.all (fun l => l.2.out.isEmpty && l.2.queue.isEmpty)

/-! ## The end of an invocation (R298, R314, R315) -/

/-- Words an engine stages into hold no defined value afterwards; poison marks of the region are gone. -/
def State.scramble (s : State) (a n : Nat) : State :=
  let lo := a / 8
  let hi := (a + n) / 8
  { s with
    undef := s.undef.filter (· < lo) ++ (List.range (hi - lo)).map (lo + ·) ++ s.undef.filter (hi ≤ ·)
    poison := s.poison.filter (fun w => !(lo ≤ w && w < hi)) }

def State.setCur (s : State) (g : Nat) (i : CInv) : State := s.setSlotC g { s.cslot g with cur := some i }

/-- The next queued invocation of a slot becomes current; its op row starts it. -/
def State.nextInv (s : State) (g : Nat) : State :=
  let x := s.cslot g
  match x.cur, x.queue with
  | none, i :: r =>
    let s := s.setSlotC g { x with cur := some i, queue := r }
    (s.wr (F.COLL_GRP_SEQ_INVOCATION g) i.inv).wr (F.COLL_GRP_SEQ_STEP g) i.step
  | _, _ => s

/-- Registers of an ended invocation (Table 13.19); ORIGIN is recorded of an abort alone (R315). -/
def State.endInv (s : State) (g : Nat) (i : CInv) (status : Nat) : State :=
  let s := s.setSlotC g { s.cslot g with cur := none }
  (s.wr (F.COLL_GRP_LAST_STATUS g) status).wr (F.COLL_GRP_LAST_REFETCHES g) (min i.refetches (2 ^ 24 - 1))

/-- Result bitmap of a JOB_BROADCAST's root (R322): ⌈P / 512⌉ × 64 bytes. Details: DESIGN CHOICE, log entry 48. -/
def bitmapBytes (p : Nat) (members : List Nat) : Bytes := natLE ((p + 511) / 512 * 64) (maskOf members)

/-- A JOB_BROADCAST ends: its command completes; the root writes its bitmap first (R322).
Details: DESIGN CHOICE, log entry 48. -/
def State.endBcast (s : State) (g : Nat) (i : CInv) (c : CBcast) (status : Nat) : State :=
  let b := (s.cslot g).live.getD []
  let s := s.endInv g i status
  let s := s.setSlotC g { s.cslot g with up := (i.link 0).record }
  if cdIsRoot b i.desc && (status == St.ok || status == St.partial || status == St.poisonConsumed) then
    let bm := bitmapBytes (gpMembers b) c.members
    let s := s.write c.bitmap bm
    let s := if status == St.partial then s.ev F.COLL_EVENTS_PARTIAL else s
    (s.complete c.handle status 0 (sha3_256 bm)).nextInv g
  else (s.complete c.handle status 0 []).nextInv g

/-- Records of the valid neighbours, each once, without this member and the one on node `from_`. -/
def neighbours (links : List (Nat × CLink)) (me : Nat) (from_ : Option Nat) : List Nat :=
  ((links.map (·.2.record)).filter (fun r => nbValid r && nbIndex r != me && some (nbNode r) != from_)).eraseDups

/-- An ABORT is passed to neighbours, once for each invocation (R315). -/
def State.passAbort (s : State) (g : Nat) (records : List Nat) (m : Bytes) : State :=
  let x := s.cslot g
  let no := (fld m 4 5, fld m 3 1)
  if x.aborted.contains no then s
  else records.foldl (fun s r => s.ctrl g r m) (s.setSlotC g { x with aborted := no :: x.aborted })

/-- ABORT of an invocation with a status and the member where it arose (Table 13.6). -/
def abortMsg (g : Nat) (i : CInv) (status origin : Nat) : Bytes := chunkMsg 6 g 0 0 i.inv i.step 0 0 status origin []

/-- An invocation fails (R315): ABORT goes to the neighbours but the one on the node it came from, staging is discarded, and the
member completes with the status and records where the abort arose. -/
def State.collAbort (s : State) (g status origin : Nat) (from_ : Option Nat) : State :=
  let x := s.cslot g
  match x.cur with
  | none => s
  | some i =>
    let me := gpMe (x.live.getD [])
    let s := s.passAbort g (neighbours i.links me from_) (abortMsg g i status origin)
    let s := s.ev F.COLL_EVENTS_ABORTED
    let s := if status == St.chunkUnrecoverable then s.ev F.COLL_EVENTS_UNRECOVERABLE else s
    let s := (s.endInv g i status).wr (F.COLL_GRP_LAST_ORIGIN g) origin
    match i.bcast with
    | some c => (s.complete c.handle status 0 []).nextInv g
    | none => (i.entries.foldl (fun s e =>
        if (s.es e.1 e.2).phase == .running then s.completeEntry e.1 e.2 status else s) s).nextInv g

/-- A member's part completes when it can (R314, R316); a JOB_BROADCAST member then sends DONE towards the root. -/
def State.collCheck (s : State) (g : Nat) : State :=
  let x := s.cslot g
  match x.cur, x.live with
  | some i, some b =>
    if !i.complete b then s
    else match i.bcast with
      | none =>
        let st := if i.poison then St.poisonConsumed else St.ok
        let s := s.endInv g i st
        (i.entries.foldl (fun s e => s.entryReady e.1 e.2 st) s).nextInv g
      | some c =>
        if cdIsRoot b i.desc then
          let c := { c with members := sinsert c.members (gpMe b) }
          if c.members.length = gpMembers b then s.endBcast g i c (if i.poison then St.poisonConsumed else St.ok)
          else s.setCur g { i with bcast := some c }
        else
          let s := s.ctrl g (i.link 0).record (chunkMsg 7 g 0 0 i.inv i.step 0 0 0 (gpMe b) [])
          s.endBcast g i c (if i.poison then St.poisonConsumed else St.ok)
  | _, _ => s

/-! ## Using a chunk (R304, R310–R313) -/

/-- The tree fold of a chunk: own value, then children in CHILD order, or in arrival order for class 2.
Details: DEDUCED, log entry 44. -/
def treeFold (d : Bytes) (own : CPart) (parts : List CPart) : CPart :=
  let ordered := if cdOrder d = 2 then parts
    else (List.range 9).filterMap (fun l => parts.find? (fun p => p.link == l))
  ordered.foldl (redBytes d) own

/-- A combined value goes on: sent as a partial, or finished where the fold ends, with every member in it (R313).
Details: DEDUCED, log entry 44. -/
def State.cCombined (s : State) (g : Nat) (b : Bytes) (i : CInv) (k : Nat) (v : CPart) : CInv × State :=
  match cOnward b i.desc k false none i.adopted with
  | [] => if v.contrib = gpMembers b then s.cFinish g b i k v none else (i, s)
  | ls => s.emit g b i ls k false v false

/-- Answer for chunk k of an invocation on a link: ACK 3, CREDIT 4, REFETCH 5. -/
def State.answer (s : State) (g : Nat) (b : Bytes) (i : CInv) (l k : Nat) (final : Bool) (kind : Nat) : State :=
  s.ctrl g (i.link l).record (chunkMsg kind g 0 (b2n final) i.inv i.step 0 k 0 (gpMe b) [])

/-- A partial of chunk k has arrived from a link, or a tree leaf starts. A partial keeps its receive slot until it is folded
(R311). Details: DEDUCED, log entry 44. -/
def State.cPartial (s : State) (g : Nat) (b : Bytes) (i : CInv) (k : Nat) (x : Option CPart) : CInv × State :=
  if gpTree b then
    let ps := mget i.parts k [] ++ x.toList
    if ps.length < gpChildren b then ({ i with parts := mput i.parts k ps }, s)
    else
      let s := ps.foldl (fun s p => s.answer g b i p.link k false 4) s
      s.cCombined g b { i with parts := mdel i.parts k } k (treeFold i.desc (s.cOwn b i.desc k) ps)
  else match x with
    | some x => (s.answer g b i x.link k false 4).cCombined g b i k (redBytes i.desc x (s.cOwn b i.desc k))
    | none => s.cCombined g b i k (s.cOwn b i.desc k)

/-- A final chunk and its TOKEN are both here: the result is used only when RESULT_CHECK matches; otherwise it is fetched
again (R313). Details: DEDUCED, log entry 44. -/
def State.cVerify (s : State) (g : Nat) (b : Bytes) (i : CInv) (k : Nat) : CInv × State :=
  match mfind i.finals k, mfind i.tokens k with
  | some x, some t =>
    let i := { i with finals := mdel i.finals k, tokens := mdel i.tokens k }
    if leNat t == crc64 (x.data ++ x.mask) then
      let s := (s.answer g b i x.link k true 3).answer g b i x.link k true 4
      s.cFinish g b { i with used := sinsert i.used (2 ^ 40 * x.link + k * 2 + 1) } k x (some x.link)
    else (i, s.answer g b i x.link k true 5)
  | _, _ => (i, s)

/-- The link a member index sends data on: the parent, PREV, a child or an adopted child.
Details: DEDUCED, log entry 44. -/
def linkOf (links : List (Nat × CLink)) (origin : Nat) (data : Bool) (ring : Bool) : Option Nat :=
  let hit := links.filter (fun l => nbValid l.2.record && nbIndex l.2.record == origin)
  -- on a ring of two members PREV and NEXT are one member: data comes on 0, its answers on 1
  match (if ring then hit.find? (fun l => l.1 == (if data then 0 else 1)) else hit.head?) with
  | some l => some l.1
  | none => none

/-- Receive slots of a link that chunks of the invocation occupy: partials not yet folded, results without their TOKEN (R311). -/
def CInv.occupied (i : CInv) (l : Nat) : Nat :=
  (i.parts.flatMap (·.2)).countP (fun p => p.link == l) + i.finals.countP (fun f => f.2.link == l)

/-- Use a DATA chunk of the current invocation (R311–R313); `held` says that it was acknowledged when it came. A chunk that finds
no free slot of its link is discarded. Details: DEDUCED, log entry 44. -/
def State.useData (s : State) (held : Bool) (g : Nat) (b : Bytes) (i : CInv) (p : Bytes) : CInv × State :=
  match linkOf i.links (fld p 20 3 % 2 ^ 17) true (!gpTree b) with
  | none => (i, s.ev F.COLL_EVENTS_STALE_CHUNK)
  | some l =>
    let k := fld p 12 4
    let final := bit (fld p 2 1) 1
    let n := fld p 16 4 % 2 ^ 19
    let key := 2 ^ 40 * l + k * 2 + b2n final
    let x : CPart := ⟨l, sub p 32 n, sub p (32 + n) (maskBytes n), fld p 9 3 % 2 ^ 17⟩
    let ack := fun (s : State) => if held then s else s.answer g b i l k final 3
    let note := fun (s : State) => s.noteArrival (chunkSource (nbNode (i.link l).record)) 0 0 x.data
    if i.used.contains key then (i, ack s)
    else if n != (cChunkOf b i.desc k).2.2 || n = 0 then (i, s.ev F.COLL_EVENTS_STALE_CHUNK)
    else if 4 ≤ i.occupied l then (i, s)
    else if cdReduces i.desc && final then
      if x.contrib != gpMembers b || (mfind i.finals k).isSome then (i, s)
      else (note s).cVerify g b { i with finals := mput i.finals k x } k
    else
      let i := { i with used := sinsert i.used key }
      if cdReduces i.desc then (note (ack s)).cPartial g b i k (some x)
      else (note ((ack s).answer g b i l k final 4)).cFinish g b i k x (some l)

/-- Use a TOKEN of the current invocation. Details: DEDUCED, log entry 44. -/
def State.useToken (s : State) (g : Nat) (b : Bytes) (i : CInv) (p : Bytes) : CInv × State :=
  let k := fld p 12 4
  if i.committed.contains k then (i, s)
  else s.cVerify g b { i with tokens := mput i.tokens k (sub p 32 8) } k

/-- INVOCATION of a slot's next invocation in a step, 8 bits (R308). -/
def CSlot.nextNo (x : CSlot) (step : Nat) : Nat :=
  if x.lastStep = step then (match x.lastInv with | some k => (k + 1) % 256 | none => 0) else 0

/-- STAMP and INVOCATION of a JOB_BROADCAST's chunks. Details: DESIGN CHOICE, log entry 48. -/
def bcastStamp : Nat × Nat := (2 ^ 40 - 1, 0xFF)

/-- STAMP and INVOCATION that the slot's next invocation in the step under way carries, beside the current one. -/
def State.nextStamp (s : State) (g : Nat) : Nat × Nat :=
  let x := s.cslot g
  let now := s.rd (F.SCHED_STEP_STEP (gpTerrace (x.live.getD [])))
  let waiting := match x.queue with | q :: _ => (q.step, q.inv) | [] => (now, x.nextNo now)
  match x.cur with
  | some i => if i.bcast.isSome then waiting else (i.step, (i.inv + 1) % 256)
  | none => waiting

/-- Whether a message names the slot's current invocation (0), one to come (1) or another (2) (R312, R320). -/
def State.stampOf (s : State) (g : Nat) (p : Bytes) : Nat :=
  let x := s.cslot g
  let named := (fld p 4 5, fld p 3 1)
  let now := s.rd (F.SCHED_STEP_STEP (gpTerrace (x.live.getD [])))
  if x.cur.any (fun i => (i.step, i.inv) == named) then 0
  else if named == s.nextStamp g || named == (now + 1, 0) || named == bcastStamp then 1 else 2

/-- The links a plan gives a member. Details: DEDUCED, log entry 43. -/
def planLinks (b : Bytes) : List (Nat × CLink) :=
  let l := fun r => (⟨r, 4, [], []⟩ : CLink)
  if gpTree b then
    (if nbValid (gpPrev b) then [(0, l (gpPrev b))] else [])
      ++ (List.range (gpChildren b)).map (fun i => (1 + i, l (gpChild b i)))
  else [(0, l (gpPrev b)), (1, l (gpNext b))]

/-- What tells a message from another: KIND, GROUP, FINAL, INVOCATION, STAMP, CHUNK and its sender (R311). -/
def msgKey (p : Bytes) : Bytes := sub p 0 2 ++ natLE 1 (fld p 2 1 / 2) ++ sub p 3 6 ++ sub p 12 4 ++ sub p 20 3

/-- Hold a message for an invocation to come: a chunk takes one of the 4 receive slots of its link and is acknowledged, unless
`again` says that it was; a copy is only acknowledged (R311, R312). Details: DEDUCED, log entry 44. -/
def State.holdMsg (s : State) (again : Bool) (g node : Nat) (p : Bytes) : State :=
  let x := s.cslot g
  let b := x.live.getD []
  let hold := fun (s : State) => s.setSlotC g { x with held := x.held ++ [(node, p)] }
  let from_ := fun (m : Nat × Bytes) => fld m.2 0 1 == 0 && sub m.2 3 6 == sub p 3 6 && sub m.2 20 3 == sub p 20 3
  if fld p 0 1 != 0 then hold s
  else match linkOf (planLinks b) (fld p 20 3 % 2 ^ 17) true (!gpTree b) with
    | none => s.ev F.COLL_EVENTS_STALE_CHUNK
    | some l =>
      let ack := fun (s : State) => if again then s else s.ctrl g (mget (planLinks b) l ⟨0, 4, [], []⟩).record (chunkReply p 3 (gpMe b))
      if x.held.any (fun m => msgKey m.2 == msgKey p) then ack s
      else if 4 ≤ x.held.countP from_ then s
      else ack (hold s)

/-- An ABORT names the current invocation (R315). Details: DEDUCED, log entry 44. -/
def State.useAbort (s : State) (g : Nat) (p : Bytes) (node : Nat) : State :=
  s.collAbort g (fld p 16 2) (fld p 20 3 % 2 ^ 17) (some node)

/-- Deliver a DATA chunk, TOKEN or ABORT to a slot: used, held or stale; `again` says that it was held. An ABORT of another
invocation, which has ended here, is passed on (R315). Details: DEDUCED, log entry 44. -/
def State.collMsg (s : State) (again : Bool) (node : Nat) (p : Bytes) : State :=
  let g := fld p 1 1 % 16
  let x := s.cslot g
  match x.live with
  | none => s.ev F.COLL_EVENTS_STALE_CHUNK
  | some b =>
    match s.stampOf g p, x.cur with
    | 0, some i =>
      if !i.running then s.holdMsg again g node p
      else if fld p 0 1 = 6 then s.useAbort g p node
      else
        let (i, s) := if fld p 0 1 = 2 then s.useToken g b i p else s.useData again g b i p
        (s.setCur g i).collCheck g
    | 1, _ => s.holdMsg again g node p
    | _, _ =>
      if fld p 0 1 = 0 then s.ev F.COLL_EVENTS_STALE_CHUNK
      else if fld p 0 1 = 6 then s.passAbort g (neighbours (planLinks b) (gpMe b) (some node)) p
      else s

/-- Deliver the messages held for the invocation that has just started. Details: DEDUCED, log entry 44. -/
def State.collHeld (s : State) (g : Nat) : State :=
  let x := s.cslot g
  let s := s.setSlotC g { x with held := [] }
  x.held.foldl (fun s m => s.collMsg true m.1 m.2) s

/-! ## Starting an invocation -/

def CInv.fresh (step inv terr : Nat) (entries : List (Nat × Nat)) (desc b : Bytes) (bcast : Option CBcast) : CInv :=
  ⟨step, inv, terr, entries, desc, false, planLinks b, [], [], [], [], [], [], false, 0, bcast⟩

/-- Queue an invocation of a slot for an entry of terrace t; in the Sealed profile the pair's two entries share one
(R298, R317). Details: DEDUCED, log entry 43. -/
def State.collQueue (s : State) (g t e : Nat) (d b : Bytes) : State :=
  let x := s.cslot g
  let step := s.rd (F.SCHED_STEP_STEP t)
  let mate := fun (i : CInv) => s.sealed && i.step == step && i.entries == [((t + 8) % 16, e)]
  let join := fun (i : CInv) => { i with entries := i.entries ++ [(t, e)] }
  match x.cur with
  | some i =>
    if mate i then s.setCur g (join i)
    else if x.queue.any mate then s.setSlotC g { x with queue := x.queue.map (fun i => if mate i then join i else i) }
    else
      let n := x.nextNo step
      s.setSlotC g { x with
        queue := x.queue ++ [CInv.fresh step n (gpTerrace b) [(t, e)] d b none], lastStep := step, lastInv := some n }
  | none =>
    let n := x.nextNo step
    (s.setSlotC g { x with
      queue := x.queue ++ [CInv.fresh step n (gpTerrace b) [(t, e)] d b none]
      lastStep := step, lastInv := some n }).nextInv g

/-- What a member sends before anything has arrived (R304): its own value where the fold or the copy begins with it.
Details: DEDUCED, log entry 43. -/
def State.cBegin (s : State) (g : Nat) (b : Bytes) (i : CInv) : CInv × State :=
  let d := i.desc
  let p := gpMembers b
  let me := gpMe b
  (cChunks b d).foldl (fun (acc : CInv × State) k =>
    let (i, s) := acc
    let (blk, _, _) := cChunkOf b d k
    if cdReduces d then
      if gpTree b then (if gpChildren b = 0 then s.cPartial g b i k none else (i, s))
      else if me = (cOwner d blk + 1) % p then s.cPartial g b i k none
      else (i, s)
    else if cdOp d = 1 then (if cdIsRoot b d then s.cFinish g b i k (s.cOwn b d k) none else (i, s))
    else if blk = me then s.cFinish g b i k (s.cOwn b d k) none else (i, s)) (i, s)

/-- Residue recomputes of the collective adders, in the Sealed profile only (R317): whether a second mismatch ends the
invocation. `res` is 0 for none, 1 for a match on recompute, 2 for a second mismatch. Details: DEDUCED, log entry 91. -/
def State.collResidue (s : State) (res : Nat) : State × Bool :=
  if !s.sealed || res = 0 then (s, false)
  else
    let s := (s.ev F.COLL_EVENTS_RESIDUE_RETRY).inc F.COLL_COUNTS_RESIDUE_RETRIES
    if res = 2 then (s.ev F.COLL_EVENTS_RESIDUE_FAIL, true) else (s, false)

/-- The op rows: the current invocation of a slot starts if it is of this operation. Its staging region holds no defined
value from here on. -/
def State.collRun (s : State) (g op res : Nat) : State :=
  let x := s.cslot g
  match x.cur, x.live with
  | some i, some b =>
    let ready := i.bcast.isSome || !s.sealed || i.entries.length = 2
    if i.running || cdOp i.desc != op || !ready then s
    else
      let s := (bitList (cdMask i.desc) 18).foldl (fun s n =>
        s.scramble (scratchAddr (18 * i.terr + n) (cdOff i.desc)) (cdLen i.desc)) s
      let (s, fail) := s.collResidue res
      let (i, s) := s.cBegin g b { i with running := true }
      let s := s.setCur g i
      if fail then s.collAbort g St.residueMismatch (gpMe b) none else (s.collHeld g).collCheck g
  | _, _ => s

def execBroadcast (g : Fin 16) (s : State) : Out := ok (s.collRun g 1 0)
def execReduce (g : Fin 16) (res : Fin 3) (s : State) : Out := ok (s.collRun g 2 res)
def execAllreduce (g : Fin 16) (res : Fin 3) (s : State) : Out := ok (s.collRun g 3 res)
def execAllgather (g : Fin 16) (s : State) : Out := ok (s.collRun g 4 0)
def execReduceScatter (g : Fin 16) (res : Fin 3) (s : State) : Out := ok (s.collRun g 5 res)

/-- COLLECTIVE_BARRIER: the member starts its invocation; `others` says that every other member has started it. -/
def execCollectiveBarrier (g : Fin 16) (others : Bool) (s : State) : Out :=
  let s := s.collRun g 6 0
  let x := s.cslot g
  match x.cur, x.live with
  | some i, some b =>
    if cdOp i.desc = 6 && i.running && (others || gpMembers b = 1) then
      ok ((i.entries.foldl (fun s e => s.entryReady e.1 e.2 St.ok) (s.endInv g i St.ok)).nextInv g)
    else ok s
  | _, _ => ok s

/-! ## Arrivals (R310–R313, R315) -/

/-- Whether the adders combine a DATA chunk as it arrives: a partial of the reduction under way (R317). -/
def State.combines (s : State) (g : Nat) (p : Bytes) : Bool :=
  s.stampOf g p = 0 && !bit (fld p 2 1) 1 && (match (s.cslot g).cur with | some i => i.running && cdReduces i.desc | none => false)

/-- DATA_CHUNK from a node: one that fails its check is fetched again; `res` as for the op rows. -/
def execDataChunk (node : Fin 32768) (p : Bytes) (res : Fin 3) (s : State) : Out :=
  if fld p 0 1 != 0 then ok s
  else
    let g := fld p 1 1 % 16
    let me := gpMe ((s.cslot g).live.getD [])
    if !chunkOk p then ok (s.sendLive .collective node [g] (chunkReply p 5 me))
    else
      let (s, fail) := s.collResidue (if s.combines g p then res.val else 0)
      ok (if fail then s.collAbort g St.residueMismatch me none else s.collMsg false node p)

/-- TOKEN from a node. -/
def execToken (node : Fin 32768) (p : Bytes) (s : State) : Out :=
  if fld p 0 1 != 2 then ok s
  else
    let g := fld p 1 1 % 16
    if !chunkOk p then ok (s.sendLive .collective node [g] (chunkReply p 5 (gpMe ((s.cslot g).live.getD []))))
    else ok (s.collMsg false node p)

/-- The current, running invocation a control message names. -/
def State.ctrlInv (s : State) (p : Bytes) : Option (Nat × Bytes × CInv) :=
  let g := fld p 1 1 % 16
  let x := s.cslot g
  match x.cur, x.live with
  | some i, some b => if chunkOk p && s.stampOf g p = 0 && i.running then some (g, b, i) else none
  | _, _ => none

def ctrlKey (p : Bytes) : Nat := fld p 12 4 * 2 + b2n (bit (fld p 2 1) 1)

/-- Send a field's chunk to where its bytes land. -/
def State.fieldChunk (s : State) (f : FieldSend) (key : Nat) (m : Bytes) : State :=
  s.sendLive .fieldChunk f.dest [f.base + 0x10000 * key, b2n (key + 1 == f.chunks)] m

/-- Send queued FIELD chunks while at most 4 are in flight. Details: DEDUCED, log entry 38. -/
def pumpField : Nat → FieldSend → State → FieldSend × State
  | 0, f, s => (f, s)
  | n + 1, f, s =>
    match f.queue with
    | c :: r =>
      if f.out.length < 4 then
        pumpField n { f with queue := r, out := f.out ++ [c] } (s.fieldChunk f c.key c.msg)
      else (f, s)
    | [] => (f, s)

def State.setSends (s : State) (l : List FieldSend) : State := { s with coll := { s.coll with sends := l } }

/-- ORIGIN of a field's chunks: the terrace and the entry that send it, so that two fields for one slot are told apart.
Details: DESIGN CHOICE, log entry 103. -/
def fieldOrigin (terr entry : Nat) : Nat := 4096 * (terr % 16) + entry % 4096

/-- The FIELD_SEND that a control message names; `node` is where the field goes. -/
def State.fieldOf (s : State) (node : Nat) (p : Bytes) : Option FieldSend :=
  s.coll.sends.find? (fun f => f.dest == node && f.destTerr == fld p 1 1 % 16 && f.slot == fld p 3 1 % 64 && f.stamp == fld p 4 5
    && fieldOrigin f.terr f.entry == fld p 20 3 % 2 ^ 17)

/-- Details: DEDUCED, log entry 38. -/
def State.putField (s : State) (f : FieldSend) : State :=
  s.setSends (s.coll.sends.map (fun g => if g.terr == f.terr && g.entry == f.entry then f else g))

/-- A FIELD_SEND ends with a status, at both members of a pair (R425). Details: DEDUCED, log entry 38. -/
def State.endField (s : State) (f : FieldSend) (status : Nat) : State :=
  let s := s.setSends (s.coll.sends.filter (fun g => !(g.terr == f.terr && g.entry == f.entry)))
  forEach (s.members f.terr) s (fun t s => s.entryReady t f.entry status)

/-- CHUNK_ACK: the sender's retained copy is released; `field` says that it is of a FIELD chunk, and `node` where it comes from (R86, R311, R314). -/
def execChunkAck (field : Bool) (node : Fin 32768) (p : Bytes) (s : State) : Out :=
  if fld p 0 1 != 3 || !chunkOk p then ok s
  else if field then
    match s.fieldOf node p with
    | none => ok s
    | some f =>
      let k := fld p 12 4
      let f := { f with out := f.out.filter (fun c => c.key != k), acked := sinsert f.acked k }
      let (f, s) := pumpField 8 f s
      ok (if f.acked.length = f.chunks then s.endField f St.ok else s.putField f)
  else
    match s.ctrlInv p with
    | none => ok s
    | some (g, b, i) =>
      match linkOf i.links (fld p 20 3 % 2 ^ 17) false (!gpTree b) with
      | none => ok s
      | some l =>
        let x := i.link l
        if !x.out.any (fun c => c.key == ctrlKey p) then ok s
        else
          let i := i.setLink l { x with out := x.out.filter (fun c => c.key != ctrlKey p) }
          let (i, s) := pumpLink g l 8 { i with acked := sinsert i.acked (2 ^ 40 * l + ctrlKey p) } s
          ok ((s.setCur g i).collCheck g)

/-- CREDIT: the sender may put another chunk in flight on the link. -/
def execCredit (p : Bytes) (s : State) : Out :=
  if fld p 0 1 != 4 then ok s
  else
    match s.ctrlInv p with
    | none => ok s
    | some (g, b, i) =>
      match linkOf i.links (fld p 20 3 % 2 ^ 17) false (!gpTree b) with
      | none => ok s
      | some l =>
        let x := i.link l
        let (i, s) := pumpLink g l 8 (i.setLink l { x with credits := min 4 (x.credits + 1) }) s
        ok (s.setCur g i)

/-- The link to the neighbour on a node that retains a chunk: the holder's (R310). -/
def CInv.holder (i : CInv) (node key : Nat) : Option Nat :=
  (i.links.find? (fun l => nbValid l.2.record && nbNode l.2.record == node && l.2.out.any (fun c => c.key == key))).map (·.1)

/-- The message of a chunk with RETRY = 1. -/
def retryMsg (m : Bytes) : Bytes :=
  let m := patch m 2 (natLE 1 (fld m 2 1 ||| 1))
  patch m 24 (natLE 8 (chunkCheck m))

/-- Resend a retained chunk on a link, with its TOKEN. -/
def State.resendChunk (s : State) (g : Nat) (x : CLink) (c : CChunk) : State :=
  let s := s.ctrl g x.record (retryMsg c.msg)
  match c.token with
  | some t => s.ctrl g x.record (retryMsg t)
  | none => s

/-- REFETCH: the holder resends its retained chunk; a fourth failure on the edge ends the invocation or the field
(R310). `node` is the chunk's receiver, also where a router on the way sends the message. -/
def execRefetch (field : Bool) (node : Fin 32768) (p : Bytes) (s : State) : Out :=
  if fld p 0 1 != 5 || !chunkOk p then ok s
  else if field then
    match s.fieldOf node p with
    | none => ok s
    | some f =>
      match f.out.find? (fun c => c.key == fld p 12 4) with
      | none => ok s
      | some c =>
        if 3 ≤ c.refetches then ok (s.endField f St.chunkUnrecoverable)
        else
          let f := { f with out := f.out.map (fun y => if y.key == c.key then { y with refetches := y.refetches + 1 } else y) }
          let s := (s.inc F.COLL_COUNTS_REFETCHES).ev F.COLL_EVENTS_REFETCH
          ok ((s.putField f).fieldChunk f c.key (retryMsg c.msg))
  else
    match s.ctrlInv p with
    | none => ok s
    | some (g, b, i) =>
      match i.holder node (ctrlKey p) with
      | none => ok s
      | some l =>
        let x := i.link l
        match x.out.find? (fun c => c.key == ctrlKey p) with
        | none => ok s
        | some c =>
          if 3 ≤ c.refetches then ok (s.collAbort g St.chunkUnrecoverable (gpMe b) none)
          else
            let x := { x with out := x.out.map (fun y =>
              if y.key == c.key then { y with refetches := y.refetches + 1 } else y) }
            let i := { i.setLink l x with refetches := i.refetches + 1 }
            let s := (s.inc F.COLL_COUNTS_REFETCHES).ev F.COLL_EVENTS_REFETCH
            ok ((s.setCur g i).resendChunk g x c)

/-- ABORT (R315). -/
def execAbort (node : Fin 32768) (p : Bytes) (s : State) : Out :=
  if fld p 0 1 != 6 || !chunkOk p then ok s else ok (s.collMsg false node p)

/-- CHUNK_RESEND: a quarter of the dead-target bound passed without ACK for a chunk on a group's link, or of the FIELD_SEND of
entry `entry` of terrace `g` (R311). -/
def execChunkResend (field : Bool) (g : Fin 16) (link : Fin 17) (entry : Fin 4096) (key : Nat) (s : State) : Out :=
  if field then
    match s.coll.sends.find? (fun f => f.terr == g.val && f.entry == entry.val) with
    | none => ok s
    | some f =>
      match f.out.find? (fun c => c.key == key) with
      | none => ok s
      | some c =>
        if 3 ≤ c.resends then ok s
        else
          let f := { f with out := f.out.map (fun y => if y.key == c.key then { y with resends := y.resends + 1 } else y) }
          ok ((s.putField f).fieldChunk f c.key (retryMsg c.msg))
  else
  match (s.cslot g).cur with
  | none => ok s
  | some i =>
    let x := i.link link
    match x.out.find? (fun c => c.key == key) with
    | none => ok s
    | some c =>
      if 3 ≤ c.resends then ok s
      else
        let x := { x with out := x.out.map (fun y => if y.key == c.key then { y with resends := y.resends + 1 } else y) }
        ok ((s.setCur g (i.setLink link x)).resendChunk g x c)

/-- CHUNK_ACK_TIMEOUT: the dead-target bound passed without ACK, for a group's link, or for a FIELD_SEND of entry `entry`
of terrace `g` (R86, R311). -/
def execChunkAckTimeout (field : Bool) (g : Fin 16) (link : Fin 17) (entry : Fin 4096) (s : State) : Out :=
  if field then
    match s.coll.sends.find? (fun f => f.terr == g.val && f.entry == entry.val && !f.out.isEmpty) with
    | some f => ok (s.endField f St.targetDead)
    | none => ok s
  else
    match (s.cslot g).cur, (s.cslot g).live with
    | some i, some b =>
      if (i.link link).out.isEmpty then ok s else ok (s.collAbort g St.targetDead (gpMe b) none)
    | _, _ => ok s

/-! ## JOB_BROADCAST (R320–R323) -/

/-- The parameters of Table 13.8 as the descriptor of a BROADCAST over the slot's tree.
Details: DESIGN CHOICE, log entry 48. -/
def bcastDesc (q : Sub) : Bytes :=
  natLE 1 1 ++ zeros 3 ++ natLE 1 (q.p 1 1) ++ zeros 3 ++ natLE 4 0 ++ natLE 4 (q.p 4 4) ++ natLE 4 (q.p 8 4)
    ++ natLE 4 (q.p 12 4) ++ natLE 8 (q.p 16 8) ++ natLE 8 (q.p 24 8) ++ natLE 8 (q.p 32 8) ++ zeros 16

/-- The checks of R320 and R323: 0 or BAD_PARAM, BUSY. Details: DESIGN CHOICE, log entry 48. -/
def State.bcastCheck (s : State) (q : Sub) : Nat :=
  let g := q.p 0 1
  let x := s.cslot g
  let us := q.p 2 2
  let c := q.p 1 1
  if g > 15 then St.badParam
  else match x.live with
    | none => St.badParam
    | some b =>
      if !gpTree b || !(c = 0 || (12 ≤ c && c ≤ 18)) || !(us = 0 || (20 ≤ us && us ≤ 10000)) then St.badParam
      else if x.cur.isSome then St.busy
      else
        let d := bcastDesc q
        let root := !nbValid (gpPrev b)
        let n := cdLength d
        let bm := q.p 40 8
        let bmLen := (gpMembers b + 511) / 512 * 64
        let slots := 8 * (1 + gpChildren b + gpAdopt b)
        let good := n != 0 && n % 64 = 0 && cdMask d != 0 && s.stageOk (gpTerrace b) d slots
          && s.cdExtent (cdDst d) n true
          && (if root then s.cdExtent (cdSrc d) n false && s.cdExtent bm bmLen true
                && !overlaps (cdDst d) n (cdSrc d) n && !overlaps (cdDst d) n bm bmLen
              else cdSrc d = 0 && bm = 0)
        if good then 0 else St.badParam

/-- JOB_BROADCAST: the long command 0x0604. Details: DESIGN CHOICE, log entry 48. -/
def execJobBroadcast (s : State) : Out :=
  s.withSub Op.jobBroadcast (fun _ => true) (fun q s =>
    let st := s.bcastCheck q
    if st == St.busy then s.refuse q st
    else if st != 0 then s.longNow q st 0 []
    else
      let g := q.p 0 1
      let b := (s.cslot g).live.getD []
      let (s, h) := s.accept q
      let c : CBcast := ⟨h, if q.p 2 2 = 0 then 200 else q.p 2 2, q.deadline, q.p 40 8, [], 0⟩
      let i := CInv.fresh bcastStamp.1 bcastStamp.2 (gpTerrace b) [] (bcastDesc q) b (some c)
      let x := s.cslot g
      (s.setSlotC g { x with cur := some i, aborted := x.aborted.filter (· != bcastStamp) }).collRun g 1 0)

/-- The JOB_BROADCAST a message names. Details: DESIGN CHOICE, log entry 48. -/
def State.bcastOf (s : State) (p : Bytes) : Option (Nat × Bytes × CInv × CBcast) :=
  match s.ctrlInv p with
  | some (g, b, i) => (match i.bcast with | some c => some (g, b, i, c) | none => none)
  | none => none

/-- A message for the root that reaches a member whose JOB_BROADCAST has ended goes on to its parent.
Details: DESIGN CHOICE, log entry 48. -/
def State.towardsRoot (s : State) (p : Bytes) : State :=
  let g := fld p 1 1 % 16
  let x := s.cslot g
  let busy := match x.cur with | some i => i.bcast.isSome | none => false
  if chunkOk p && (fld p 4 5, fld p 3 1) == bcastStamp && !busy && nbValid x.up then s.ctrl g x.up p else s

/-- DONE: the root sets the member's bit; any other member passes it towards the root (R322).
Details: DESIGN CHOICE, log entry 48. -/
def execDone (p : Bytes) (s : State) : Out :=
  if fld p 0 1 != 7 then ok s
  else
    match s.bcastOf p with
    | none => ok (s.towardsRoot p)
    | some (g, b, i, c) =>
      if cdIsRoot b i.desc then
        let m := fld p 20 3 % 2 ^ 17
        if gpMembers b ≤ m then ok s
        else
          let c := { c with members := sinsert c.members m }
          ok ((s.setCur g { i with bcast := some c }).collCheck g)
      else ok (s.ctrl g (i.link 0).record p)

/-- ADOPT: a spare parent that lists the sender accepts it and sends chunks from the named index on, out of its committed
destination (R321). Details: DESIGN CHOICE, log entry 48. -/
def execAdopt (p : Bytes) (s : State) : Out :=
  if fld p 0 1 != 8 then ok s
  else
    match s.bcastOf p with
    | none => ok s
    | some (g, b, i, _) =>
      let m := fld p 20 3 % 2 ^ 17
      match (List.range (gpAdopt b)).find? (fun a => nbIndex (gpAdoptee b a) == m) with
      | none => ok s
      | some a =>
        if (i.links.map (·.1)).contains (9 + a) then ok s
        else
          let i := i.setLink (9 + a) ⟨gpAdoptee b a, 4, [], []⟩
          let s := (s.ev F.COLL_EVENTS_REPARENT).inc F.COLL_COUNTS_REPARENTS
          -- chunks below the named index are not owed to this child
          let below := ((cChunks b i.desc).filter (· < fld p 12 4)).map (fun k => 2 ^ 40 * (9 + a) + k * 2 + 1)
          let i := { i with acked := below.foldl sinsert i.acked }
          let ks := (i.committed.filter (fld p 12 4 ≤ ·))
          let (i, s) := ks.foldl (fun (acc : CInv × State) k =>
            let (i, s) := acc
            let (_, _, n) := cChunkOf b i.desc k
            let at_ := (cDstAddr b i.desc k).getD 0
            let mask := natLE (maskBytes n) (maskOf ((List.range (n / 8)).filter (fun w => s.poisonAt (at_ + 8 * w))))
            s.emit g b i [9 + a] k true ⟨0xFF, s.readBytes at_ n, mask, 1⟩ false) (i, s)
          ok ((s.setCur g i).collCheck g)

/-- LOST: passed towards the root, where it counts as progress (R321, R322). Details: DESIGN CHOICE, log entry 48. -/
def execLost (p : Bytes) (s : State) : Out :=
  if fld p 0 1 != 9 then ok s
  else
    match s.bcastOf p with
    | none => ok (s.towardsRoot p)
    | some (g, b, i, _) => if cdIsRoot b i.desc then ok s else ok (s.ctrl g (i.link 0).record p)

/-- REPARENT_TIMEOUT of a slot: REPARENT_US passed without a chunk from the parent (link 0), or without ACK or CREDIT from
a child's link (R321). Details: DESIGN CHOICE, log entry 48. -/
def execReparentTimeout (g : Fin 16) (link : Fin 17) (s : State) : Out :=
  match (s.cslot g).cur, (s.cslot g).live with
  | some i, some b =>
    match i.bcast with
    | none => ok s
    | some c =>
      let lost := fun (m : Nat) => chunkMsg 9 g 0 0 i.inv i.step 0 0 0 m []
      if link.val = 0 then
        if cdIsRoot b i.desc || (cCommits b i.desc).all i.committed.contains then ok s
        else if gpSpares b ≤ c.tried then ok (s.endBcast g i c St.targetDead)
        else
          let old := (i.link 0).record
          let sp := gpSpare b c.tried
          let low := ((cChunks b i.desc).filter (fun k => !i.committed.contains k)).headD 0
          let i := { (i.setLink 0 ⟨sp, 4, [], []⟩) with bcast := some { c with tried := c.tried + 1 } }
          let s := (s.ev F.COLL_EVENTS_REPARENT).inc F.COLL_COUNTS_REPARENTS
          let s := s.ctrl g sp (chunkMsg 8 g 0 0 i.inv i.step 0 low 0 (gpMe b) [])
          ok ((s.setCur g i).ctrl g sp (lost (nbIndex old)))
      else
        let x := i.link link
        if x.out.isEmpty then ok s
        else
          -- the child's chunks are no longer owed
          let owed := (cSends b i.desc i.adopted).filter (fun k => k / 2 ^ 40 == link.val)
          let i := { (i.setLink link { x with out := [], queue := [] }) with acked := owed.foldl sinsert i.acked }
          let s := if cdIsRoot b i.desc then s else s.ctrl g (i.link 0).record (lost (nbIndex x.record))
          ok ((s.setCur g i).collCheck g)
  | _, _ => ok s

/-- BROADCAST_ROOT_TIMEOUT: the root's deadline, or with no deadline 64 × REPARENT_US without a new DONE or LOST
(R322). Details: DESIGN CHOICE, log entry 48. -/
def execBroadcastRootTimeout (g : Fin 16) (s : State) : Out :=
  match (s.cslot g).cur, (s.cslot g).live with
  | some i, some b =>
    match i.bcast with
    | none => ok s
    | some c =>
      if !cdIsRoot b i.desc then ok s
      else
        let c := { c with members := if (cCommits b i.desc).all i.committed.contains then sinsert c.members (gpMe b)
                                     else c.members }
        if c.deadline = 0 then ok (s.endBcast g i c St.partial)
        else match s.reach c.deadline with
          | some s => ok (s.endBcast g i c St.partial)
          | none => ok s
  | _, _ => ok s

/-! ## What other events do to the engine -/

/-- The invocations that wait at a slot for an entry that `mine` selects end there: their entries do not run, and the other
members learn it (R315). -/
def State.dropWaiting (s : State) (g status : Nat) (mine : CInv → Bool) : State :=
  let x := s.cslot g
  let me := gpMe (x.live.getD [])
  (x.queue.filter mine).foldl (fun s i => s.passAbort g (neighbours i.links me none) (abortMsg g i status me))
    (s.setSlotC g { x with queue := x.queue.filter (fun i => !mine i) })

/-- Invocations that wait at a slot take the links of its new plan. -/
def CSlot.relinked (x : CSlot) (b : Bytes) : CSlot :=
  let f := fun (i : CInv) => { i with links := planLinks b }
  { x with cur := x.cur.map f, queue := x.queue.map f }

/-- Armed plans become live at their step boundary; one that meets a running invocation ends it (R301, Table 13.7). -/
def State.collBoundary (s : State) (step : Nat) : State :=
  forEach (List.range 16) s (fun g s =>
    match (s.cslot g).armed with
    | some (b, at_) =>
      if at_ ≤ step then
        let s := (s.collAbort g St.deadlineMissed (gpMe ((s.cslot g).live.getD [])) none).groupLive g b
        s.setSlotC g ((s.cslot g).relinked b)
      else s
    | none => s)

/-- A reset or profile switch ends the invocations of a member's terraces, those that wait too (Table 13.7). -/
def State.collReset (s : State) (ts : List Nat) : State :=
  forEach (List.range 16) s (fun g s =>
    let s := s.dropWaiting g St.nodeResetting (fun i => ts.contains i.terr)
    match (s.cslot g).cur, (s.cslot g).live with
    | some i, some b => if ts.contains i.terr then s.collAbort g St.nodeResetting (gpMe b) none else s
    | _, _ => s)

/-- Empty the slots whose live or armed plan `drop` selects (R301, R369, R370). -/
def State.emptySlots (s : State) (drop : Bytes → Bool) : State :=
  forEach (List.range 16) s (fun g s =>
    let x := s.cslot g
    let dl := match x.live with | some b => drop b | none => false
    let da := match x.armed with | some (b, _) => drop b | none => false
    if dl || da then s.setSlotC g CSlot.init else s)

/-- An entry of a terrace reaches its deadline: its invocation ends at every member (R81, R315). -/
def State.collEntryDeadline (s : State) (t e : Nat) : State :=
  forEach (List.range 16) s (fun g s =>
    let x := s.cslot g
    let mine := fun (i : CInv) => i.entries.contains (t, e)
    match x.cur with
    | some i => if mine i then s.collAbort g St.deadlineMissed (gpMe (x.live.getD [])) none
        else s.dropWaiting g St.deadlineMissed mine
    | none => s)

end Sys2Proof.Machine
end

