-- ==== Sys2Proof/Machine/Checkpoint.lean ====
section
/-! DEFINITION. Checkpoints and restores (chapter 14): extent lists, the policy, the due test, the reflection and its
drain in the order of Table 14.4, manifests, and RESTORE. -/

namespace Sys2Proof.Machine

open Sys2Proof

/-! ## Structures (Tables 14.1, 14.6) -/

/-- Bytes of an extent list, from its header (Table 14.1). -/
def extentsLength (h : Bytes) : Nat := 64 + 16 * fld h 8 4

/-- Read an extent list: 0, BAD_PARAM or POISON_CONSUMED, and its extents (Table 14.1, R487). -/
def State.readExtents (s : State) (a : Nat) : Nat × List (Nat × Nat) :=
  let h := s.readBytes a 64
  let n := fld h 8 4
  match s.structFault a extentsLength with
  | 0 =>
    let es := (List.range n).map (fun i => (s.readNat (a + 64 + 16 * i) 8, s.readNat (a + 72 + 16 * i) 8))
    if fld h 0 2 != 0x454C || fld h 2 1 != 1 || !allZero (sub h 3 5) || n = 0 || n > 4096 || !allZero (sub h 12 52)
        || es.any (fun e => e.1 / 2 ^ 48 != 0 || e.2 / 2 ^ 48 != 0 || e.2 = 0) then (St.badParam, [])
    else (0, es)
  | st => (st, [])

/-- The rules of R326 over the union of all lists, for a reflection region. Details: DEDUCED, log entry 74. -/
def reflRules (es : List (Nat × Nat)) (base len : Nat) : Bool :=
  let total := (es.map (·.2)).foldl (· + ·) 0
  es.length ≤ 4096 && total ≤ 3 * 2 ^ 39 && total ≤ len
    && es.all (fun e => e.1 % granuleBytes = 0 && e.2 % granuleBytes = 0 && inTiers e.1 e.2
        && !overlaps e.1 e.2 base len)
    && !anyOverlap es

def sdTargets (d : Bytes) : Nat := fld d 3 1
def sdLog2 (d : Bytes) (t : Nat) : Nat := fld d (64 + 320 * t + 20) 1
def sdFirst (d : Bytes) (t : Nat) : Nat := fld d (64 + 320 * t + 24) 8
def sdCount (d : Bytes) (t : Nat) : Nat := fld d (64 + 320 * t + 32) 8
/-- First block of a half of a target (R338). -/
def sdHalf (d : Bytes) (t half : Nat) : Nat := sdFirst d t + half * (sdCount d t / 2)

/-- Bytes of a store descriptor, from its header (Table 14.6). -/
def storeLength (h : Bytes) : Nat := 64 + 320 * fld h 3 1

/-- Read a store descriptor: 0, BAD_PARAM or POISON_CONSUMED, and its bytes (Table 14.6, R487). -/
def State.readStore (s : State) (a : Nat) : Nat × Bytes :=
  match s.structFault a storeLength with
  | 0 =>
    let d := s.readBytes a (storeLength (s.readBytes a 64))
    let n := sdTargets d
    let good := fld d 0 2 = 0x5344 && fld d 2 1 = 1 && n != 0 && n ≤ 8 && allZero (sub d 4 12) && allZero (sub d 48 16)
      && (List.range n).all (fun t =>
        (sdLog2 d t = 9 || sdLog2 d t = 12) && allZero (sub d (64 + 320 * t + 21) 3)
          && allZero (sub d (64 + 320 * t + 40) 24) && allZero (sub d (64 + 320 * t + 288) 32))
    if good then (0, d) else (St.badParam, [])
  | st => (st, [])

/-! ## Reports (R344) -/

/-- The MSI that CKPT_MSI enables. -/
def State.ckptMsi (s : State) : State :=
  if s.flag F.CKPT_MSI_ENABLE then s.msi (s.rd F.CKPT_MSI_HART) (s.rd F.CKPT_MSI_EIID) else s

/-- A checkpoint or restore of this node runs. Details: DEDUCED, log entry 74. -/
def State.ckptBusy (s : State) : Bool := s.ckpt.drain.isSome || s.ckpt.restore.isSome

/-- STATE of CKPT_STATUS (Table 14.10). -/
def State.showCkpt (s : State) : State :=
  let st := match s.ckpt.restore, s.ckpt.drain with
    | some _, _ => 5
    | none, some d => if 5 ≤ d.order then 4 else if s.ckpt.copying then 2 else 3
    | none, none => if s.ckpt.due.isSome then 1 else 0
  let s := s.wr F.CKPT_STATUS_STATE st
  let s := s.wr F.CKPT_STATUS_NOW_PENDING (b2n s.ckpt.now.isSome)
  let s := s.wr F.CKPT_STATUS_POLICY (b2n s.ckpt.policy.isSome)
  let (b, l) := match s.ckpt.policy with
    | some p => (p.reflBase, p.reflLen)
    | none => (0, 0)
  (s.wr F.CKPT_REFL_BASE_VALUE b).wr F.CKPT_REFL_LEN_VALUE l

/-- The outcome of a checkpoint (R344). Details: DESIGN CHOICE, log entry 76. -/
def State.ckptReport (s : State) (status step half : Nat) (digest : Bytes) (handle : Option Nat) : State :=
  let s := ((s.wr F.CKPT_LAST_STATUS status).wr F.CKPT_LAST_STEP step).wr F.CKPT_LAST_HALF half
  let s := if status == St.ok then
      (forEach [0, 1, 2, 3] s (fun w s => s.wr (F.CKPT_LAST_DIGEST_BYTES w) (fld digest (8 * w) 8))).ev
        F.CKPT_EVENTS_DONE
    else s.ev F.CKPT_EVENTS_FAILED
  let s := if status == St.ckptOverlap then s.ev F.CKPT_EVENTS_OVERLAP else s
  let s := s.showCkpt.ckptMsi
  let detail := step + 2 ^ 40 * half
  let result := if status == St.ok then digest else []
  let s := s.raiseEvent Ev.checkpoint status detail result
  match handle with
  | some h => s.complete h status detail result
  | none => s

/-- The running reflection and drain end (R342, R344). Details: DESIGN CHOICE, log entry 76. -/
def State.endDrain (s : State) (status : Nat) : State :=
  match s.ckpt.drain with
  | none => s
  | some d =>
    let good := status == St.ok
    let s := { s with ckpt := { s.ckpt with
      drain := none, copying := false, granules := [], seq := if good then s.ckpt.seq + 1 else s.ckpt.seq } }
    let s := if good then s.wr F.CKPT_LAST_JOB_JOB_ID (fld d.manifest 24 8) else s
    s.ckptReport status d.step d.half (sha3_256 d.manifest) d.handle

/-- JOB_SHRINK and JOB_RELEASE cancel a reflection armed or running, a drain, and a pending CKPT_NOW (R342, R349). -/
def State.ckptCancel (s : State) : State :=
  let now := s.ckpt.now
  let s := { s with ckpt := { s.ckpt with due := none, now := none } }
  let s := match now with
    | some (h, _) => s.complete h St.ckptCancelled 0 []
    | none => s
  (s.endDrain St.ckptCancelled).showCkpt

/-! ## Commands (R328, R331, R344) -/

/-- Details: DEDUCED, log entry 74. -/
def ckptParams (q : Sub) : Policy :=
  { everySteps := q.p 0 4, drainMs := q.p 4 4, intervalNs := q.p 8 8, baseStep := q.p 16 8, reflBase := q.p 24 8,
    reflLen := q.p 32 8, storeAddr := q.p 40 8, domeList := q.p 48 8 }

/-- CKPT_POLICY (R328). Details: DEDUCED, log entry 74. -/
def execCkptPolicy (s : State) : Out :=
  s.withSub Op.ckptPolicy (fun _ => true) (fun q s =>
    let p := ckptParams q
    let (ls, es) := if p.domeList = 0 then (0, []) else s.readExtents p.domeList
    let (ss, _) := s.readStore p.storeAddr
    let badValue := !s.admitted || p.baseStep / 2 ^ 40 != 0 || p.drainMs < 100 || 600000 < p.drainMs
      || (p.intervalNs != 0 && p.intervalNs < s.periodNs)
    let badRegion := p.reflBase % granuleBytes != 0 || p.reflLen % granuleBytes != 0 || p.reflLen < 2 ^ 30
      || !inDeep p.reflBase p.reflLen
    let faults := (if p.domeList = 0 then [] else [s.structFault p.domeList extentsLength]) ++ [s.structFault p.storeAddr storeLength]
    if badValue || badRegion || faults.contains St.badParam then s.short q St.badParam []
    else if faults.contains St.poisonConsumed then s.short q St.poisonConsumed []
    else if ls != 0 || ss != 0 || !reflRules es p.reflBase p.reflLen then s.short q St.badParam []
    else if s.ckptBusy then s.short q St.busy []
    else { s with ckpt := { s.ckpt with nextPolicy := some p } }.short q St.ok [])

/-- CKPT_NOW (R331): it waits for the checkpoint it triggers. Details: DEDUCED, log entry 74. -/
def execCkptNow (s : State) : Out :=
  s.withSub Op.ckptNow (fun _ => true) (fun q s =>
    let at_ := q.p 0 8
    if s.ckpt.policy.isNone || at_ / 2 ^ 40 != 0 || (at_ != 0 && at_ ≤ s.step) then s.refuse q St.badParam
    else if s.ckpt.now.isSome then s.refuse q St.busy
    else
      let (s, h) := s.accept q
      { s with ckpt := { s.ckpt with now := some (h, at_) } }.showCkpt)

/-- CKPT_STATUS (R344): the values of five registers. Details: DEDUCED, log entry 74. -/
def execCkptStatus (s : State) : Out :=
  s.withSub Op.ckptStatus (fun _ => true) (fun q s =>
    s.short q St.ok ([R.CKPT_STATUS, R.CKPT_LAST, R.CKPT_COPIED, R.CKPT_DRAINED, R.CKPT_TOTAL].flatMap (fun a =>
      natLE 8 (s.rdReg a))))

/-! ## The due test (R330) -/

/-- Whether the checkpoint with STEP st + 1 is due: by the policy, and by a pending CKPT_NOW.
Details: DEDUCED, log entry 74. -/
def State.ckptDue (s : State) (st : Nat) : Bool × Bool :=
  match s.ckpt.policy with
  | none => (false, false)
  | some p =>
    let since : Int := ((st + 1 : Nat) : Int) - (p.baseStep : Int)
    let byStep := p.everySteps != 0 && since % (p.everySteps : Int) == 0
    let periods := fun (k : Int) => k * (s.periodNs : Int) / (p.intervalNs : Int)
    let byTime := p.intervalNs != 0 && periods (since - 1) < periods since
    let byNow := match s.ckpt.now with
      | some (_, a) => a = 0 || a = st + 1
      | none => false
    (byStep || byTime, byNow)

/-- The due test of a REFLECT entry in step st (R76, R330). Details: DEDUCED, log entry 74. -/
def State.reflect (s : State) (st : Nat) : State :=
  let (pol, now) := s.ckptDue st
  let prior := match s.ckpt.due with
    | some (k, n) => k = st + 1 && n
    | none => false
  if pol || now then
    { s with ckpt := { s.ckpt with due := some (st + 1, now || prior) } }.showCkpt
  else s

/-! ## Shards (R340, R341) -/

/-- Bytes of a shard. Details: DESIGN CHOICE, log entry 76. -/
def shardBytes : Nat := 2 ^ 32

/-- The pieces of the declared extents, in declared order: address, length and offset in the declared space.
Details: DESIGN CHOICE, log entry 76. -/
def shardPieces : List (Nat × Nat) → Nat → List (Nat × Nat × Nat)
  | [], _ => []
  | e :: es, off =>
    (List.range ((e.2 + shardBytes - 1) / shardBytes)).map (fun k =>
      (e.1 + k * shardBytes, min shardBytes (e.2 - k * shardBytes), off + k * shardBytes))
      ++ shardPieces es (off + e.2)

/-- Place pieces on targets in ascending order; `used` is the blocks of each target's half in use.
Details: DESIGN CHOICE, log entry 76. -/
def placeShards (d : Bytes) (half : Nat) : List (Nat × Nat × Nat) → Nat → List (Nat × Nat) → List Shard × List (Nat × Nat)
  | [], _, used => ([], used)
  | p :: ps, i, used =>
    let t := i % sdTargets d
    let u := mget used t (2 * 2 ^ 20 / 2 ^ sdLog2 d t)
    let n := (p.2.1 + 2 ^ sdLog2 d t - 1) / 2 ^ sdLog2 d t
    let (l, used) := placeShards d half ps (i + 1) (mput used t (u + n))
    (Shard.mk p.1 p.2.1 t (sdHalf d t half + u) [] :: l, used)

/-- The shards of a checkpoint, none when a target's half is too small (R341). Details: DESIGN CHOICE, log entry 76. -/
def cutShards (d : Bytes) (half : Nat) (es : List (Nat × Nat)) : Option (List Shard) :=
  let (l, used) := placeShards d half (shardPieces es 0) 0 []
  if (List.range (sdTargets d)).all (fun t => mget used t (2 * 2 ^ 20 / 2 ^ sdLog2 d t) ≤ sdCount d t / 2)
  then some l else none

/-- Granules of the declared extents: source, and place in the reflection (R327).
Details: DESIGN CHOICE, log entry 76. -/
def granulesOf (base : Nat) (es : List (Nat × Nat)) : List (Nat × Nat) :=
  let srcs := es.flatMap (fun e => (List.range (e.2 / granuleBytes)).map (fun k => e.1 + granuleBytes * k))
  (List.range srcs.length).map (fun g => (srcs.getD g 0, base + granuleBytes * g))

/-! ## Store I/O (R337, R340, R342) -/

/-- The storage port an item uses: 8 for even and 9 for odd items, the other when that one is not UP.
Details: DESIGN CHOICE, log entry 76. -/
def State.storePort (s : State) (i : Nat) : Option Nat :=
  let up := fun (p : Nat) => s.portState p == Port.up
  let p := 8 + i % 2
  let o := 9 - i % 2
  if up p then some p else if up o then some o else none

/-- Whether the queue of depth 128 of a target on a storage port takes one more command (R337); `target` names the queue of an
item. -/
def queueRoom (target : Nat → Nat) (inFlight : List (Nat × Nat)) (i port : Nat) : Bool :=
  inFlight.countP (fun x => x.2 == port && target x.1 == target i) < 128

/-- Commands in flight on a storage port that is down go back to those that wait (R340). -/
def State.backFrom (s : State) (todo : List Nat) (inFlight : List (Nat × Nat)) : List Nat × List (Nat × Nat) :=
  let lost := fun (x : Nat × Nat) => !(s.portState x.2 == Port.up || s.portState x.2 == Port.draining)
  ((inFlight.filter lost).map (·.1) ++ todo, inFlight.filter (fun x => !lost x))

/-- Whether every granule of a shard is COPIED. Details: DESIGN CHOICE, log entry 76. -/
def State.shardReady (s : State) (sh : Shard) : Bool :=
  s.ckpt.granules.all (fun g => !overlaps g.1 granuleBytes sh.dest sh.length)

/-- Where shard i of a drain lies in the reflection. -/
def Drain.reflOff (d : Drain) (i : Nat) : Nat :=
  ((shardPieces d.extents 0).getD i (0, 0, 0)).2.2

def State.setDrain (s : State) (d : Drain) : State := { s with ckpt := { s.ckpt with drain := some d } }
def State.setRestore (s : State) (r : Restore) : State := { s with ckpt := { s.ckpt with restore := some r } }

/-- Reflection base of the policy in force. -/
def State.reflBase (s : State) : Nat := match s.ckpt.policy with | some p => p.reflBase | none => 0

/-- The message of an item of the present order of Table 14.4. Details: DESIGN CHOICE, log entry 76. -/
def State.drainSend (s : State) (d : Drain) (i port : Nat) : State × Drain :=
  let lba0 := sdHalf d.store 0 d.half
  let blk := 2 ^ sdLog2 d.store 0
  match d.order with
  | 1 => (s.toStore d.store .storeWrite 0 port [lba0, blk] (zeros blk), d)
  | 3 =>
    let sh := d.shards.getD i ⟨0, 0, 0, 0, []⟩
    let a := s.reflBase + d.reflOff i
    let sh := { sh with digest := sha3_256 (s.readBytes a sh.length) }
    (s.toStore d.store .storeWrite sh.target port [sh.lba, sh.length, a] [], { d with shards := lset d.shards i sh })
  | 5 =>
    let n := roundUp d.manifest.length blk
    (s.toStore d.store .storeWrite 0 port [lba0, n] (sub d.manifest 0 n), d)
  | _ => (s.toStore d.store .storeFlush i port [] [], d)

/-- The target whose queue an item of the present order uses. -/
def Drain.target (d : Drain) (i : Nat) : Nat :=
  if d.order = 3 then (d.shards.getD i ⟨0, 0, 0, 0, []⟩).target else if d.order = 4 then i else 0

/-- Send what can be sent: shards whose granules are COPIED, over the ports that are UP; a poisoned word in what a shard
reads ends the drain (R342). Details: DESIGN CHOICE, log entry 76. -/
def drainItems : List Nat → State → Drain → List Nat → State × Drain × List Nat × Bool
  | [], s, d, kept => (s, d, kept, false)
  | i :: is, s, d, kept =>
    let sh := d.shards.getD i ⟨0, 0, 0, 0, []⟩
    let ready := d.order != 3 || s.shardReady sh
    match s.storePort i with
    | some port =>
      if !ready || !queueRoom d.target d.inFlight i port then drainItems is s d (kept ++ [i])
      else if d.order = 3 && s.poisoned (s.reflBase + d.reflOff i) sh.length then (s, d, kept, true)
      else
        let s := if port != 8 + i % 2 then s.ev F.CKPT_EVENTS_PORT_FALLBACK else s
        let (s, d) := s.drainSend d i port
        drainItems is s { d with inFlight := d.inFlight ++ [(i, port)] } kept
    | none => drainItems is s d (kept ++ [i])

/-- The manifest (Table 14.5). Details: DESIGN CHOICE, log entries 76, 93. -/
def State.manifest (s : State) (d : Drain) : Bytes :=
  let n := d.shards.length
  let sigOff := 256 + 64 * n + 1312
  let (jobId, shape, members, me) := match s.job with
    | some j => (j.jobId, j.shapeId, j.members, j.memberIndex)
    | none => (0, 0, 0, 0)
  let ext := d.extents.flatMap (fun e => natLE 8 e.1 ++ natLE 8 e.2)
  natLE 2 0x434D ++ [1] ++ [0] ++ natLE 4 n ++ natLE 8 d.step ++ natLE 8 d.version ++ natLE 8 jobId ++ natLE 8 shape
    ++ natLE 4 members ++ natLE 4 me ++ natLE 8 d.seq ++ natLE 8 ((d.extents.map (·.2)).foldl (· + ·) 0)
    ++ natLE 4 d.extents.length ++ natLE 4 sigOff ++ natLE 4 (sigOff + 2420) ++ natLE 2 s.nodeId ++ zeros 2
    ++ sha3_256 ext ++ natLE 8 d.time ++ zeros 136
    ++ d.shards.flatMap (fun sh => natLE 8 sh.dest ++ natLE 8 sh.length ++ natLE 8 sh.target ++ natLE 8 sh.lba
        ++ sub sh.digest 0 32)
    ++ identityKey ++ (List.range 2420).map (Config.cryptoByte s.fresh 1)

/-- The next order of Table 14.4 begins. Details: DESIGN CHOICE, log entry 76. -/
def State.drainNext (s : State) (d : Drain) : Drain :=
  let o := d.order + 1
  let d := { d with order := o }
  if o = 3 then { d with todo := List.range d.shards.length }
  else if o = 4 then { d with todo := List.range (sdTargets d.store) }
  else if o = 5 then { d with todo := [0], manifest := s.manifest d }
  else if o = 7 then d
  else { d with todo := [0] }

/-- Step 5 of Table 14.4: the cache, then the outcome; a worn region skips the cache (R339, Table 17.6).
Details: DESIGN CHOICE, log entry 76. -/
def State.drainCache (s : State) (d : Drain) : State :=
  let s := s.setDrain d
  if s.isWorn 7 then ((s.ev F.CKPT_EVENTS_CACHE_SKIPPED).ev F.KEEP_EVENTS_SKIPPED).endDrain St.ok
  else (s.keepPut 7 (sha3_256 d.manifest ++ zeros 32) .ckptDone).keepStart

/-- Send what the present order allows; an order with nothing left is followed by the next.
Details: DESIGN CHOICE, log entry 76. -/
def drainRun : Nat → State → State
  | 0, s => s
  | n + 1, s =>
    match s.ckpt.drain with
    | none => s
    | some d =>
      if d.order = 7 then s
      else
        let (todo, out) := s.backFrom d.todo d.inFlight
        let (s, d, kept, bad) := drainItems todo s { d with inFlight := out } []
        if bad then (s.setDrain d).endDrain St.poisonConsumed
        else
          let d := { d with todo := kept }
          if !d.todo.isEmpty || !d.inFlight.isEmpty then s.setDrain d
          else
            let d := s.drainNext d
            if d.order = 7 then s.drainCache d else drainRun n (s.setDrain d)

/-- The queue an item of a restore uses: of its source, and of the target within it. -/
def Restore.target (r : Restore) (i : Nat) : Nat :=
  if r.stage = 1 then 8 * i else
    let (k, sh, _) := r.shards.getD i (0, ⟨0, 0, 0, 0, []⟩, 0)
    8 * k + sh.target

/-- Ask for the restore items a port can carry (R347). Details: DEDUCED, log entry 77. -/
def restoreItems : List Nat → State → Restore → List Nat → State × Restore × List Nat
  | [], s, r, kept => (s, r, kept)
  | i :: is, s, r, kept =>
    match s.storePort i with
    | some port =>
      if !queueRoom r.target r.inFlight i port then restoreItems is s r (kept ++ [i])
      else
        let (k, sh, off) := r.shards.getD i (0, ⟨0, 0, 0, 0, []⟩, 0)
        let src := r.sources.getD (if r.stage = 1 then i else k) ⟨[], 0, 0, 0, none⟩
        let s := if r.stage = 1 then s.toStore src.store .storeRead 0 port [i, sdHalf src.store 0 src.half] []
          else s.toStore src.store .storeRead sh.target port [i, sh.lba, sh.length, s.reflBase + off] []
        restoreItems is s { r with inFlight := r.inFlight ++ [(i, port)] } kept
    | none => restoreItems is s r (kept ++ [i])

/-- Details: DEDUCED, log entry 77. -/
def State.restorePump (s : State) : State :=
  match s.ckpt.restore with
  | some r =>
    let (todo, out) := s.backFrom r.todo r.inFlight
    let (s, r, kept) := restoreItems todo s { r with inFlight := out } []
    s.setRestore { r with todo := kept }
  | none => s

/-- A storage port came UP, or granules became COPIED: the drain or restore goes on.
Details: DESIGN CHOICE, log entry 76. -/
def State.storePump (s : State) : State := (drainRun 8 s).restorePump.showCkpt

/-- What waits for a storage port goes on when the port can carry it. Details: DESIGN CHOICE, log entry 100. -/
def State.serveStore (s : State) : State := if s.ckptBusy then s.storePump else s

/-! ## The reflection starts (R332–R334) -/

/-- Terraces of the job whose live bank holds a REFLECT entry; the primary speaks for a pair.
Details: DESIGN CHOICE, log entry 75. -/
def State.reflecting (s : State) : List Nat :=
  (terraces s.jobMask).filter (fun t =>
    (!s.sealed || t < 8) && s.flag (F.SCHED_STATUS_LIVE_VALID t) && (s.liveBank t).entries.any (·.action == Act.reflect))

/-- The checkpoint with STEP `step` starts, or ends with the first condition of R332 that holds.
Details: DESIGN CHOICE, log entry 75. -/
def State.ckptBegin (s : State) (step : Nat) (byNow : Bool) : State :=
  let handle := if byNow then s.ckpt.now.map (·.1) else none
  let s := { s with ckpt := { s.ckpt with due := none, now := if byNow then none else s.ckpt.now } }
  let half := s.ckpt.seq % 2
  let fail := fun (st : Nat) => s.ckptReport st step half [] handle
  match s.ckpt.policy with
  | none => fail St.badParam
  | some p =>
    let ts := s.reflecting
    let dome := if p.domeList = 0 then (0, []) else s.readExtents p.domeList
    let lists := ts.map (fun t => (s.tr t).reflectList.getD (St.badParam, [])) ++ [dome]
    let (ss, d) := s.readStore p.storeAddr
    let es := lists.flatMap (·.2)
    let poison := lists.any (fun l => l.1 == St.poisonConsumed) || ss == St.poisonConsumed
    let shards := if ss == 0 then cutShards d half es else some []
    if s.ckptBusy then fail St.ckptOverlap
    else if !s.check.diverged.isEmpty then fail St.sealedDiverged
    else if ts.any (fun t => (s.tr t).reflectList.isNone || (s.tr t).ranStep != some (step - 1)) then
      fail St.deadlineMissed
    else if lists.any (fun l => l.1 == St.badParam) || ss == St.badParam || !reflRules es p.reflBase p.reflLen
        || shards.isNone then fail St.badParam
    else if poison then fail St.poisonConsumed
    else
      let total := (es.map (·.2)).foldl (· + ·) 0
      let inDeclared : Nat → Bool := fun l => es.any (fun e => overlaps l 64 e.1 e.2)
      let s := { s with
        domeLines := s.domeLines.map (fun (l : Nat × Bool) => if inDeclared l.1 then (l.1, false) else l)
        ckpt := { s.ckpt with
          granules := granulesOf p.reflBase es
          copying := true
          drain := some ⟨1, step, half, s.ckpt.seq, 2 ^ 24 * step, d, es, shards.getD [], [0], [], [],
            s.rd (F.SCHED_VERSION_LIVE_VERSION 0), handle⟩ } }
      let s := ((s.wr F.CKPT_STATUS_HALF half).wr F.CKPT_STATUS_SEQ s.ckpt.seq).wrReg R.CKPT_GUARD 0
      (((s.wr F.CKPT_TOTAL_BYTES total).wr F.CKPT_COPIED_BYTES 0).wr F.CKPT_DRAINED_BYTES 0).storePump

/-- At a boundary: a new policy takes effect, and a due checkpoint starts (R328, R332).
Details: DESIGN CHOICE, log entry 75. -/
def State.ckptBoundary (s : State) (step : Nat) : State :=
  let s := match s.ckpt.nextPolicy with
    | some p => { s with ckpt := { s.ckpt with policy := some p, nextPolicy := none } }.showCkpt
    | none => s
  match s.ckpt.due with
  | some (k, byNow) => if k ≤ step then s.ckptBegin k byNow else s
  | none => s

/-- REFLECTION_COPY_DONE: the sweep has copied every granule and the guard is released (R334, R335).
Details: DESIGN CHOICE, log entry 75. -/
def execReflectionCopyDone (s : State) : Out :=
  if !s.ckpt.copying then ok s
  else
    let gs := s.ckpt.granules
    let s := gs.foldl (fun s g => s.copyRange g.1 g.2 granuleBytes) s
    let s := { s with ckpt := { s.ckpt with copying := false, granules := [] } }
    ok (s.incw F.CKPT_COPIED_BYTES (granuleBytes * gs.length)).storePump

/-! ## Restore (R346, R347) -/

/-- Read a remap table: 0, BAD_PARAM or POISON_CONSUMED, and its entries. Details: DEDUCED, log entry 77. -/
def State.readRemap (s : State) (a : Nat) : Nat × Option (List (Nat × Nat × Nat)) :=
  if a = 0 then (0, none)
  else match s.structFault a (fun h => 64 + 32 * fld h 0 4) with
    | 0 =>
      let n := s.readNat a 4
      let e := fun (i k : Nat) => s.readNat (a + 64 + 32 * i + 8 * k) 8
      let l := (List.range n).map (fun i => (e i 0, e i 1, e i 2))
      if !allZero (s.readBytes (a + 4) 60) || (List.range n).any (fun i => e i 3 != 0)
          || l.any (fun r => !s.backed r.2.1 r.2.2 || (s.ctxHit r.2.1 r.2.2).isSome) then (St.badParam, none)
      else (0, some l)
    | st => (st, none)

/-- The structures of a RESTORE: 0, BAD_PARAM or POISON_CONSUMED, the sources and the trust list (first rows of R347).
Details: DEDUCED, log entry 77. -/
def State.readSources (s : State) (n a tn ta : Nat) : Nat × List RestoreSource × List Bytes :=
  if n = 0 || n > 64 || tn = 0 || tn > 64 || !s.backed a (32 * n) || !s.backed ta (32 * tn) then (St.badParam, [], [])
  else
    let poisonHere := s.poisoned a (32 * n) || s.poisoned ta (32 * tn)
    let src := fun (i : Nat) => s.readBytes (a + 32 * i) 32
    let idx := if s.poisoned a (32 * n) then [] else List.range n
    let stores := idx.map (fun i => s.readStore (fld (src i) 0 8))
    let remaps := idx.map (fun i => s.readRemap (fld (src i) 24 8))
    let badSrc := idx.any (fun i => fld (src i) 8 1 > 1 || !allZero (sub (src i) 9 3))
    if badSrc || stores.any (·.1 == St.badParam) || remaps.any (·.1 == St.badParam) then (St.badParam, [], [])
    else if poisonHere || stores.any (·.1 != 0) || remaps.any (·.1 != 0) then (St.poisonConsumed, [], [])
    else
      (0, idx.map (fun i =>
          ⟨(stores.getD i (0, [])).2, fld (src i) 8 1, fld (src i) 12 4, fld (src i) 16 8, (remaps.getD i (0, none)).2⟩),
        (List.range tn).map (fun i => s.readBytes (ta + 32 * i) 32))

/-- The terraces stay HALTED and every swap that JOB_SHRINK armed is disarmed (R350).
Details: DEDUCED, log entries 77, 79. -/
def State.shrinkFail (s : State) (status : Nat) : State :=
  match s.ckpt.shrink with
  | none => s
  | some k =>
    let s := { s with ckpt := { s.ckpt with shrink := none, restore := none } }
    let s := forEach (terraces s.jobMask) s (fun t s =>
      (s.setTr t { s.tr t with resumeStep := none }).wr (F.SCHED_STATUS_ARMED t) 0)
    let s := forEach (List.range 16) s (fun g s => s.setSlotC g { s.cslot g with armed := none })
    ((s.wr F.FAB_ROUTE_LIVE_ARMED 0).complete k.handle status 0 []).showCkpt

/-- The bytes of a manifest in the blocks that hold it: MANIFEST_BYTES is SIG_OFF + 2,420 (Table 14.5). -/
def mfBytes (m : Bytes) : Bytes := m.take (fld m 68 4 + 2420)

/-- A restore ends: OK and POISON_CONSUMED after its last byte, any other status with no destination written.
Details: DEDUCED, log entry 77. -/
def State.restoreEnd (s : State) (status : Nat) : State :=
  match s.ckpt.restore with
  | none => s
  | some r =>
    let copied := r.stage = 3
    let s := { s with ckpt := { s.ckpt with restore := none } }
    let seqs := r.manifests.map (fun m => fld m 48 8)
    let s := if copied then
        let s := { s with ckpt := { s.ckpt with seq := seqs.foldl max 0 + 1 } }
        let last := r.manifests.getLastD []
        ((s.wr F.CKPT_STATUS_SEQ s.ckpt.seq).wr F.CKPT_LAST_JOB_JOB_ID (fld last 24 8)).ev F.CKPT_EVENTS_RESTORED
      else s
    let s := s.showCkpt.ckptMsi
    let digest := if copied then sha3_256 (r.manifests.flatMap (fun m => sha3_256 (mfBytes m))) else []
    match r.handle with
    | some h => s.complete h status 0 digest
    | none =>
      match s.ckpt.shrink with
      | some k =>
        if isSuccess status then
          { s with ckpt := { s.ckpt with shrink := some { k with withRestore := false, digest := digest } } }
        else s.shrinkFail status
      | none => s

/-- A restore begins: its manifests are read. Details: DEDUCED, log entry 77. -/
def State.restoreBegin (s : State) (handle : Option Nat) (srcs : List RestoreSource) (trust : List Bytes) : State :=
  let s := s.setRestore ⟨handle, srcs, trust, 1, srcs.map (fun _ => []), [], List.range srcs.length, []⟩
  (((s.wr F.CKPT_TOTAL_BYTES 0).wr F.CKPT_COPIED_BYTES 0).wr F.CKPT_DRAINED_BYTES 0).storePump

/-- RESTORE (R346): with a job admitted none of whose terraces has started a step. Details: DEDUCED, log entry 77. -/
def execRestore (s : State) : Out :=
  s.withSub Op.restore (fun _ => true) (fun q s =>
    let idle := match s.job with
      | some j => !j.anyStep
      | none => false
    if !idle || s.ckptBusy || s.flag F.NODE_PROFILE_SWITCHING then s.refuse q St.busy
    else
      let (st, srcs, trust) := s.readSources (q.p 0 1) (q.p 8 8) (q.p 1 1) (q.p 16 8)
      if st != 0 then s.longNow q st 0 []
      else
        let (s, h) := s.accept q
        s.restoreBegin (some h) srcs trust)

/-- Details: DEDUCED, log entry 77. -/
def mfShards (m : Bytes) : Nat := fld m 4 4
/-- Details: DEDUCED, log entry 77. -/
def mfTotal (m : Bytes) : Nat := fld m 56 8

/-- Whether a manifest is what its signer wrote: MAGIC, FORMAT, signature, and a trusted key.
Details: DEDUCED, log entry 77. -/
def mfSigned (trust : List Bytes) (m : Bytes) : Bool :=
  let sigOff := 256 + 64 * mfShards m + 1312
  let key := sub m (256 + 64 * mfShards m) 1312
  fld m 0 2 == 0x434D && fld m 2 1 == 1 && 1 ≤ mfShards m && mfShards m ≤ 8192 && fld m 68 4 == sigOff
    && sigOff + 2420 ≤ m.length && Config.mldsaVerify key (sha3_256 (m.take sigOff)) (sub m sigOff 2420)
    && trust.contains (sha3_256 key)

/-- Shard i of a manifest. -/
def mfShard (m : Bytes) (i : Nat) : Shard :=
  let o := 256 + 64 * i
  ⟨fld m o 8, fld m (o + 8) 8, fld m (o + 16) 8 % 8, fld m (o + 24) 8, sub m (o + 32) 32⟩

/-- The destination of a shard under a source's remap table; none when no entry holds it whole.
Details: DEDUCED, log entry 77. -/
def remapDest (r : Option (List (Nat × Nat × Nat))) (sh : Shard) : Option Nat :=
  match r with
  | none => some sh.dest
  | some l =>
    match l.find? (fun e => e.1 ≤ sh.dest && sh.dest + sh.length ≤ e.1 + e.2.2) with
    | some e => some (e.2.1 + (sh.dest - e.1))
    | none => none

/-- Give shards their places in the reflection region, one after another. Details: DEDUCED, log entry 77. -/
def stageShards : List (Nat × Shard) → Nat → List (Nat × Shard × Nat)
  | [], _ => []
  | (k, sh) :: l, off => (k, sh, off) :: stageShards l (off + sh.length)

/-- The checks of R347 that follow the reading of the manifests: the first status, or the shards to read.
Details: DEDUCED, log entry 77. -/
def State.restoreVerify (s : State) (r : Restore) : Nat × List (Nat × Shard × Nat) :=
  let ms := r.manifests
  let idx := List.range ms.length
  let src := fun (k : Nat) => r.sources.getD k ⟨[], 0, 0, 0, none⟩
  let m := fun (k : Nat) => ms.getD k []
  let all := idx.flatMap (fun k => (List.range (mfShards (m k))).map (fun i => (k, mfShard (m k) i)))
  let moved := all.map (fun x => (x.1, remapDest (src x.1).remap x.2, x.2))
  let dests := moved.filterMap (fun x => x.2.1.map (fun d => (d, x.2.2.length)))
  let bytes := (all.map (fun x => x.2.length)).foldl (· + ·) 0
  let len := s.rd F.CKPT_REFL_LEN_VALUE
  if ms.any (fun x => !mfSigned r.trust x) then (St.signatureInvalid, [])
  else if ms.any (fun x => fld x 8 8 != fld (m 0) 8 8) then (St.ckptMixedSteps, [])
  else if idx.any (fun k => fld (m k) 32 8 != (src k).shape || fld (m k) 44 4 != (src k).member
      || fld (m k) 40 4 != fld (m 0) 40 4) then (St.shapeMismatch, [])
  else if len < (ms.map mfTotal).foldl (· + ·) 0 || len < bytes || moved.any (fun x => x.2.1.isNone) || anyOverlap dests
      || dests.any (fun d => !s.backed d.1 d.2 || (s.ctxHit d.1 d.2).isSome) then (St.badParam, [])
  else (0, stageShards (moved.map (fun x => (x.1, { x.2.2 with dest := x.2.1.getD 0 }))) 0)

/-- A read of a restore completes: a manifest, or a shard for the reflection region. Details: DEDUCED, log entry 77. -/
def State.restoreRead (s : State) (r : Restore) (i : Nat) (data : Bytes) : State :=
  let r := { r with inFlight := r.inFlight.filter (·.1 != i) }
  let last := r.todo.isEmpty && r.inFlight.isEmpty
  if r.stage = 1 then
    let r := { r with manifests := lset r.manifests i data }
    if !last then (s.setRestore r).storePump
    else
      let (st, shards) := s.restoreVerify r
      if st != 0 then (s.setRestore r).restoreEnd st
      else
        let s := s.wr F.CKPT_TOTAL_BYTES ((r.manifests.map mfTotal).foldl (· + ·) 0)
        (s.setRestore { r with stage := 2, shards := shards, todo := List.range shards.length }).storePump
  else
    let (_, sh, off) := r.shards.getD i (0, ⟨0, 0, 0, 0, []⟩, 0)
    let s := (s.rawWrite (s.reflBase + off) (sub data 0 sh.length)).incw F.CKPT_DRAINED_BYTES sh.length
    if sha3_256 (sub data 0 sh.length) != sh.digest then (s.setRestore r).restoreEnd St.digestMismatch
    else (s.setRestore { r with stage := if last then 3 else 2 }).storePump

/-- RESTORE_COPY_DONE: every shard reaches its destination with its poison marks (R347).
Details: DEDUCED, log entry 77. -/
def execRestoreCopyDone (s : State) : Out :=
  match s.ckpt.restore with
  | none => ok s
  | some r =>
    if r.stage != 3 then ok s
    else
      let base := s.reflBase
      let bad := r.shards.any (fun x => s.poisoned (base + x.2.2) x.2.1.length)
      let s := r.shards.foldl (fun s x =>
        (s.writeCells x.2.1.dest (s.readCells (base + x.2.2) x.2.1.length)).incw F.CKPT_COPIED_BYTES x.2.1.length) s
      ok (s.restoreEnd (if bad then St.poisonConsumed else St.ok))

/-! ## I/O completions (R339, R342, R347) -/

/-- STORE_IO_COMPLETION: the Write, Read or Flush of an item ends, well or with an error; a Read brings its data.
Details: DESIGN CHOICE, log entry 76. -/
def execStoreIoCompletion (item : Nat) (good : Bool) (data : Bytes) (s : State) : Out :=
  match s.ckpt.restore with
  | some r =>
    if !r.inFlight.any (·.1 == item) then ok s
    else if !good then ok (s.restoreEnd St.storeError)
    else ok (s.restoreRead r item data)
  | none =>
    match s.ckpt.drain with
    | some d =>
      if !d.inFlight.any (·.1 == item) then ok s
      else if !good then ok (s.endDrain St.storeError)
      else
        let s := if d.order = 3 then s.incw F.CKPT_DRAINED_BYTES (d.shards.getD item ⟨0, 0, 0, 0, []⟩).length else s
        ok (s.setDrain { d with inFlight := d.inFlight.filter (·.1 != item) }).storePump
    | none => ok s

/-- DRAIN_TIMEOUT: no storage path to a target for DRAIN_TIMEOUT_MS (R342); a restore's reads fail alike.
Details: DESIGN CHOICE, log entry 76. -/
def execDrainTimeout (s : State) : Out :=
  match s.ckpt.restore with
  | some r => if r.stage = 3 then ok s else ok (s.restoreEnd St.storeUnreachable)
  | none =>
    match s.ckpt.drain with
    | some d => if d.order = 7 then ok s else ok (s.endDrain St.storeUnreachable)
    | none => ok s

/-- The commit of the manifest-digest cache reports the checkpoint (Table 14.4). -/
def State.ckptCached (s : State) : State :=
  match s.ckpt.drain with
  | some d => if d.order = 7 then s.endDrain St.ok else s
  | none => s

end Sys2Proof.Machine
end

