-- ==== Sys2Proof/Machine/Ageing.lean ====
section
/-! DEFINITION. Ageing (R383–R394): monitors, surveys and self-tests in QUIET windows, margin plans, and the forecast; and
the scrub (R242), whose passes the ageing log records. -/

namespace Sys2Proof.Machine

open Sys2Proof

/-! ## Margin plans (Table 17.11) -/

def plSeq (p : Bytes) : Nat := fld p 4 4
def plVolt (p : Bytes) (t prof : Nat) : Nat := fld p (32 + 6 * t + 2 * prof) 2
def plMax (p : Bytes) (t : Nat) : Nat := fld p (128 + 2 * t) 2
/-- Refresh interval of stack m (0–7) or package m − 8. -/
def plRefresh (p : Bytes) (m : Nat) : Nat := fld p (160 + 2 * m) 2
def plEq (p : Bytes) (lane : Nat) : Bytes := sub p (208 + 8 * lane) 8
def plOos (p : Bytes) (n : Nat) : Nat := fld p (848 + n) 1
def plWeightG (p : Bytes) (c : Nat) : Nat := fld p (864 + 4 * c) 4
def plWeightU (p : Bytes) (c : Nat) : Nat := fld p (992 + 4 * c) 4
def plStatic (p : Bytes) (prof k : Nat) : Nat := fld p (1056 + 92 * prof + 4 * k) 4
def plDigest (p : Bytes) : Bytes := sub p 2016 32

/-- Assemble a plan with its digest. Details: DESIGN CHOICE, log entry 83. -/
def mkPlan (source seq apply : Nat) (volt max refresh : Nat → Nat) (eq : Nat → Bytes) (oos weights static : Nat → Nat) :
    Bytes :=
  let b := natLE 2 0x4D50 ++ [1] ++ natLE 1 source ++ natLE 4 seq ++ natLE 8 apply ++ zeros 16
    ++ (List.range 48).flatMap (fun i => natLE 2 (volt i)) ++ (List.range 16).flatMap (fun t => natLE 2 (max t))
    ++ (List.range 24).flatMap (fun m => natLE 2 (refresh m)) ++ (List.range 80).flatMap (fun l => sub (eq l) 0 8)
    ++ (List.range 10).flatMap (fun n => natLE 1 (oos n)) ++ zeros 6
    ++ (List.range 48).flatMap (fun c => natLE 4 (weights c)) ++ (List.range 69).flatMap (fun k => natLE 4 (static k))
    ++ zeros 684
  b ++ sha3_256 b

/-- A fused 32-bit word of the factory plan. Details: DESIGN CHOICE, log entry 83. -/
def fusedWord (i : Nat) : Nat := leNat ((List.range 4).map (fun k => Config.fused 1 (i + k)))

/-- The factory plan (R390): no terrace retired, refresh at 3,900 ns, every lane in service; offsets, presets, weights
and static draws are the module's own. Details: DESIGN CHOICE, log entry 83. -/
def factoryPlan : Bytes :=
  mkPlan 0 0 0 (fun i => (Config.fused 1 (32 + i)).toNat % 61) (fun _ => Config.rateMaxMhz) (fun _ => 3900)
    (fun l => (List.range 8).map (fun k => Config.fused 1 (208 + 8 * l + k))) (fun _ => 0)
    (fun c => fusedWord (864 + 4 * c)) (fun k => fusedWord (1056 + 4 * k))

/-- Whether a stored plan may be applied (R390). Details: DESIGN CHOICE, log entry 83. -/
def planVerifies (p : Bytes) : Bool :=
  p.length == 2048 && fld p 0 2 == 0x4D50 && fld p 2 1 == 1 && plDigest p == sha3_256 (p.take 2016)

/-- Terraces a plan retires. -/
def plRetired (p : Bytes) : Nat := maskOf ((List.range 16).filter (fun t => plMax p t = 0))

/-- The voltage offset at a Rate clock f: the Exact offset and its share of the difference, rounded up to 1 mV. -/
def rateOffset (p : Bytes) (t f : Nat) : Nat :=
  let e : Int := plVolt p t 1
  let r : Int := plVolt p t 0
  let m := plMax p t
  if m ≤ 1100 then r.toNat
  else
    let num := (r - e) * ((f : Int) - 1100)
    let den : Int := (m : Int) - 1100
    (e + (num + den - 1) / den).toNat

/-- The offsets and limits a plan shows (Tables 2.9, 10.15, 17.18–17.23); a retired terrace of the job keeps `hold`. -/
def State.showPlan (s : State) (p : Bytes) (hold : Nat → Option Nat) : State :=
  let prof := s.profile
  let s := forEach (List.range 16) s (fun t s =>
    let v := match hold t with
      | some v => v
      | none => if prof = 0 then rateOffset p t (s.rd F.NODE_PROFILE_TOWER_MHZ) else plVolt p t prof
    (s.wr (F.AGE_TERRACE_VOLT_MV t) v).wr (F.AGE_TERRACE_MAX_MHZ t) (plMax p t))
  let s := forEach (List.range 8) s (fun k s => s.wr (F.MEM_STACK_REFRESH_NS k)
    (if s.rd (F.MEM_STACK_TEMP_C k) > 85 then plRefresh p k / 2 else plRefresh p k))
  let s := forEach (List.range 16) s (fun k s => s.wr (F.MEM_PKG_REFRESH_NS k) (plRefresh p (8 + k)))
  let s := forEach (List.range 24) s (fun m s => s.wr (F.AGE_MEM_REFRESH_NS m) (plRefresh p m))
  let live := (List.range 16).filterMap (fun t => if plMax p t = 0 then none else some (plMax p t))
  let s := s.wr F.NODE_VARIANT_PLAN_MAX_MHZ (live.foldl min Config.rateMaxMhz)
  let s := (s.wr F.AGE_STATUS_RETIRED (plRetired p)).wrReg R.AGE_PLAN (plSeq p)
  forEach [0, 1, 2, 3] s (fun w s => s.wrReg (R.AGE_PLAN_DIGEST w) (fld (plDigest p) (8 * w) 8))

/-- A plan comes into force (R390, R392). A terrace of the admitted job that it retires runs on at its offset in force
with 60 mV added. Details: DESIGN CHOICE, log entry 83. -/
def State.applyPlan (s : State) (p : Bytes) : State :=
  let fresh := (terraces (plRetired p)).filter (fun t => !bit (s.rd F.AGE_STATUS_RETIRED) t)
  let held := (terraces (plRetired p)).filter (fun t => bit s.jobMask t)
  let old := fun (t : Nat) => s.rd (F.AGE_TERRACE_VOLT_MV t)
  let s := s.showPlan p (fun t => if held.contains t then some (old t + 60) else none)
  let s := { s with age := { s.age with plan := p } }
  let s := (s.ev F.AGE_EVENTS_PLAN_APPLIED).ageLog 6 0 0 (natLE 4 (plSeq p) ++ sub (plDigest p) 0 8)
  let s := if fresh.isEmpty then s else s.ev F.AGE_EVENTS_TERRACE_RETIRED
  if held.isEmpty then s else (s.ev F.AGE_EVENTS_ADVISED).raiseEvent Ev.health St.serviceAdvised 0 []

/-! ## Forecast (R393, R394) -/

/-- The limit of a limiter (Table 17.12). USED rises: its distance to the budget falls.
Details: DEDUCED, log entry 84. -/
def ageLimit (limiter : Nat) : Int := match limiter with | 1 => -30 | 2 => 31 | 3 => 12 | _ => 0

/-- Record a value of a quantity; the last 32 are kept. Details: DEDUCED, log entry 84. -/
def State.ageValue (s : State) (limiter unit : Nat) (v : Int) : State :=
  let k := limiter * 256 + unit
  { s with age := { s.age with
    hist := mput s.age.hist k (((s.keep.powerOnS, v) :: mget s.age.hist k []).take 32) } }

/-- Months to the limit by a least-squares line, none unless the quantity falls. Details: DEDUCED, log entry 84. -/
def monthsOf (limiter : Nat) (l : List (Nat × Int)) : Option Nat :=
  let n : Int := l.length
  let sx := (l.map (fun p => (p.1 : Int))).foldl (· + ·) 0
  let sy := (l.map (·.2)).foldl (· + ·) 0
  let sxy := (l.map (fun p => (p.1 : Int) * p.2)).foldl (· + ·) 0
  let sxx := (l.map (fun p => (p.1 : Int) * p.1)).foldl (· + ·) 0
  let num := n * sxy - sx * sy
  let den := n * sxx - sx * sx
  match l with
  | [] => none
  | (_, v) :: _ =>
    if den = 0 || 0 ≤ num then none
    else some (((v - ageLimit limiter) * den) / (-num * 3600 * 730)).toNat

/-- The forecast: the smallest result, saturated at 255, with its limiter and unit. Details: DEDUCED, log entry 84. -/
def State.forecastOf (s : State) : Nat × Nat × Nat :=
  s.age.hist.foldl (fun best h =>
    match monthsOf (h.1 / 256) h.2 with
    | some m => if m < best.1 then (m, h.1 / 256, h.1 % 256) else best
    | none => best) (255, 0, 0)

/-- After a survey or a Keep budget change: the line is fitted, the forecast published and logged, and the advice raised
(R393, R394). Details: DEDUCED, log entry 84. -/
def State.forecast (s : State) : State :=
  let (m, l, u) := s.forecastOf
  let s := ((s.wr F.AGE_FORECAST_MONTHS m).wr F.AGE_FORECAST_LIMITER l).wr F.AGE_FORECAST_UNIT u
  let s := s.ageLog 7 u 0 (natLE 1 m ++ natLE 1 l)
  if m < 6 && s.age.rearmed then
    let s := { s with age := { s.age with rearmed := false } }
    ((s.wr F.AGE_FORECAST_ADVISED 1).ev F.AGE_EVENTS_ADVISED).raiseEvent Ev.health St.serviceAdvised m []
  else if 9 ≤ m then { s with age := { s.age with rearmed := true } }.wr F.AGE_FORECAST_ADVISED 0
  else s

/-- Budgets that changed since their last value enter the forecast (R393). Details: DEDUCED, log entry 84. -/
def State.ageBudgets (s : State) : State :=
  let left := fun (g : Nat) => ((keepBudget g : Nat) : Int) - (s.used g : Int)
  let changed := ((List.range 10).drop 1).filter (fun g =>
    match mget s.age.hist (4 * 256 + g) [] with
    | [] => s.used g != 0
    | (_, v) :: _ => v != left g)
  if changed.isEmpty then s
  else (changed.foldl (fun s g => s.ageValue 4 g (left g)) s).forecast

/-! ## Surveys and self-tests (R385–R388) -/

/-- AGE_STATUS follows the queue. -/
def State.showAge (s : State) : State :=
  let s := s.wr F.AGE_STATUS_QUEUED ((s.age.queue.filter (·.handle.isSome)).length)
  (s.wr F.AGE_STATUS_RUNNING (maskOf (s.age.queue.flatMap (·.running)))).wr F.AGE_STATUS_REPLANNING
    (b2n s.age.replan.isSome)

def State.setQueue (s : State) (l : List AgeReq) : State := { s with age := { s.age with queue := l } }

/-- The class of a request: 0 margin survey, 1 self-test, 2 calibration. Details: DEDUCED, log entry 82. -/
def AgeReq.cls (r : AgeReq) : Nat := if r.calibration then 2 else if r.selfTest then 1 else 0

/-- Stated maximum duration of a part, in ns (Table 17.10). Details: DEDUCED, log entry 82. -/
def AgeReq.duration (r : AgeReq) : Nat :=
  if r.calibration then 50000 else if r.selfTest then (if r.level = 0 then 250000 else 40000000) else 320000

/-- The open QUIET window of a terrace: CLASS_MASK and the step time of its end (R89).
Details: DEDUCED, log entry 82. -/
def State.quietWindow (s : State) (t : Nat) : Option (Nat × Nat) :=
  (s.runningEntries t).findSome? (fun i =>
    match s.entry t i with
    | some e =>
      if e.action == Act.quiet then some (e.op 16 1, 2 ^ 24 * s.rd (F.SCHED_STEP_STEP t) + e.deadline) else none
    | none => none)

/-- Whether a part may start on a terrace now: it ends before the window's DEADLINE_PHASE, and a window that opens after the
request's DEADLINE is none of its windows (R89, R361). Details: DEDUCED, log entry 82. -/
def State.partFits (s : State) (t : Nat) (r : AgeReq) : Bool :=
  if !bit s.jobMask t then true
  else match s.quietWindow t with
    | some (mask, fin) =>
      bit mask r.cls && s.now + s.nsToPhase r.duration < fin && (r.deadline = 0 || s.now < r.deadline)
    | none => false

/-- Start the first queued part, in submission order, that fits on a terrace without a running part.
Details: DEDUCED, log entry 82. -/
def startFirst (s : State) (t : Nat) : List AgeReq → List AgeReq
  | [] => []
  | r :: rs =>
    if r.left.contains t && s.partFits t r then
      { r with left := r.left.filter (· != t), running := r.running ++ [t] } :: rs
    else r :: startFirst s t rs

/-- Start queued parts on a terrace (R387); the terrace is brought to ON (R99). Details: DEDUCED, log entry 82. -/
def State.startParts (s : State) (t : Nat) : State :=
  if s.age.queue.any (·.running.contains t) then s
  else ((s.setQueue (startFirst s t s.age.queue)).settlePower t).showAge

/-- The RETENTION and EYE records of a survey, from the background measurements; a device never swept and a port never sampled
have none (R385, R388). Details: DEDUCED, log entry 82. -/
def State.backgroundRecords (s : State) (mask kinds : Nat) : List Bytes :=
  let ts := terraces mask
  let devs := ((List.range 8).filter (fun k => ts.any (fun t => t / 2 = k))) ++ ts.map (8 + ·)
  let stamp := fun (r : Bytes) (time : Nat) => patch r 8 (natLE 8 time)
  let ret := devs.filterMap (fun m => (mfind s.age.retAt m).map (fun (time, temp) =>
    stamp (s.ageRecord 2 m temp (natLE 4 (s.rd (F.AGE_MEM_RET_MS m)))) time))
  let eye := (List.range 10).filterMap (fun p => (mfind s.age.eyeAt p).map (fun (time, temp) =>
    stamp (s.ageRecord 3 p temp ((List.range 8).flatMap (fun l =>
      let (h, w) := mget s.age.eyes (p * 8 + l) (0, 0)
      natLE 1 h ++ natLE 1 w))) time))
  (if bit kinds 1 then ret else []) ++ (if bit kinds 2 then eye else [])

/-- Values of a survey's records for the forecast. -/
def State.surveyValues (s : State) (mask kinds : Nat) (paths : List (Nat × Bytes)) : State :=
  let s := paths.foldl (fun s r => s.ageValue 1 r.1 (signed 16 (fld r.2 16 2))) s
  let ts := terraces mask
  let devs := ((List.range 8).filter (fun k => ts.any (fun t => t / 2 = k))) ++ ts.map (8 + ·)
  let s := if bit kinds 1 then devs.foldl (fun s m => s.ageValue 2 m (s.rd (F.AGE_MEM_RET_MS m))) s else s
  if bit kinds 2 then
    (List.range 48).foldl (fun s k =>
      match mfind s.age.eyes k with
      | some (h, _) => s.ageValue 3 k h
      | none => s) s
  else s

/-- A request whose parts have all ended, or whose deadline passed, completes (R387, R388). -/
def State.finishReqAge (s : State) (r : AgeReq) : State :=
  let late := r.expired != 0
  let recs := (r.recs.map (·.2)) ++ (if r.selfTest || late then [] else s.backgroundRecords r.mask r.kinds)
  let result := if late then [] else sha3_256 recs.flatten
  let s := recs.foldl (fun s b => s.keepAppend 3 b) s
  if r.calibration then s.showAge
  else
    let s := if r.selfTest then
        (if late then s else s.ageLog 8 0 0 (natLE 2 r.failing ++ natLE 2 r.level))
      else if late then s.surveyValues r.mask 0 r.recs
      else (s.ev F.AGE_EVENTS_SURVEY_DONE).surveyValues r.mask r.kinds r.recs
    let s := if r.selfTest && r.failing != 0 then s.ev F.AGE_EVENTS_SELFTEST_FAIL else s
    let s := if late then s.ev F.AGE_EVENTS_NO_WINDOW else s
    let s := s.showAge
    let s := match r.handle with
      | some h =>
        if late then s.complete h St.noWindow r.expired []
        else if r.selfTest then s.complete h St.ok r.failing [] else s.complete h St.ok 0 result
      | none => s
    if r.selfTest then s else s.forecast

/-- Complete every request with nothing left to run. Details: DEDUCED, log entry 82. -/
def State.finishReqs (s : State) : State :=
  let fin := fun (r : AgeReq) => r.left.isEmpty && r.running.isEmpty
  let done := s.age.queue.filter fin
  done.foldl (fun s r => s.finishReqAge r) (s.setQueue (s.age.queue.filter (fun r => !fin r)))

/-- Queue a request: refused when 64 wait; its parts start where they may at once (R385, R387).
Details: DEDUCED, log entry 82. -/
def State.queueAge (s : State) (q : Sub) (mk : Nat → AgeReq) : State :=
  if 64 ≤ (s.age.queue.filter (·.handle.isSome)).length then
    (s.ev F.AGE_EVENTS_QUEUE_FULL).refuse q St.busy
  else
    let r := mk 0
    let waits := r.left.any (fun t => bit s.jobMask t)
    let (s, h) := s.acceptAs q (if waits then St.noWindowYet else St.accepted)
    let s := s.setQueue (s.age.queue ++ [mk h])
    (forEach r.left s (fun t s => s.startParts t)).finishReqs.showAge

/-- MARGIN_SURVEY (R385). Details: DEDUCED, log entry 82. -/
def execMarginSurvey (s : State) : Out :=
  s.withSub Op.marginSurvey (fun _ => true) (fun q s =>
    let mask := q.p 0 2
    let kinds := q.p 2 1
    if kinds > 7 then s.refuse q St.badParam
    else
      let ts := if bit kinds 0 then (terraces mask).filter (fun t => !bit (s.rd F.AGE_STATUS_RETIRED) t) else []
      s.queueAge q (fun h => ⟨some h, false, kinds, 0, ts, [], mask, q.deadline, [], 0, 0, false⟩))

/-- SELF_TEST (R385). Details: DEDUCED, log entry 82. -/
def execSelfTest (s : State) : Out :=
  s.withSub Op.selfTest (fun _ => true) (fun q s =>
    let mask := q.p 0 2
    if q.p 2 1 > 1 then s.refuse q St.badParam
    else
      let ts := (terraces mask).filter (fun t => !bit (s.rd F.AGE_STATUS_RETIRED) t)
      s.queueAge q (fun h => ⟨some h, true, 0, q.p 2 1, ts, [], mask, q.deadline, [], 0, 0, false⟩))

/-- Every 2²⁰ steps the node queues a calibration, unless one still waits (R385). Details: DEDUCED, log entry 82. -/
def State.calibrate (s : State) (step : Nat) : State :=
  if step % 2 ^ 20 != 0 || s.age.queue.any (·.calibration) then s
  else
    let ts := (List.range 16).filter (fun t => !bit (s.rd F.AGE_STATUS_RETIRED) t)
    let s := s.setQueue (s.age.queue ++ [⟨none, false, 0, 0, ts, [], 0xFFFF, 0, [], 0, 0, true⟩])
    forEach ts s (fun t s => s.startParts t)

/-- JOB_ADMIT completes once the parts running on its terraces have ended: the terraces come to ON and run (R369, steps 4
to 6; R387). Details: DEDUCED, log entry 82. -/
def State.admitFinish (s : State) : State :=
  match s.job with
  | none => s
  | some j =>
    match j.admitting with
    | none => s
    | some (h, cached, digest) =>
      let ts := terraces j.mask
      if s.age.queue.any (fun r => r.running.any (fun t => ts.contains t)) then s
      else
        let s := { s with job := some { j with admitting := none }, ckpt := { s.ckpt with seq := 0 } }
        let s := forEach ts s (fun t s =>
          let s := (s.wrBit F.NODE_TERRACE_PWR_OFF_REQ t false).setPower t 2
          let s := (s.wrReg (R.SCHED_TALLY t) 0).wr (F.SCHED_STATUS_STATE t) 1
          s.setTr t { s.tr t with resumeStep := none, inStep := false, entries := [], ranStep := none, haltPending := false, haltStatus := 0, waitBoundary := false })
        let s := (s.wr F.NODE_GATE_SLOTS_MIN 64).wr F.NODE_POWER_PEAK_INPUT_W 0
        let s := forEach (List.range 24) s (fun e s =>
          s.wr (F.FAB_RAE_OUT_PEAK e) ((s.fab.reqs.filter (fun r => r.engine == e)).length))
        s.complete h St.ok (b2n cached) digest

/-- SURVEY_PART_END: the running part of a terrace ends with what it measured: MARGIN_MV at 1,100 MHz and at the Rate
maximum, RO_KHZ, the worst replica, the die temperature, and whether a unit failed (R383, R388).
Details: DEDUCED, log entry 82. -/
def execSurveyPartEnd (t : Fin 16) (m1 mRate : BitVec 16) (ro : BitVec 32) (worst : Fin 16) (temp : BitVec 16)
    (failing : Bool) (s : State) : Out :=
  match s.age.queue.find? (·.running.contains t.val) with
  | none => ok s
  | some r =>
    let path := !r.selfTest && !r.calibration
    let rcd := s.ageRecord 1 t temp.toNat (natLE 2 m1.toNat ++ natLE 2 mRate.toNat ++ natLE 4 ro.toNat ++ natLE 1 worst)
    let upd := fun (x : AgeReq) =>
      if !x.running.contains t.val then x
      else { x with
        running := x.running.filter (· != t.val)
        recs := if path then mput x.recs t rcd else x.recs
        failing := if x.selfTest && failing then setBit x.failing t true else x.failing }
    let s := s.setQueue (s.age.queue.map upd)
    let s := if path then s.wr (F.AGE_TERRACE_MARGIN_MV t) m1.toNat else s
    ok ((s.settlePower t).finishReqs.startParts t).showAge.admitFinish

/-- SURVEY_DEADLINE: the deadline of a request passes; the parts not started are not run (R387).
Details: DEDUCED, log entry 82. -/
def execSurveyDeadline (handle : Nat) (s : State) : Out :=
  match s.age.queue.find? (fun r => r.handle == some handle) with
  | none => ok s
  | some r =>
    if r.deadline = 0 || r.left.isEmpty then ok s
    else
      match s.reach r.deadline with
      | none => ok s
      | some s =>
        let upd := fun (x : AgeReq) =>
          if x.handle == some handle then { x with expired := x.expired ||| maskOf x.left, left := [] } else x
        ok (s.setQueue (s.age.queue.map upd)).finishReqs.showAge

/-- A terrace compute reset aborts its running part and queues it again (R387). Details: DEDUCED, log entry 82. -/
def State.ageAbort (s : State) (t : Nat) : State :=
  let upd := fun (x : AgeReq) =>
    if x.running.contains t then { x with running := x.running.filter (· != t), left := sinsert x.left t } else x
  (s.setQueue (s.age.queue.map upd)).showAge

/-! ## Monitors (R383, R384, R242) -/

/-- RETENTION_SWEEP_COMPLETE: stack m (0–7) or package m − 8. -/
def execRetentionSweepComplete (m : Fin 24) (ms : BitVec 32) (temp : BitVec 16) (s : State) : Out :=
  ok ({ s with age := { s.age with retAt := mput s.age.retAt m (s.now, temp.toNat) } }.wr (F.AGE_MEM_RET_MS m) ms.toNat)

/-- The lane of least height among the lanes in use. -/
def worstLane : List (Nat × Nat) → Nat × Nat → Nat × Nat
  | [], b => b
  | x :: xs, b => worstLane xs (if x.2 < b.2 then x else b)

/-- EYE_MONITOR_SAMPLE: heights and widths of a port's lanes; only an UP port is sampled. -/
def execEyeMonitorSample (p : Fin 10) (heights widths : Bytes) (temp : BitVec 16) (s : State) : Out :=
  if s.portState p != Port.up then ok s
  else
    let lanes := bitList (s.rd (F.PORT_STATUS_LANES_TRAINED p)) 8
    let h := fun (l : Nat) => fld heights l 1
    let w := fun (l : Nat) => fld widths l 1
    let s := { s with age := { s.age with
      eyes := lanes.foldl (fun m l => mput m (p * 8 + l) (h l, w l)) s.age.eyes
      eyeAt := mput s.age.eyeAt p (s.now, temp.toNat) } }
    match lanes with
    | [] => ok s
    | l0 :: _ =>
      let (wl, mh) := worstLane (lanes.map (fun l => (l, h l))) (l0, h l0)
      let mw := (lanes.map w).foldl min (w l0)
      ok (((s.wr (F.AGE_EYE_MIN_HEIGHT_MV p) mh).wr (F.AGE_EYE_MIN_WIDTH p) mw).wr (F.AGE_EYE_WORST_LANE p) wl)

/-- A scrub pass ends: it is counted, and one ECC record per device is logged (R242, R383).
Details: DEDUCED, log entry 65. -/
def State.scrubPass (s : State) : State :=
  let s := s.inc F.MEM_ECC_COUNTS_SCRUB_PASSES
  let e := s.keep.ecc
  let s := { s with keep := { s.keep with ecc := [] } }
  forEach (List.range 24) s (fun d s =>
    let (c, p) := mget e d (0, 0)
    let temp := if d < 8 then s.rd (F.MEM_STACK_TEMP_C d) else s.rd (F.MEM_PKG_TEMP_C (d - 8))
    s.ageLog 4 d (temp * 16) (natLE 4 (min c (2 ^ 32 - 1)) ++ natLE 2 (min p 65535)))

/-- SCRUB_ACCESS: the scrub reads one line; `last` says that it ends a pass (R242). Details: DEDUCED, log entry 65. -/
def execScrubAccess (line : Nat) (find : ScrubFind) (last : Bool) (s : State) : Out :=
  if !s.flag F.MEM_SCRUB_ENABLE || line % 64 != 0 || !inTiers line 64 then ok s
  else
    let s := match find with
      | .clean => s
      | .corrected die =>
        (((s.inc F.MEM_ECC_COUNTS_CORRECTED).ev F.MEM_EVENTS_CORRECTED).memError line die false).eccNote line false
      | .uncorrected die =>
        let s := ((s.inc F.MEM_ECC_COUNTS_POISONED_LINES).ev F.MEM_EVENTS_POISONED).ev F.MEM_EVENTS_SCRUB_POISON
        ((s.memError line die true).setPoison (wordsOf line 64)).eccNote line true
    ok (if last then s.scrubPass else s)

/-- READ_AGEING_LOG (R384): bytes 0 to 47 of record INDEX, 0 the newest. -/
def execReadAgeingLog (s : State) : Out :=
  s.withSub Op.readAgeingLog (fun _ => true) (fun q s =>
    if s.keep.damaged.contains 3 then s.short q St.digestMismatch []
    else match (s.region 3).recs[q.p 0 4]? with
    | some (_, r) => s.short q St.ok (r.take 48)
    | none => s.short q St.badParam [])

/-! ## Replanning (R391, R392) -/

/-- Round up to a multiple of 5 mV and hold to 0–60. Details: DESIGN CHOICE, log entry 83. -/
def offset5 (mv : Int) : Nat := min 60 (((mv + 4) / 5 * 5).toNat)

/-- MAX_MHZ from the margin at 1,100 MHz. Details: DESIGN CHOICE, log entry 83. -/
def replanMax (m1 : Int) : Nat :=
  let ks := (List.range ((Config.rateMaxMhz - 1100) / 10 + 1)).filter (fun (k : Nat) =>
    (30 : Int) ≤ m1 + 60 - (Config.slope : Int) * (k : Int))
  match ks.getLast? with
  | some k => 1100 + 10 * k
  | none => 0

/-- The newest record of a kind for a unit in the ageing log, unless the region is DAMAGED (R384, R391). -/
def State.newestRecord (s : State) (kind unit : Nat) : Option Bytes :=
  if s.keep.damaged.contains 3 then none
  else ((s.region 3).recs.find? (fun x => fld x.2 4 1 == kind && fld x.2 5 1 == unit)).map (·.2)

/-- MARGIN_MV at 1,100 MHz and RO_KHZ of a terrace's newest PATH record. -/
def State.newestPath (s : State) (t : Nat) : Option (Int × Nat) :=
  (s.newestRecord 1 t).map (fun r => (signed 16 (fld r 16 2), fld r 20 4))

/-- The plan MARGIN_REPLAN builds from the newest records (R391). APPLY_STEP is not known when the plan is stored.
Details: DESIGN CHOICE, log entry 83. -/
def State.buildPlan (s : State) : Bytes :=
  let p := s.age.plan
  let volt := fun (i : Nat) =>
    let t := i / 3
    match s.newestPath t with
    | none => plVolt p t (i % 3)
    | some (m1, _) =>
      if i % 3 = 0 then offset5 (30 - (m1 - (Config.slope : Int) * (((replanMax m1 - 1100) / 10 : Nat) : Int)))
      else offset5 (30 - m1)
  let max := fun (t : Nat) => match s.newestPath t with | none => plMax p t | some (m1, _) => replanMax m1
  let refresh := fun (m : Nat) =>
    match s.newestRecord 2 m with
    | none => plRefresh p m
    | some b =>
      let r := fld b 16 4
      if 128 ≤ r then 3900 else Nat.max 975 (3900 * r / 128 / 10 * 10)
  let eq := fun (l : Nat) => match mfind s.age.presets l with | some e => e | none => plEq p l
  let oos := fun (n : Nat) => maskOf ((List.range 8).filter (fun l =>
    match s.newestRecord 3 n with
    | some r => if fld r (16 + 2 * l) 2 = 0 then bit (plOos p n) l else fld r (16 + 2 * l) 1 < 12
    | none => bit (plOos p n) l))
  let ros := (List.range 16).filterMap (fun t => (s.newestPath t).map (fun x => (t, x.2)))
  let meas := (ros.map (·.2)).foldl (· + ·) 0
  let fus := (ros.map (fun x => Config.roFused x.1)).foldl (· + ·) 0
  let static := fun (k : Nat) =>
    let v := fld p (1056 + 4 * k) 4
    if fus = 0 then v else min (2 ^ 32 - 1) (v * meas / fus)
  mkPlan 1 (plSeq p + 1) (s.free 1 (2 ^ 40)) volt max refresh eq oos (fun c => fld p (864 + 4 * c) 4) static

/-- Details: DESIGN CHOICE, log entry 83. -/
def State.setReplan (s : State) (r : Option Replan) : State :=
  { s with age := { s.age with replan := r } }.wr F.AGE_STATUS_REPLANNING (b2n r.isSome)

/-- The next port of a replan retrains; a port whose drain R283 would refuse is skipped; after the last one the command
completes (R392). -/
def replanPorts : Nat → State → State
  | 0, s => s
  | n + 1, s =>
    match s.age.replan with
    | none => s
    | some r =>
      match r.ports with
      | [] =>
        let s := s.setReplan none
        s.complete r.handle r.status (r.step.getD 0) (plDigest r.plan)
      | p :: ps =>
        if s.portState p == Port.up && !s.drainRefused p && !s.portBusy p then s.startDrain p .retrain none
        else replanPorts n (s.setReplan (some { r with ports := ps }))

/-- Training of a port ended: a replan that waits for it goes on. Details: DESIGN CHOICE, log entry 83. -/
def State.replanPort (s : State) (p : Nat) : State :=
  match s.age.replan with
  | some r =>
    if r.applied && r.ports.head? == some p then replanPorts 11 (s.setReplan (some { r with ports := r.ports.drop 1 }))
    else s
  | none => s

/-- The plan of a replan is applied at a step. Details: DESIGN CHOICE, log entry 83. -/
def State.replanApply (s : State) (r : Replan) (step : Nat) : State :=
  let old := s.age.plan
  let changed := (List.range 10).filter (fun n => (List.range 8).any (fun l =>
    plEq old (n * 8 + l) != plEq r.plan (n * 8 + l)))
  let s := s.applyPlan r.plan
  let ports := if s.admitted then [] else changed
  replanPorts 11 (s.setReplan (some { r with applied := true, step := some step, ports := ports }))

/-- The plan is stored, or its region is worn: it applies at once, or at the first boundary at least 10 µs later.
Details: DESIGN CHOICE, log entry 83. -/
def State.replanStored (s : State) : State :=
  match s.age.replan with
  | none => s
  | some r =>
    if s.admitted then s.setReplan (some { r with step := some s.boundStep })
    else s.replanApply r s.step

/-- MARGIN_REPLAN (R391, R392). Details: DESIGN CHOICE, log entry 83. -/
def execMarginReplan (s : State) : Out :=
  s.withSub Op.marginReplan (fun _ => true) (fun q s =>
    if s.age.replan.isSome || s.removable then s.refuse q St.busy
    else
      let (s, h) := s.accept q
      let plan := s.buildPlan
      if s.isWorn 2 then (s.setReplan (some ⟨h, plan, none, false, [], St.keepWorn⟩)).replanStored
      else ((s.setReplan (some ⟨h, plan, none, false, [], St.ok⟩)).keepPut 2 plan (.replan h)).keepStart)

/-- A stored plan applies at its boundary (R392). Details: DESIGN CHOICE, log entry 83. -/
def State.replanBoundary (s : State) (step : Nat) : State :=
  match s.age.replan with
  | some r =>
    (match r.step with
     | some b => if !r.applied && b ≤ step then s.replanApply r step else s
     | none => s)
  | none => s

/-! ## Counters (R375) -/

/-- Power-on time reaches a number of seconds. Details: DEDUCED, log entry 84. -/
def State.powerOn (s : State) (sec : Nat) : State :=
  { s with keep := { s.keep with powerOnS := max s.keep.powerOnS sec } }.showCounters

/-- COUNTER_RECORD_TIMER: every 900 s of power-on time. Details: DEDUCED, log entry 84. -/
def execCounterRecordTimer (sec : BitVec 32) (s : State) : Out :=
  if sec.toNat < s.keep.lastCounter + 900 then ok s else ok (s.powerOn sec.toNat).counterRecord

/-- COUNTER_FOLD: every 1,000 hours of power-on time the counter set goes to the Counters region.
Details: DEDUCED, log entry 84. -/
def execCounterFold (sec : BitVec 32) (s : State) : Out :=
  if sec.toNat < s.keep.lastFold + 3600000 then ok s
  else
    let s := s.powerOn sec.toNat
    ok ({ s with keep := { s.keep with lastFold := sec.toNat } }.keepAppend 8 s.foldData)

end Sys2Proof.Machine
end

