-- ==== Sys2Proof/Machine/Actions.lean ====
section
/-! DEFINITION. The sequencer's entries (chapter 4): what is read and checked as an entry fires, the start of each action,
completion, deadlines, fields, and the end of a step. -/

namespace Sys2Proof.Machine

open Sys2Proof

/-! ## Firing (R76, R78) -/

/-- The checks of a tensor descriptor's own contents, true when it must be refused; what depends on sealed contexts is
checked as the engine takes it (R132, R76). Details: DEDUCED, log entry 39. -/
def tnStatic (d : Bytes) : Bool :=
  let op := tnOp d
  op == 0 || op > 6 || tnReserved d || (op ≤ 4 && (!tnCombo d || tnCMode d == 3 || tnShape d || tnLayout d))
    || (op == 5 && (tnOff d 3 % 64 != 0 || fld d 88 4 < 64 || fld d 88 4 > 1048576 || fld d 88 4 % 64 != 0
      || !inPad ((tnOff d 3 : Int), ((tnOff d 3 + fld d 88 4 : Nat) : Int))))

/-- Read a structure of n bytes at a node-local address: BAD_PARAM or POISON_CONSUMED, else its bytes (R76, R487).
Details: DEDUCED, log entry 98. -/
def State.readStruct (s : State) (a n : Nat) : Nat × Bytes :=
  if a % 64 != 0 || !s.backed a n then (St.badParam, [])
  else if s.poisoned a n then (St.poisonConsumed, []) else (St.ok, s.readBytes a n)

/-- Descriptors of the spires of an entry's mask: the first failing status in ascending spire index, and what was read. -/
def State.fireSpires (s : State) (e : Entry) (n : Nat) (bad : Bytes → Bool) : Nat × List (Nat × Bytes) :=
  let rd := (bitList e.spireMask 18).map (fun i =>
    let (st, d) := s.readStruct (e.addr + i * e.op 20 2) n
    (i, (if st == St.ok && bad d then St.badParam else st), d))
  match rd.find? (fun r => r.2.1 != St.ok) with
  | some r => (r.2.1, [])
  | none => (St.ok, rd.map (fun r => (r.1, r.2.2)))

/-- What a fired entry of terrace t reads, and the status of its checks (R29, R76, R203, R307, R487).
Details: DEDUCED, log entry 39. -/
def State.fireCheck (s : State) (t : Nat) (e : Entry) : Nat × List (Nat × Bytes) :=
  if e.action == Act.tensorRun then s.fireSpires e 128 tnStatic
  else if e.action == Act.move then s.fireSpires e 64 s.mvRejected
  else if e.action == Act.vectorProgram then (if s.backed e.addr 64 then St.ok else St.badParam, [])
  else if e.action == Act.solve then
    let (st, d) := s.readStruct e.addr 128
    if st != St.ok then (st, [])
    else if svRange d < 2 ^ 48 && svRange d % 64 = 0 && s.backed (svRange d) 128 && s.poisoned (svRange d) 128 then
      (St.poisonConsumed, [])
    else if !svUnusedZero d || !svShape d then (St.badParam, []) else (St.ok, [(0, d)])
  else if e.action == Act.collective then
    if e.op 17 1 == 2 && s.refusesV then (St.exactViolation, [])
    else
      let (st, d) := s.readStruct e.addr 64
      if st != St.ok then (st, [])
      else match (s.cslot (e.op 16 1 % 16)).live with
        | none => (St.badParam, [])
        | some b =>
          let st := s.cdCheck t b d (e.op 17 1)
          (st, if st == St.ok then [(0, d)] else [])
  else if e.action == Act.digest || e.action == Act.reflect then ((s.readExtents e.addr).1, [])
  else (St.ok, [])

/-- The extent list an entry read as it fired is kept as its bytes. -/
def extentBytes (es : List (Nat × Nat)) : Bytes := es.flatMap (fun e => natLE 8 e.1 ++ natLE 8 e.2)
def extentsOf (b : Bytes) : List (Nat × Nat) :=
  (List.range (b.length / 16)).map (fun i => (fld b (16 * i) 8, fld b (16 * i + 8) 8))

/-- The extents of a DIGEST are whole 8-byte words that are backed (R21, R417). -/
def State.digestOk (s : State) (es : List (Nat × Nat)) : Bool := es.all (fun e => s.backed e.1 e.2)

/-- The next entry of a terrace fires: what it names is read and checked, and it becomes pending or completes with the
status of the failed check (R29, R76, R78, R80). -/
def State.fireNext (s : State) (t : Nat) : State :=
  let i := s.rd (F.SCHED_STATUS_NEXT_ENTRY t)
  match s.entry t i with
  | none => s
  | some e =>
    let s := s.wr (F.SCHED_STATUS_NEXT_ENTRY t) (i + 1)
    let (st, snap) := s.fireCheck t e
    let isList := e.action == Act.reflect || e.action == Act.digest
    let (ls, es) := if isList then s.readExtents e.addr else (0, [])
    let st := if e.action == Act.digest && st == St.ok && !s.digestOk es then St.badParam else st
    let snap := if isList then [(0, extentBytes es)] else snap
    let s := s.setEs t i { EntryState.init with phase := .pending, source := i, snap := snap }
    let s := if e.action == Act.reflect then s.setTr t { s.tr t with reflectList := some (ls, es) } else s
    if st == St.ok then propagate 65536 s
    else
      let s := if st == St.exactViolation then s.ev F.NODE_PROFILE_EVENTS_EXACT_VIOL else s
      let s := if st == St.badParam then s.noteRefl e.addr 64 else s
      s.completeEntry t i st

/-- Whether the next entry of a terrace may fire: its phase has come in its own step, and step time is not held (R61). -/
def State.fireDue (s : State) (t : Nat) : Bool :=
  (s.tr t).inStep && !s.tb.held &&
    (match s.entry t (s.rd (F.SCHED_STATUS_NEXT_ENTRY t)) with
     | some e => 2 ^ 24 * s.rd (F.SCHED_STEP_STEP t) + e.firePhase ≤ s.now
     | none => false)

/-- A late entry fires; one whose deadline has passed as well ends unstarted (R61, R81). REFLECT, QUIET and RECORD_MARK
meet no deadline (Table 4.3), and END_STEP's is the boundary. -/
def State.fireLate (s : State) (t : Nat) : State :=
  let i := s.rd (F.SCHED_STATUS_NEXT_ENTRY t)
  let s := s.fireNext t
  match s.entry t i with
  | none => s
  | some e =>
    let exempt := [Act.reflect, Act.quiet, Act.recordMark, Act.endStep].contains e.action
    if !exempt && 2 ^ 24 * s.rd (F.SCHED_STEP_STEP t) + e.deadline < s.now && (s.es t i).phase == .pending then
      s.completeEntry t i St.deadlineMissed
    else s

/-- Fire at once, in table order, every entry whose phase has passed (R61, R83). -/
def fireAll (t : Nat) : Nat → State → State
  | 0, s => s
  | n + 1, s => if s.fireDue t then fireAll t n (s.fireLate t) else s

def State.firePassed (s : State) (t : Nat) : State := fireAll t 4096 s

/-- ENTRY_FIRE: step time reaches the FIRE_PHASE of the terrace's next entry; during a hold no entry fires (R61). -/
def execEntryFire (t : Fin 16) (s : State) : Out :=
  match s.entry t (s.rd (F.SCHED_STATUS_NEXT_ENTRY t)) with
  | none => ok s
  | some e =>
    if !(s.tr t).inStep || s.tb.held then ok s
    else match s.reach (2 ^ 24 * s.rd (F.SCHED_STEP_STEP t) + e.firePhase) with
      | some s => ok (s.fireNext t)
      | none => ok s

/-! ## Completion (R79, R81, R425) -/

/-- Core-issued work that waited for an entry's units goes on (R110, R111). -/
def State.releaseUnits (s : State) (t : Nat) : State :=
  forEach (spiresOf t) s (fun n s => ((s.retryIssue n).takeTensors n).takeMovers n)

/-- Hash engines held by DIGEST entries: those that run and no longer wait (R419). -/
def State.hashInUse (s : State) : Nat :=
  ((List.range 16).flatMap (fun t => (s.runningEntries t).filter (fun i =>
    (match s.entry t i with | some e => e.action == Act.digest | none => false)
      && !s.check.hashQueue.contains (t, i)))).length

/-- A hash engine hashes the extents of a DIGEST entry (R417). Details: DEDUCED, log entry 37. -/
def State.hashEntry (s : State) (t i : Nat) : State :=
  let es := extentsOf (mget (s.es t i).snap 0 [])
  if es.any (fun e => s.poisoned e.1 e.2) then s.entryReady t i St.poisonConsumed
  else
    let d := sha3_256 (es.flatMap (fun e => s.readBytes e.1 e.2))
    (s.setEs t i { s.es t i with digest := some d }).entryReady t i St.ok

/-- Requests that wait for a hash engine take free ones in order (R419). Details: DEDUCED, log entry 37. -/
def hashNext : Nat → State → State
  | 0, s => s
  | n + 1, s =>
    match s.check.hashQueue with
    | (t, i) :: r =>
      if s.hashInUse < 4 then
        hashNext n ({ s with check := { s.check with hashQueue := r } }.hashEntry t i)
      else s
    | [] => s

/-- A ready entry completes; a pair's entry completes once both members have completed it, and different statuses make the
pair diverge (R79, R425, Table 19.5). -/
def State.finishEntry (s : State) (t i : Nat) : State :=
  let x := s.es t i
  let st := x.outcome
  if !s.sealed then s.completeEntry t i st
  else
    let u := (t + 8) % 16
    let y := s.es u i
    if y.phase == .done then
      if y.status == st then s.completeEntry t i st else s.diverge (t % 8) 3 0 0
    else if y.phase == .running && y.ready then
      if y.outcome == st then
        propagate 65536 ((s.endEntry (t % 8) i st false i true).endEntry (t % 8 + 8) i st false i false)
      else s.diverge (t % 8) 3 0 0
    else s

/-- After an entry ended: units and hash engines serve what waited. -/
def State.afterEntry (s : State) (t : Nat) : State :=
  forEach (s.members t) (hashNext 4 s) (fun u s => s.releaseUnits u)

/-- ENTRY_COMPLETE: a running entry whose work is done completes with its status. -/
def execEntryComplete (t : Fin 16) (i : Fin 4096) (s : State) : Out :=
  let x := s.es t i
  if x.phase == .running && x.ready then ok ((s.finishEntry t i).afterEntry t) else ok s

/-! ## Deadlines (R81, Table 4.3) -/

/-- A spire core that runs a program stops, with everything it issued; the loads it waits for reach nobody (R81, R182). -/
def State.stopCore (s : State) (n : Nat) : State :=
  let s := (s.stopSv n).forget (fun w => match w with | .core k .. => k == n | _ => false)
  let core : Option DescRun → Bool := fun r => match r with | some d => d.owner.isNone | none => false
  let s := if core (s.sp n).tens then s.stopTensor n else s
  let s := if core (s.sp n).mover then s.stopMover n else s
  let x := s.sp n
  let s := s.setSp n { x with
    entry := none, wait := .none
    tq := x.tq.filter (fun (q : QDesc) => q.owner.isSome), mq := x.mq.filter (fun (q : QDesc) => q.owner.isSome) }
  (s.setCore n 0).showQueues n

/-- The unit of a running entry stops: the status the entry ends with, and the action detail of Table 4.9. -/
def State.stopEntry (s : State) (t i : Nat) (e : Entry) : State × Nat × Nat :=
  let x := s.es t i
  let left := (bitList x.left 18).map (fun k => 18 * t + k)
  let dm := St.deadlineMissed
  if e.action == Act.tensorRun then
    (forEach left s (fun n s =>
      let s := s.setSp n { s.sp n with tq := (s.sp n).tq.filter (fun (q : QDesc) => q.owner != some i) }
      if (s.sp n).tens.any (fun r => r.owner == some i) then s.stopTensor n else s.showQueues n), dm, x.left)
  else if e.action == Act.move then
    (forEach left s (fun n s =>
      let s := s.setSp n { s.sp n with mq := (s.sp n).mq.filter (fun (q : QDesc) => q.owner != some i) }
      if (s.sp n).mover.any (fun r => r.owner == some i) then s.stopMover n else s.showQueues n), dm, x.left)
  else if e.action == Act.vectorProgram then (forEach left s (fun n s => s.stopCore n), dm, x.left)
  else if e.action == Act.solve then
    let k := match mfind s.solver t with | some r => r.k | none => 0
    let (s, st) := s.stopSolver t
    (s, st, k)
  else if e.action == Act.collective then (s.collEntryDeadline t i, dm, 0)
  else if e.action == Act.fieldSend then
    (s.setSends (s.coll.sends.filter (fun f => !(f.terr == (if s.sealed then t % 8 else t) && f.entry == i))), dm, 0)
  else if e.action == Act.fieldWait then
    let k := (s.rd (F.SCHED_STEP_STEP t) - e.op 17 1) % 3
    (s, dm, s.rd (F.SCHED_FIELD_COUNT t (e.op 16 1 % 64) k))
  else if e.action == Act.digest then
    ({ s with check := { s.check with hashQueue := s.check.hashQueue.filter (fun h => h != (t, i)) } }.setEs t i
      { s.es t i with digest := none }, dm, 0)
  else if e.action == Act.quiet then (s, St.ok, 0)
  else (s, dm, 0)

/-- One incomplete entry meets its deadline. Details: DEDUCED, log entry 39. -/
def State.deadlineOne (s : State) (t i : Nat) (e : Entry) (sig : Bool) : State :=
  let x := s.es t i
  if x.phase == .pending then s.completeEntry t i St.deadlineMissed
  else if x.phase == .running then
    let (s, st, detail) := s.stopEntry t i e
    if (s.es t i).phase == .running then
      let s := s.setEs t i { s.es t i with detail := detail }
      propagate 65536 (s.endEntry t i st false i sig)
    else s
  else s

/-- ENTRY_DEADLINE: step time reaches the DEADLINE_PHASE of an incomplete entry; a completion seen by then counts as in
time. A DIGEST hashes until its ENTRY_COMPLETE, so one not completed yet has missed. Details: DEDUCED, log entry 39. -/
def execEntryDeadline (t : Fin 16) (i : Fin 4096) (s : State) : Out :=
  match s.entry t i with
  | none => ok s
  | some e =>
    let x := s.es t i
    if !(s.tr t).inStep || e.action == Act.endStep || !(x.phase == .pending || x.phase == .running) then ok s
    else match s.reach (2 ^ 24 * s.rd (F.SCHED_STEP_STEP t) + e.deadline) with
      | none => ok s
      | some s =>
        let ready := fun (u : Nat) => (s.es u i).phase == .done ||
          ((s.es u i).phase == .running && (s.es u i).ready && e.action != Act.digest)
        if (s.members t).all ready then ok ((s.finishEntry t i).afterEntry t)
        else
          ok ((forEach (s.members t) s (fun u s => s.deadlineOne u i e (u == t % 8 || !s.sealed))).afterEntry t)

/-! ## Starting actions (R75, R76, R86–R89, R106, R204, R298, R419) -/

/-- Start a startable entry of an action: the state after it holds its units. Details: DEDUCED, log entry 39. -/
def State.starting (s : State) (t i action : Nat) (f : Entry → State → State) : Out :=
  match s.entry t i with
  | none => ok s
  | some e => if e.action == action && s.startable t i then ok (f e (s.startEntry t i)) else ok s

/-- Issue an entry's descriptors to the engines of its spires. -/
def State.issueSpires (s : State) (t i : Nat) (e : Entry) (mover : Bool) : State :=
  let x := s.es t i
  let s := s.setEs t i { x with left := e.spireMask }
  forEach (bitList e.spireMask 18) s (fun k s =>
    let n := 18 * t + k
    let s := s.pushDesc n mover (e.addr + k * e.op 20 2) (some i) (some (mget x.snap k []))
    if mover then s.takeMovers n else s.takeTensors n)

/-- Details: DEDUCED, log entry 39. -/
def execTensorRun (t : Fin 16) (i : Fin 4096) (s : State) : Out :=
  s.starting t i Act.tensorRun (fun e s => s.issueSpires t i e false)

/-- Details: DEDUCED, log entry 39. -/
def execMove (t : Fin 16) (i : Fin 4096) (s : State) : Out :=
  s.starting t i Act.move (fun e s => s.issueSpires t i e true)

/-- A spire core starts a program: the registers of R106, no completions counted (R109), the short-vector unit as it is
at the start of a program (R171). -/
def State.startCore (s : State) (t i k : Nat) (e : Entry) : State :=
  let n := 18 * t + k
  let x := s.sp n
  let w : Nat → Word := fun v => BitVec.ofNat 64 v
  let s := s.setSp n { x with
    pc := w e.addr
    x := [(10, w (e.op 20 4)), (11, w k), (12, w n), (13, w (s.rd (F.SCHED_STEP_STEP t))), (14, w e.tag)]
    mtvec := 0, entry := some i, wait := .none, icacheValid := false, ended := false, partStatus := St.ok
    doneT := 0, doneM := 0, failT := 0, failM := 0 }
  (s.resetVec n).setCore n 1

/-- Details: DEDUCED, log entry 39. -/
def execVectorProgram (t : Fin 16) (i : Fin 4096) (s : State) : Out :=
  s.starting t i Act.vectorProgram (fun e s =>
    let s := s.setEs t i { s.es t i with left := e.spireMask }
    forEach (bitList e.spireMask 18) s (fun k s => s.startCore t i k e))

/-- SOLVE entry: the engine accepts the descriptor read at the fire, with the entry's deadline (R203, R204). -/
def execSolveEntry (t : Fin 16) (i : Fin 4096) (s : State) : Out :=
  s.starting t i Act.solve (fun e s =>
    let d := mget (s.es t i).snap 0 []
    let (s, st) := s.solveStart t e.addr d false (some i) none (2 ^ 24 * s.rd (F.SCHED_STEP_STEP t) + e.deadline)
    if st == 0 then s else s.entryReady t i st)

def execCollective (t : Fin 16) (i : Fin 4096) (s : State) : Out :=
  s.starting t i Act.collective (fun e s =>
    let g := e.op 16 1 % 16
    match (s.cslot g).live with
    | some b => s.collQueue g t i (mget (s.es t i).snap 0 []) b
    | none => s.entryReady t i St.badParam)

/-- The chunks of a field: 64 KiB each, KIND FIELD, with their poison masks (R86, R308, R319).
Details: DEDUCED, log entry 38. -/
def State.fieldChunks (s : State) (f : FieldMap) (src len stamp origin : Nat) : List CChunk :=
  (List.range ((len + 0xFFFF) / 0x10000)).map (fun k =>
    let n := min 0x10000 (len - 0x10000 * k)
    let a := src + 0x10000 * k
    let words := (List.range (n / 8)).filter (fun j => s.poisonAt (a + 8 * j))
    let mask := natLE ((n + 63) / 64) (maskOf words)
    CChunk.mk k (chunkMsg 1 f.destTerrace 0 0 f.destSlot stamp 0 k n origin (s.readBytes a n ++ mask)) none 0 0)

/-- FIELD_SEND: the copy starts; the fields of a pair are sent once, when both members have started (R86, R424).
Details: DEDUCED, log entry 38. -/
def execFieldSend (t : Fin 16) (i : Fin 4096) (s : State) : Out :=
  s.starting t i Act.fieldSend (fun e s =>
    let ready := (s.members t).all (fun u => (s.es u i).phase == .running)
    match (s.liveBank t).fields[e.op 16 1 % 64]? with
    | none => s.entryReady t i St.badParam
    | some f =>
      if !ready then s
      else
        let u := s.rd (F.SCHED_STEP_STEP t)
        let base := f.dstBase + u % f.nbuf * f.bufStride
        let terr := if s.sealed then t.val % 8 else t.val
        let cs := s.fieldChunks f e.addr (e.op 20 4) u (fieldOrigin terr i)
        let dest := match s.target base with
          | .pond n _ => n
          | .weir n _ => n
          | _ => s.nodeId
        let send : FieldSend := ⟨terr, i, dest, f.destTerrace, f.destSlot, u, base % 2 ^ 48,
          cs.length, [], cs, []⟩
        let (send, s) := pumpField 8 send s
        s.setSends (s.coll.sends ++ [send]))

/-- The running FIELD_WAITs of a terrace test their slots (R88). Details: DEDUCED, log entry 38. -/
def State.testFields (s : State) (t : Nat) : State :=
  forEach (s.runningEntries t) s (fun i s =>
    match s.entry t i with
    | some e =>
      if e.action == Act.fieldWait && !(s.es t i).ready then
        match s.fieldTest t e with
        | some st =>
          let k := (s.rd (F.SCHED_STEP_STEP t) - e.op 17 1) % 3
          let s := s.setEs t i { s.es t i with detail := s.rd (F.SCHED_FIELD_COUNT t (e.op 16 1 % 64) k) }
          s.entryReady t i st
        | none => s
      else s
    | none => s)

/-- Details: DEDUCED, log entry 38. -/
def execFieldWait (t : Fin 16) (i : Fin 4096) (s : State) : Out :=
  s.starting t i Act.fieldWait (fun _ s => s.testFields t)

/-- REFLECT: the checkpoint-due test, and the entry completes at once. Details: DEDUCED, log entry 39. -/
def execReflect (t : Fin 16) (i : Fin 4096) (s : State) : Out :=
  s.starting t i Act.reflect (fun _ s =>
    ((s.reflect (s.rd (F.SCHED_STEP_STEP t))).entryReady t i St.ok).finishEntry t i)

/-- RECORD_MARK: one MARK record while recording is on, from the primary of a pair; the entry completes at once.
Details: DEDUCED, log entry 39. -/
def execRecordMark (t : Fin 16) (i : Fin 4096) (s : State) : Out :=
  s.starting t i Act.recordMark (fun e s =>
    let s := if s.sealed && 8 ≤ t.val then s
      else s.recordPut none 5 0 (natLE 1 t ++ zeros 1 ++ natLE 2 e.tag ++ natLE 4 (e.op 16 4) ++ zeros 8)
    (s.entryReady t i St.ok).finishEntry t i)

/-- DIGEST: the entry takes a free hash engine, or waits for one in order. Details: DEDUCED, log entry 39. -/
def execDigest (t : Fin 16) (i : Fin 4096) (s : State) : Out :=
  s.starting t i Act.digest (fun _ s =>
    hashNext 4 { s with check := { s.check with hashQueue := s.check.hashQueue ++ [(t.val, i.val)] } })

/-- QUIET: the window opens, and queued parts that fit start (R89, R387). Details: DEDUCED, log entry 39. -/
def execQuiet (t : Fin 16) (i : Fin 4096) (s : State) : Out :=
  s.starting t i Act.quiet (fun _ s => s.startParts t)

/-! ## BARRIER -/

/-- Whether a terrace has reached a barrier of an ID in a step: its entry of that ID has started.
Details: DEDUCED, log entry 39. -/
def State.reached (s : State) (u step id : Nat) : Bool :=
  s.rd (F.SCHED_STEP_STEP u) == step && (s.tr u).entries.any (fun (x : Nat × EntryState) =>
    x.2.started && (match s.entry u x.1 with
      | some e => e.action == Act.barrier && e.op 18 1 == id
      | none => false))

/-- Barriers whose named terraces, and whose group if they name one, have all reached them are met.
Details: DEDUCED, log entry 39. -/
def State.barriers (s : State) : State :=
  forEach (List.range 16) s (fun t s =>
    forEach (s.runningEntries t) s (fun i s =>
      match s.entry t i with
      | some e =>
        let named := (terraces (e.op 16 2)).flatMap s.members
        if e.action == Act.barrier && !(s.es t i).ready && (s.es t i).left == 0 &&
            named.all (fun u => s.reached u (s.rd (F.SCHED_STEP_STEP t)) (e.op 18 1))
        then s.entryReady t i St.ok else s
      | none => s))

/-- BARRIER: the entry starts; `group` says that every member of the named group has reached the barrier, now or later.
Details: DEDUCED, log entry 39. -/
def execBarrier (t : Fin 16) (i : Fin 4096) (group : Bool) (s : State) : Out :=
  match s.entry t i with
  | none => ok s
  | some e =>
    if e.action != Act.barrier then ok s
    else
      let g := e.op 19 1
      let starts := s.startable t i
      let s := if starts then
          let s := s.startEntry t i
          s.setEs t i { s.es t i with left := b2n (g != 0xFF) }
        else s
      let x := s.es t i
      if x.phase != .running then ok s
      else
        let met := group && (s.cslot (g % 16)).live.isSome
        ok (if met then s.setEs t i { x with left := 0 } else s).barriers

/-! ## END_STEP (R82, R83, R425) -/

/-- Whether END_STEP, entry i, waits on a counter that is FAILED: it never starts (R80). -/
def State.endFailed (s : State) (t i : Nat) : Bool :=
  (s.tr t).inStep && (s.es t i).phase == .pending && (match s.entry t i with | some e => s.waitFailed t e | none => false)

/-- END_STEP ends: with OK it publishes the digest; where its counter is FAILED it completes with the failure's status and
publishes none (R80, R82). The answer is the digest for the summary. Details: DEDUCED, log entry 37. -/
def State.endStep (s : State) (t i : Nat) : State × Bytes :=
  let sig := t < 8 || !s.sealed
  match s.endFailed t i, s.entry t i with
  | true, some e =>
    let (st, src) := s.waitSource t i e
    (propagate 65536 (s.endEntry t i st true src sig), [])
  | _, _ =>
    let d := s.stepDigest t
    let s := forEach [0, 1, 2, 3] (s.startEntry t i) (fun w s => s.wr (F.SCHED_LAST_DIGEST_BYTES t w) (fld d (8 * w) 8))
    (propagate 65536 (s.endEntry t i St.ok false i sig), d)

/-- END_STEP completes: digest published, summary written, and an overrunning terrace starts late or skips (R82,
R83). -/
def State.finishStep (s : State) (t i : Nat) : State :=
  let step := s.rd (F.SCHED_STEP_STEP t)
  let (s, d) := s.endStep t i
  let r := s.tr t
  let s := s.outcome t 0xFFFF 0 1 (if r.firstFail == 0 then St.ok else r.firstFail) 0
    (r.failCount % 2 ^ 16 + 2 ^ 16 * b2n r.unusable + 2 ^ 17 * b2n r.lateStart) d
  let s := s.setTr t { s.tr t with inStep := false, ranStep := some step }
  let s := s.wr (F.SCHED_STATUS_OVERRUNNING t) 0
  if s.step == step then s
  else if s.step == step + 1 then (s.startStep t (step + 1) true).firePassed t
  else forEach ((List.range (s.step - step)).map (fun k => step + 1 + k)) s (fun u s =>
    s.skipStep t u St.deadlineMissed)

/-- Whether END_STEP, entry i, may complete: it may start, or its counter is FAILED, and every other entry of the step has
completed. -/
def State.stepDone (s : State) (t i : Nat) : Bool :=
  (match s.entry t i with | some e => e.action == Act.endStep | none => false)
    && (s.startable t i || s.endFailed t i) && (s.liveBank t).entries.length == i + 1
    && (List.range i).all (fun j => (s.es t j).phase == .done)

/-- END_STEP: the step ends; a pair compares the status of every entry and its two step digests. -/
def execEndStep (t : Fin 16) (i : Fin 4096) (s : State) : Out :=
  if !(s.members t).all (fun u => s.stepDone u i) then ok s
  else
    let p := t.val % 8
    let statuses := fun (u : Nat) => (List.range i).map (fun j => (s.es u j).status)
    let s := if !s.sealed then s
      else if statuses p != statuses (p + 8) then s.diverge p 3 0 0
      else if s.stepDigest p != s.stepDigest (p + 8) then s.diverge p 4 0 0
      else s
    ok (forEach (s.members t) s (fun u s => s.finishStep u i))

/-! ## Fields that arrive (R87, R88, R319) -/

/-- Details: DEDUCED, log entry 38. -/
def State.setFields (s : State) (l : List FieldRx) : State := { s with coll := { s.coll with fields := l } }

/-- The slot entry of a stamp, fresh where it held another (R87). Details: DEDUCED, log entry 38. -/
def State.fieldEntry (s : State) (t slot u : Nat) : State :=
  let k := u % 3
  if s.flag (F.SCHED_FIELD_VALID t slot k) && s.rd (F.SCHED_FIELD_STEP t slot k) == u then s
  else
    (((s.wrReg (R.SCHED_FIELD t slot k) 0).wr (F.SCHED_FIELD_STEP t slot k) u).wr (F.SCHED_FIELD_VALID t slot k) 1)

/-- FIELD_CHUNK_ARRIVAL: a FIELD chunk p from a node, for address `addr`; `last` says that it is the field's last chunk.
It is written in place and checked; a failed check fetches it again, and the fourth makes the field unrecoverable.
Details: DEDUCED, log entry 38. -/
def execFieldChunkArrival (node : Fin 32768) (addr : Fin 281474976710656) (last : Bool) (p : Bytes) (s : State) : Out :=
  if fld p 0 1 != 1 then ok s
  else
    let t := fld p 1 1 % 16
    let slot := fld p 3 1 % 64
    let u := fld p 4 5
    let k := fld p 12 4
    let n := fld p 16 4 % 2 ^ 19
    let step := s.rd (F.SCHED_STEP_STEP t)
    let ts := s.members t
    if u + 1 < step || step + 1 < u then ok (forEach ts s (fun t s => s.ev (F.SCHED_EVENTS_FIELD_STALE t)))
    else if s.homeStatus addr n true != St.ok then ok (s.noteCtx addr n)
    else
      let held := s.flag (F.SCHED_FIELD_VALID t slot (u % 3)) && s.rd (F.SCHED_FIELD_STEP t slot (u % 3)) == u
      let s := forEach ts s (fun t s => s.fieldEntry t slot u)
      let key := node.val + 2 ^ 15 * (addr - 0x10000 * k)
      let same := fun (f : FieldRx) => f.terr == t && f.slot == slot && f.stamp == u && f.key == key
      let kept := s.coll.fields.filter (fun f =>
        !(f.terr == t && (f.stamp + 3 ≤ u || (f.slot == slot && f.stamp % 3 == u % 3 && (f.stamp != u || !held)))))
      let rx := match kept.find? same with
        | some f => f
        | none => ⟨t, slot, u, key, [], none, []⟩
      let others := kept.filter (fun f => !same f)
      let ack := fun (s : State) => s.sendLive .collective node [t] (chunkReply p 3 (fld p 20 3 % 2 ^ 17))
      if rx.got.contains k then ok (if chunkOk p then ack s else s)
      else
        let data := sub p 32 n
        let mask := fld p (32 + n) ((n + 63) / 64)
        let s := s.writeCells addr ((List.range n).map (fun j => (data.getD j 0, bit mask (j / 8))))
        if !chunkOk p then
          let c := mget rx.fails k 0 + 1
          let s := (s.sendLive .collective node [t] (chunkReply p 5 (fld p 20 3 % 2 ^ 17))).setFields
            (others ++ [{ rx with fails := mput rx.fails k c }])
          if 4 ≤ c then
            let s := (forEach ts s (fun t s => s.ev (F.SCHED_FIELD_FAILED t slot (u % 3)))).ev F.COLL_EVENTS_UNRECOVERABLE
            ok (forEach ts s (fun t s => s.testFields t))
          else ok s
        else
          let rx := { rx with got := sinsert rx.got k, total := if last then some (k + 1) else rx.total }
          let s := ((ack s).noteArrival (chunkSource node) addr 0 data).setFields (others ++ [rx])
          if rx.total == some rx.got.length then
            let s := forEach ts s (fun t s => s.inc (F.SCHED_FIELD_COUNT t slot (u % 3)))
            ok (forEach ts s (fun t s => s.testFields t))
          else ok s

end Sys2Proof.Machine
end

