-- ==== Sys2Proof/Machine/Train.lean ====
section
/-! DEFINITION. Training, drains, cables, latches and the service button: the port life cycle of chapters 12 and 21. -/

namespace Sys2Proof.Machine

open Sys2Proof

/-! ## Removal (R453–R455) -/

/-- The PANEL event (Table 16.6). Details: DEDUCED, log entry 73. -/
def State.panelEvent (s : State) (action port : Nat) : State := s.raiseEvent Ev.panel St.ok (action + port * 2 ^ 8) []

/-- The command that waits on a port ends: PORT_RELEASE with OK when the port is DRAINED, PORT_RETRAIN as R284. -/
def State.portDone (s : State) (p : Nat) : State :=
  match (s.pt p).handle with
  | none => s
  | some h =>
    let s := s.setPt p { s.pt p with handle := none }
    if s.cmd.longs.any (fun l => l.handle == h && l.opcode == Op.portRelease) then
      s.complete h (if s.portState p == Port.drained then St.ok else St.portDegraded) 0 []
    else s.retrainDone p h

/-- Training of a port stops and the port is DRAINED at once (R453, R456). -/
def State.stopTraining (s : State) (p : Nat) : State :=
  let s := s.setPt p { s.pt p with drain := .none }
  ((((s.portIdle p).setPort p Port.drained).ev (F.PORT_EVENTS_DRAINED p)).portDone p).replanPort p

/-- REQUEST is not 0: a removal is asked for. Details: DEDUCED, log entry 73. -/
def State.removalPending (s : State) : Bool := s.flag F.PANEL_STATUS_REQUEST

/-- Every condition of R454 holds. Details: DEDUCED, log entry 73. -/
def State.removalReady (s : State) : Bool :=
  !s.admitted && !s.ckptBusy && s.ckpt.due.isNone && s.rd F.NODE_REC_STATUS_STATE == 0 && s.keep.updates.isEmpty
    && s.keep.erasing.isEmpty && (match s.sec.staging with | some g => g.phase == 0 | none => true)
    && (List.range 10).all (fun p =>
      !(s.portState p == Port.up || s.portState p == Port.train || s.portState p == Port.draining))

/-- A pending request goes on: with no job admitted every port drains, and then the module is removable (R453, R454).
Details: DEDUCED, log entry 73. -/
def State.removalProceed (s : State) : State :=
  if s.rd F.PANEL_STATUS_REQUEST != 1 || s.admitted then s
  else
    let s := forEach (List.range 10) s (fun p s =>
      if s.portState p == Port.up then s.startDrain p .removal none
      else if s.portState p == Port.train then s.stopTraining p
      else s)
    if s.removalReady then (s.wr F.PANEL_STATUS_REQUEST 2).ev F.PANEL_EVENTS_REMOVABLE else s

/-- BUTTON_PRESS: a press shorter than 2 s takes effect at its release (R452, R453). Details: DEDUCED, log entry 73. -/
def execButtonPress (s : State) : Out :=
  if s.boot.failed then ok s
  else
  let s := s.inc F.PANEL_COUNTS_PRESSES
  if s.removalPending then ok s
  else
    let s := (s.wr F.PANEL_STATUS_REQUEST 1).ev F.PANEL_EVENTS_PRESS
    ok (s.panelEvent 0 0).removalProceed

/-- A port with a cable trains when it is enabled and not connected (R282). Details: DEDUCED, log entry 73. -/
def State.trainWaiting (s : State) (p : Nat) : State :=
  if s.flag (F.PORT_STATUS_ENABLED p) && (s.portState p == Port.wait || s.portState p == Port.down) then s.startTraining p
  else s

/-- A port whose drain `d` asked for returns to UP: from DRAINING at once, from DRAINED as UNDRAIN does.
Details: DEDUCED, log entry 73. -/
def State.drainBack (s : State) (p : Nat) (d : DrainFor) : State :=
  if s.portState p == Port.draining && (s.pt p).drain == d then
    ((s.setPt p { s.pt p with drain := .none }).setPort p Port.up).portDone p
  else s.undrain p

/-- BUTTON_CANCEL: a hold of 5 s ends a pending request (R452, R455). Details: DEDUCED, log entry 73. -/
def execButtonCancel (s : State) : Out :=
  if s.boot.failed then ok s
  else
  let s := s.inc F.PANEL_COUNTS_CANCELS
  if !s.removalPending then ok s
  else
    let s := s.panelEvent 1 0
    let s := (s.wr F.PANEL_STATUS_REQUEST 0).ev F.PANEL_EVENTS_CANCEL
    let s := forEach (List.range 10) s (fun p s => s.drainBack p .removal)
    let came := s.panel.arrived
    let s := { s with panel := { s.panel with arrived := [] } }
    ok (forEach came s (fun p s => s.trainWaiting p)).keepStart

/-! ## Training (R274, R275, R277) -/

/-- The lane groups of a mode as lane masks, the lowest-numbered first (Table 12.2, R273). -/
def laneGroups (p mode : Nat) : List Nat :=
  if p ≥ 8 then (if mode = 0 then [0x0F] else if mode = 1 then [0x03] else [])
  else if mode = 0 || mode = 2 then [0xFF]
  else if mode = 1 || mode = 4 then [0x0F, 0xF0]
  else [0x03, 0x0C, 0x30, 0xC0]

/-- Whether this end and its cable offer short-reach FEC (R277, R481): passive copper of 1.5 m or less that supports it.
Details: DEDUCED, log entry 72. -/
def State.shortReach (s : State) (p : Nat) : Bool :=
  p < 8 && !s.flag (F.PORT_STATUS_FEC_FORCE_STD p) && s.rd (F.PORT_CABLE_TYPE p) == 1
    && s.rd (F.PORT_CABLE_LENGTH_DM p) ≤ 15 && s.panel.short.contains p

/-- The mode and lanes a port trains in: the modes in ascending order up to MODE_FLOOR, and within one the lowest-numbered lane
group whose lanes are in service and all train; `trains` gives the lanes that train in each mode (R274).
Details: DEDUCED, log entry 72. -/
def State.trainMode (s : State) (p : Nat) (trains : List (Fin 256)) : Option (Nat × Nat) :=
  (List.range (s.rd (F.PORT_STATUS_MODE_FLOOR p) + 1)).findSome? (fun m =>
    let lanes := (trains.getD m 0).val &&& (255 - s.rd (F.PORT_STATUS_LANES_OOS p))
    ((laneGroups p m).find? (fun g => g &&& lanes == g)).map (fun g => (m, g)))

/-- Whether the partner is the one Table 12.1 requires. Details: DEDUCED, log entry 72. -/
def State.partnerOk (s : State) (p node port : Nat) (spine : Bool) : Bool :=
  if 8 ≤ p then true
  else if 6 ≤ p then spine
  else
    let sh := 6 - 3 * (p / 2)
    let c := bits s.nodeId sh 3
    !spine && node == setBits s.nodeId sh 3 (if p % 2 = 0 then c + 1 else c + 7) && port == setBit p 0 (p % 2 = 0)

/-- No mode trains: the port is DOWN (R274). -/
def State.portDown (s : State) (p : Nat) : State :=
  (((((s.portIdle p).setPort p Port.down).inc (F.PORT_COUNTS_DOWNS p)).ev (F.PORT_EVENTS_DOWN p)).ev
    F.FAB_EVENTS_PORT_DOWN).portEvent p St.targetDead

/-- A port trained in a mode, on its lanes, with a partner (R274, R275). Details: DEDUCED, log entry 72. -/
def State.portTrained (s : State) (p mode lanes : Nat) (fec : Bool) (node port : Nat) (spine : Bool) : State :=
  let s := ((s.wr (F.PORT_STATUS_MODE p) mode).wr (F.PORT_STATUS_DEGRADED p) (b2n (mode != 0))).wr
    (F.PORT_STATUS_LANES_TRAINED p) lanes
  let s := (s.wr (F.PORT_STATUS_FEC p) (b2n fec)).wrReg (R.PORT_FEC p) 0
  let good := s.partnerOk p node port spine
  let s := if p < 8 then
      s.wrReg (R.PORT_PARTNER p) (node + 2 ^ 16 * port + 2 ^ 20 + 2 ^ 21 * b2n (!good) + 2 ^ 22 * b2n spine)
    else s
  if !good then (((s.setPort p Port.held).ev (F.PORT_EVENTS_MISWIRED p)).ev F.FAB_EVENTS_MISWIRED).portEvent p St.portDegraded
  else
    let s := (s.setPort p Port.up).ev (F.PORT_EVENTS_TRAINED p)
    if mode = 0 then s else ((s.ev (F.PORT_EVENTS_DEGRADED p)).ev F.FAB_EVENTS_PORT_DEGRADED).portEvent p St.portDegraded

/-- What follows the end of training: the command that waits, the replan, the storage queue, a pending removal.
Details: DEDUCED, log entry 72. -/
def State.trainEnded (s : State) (p : Nat) : State :=
  let release := match (s.pt p).handle with
    | some h => s.cmd.longs.any (fun l => l.handle == h && l.opcode == Op.portRelease)
    | none => false
  let s := if release && s.portState p == Port.up then s.startDrain p .drain (s.pt p).handle else s.portDone p
  let s := s.replanPort p
  let s := if p ≥ 8 then s.storePump else s
  s.removalProceed

/-- PORT_TRAINING_END: the lanes that trained in each mode, the pre-FEC bit error ratio in units of 10⁻¹², whether the partner
offers short-reach FEC, its identity, and the preset of largest eye area of each lane. Short-reach FEC is selected when both ends
offer it and the ratio is at most 10⁻⁸, standard FEC in every other case (R274, R277). Details: DEDUCED, log entry 72. -/
def execPortTrainingEnd (p : Fin 10) (trains : List (Fin 256)) (ber : Nat) (offer : Bool) (node : Fin 32768)
    (port : Fin 16) (spine : Bool) (eq : Bytes) (s : State) : Out :=
  if s.portState p != Port.train then ok s
  else
    let u := s.setPt p { s.pt p with drain := .none }
    match s.trainMode p trains with
    | none => ok ((u.portDown p).trainEnded p)
    | some (m, lanes) =>
      let best := (List.range 8).foldl (fun l i => mput l (p * 8 + i) (sub eq (8 * i) 8)) u.age.presets
      let u := { u with age := { u.age with presets := best } }
      ok ((u.portTrained p m lanes (s.shortReach p && offer && ber ≤ 10000) node port spine).trainEnded p)

/-- PARTNER_SIGNAL: a port in WAIT with its cable trains (R280). Details: DEDUCED, log entry 72. -/
def execPartnerSignal (p : Fin 10) (s : State) : Out :=
  if s.portState p == Port.wait && s.flag (F.PORT_STATUS_ENABLED p) && s.flag (F.PORT_CABLE_PRESENT p)
      && !s.panel.unpowered.contains p.val && !s.removable then ok (s.startTraining p).removalProceed
  else ok s

/-- LINK_REPLAY_REQUEST: the partner asks for the frames from `seq` on (R278, R279). Details: DEDUCED, log entry 72. -/
def execLinkReplayRequest (p : Fin 10) (seq : Fin 4096) (s : State) : Out :=
  if !s.linked p then ok s else ok (s.replayFrom p seq).removalProceed

/-- PARTNER_SILENCE: nothing from the partner for 10 µs (R279). Details: DEDUCED, log entry 72. -/
def execPartnerSilence (p : Fin 10) (s : State) : Out :=
  if s.linked p then ok (s.relink p).removalProceed else ok s

/-- An unannounced loss: the port enters TRAIN at once, and the fault is logged (R282).
Details: DEDUCED, log entry 72. -/
def State.unannounced (s : State) (p : Nat) : State :=
  let s := if s.portState p == Port.train then s else s.relink p
  (s.ev (F.PORT_EVENTS_UNANNOUNCED_LOSS p)).ageLog 5 p 0 []

/-- LOSS_OF_SIGNAL: an UP port retrains at once and logs the loss; a port that drains or is drained retrains (R281,
R282). Details: DEDUCED, log entry 72. -/
def execLossOfSignal (p : Fin 10) (s : State) : Out :=
  let st := s.portState p
  if st == Port.up then ok (s.unannounced p).removalProceed
  else if st == Port.draining || st == Port.drained || st == Port.held then ok (s.relink p).removalProceed
  else ok s

/-- Whether a drain or a restore has commands in flight on storage port p: a drain of the port waits for them (R457). -/
def State.storeWaits (s : State) (p : Nat) : Bool :=
  (match s.ckpt.drain with | some d => d.inFlight.any (·.2 == p) | none => false)
    || (match s.ckpt.restore with | some r => r.inFlight.any (·.2 == p) | none => false)

/-- DRAIN_COMPLETE: no frame waits, the replay buffer is empty and the I/O queued on a storage port has ended; the drain ends as it was asked for (R281, R283, R284).
Details: DEDUCED, log entry 71. -/
def execDrainComplete (p : Fin 10) (s : State) : Out :=
  let x := s.pt p
  if s.portState p != Port.draining || !x.replay.isEmpty || !x.queue.isEmpty || s.storeWaits p then ok s
  else
    let s := (s.setPt p { x with drain := .none }).ev (F.PORT_EVENTS_DRAINED p)
    match x.drain with
    | .disable => ok (((s.portIdle p).setPort p Port.off).portDone p).removalProceed
    | .retrain =>
      let s := s.startTraining p
      ok (s.setPt p { s.pt p with drain := .retrain }).removalProceed
    | _ => ok ((s.setPort p Port.drained).portDone p).removalProceed

/-! ## Cables and latches (R456, R458, R481) -/

/-- PRESENT of a receptacle in both registers. -/
def State.setPresent (s : State) (p : Nat) (b : Bool) : State :=
  (s.wrBit F.PANEL_CABLES_PRESENT p b).wr (F.PORT_CABLE_PRESENT p) (b2n b)
/-- LATCH of a receptacle in both registers. -/
def State.setLatch (s : State) (p : Nat) (b : Bool) : State :=
  (s.wrBit F.PANEL_CABLES_LATCH p b).wr (F.PORT_CABLE_LATCH p) (b2n b)
def State.setWarned (s : State) (p : Nat) (b : Bool) : State := s.wrBit F.PANEL_CABLES_WARNED p b

/-- Whether receptacle p senses a cable, and its latch touched or pulled (Table 21.12). -/
def State.cablePresent (s : State) (p : Nat) : Bool := bit (s.rd F.PANEL_CABLES_PRESENT) p
def State.latched (s : State) (p : Nat) : Bool := bit (s.rd F.PANEL_CABLES_LATCH) p

/-- Cable memory as the node takes it (Table 22.6): TYPE, LENGTH_DM, SR_OK, and whether it may be powered.
Details: DEDUCED, log entry 73. -/
def State.readCable (s : State) (p : Nat) (m : Bytes) : State :=
  let good := fld m 0 2 == 0x4C43
  let type := if good then fld m 2 1 else 0
  let length := if good then fld m 3 1 else 0
  let s := (s.wr (F.PORT_CABLE_TYPE p) type).wr (F.PORT_CABLE_LENGTH_DM p) length
  let high := good && fld m 5 1 > 50
  let s := { s with panel := { s.panel with
    cables := mput s.panel.cables p (type, length)
    short := if good && fld m 4 1 == 1 then sinsert s.panel.short p else s.panel.short.filter (· != p)
    unpowered := if high then sinsert s.panel.unpowered p else s.panel.unpowered.filter (· != p) } }
  if high then s.ev F.NODE_ENV_EVENTS_CABLE_POWER else s

/-- CABLE_INSERT: PRESENT rises; the insertion is counted, the cable memory is read, and the port trains when its partner
signals (R458, R481). Details: DEDUCED, log entry 73. -/
def execCableInsert (p : Fin 10) (signal : Bool) (mem : Bytes) (s : State) : Out :=
  if s.cablePresent p then ok s
  else
    let s := (s.setPresent p true).readCable p mem
    if s.boot.failed then ok s
    else
    let n := (mget s.keep.insertions p 0 + 1) % 2 ^ 32
    let s := { s with keep := { s.keep with insertions := mput s.keep.insertions p n } }
    let s := (s.showCounters.ev F.PANEL_EVENTS_CABLE_IN).ev (F.PORT_EVENTS_CABLE_IN p)
    if s.removalPending && !s.admitted then
      ok { s with panel := { s.panel with arrived := sinsert s.panel.arrived p } }
    else if signal && !s.panel.unpowered.contains p.val then ok (s.trainWaiting p)
    else if s.portState p == Port.down then ok (s.setPort p Port.wait)
    else ok s

/-- A port without its cable waits; a disabled one stays OFF. Details: DEDUCED, log entry 73. -/
def State.cableGone (s : State) (p : Nat) : State :=
  let s := s.setPt p { s.pt p with drain := .none, replay := [] }
  (((s.portIdle p).wr (F.PORT_PARTNER_VALID p) 0).setPort p
    (if s.flag (F.PORT_STATUS_ENABLED p) then Port.wait else Port.off)).portDone p

/-- CABLE_REMOVE: PRESENT falls. After a warning the port goes to WAIT with no fault logged; on a port that is UP, TRAIN or
DRAINING it is an unannounced loss (R456, R458). Details: DEDUCED, log entry 73. -/
def execCableRemove (p : Fin 10) (s : State) : Out :=
  if !s.cablePresent p then ok s
  else
    let st := s.portState p
    let warned := bit (s.rd F.PANEL_CABLES_WARNED) p
    let s := (s.setPresent p false).readCable p []
    let s := { s with panel := { s.panel with arrived := s.panel.arrived.filter (· != p.val) } }
    let s := s.setWarned p false
    if s.boot.failed then ok s
    else if !warned && (st == Port.up || st == Port.train || st == Port.draining) then
      let s := ((s.unannounced p).inc F.PANEL_COUNTS_UNANNOUNCED).ev F.PANEL_EVENTS_UNANNOUNCED_LOSS
      ok (s.panelEvent 3 p).removalProceed
    else if st == Port.off then ok s
    else ok ((s.cableGone p).replanPort p).removalProceed

/-- The port is drained as a latch warning drains it, even where R283 would refuse (R456).
Details: DEDUCED, log entry 73. -/
def State.latchDrain (s : State) (p : Nat) (d : DrainFor) (handle : Option Nat) : State :=
  let st := s.portState p
  let handle := if handle.isSome then handle else (s.pt p).handle
  if st == Port.up then s.startDrain p d handle
  else if st == Port.draining then
    if (s.pt p).drain == .disable then s else s.setPt p { s.pt p with drain := d, handle := handle }
  else if st == Port.train || st == Port.wait then
    (s.setPt p { s.pt p with handle := handle }).stopTraining p
  else s

/-- LATCH_WARNING: LATCH rises; while PRESENT is 1 the port drains (R456). Details: DEDUCED, log entry 73. -/
def execLatchWarning (p : Fin 10) (s : State) : Out :=
  if s.latched p then ok s
  else
    let s := s.setLatch p true
    if s.boot.failed || !s.cablePresent p then ok s
    else
      let s := (s.panelEvent 2 p).setWarned p true
      let s := (s.inc F.PANEL_COUNTS_LATCH_WARNINGS).ev F.PANEL_EVENTS_LATCH_WARNING
      ok (s.latchDrain p .latch none).removalProceed

/-- LATCH_RELEASE: LATCH falls, and the 2 s timer starts (R456). Details: DEDUCED, log entry 73. -/
def execLatchRelease (p : Fin 10) (s : State) : Out := ok (s.setLatch p false)

/-- LATCH_RELEASE_TIMEOUT: the latch has been released for 2 s with the cable present; the port returns to UP or trains
(R456), unless a removal holds it drained. Details: DEDUCED, log entry 73. -/
def execLatchReleaseTimeout (p : Fin 10) (s : State) : Out :=
  if s.boot.failed || !bit (s.rd F.PANEL_CABLES_WARNED) p || s.latched p || !s.cablePresent p then ok s
  else
    let s := s.setWarned p false
    if s.removalPending && !s.admitted then ok s
    else ok (s.drainBack p .latch)

/-- PORT_RELEASE: refused as PORT_CONTROL DRAIN would be; else the port drains (R459).
Details: DEDUCED, log entry 71. -/
def execPortRelease (s : State) : Out :=
  s.withSub Op.portRelease (fun _ => true) (fun q s =>
    let p := q.p 0 1
    if p > 9 then s.refuse q St.badParam
    else if s.portBusy p then s.refuse q St.busy
    else if s.drainRefused p then s.refuse q St.badParam
    else
      let (s, h) := s.accept q
      let st := s.portState p
      if st == Port.drained || st == Port.off then s.complete h St.ok 0 []
      else if st == Port.down || st == Port.held then
        (s.setPt p { s.pt p with handle := some h }).stopTraining p
      else s.latchDrain p .drain (some h))

/-! ## Lights (R449–R451) -/

/-- Colour and pattern of a port's light: colour in [1:0], pattern in [3:2] (Table 21.2).
Details: DEDUCED, log entry 97. -/
def State.portLight (s : State) (p : Nat) : Nat :=
  let st := s.portState p
  if st == Port.train then 1 + 4 * 1
  else if st == Port.up then (if s.rd (F.PORT_STATUS_MODE p) = 0 then 1 else 2)
  else if st == Port.down || st == Port.held || (st == Port.wait && s.cablePresent p) then 2 + 4 * 1
  else if st == Port.draining then 3 + 4 * 1
  else if st == Port.drained then 3
  else 0

/-- Colour, pattern and code of the node status light: the first row of Table 21.3 that applies.
Details: DEDUCED, log entry 97. -/
def State.nodeLight (s : State) : Nat :=
  let k := s.rd F.NODE_STAGE_STAGE
  let st := s.rd F.NODE_STAGE_STATE
  let req := s.rd F.PANEL_STATUS_REQUEST
  if s.boot.failed then 0
  else if st = 2 then 2 + 4 * 2 + 16 * k
  else if req = 2 then 3
  else if req = 1 then 3 + 4 * 1
  else if st = 0 && !s.boot.standby then 1 + 4 * 2 + 16 * k
  else if s.flag F.PANEL_CTRL_LOCATE then 3 + 4 * 3
  else if s.flag F.AGE_FORECAST_ADVISED || !s.keep.worn.isEmpty || !s.keep.damaged.isEmpty
      || s.flag F.AGE_STATUS_RETIRED || s.flag F.NODE_STAGE_DEGRADED then 2
  else if st = 1 then 1
  else 0

/-- A PANEL_ register as it reads: the lights are computed; BUTTON is a sensed level that the commands, which give each
press at its effect, leave open. Details: DESIGN CHOICE, log entry 9; DEDUCED, log entry 97. -/
def State.panelReg (s : State) (a : Nat) : Nat :=
  if a = R.PANEL_STATUS then s.nodeLight + s.free a 2 * 2 ^ 8 + s.rd F.PANEL_STATUS_REQUEST * 2 ^ 9
  else if a = R.PANEL_LIGHTS then (List.range 10).foldl (fun v p => v + s.portLight p * 16 ^ p) 0
  else s.rdReg a

/-- PANEL_STATE: the registers at offsets 0x0000 to 0x0028 (R368, chapter 21). Details: DEDUCED, log entry 97. -/
def execPanelState (s : State) : Out :=
  s.withSub Op.panelState (fun _ => true) (fun q s =>
    s.short q St.ok ((List.range 6).flatMap (fun i => natLE 8 (s.panelReg (panelBlock + 8 * i)))))

end Sys2Proof.Machine
end

