-- ==== Sys2Proof/Machine/Job.lean ====
section
/-! DEFINITION. Schedules and jobs: the checks of an image (Tables 4.6, 4.7), SCHEDULE_LOAD and SCHEDULE_ARM, admission and
release (R369, R370), and JOB_SHRINK (R95, R349, R350). -/

namespace Sys2Proof.Machine

open Sys2Proof

/-! ## Schedule images (R73, R90, R91) -/

/-- Length of an image with n entries: header, field map, entries. -/
def imageLength (n : Nat) : Nat := 64 + 16 * 64 + 32 * n

/-- The header's own fields but its digest (third row of Table 4.6). Details: DEDUCED, log entry 35. -/
def imageHeaderOk (h : Bytes) (t : Nat) : Bool :=
  fld h 0 2 == 0x5345 && fld h 2 1 == 1 && fld h 18 1 == t && 1 ≤ fld h 20 2 && fld h 20 2 ≤ 4096 && fld h 17 1 ≤ 8
    && fld h 19 1 < 2 && fld h 22 2 == 0

/-- Details: DEDUCED, log entry 35. -/
def parseBank (b : Bytes) : Bank :=
  ⟨parseHeader b, (List.range 64).map (fun f => parseFieldMap (sub b (64 + 16 * f) 16)),
    (List.range (fld b 20 2)).map (fun i => parseEntry (sub b (1088 + 32 * i) 32))⟩

/-- Whether a field-map entry keeps the rules of Table 4.7 (Table 4.5). Details: DEDUCED, log entry 35. -/
def State.fieldMapOk (s : State) (b : Bytes) : Bool :=
  let m := parseFieldMap b
  fld b 13 1 < 16 && fld b 14 1 < 64 && fld b 15 1 < 2
    && (!m.valid || (1 ≤ m.nbuf && m.nbuf ≤ 3 && m.bufStride % 4096 == 0 && m.dstBase % 64 == 0
      && s.target m.dstBase != .bad))

/-- Reserved fields and operands of an entry (Codes and Operands of Table 4.7, Tables 4.2–4.4).
Details: DEDUCED, log entry 35. -/
def entryCodesOk (b : Bytes) : Bool :=
  let act := fld b 0 1
  let maskOk := fld b 16 4 != 0 && fld b 16 4 < 2 ^ 18
  let addrOk := fld b 24 8 < 2 ^ 48
  let rest := fun (off : Nat) => allZero (sub b off (32 - off))
  fld b 1 1 < 8 && fld b 7 1 < 32 && fld b 11 1 < 32 && fld b 14 1 < 16 && fld b 15 1 == 0
    && (!bit (fld b 1 1) 0 || 1 ≤ fld b 12 2)
    && (if act == Act.tensorRun || act == Act.move then maskOk && fld b 20 2 % 64 == 0 && fld b 22 2 == 0 && addrOk
        else if act == Act.vectorProgram then maskOk && addrOk
        else if act == Act.solve || act == Act.reflect || act == Act.digest then fld b 16 8 == 0 && addrOk
        else if act == Act.collective then fld b 16 1 ≤ 15 && fld b 17 1 ≤ 2 && allZero (sub b 18 6) && addrOk
        else if act == Act.fieldSend then
          fld b 16 1 < 64 && allZero (sub b 17 3) && fld b 20 4 != 0 && fld b 20 4 % 64 == 0 && addrOk
        else if act == Act.fieldWait then fld b 16 1 < 64 && fld b 17 1 ≤ 1 && 1 ≤ fld b 18 2 && rest 20
        else if act == Act.quiet then fld b 16 1 < 8 && rest 17
        else if act == Act.barrier then (fld b 19 1 ≤ 15 || fld b 19 1 == 0xFF) && rest 20
        else if act == Act.recordMark then rest 20
        else act == Act.endStep && rest 16)

/-- Whether entry i keeps Shape, Order, Deadlines, Quiet, Fields, Addresses and Sealed of Table 4.7.
Details: DEDUCED, log entry 35. -/
def State.entryRulesOk (s : State) (bk : Bank) (i : Nat) (e : Entry) : Bool :=
  let es := bk.entries
  let n := es.length
  let final := es.getD (n - 1) e
  let isEnd := e.action == Act.endStep
  let before := es.take i
  let shape := isEnd == (i + 1 == n) && !(e.action == Act.reflect && before.any (·.action == Act.reflect))
  let order := i == 0 || (es.getD (i - 1) e).firePhase ≤ e.firePhase
  let deadline := if isEnd then e.deadline == 0xFFFFFF
    else e.firePhase ≤ e.deadline && e.deadline ≤ final.firePhase
  let quiet := (List.range n).all (fun j =>
    let q := es.getD j e
    q.action != Act.quiet || j == i ||
      (!(q.firePhase ≤ e.firePhase && e.firePhase < q.deadline) && (j < i || e.deadline ≤ q.firePhase)))
  let field := e.action != Act.fieldSend ||
    (let m := bk.fields.getD (e.op 16 1 % 64) ⟨0, 0, 0, 0, 0, false⟩
     m.valid && (m.nbuf ≤ 1 || e.op 20 4 ≤ m.bufStride) && s.backed e.addr (e.op 20 4))
  let addressed := e.action == Act.tensorRun || e.action == Act.vectorProgram || e.action == Act.solve
    || e.action == Act.move || e.action == Act.collective || e.action == Act.reflect || e.action == Act.digest
  let sealed_ := !s.sealed || (e.sigTerrace ≤ 7 && !(e.action == Act.barrier && 256 ≤ e.op 16 2))
  shape && order && deadline && quiet && field && (!addressed || s.backed e.addr 64) && sealed_

/-- The first index below n, from i on, that fails a check. Details: DEDUCED, log entry 35. -/
def firstBad (n : Nat) (good : Nat → Bool) : Option Nat := (List.range n).find? (fun i => !good i)

/-- Whether the binding in force is the one a header was built for (R59). -/
def State.bindingIs (s : State) (tbId tickLog2 periodNs : Nat) : Bool :=
  tbId == s.rd F.TB_STATUS_TB_ID && tickLog2 == s.rd F.TB_STATUS_TICK_LOG2 && periodNs == s.periodNs

/-- A failed check: row of Table 4.6, status, terrace, part (0 header, 1 field map, 2 entry) and index. -/
abbrev ImgFail := Nat × Nat × Nat × Nat × Nat

/-- Check the image at an address for a terrace, rows 3 to 9 of Table 4.6: the first failure, or the bank.
Details: DEDUCED, log entry 35. -/
def State.imgCheck (s : State) (t a : Nat) (binding : Bool) : ImgFail ⊕ Bank :=
  let fail := fun (row st part idx : Nat) => Sum.inl (row, st, t, part, idx)
  if !s.backed a 64 then fail 3 St.badParam 0 0
  else if s.poisoned a 64 then fail 4 St.poisonConsumed 0 0
  else
    let h := s.readBytes a 64
    let len := imageLength (fld h 20 2)
    if !s.backed a len then fail 3 St.badParam 0 0
    else if s.poisoned a len then fail 4 St.poisonConsumed 0 0
    else if !imageHeaderOk h t then fail 3 St.badParam 0 0
    else
      let b := s.readBytes a len
      let bk := parseBank b
      let ent := fun (i : Nat) => sub b (1088 + 32 * i) 32
      if digestOf b 32 != sub b 32 32 then fail 5 St.digestMismatch 0 0
      else if bk.header.profile != s.profile || bk.header.towerMhz != s.rd F.NODE_PROFILE_TOWER_MHZ then
        fail 6 St.badParam 0 0
      else if binding && !s.bindingIs bk.header.tbId bk.header.tickLog2 bk.header.periodNs then fail 7 St.badParam 0 0
      else match firstBad 64 (fun f => s.fieldMapOk (sub b (64 + 16 * f) 16)) with
        | some f => fail 8 St.badParam 1 f
        | none =>
          match firstBad bk.entries.length (fun i =>
            entryCodesOk (ent i) && s.entryRulesOk bk i (parseEntry (ent i))) with
          | some i => fail 8 St.badParam 2 i
          | none =>
            match firstBad bk.entries.length (fun i =>
              !(s.refusesV && (parseEntry (ent i)).action == Act.collective && (parseEntry (ent i)).op 17 1 == 2)) with
            | some i => fail 9 St.exactViolation 2 i
            | none => Sum.inr bk

/-- The failure that decides: the earliest row, then the lowest terrace (R90). Details: DEDUCED, log entry 35. -/
def worstFail : List (ImgFail ⊕ Bank) → Option ImgFail
  | [] => none
  | .inr _ :: r => worstFail r
  | .inl f :: r =>
    match worstFail r with
    | none => some f
    | some g => if g.1 < f.1 then some g else some f

/-- DETAIL of a failed SCHEDULE_LOAD (Table 16.9). Details: DEDUCED, log entry 35. -/
def failDetail (f : ImgFail) : Nat := f.2.2.1 + f.2.2.2.1 * 2 ^ 8 + 2 ^ 16 * f.2.2.2.2

/-- A refused V operation is noted (R29). -/
def State.noteExact (s : State) (st : Nat) : State := if st == St.exactViolation then s.ev F.NODE_PROFILE_EVENTS_EXACT_VIOL else s

/-- Whether a swap is armed on a terrace of a mask. -/
def State.armedIn (s : State) (mask : Nat) : Bool := (terraces mask).any (fun t => s.flag (F.SCHED_STATUS_ARMED t))

/-- SCHEDULE_LOAD (R90): every image named is checked before any bank is written.
Details: DEDUCED, log entries 14, 35. -/
def execScheduleLoad (s : State) : Out :=
  s.withSub Op.scheduleLoad (fun _ => true) (fun q s =>
    let mask := q.p 0 2
    let table := q.p 8 8
    if mask = 0 || (s.sealed && 256 ≤ mask) then s.refuse q St.badParam
    else if s.flag F.NODE_PROFILE_SWITCHING || s.armedIn mask || s.ckpt.shrink.isSome then s.refuse q St.busy
    else
      let ts := terraces mask
      let low := ts.headD 0
      if !s.backed table 128 then s.longNow q St.badParam low []
      else
        let checked := ts.map (fun t =>
          if s.poisoned table 128 then Sum.inl (4, St.poisonConsumed, low, 0, 0)
          else s.imgCheck t (s.readNat (table + 8 * t) 8) s.admitted)
        match worstFail checked with
        | some f => (s.noteExact f.2.1).longNow q f.2.1 (failDetail f) []
        | none =>
          let banks := checked.filterMap (fun c => match c with | .inr b => some b | .inl _ => none)
          let s := banks.foldl (fun s b => forEach (s.members b.header.terrace) s (fun t s => s.writeInactive t b)) s
          s.longNow q St.ok 0 (sha3_256 (banks.flatMap (·.header.digest))))

/-! ## SCHEDULE_ARM (R93) -/

/-- The terraces a mask names, with the pair members in the Sealed profile. -/
def State.named (s : State) (mask : Nat) : List Nat := (terraces mask).flatMap s.members

/-- The rows of Table 4.8 that every operation shares. Details: DEDUCED, log entry 36. -/
def State.armCommon (s : State) (q : Sub) (f : List Nat → State → State) : State :=
  let mask := q.p 0 2
  if mask = 0 || q.p 2 1 > 2 || (s.sealed && 256 ≤ mask) then s.short q St.badParam []
  else if s.ckpt.shrink.isSome then s.short q St.busy []
  else f (s.named mask) s

/-- SCHEDULE_ARM with operation 0: the swap binds to the first boundary at least 10 µs away.
Details: DEDUCED, log entries 13, 36. -/
def execScheduleArm (s : State) : Out :=
  s.withSub Op.scheduleArm (fun q => q.p 2 1 = 0 || q.p 2 1 > 2) (fun q s => s.armCommon q (fun ts s =>
    if ts.any (fun t => s.flag (F.SCHED_STATUS_ARMED t)) then s.short q St.busy []
    else if ts.any (fun t => !s.flag (F.SCHED_STATUS_INACTIVE_VALID t)) then s.short q St.badParam []
    else
      let b := s.boundStep
      let s := forEach ts s (fun t s => (s.wr (F.SCHED_STATUS_ARMED t) 1).wr (F.SCHED_ARM_STEP_STEP t) b)
      s.short q St.ok (natLE 8 b)))

/-- SCHEDULE_ARM with operation 1: refused when the bound boundary is less than 10 µs away.
Details: DEDUCED, log entry 36. -/
def execScheduleDisarm (s : State) : Out :=
  s.withSub Op.scheduleArm (fun q => q.p 2 1 = 1) (fun q s => s.armCommon q (fun ts s =>
    if ts.any (fun t => s.flag (F.SCHED_STATUS_ARMED t) && s.tooLate (s.rd (F.SCHED_ARM_STEP_STEP t))) then
      s.short q St.busy []
    else (forEach ts s (fun t s => s.wr (F.SCHED_STATUS_ARMED t) 0)).short q St.ok (natLE 8 s.boundStep)))

/-- SCHEDULE_ARM with operation 2: a halted terrace runs again from the bound boundary (R84).
Details: DEDUCED, log entry 36. -/
def execScheduleResume (s : State) : Out :=
  s.withSub Op.scheduleArm (fun q => q.p 2 1 = 2) (fun q s => s.armCommon q (fun ts s =>
    let b := s.boundStep
    let s := forEach ts s (fun t s =>
      if s.rd (F.SCHED_STATUS_STATE t) == 2 then s.setTr t { s.tr t with resumeStep := some b } else s)
    s.short q St.ok (natLE 8 b)))

/-! ## JOB_ADMIT (R369) -/

/-- Whether two Weir windows of a plan share an address (R265). -/
def windowsMeet (a b : Bytes) : Bool :=
  bit (fld a 2 1) 0 && bit (fld b 2 1) 0 && fld a 3 1 == fld b 3 1 && fld a 4 2 ≤ fld b 6 2 && fld b 4 2 ≤ fld a 6 2
    && overlaps (fld a 8 8) (fld a 16 8) (fld b 8 8) (fld b 16 8)

/-- Details: DEDUCED, log entry 78. -/
def windowsOverlap : List Bytes → Bool
  | [] => false
  | w :: r => r.any (windowsMeet w) || windowsOverlap r

/-- The plan an admission installs: 0 or a row of Table 16.16 as (row, status), and the plan with whether it is cached.
Details: DEDUCED, log entry 78. -/
def State.admitPlan (s : State) (addr tag : Nat) (digest : Bytes) : (Nat × Nat) ⊕ (Plan × Bool) :=
  match s.net.cache.find? (fun b => sub b 32 32 == digest) with
  | some b =>
    let pl := parsePlan b
    if pl.jobTag != tag || pl.nodeId != s.nodeId || s.storeFull pl then Sum.inl (8, St.badParam) else Sum.inr (pl, true)
  | none =>
    let h := s.readBytes addr 64
    if s.structFault addr planLength == St.poisonConsumed then Sum.inl (6, St.poisonConsumed)
    else if sub h 32 32 != digest then Sum.inl (7, St.digestMismatch)
    else match s.planRead addr with
      | (_, none) => Sum.inl (8, St.badParam)
      | (_, some pl) => if pl.jobTag != tag || s.storeFull pl then Sum.inl (8, St.badParam) else Sum.inr (pl, false)

/-- Whether PLAN_ADDR is used and not backed. Details: DEDUCED, log entry 78. -/
def State.planUnbacked (s : State) (addr : Nat) (digest : Bytes) : Bool :=
  if s.net.cache.any (fun b => sub b 32 32 == digest) then false
  else s.structFault addr planLength == St.badParam

/-- The variant tables of an admission: for each variant, its sixteen image addresses.
Details: DEDUCED, log entry 78. -/
def State.variantTables (s : State) (n a : Nat) : List (List Nat) :=
  (List.range n).map (fun v => (List.range 16).map (fun t => s.readNat (a + 128 * v + 8 * t) 8))

/-- The terraces whose images of a table are used: 0 to 7 in the Sealed profile (R30).
Details: DEDUCED, log entry 78. -/
def State.imageTerraces (s : State) : List Nat := List.range (if s.sealed then 8 else 16)

/-- What an admission checks from the poison row of Table 16.16 on: the status that refuses it, or the plan, the group
plans and the variants. Details: DEDUCED, log entry 78. -/
def State.admitCheck (s : State) (q : Sub) : Nat ⊕ (Plan × Bool × List Bytes × List (List Nat × List Bytes)) :=
  let tag := q.p 0 2
  let nv := q.p 4 1
  let ng := q.p 5 1
  let va := q.p 72 8
  let ga := q.p 80 8
  let digest := sub q.params 40 32
  let tables := s.variantTables nv va
  let groups := (List.range ng).map (fun i => s.groupCheck (s.readNat (ga + 8 * i) 8) none (some tag))
  let images := tables.flatMap (fun tb => s.imageTerraces.map (fun t => s.imgCheck t (tb.getD t 0) true))
  let bad4 := images.any (fun c => match c with | .inl f => f.1 == 4 | .inr _ => false)
  let plan := s.admitPlan (q.p 32 8) tag digest
  let planPoison := match plan with | .inl (r, _) => r == 6 | .inr _ => false
  if planPoison || (0 < ng && s.poisoned ga (8 * ng)) || (0 < nv && s.poisoned va (128 * nv))
      || groups.any (·.1 == 7) || bad4 then Sum.inl St.poisonConsumed
  else match plan with
    | .inl (_, st) => Sum.inl st
    | .inr (pl, cached) =>
      if windowsOverlap pl.windows then Sum.inl St.badParam
      else if groups.any (·.1 != 0) || (groups.map (fun g => gpSlot g.2)).eraseDups.length != ng then Sum.inl St.badParam
      else match worstFail images with
        | some f => Sum.inl f.2.1
        | none =>
          let digests := fun (tb : List Nat) => s.imageTerraces.map (fun t => s.readBytes (tb.getD t 0 + 32) 32)
          Sum.inr (pl, cached, groups.map (·.2), tables.map (fun tb => (tb, digests tb)))

/-- The second row of Table 16.16. Details: DEDUCED, log entry 78. -/
def State.admitBad (s : State) (q : Sub) : Bool :=
  let mask := q.p 2 2
  q.p 0 2 = 0 || mask = 0 || mask &&& s.rd F.AGE_STATUS_RETIRED != 0 || (s.sealed && 256 ≤ mask) || q.p 4 1 > 8
    || q.p 5 1 > 16 || q.p 24 4 = 0 || q.p 24 4 ≤ q.p 28 4 || q.p 6 2 != 0 || q.p 94 2 != 0
    || s.planUnbacked (q.p 32 8) (sub q.params 40 32) || (0 < q.p 4 1 && !s.backed (q.p 72 8) (128 * q.p 4 1))
    || (0 < q.p 5 1 && !s.backed (q.p 80 8) (8 * q.p 5 1))

/-- The first row of Table 16.16. Details: DEDUCED, log entry 78. -/
def State.admitBusy (s : State) (mask : Nat) : Bool :=
  s.admitted || s.flag F.NODE_PROFILE_SWITCHING || s.removalPending
    || s.solver.any (fun r => bit mask r.1 && r.2.handle.isSome)

/-- Write the Weir window registers: the plan's windows, tagged with its job (R265). Details: DEDUCED, log entry 78. -/
def State.setWindows (s : State) (tag : Nat) (ws : List Bytes) : State :=
  let s := s.wr F.FAB_WEIR_STATUS_WINDOWS (ws.filter (fun w => bit (fld w 2 1) 0)).length
  forEach (List.range 64) s (fun w s => forEach [0, 1, 2, 3] s (fun k s =>
    let b := match ws[w]? with
      | some x => patch x 0 (natLE 2 tag)
      | none => []
    s.wrReg (R.FAB_WEIR_WIN w k) (fld b (8 * k) 8)))

/-- Steps 1 to 3 of an admission, and the job as admitted; it completes when its terraces are free (R387).
Details: DEDUCED, log entry 78. -/
def State.admitInstall (s : State) (q : Sub) (handle : Nat) (pl : Plan) (cached : Bool) (groups : List Bytes)
    (variants : List (List Nat × List Bytes)) : State :=
  let tag := q.p 0 2
  let s := s.installPlan pl
  let s := (s.wrReg R.FAB_ROUTE_LIVE 0).wr F.FAB_ROUTE_LIVE_JOB_TAG tag
  let s := s.wr F.FAB_ROUTE_LIVE_LIVE_VER pl.liveVer
  let s := forEach [0, 1, 2, 3] s (fun w s => s.wrReg (R.FAB_PLAN_DIGEST w) (fld pl.digest (8 * w) 8))
  let s := s.setWindows tag pl.windows
  let s := s.emptySlots (fun b => gpTag b != tag)
  let s := groups.foldl (fun s b => s.groupLive (gpSlot b) b) s
  let mask := if s.sealed then q.p 2 2 + q.p 2 2 * 256 else q.p 2 2
  let session := match q.chan with | .mgmt i => some i | _ => none
  { s with job := some ⟨tag, mask, q.p 8 8, q.p 16 8, q.p 24 4, q.p 28 4, variants, session, none,
      some (handle, cached, pl.digest), false⟩ }.admitFinish

/-- JOB_ADMIT (R369): Table 16.16 in row order; all or nothing. Details: DEDUCED, log entry 78. -/
def execJobAdmit (s : State) : Out :=
  s.withSub Op.jobAdmit (fun _ => true) (fun q s =>
    let tbSt := s.rd F.TB_STATUS_STATE
    if s.admitBusy (q.p 2 2) then s.refuse q St.busy
    else if s.admitBad q then s.refuse q St.badParam
    else if q.p 88 1 != s.profile || q.p 90 2 != s.rd F.NODE_PROFILE_TOWER_MHZ then s.refuse q St.badParam
    else if tbSt != 2 && tbSt != 5 then s.refuse q St.timebaseLost
    else if !s.bindingIs (q.p 92 2) (q.p 89 1) (q.p 96 8) then s.refuse q St.badParam
    else match s.admitCheck q with
      | .inl st => (s.noteExact st).longNow q st 0 []
      | .inr (pl, cached, groups, variants) =>
        let (s, h) := s.accept q
        s.admitInstall q h pl cached groups variants)

/-! ## JOB_RELEASE (R370) -/

/-- Recording ends (R428); a replay under way shows as STATE 2. Details: DEDUCED, log entry 79. -/
def State.recordEnd (s : State) : State :=
  { s with check := { s.check with recorder := { s.check.recorder with starting := none } } }.wr F.NODE_REC_STATUS_STATE
    (if s.check.replay.isSome then 2 else 0)

/-- JOB_RELEASE: refused, or accepted with its first step. Details: DEDUCED, log entry 79. -/
def execJobRelease (s : State) : Out :=
  s.withSub Op.jobRelease (fun _ => true) (fun q s =>
    match s.job with
    | none => s.refuse q St.badParam
    | some j =>
      if j.jobTag != q.p 0 2 then s.refuse q St.badParam
      else if s.jobChanging || s.ckpt.shrink.isSome then s.refuse q St.busy
      else
        let (s, h) := s.accept q
        { s.ckptCancel.recordEnd with job := some { j with releasing := some (h, false) } })

/-- Steps 3 to 6 of a release, once every put of the job is acknowledged (R370). Details: DEDUCED, log entry 79. -/
def State.releaseFinish (s : State) : State :=
  match s.job with
  | none => s
  | some j =>
    match j.releasing with
    | some (h, true) =>
      if s.putsOut then s
      else
        let ts := terraces j.mask
        let s := s.removePlan j.jobTag
        let s := (s.dropReads.setWindows 0 []).emptySlots (fun _ => true)
        let s := forEach [0, 1, 2, 3] (s.wrReg R.FAB_ROUTE_LIVE 0) (fun w s => s.wrReg (R.FAB_PLAN_DIGEST w) 0)
        let s := forEach ts s (fun t s =>
          let s := forEach (spiresOf t) s (fun n s => s.dropAllCtx n)
          let s := ((s.wr (F.SCHED_STATUS_ARMED t) 0).wr (F.SCHED_STATUS_LIVE_VALID t) 0).wr
            (F.SCHED_STATUS_INACTIVE_VALID t) 0
          let s := if s.rd (F.SCHED_STATUS_STATE t) == 3 then s else s.wr (F.SCHED_STATUS_STATE t) 0
          s.setTr t { s.tr t with resumeStep := none, haltPending := false, haltStatus := 0, inStep := false, entries := [] })
        let s := { s with job := none, ckpt := { s.ckpt with policy := none, nextPolicy := none } }.showCkpt
        let s := forEach ts s (fun t s => (s.settlePower t).startParts t)
        (s.complete h St.ok 0 []).removalProceed
    | _ => s

/-- Step 2 of a release, at the first boundary after its acceptance (R370). Details: DEDUCED, log entry 79. -/
def State.releaseBoundary (s : State) : State :=
  match s.job with
  | none => s
  | some j =>
    match j.releasing with
    | some (h, false) =>
      let s := forEach (terraces j.mask) s (fun t s =>
        let s := forEach (s.pendingEntries t ++ s.runningEntries t) s (fun i s =>
          match s.entry t i with
          | some e => if e.action == Act.endStep then s else s.deadlineOne t i e true
          | none => s)
        (s.releaseUnits t).setTr t { s.tr t with inStep := false, entries := [] })
      let s := forEach (List.range 16) s (fun g s =>
        match (s.cslot g).cur, (s.cslot g).live with
        | some _, some b => s.collAbort g St.deadlineMissed (gpMe b) none
        | _, _ => s)
      let s := s.flushPuts
      { s with job := some { j with releasing := some (h, true) } }.releaseFinish
    | _ => s

/-- FABRIC_REPLY_ARRIVAL: the reply concludes its request, or holds it back; units and a release that waits for its puts goes on.
Details: DEDUCED, log entry 79. -/
def execFabricReplyArrival (p : Bytes) (poison at10 : Nat) (s : State) : Out :=
  ok (s.fabricReply p poison at10).pump.releaseFinish

/-- DEAD_TARGET_BOUND: a request without a reply ends; units and a release that wait for it go on.
Details: DEDUCED, log entry 79. -/
def execDeadTargetBound (tag : Nat) (s : State) : Out := ok (s.deadTarget tag).pump.releaseFinish

/-! ## JOB_SHRINK (R95, R349, R350) -/

/-- The banks of a variant, or why they cannot be loaded: a changed image is DIGEST_MISMATCH (R94).
Details: DEDUCED, log entry 79. -/
def State.variantBanks (s : State) (addrs : List Nat) (digests : List Bytes) : Nat ⊕ List Bank :=
  let rs := s.imageTerraces.map (fun t => (t, s.imgCheck t (addrs.getD t 0) true))
  let changed := rs.any (fun r => match r.2 with
    | .inl f => f.1 != 4
    | .inr b => b.header.digest != digests.getD r.1 [])
  if rs.any (fun r => match r.2 with | .inl f => f.1 == 4 | .inr _ => false) then Sum.inl St.poisonConsumed
  else if changed then Sum.inl St.digestMismatch
  else Sum.inr (rs.filterMap (fun r => match r.2 with | .inr b => some b | .inl _ => none))

/-- The group plans and the route version of variant v are armed for step e: each plan that passes the check of an install, and a
version whose set is installed (R295, R301, R349). Details: DESIGN CHOICE, log entry 104. -/
def State.armVariant (s : State) (j : Job) (v e : Nat) : State :=
  let s := forEach (List.range 16) s (fun g s =>
    match Config.variantGroup j.jobId v g with
    | none => s
    | some a =>
      let (code, b) := s.groupCheck a (some g) (some j.jobTag)
      if code = 0 then s.setSlotC g { s.cslot g with armed := some (b, e) } else s)
  match Config.variantRoute j.jobId v with
  | none => s
  | some ver =>
    if !s.net.sets.any (fun x => x.jobTag == j.jobTag && x.ver == ver) then s
    else ((s.wr F.FAB_ROUTE_LIVE_ARMED 1).wr F.FAB_ROUTE_LIVE_ARMED_VER ver).wr F.FAB_ROUTE_ARM_STEP_STEP e

/-- JOB_SHRINK: the job's terraces halt at the next boundary, the variant is loaded and armed for E with its group
plans and route version, and the restore sources run. Details: DEDUCED, log entry 79. -/
def execJobShrink (s : State) : Out :=
  s.withSub Op.jobShrink (fun _ => true) (fun q s =>
    match s.job with
    | none => s.refuse q St.badParam
    | some j =>
      let v := q.p 0 1
      let e := q.p 8 8
      match (if v = 0 then none else j.variants[v - 1]?) with
      | none => s.refuse q St.badParam
      | some (addrs, digests) =>
        if e / 2 ^ 40 != 0 || q.p 1 1 > 64 || q.p 2 1 > 64 then s.refuse q St.badParam
        else if s.jobChanging || s.ckpt.shrink.isSome || s.ckpt.restore.isSome then s.refuse q St.busy
        else
          let (s, h) := s.accept q
          let s := s.ckptCancel
          let ts := terraces j.mask
          let s := forEach ts s (fun t s => s.setTr t { s.tr t with haltPending := true, resumeStep := none })
          let s := forEach (List.range 16) s (fun t s => s.wr (F.SCHED_STATUS_ARMED t) 0)
          match s.variantBanks addrs digests with
          | .inl st => s.complete h st 0 []
          | .inr banks =>
            let s := banks.foldl (fun s b => forEach (s.members b.header.terrace) s (fun t s =>
              ((s.writeInactive t b).wr (F.SCHED_STATUS_ARMED t) 1).wr (F.SCHED_ARM_STEP_STEP t) e)) s
            let s := (forEach ts s (fun t s => s.setTr t { s.tr t with resumeStep := some e })).armVariant j v e
            let restore := q.p 1 1 != 0
            let s := { s with ckpt := { s.ckpt with shrink := some ⟨h, v, e, restore, []⟩ } }
            if !restore then s
            else
              let (st, srcs, trust) := s.readSources (q.p 1 1) (q.p 16 8) (q.p 2 1) (q.p 24 8)
              if st != 0 then s.shrinkFail st else s.restoreBegin none srcs trust)

/-- SHRINK_DEADLINE: the restore of a shrink has not ended 10 µs before E (R350). Details: DEDUCED, log entry 79. -/
def execShrinkDeadline (s : State) : Out :=
  match s.ckpt.shrink with
  | none => ok s
  | some k =>
    if !k.withRestore then ok s
    else
      match s.reach (2 ^ 24 * k.effStep - s.nsToPhase 10000) with
      | none => ok s
      | some s => ok (s.shrinkFail St.deadlineMissed)

/-- At E the swaps take effect together and the command completes (R349). Details: DEDUCED, log entry 79. -/
def State.shrinkBoundary (s : State) (step : Nat) : State :=
  match s.ckpt.shrink with
  | none => s
  | some k =>
    if step < k.effStep then s
    else if k.withRestore then s.shrinkFail St.deadlineMissed
    else { s with ckpt := { s.ckpt with shrink := none } }.complete k.handle St.ok 0 k.digest

end Sys2Proof.Machine
end

