-- ==== Sys2Proof/Machine/Security.lean ====
section
/-! DEFINITION. Security (chapter 20): firmware images and their staging, identity, attestation, sessions and their key. -/

namespace Sys2Proof.Machine

open Sys2Proof

/-! ## Firmware images (R435, Table 20.1) -/

def fwSvn (b : Bytes) : Nat := fld b 4 1
/-- Length of an image from its header. -/
def fwLength (b : Bytes) : Nat := 4096 + fld b 16 4
def fwKey (b : Bytes) : Bytes := sub b 128 1312

/-- ROOT_KEY_HASH (R432). Details: DESIGN CHOICE, log entry 93. -/
def rootKeyHash : Bytes := (List.range 32).map Config.rootKeyHash

/-- The header's tests of R435, BODY_DIGEST and the rollback check apart. Details: DEDUCED, log entry 92. -/
def fwHeaderOk (b : Bytes) : Bool :=
  fld b 0 2 == 0x4657 && fld b 2 1 == 1 && sha3_256 (fwKey b) == rootKeyHash
    && Config.mldsaVerify (fwKey b) (sha3_256 (sub b 0 128)) (sub b 1440 2420)

/-- BODY_DIGEST matches the body. Details: DEDUCED, log entry 92. -/
def fwBodyOk (b : Bytes) : Bool := sha3_256 (sub b 4096 (fld b 16 4)) == sub b 20 32

/-- The image digest: over bytes 0 to 4,095 + BODY_LENGTH. Details: DEDUCED, log entry 92. -/
def fwDigest (b : Bytes) : Bytes := sha3_256 (sub b 0 (fwLength b))

/-- A slot that holds an image. -/
def fwSlotOf (b : Bytes) : FwSlot :=
  ⟨fwHeaderOk b && fwBodyOk b, fwSvn b, fld b 8 8, bit (fld b 3 1) 0, fwDigest b, b⟩

/-- Details: DEDUCED, log entry 92. -/
def State.fwSlot (s : State) (k : Nat) : FwSlot := mget s.sec.slots k FwSlot.empty
/-- The current slot of region 6, and the other. -/
def State.fwCurrent (s : State) : Nat := (s.region 6).slot
def State.fwTarget (s : State) : Nat := 1 - s.fwCurrent

/-- SEC_STATUS and SEC_STAGED_DIGEST follow the staged slot (Tables 20.6, 20.7). -/
def State.showStaged (s : State) (x : Option FwSlot) : State :=
  let s := s.wr F.SEC_STATUS_STAGED (b2n x.isSome)
  let (svn, d) := match x with | some x => (x.svn, x.digest) | none => (0, [])
  forEach [0, 1, 2, 3] (s.wr F.SEC_STATUS_STAGED_SVN svn) (fun w s => s.wrReg (R.SEC_STAGED_DIGEST w) (fld d (8 * w) 8))

def State.setSlotFw (s : State) (k : Nat) (x : FwSlot) : State :=
  { s with sec := { s.sec with slots := mput s.sec.slots k x } }

/-- Details: DEDUCED, log entry 92. -/
def State.setStaging (s : State) (x : Option Staging) : State :=
  { s with sec := { s.sec with staging := x } }.wr F.SEC_STATUS_STAGING (b2n x.isSome)

/-! ## FW_STAGE (R436, Table 20.2) -/

/-- An FW_STAGE fails: the slot is not STAGED. Details: DEDUCED, log entry 92. -/
def State.fwFail (s : State) (handle status : Nat) : State :=
  ((s.setStaging none).ev F.SEC_EVENTS_STAGE_FAILED).complete handle status 0 []

/-- The image's header is checked, and the erase of the slot begins (steps 1 and 2 of R436).
Details: DEDUCED, log entries 92, 98. -/
def State.fwBegin (s : State) (q : Sub) (image : Bytes) (last : Bool) : State :=
  let (s, h) := s.accept q
  if !fwHeaderOk image then s.fwFail h St.signatureInvalid
  else if fwSvn image < s.sec.fuses then s.fwFail h St.rollbackRefused
  else
    let s := (s.setSlotFw s.fwTarget FwSlot.empty).showStaged none
    s.setStaging (some ⟨q.chan, some h, last, s.fwTarget, image, 1⟩)

/-- A reserved byte of an FW_STAGE's mode is nonzero, or its mode is not its channel's.
Details: DEDUCED, log entry 92. -/
def fwParamsBad (q : Sub) (mode : Nat) : Bool :=
  let isLocal := match q.chan with | .loc _ => true | _ => false
  isLocal != (mode == 0) ||
    (if mode = 0 then q.p 1 1 != 0 || q.p 4 4 != 0 || !allZero (q.params.drop 24)
     else q.p 1 1 > 1 || q.p 2 2 != 0 || !allZero (sub q.params 8 24))

/-- FW_STAGE in mode 0: the image is read at acceptance. A poisoned word fails its digest.
Details: DEDUCED, log entry 13. -/
def execFwStageLocal (s : State) : Out :=
  s.withSub Op.fwStage (fun q => q.p 0 1 != 1) (fun q s =>
    let a := q.p 8 8
    let n := q.p 16 8
    let b := s.readBytes a n
    let poison := s.poisoned a n
    if q.p 0 1 > 1 || fwParamsBad q 0 || n < 4097 || n > 33554368 || !s.backed a n
        || (!poison && fwHeaderOk b && fwLength b != n) then s.refuse q St.badParam
    else if s.sec.staging.isSome || s.removable then s.refuse q St.busy
    else if s.isWorn 6 then s.refuse q St.keepWorn
    else if poison then
      let (s, h) := s.accept q
      s.fwFail h St.signatureInvalid
    else s.fwBegin q b true)

/-- FW_STAGE in mode 1: one piece, in order. Details: DEDUCED, log entry 92. -/
def execFwStagePiece (s : State) : Out :=
  s.withSub Op.fwStage (fun q => q.p 0 1 = 1) (fun q s =>
    let piece := q.params.drop 32
    let off := q.p 4 4
    let last := q.p 1 1 == 1
    let open_ := s.sec.staging
    let mine := match open_ with | some g => g.chan == q.chan | none => false
    let have_ := match open_ with | some g => g.received | none => []
    let image := if off = 0 then piece else have_ ++ piece
    let total := fwLength image
    let badLength := piece.isEmpty || (off = 0 && piece.length < 3860) || (off != 0 && mine && off != have_.length)
      || (last && image.length != total) || image.length > total
    if fwParamsBad q 1 || (off != 0 && open_.isNone) || badLength then s.refuse q St.badParam
    else if (open_.isSome && !mine) || s.removable then s.refuse q St.busy
    else if s.isWorn 6 then s.refuse q St.keepWorn
    else match open_ with
      | some g =>
        match g.handle with
        | some h =>
          if off = 0 then (s.complete h St.busy 0 []).fwBegin q piece last else s.refuse q St.busy
        | none =>
          if off = 0 then s.fwBegin q piece last
          else
            let (s, h) := s.accept q
            s.setStaging (some { g with handle := some h, last := last, received := image, phase := 2 })
      | none => s.fwBegin q piece last)

/-- The NOR operation of a staging ends: the erase is followed by the program, the last program by the read-back and the
tests of R435; a failed operation maps a spare sector and is done again. Details: DEDUCED, log entry 92. -/
def State.norStaging (s : State) (good : Bool) : State :=
  match s.sec.staging with
  | none => s
  | some g =>
    match g.handle with
    | none => s
    | some h =>
      if !good then
        let s := { s with keep := { s.keep with remapped := s.keep.remapped ++ [(6, g.slot)] } }
        ((s.ev F.KEEP_EVENTS_SECTOR_REMAPPED).keepNote 6 2).keepStart
      else if g.phase = 1 then s.setStaging (some { g with phase := 2 })
      else if !g.last then (s.setStaging (some { g with handle := none, phase := 0 })).complete h St.ok 0 []
      else
        let x := fwSlotOf g.received
        if !x.good then s.fwFail h St.signatureInvalid
        else if x.svn < s.sec.fuses then s.fwFail h St.rollbackRefused
        else (((s.setSlotFw g.slot x).setStaging none).showStaged (some x)).complete h St.ok 0 x.digest

/-- FW_STAGE_TIMEOUT: no piece for 60 s cancels the staging (R436). Details: DEDUCED, log entry 92. -/
def execFwStageTimeout (s : State) : Out :=
  match s.sec.staging with
  | some g => if g.phase = 0 then ok (s.setStaging none) else ok s
  | none => ok s

/-! ## FW_ACTIVATE (R437) -/

/-- The outcome of FW_ACTIVATE. Details: DEDUCED, log entry 92. -/
def State.fwActivateCheck (s : State) (slot when_ : Nat) : Nat :=
  let staged := s.flag F.SEC_STATUS_STAGED && slot == s.fwTarget
  let writing := match s.sec.staging with | some g => g.slot == slot | none => false
  if slot > 1 || when_ > 1 then St.badParam
  else if writing then St.busy
  else if slot != s.fwCurrent && !staged then St.badParam
  else if staged && (s.isWorn 6 || keepBudget 6 ≤ s.used 6) then St.keepWorn
  else if (s.fwSlot slot).svn < s.sec.fuses then St.rollbackRefused
  else St.ok

/-- The commit of region 6 that makes a STAGED slot current; a slot already current is not written.
Details: DEDUCED, log entry 92. -/
def State.fwCommit (s : State) (slot : Nat) : State :=
  if slot == s.fwCurrent then s else (s.keepCommit 6 (s.fwSlot slot).image).showStaged none

/-! ## Identity and attestation (R439, R442, R443) -/

/-- IDENTITY_READ: pages 0 to 106 of the identity record, 128 to 186 of the last signed log (R439).
Details: DESIGN CHOICE, log entry 81. -/
def execIdentityRead (s : State) : Out :=
  s.withSub Op.identityRead (fun _ => true) (fun q s =>
    let k := q.p 0 1
    if k ≤ 106 then s.short q St.ok (sub (identityBytes 0 5108) (48 * k) 48)
    else if 128 ≤ k && k ≤ 186 then s.short q St.ok (sub s.sec.log (48 * (k - 128)) 48)
    else s.short q St.badParam [])

/-- A digest held in four registers. Details: DEDUCED, log entry 94. -/
def State.regDigest (s : State) (r : Nat → Nat) : Bytes := [0, 1, 2, 3].flatMap (fun w => natLE 8 (s.rdReg (r w)))

/-- IMAGE_DIGEST of a terrace's valid live bank, or 32 zero bytes. Details: DEDUCED, log entry 94. -/
def State.liveDigest (s : State) (t : Nat) : Bytes :=
  if s.flag (F.SCHED_STATUS_LIVE_VALID t) then sub (s.liveBank t).header.digest 0 32 else zeros 32

/-- The seven measurements of Table 20.4. Details: DEDUCED, log entry 94. -/
def State.measurements (s : State) : List Bytes :=
  [s.regDigest R.SEC_FW_DIGEST, (List.range 32).map (Config.fused 2), plDigest s.age.plan,
   sha3_256 ((List.range 16).flatMap s.liveDigest), s.regDigest R.FAB_PLAN_DIGEST, sha3_256 (s.keepData 1),
   sha3_256 (s.keepData 9)]

/-- The signed attestation log (Table 20.4); the signature's bytes are free.
Details: DESIGN CHOICE, log entry 93; DEDUCED, log entry 94. -/
def State.attestLog (s : State) (nonce : Bytes) : Bytes :=
  let ms := s.measurements
  natLE 2 0x414C ++ [1, 7] ++ natLE 2 s.nodeId ++ natLE 1 s.profile ++ natLE 1 s.sec.fuses ++ natLE 8 s.now
    ++ sub nonce 0 32 ++ sha3_256 identityKey ++ zeros 48
    ++ (List.range 7).flatMap (fun i => natLE 1 (i + 1) ++ zeros 7 ++ sub (ms.getD i []) 0 32)
    ++ (List.range 2420).map (Config.cryptoByte s.fresh 5)

/-- ATTEST (R442): every measurement at one instant; OUT_ADDR on the local channel alone.
Details: DEDUCED, log entry 94. -/
def execAttest (s : State) : Out :=
  s.withSub Op.attest (fun _ => true) (fun q s =>
    let out := q.p 32 8
    let isLocal := match q.chan with | .loc _ => true | _ => false
    if (if isLocal then out % 64 != 0 || !s.backed out 2828 else out != 0) then s.refuse q St.badParam
    else
      let log := s.attestLog (sub q.params 0 32)
      let s := if isLocal then s.write out log else s
      let s := { s with sec := { s.sec with log := log } }.inc F.SEC_COUNTS_ATTESTS
      s.longNow q St.ok 0 (sha3_256 log))

/-! ## Sessions (R445–R448) -/

/-- Sessions close: their records and kept replies go with them. Details: DEDUCED, log entry 95. -/
def State.closeSessions (s : State) (sel : Session → Bool) : State :=
  let gone := (s.cmd.sessions.filter sel).map (·.sid)
  { s with cmd := { s.cmd with
    sessions := s.cmd.sessions.filter (fun x => !sel x)
    mgmt := s.cmd.mgmt.filter (fun r => !gone.contains r.session)
    kept := s.cmd.kept.filter (fun k => !gone.contains k.1) } }

/-- The tray and management channels are open in standby and from the end of B1 and B2 (R398, R474).
Details: DEDUCED, log entry 95. -/
def State.openFrom (s : State) (stage : Nat) : Bool :=
  s.ready || s.boot.standby || stage < s.rd F.NODE_STAGE_STAGE

/-- Whether the Gatehouse has power: no power failure holds (R378). Details: DEDUCED, log entry 95. -/
def State.alive (s : State) : Bool := !s.boot.failed

/-- OPERATOR_KEYS lists a key's digest (R445). Details: DEDUCED, log entry 95. -/
def State.operatorKnown (s : State) (key : Bytes) : Bool :=
  let d := s.keepData 9
  let h := sha3_256 key
  (List.range 16).any (fun i => sub d (32 * i) 32 == h && !allZero h)

/-- CLIENT_HELLO: encapsulation key, nonce, OPERATOR_KEY and signature (Table 20.5); answered with NODE_HELLO or refused in
silence (R446). The ciphertext, the node's nonce and its signature are free.
Details: DESIGN CHOICE, log entry 93; DEDUCED, log entry 95. -/
def execClientHello (client : Nat) (msg : Bytes) (s : State) : Out :=
  let key := sub msg 1216 1312
  let signed := sub msg 0 2528
  let good := msg.length == 4948 && s.operatorKnown key
    && Config.mldsaVerify key (sha3_256 (signed ++ natLE 2 s.nodeId)) (sub msg 2528 2420)
  if !s.alive || !s.openFrom 2 then ok s
  else match s.sec.sessKey with
    | some pub =>
      if good && s.cmd.sessions.length < 8 then
        let rnd := fun (kind n : Nat) => (List.range n).map (Config.cryptoByte s.fresh kind)
        let cert := sub (s.keepData 9) 5408 2420
        let part := rnd 6 1088 ++ rnd 7 32 ++ pub ++ cert
        let t := sha3_256 (msg ++ part)
        let sid := fld t 0 8
        let x : Session := ⟨sid, none, [], client, 0, 0⟩
        let s := { s with cmd := { s.cmd with sessions := s.cmd.sessions ++ [x] } }
        ok (s.send .nodeHello client [] (part ++ rnd 8 2420))
      else ok ((s.inc F.SEC_COUNTS_REFUSED).ev F.SEC_EVENTS_SESSION_REFUSED)
    | none => ok ((s.inc F.SEC_COUNTS_REFUSED).ev F.SEC_EVENTS_SESSION_REFUSED)

/-- Whether a session accepts a counter: new, and less than 1,024 below the highest accepted (R447).
Details: DEDUCED, log entry 95. -/
def Session.admits (x : Session) (counter : Nat) : Bool :=
  match x.highest with
  | none => true
  | some h => !x.accepted.contains counter && h < counter + 1024

/-- The session after it accepts a datagram. Details: DEDUCED, log entry 95. -/
def Session.take (x : Session) (counter client : Nat) : Session :=
  let h := match x.highest with | some h => max h counter | none => counter
  { x with highest := some h, accepted := (counter :: x.accepted).filter (fun c => h < c + 1024), client := client,
           received := x.received + 1 }

/-- A TYPE 3 datagram arrives: authenticated and with an acceptable counter, or discarded and counted (R447). A session
that has used its 2³² datagrams closes. Details: DESIGN CHOICE, log entry 93. -/
def State.datagram (s : State) (sid counter client : Nat) (auth : Bool) : State × Bool :=
  match s.cmd.sessions.find? (·.sid == sid) with
  | some x =>
    if 2 ^ 32 ≤ x.received || 2 ^ 32 ≤ x.sent then (s.closeSessions (·.sid == sid), false)
    else if s.alive && auth && x.admits counter then
      let upd := fun (y : Session) => if y.sid == sid then y.take counter client else y
      ({ s with cmd := { s.cmd with sessions := s.cmd.sessions.map upd } }, true)
    else (s.inc F.SEC_COUNTS_AUTH_FAILS, false)
  | none => (s.inc F.SEC_COUNTS_AUTH_FAILS, false)

/-- ACK: a record is acknowledged by KIND, HANDLE and TAG (R364). Details: DEDUCED, log entry 95. -/
def execAck (sid counter client : Nat) (auth : Bool) (kind : Fin 4) (handle tag : BitVec 32) (s : State) : Out :=
  let (s, taken) := s.datagram sid counter client auth
  if !taken then ok s
  else
    let hit := fun (r : MgmtRecord) => r.session == sid && fld r.record 0 1 % 4 == kind.val
      && fld r.record 8 4 == handle.toNat && fld r.record 12 4 == tag.toNat
    ok { s with cmd := { s.cmd with mgmt := s.cmd.mgmt.filter (fun r => !hit r) } }

/-- KEEPALIVE: answered with a KEEPALIVE (R464). Details: DEDUCED, log entry 95. -/
def execKeepalive (sid counter client : Nat) (auth : Bool) (s : State) : Out :=
  let (s, taken) := s.datagram sid counter client auth
  if taken then ok (s.mgmtSend sid 5 []) else ok s

/-- SESSION_TIMEOUT: 300 s without an authenticated datagram, 24 h, or 2³² datagrams (R447).
Details: DEDUCED, log entry 95. -/
def execSessionTimeout (sid : Nat) (s : State) : Out := ok (s.closeSessions (·.sid == sid))

/-- RECORD_RESEND: the record at a position of the list is sent again, or dropped after 50 sends (R364).
Details: DEDUCED, log entry 95. -/
def execRecordResend (k : Nat) (s : State) : Out :=
  match s.cmd.mgmt[k]? with
  | none => ok s
  | some r =>
    if 50 ≤ r.sends then
      ok ({ s with cmd := { s.cmd with mgmt := s.cmd.mgmt.eraseIdx k } }.ev F.NODE_CMD_EVENTS_MGMT_UNACKED)
    else
      let s := { s with cmd := { s.cmd with mgmt := lset s.cmd.mgmt k { r with sends := r.sends + 1 } } }
      ok (s.mgmtSend r.session 3 r.record)

/-! ## KEY_ROTATE (R448) -/

/-- The new session key pair's share of the site record: public key, certificate, and the private seed.
Details: DESIGN CHOICE, log entry 81. -/
def State.newKeyPair (s : State) : Bytes :=
  let rnd := fun (kind n : Nat) => (List.range n).map (Config.cryptoByte s.fresh kind)
  sub (rnd 2 1312 ++ rnd 3 2420 ++ rnd 4 32) 0 4096

/-- Both values of WHICH: the update of the site record is queued; the command completes at its commit.
Details: DESIGN CHOICE, log entry 81. -/
def State.keyRotate (s : State) (q : Sub) (pair : Bytes) (digest : Bytes) : State :=
  if s.removable || s.keep.updates.any (·.region == 9) then s.refuse q St.busy
  else if s.isWorn 9 then s.longNow q St.keepWorn 0 []
  else
    let (s, h) := s.accept q
    let d := s.keepData 9
    (s.keepPut 9 (patch (sub d 0 (max d.length 8192)) 4096 pair) (.keyRotate h digest)).keepStart

/-- KEY_ROTATE with WHICH 0. Details: DEDUCED, log entry 13; DESIGN CHOICE, log entry 81. -/
def execKeyRotateNew (s : State) : Out :=
  s.withSub Op.keyRotate (fun q => q.p 0 1 != 1) (fun q s =>
    if q.p 0 1 > 1 then s.refuse q St.badParam
    else
      let pair := s.newKeyPair
      s.keyRotate q pair (sha3_256 (pair.take 1312)))

/-- KEY_ROTATE with WHICH 1: the pair is erased. Details: DESIGN CHOICE, log entry 81. -/
def execKeyRotateErase (s : State) : Out :=
  s.withSub Op.keyRotate (fun q => q.p 0 1 = 1) (fun q s => s.keyRotate q (zeros 4096) (zeros 32))

/-- The commit of KEY_ROTATE: every open session closes, and the new pair is in force (R448).
Details: DESIGN CHOICE, log entry 81. -/
def State.keyRotated (s : State) (handle : Nat) (digest : Bytes) : State :=
  let key := if allZero digest then none else some (sub (s.keepData 9) 4096 1312)
  let s := { s with sec := { s.sec with sessKey := key } }.wr F.SEC_STATUS_SESSION_KEY (b2n key.isSome)
  ((s.ev F.SEC_EVENTS_KEY_ROTATED).complete handle St.ok 0 digest).closeSessions (fun _ => true)

end Sys2Proof.Machine
end

