-- ==== Sys2Proof/Machine/Panel.lean ====
section
/-! DEFINITION. The management port and the tray service bus (chapter 21), and the end of a NOR operation with what follows
the commit of a Keep update. -/

namespace Sys2Proof.Machine

open Sys2Proof

/-! ## Management port (R460–R462) -/

/-- MAC address (R460). Details: PRESUMED, log entry 96. -/
def macBytes : Bytes :=
  let h := sub (sha3_256 identityKey) 0 6
  patch h 0 (natLE 1 (setBit (setBit (fld h 0 1) 1 true) 0 false))

/-- Interface identifier (R461). Details: PRESUMED, log entry 96. -/
def interfaceId : Bytes := sub (sha3_256 identityKey) 8 8

/-- Link-local address: fe80::/64 with the interface identifier. -/
def linkLocal : Bytes := [0xFE, 0x80] ++ zeros 6 ++ interfaceId

/-- Store a 16-byte address in two registers. -/
def State.setAddr (s : State) (r : Nat → Nat) (a : Bytes) : State :=
  (s.wrReg (r 0) (fld a 0 8)).wrReg (r 1) (fld a 8 8)
def State.getAddr (s : State) (r : Nat → Nat) : Bytes := natLE 8 (s.rdReg (r 0)) ++ natLE 8 (s.rdReg (r 1))

/-- Apply the configuration of Table 21.4; an entry out of range takes the value in brackets (R462). An address that SLAAC has
formed stays.
Details: PRESUMED, log entry 96. -/
def State.mgmtConfig (s : State) : State :=
  let c := sub (s.keepData 9) 512 64
  let mode := fld c 0 1
  let fec := fld c 1 1
  let udp := fld c 2 2
  let mtu := fld c 4 2
  let len := fld c 6 1
  let static_ := mode == 1
  let mtuOk := mtu == 0 || (1280 ≤ mtu && mtu ≤ 9000)
  let lenOk := !static_ || (1 ≤ len && len ≤ 128)
  let kept := !static_ && !s.flag F.PANEL_MGMT_STATIC && s.flag F.PANEL_MGMT_ADDR_VALID
  let s := (s.wr F.PANEL_MGMT_FEC (if fec ≤ 2 then fec else 2)).wr F.PANEL_MGMT_STATIC (b2n static_)
  let s := (s.wr F.PANEL_MGMT_UDP_PORT (if udp = 0 then 47110 else udp)).wr F.PANEL_MGMT_MTU
    (if mtuOk && mtu != 0 then mtu else 1500)
  let s := s.wr F.PANEL_MGMT_PREFIX_LEN (if kept then s.rd F.PANEL_MGMT_PREFIX_LEN else if !static_ then 0 else if lenOk then len else 64)
  let s := (s.wr F.PANEL_MGMT_CONFIG_BAD (b2n (mode > 1 || fec > 2 || !mtuOk || !lenOk))).wr F.PANEL_MGMT_ADDR_VALID
    (b2n (static_ || kept))
  let s := if kept then s else s.setAddr R.PANEL_MGMT_ADDR (if static_ then sub c 8 16 else [])
  (s.setAddr R.PANEL_MGMT_LL linkLocal).wr F.PANEL_MGMT_MAC_MAC (leNat macBytes)

/-- ROUTER_ADVERTISEMENT: in SLAAC mode a /64 prefix for autonomous configuration forms the global address; the first one
stays in force (R461). Details: PRESUMED, log entry 96. -/
def execRouterAdvertisement (pfx : Bytes) (len : Fin 129) (auto : Bool) (life : BitVec 32) (s : State) : Out :=
  let linkPfx := fld pfx 0 1 == 0xFE && fld pfx 1 1 / 64 == 2
  if !s.alive || !s.flag F.PANEL_MGMT_LINK_UP || s.flag F.PANEL_MGMT_STATIC || s.flag F.PANEL_MGMT_ADDR_VALID || !auto
      || len.val != 64 || life == 0 || linkPfx then ok s
  else
    let s := s.setAddr R.PANEL_MGMT_ADDR (sub pfx 0 8 ++ interfaceId)
    ok ((s.wr F.PANEL_MGMT_PREFIX_LEN 64).wr F.PANEL_MGMT_ADDR_VALID 1)

/-- Whether an address is the node's: link-local, or the global one in force. Details: PRESUMED, log entry 96. -/
def State.ownAddr (s : State) (a : Bytes) : Bool :=
  a == s.getAddr R.PANEL_MGMT_LL || (s.flag F.PANEL_MGMT_ADDR_VALID && a == s.getAddr R.PANEL_MGMT_ADDR)

/-- NEIGHBOUR_DISCOVERY: a solicitation of an own address is answered with the MAC address (R461).
Details: PRESUMED, log entry 96. -/
def execNeighbourDiscovery (target src : Bytes) (s : State) : Out :=
  if s.alive && s.flag F.PANEL_MGMT_LINK_UP && s.ownAddr target then
    ok (s.send .neighbour (leNat src) [] (target ++ macBytes))
  else ok s

/-- ICMPV6_ECHO: an echo request to an own address is answered with its data (R461). Details: PRESUMED, log entry 96. -/
def execIcmpv6Echo (dst src data : Bytes) (s : State) : Out :=
  if s.alive && s.flag F.PANEL_MGMT_LINK_UP && s.ownAddr dst then ok (s.send .icmpv6 (leNat src) [] data) else ok s

/-- MGMT_LINK_CHANGE (R460). Details: PRESUMED, log entry 96. -/
def execMgmtLinkChange (up : Bool) (s : State) : Out :=
  if !s.alive || s.flag F.PANEL_MGMT_LINK_UP == up then ok s
  else ok ((s.wr F.PANEL_MGMT_LINK_UP (b2n up)).ev F.PANEL_EVENTS_MGMT_LINK)

/-! ## Tray service bus (R465–R467) -/

/-- The bus is served: the Gatehouse runs, from the end of B1 on (R398), or its ROM alone (R434). -/
def State.trayOpen (s : State) : Bool := s.alive && (s.openFrom 1 || s.boot.romHold)

/-- A CCC or private transfer reaches the target only with its dynamic address. Details: PRESUMED, log entry 96. -/
def State.addressed (s : State) (f : State → State) : Out :=
  if s.alive && s.flag F.PANEL_TSB_ADDR_VALID then ok (f s) else ok s

/-- Details: PRESUMED, log entry 96. -/
def execRstdaa (s : State) : Out :=
  if s.alive then ok ((s.wr F.PANEL_TSB_DYN_ADDR 0).wr F.PANEL_TSB_ADDR_VALID 0) else ok s

/-- SETDASA: the static address is 0x30 plus the straps; a target that has its address keeps it.
Details: PRESUMED, log entry 96. -/
def execSetdasa (static_ dyn : Fin 128) (s : State) : Out :=
  if s.alive && !s.flag F.PANEL_TSB_ADDR_VALID && static_.val == 0x30 + s.panel.strap then
    ok ((s.wr F.PANEL_TSB_DYN_ADDR dyn).wr F.PANEL_TSB_ADDR_VALID 1)
  else ok s

/-- ENEC: bit 0 of the event byte enables in-band interrupts; queued records raise one at once. -/
def execEnec (events : Fin 256) (s : State) : Out :=
  s.addressed (fun s => if bit events 0 then (s.wr F.PANEL_TSB_IBI_ENABLED 1).ibi else s)

def execDisec (events : Fin 256) (s : State) : Out :=
  s.addressed (fun s => if bit events 0 then s.wr F.PANEL_TSB_IBI_ENABLED 0 else s)

/-- What a GET CCC returns: the bus specification's registers, whose values this manual does not give, are free.
Details: PRESUMED, log entry 96. -/
def State.cccFree (s : State) (code n : Nat) : Out :=
  s.addressed (fun s => s.send .trayData 0 [code] ((List.range n).map (fun i => Config.freeByte s.fresh i)))

/-- Details: PRESUMED, log entry 96. -/
def execGetstatus (s : State) : Out := s.cccFree 0x90 2
/-- Details: PRESUMED, log entry 96. -/
def execGetbcr (s : State) : Out := s.cccFree 0x8E 1
/-- Details: PRESUMED, log entry 96. -/
def execGetdcr (s : State) : Out := s.cccFree 0x8F 1

/-- GETMWL: two bytes, the more significant first. Details: PRESUMED, log entry 96. -/
def execGetmwl (s : State) : Out := s.addressed (fun s => s.send .trayData 0 [0x8B] (natLE 2 s.panel.mwl).reverse)
/-- GETMRL: two bytes, the more significant first, and the one byte of an in-band interrupt.
Details: PRESUMED, log entry 96. -/
def execGetmrl (s : State) : Out := s.addressed (fun s => s.send .trayData 0 [0x8C] ((natLE 2 s.panel.mrl).reverse ++ [1]))

/-- SETMWL: at most 4,161 bytes. Details: PRESUMED, log entry 96. -/
def execSetmwl (n : Fin 65536) (s : State) : Out :=
  s.addressed (fun s => { s with panel := { s.panel with mwl := min n.val 4161 } })
/-- SETMRL: at most 64 bytes. Details: PRESUMED, log entry 96. -/
def execSetmrl (n : Fin 65536) (s : State) : Out :=
  s.addressed (fun s => { s with panel := { s.panel with mrl := min n.val 64 } })

/-- FUNCTION 0x02 and 0x03 select what reads return (Table 21.7). Details: PRESUMED, log entry 96. -/
def State.traySelect (s : State) (k : Nat) : Out :=
  if s.trayOpen then s.addressed (fun s => { s with cmd := { s.cmd with traySelect := k } }) else ok s

/-- Details: PRESUMED, log entry 96. -/
def execTsbReplySelect (s : State) : Out := s.traySelect 1
/-- Details: PRESUMED, log entry 96. -/
def execTsbRecordSelect (s : State) : Out := s.traySelect 2

/-- TSB_RECORD_READ: a private read of n bytes returns the selected item; all 64 bytes of a record remove it (R467).
Details: PRESUMED, log entry 96. -/
def execTsbRecordRead (n : Fin 65) (s : State) : Out :=
  if !s.trayOpen then ok s
  else
    s.addressed (fun s =>
      let n := min n.val s.panel.mrl
      let item := if s.cmd.traySelect = 1 then (if s.cmd.trayReply.isEmpty then mkReply 0 0 0 0 0 0 [] else s.cmd.trayReply)
        else if s.cmd.traySelect = 2 then s.cmd.tray.headD (zeros 64) else zeros 64
      let s := s.send .trayData 0 [] (sub item 0 n)
      if s.cmd.traySelect = 2 && n = 64 then { s with cmd := { s.cmd with tray := s.cmd.tray.drop 1 } }.ibi else s)

/-! ## NOR operations (R376, R377, R436) -/

/-- What follows the commit of a Keep update. Details: DEDUCED, log entry 80. -/
def State.keepThen (s : State) (t : KeepThen) : State :=
  match t with
  | .none => s
  | .reply q => s.short q St.ok []
  | .replan _ => s.replanStored
  | .keyRotate h d => s.keyRotated h d
  | .ckptDone => s.ckptCached

/-- A commit that changes the management configuration takes effect at once and closes every session (R462). -/
def State.siteChanged (s : State) (before : Bytes) : State :=
  if sub (s.keepData 9) 512 64 == before then s else s.mgmtConfig.closeSessions (fun _ => true)

/-- NOR_OPERATION_DONE: the operation ends, well or not, and the update moves to its next step.
Details: DEDUCED, log entry 80. -/
def execNorOperationDone (op : NorOp) (good : Bool) (s : State) : Out :=
  if !s.alive then ok s
  else match op with
    | .update =>
      let before := sub (s.keepData 9) 512 64
      let (s, t) := s.norUpdate good
      ok ((s.keepThen t).siteChanged before).ageBudgets.removalProceed
    | .erase g => ok (s.norErase g good).ageBudgets.removalProceed
    | .staging => ok (s.norStaging good).removalProceed

end Sys2Proof.Machine
end

