-- ==== Sys2Proof/Machine/Reset.lean ====
section
/-! DEFINITION. Bring-up and reset (chapter 18): partial resets, the full module reset, the twelve stages with their reports,
and the commands that start them. -/

namespace Sys2Proof.Machine

open Sys2Proof

/-! ## Partial resets (R100, R402–R407) -/

/-- The units of a spire are reset: core, queues, engines, vector state, amax slots, contexts; the engines stop with what they had
already issued written (R100, R119, R148, R407). Details: DEDUCED, log entry 85. -/
def State.resetSpire (s : State) (n : Nat) : State :=
  let s := ((s.stopTensor n).stopMover n).stopSv n
  let s := ((s.dropAllCtx n).setSp n Spire.init).resetVec n
  let s := forEach (List.range 64) s (fun i s => s.wrReg (R.SPIRE_AMAX n i) 0)
  (s.setCore n 0).showQueues n

/-- Requests of reset engines stay outstanding, their replies unheard (R297). Details: DEDUCED, log entry 85. -/
def State.loseWaiters (s : State) (spires : List Nat) (dome : Bool) : State :=
  s.forget (fun w => match w with
    | .core n .. => spires.contains n
    | .corePost n _ => spires.contains n
    | .unit n _ => spires.contains n
    | .hart .. => dome
    | .hartPost _ => dome
    | _ => false)

/-- A terrace's compute units are reset: its sequencer stops, with one kind-3 record (R97, R100, R406).
Details: DEDUCED, log entry 85. -/
def State.resetTerrace (s : State) (t : Nat) : State :=
  let stepNow := if (s.tr t).inStep then s.rd (F.SCHED_STEP_STEP t) else s.step
  let s := s.resetSolver t
  let s := forEach (spiresOf t) s (fun n s => s.resetSpire n)
  let r := s.tr t
  let s := s.setTr t { r with inStep := false, entries := [], ctrSource := [], waitBoundary := true }
  let s := (s.countRunning t).wr (F.SCHED_STATUS_STATE t) 3
  let s := { s with
    resv := s.resv.filter (fun x => x.1 / 18 != t)
    coll := { s.coll with sends := s.coll.sends.filter (fun f => f.terr != t) }
    check := { s.check with
      hashQueue := s.check.hashQueue.filter (fun h => h.1 != t)
      twins := s.check.twins.filter (fun x => x.pair != t % 8)
      pairSeq := s.check.pairSeq.filter (fun x => x.1 / 512 != t % 8) } }
  (s.outcome t 0xFFFF 0 3 St.nodeResetting 0 (stepNow % 2 ^ 40) []).ageAbort t

/-- A partial reset begins. Details: DEDUCED, log entry 85. -/
def State.resetBegin (s : State) (scope index : Nat) (ts : List Nat) : State :=
  let halted := ts.filter (fun t => s.rd (F.SCHED_STATUS_STATE t) == 2)
  let s := forEach ts s (fun t s => s.resetTerrace t)
  let s := (s.collReset ts).loseWaiters (ts.flatMap spiresOf) (scope == 2)
  let s := s.wr F.NODE_RESET_TERRACES (maskOf ts)
  let s := if scope = 0 then s.inc F.NODE_RESET_COUNTS_TERRACE
    else if scope = 1 then
      (s.wr F.NODE_RESET_TOWERS (if ts.length = 16 then 3 else 2 ^ index)).inc F.NODE_RESET_COUNTS_TOWER
    else
      let s := ((s.wr F.NODE_RESET_TOWERS 3).wr F.NODE_RESET_NODE 1).inc F.NODE_RESET_COUNTS_NODE
      { s with harts := [], domeLines := [] }.recordEnd
  { s with preset := some ⟨scope, index, ts, halted⟩ }

/-- RESET_SCOPE: the rows of Table 18.4 after its parameters. Details: DEDUCED, log entry 85. -/
def State.resetScope (s : State) (q : Sub) (ts : Nat → List Nat) (off : Nat → Bool) : State :=
  let scope := q.p 0 1
  let i := q.p 1 1
  if !s.ready || s.preset.isSome || s.flag F.NODE_PROFILE_SWITCHING then s.short q St.busy []
  else if off i then s.short q St.ok []
  else (s.short q St.ok []).resetBegin scope i (ts i)

/-- RESET_SCOPE with SCOPE 0; in the Sealed profile the pair member too (R31). Details: DEDUCED, log entry 13. -/
def execTerraceComputeReset (s : State) : Out :=
  s.withSub Op.resetScope (fun q => q.p 0 1 = 0 || q.p 0 1 > 3) (fun q s =>
    if q.p 0 1 > 3 || q.p 1 1 > 15 then s.short q St.badParam []
    else s.resetScope q s.members (fun t => !s.powered t || bit (s.rd F.AGE_STATUS_RETIRED) t))

/-- RESET_SCOPE with SCOPE 1; in the Sealed profile both Tower dies. Details: DEDUCED, log entry 85. -/
def execTowerDieComputeReset (s : State) : Out :=
  s.withSub Op.resetScope (fun q => q.p 0 1 = 1) (fun q s =>
    if q.p 1 1 > 1 then s.short q St.badParam []
    else s.resetScope q (fun d => if s.sealed then List.range 16 else (List.range 8).map (fun k => 8 * d + k))
      (fun _ => false))

/-- RESET_SCOPE with SCOPE 2. Details: DEDUCED, log entry 85. -/
def execNodeComputeReset (s : State) : Out :=
  s.withSub Op.resetScope (fun q => q.p 0 1 = 2) (fun q s =>
    if q.p 1 1 != 0 then s.short q St.badParam [] else s.resetScope q (fun _ => List.range 16) (fun _ => false))

/-- The Gatehouse starts Dome hart 0 at the Dome loader (Table 18.1, R407); where the loader lies is the firmware's.
Details: DEDUCED, log entries 85, 87. -/
def State.startHart0 (s : State) : State :=
  s.setHart 0 { Hart.init with pc := BitVec.ofNat 64 (Config.freeNat s.fresh 0xD0) }

/-- PARTIAL_RESET_END: the units are released, the terraces take their power states, and their sequencers wait for the next
boundary (R407). Details: DEDUCED, log entry 85. -/
def execPartialResetEnd (s : State) : Out :=
  match s.preset with
  | none => ok s
  | some p =>
    let s := { s with preset := none }
    let s := ((s.wr F.NODE_RESET_TERRACES 0).wr F.NODE_RESET_TOWERS 0).wr F.NODE_RESET_NODE 0
    let s := forEach p.terraces s (fun t s =>
      let st := if !bit s.jobMask t then 0 else if p.halted.contains t then 2 else 1
      ((s.wr (F.SCHED_STATUS_STATE t) st).settlePower t).startParts t)
    ok (if p.scope = 2 then s.startHart0 else s)

/-! ## Full module reset (R396, R409, R410) -/

/-- The plan images of the Keep's cache region, in their order (R293). Details: DEDUCED, log entry 86. -/
def parseCache : Nat → Bytes → List Bytes
  | 0, _ => []
  | n + 1, b => if b.isEmpty then [] else sub b 0 (planLength b) :: parseCache n (b.drop (planLength b))

/-- The state with every unit but the Gatehouse's standby part without power: what the Keep, the fuses, the straps and the
front edge hold stays. Details: DEDUCED, log entry 86. -/
def State.cold (s : State) : State :=
  let keptRegs := [R.PANEL_CABLES, R.NODE_SUPPLY, R.PANEL_MGMT, R.PANEL_MGMT_MAC, R.NODE_THERMAL, R.NODE_ENV_EVENTS] ++ (List.range 2).flatMap (fun w => [R.PANEL_MGMT_ADDR w, R.PANEL_MGMT_LL w])
  let r : State := { State.reset with
    keep := s.keepAbandon.keep
    age := { Ageing.init with hist := s.age.hist, rearmed := s.age.rearmed }
    sec := { s.sec with staging := none, log := [] }
    panel := { Panel.init with short := s.panel.short, unpowered := s.panel.unpowered, cables := s.panel.cables, strap := s.panel.strap, pos := s.panel.pos }
    boot := { Boot.init with fell := s.boot.fell }
    out := s.out
    fresh := s.fresh
    pending := s.pending }
  let r := keptRegs.foldl (fun r a => r.wrReg a (s.rdReg a)) r
  let r := { r with net := { r.net with cache := parseCache 8 (r.keepData 5) } }
  let r := (r.wr F.PANEL_CABLES_WARNED 0).wr F.NODE_STAGE_BRINGUPS s.keep.bringups
  let r := (r.wrReg R.NODE_THERMAL 0).wr F.NODE_THERMAL_TRIP_UNIT (s.rd F.NODE_THERMAL_TRIP_UNIT)
  let r := (r.wrReg R.NODE_ENV_EVENTS 0).wr F.NODE_ENV_EVENTS_TRIP (s.rd F.NODE_ENV_EVENTS_TRIP)
  ((forEach (List.range 10) r (fun g r => r.showRegion g)).wr F.KEEP_STATUS_DAMAGED 0).showCounters

/-- A full module reset with its cause: bring-up from B0, when MAIN_EN is high (R474).
Details: DEDUCED, log entry 86. -/
def State.fullReset (s : State) (cause : Nat) : State :=
  let r := s.cold
  let main := s.flag F.NODE_SUPPLY_MAIN_EN
  { r with boot := { r.boot with standby := !main, fell := !main && s.boot.fell } }.wr F.NODE_RESET_CAUSE cause

/-- The compute dies lose power and the Gatehouse runs on in standby: its sessions, queues and staging stay; the node's part
in any job ends (R475, R479). Commands whose work was on those dies never complete. Details: DEDUCED, log entry 26. -/
def State.powerDown (s : State) : State :=
  let r := s.cold
  let gate := [R.PANEL_STATUS, R.PANEL_EVENTS, R.PANEL_COUNTS, R.PANEL_TSB, R.PANEL_CTRL, R.NODE_RESET, R.NODE_CMD_EVENTS,
      R.NODE_CMD_COUNTS, R.SEC_STATUS, R.SEC_FW_VERSION, R.SEC_EVENTS, R.SEC_COUNTS, R.NODE_THERMAL, R.NODE_ENV_EVENTS,
      R.KEEP_EVENTS, R.KEEP_STATUS, R.KEEP_SEQ, R.PANEL_CABLES] ++ [0, 1, 2, 3].flatMap (fun w => [R.SEC_FW_DIGEST w, R.SEC_STAGED_DIGEST w, R.SEC_ROOT_HASH w])
      ++ (List.range 10).map R.PORT_CABLE
  let r := gate.foldl (fun r a => r.wrReg a (s.rdReg a)) r
  let work := fun (l : LongCmd) => l.opcode == Op.fwStage || l.opcode == Op.keyRotate
  { r with
    keep := s.keep
    sec := s.sec
    panel := s.panel
    cmd := { s.cmd with slots := [], waiting := [], remotes := [], longs := s.cmd.longs.filter work }
    boot := { r.boot with standby := true, fell := s.boot.fell } }

/-- FULL_MODULE_RESET: RESET_SCOPE with SCOPE 3, on the tray service bus (Table 18.4).
Details: DEDUCED, log entry 86. -/
def execFullModuleReset (s : State) : Out :=
  s.withSub Op.resetScope (fun q => q.p 0 1 = 3) (fun q s =>
    if q.p 1 1 != 0 then s.short q St.badParam [] else (s.short q St.ok []).fullReset 1)

/-- FW_ACTIVATE (R437): with WHEN 1 a full module reset of cause 3 follows the reply. Details: DEDUCED, log entry 86. -/
def execFwActivate (s : State) : Out :=
  s.withSub Op.fwActivate (fun _ => true) (fun q s =>
    let slot := q.p 0 1
    let st := s.fwActivateCheck slot (q.p 1 1)
    if st != St.ok then s.short q st []
    else
      let s := (s.fwCommit slot).short q St.ok []
      if q.p 1 1 = 1 then s.fullReset 3 else s)

/-- WATCHDOG_EXPIRY: no firmware heartbeat for 1 s (Table 18.7). Details: DEDUCED, log entry 86. -/
def execWatchdogExpiry (s : State) : Out := if s.alive then ok (s.fullReset 2) else ok s

/-- TRAY_RESET_PULSE (R468, R479). Details: DEDUCED, log entry 86. -/
def execTrayResetPulse (s : State) : Out := if s.alive then ok (s.fullReset 4) else ok s

/-! ## Stage reports (R399, R400) -/

/-- A 32-byte stage report (Table 18.2). Details: DEDUCED, log entry 87. -/
def stageReport (k result status elapsed detail mask : Nat) : Bytes :=
  natLE 1 k ++ natLE 1 result ++ natLE 2 status ++ natLE 4 elapsed ++ natLE 2 detail ++ zeros 6 ++ natLE 16 mask

/-- The report of a stage of the current bring-up; RESULT 3 for one not reached. Details: DEDUCED, log entry 87. -/
def State.reportOf (s : State) (k : Nat) : Bytes :=
  match mfind s.boot.reports k with
  | some r => r
  | none => stageReport k 3 0 0 0 0

/-- The bring-up record (R400). Details: DEDUCED, log entry 87. -/
def State.bringupRecord (s : State) : Bytes :=
  natLE 8 s.keep.bringups ++ natLE 8 s.keep.powerOnS ++ natLE 8 (s.rdReg R.SEC_FW_VERSION) ++ natLE 1 (s.rd F.NODE_RESET_CAUSE)
    ++ zeros 39 ++ (List.range 12).flatMap s.reportOf ++ zeros 64

/-- The record is appended once. Details: DEDUCED, log entry 87. -/
def State.appendBringup (s : State) : State :=
  if s.boot.appended then s
  else { s with boot := { s.boot with appended := true } }.keepAppend 4 s.bringupRecord

/-- A stage ends: its report, LAST_STATUS and the STAGE event. -/
def State.report (s : State) (k result status elapsed detail mask : Nat) : State :=
  let r := stageReport k result status elapsed detail mask
  let s := { s with boot := { s.boot with reports := mput s.boot.reports k r } }.wr F.NODE_STAGE_LAST_STATUS status
  let s := if result = 1 then s.wr F.NODE_STAGE_DEGRADED 1 else s
  s.raiseEvent Ev.stage status k r

/-- The compute dies are powered down; at a failure of B7 the ports that are UP stay UP (R397). -/
def State.unpower (s : State) (keepPorts : Bool) : State :=
  let s := forEach (List.range 16) s (fun t s => s.setPower t 0)
  forEach (List.range 10) s (fun p s =>
    if keepPorts && s.portState p == Port.up then s else (s.portIdle p).setPort p Port.off)

/-- A stage fails: one restart from B0 for B3, B4, B5 and B7, else the node holds (R397).
Details: DEDUCED, log entry 87. -/
def State.stageFail (s : State) (k status elapsed detail mask : Nat) : State :=
  let s := s.report k 2 status elapsed detail mask
  let s := if 2 ≤ k then s.appendBringup else s
  if (k == 3 || k == 4 || k == 5 || k == 7) && !s.flag F.NODE_STAGE_RETRIED then
    let s := s.unpower false
    let s := { s with mem := [], poison := [], undef := [], boot := { s.boot with reports := [], appended := false } }
    ((s.wr F.NODE_STAGE_STAGE 0).wr F.NODE_STAGE_RETRIED 1).wr F.NODE_STAGE_DEGRADED 0
  else
    let s := s.unpower (k == 7)
    ({ s with boot := { s.boot with romHold := k == 1 } }).wr F.NODE_STAGE_STATE 2

/-- The newest stored margin plan whose digest verifies (R390). -/
def State.storedPlan (s : State) : Option Bytes :=
  if s.keep.damaged.contains 2 then none else ((s.region 2).recs.map (·.2)).find? planVerifies

/-- The next stage begins; at B7 every enabled port with its cable trains, without the lanes that the plan B8 applies takes
out of service, and the others wait (R274).
Details: DEDUCED, log entry 87. -/
def State.stageNext (s : State) (k : Nat) : State :=
  let s := s.wr F.NODE_STAGE_STAGE (k + 1)
  if k + 1 != 7 then s
  else forEach (List.range 10) s (fun p s =>
    let s := s.wr (F.PORT_STATUS_LANES_OOS p) (plOos (s.storedPlan.getD factoryPlan) p)
    if !s.flag (F.PORT_STATUS_ENABLED p) then s
    else if s.flag (F.PORT_CABLE_PRESENT p) && !s.panel.unpowered.contains p then s.startTraining p
    else s.setPort p Port.wait)

/-- A stage passes, degraded or not. Details: DEDUCED, log entry 87. -/
def State.stagePass (s : State) (k : Nat) (degraded : Bool) (status elapsed detail mask : Nat) : State :=
  (s.report k (b2n degraded) status elapsed detail mask).stageNext k

/-! ## What each stage does (Table 18.1) -/

/-- B0 senses the receptacles and reads the cable memories: the PORTn_CABLE registers show them from here on.
Details: DESIGN CHOICE, log entry 105. -/
def State.senseCables (s : State) : State :=
  forEach (List.range 10) s (fun p s =>
    let m := mget s.panel.cables p (0, 0)
    let s := (s.wr (F.PORT_CABLE_PRESENT p) (b2n (s.cablePresent p))).wr (F.PORT_CABLE_LATCH p) (b2n (s.latched p))
    (s.wr (F.PORT_CABLE_TYPE p) m.1).wr (F.PORT_CABLE_LENGTH_DM p) m.2)

/-- B1: the first-choice slot, else the other (R433, R435). `unreadable` marks slots that do not verify as read.
Details: DEDUCED, log entry 87. -/
def State.stageB1 (s : State) (elapsed unreadable : Nat) : State :=
  let first := s.fwCurrent
  let sound := fun (k : Nat) => (s.fwSlot k).good && !bit unreadable k
  let passes := fun (k : Nat) => sound k && s.sec.fuses ≤ (s.fwSlot k).svn
  let boot := fun (k : Nat) (s : State) =>
    let x := s.fwSlot k
    let s := ((s.wr F.SEC_STATUS_BOOT_SLOT k).wr F.SEC_STATUS_FALLBACK (b2n (k != first))).wr F.SEC_STATUS_ACTIVE_SVN x.svn
    let s := (s.wr F.SEC_STATUS_COUNTER s.sec.fuses).wrReg R.SEC_FW_VERSION x.version
    let s := forEach [0, 1, 2, 3] s (fun w s =>
      (s.wrReg (R.SEC_FW_DIGEST w) (fld x.digest (8 * w) 8)).wrReg (R.SEC_ROOT_HASH w) (fld rootKeyHash (8 * w) 8))
    let s := if k != first then s.ev F.SEC_EVENTS_FALLBACK_BOOT else s
    s.stagePass 1 (k != first) St.ok elapsed k 0
  if passes first then boot first s
  else if passes (1 - first) then boot (1 - first) s
  else s.stageFail 1 (if sound first || sound (1 - first) then St.rollbackRefused else St.signatureInvalid) elapsed 0 0

/-- B2: the Keep is recovered (R380), each DAMAGED region is logged (Table 17.9), and the counter set is folded into the
Counters region (R375); `torn` says that torn records were found, bits 0–9 of `damaged` name the DAMAGED regions,
and bit 10 says that no checkpoint record was found and the Keep was rebuilt: a ring region named then starts empty. Details: DEDUCED, log entry 87. -/
def State.stageB2 (s : State) (elapsed : Nat) (good torn : Bool) (found damaged : Nat) : State :=
  if !good then s.stageFail 2 St.deadlineMissed elapsed 0 0
  else
    let rebuilt := bit damaged 10
    let bad := (bitList damaged 10).filter (fun g => keepSlotted g || !rebuilt)
    let lost := (bitList damaged 10).filter (fun g => !keepSlotted g && rebuilt)
    let s := forEach lost s (fun g s => s.setRegion g { s.region g with recs := [] })
    let s := { s with keep := { s.keep with damaged := bad, bringups := (s.keep.bringups + 1) % 2 ^ 32 } }
    let s := (forEach (List.range 10) s (fun g s => s.showRegion g)).counterRecord.showCounters
    let s := (s.wr F.NODE_STAGE_BRINGUPS s.keep.bringups).wr F.KEEP_STATUS_REBUILT (b2n rebuilt)
    let s := if torn then s.ev F.KEEP_EVENTS_TORN else s
    let s := if bad.isEmpty then s else s.ev F.KEEP_EVENTS_DAMAGED
    let key := if bad.contains 9 then none else s.sec.sessKey
    let s := ({ s with sec := { s.sec with sessKey := key } }.wr F.SEC_STATUS_SESSION_KEY (b2n key.isSome)).mgmtConfig
    if bad.contains 0 then s.stageFail 2 St.digestMismatch elapsed found (maskOf bad)
    else
      let deg := torn || !bad.isEmpty
      let s := (forEach bad s (fun g s => s.keepNote g 1)).keepAppend 8 s.foldData
      (s.wr F.KEEP_STATUS_READY 1).stagePass 2 deg (if deg then St.digestMismatch else St.ok) elapsed found (maskOf bad)

/-- B5: both tiers are trained and zeroed; bits 0–7 and 8–23 name stacks and packages that do not train. -/
def State.stageB5 (s : State) (elapsed : Nat) (good : Bool) (mask : Nat) : State :=
  let s := forEach (List.range 8) s (fun k s => s.wr (F.MEM_STACK_TRAINED k) (b2n (!bit mask k)))
  let s := forEach (List.range 16) s (fun k s => s.wr (F.MEM_PKG_TRAINED k) (b2n (!bit mask (8 + k))))
  if !good || mask % 2 ^ 24 != 0 then s.stageFail 5 St.deadlineMissed elapsed 0 (mask % 2 ^ 24)
  else { s with mem := [], poison := [], undef := [] }.stagePass 5 false St.ok elapsed 0 0

/-- The good physical spires of a die: those that neither the fuses nor the Keep's defect map mark failed; a DAMAGED region
contributes nothing (R18, R401). Details: DESIGN CHOICE, log entry 105. -/
def State.goodMask (s : State) (die fuses : Nat) : Nat :=
  let d := (s.region 1).data
  let marks := if s.keep.damaged.contains 1 || d.isEmpty then 0 else Config.defectMap die d % 2 ^ 160
  (2 ^ 160 - 1 - marks) &&& fuses

/-- B6: the defect map is applied (R401) to what the fuses leave good; every terrace is powered.
Details: DEDUCED, log entry 87. -/
def State.stageB6 (s : State) (elapsed fuses0 fuses1 : Nat) : State :=
  let good0 := s.goodMask 0 fuses0
  let good1 := s.goodMask 1 fuses1
  let n0 := popcount good0 160
  let n1 := popcount good1 160
  let s := { s with boot := { s.boot with good0 := good0, good1 := good1 } }
  if n0 < 144 || n1 < 144 then
    s.stageFail 6 St.badParam elapsed ((n0 - 144) + (n1 - 144) * 256) (b2n (n0 < 144) + 2 * b2n (n1 < 144))
  else
    let s := forEach (List.range 16) s (fun t s => s.setPower t 1)
    s.stagePass 6 false St.ok elapsed ((n0 - 144) + (n1 - 144) * 256) 0

/-- B7 ends when no port trains (R274, R276). -/
def State.stageB7 (s : State) (elapsed : Nat) : State :=
  let up := maskOf s.portsUp
  let deg := maskOf (s.portsUp.filter (fun p => s.flag (F.PORT_STATUS_DEGRADED p)))
  let mask := up + 2 ^ 16 * deg
  let poor := deg != 0 || (List.range 10).any (fun p => s.portState p == Port.down || s.portState p == Port.held)
  if s.torusUp < 4 then s.stageFail 7 St.portDegraded elapsed s.torusUp mask
  else s.stagePass 7 poor (if poor then St.portDegraded else St.ok) elapsed s.torusUp mask

/-- B8: the newest stored plan whose digest verifies, else the factory plan (R390). -/
def State.stageB8 (s : State) (elapsed : Nat) : State :=
  let stored := s.storedPlan
  let plan := stored.getD factoryPlan
  let s := s.applyPlan plan
  let s := if stored.isNone then s.ev F.KEEP_EVENTS_PLAN_FALLBACK else s
  let ret := plRetired plan
  let s := forEach (terraces ret) s (fun t s => s.setPower t 0)
  let s := s.stagePass 8 stored.isNone (if stored.isNone then St.digestMismatch else St.ok) elapsed (plSeq plan % 65536) ret
  s

/-- B9: SELF_TEST LEVEL 0 on the terraces in service; `failing` names those that failed (R388). The terraces stay PARKED.
Details: DEDUCED, log entry 87. -/
def State.stageB9 (s : State) (elapsed failing : Nat) : State :=
  let s := s.ageLog 8 0 0 (natLE 2 failing ++ natLE 2 0)
  let s := if failing = 0 then s else s.ev F.AGE_EVENTS_SELFTEST_FAIL
  s.stagePass 9 (failing != 0) St.ok elapsed 0 failing

/-- B11: ready. The record is appended, hart 0 starts, and an image with ADVANCE raises the counter (R438).
Details: DEDUCED, log entry 87. -/
def State.stageB11 (s : State) : State :=
  let s := (((s.report 11 0 St.ok 0 0 0).wr F.NODE_STAGE_STAGE 11).wr F.NODE_STAGE_STATE 1).fewPorts
  let x := s.fwSlot (s.rd F.SEC_STATUS_BOOT_SLOT)
  let s := if x.advance && s.sec.fuses < x.svn then
      ({ s with sec := { s.sec with fuses := x.svn } }.wr F.SEC_STATUS_COUNTER x.svn).ev F.SEC_EVENTS_ROLLBACK_ADVANCED
    else s
  s.appendBringup.startHart0.forecast

/-- B10: step time starts, unless the oscillator is more than 50 ppm from nominal (R58). -/
def State.stageB10 (s : State) (elapsed ppm : Nat) : State :=
  let off := signed 16 ppm
  if off > 50 || off < -50 then s.stageFail 10 St.timebaseLost elapsed ppm 0
  else
    let s := { s with tb := { s.tb with running := true } }.setNow 0 0
    (s.stagePass 10 false St.ok elapsed ppm 0).stageB11

/-- Whether stage k runs. Details: DEDUCED, log entry 87. -/
def State.stageRuns (s : State) (k : Nat) : Bool :=
  s.alive && !s.boot.standby && s.rd F.NODE_STAGE_STATE == 0 && s.rd F.NODE_STAGE_STAGE == k

/-- STAGE_COMPLETE: stage k ends after `elapsed` µs. `good` says that its units responded; `torn`, `found` and `mask` are
what the stage found (Table 18.2); `good0` and `good1` are the good physical spires of each die.
Details: DEDUCED, log entry 87. -/
def execStageComplete (k : Fin 11) (elapsed : BitVec 32) (good torn : Bool) (found : BitVec 16) (mask : BitVec 128)
    (good0 good1 : BitVec 160) (s : State) : Out :=
  let e := elapsed.toNat
  let m := mask.toNat
  if !s.stageRuns k || (k.val == 7 && (List.range 10).any (fun p => s.portState p == Port.train)) then ok s
  else match k.val with
    | 0 =>
      if good then ok (((s.wr F.FAB_NODE_ID_NODE_ID s.panel.pos).wr F.FAB_NODE_ID_VALID 1).senseCables.stagePass 0 false St.ok e 0 0)
      else ok (s.stageFail 0 St.deadlineMissed e 0 0)
    | 1 => ok (s.stageB1 e m)
    | 2 => ok (s.stageB2 e good torn found.toNat m)
    | 3 => if good then ok (s.stagePass 3 false St.ok e 0 0) else ok (s.stageFail 3 St.deadlineMissed e 0 0)
    | 4 => if good && m = 0 then ok (s.stagePass 4 false St.ok e 0 0) else ok (s.stageFail 4 St.deadlineMissed e 0 m)
    | 5 => ok (s.stageB5 e good m)
    | 6 => ok (s.stageB6 e good0.toNat good1.toNat)
    | 7 => ok (s.stageB7 e)
    | 8 => ok (s.stageB8 e)
    | 9 =>
      ok (s.stageB9 e (m % 2 ^ 16 &&& (0xFFFF - s.rd F.AGE_STATUS_RETIRED)))
    | _ => ok (s.stageB10 e found.toNat)

/-- STAGE_TIMEOUT: the stage that runs has passed its maximum time and fails; B8 and B9 never fail.
Details: DEDUCED, log entry 87. -/
def execStageTimeout (s : State) : Out :=
  let k := s.rd F.NODE_STAGE_STAGE
  if !s.stageRuns k || k == 8 || k == 9 || 11 ≤ k then ok s
  else
    let st := if k = 1 then St.signatureInvalid else if k = 6 then St.badParam else if k = 7 then St.portDegraded
      else if k = 10 then St.timebaseLost else St.deadlineMissed
    ok (s.stageFail k st 0 0 0)

/-- READ_STAGE_REPORTS: AGE 0 is the current bring-up, from the Gatehouse until its record is in the Keep (R400).
Details: DEDUCED, log entry 87. -/
def execReadStageReports (s : State) : Out :=
  s.withSub Op.readStageReports (fun _ => true) (fun q s =>
    let age := q.p 0 1
    let k := q.p 1 1
    let recs := (s.region 4).recs.map (·.2)
    let stored := s.boot.appended && (match recs with | r :: _ => fld r 0 8 == s.keep.bringups | [] => false)
    if k > 11 then s.short q St.badParam []
    else if age = 0 then s.short q St.ok (s.reportOf k ++ natLE 4 s.keep.bringups)
    else if s.keep.damaged.contains 4 then s.short q St.digestMismatch []
    else match recs[(if stored then age else age - 1)]? with
      | some r => s.short q St.ok (sub r (64 + 32 * k) 32 ++ natLE 4 (fld r 0 8))
      | none => s.short q St.badParam [])

end Sys2Proof.Machine
end

