-- ==== Sys2Proof/Machine/Profile.lean ====
section
/-! DEFINITION. Profiles, the Rate clock, issue gating, the power backstop and the power cap (chapter 2). -/

namespace Sys2Proof.Machine

open Sys2Proof

/-! ## SET_PROFILE (R32, R33) -/

/-- The clock a request asks for; none if its code and clock are invalid (Table 2.2). Details: DEDUCED, log entry 22. -/
def State.profileClock (s : State) (code mhz : Nat) : Option Nat :=
  let top := min (s.rd F.NODE_VARIANT_RATE_MAX_MHZ) (s.rd F.NODE_VARIANT_PLAN_MAX_MHZ)
  match code with
  | 0 => if mhz % 10 = 0 && 1100 ≤ mhz && mhz ≤ top then some mhz else none
  | 1 => if mhz = 0 then some 1100 else none
  | 2 => if mhz = 0 then some 1100 else none
  | _ => none

/-- SET_PROFILE: the rows of Table 2.2 in order; the switch has started when the reply is sent.
Details: DEDUCED, log entry 22. -/
def execSetProfile (s : State) : Out :=
  s.withSub Op.setProfile (fun _ => true) (fun q s =>
    if s.admitted || s.flag F.NODE_PROFILE_SWITCHING || s.solver.any (fun r => r.2.handle.isSome)
        || s.age.queue.any (fun r => !r.calibration && !r.running.isEmpty) then s.short q St.busy []
    else match s.profileClock (q.p 0 1) (q.p 2 2) with
      | none => s.short q St.badParam []
      | some mhz =>
        if q.p 0 1 = s.profile && mhz = s.rd F.NODE_PROFILE_TOWER_MHZ then s.short q St.ok []
        else
          let s := { s with power := { s.power with target := some (q.p 0 1, mhz) } }
          ((s.wr F.NODE_PROFILE_SWITCHING 1).collReset (List.range 16)).short q St.ok [])

/-- A window of R39 begins with the G and the plan in force. -/
def State.beginWindow (s : State) : State :=
  { s with power := { s.power with windowG := s.rd F.NODE_GATE_SLOTS, windowPlan := s.age.plan } }

/-- The relock of a profile switch restarts the windows (R39); the cycles of the one cut off with G below 64 are free.
Details: DESIGN CHOICE, log entry 23. -/
def State.restartWindow (s : State) : State :=
  let low := s.rd F.NODE_GATE_SLOTS != 64 || s.power.windowG != 64
  (if low then s.incw F.NODE_GATE_CYCLES_CYCLES (s.free 0 4097) else s).beginWindow

/-- PROFILE_SWITCH_COMPLETE: profile and clock change in the update that returns SWITCHING to 0, with the plan's offsets for
the new profile. Details: DEDUCED, log entry 22. -/
def execProfileSwitchComplete (s : State) : Out :=
  match s.power.target with
  | none => ok s
  | some (code, mhz) =>
    let s := { s with power := { s.power with target := none } }
    let s := ((s.wr F.NODE_PROFILE_ACTIVE code).wr F.NODE_PROFILE_TOWER_MHZ mhz).wr F.NODE_PROFILE_SWITCHING 0
    ok (s.restartWindow.showPlan s.age.plan (fun _ => none))

/-! ## Issue gating (R38–R41) -/

/-- G takes a new value; SLOTS_MIN follows. Details: DESIGN CHOICE, log entry 23. -/
def State.setG (s : State) (g : Nat) : State :=
  (s.wr F.NODE_GATE_SLOTS g).wr F.NODE_GATE_SLOTS_MIN (min g (s.rd F.NODE_GATE_SLOTS_MIN))

/-- A backstop lowers G by 8, down to 8. Details: DESIGN CHOICE, log entry 23. -/
def State.lowerG (s : State) : State := s.setG (max (s.rd F.NODE_GATE_SLOTS - 8) 8)

/-- Energy of counted events in pJ, in 64-bit arithmetic. Details: DESIGN CHOICE, log entry 23. -/
def energy (weight : Nat → Nat) (counts : List Nat) : Nat :=
  ((List.range counts.length).foldl (fun e c => e + counts.getD c 0 * weight c) 0) % 2 ^ 64

/-- The next G (R39): gated demand at G = 64, fixed draw and cap in µW. Details: DESIGN CHOICE, log entry 23. -/
def nextG (gated fixed cap : Nat) : Nat :=
  if gated = 0 then 64
  else if cap ≤ fixed then 8
  else min (max (64 * (cap - fixed) % 2 ^ 64 / gated) 8) 64

/-- GATE_WINDOW_END: the window's counted events by class. Cycles of a window in which G fell from 64 part-way are not
stated and are free. While a backstop holds G the estimator does not set it. Details: DESIGN CHOICE, log entry 23. -/
def execGateWindowEnd (gated ungated : List (BitVec 32)) (s : State) : Out :=
  let p := s.power.windowPlan
  let g := s.rd F.NODE_GATE_SLOTS
  let f := s.rd F.NODE_PROFILE_TOWER_MHZ
  let eg := energy (plWeightG p) ((gated.take 32).map (·.toNat))
  let eu := energy (plWeightU p) ((ungated.take 16).map (·.toNat))
  let demand := eg * f % 2 ^ 64 / (64 * g)
  let fixed := plStatic p s.profile ((f - 1100) / 10) + eu * f % 2 ^ 64 / 4096
  let below := if g = 64 then 0 else if s.power.windowG = 64 then s.free 0 4097 else 4096
  let s := s.incw F.NODE_GATE_CYCLES_CYCLES below
  let s := s.wr F.NODE_POWER_EST_W (min ((fixed + demand * g / 64) / 1000000) 65535)
  let s := if s.flag F.NODE_GATE_BACKSTOP_ACTIVE || s.flag F.NODE_THERMAL_BACKSTOP_ACTIVE then s
    else s.setG (nextG demand fixed (1000000 * s.rd F.NODE_POWER_CAP_CAP_ACTIVE))
  ok s.beginWindow

/-- A step of the power backstop: G falls, or the cap cannot be met at G = 8 (R41). Details: DEDUCED, log entry 24. -/
def State.backstop (s : State) : State :=
  if s.rd F.NODE_GATE_SLOTS ≤ 8 then s.ev F.NODE_PROFILE_EVENTS_CAP_UNMET else s.lowerG

/-- POWER_AVERAGE_UPDATE: the 200 µs and 1 ms averages of module input power, in W. Above 105 % of the cap the backstop
engages. Details: DEDUCED, log entry 24. -/
def execPowerAverageUpdate (avg input : BitVec 16) (s : State) : Out :=
  let s := { s with power := { s.power with avgW := avg.toNat } }
  let s := (s.wr F.NODE_POWER_INPUT_W input.toNat).wr F.NODE_POWER_PEAK_INPUT_W
    (max input.toNat (s.rd F.NODE_POWER_PEAK_INPUT_W))
  if !s.flag F.NODE_GATE_BACKSTOP_ACTIVE && 105 * s.rd F.NODE_POWER_CAP_CAP_ACTIVE < 100 * avg.toNat then
    ok ((s.wr F.NODE_GATE_BACKSTOP_ACTIVE 1).ev F.NODE_PROFILE_EVENTS_BACKSTOP).backstop
  else ok s

/-- BACKSTOP_STEP. Details: DEDUCED, log entry 24. -/
def execBackstopStep (s : State) : Out :=
  if !s.flag F.NODE_GATE_BACKSTOP_ACTIVE then ok s
  else if s.power.avgW ≤ s.rd F.NODE_POWER_CAP_CAP_ACTIVE then ok (s.wr F.NODE_GATE_BACKSTOP_ACTIVE 0)
  else ok s.backstop

/-! ## Power cap (R42) -/

/-- A write to CAP_W: clamped; in force at once, or at the next step boundary while a job is admitted, from the acceptance of
its JOB_ADMIT on. Details: DESIGN CHOICE, log entry 106. -/
def State.capWrite (s : State) (v : Nat) : State :=
  let limit := s.rd F.NODE_VARIANT_LIMIT_W
  let w := min (max v 1200) limit
  let s := (if w = v then s else s.ev F.NODE_PROFILE_EVENTS_CAP_CLAMPED).wr F.NODE_POWER_CAP_CAP_W w
  if s.admitted then { s with power := { s.power with capWaiting := true } } else s.wr F.NODE_POWER_CAP_CAP_ACTIVE w

/-- A step boundary puts a waiting cap in force. Details: DEDUCED, log entry 24. -/
def State.capBoundary (s : State) : State :=
  if !s.power.capWaiting then s
  else { s with power := { s.power with capWaiting := false } }.wr F.NODE_POWER_CAP_CAP_ACTIVE
    (s.rd F.NODE_POWER_CAP_CAP_W)

/-- NODE_POWER_CAP_WRITE. Details: DEDUCED, log entry 24. -/
def execNodePowerCapWrite (w : BitVec 16) (s : State) : Out := ok (s.capWrite w.toNat)

end Sys2Proof.Machine
end

