-- ==== Sys2Proof/Machine/Supply.lean ====
section
/-! DEFINITION. Power input, power sequencing and temperature (chapter 22), and the power failure (R378). -/

namespace Sys2Proof.Machine

open Sys2Proof

/-! ## Input (R473) -/

/-- Details: DEDUCED, log entry 25. -/
def State.feedOk (s : State) (b : Bool) : Bool := s.flag (if b then F.NODE_SUPPLY_FEED_B_OK else F.NODE_SUPPLY_FEED_A_OK)
/-- Details: DEDUCED, log entry 25. -/
def State.setFeed (s : State) (b v : Bool) : State :=
  s.wr (if b then F.NODE_SUPPLY_FEED_B_OK else F.NODE_SUPPLY_FEED_A_OK) (b2n v)

/-- The input falls below 40 V and stays at or above 38 V. Details: DEDUCED, log entry 25. -/
def State.inputLow (s : State) : State :=
  if s.flag F.NODE_SUPPLY_LOW then s else (s.wr F.NODE_SUPPLY_LOW 1).ev F.NODE_ENV_EVENTS_LOW_INPUT

/-- Details: DEDUCED, log entry 25. -/
def execInputLow (s : State) : Out := if s.alive then ok s.inputLow else ok s

/-- Details: DEDUCED, log entry 25. -/
def execInputRestored (s : State) : Out := if s.alive then ok (s.wr F.NODE_SUPPLY_LOW 0) else ok s

/-- FEED_LOST: feed A (`b` false) or B falls below 38 V while the other holds; `high` says that the other is at 40 V or
above. The fall of the last feed is POWER_FAIL. Details: DEDUCED, log entry 25. -/
def execFeedLost (b high : Bool) (s : State) : Out :=
  if !s.alive || !s.feedOk b || !s.feedOk (!b) then ok s
  else
    let s := s.setFeed b false
    ok (if high then s.ev F.NODE_ENV_EVENTS_FEED_LOST else s.inputLow)

/-- FEED_RESTORED: a feed rises to 38 V or above. Details: DEDUCED, log entry 25. -/
def execFeedRestored (b : Bool) (s : State) : Out := if s.alive then ok (s.setFeed b true) else ok s

/-- Power-fail detection (R378, R473): a NOR erase or program in progress is abandoned; one
COUNTER record with POWER_CUTS incremented; HOLDUP; the Gatehouse stops and the compute dies go down.
Details: DEDUCED, log entry 25. -/
def State.powerFail (s : State) : State :=
  let s := s.keepAbandon
  let s := { s with keep := { s.keep with cuts := (s.keep.cuts + 1) % 2 ^ 32 } }
  let s := s.counterRecord.cold
  let s := ((s.setFeed false false).setFeed true false).wr F.NODE_SUPPLY_LOW 0
  { s with boot := { s.boot with failed := true, standby := true } }.wr F.KEEP_STATUS_HOLDUP 1 |>.ev F.KEEP_EVENTS_HOLDUP

/-- Details: DEDUCED, log entry 25. -/
def execPowerFail (s : State) : Out := if s.alive then ok s.powerFail else ok s

/-! ## Standby (R474, R475) -/

/-- Standby begins with the Gatehouse ROM: nothing is kept but the Keep, the fuses and what the pins and the front edge
hold. `a` and `b` say which feeds are at 38 V or above, `main` is the level of MAIN_EN.
Details: DEDUCED, log entry 26. -/
def State.standbyUp (s : State) (a b main : Bool) : State :=
  let s := (((s.setFeed false a).setFeed true b).wr F.NODE_SUPPLY_LOW 0).wr F.NODE_SUPPLY_MAIN_EN (b2n main)
  let s := ((s.wrReg R.NODE_ENV_EVENTS 0).wrReg R.NODE_THERMAL 0).wr F.KEEP_STATUS_HOLDUP 0
  let s := s.resetRange R.PANEL_MGMT (R.PANEL_MGMT + 8)
  let s := ((s.setAddr R.PANEL_MGMT_ADDR []).setAddr R.PANEL_MGMT_LL []).wrReg R.PANEL_MGMT_MAC 0
  { s with boot := { s.boot with fell := false } }.fullReset 0

/-- STANDBY_RESTART: the input has been at 40 V or above for 100 ms after a detection.
Details: DEDUCED, log entry 26. -/
def execStandbyRestart (a b main : Bool) (s : State) : Out :=
  if s.boot.failed && (a || b) then ok (s.standbyUp a b main) else ok s

/-- STANDBY_POWER_APPLIED: the input first reaches 40 V. Details: DEDUCED, log entry 26. -/
def execStandbyPowerApplied (a b main : Bool) (s : State) : Out :=
  if (s.boot.failed || (!s.feedOk false && !s.feedOk true)) && (a || b) then ok (s.standbyUp a b main) else ok s

/-- MAIN_EN_RISE: B0 begins; with cause 4 when MAIN_EN had fallen before (Table 21.8).
Details: DEDUCED, log entry 26. -/
def execMainEnRise (s : State) : Out :=
  if !s.alive || s.flag F.NODE_SUPPLY_MAIN_EN then ok s
  else
    let s := s.wr F.NODE_SUPPLY_MAIN_EN 1
    ok (if s.boot.fell then s.fullReset 4 else { s with boot := { s.boot with standby := false } })

/-- MAIN_EN_FALL: the compute dies power down, and the node waits in standby. Details: DEDUCED, log entry 26. -/
def execMainEnFall (s : State) : Out :=
  if !s.alive || !s.flag F.NODE_SUPPLY_MAIN_EN then ok s
  else
    let s := s.wr F.NODE_SUPPLY_MAIN_EN 0
    let s := if s.boot.standby then s else s.powerDown
    ok { s with boot := { s.boot with fell := true } }

/-! ## Temperature (R243, R477–R479) -/

/-- Trip temperature of a device by TRIP_UNIT code (Table 22.4). Details: DEDUCED, log entry 27. -/
def tripAt (unit : Nat) : Nat := if unit < 4 then 110 else if unit < 12 then 105 else 95

/-- The hottest device at or above its trip temperature, the lowest code of equal ones.
Details: DEDUCED, log entry 27. -/
def tripUnit (temps : List Nat) : Option (Nat × Nat) :=
  (List.range temps.length).foldl (fun best u =>
      let t := temps.getD u 0
      if t < tripAt u then best
      else match best with
        | some (_, b) => if b < t then some (u, t) else best
        | none => some (u, t)) none

/-- The refresh interval of stack k at its temperature: the plan's, halved above 85 °C (R243).
Details: DEDUCED, log entry 27. -/
def State.stackTemp (s : State) (k t : Nat) : State :=
  let was := s.rd (F.MEM_STACK_TEMP_C k) > 85
  let base := if s.age.plan.isEmpty then 3900 else plRefresh s.age.plan k
  let s := s.wr (F.MEM_STACK_TEMP_C k) t
  if t > 85 then
    let s := s.wr (F.MEM_STACK_REFRESH_NS k) (base / 2)
    if was then s else s.ev F.MEM_EVENTS_HOT
  else if was then s.wr (F.MEM_STACK_REFRESH_NS k) base
  else s

/-- TEMPERATURE_SAMPLE: the hottest sensor of the Tower, Dome and Aqueduct dies, of each stack and of each package, in °C.
Details: DEDUCED, log entry 27. -/
def execTemperatureSample (tower0 tower1 dome aqueduct : BitVec 8) (memory : Vector (BitVec 8) 8)
    (packages : Vector (BitVec 8) 16) (s : State) : Out :=
  if !s.alive || s.boot.standby then ok s
  else
    let st := memory.toList.map (·.toNat)
    let pk := packages.toList.map (·.toNat)
    let s := ((s.wr F.NODE_THERMAL_TOWER0_C tower0.toNat).wr F.NODE_THERMAL_TOWER1_C tower1.toNat).wr F.NODE_THERMAL_DOME_C
      dome.toNat
    let s := (s.wr F.NODE_THERMAL_AQUEDUCT_C aqueduct.toNat).wr F.NODE_THERMAL_LPDDR_C (pk.foldl max 0)
    let s := forEach (List.range 8) s (fun k s => s.stackTemp k (st.getD k 0))
    let s := forEach (List.range 16) s (fun k s => s.wr (F.MEM_PKG_TEMP_C k) (pk.getD k 0))
    match tripUnit ([tower0.toNat, tower1.toNat, dome.toNat, aqueduct.toNat] ++ st ++ pk) with
    | some (u, _) => ok ((s.wr F.NODE_THERMAL_TRIP_UNIT u).ev F.NODE_ENV_EVENTS_TRIP).powerDown
    | none =>
      if max tower0.toNat tower1.toNat > 100 then ok ((s.wr F.NODE_THERMAL_BACKSTOP_ACTIVE 1).ev F.NODE_ENV_EVENTS_HOT)
      else ok s

/-- THERMAL_BACKSTOP_STEP: G falls by 8 until both Tower dies are at or below 97 °C (R478).
Details: DEDUCED, log entry 27. -/
def execThermalBackstopStep (s : State) : Out :=
  if !s.flag F.NODE_THERMAL_BACKSTOP_ACTIVE then ok s
  else if max (s.rd F.NODE_THERMAL_TOWER0_C) (s.rd F.NODE_THERMAL_TOWER1_C) ≤ 97 then
    ok (s.wr F.NODE_THERMAL_BACKSTOP_ACTIVE 0)
  else ok s.lowerG

end Sys2Proof.Machine
end

