-- ==== Sys2Proof/Machine/Replay.lean ====
section
/-! DEFINITION. Recording and replay (R428–R431), and the time-out of a held twin (R426). -/

namespace Sys2Proof.Machine

open Sys2Proof

/-- TWIN_TIMEOUT: the held twin at position k waited 20 µs; its words are written as poison and the pair diverges.
Details: DEDUCED, log entry 90. -/
def execTwinTimeout (k : Nat) (s : State) : Out :=
  match s.check.twins[k]? with
  | none => ok s
  | some w =>
    let s := { s with check := { s.check with twins := s.check.twins.eraseIdx k } }
    ok ((s.poisonRange w.addr w.data.length).diverge w.pair 2 w.index w.unit)

/-! ## Recording -/

/-- Extents that a REFLECT of the running step or a running checkpoint declares. Details: DEDUCED, log entry 88. -/
def State.declared (s : State) : List (Nat × Nat) :=
  let lists := s.terr.flatMap (fun t => match t.2.reflectList with | some (_, es) => es | none => [])
  lists ++ (match s.ckpt.drain with | some d => d.extents | none => [])

/-- Whether a ring overlaps the reflection region or a declared extent. Details: DEDUCED, log entry 88. -/
def State.ringOverlaps (s : State) (base len : Nat) : Bool :=
  [s.ckpt.policy, s.ckpt.nextPolicy].any (fun p =>
    match p with | some p => overlaps base len p.reflBase p.reflLen | none => false)
    || s.declared.any (fun e => overlaps base len e.1 e.2)

/-- Recording begins with an empty ring. Details: DEDUCED, log entry 88. -/
def State.recordBegin (s : State) (classes base len : Nat) : State :=
  let s := { s with check := { s.check with recorder := { Recorder.init with bufAt := s.now } } }
  let s := (s.wr F.NODE_REC_STATUS_STATE 1).wr F.NODE_REC_STATUS_CLASSES classes
  let s := (s.wr F.NODE_REC_STATUS_BASE (base / 64)).wr F.NODE_REC_STATUS_LENGTH_MIB (min (len / 2 ^ 20) 65535)
  let s := (s.wr F.NODE_REC_LENGTH_BYTES len).wrReg R.NODE_REC_COUNTS 0
  (s.wr F.NODE_REC_HEAD_OFFSET 0).wr F.NODE_REC_TAIL_OFFSET 0

/-- RECORD_START. Details: DEDUCED, log entry 88. -/
def execRecordStart (s : State) : Out :=
  s.withSub Op.recordStart (fun _ => true) (fun q s =>
    let c := q.p 0 1
    let base := q.p 8 8
    let len := q.p 16 8
    if c = 0 || c > 7 || base % 65536 != 0 || !inDeep base len || len % 65536 != 0 || len < 2 ^ 24 || 2 ^ 36 < len
        || s.ringOverlaps base len then s.short q St.badParam []
    else if s.rd F.NODE_REC_STATUS_STATE == 1 || s.check.recorder.starting.isSome then s.short q St.busy []
    else if s.admitted then
      { s with check := { s.check with recorder := { s.check.recorder with starting := some (c, base, len) } } }.short q St.ok []
    else (s.recordBegin c base len).short q St.ok [])

/-- RECORD_STOP: records written and dropped. Details: DEDUCED, log entry 88. -/
def execRecordStop (s : State) : Out :=
  s.withSub Op.recordStop (fun _ => true) (fun q s =>
    s.recordEnd.short q St.ok (natLE 8 (s.rd F.NODE_REC_COUNTS_WRITTEN) ++ natLE 8 (s.rd F.NODE_REC_COUNTS_DROPPED)))

/-! ## Records of a boundary (Table 19.6) -/

/-- ARRIVALS bodies of the step that ended, one for each source engine. Details: DEDUCED, log entry 47. -/
def State.arrivalBodies (s : State) : List Bytes :=
  s.check.recorder.arrivals.map (fun (k, n, bytes, sum, first, last) =>
    natLE 4 k ++ natLE 4 n ++ natLE 8 bytes ++ natLE 8 sum ++ natLE 4 first ++ natLE 4 last)

/-- The terraces that ran a step. -/
def State.ran (s : State) (step : Nat) : List Nat := (List.range 16).filter (fun t => (s.tr t).ranStep == some step)

/-- The step digest of a terrace that ran the step (SCHED_LAST_DIGEST). Details: DEDUCED, log entry 89. -/
def State.lastDigest (s : State) (t : Nat) : Bytes :=
  [0, 1, 2, 3].flatMap (fun w => natLE 8 (s.rd (F.SCHED_LAST_DIGEST_BYTES t w)))

/-- Details: DEDUCED, log entry 88. -/
def State.stepBody (s : State) (step : Nat) : Bytes :=
  natLE 8 step ++ natLE 2 (maskOf (s.ran step)) ++ (s.ran step).flatMap s.lastDigest

/-! ## Replay (R431) -/

/-- Fields of a record. -/
def recTime (r : Bytes) : Nat := fld r 0 8
def recKind (r : Bytes) : Nat := fld r 8 1
def recFlags (r : Bytes) : Nat := fld r 9 1
/-- Details: DEDUCED, log entry 89. -/
def recBody (r : Bytes) : Bytes := sub r 16 (fld r 10 2)
/-- Whether a record is the STEP record of a step. Details: DEDUCED, log entry 89. -/
def isStepRec (r : Bytes) (step : Nat) : Bool := recKind r == 1 && fld r 16 8 == step

/-- n bytes of a ring from an offset, wrapping. Details: DEDUCED, log entry 89. -/
def State.ringRead (s : State) (base len off n : Nat) : Bytes :=
  (List.range n).map (fun i => s.readByte (base + (off + i) % len))

/-- The records of a ring from an offset on, while they are well formed and their sequence numbers follow.
Details: DEDUCED, log entry 89. -/
def State.ringRecords (s : State) (base len : Nat) : Nat → Nat → Nat → Option Nat → List Bytes
  | 0, _, _, _ => []
  | n + 1, off, left, seq =>
    let h := s.ringRead base len off 16
    let size := 16 + roundUp (fld h 10 2) 16
    let next := match seq with | some q => fld h 12 4 == q | none => true
    if recKind h = 0 || recKind h > 5 || !next || left < size then []
    else s.ringRead base len off size :: s.ringRecords base len n ((off + size) % len) (left - size) (some (fld h 12 4 + 1))

/-- The records a ring holds, oldest first: from TAIL to HEAD of the last recording, or of an older ring from its start.
Details: DEDUCED, log entry 89. -/
def State.recordsOf (s : State) (base len : Nat) : List Bytes :=
  if base == s.rd F.NODE_REC_STATUS_BASE * 64 && len == s.rd F.NODE_REC_LENGTH_BYTES then
    let sizes := s.check.recorder.sizes
    s.ringRecords base len sizes.length (s.rd F.NODE_REC_TAIL_OFFSET) (sizes.foldl (· + ·) 0) none
  else s.ringRecords base len (len / 16) 0 len none

/-- REPLAY: accepted as RESTORE is (R346). Details: DEDUCED, log entry 89. -/
def execReplay (s : State) : Out :=
  s.withSub Op.replay (fun _ => true) (fun q s =>
    let idle := match s.job with
      | some j => !j.anyStep
      | none => false
    let step := q.p 0 8
    let base := q.p 8 8
    let len := q.p 16 8
    if !idle || s.ckptBusy || s.check.replay.isSome then s.refuse q St.busy
    else if base % 65536 != 0 || !inDeep base len || len % 65536 != 0 || len < 2 ^ 24 || 2 ^ 36 < len then
      s.refuse q St.badParam
    else
      let all := s.recordsOf base len
      let later := (all.dropWhile (fun r => !(step != 0 && isStepRec r (step - 1)))).drop 1
      if !(step != 0 && all.any (fun r => isStepRec r (step - 1)))
          || later.any (fun r => recKind r == 1 && step ≤ fld r 16 8 && bit (recFlags r) 0) then
        s.longNow q St.badParam 0 []
      else
        let (s, h) := s.accept q
        let r := Replay.mk h step none later (later.any (fun r => recKind r == 2)) []
        let s := { s with check := { s.check with replay := some r } }
        if s.rd F.NODE_REC_STATUS_STATE == 1 then s else s.wr F.NODE_REC_STATUS_STATE 2)

/-- Replay ends. Details: DEDUCED, log entry 89. -/
def State.replayEnd (s : State) (r : Replay) (status detail : Nat) (result : Bytes) : State :=
  let s := { s with check := { s.check with replay := none } }
  let s := if s.rd F.NODE_REC_STATUS_STATE == 2 then s.wr F.NODE_REC_STATUS_STATE 0 else s
  s.complete r.handle status detail result

/-- The first difference between a recorded step and the live one: ARRIVALS first, then the step digests in terrace order;
KIND and terrace of DETAIL. Details: DEDUCED, log entry 89. -/
def State.replayDiff (s : State) (r : Replay) (x : Bytes) (live : Nat) : Option (Nat × Nat) :=
  let mine := s.arrivalBodies
  let theirs := (r.records.filter (fun y => recKind y == 2 && recTime y == recTime x)).map recBody
  if r.withArrivals && (mine.any (fun b => !theirs.contains b) || theirs.any (fun b => !mine.contains b)) then some (2, 0xF)
  else
    let old := recBody x
    let mask := fld old 8 2
    let digest := fun (t : Nat) => sub old (10 + 32 * popcount mask t) 32
    let ran := s.ran live
    match (List.range 16).find? (fun t =>
        bit mask t != ran.contains t || (bit mask t && digest t != s.lastDigest t)) with
    | some t => some (1, t)
    | none => none

/-- The boundary that ends live step `live`: the recorded step is compared (R431). Details: DEDUCED, log entry 89. -/
def State.replayBoundary (s : State) (live : Nat) : State :=
  match s.check.replay with
  | none => s
  | some r =>
    match r.liveStart with
    | none => s
    | some first =>
      let step := r.fromStep + (live - first)
      let (s, last, diff) := match r.records.find? (fun x => isStepRec x step) with
        | none => (s, r.lastDigests, none)
        | some x => (s, sub (recBody x) 10 (fld x 10 2 - 10), s.replayDiff r x live)
      match diff with
      | some (kind, t) =>
        let s := (s.ev F.NODE_CHECK_EVENTS_REPLAY_MISMATCH).replayEnd r St.digestMismatch
          (step % 2 ^ 40 + 2 ^ 40 * kind + 2 ^ 48 * t) []
        forEach (terraces s.jobMask) s (fun t s =>
          s.setTr t { s.tr t with haltPending := true, haltStatus := St.digestMismatch })
      | none =>
        if r.records.any (fun x => recKind x == 1 && step < fld x 16 8) then
          { s with check := { s.check with replay := some { r with lastDigests := last } } }
        else s.replayEnd r St.ok 0 (sha3_256 last)

/-- The live step at which the replayed job starts is known (R431). Details: DEDUCED, log entry 89. -/
def State.replayStarts (s : State) : State :=
  match s.check.replay, s.job with
  | some r, some j =>
    if r.liveStart.isNone && j.anyStep then
      { s with check := { s.check with replay := some { r with liveStart := some s.step } } }
    else s
  | _, _ => s

/-- What the recorder and a replay do at the boundary that ends a step: comparison, ARRIVALS records, the STEP record, and the
start of a recording that waited (R428–R431). Details: DEDUCED, log entries 34, 47, 88. -/
def State.recorderBoundary (s : State) (ended : Nat) : State :=
  let s := s.replayBoundary ended
  let s := if !s.recording none then s
    else
      let s := s.arrivalBodies.foldl (fun s b => s.recordPut (some 0) 2 0 b) s
      let s := s.recordPut none 1 (b2n s.check.recorder.incomplete) (s.stepBody ended)
      { s with check := { s.check with recorder := { s.check.recorder with incomplete := false } } }
  let s := { s with check := { s.check with recorder := { s.check.recorder with arrivals := [] } } }
  match s.check.recorder.starting with
  | some (c, b, l) => s.recordBegin c b l
  | none => s

end Sys2Proof.Machine
end

