-- ==== Sys2Proof/Machine/Boundary.lean ====
section
/-! DEFINITION. The step boundary: every action tied to it takes effect before any entry of the new step fires (R43). -/

namespace Sys2Proof.Machine

open Sys2Proof

/-! ## Time-base states (Table 3.4) -/

def Tb.free : Nat := 0
def Tb.acquiring : Nat := 1
def Tb.locked : Nat := 2
def Tb.holdover : Nat := 3
def Tb.lost : Nat := 4
def Tb.master : Nat := 5

def State.tbState (s : State) : Nat := s.rd F.TB_STATUS_STATE

/-- A TICK record (Table 19.6): 0 slew, 1 jump, 2 hold, 3 state, 4 parent, 5 load. -/
def State.tickRecord (s : State) (kind : Nat) : State :=
  s.recordPut (some 2) 4 0 (natLE 1 kind ++ natLE 1 s.tbState ++ zeros 6 ++ natLE 4 (s.rd F.TB_SERVO_ERROR_PS)
    ++ natLE 4 (unsigned 32 (signed 24 (s.rd F.TB_SERVO_RATE_PPB))))

/-- The time base enters a state; its counts begin anew. -/
def State.setTb (s : State) (st : Nat) : State :=
  if s.tbState == st then s
  else
    let restart := s.tb.restart || (st == Tb.locked && s.tb.stopped)
    ({ s with tb := { s.tb with good := 0, bad := 0, acqSteps := 0, restart := restart } }.wr F.TB_STATUS_STATE st).tickRecord 3

/-! ## Loss (R65) -/

/-- An alarm fires (R70). -/
def State.fireAlarm (s : State) (a : Nat) : State :=
  let s := (s.wr (F.TB_ALARM_CTRL_FIRED a) 1).wr (F.TB_ALARM_CTRL_ENABLE a) 0
  if s.flag (F.TB_ALARM_CTRL_MSI a) then s.msi (s.rd (F.TB_ALARM_CTRL_HART a)) (s.rd (F.TB_ALARM_CTRL_EIID a)) else s

/-- Whether an alarm is enabled and its target is not later than step time; between a bind and its load no alarm is
compared (R57). -/
def State.alarmDue (s : State) (a : Nat) : Bool :=
  !s.tb.loadPending && s.tb.start.isNone && s.flag (F.TB_ALARM_CTRL_ENABLE a) && s.rd (F.TB_ALARM_TIME_TARGET a) ≤ s.now

/-- Details: DEDUCED, log entry 30. -/
def State.fireAlarms (s : State) : State :=
  forEach (List.range 32) s (fun a s => if s.alarmDue a then s.fireAlarm a else s)

/-- TIMEBASE_LOST is raised: the sequencers start no step, and step time runs on. Details: DEDUCED, log entry 34. -/
def State.timebaseLost (s : State) : State :=
  let s := { s with tb := { s.tb with held := false, stopped := true, restart := false, loadPending := false, start := none } }
  ((s.setTb Tb.lost).ev F.TB_EVENTS_LOST).raiseEvent Ev.timebase St.timebaseLost s.step []

/-! ## The boundary -/

/-- Boundaries pass in ACQUIRING: at the 64th since it was entered the lock has failed (R60). -/
def State.acqBoundary (s : State) (n : Nat) : State :=
  if s.tbState != Tb.acquiring then s
  else
    let s := { s with tb := { s.tb with acqSteps := s.tb.acqSteps + n } }
    if 64 ≤ s.tb.acqSteps then s.timebaseLost else s

/-- What a boundary does to the time base: HOLD_STEPS, which counts from the last valid tick whatever the state (Table 3.7), and
the losses of R60. -/
def State.tbBoundary (s : State) : State :=
  let follower := (s.tb.role == 1 || s.tb.role == 3) && s.tb.lastStamp.isSome
  let s := if follower then s.wr F.TB_STATUS_HOLD_STEPS (min (s.rd F.TB_STATUS_HOLD_STEPS + 1) 64) else s
  if s.tbState == Tb.holdover && 64 ≤ s.rd F.TB_STATUS_HOLD_STEPS then s.timebaseLost else s.acqBoundary 1

/-- A terrace with a halting entry becomes HALTED (R84, R426). Details: DEDUCED, log entries 34, 36. -/
def State.haltBoundary (s : State) (t : Nat) : State :=
  let r := s.tr t
  if !r.haltPending || s.rd (F.SCHED_STATUS_STATE t) != 1 then s
  else
    let s := (s.setTr t { r with haltPending := false, haltStatus := 0 }).wr (F.SCHED_STATUS_STATE t) 2
    if r.haltStatus == 0 then s
    else
      (s.ev (F.SCHED_EVENTS_HALTED t)).raiseEvent Ev.halted r.haltStatus (t + s.rd (F.SCHED_STEP_STEP t) * 2 ^ 8) []

/-- A halted terrace whose RESUME is bound to this boundary resumes (R84, R93). Details: DEDUCED, log entry 34. -/
def State.resumeBoundary (s : State) (t step : Nat) : State :=
  let r := s.tr t
  match r.resumeStep with
  | none => s
  | some b =>
    if step < b then s
    else
      let s := s.setTr t { r with resumeStep := none }
      if s.rd (F.SCHED_STATUS_STATE t) == 2 then s.wr (F.SCHED_STATUS_STATE t) 1 else s

/-- A terrace meets a boundary: it overruns, starts the step, skips it, or, when it runs no step, takes an armed swap (R43,
R77, R83, R93, R97). Details: DEDUCED, log entry 34. -/
def State.terraceBoundary (s : State) (t step : Nat) : State :=
  let st := s.rd (F.SCHED_STATUS_STATE t)
  let mine := bit s.jobMask t && (match s.job with
    | some j => (match j.releasing with | some (_, done) => !done | none => true)
    | none => false)
  let s := if st == 3 then s else s.setTr t { s.tr t with waitBoundary := false }
  if (s.tr t).inStep then
    ((s.wr (F.SCHED_STATUS_OVERRUNNING t) 1).ev (F.SCHED_EVENTS_OVERRUN t)).inc (F.SCHED_TALLY_OVERRUNS t)
  else if st == 3 then (if mine then s.skipStep t step St.nodeResetting else s)
  else if mine && st == 1 then
    if s.tb.stopped then s.skipStep t step St.timebaseLost else s.startStep t step false
  else if s.flag (F.SCHED_STATUS_ARMED t) && s.rd (F.SCHED_ARM_STEP_STEP t) ≤ step then s.swapBanks t
  else s

/-- The boundary that ends step `ended` and begins step `step`; step time has already moved. A checkpoint sees the step that
ended; a difference that a replay finds here halts at the next boundary. Details: DEDUCED, log entry 34. -/
def State.boundary (s : State) (ended step : Nat) : State :=
  let s := s.ckptBoundary step
  let s := (((s.pinBoundary step).routeBoundary step).replanBoundary step).collBoundary step
  let s := s.capBoundary.releaseBoundary
  let s := forEach (List.range 16) s (fun t s => s.haltBoundary t)
  let s := (s.recorderBoundary ended).shrinkBoundary step
  let s := forEach (List.range 16) s (fun t s => s.resumeBoundary t step)
  let s := s.flushPuts.dropReads
  let s := if s.tb.stopped && (s.tb.restart || (s.tbState == Tb.master && s.tb.start.isNone)) then
      { s with tb := { s.tb with stopped := false, restart := false } }
    else s
  let s := forEach (List.range 16) s (fun t s => s.terraceBoundary t step)
  let s := (s.calibrate step).replayStarts
  { s with check := { s.check with diverged := [] } }

/-- The boundary that ends the last step of a binding: step time stays at its highest value, TIMEBASE_LOST is raised as if ticks
had stopped, and what is bound to the boundary takes effect (R43, R45, R46). It comes once. Details: DEDUCED, log entry 34. -/
def State.lastBoundary (s : State) (ended : Nat) : State :=
  let first := !s.tb.ended
  let s := { s with tb := { s.tb with ended := true } }.setNow (2 ^ 64 - 1) 65535
  if !first then s
  else
    let s := if s.tbState == Tb.free || s.tbState == Tb.lost then s else s.timebaseLost
    s.boundary ended (2 ^ 40)

/-- STEP_BOUNDARY: step time reaches the next step, or the end of the last one. Details: DEDUCED, log entry 34. -/
def execStepBoundary (s : State) : Out :=
  if !s.ticking then ok s
  else
    let ended := s.step
    if ended = 2 ^ 40 - 1 then ok (s.lastBoundary ended)
    else ok ((s.setNow (2 ^ 24 * (ended + 1)) 0).tbBoundary.boundary ended (ended + 1))

end Sys2Proof.Machine
end

