-- ==== Sys2Proof/Machine/Time.lean ====
section
/-! DEFINITION. Step time (chapter 3): tick symbols and their relay, link delays, bindings, corrections, the reads of TB_NOW
and the alarms. -/

namespace Sys2Proof.Machine

open Sys2Proof

/-! ## Tick symbols (R47, R49) -/

/-- The 16 bytes of a tick; CORR is kept modulo 2³². Details: DESIGN CHOICE, log entry 106. -/
def mkTick (tbId src refLost hops stamp corr : Nat) : Bytes :=
  let b := natLE 15 (tbId % 2 ^ 16 + 2 ^ 16 * (src % 2) + 2 ^ 17 * (refLost % 2) + 2 ^ 18 * (hops % 64)
    + 2 ^ 24 * (stamp % 2 ^ 64) + 2 ^ 88 * (corr % 2 ^ 32))
  b ++ natLE 1 (crc8 b)

def tkId (t : Bytes) : Nat := fld t 0 2
def tkSrc (t : Bytes) : Nat := bits (fld t 2 1) 0 1
def tkRefLost (t : Bytes) : Nat := bits (fld t 2 1) 1 1
def tkHops (t : Bytes) : Nat := bits (fld t 2 1) 2 6
def tkStamp (t : Bytes) : Nat := fld t 3 8
def tkCorr (t : Bytes) : Nat := fld t 11 4
def tkGood (t : Bytes) : Bool := t.length == 16 && crc8 t == 0

/-- Whether a port's state lets ticks through (Table 12.3). -/
def State.carriesTicks (s : State) (p : Nat) : Bool :=
  let st := s.portState p
  st == Port.up || st == Port.draining || st == Port.drained

/-- Whether a port's state has the delay exchange (R50, Table 12.3). -/
def State.delayPort (s : State) (p : Nat) : Bool :=
  let st := s.portState p
  st == Port.up || st == Port.drained

/-- Whether ticks are taken and forwarded on a port: it carries them and has a published delay (R50).
Details: DEDUCED, log entry 31. -/
def State.tickPort (s : State) (p : Nat) : Bool := s.carriesTicks p && s.flag (F.TB_PORT_DELAY_VALID p)

/-- The relay entry of a time base. Details: DEDUCED, log entry 31. -/
def State.relayOf (s : State) (tbId : Nat) : Option Relay := s.tb.relays.find? (·.tbId == tbId)

/-- Send a tick down the child ports of a time base and source. Details: DEDUCED, log entry 31. -/
def State.sendTick (s : State) (t : Bytes) : State :=
  match s.relayOf (tkId t) with
  | none => s
  | some r =>
    let mask := if tkSrc t = 0 then r.childPrimary else r.childStandby
    forEach ((bitList mask 8).filter s.tickPort) s (fun p s => s.send .tick p [] t)

/-- Forward a tick that arrived on port p: HOPS incremented, CORR with the link's delay, to the nearest
1/16 ns, and the residence time. Details: DESIGN CHOICE, log entry 106. -/
def State.relayTick (s : State) (p res : Nat) (t : Bytes) : State :=
  if tkHops t = 63 then s
  else
    let d := (2 * s.rd (F.TB_PORT_DELAY_DELAY_PS p) + 62) / 125
    s.sendTick (mkTick (tkId t) (tkSrc t) (tkRefLost t) (tkHops t + 1) (tkStamp t) (tkCorr t + d + res))

/-- The relay of a time base the node is not bound to: for each source the first port of its list to deliver a tick is
selected while it carries ticks; a STAMP is forwarded once. Details: DEDUCED, log entry 31. -/
def State.relayOther (s : State) (p res : Nat) (t : Bytes) : State :=
  match s.relayOf (tkId t) with
  | none => s
  | some r =>
    let list := if tkSrc t = 0 then r.primary else r.standby
    let key := tkId t * 2 + tkSrc t
    let fwd := fun (s : State) =>
      ({ s with tb := { s.tb with relayed := mput s.tb.relayed key (p, tkStamp t) } }).relayTick p res t
    if !s.tickPort p || !list.contains p then s
    else match mfind s.tb.relayed key with
      | none => fwd s
      | some (q, last) =>
        if last < tkStamp t && (q = p || !s.tickPort q) then fwd s else s

/-! ## Following (R51, R486) -/

/-- The follower's parent lists: the relay entry's, or ports 0 to 7. -/
def State.parentList (s : State) (src : Nat) : List Nat :=
  match s.relayOf (s.rd F.TB_STATUS_TB_ID) with
  | some r => if src = 0 then r.primary else r.standby
  | none => List.range 8

/-- The selected parent port changes; a change from a port is counted (R63). Details: DEDUCED, log entry 31. -/
def State.setParent (s : State) (p : Nat) : State :=
  let old := s.rd F.TB_STATUS_PARENT_PORT
  let s := s.wr F.TB_STATUS_PARENT_PORT p
  if old == 0xF || old == p then s
  else ((s.inc F.TB_COUNTS_PARENT_SWITCHES).ev F.TB_EVENTS_PARENT_SWITCH).tickRecord 4

/-- Tick interval in ns × 2^d is the period: a span of n intervals in ns (R48). -/
def State.intervals (s : State) (n : Nat) : Nat := n * s.periodNs / 2 ^ s.rd F.TB_STATUS_TICK_LOG2

/-- The estimate of R50 in FINE units of 2⁻⁴⁰ of a period, to the nearest. Details: DEDUCED, log entry 28. -/
def State.estimate (s : State) (p : Nat) (t : Bytes) : Nat :=
  let half := 125 * tkCorr t + 2 * s.rd (F.TB_PORT_DELAY_DELAY_PS p)
  let den := 2000 * s.periodNs
  2 ^ 16 * tkStamp t + (2 ^ 40 * half + den / 2) / den

/-- An error in FINE units compared with a number of ns: |e| ≤ ns. Details: DEDUCED, log entry 28. -/
def State.within (s : State) (e : Int) (ns : Nat) : Bool := e.natAbs * s.periodNs ≤ 2 ^ 40 * ns

/-- TB_SERVO.ERROR_PS: the error to the nearest ps; one that does not fit its 32 bits is free.
Details: DEDUCED, log entry 28. -/
def State.showError (s : State) (e : Int) : State :=
  let n := e * (s.periodNs : Int) * 1000
  let q := n / 2 ^ 40
  let r := 2 * (n - q * 2 ^ 40)
  let ps := if 2 ^ 40 < r || (r == 2 ^ 40 && q % 2 != 0) then q + 1 else q
  s.wr F.TB_SERVO_ERROR_PS (if ps < 2 ^ 31 && -2 ^ 31 ≤ ps then unsigned 32 ps else s.free 0 (2 ^ 32))

/-- Step time moves to a value, at most its highest one. Details: DEDUCED, log entry 30. -/
def State.putNow (s : State) (t fine : Nat) : State := if t < 2 ^ 64 then s.setNow t fine else s.setNow (2 ^ 64 - 1) 65535

/-- A load puts step time at a value, whatever its sign (R57): with a job admitted no step starts at or below the last one
started. Details: DEDUCED, log entry 30. -/
def State.loadTime (s : State) (t fine : Nat) : State :=
  let last := match s.job with
    | some j => if j.anyStep then some ((terraces j.mask).foldl (fun m u => max m (s.rd (F.SCHED_STEP_STEP u))) 0) else none
    | none => none
  let s := { s with tb := { s.tb with loadPending := false, start := none, held := false, ended := false, barrier := last } }
  (((s.putNow t fine).ev F.TB_EVENTS_LOAD).tickRecord 5).fireAlarms

/-- A jump forward (R61): passed entries fire at once, passed alarms too; without a job it may cross boundaries (R62),
which count in ACQUIRING, and end the last step of the binding. Details: DEDUCED, log entries 28, 30. -/
def State.jump (s : State) (est : Nat) : State :=
  let old := s.step
  let s := { s with tb := { s.tb with held := false } }.putNow (est / 2 ^ 16) (est % 2 ^ 16)
  let s := ((s.ev F.TB_EVENTS_JUMP).inc F.TB_COUNTS_JUMPS_HOLDS).tickRecord 1
  let s := if 2 ^ 80 ≤ est then s.lastBoundary old
    else if s.step = old then s
    else (s.acqBoundary (s.step - old)).boundary old s.step
  (forEach (List.range 16) s (fun t s => s.firePassed t)).fireAlarms

/-- The correction of a valid tick with error e (R61). A hold lasts until the estimate reaches step time.
Details: DEDUCED, log entries 28, 29. -/
def State.correct (s : State) (e : Int) (est : Nat) : State :=
  if s.tb.held && 0 < e then s
  else if s.within e 2000 then
    let rate := (s.free 1 200001 : Int) - 100000
    ({ s with tb := { s.tb with held := false } }.wr F.TB_SERVO_RATE_PPB (unsigned 24 rate)).tickRecord 0
  else if e < 0 then
    if s.admitted && est / 2 ^ 40 != s.step then s.timebaseLost else s.jump est
  else
    (({ s with tb := { s.tb with held := true } }.ev F.TB_EVENTS_HOLD).inc F.TB_COUNTS_JUMPS_HOLDS).tickRecord 2

/-- The state that follows a valid tick's error (Table 3.4). Details: DEDUCED, log entry 28. -/
def State.judge (s : State) (e : Int) : State :=
  let st := s.tbState
  if st == Tb.acquiring then
    let n := if s.within e 20 then s.tb.good + 1 else 0
    let s := { s with tb := { s.tb with good := n } }
    if 16 ≤ n then s.setTb Tb.locked else s
  else if st == Tb.locked then
    let n := if s.within e 40 then 0 else s.tb.bad + 1
    let s := { s with tb := { s.tb with bad := n } }
    if 4 ≤ n then (s.ev F.TB_EVENTS_LOCK_LOST).setTb Tb.acquiring else s
  else if st == Tb.holdover then s.setTb (if s.within e 40 then Tb.locked else Tb.acquiring)
  else s

/-- A valid tick: relayed, and used for the load or a correction; in LOST it is only relayed (R49, R57, R61, R65).
Details: DEDUCED, log entry 31. -/
def State.validTick (s : State) (p res : Nat) (t : Bytes) : State :=
  let s := { s with tb := { s.tb with lastStamp := some (tkStamp t) } }.wr F.TB_STATUS_HOLD_STEPS 0
  let s := s.relayTick p res t
  if s.tbState == Tb.lost then s
  else
    let est := s.estimate p t
    let e := ((2 ^ 16 * s.now + s.tb.fine : Nat) : Int) - (est : Int)
    let s := s.showError e
    if s.tb.loadPending then s.loadTime (est / 2 ^ 16) (est % 2 ^ 16)
    else
      let s := s.correct e est
      if s.tbState == Tb.lost then s else s.judge e

/-- A tick of the bound time base reaches a follower. Details: DEDUCED, log entry 29. -/
def State.followTick (s : State) (p clk res : Nat) (t : Bytes) : State :=
  let src := tkSrc t
  let inLists := (s.parentList 0).contains p || (s.parentList 1).contains p
  let form := tkGood t && s.flag (F.TB_PORT_DELAY_VALID p)
  let s := if form then { s with tb := { s.tb with portTick := mput s.tb.portTick p clk } } else s
  let s := if form && src = 1 && s.rd F.TB_STATUS_SRC == 0 && (s.parentList 1).contains p then
      (s.wr F.TB_STATUS_SRC 1).setParent p
    else s
  let followed := s.rd F.TB_STATUS_SRC
  let s := if form && src = followed && s.rd F.TB_STATUS_PARENT_PORT == 0xF && (s.parentList followed).contains p then
      s.setParent p
    else s
  let later := match s.tb.lastStamp with | some l => l < tkStamp t | none => true
  if form && src = followed && s.rd F.TB_STATUS_PARENT_PORT == p && later
      && tkStamp t % 2 ^ (24 - s.rd F.TB_STATUS_TICK_LOG2) == 0 then s.validTick p res t
  else if inLists then (s.inc F.TB_COUNTS_BAD_TICKS).ev F.TB_EVENTS_BAD_TICK
  else s

/-- TICK_ARRIVAL: a tick reaches port p when step time stands at `now` and FINE `fine`, the local clock at `clk` ns; it stays
`res` units of 1/16 ns in the relay. -/
def execTickArrival (p : Fin 8) (tick : Bytes) (now : BitVec 64) (fine : BitVec 16) (clk res : Nat) (s : State) : Out :=
  if !s.carriesTicks p then ok s
  else
    let follower := s.tb.role == 1 || (s.tb.role == 3 && s.tbState != Tb.master)
    if !follower || (tkGood tick && tkId tick != s.rd F.TB_STATUS_TB_ID) then
      ok (if tkGood tick && !(s.tb.role != 0 && tkId tick == s.rd F.TB_STATUS_TB_ID) then s.relayOther p res tick else s)
    else match (if s.ticking then s.reach now.toNat else some s) with
      | none => ok s
      | some s =>
        let s := if s.ticking && s.now == now.toNat then { s with tb := { s.tb with fine := max s.tb.fine fine.toNat } } else s
        ok (s.followTick p clk res tick)

/-- HOLD_END: the estimate has reached local step time. Details: DEDUCED, log entry 28. -/
def execHoldEnd (s : State) : Out := ok { s with tb := { s.tb with held := false } }

/-- HOLD_TIMEOUT: a hold has lasted 64 tick intervals. Details: DEDUCED, log entry 28. -/
def execHoldTimeout (s : State) : Out := if s.tb.held then ok s.timebaseLost else ok s

/-- TICKS_STOP: the ticks of 4 consecutive tick points are missed at local clock `clk`, in ns (R60, R63).
Details: DEDUCED, log entry 31. -/
def execTicksStop (clk : Nat) (s : State) : Out :=
  let st := s.tbState
  let follower := (s.tb.role == 1 || s.tb.role == 3) && s.tb.lastStamp.isSome
  if !follower || !(st == Tb.acquiring || st == Tb.locked || st == Tb.holdover) then ok s
  else
    let parent := s.rd F.TB_STATUS_PARENT_PORT
    let fresh := fun (p : Nat) => p != parent &&
      (match mfind s.tb.portTick p with | some c => clk ≤ c + s.intervals 4 | none => false)
    match (s.parentList (s.rd F.TB_STATUS_SRC)).find? fresh with
    | some p => ok (s.setParent p)
    | none => if st == Tb.holdover then ok s else ok ((s.ev F.TB_EVENTS_HOLDOVER).setTb Tb.holdover)

/-- STANDBY_PROMOTION: 8 tick intervals in HOLDOVER (R67). Details: DEDUCED, log entry 31. -/
def execStandbyPromotion (s : State) : Out :=
  if s.tb.role == 3 && s.tbState == Tb.holdover then
    let s := { s with tb := { s.tb with held := false } }.wr F.TB_STATUS_REF_LOST (b2n (!s.tb.refPresent))
    ok ((s.ev F.TB_EVENTS_PROMOTED).setTb Tb.master)
  else ok s

/-! ## Sending (R48, R56, R67) -/

/-- The master's tick with a stamp. Details: DEDUCED, log entry 31. -/
def State.masterTick (s : State) (stamp : Nat) : State :=
  let s := { s with tb := { s.tb with lastStamp := some stamp } }
  s.sendTick (mkTick (s.rd F.TB_STATUS_TB_ID) (b2n (s.tb.role == 3)) (b2n (!s.tb.refPresent)) 0 stamp 0)

/-- TICK_SEND: step time reaches a tick point. -/
def execTickSend (stamp : BitVec 64) (s : State) : Out :=
  let t := stamp.toNat
  let sent := match s.tb.lastStamp with | some l => t ≤ l | none => false
  if s.tbState != Tb.master || sent || t < s.now || t % 2 ^ (24 - s.rd F.TB_STATUS_TICK_LOG2) != 0 || !s.ticking then ok s
  else match s.reach t with
    | some s => ok (s.masterTick t)
    | none => ok s

/-- RTB_EPOCH_EDGE: a rising edge `since` ns after the accepted bind; the first at least 1 ms later begins START.
Details: DEDUCED, log entry 30. -/
def execRtbEpochEdge (since : Nat) (s : State) : Out :=
  match s.tb.start with
  | some t => if since < 1000000 then ok s else ok ((s.loadTime t 0).masterTick t)
  | none => ok s

/-- RTB_REF_LOSS: no RTB_REF edge for 1 µs. -/
def execRtbRefLoss (s : State) : Out :=
  let s := { s with tb := { s.tb with refPresent := false } }
  if s.tbState == Tb.master then ok ((s.wr F.TB_STATUS_REF_LOST 1).ev F.TB_EVENTS_REF_LOST) else ok s

def execRtbRefRestored (s : State) : Out :=
  ok ({ s with tb := { s.tb with refPresent := true } }.wr F.TB_STATUS_REF_LOST 0)

/-! ## Link delays (R50) -/

/-- Details: DEDUCED, log entry 32. -/
def execDelayRequest (p : Fin 8) (s : State) : Out :=
  if s.delayPort p then ok (s.send .delayRequest p [] []) else ok s

/-- DELAY_REQUEST_ARRIVAL: the answer carries this node's turnaround time, in ps. Details: DEDUCED, log entry 32. -/
def execDelayRequestArrival (p : Fin 8) (turnaround : Nat) (s : State) : Out :=
  if s.delayPort p then ok (s.send .delayResponse p [turnaround] []) else ok s

/-- A number put into a rising list. Details: DEDUCED, log entry 32. -/
def insertNat (n : Nat) : List Nat → List Nat
  | [] => [n]
  | m :: r => if n ≤ m then n :: m :: r else m :: insertNat n r

/-- The median of 16 numbers: the mean of the two in the middle. Details: DEDUCED, log entry 32. -/
def median16 (l : List Nat) : Nat :=
  let l := l.foldr insertNat []
  (l.getD 7 0 + l.getD 8 0) / 2

/-- DELAY_RESPONSE_ARRIVAL: half of the round trip less the partner's turnaround, in ps; the median is published from 16
measurements on. Details: DEDUCED, log entry 32. -/
def execDelayResponseArrival (p : Fin 8) (round turnaround : Nat) (s : State) : Out :=
  if !s.delayPort p then ok s
  else
    let l := ((round - turnaround) / 2 :: mget s.tb.meas p []).take 16
    let s := { s with tb := { s.tb with meas := mput s.tb.meas p l } }
    if l.length < 16 then ok s
    else ok ((s.wr (F.TB_PORT_DELAY_DELAY_PS p) (min (median16 l) (2 ^ 32 - 1))).wr (F.TB_PORT_DELAY_VALID p) 1)

/-! ## Binding (R54–R57, R60) -/

/-- TIMEBASE_BIND: the rows of Table 3.3 in order. Details: DEDUCED, log entry 30. -/
def State.bind (s : State) (q : Sub) : State :=
  let role := q.p 0 1
  let d := q.p 1 1
  let id := q.p 2 2
  let per := q.p 8 8
  let start := q.p 16 8
  let badRange := id = 0 || d > 23 || per < 50000 || 10 ^ 10 < per || per < 1000 * 2 ^ d || 100000 * 2 ^ d < per
  if role > 3 || (role = 0 && (id != 0 || d != 0 || per != 0 || start != 0)) || (role != 0 && badRange)
      || (role != 2 && start != 0) || start % 2 ^ 24 != 0 then s.short q St.badParam []
  else if role = 2 && !s.tb.refPresent then (s.wr F.TB_STATUS_REF_LOST 1).short q St.badParam []
  else if s.admitted && s.tbState != Tb.lost then s.short q St.busy []
  else if s.admitted && (role != s.tb.role || id != s.rd F.TB_STATUS_TB_ID || d != s.rd F.TB_STATUS_TICK_LOG2
      || per != s.periodNs) then s.short q St.badParam []
  else
    let s := { s with tb := { s.tb with
      role := role, start := if role = 2 then some start else none, loadPending := role == 1 || role == 3
      lastStamp := none, portTick := [], good := 0, bad := 0, acqSteps := 0, held := false, ended := false } }
    let s := forEach (List.range 32) (s.wrReg R.TB_COUNTS 0) (fun a s => s.wr (F.TB_ALARM_CTRL_ENABLE a) 0)
    let s := if role = 0 then
        ((s.setTb Tb.free).resetRange R.TB_STATUS (R.TB_STATUS + 8)).resetRange R.TB_PERIOD (R.TB_PERIOD + 8)
      else
        let s := ((s.wr F.TB_STATUS_TB_ID id).wr F.TB_STATUS_TICK_LOG2 d).wr F.TB_PERIOD_PERIOD_NS per
        let s := ((s.wr F.TB_STATUS_SRC 0).wr F.TB_STATUS_PARENT_PORT 0xF).wr F.TB_STATUS_HOLD_STEPS 0
        if role = 2 then (s.wr F.TB_STATUS_REF_LOST 0).setTb Tb.master else s.setTb Tb.acquiring
    s.short q St.ok []

/-- Details: DEDUCED, log entry 13. -/
def execTimebaseUnbind (s : State) : Out :=
  s.withSub Op.timebaseBind (fun q => q.p 0 1 = 0 || q.p 0 1 > 3) (fun q s => s.bind q)

/-- Details: DEDUCED, log entry 30. -/
def execTimebaseBindFollower (s : State) : Out :=
  s.withSub Op.timebaseBind (fun q => q.p 0 1 = 1) (fun q s => s.bind q)

/-- Details: DEDUCED, log entry 30. -/
def execTimebaseBindMaster (s : State) : Out :=
  s.withSub Op.timebaseBind (fun q => q.p 0 1 = 2) (fun q s => s.bind q)

/-- Details: DEDUCED, log entry 30. -/
def execTimebaseBindStandby (s : State) : Out :=
  s.withSub Op.timebaseBind (fun q => q.p 0 1 = 3) (fun q s => s.bind q)

/-! ## Reading and alarms (R68, R70) -/

/-- Step time stands at `now` and FINE `fine` when a register is read; a value the machine cannot have reached is the value
it holds. -/
def State.at_ (s : State) (now fine : Nat) : State :=
  match s.reach now with
  | none => s
  | some s => if s.ticking && s.now == now then { s with tb := { s.tb with fine := max s.tb.fine fine } } else s

/-- A read of TB_NOW latches FINE for its hart. -/
def State.latchFine (s : State) (h : Nat) : State :=
  { s with tb := { s.tb with hartFine := mput s.tb.hartFine h s.tb.fine } }

/-- TB_NOW_READ by Dome hart h into register rd, or by the Gatehouse (h = 64). -/
def execTbNowRead (h : Fin 65) (rd : Fin 32) (now : BitVec 64) (fine : BitVec 16) (s : State) : Out :=
  let s := (s.at_ now.toNat fine.toNat).latchFine h
  if h.val = 64 || rd.val = 0 then ok s
  else ok (s.setHart h { s.hart h with x := mput (s.hart h).x rd (BitVec.ofNat 64 s.now) })

/-- ALARM_FIRE: an enabled alarm whose target step time reaches. -/
def execAlarmFire (a : Fin 32) (s : State) : Out :=
  if !s.flag (F.TB_ALARM_CTRL_ENABLE a) then ok s
  else match s.reach (s.rd (F.TB_ALARM_TIME_TARGET a)) with
  | none => ok s
  | some s => if s.alarmDue a then ok (s.fireAlarm a) else ok s

end Sys2Proof.Machine
end

