-- ==== Sys2Proof/Machine/RegWrite.lean ====
section
/-! DEFINITION. Writes and reads of control registers by a Dome core or the Gatehouse (R8–R10, R22), and the rows of the
registers whose writes act. -/

namespace Sys2Proof.Machine

open Sys2Proof

/-! ## Plain access (Table 0.3) -/

/-- One field of a register after a write of v to the bits of mask m. Details: DEDUCED, log entry 33. -/
def storeField (v m old : Nat) (f : Nat × Nat × Access) : Nat :=
  let x := bits old f.1 f.2.1
  let n := bits v f.1 f.2.1
  let k := bits m f.1 f.2.1
  match f.2.2 with
  | .rw => setBits old f.1 f.2.1 ((x &&& (2 ^ f.2.1 - 1 - k)) ||| (n &&& k))
  | .w1c => setBits old f.1 f.2.1 (x &&& (2 ^ f.2.1 - 1 - (n &&& k)))
  | .ro => old
  | .wo => old

/-- A register after a write of v to the bits of mask m: reserved and read-only bits are left alone.
Details: DEDUCED, log entry 33. -/
def storeReg (a v m old : Nat) : Nat := (fieldsAt a).foldl (storeField v m) old

/-- Details: DEDUCED, log entry 21. -/
def State.plainStore (s : State) (a v m : Nat) : State := s.wrReg a (storeReg a v m (s.rdReg a))

/-! ## Registers whose writes act -/

/-- A write of 1 to ENABLE of a ring sets HEAD and TAIL to 0 (R96, R363). Details: DEDUCED, log entry 33. -/
def State.ringEnable (s : State) (on : Bool) (head tail : Nat) : State := if on then (s.wrReg head 0).wrReg tail 0 else s

/-- A write of OFF_REQ: terraces that nothing uses follow it at once, the others when their use ends (R98, R99).
Details: DEDUCED, log entries 33, 51. -/
def State.offRequest (s : State) : State :=
  if !s.ready then s
  else forEach (List.range 16) s (fun t s => if s.inUse t || s.resetting t then s else s.settlePower t)

/-- The index of a register array element, when the address names one. -/
def elemOf (a base stride n : Nat) : Option Nat :=
  if base ≤ a && a < base + stride * n && (a - base) % stride = 0 then some ((a - base) / stride) else none

/-- A store of v to the bits of mask m of the control register at a. Details: DEDUCED, log entries 21, 33. -/
def State.regStore (s : State) (a v m : Nat) : State :=
  let set := fun (i : Nat) => bit v i && bit m i
  let t := (a - schedBlock 0) / 0x10000
  if a = R.NODE_POWER_CAP then
    if bits m 0 16 = 0 then s else s.capWrite (bits (storeReg a v m (s.rdReg a)) 0 16)
  else if a = R.NODE_TERRACE_PWR then (s.plainStore a v m).offRequest
  else if a = R.MEM_SCRUB then
    let s := s.plainStore a v m
    if s.flag F.MEM_SCRUB_PERIOD_H then s else s.wr F.MEM_SCRUB_PERIOD_H 1
  else if a = R.COLL_FIELD_WEIGHT then
    let s := s.plainStore a v m
    if s.flag F.COLL_FIELD_WEIGHT_WEIGHT then s else s.wr F.COLL_FIELD_WEIGHT_WEIGHT 1
  else if a = R.FAB_DEAD_BOUND then
    let s := s.plainStore a v m
    s.wr F.FAB_DEAD_BOUND_BOUND_US (min (max (s.rd F.FAB_DEAD_BOUND_BOUND_US) 4) 250)
  else if a = R.CIST_PIN_CTRL then
    let s := s.plainStore a v m
    let s := if set 16 then s.pinArm (s.rd F.CIST_PIN_CTRL_COUNT) else s
    if set 17 then s.pinDisarm else s
  else if a = R.COLL_INSTALL then
    let s := s.plainStore a v m
    if set 4 then s.collInstall (s.rd F.COLL_INSTALL_SLOT) (s.rd F.COLL_INSTALL_ADDR * 64) else s
  else match elemOf a (R.NODE_CMD_RING_BASE 0) 32 16, elemOf a (R.NODE_CMD_RING_CTRL 0) 32 16,
      elemOf a (R.NODE_CMD_RING_TAIL 0) 32 16 with
  | some c, _, _ => if s.flag (F.NODE_CMD_RING_CTRL_ENABLE c) then s else s.plainStore a v m
  | _, some c, _ =>
    ((s.plainStore a v m).ringEnable (set 8) (R.NODE_CMD_RING_HEAD c) (R.NODE_CMD_RING_TAIL c)).flushRing c
  | _, _, some c => (s.plainStore a v m).flushRing c
  | _, _, _ =>
    if schedBlock 0 ≤ a && t < 16 && a = R.SCHED_RING_CTRL t then
      (s.plainStore a v m).ringEnable (set 8) (R.SCHED_RING_HEAD t) (R.SCHED_RING_TAIL t)
    else s.plainStore a v m

/-- A write of 4 or 8 bytes, naturally aligned, at a byte address of the control registers.
Details: DEDUCED, log entry 21. -/
def State.controlWrite (s : State) (a n v : Nat) : State :=
  let sh := 8 * (a % 8)
  s.regStore (a / 8 * 8) (v % 2 ^ (8 * n) * 2 ^ sh) ((2 ^ (8 * n) - 1) * 2 ^ sh)

/-- Whether an address of the control region lies in a reserved block, which is unbacked (Table 1.6, R21). -/
def reservedBlock (a : Nat) : Bool :=
  let k := (a - 0xF00000010000) / 0x10000
  (11 ≤ k && k ≤ 15) || (26 ≤ k && k ≤ 31)

/-- Whether an access to the control registers has a size and alignment that R22 allows, in a block that exists (R21).
Details: DEDUCED, log entry 21. -/
def controlOk (a n : Nat) : Bool := (n == 4 || n == 8) && a % n == 0 && !reservedBlock a

/-! ## Reads -/

/-- Counters of events that no command shows: Cistern hits and misses, to which instruction fetches and table walks add, and bank
conflicts (Tables 5.17, 10.21). Details: DESIGN CHOICE, log entry 9. -/
def hiddenCount (a : Nat) : Bool :=
  (cistBlock + 0x100 ≤ a && a < cistBlock + 0x200)
    || (spireBlock 0 ≤ a && a < spireBlock 288 && a % 0x10000 == 0x50)

/-- Before a read of such a counter it has grown by a free amount since it was read last.
Details: DESIGN CHOICE, log entry 9. -/
def State.counted (s : State) (a : Nat) : State := if hiddenCount a then s.wrReg a (s.rdReg a + s.free 0 (2 ^ 64)) else s

/-- SPIRE_ID of logical spire n (Table 5.9). Details: DESIGN CHOICE, log entry 9. -/
def spireIdReg (n : Nat) : Nat := n + 2 ^ 16 * (n / 18) + 2 ^ 24 * (n % 18) + 2 ^ 32 * (n / 144)

/-- The value a read of the register at a returns (R8, R10), for hart h: sensed values, lights and the latched
FINE as their rows say. Details: DESIGN CHOICE, log entry 9. -/
def State.regRead (s : State) (a h : Nat) : Nat :=
  if a = R.TB_NOW_FINE then mget s.tb.hartFine h 0
  else if a = R.NODE_SUPPLY then 2 ^ 48 * (s.rdReg a / 2 ^ 48) + s.free 0 (2 ^ 48)
  else if memBlock + 0x100 ≤ a && a < memBlock + 0x140 then setBits (s.rdReg a) 32 16 (s.free 0 (2 ^ 16))
  else if panelBlock ≤ a && a < panelBlock + 0x10000 then s.panelReg a
  else if spireBlock 0 ≤ a && a < spireBlock 288 && a % 0x10000 = 0 then
    spireIdReg ((a - spireBlock 0) / 0x10000)
  else s.rdReg a

/-! ## Rows -/

/-- REGISTER_WRITE: a Dome core or the Gatehouse writes 8 (`wide`) or 4 bytes at an address of the control registers.
Details: DEDUCED, log entry 33. -/
def execRegisterWrite (addr : BitVec 48) (wide : Bool) (v : BitVec 64) (s : State) : Out :=
  let a := addr.toNat
  let n := if wide then 8 else 4
  if s.alive && isControl a && controlOk a n then ok (s.controlWrite a n v.toNat) else ok s

/-- SCHED_RING_CTRL_WRITE of terrace t (R96). -/
def execSchedRingCtrlWrite (t : Fin 16) (v : BitVec 64) (s : State) : Out :=
  if s.alive then ok (s.controlWrite (R.SCHED_RING_CTRL t) 8 v.toNat) else ok s

/-- NODE_TERRACE_PWR_WRITE: OFF_REQ (R99). Details: DEDUCED, log entry 51. -/
def execNodeTerracePwrWrite (off : BitVec 16) (s : State) : Out :=
  if s.alive then ok ((s.wr F.NODE_TERRACE_PWR_OFF_REQ off.toNat).offRequest) else ok s

/-- NODE_CMD_RING_CTRL_WRITE of channel c (R363). -/
def execNodeCmdRingCtrlWrite (c : Fin 16) (v : BitVec 64) (s : State) : Out :=
  if s.alive then ok (s.controlWrite (R.NODE_CMD_RING_CTRL c) 8 v.toNat) else ok s

/-- NODE_CMD_RING_TAIL_WRITE of channel c (R363). -/
def execNodeCmdRingTailWrite (c : Fin 16) (tail : BitVec 32) (s : State) : Out :=
  if s.alive then ok (s.controlWrite (R.NODE_CMD_RING_TAIL c) 8 tail.toNat) else ok s

end Sys2Proof.Machine
end

