-- ==== Sys2Proof/Machine/Commands.lean ====
section
/-! DEFINITION. How command packets reach the Gatehouse (chapter 16): the checks of R367, the four channels, forwarding to
another node, NODE_INFO, and the commands a REPLAY submits. An accepted packet waits in `cmd.gate` for its opcode's row. -/

namespace Sys2Proof.Machine

open Sys2Proof

/-! ## The header (Table 16.1) -/

def hdExt (p : Bytes) : Bool := bit (fld p 3 1) 0
def hdMsi (p : Bytes) : Bool := bit (fld p 3 1) 1
/-- Details: DESIGN CHOICE, log entry 18. -/
def hdRemote (p : Bytes) : Bool := bit (fld p 3 1) 2
def hdOpcode (p : Bytes) : Nat := fld p 4 2
def hdLength (p : Bytes) : Nat := fld p 6 2
def hdTag (p : Bytes) : Nat := fld p 12 4
def hdDeadline (p : Bytes) : Nat := fld p 16 8

/-- Whether the header alone is well formed (R351, R352). Details: DEDUCED, log entry 17. -/
def headerOk (chan : Chan) (p : Bytes) : Bool :=
  let isLocal := match chan with | .loc _ => true | _ => false
  64 ≤ p.length && fld p 0 2 == 0x4C53 && fld p 2 1 == 1 && fld p 3 1 / 8 == 0 && fld p 8 4 == 0
    && hdLength p ≤ (if hdExt p then 4096 else 40)
    && (!hdRemote p || (isLocal && hdExt p))
    && (!hdExt p ||
      (if isLocal then
        (if hdRemote p then fld p 32 2 < 2 ^ 15 && allZero (sub p 34 30) else allZero (sub p 32 32))
      else allZero (sub p 24 40)))

/-- Check 1 of R367 and the parameters of the packet: inline, from memory on a local channel, else after the header.
Details: DEDUCED, log entry 17. -/
def State.packetParams (s : State) (chan : Chan) (p : Bytes) : Nat ⊕ Bytes :=
  let n := hdLength p
  if !headerOk chan p then .inl St.badParam
  else if !hdExt p then .inr (sub p 24 n)
  else match chan with
    | .loc _ =>
      let a := fld p 24 8
      if a % 64 != 0 || !(n == 0 || s.backed a n) then .inl St.badParam
      else if n != 0 && s.poisoned a n then .inl St.poisonConsumed
      else .inr (s.readBytes a n)
    | _ => if p.length < 64 + n then .inl St.badParam else .inr (sub p 64 n)

/-! ## Acceptance (R353, R360, R361, R367, R398) -/

/-- Privileged opcodes: FW_ACTIVATE, KEY_ROTATE, RESET_SCOPE with SCOPE 3, KEEP_WRITE to region 1 or touching bytes 0–8,191 of
region 9 (R353, R444). Details: DEDUCED, log entry 16. -/
def privileged (op : Nat) (ps : Bytes) : Bool :=
  op == Op.fwActivate || op == Op.keyRotate || (op == Op.resetScope && fld ps 0 1 == 3)
    || (op == Op.keepWrite && (fld ps 0 1 == 1 || (fld ps 0 1 == 9 && fld ps 4 4 < 8192)))

/-- The opcodes open before B11 and while the node holds (R398). Details: DEDUCED, log entry 15. -/
def openEarly (op : Nat) (ps : Bytes) : Bool :=
  [Op.nodeInfo, Op.readStageReports, Op.keepRead, Op.keepWrite, Op.readAgeingLog, Op.identityRead, Op.attest, Op.fwStage,
    Op.fwActivate, Op.panelState].contains op || (op == Op.resetScope && fld ps 0 1 == 3)

/-- The opcodes of the ROM that holds after a failure at B1 (R434). Details: DEDUCED, log entry 15. -/
def openRom (op : Nat) (ps : Bytes) : Bool :=
  (op == Op.nodeInfo && fld ps 0 1 == 0) || op == Op.readStageReports || op == Op.identityRead
    || (op == Op.fwStage && fld ps 0 1 == 1) || op == Op.fwActivate || (op == Op.resetScope && fld ps 0 1 == 3)

/-- The live commands a REPLAY lets through (R431). Details: DEDUCED, log entry 89. -/
def openReplay (op : Nat) : Bool :=
  [Op.nodeInfo, Op.ckptStatus, Op.panelState, Op.recordStop, Op.readAgeingLog].contains op

/-- The opcodes that use DEADLINE (R361). -/
def usesDeadline (op : Nat) : Bool := [Op.solve, Op.jobBroadcast, Op.marginSurvey, Op.selfTest].contains op

/-- Check 3: the channel excludes the opcode (R353, R357). Details: DESIGN CHOICE, log entry 12. -/
def State.channelCheck (s : State) (chan : Chan) (jobTag op : Nat) (remote : Bool) (ps : Bytes) : Nat :=
  let priv := privileged op ps
  let tag := match s.job with | some j => some j.jobTag | none => none
  match chan with
  | .tray => St.ok
  | .fabric _ =>
    if priv then St.notPrivileged
    else if !Op.fabricOps.contains op || tag != some jobTag then St.channelRefused else St.ok
  | _ =>
    if priv then St.notPrivileged
    else if remote && (s.job.isNone || !Op.fabricOps.contains op) then St.channelRefused else St.ok

/-- Whether the state of the node closes the opcode: before B11, in the ROM, or to a live command of a REPLAY.
Details: DEDUCED, log entry 15. -/
def State.opcodeClosed (s : State) (op : Nat) (ps : Bytes) (live : Bool) : Bool :=
  (s.boot.romHold && !openRom op ps) || (!s.ready && !openEarly op ps)
    || (live && s.check.replay.isSome && !openReplay op)

/-- Long commands outstanding on a channel, forwarded ones included (R360). Details: DESIGN CHOICE, log entry 19. -/
def State.outstandingOn (s : State) (chan : Chan) : Nat :=
  (s.cmd.longs.filter (fun l => l.chan == chan)).length + (match chan with
    | .loc c => (s.cmd.remotes.filter (fun r => r.chan == c && Op.longs.contains r.opcode)).length
    | _ => 0)

/-- Details: DESIGN CHOICE, log entry 19. -/
def chanLimit : Chan → Nat
  | .loc _ => 256
  | .mgmt _ => 256
  | .tray => 16
  | .fabric _ => 64

/-- Check 6: a long command meets R360. Details: DESIGN CHOICE, log entries 12, 19. -/
def State.limitCheck (s : State) (chan : Chan) (op : Nat) : Nat :=
  if !Op.longs.contains op then St.ok
  else
    let ring := match chan with
      | .loc c => s.flag (F.NODE_CMD_RING_CTRL_ENABLE c)
      | _ => true
    if !ring then St.noRing else if chanLimit chan ≤ s.outstandingOn chan then St.busy else St.ok

/-- Checks 2 to 6 of R367 in their order. Details: DESIGN CHOICE, log entry 12; DEDUCED, log entry 16. -/
def State.acceptCheck (s : State) (chan : Chan) (jobTag : Nat) (p ps : Bytes) (live : Bool) : Nat :=
  let op := hdOpcode p
  let c := s.channelCheck chan jobTag op (hdRemote p) ps
  if !Op.all.contains op then St.badOpcode
  else if c != St.ok then c
  else if s.opcodeClosed op ps live then St.busy
  else if hdDeadline p != 0 && !usesDeadline op then St.badParam
  else s.limitCheck chan op

/-- The submission a packet makes. Details: DESIGN CHOICE, log entry 12. -/
def mkSub (chan : Chan) (slot : Nat) (p ps : Bytes) (silent : Bool) : Sub :=
  { chan := chan, slot := slot, opcode := hdOpcode p, msi := hdMsi p, tag := hdTag p, deadline := hdDeadline p, params := ps,
    silent := silent }

/-! ## Forwarding (R357) -/

/-- The header as it travels: the local fields REMOTE, EXT_ADDR and TARGET are cleared.
Details: DESIGN CHOICE, log entry 18. -/
def forwardHeader (p : Bytes) : Bytes := patch (patch (sub p 0 64) 3 (natLE 1 (setBit (fld p 3 1) 2 false))) 24 (zeros 40)

/-- A forwarded command ends without its target: the slot's reply carries TARGET_DEAD and HANDLE 0.
Details: DESIGN CHOICE, log entries 18, 19. -/
def State.remoteDead (s : State) (chan slot opcode tag : Nat) : State :=
  (s.ev F.NODE_CMD_EVENTS_REMOTE_DEAD).replyTo (.loc chan) slot opcode tag St.targetDead 0 []

/-- Send the packet to TARGET's Gatehouse on the job's live route version; a destination marked unreachable concludes at
once (R260). Details: DESIGN CHOICE, log entry 18. -/
def State.forward (s : State) (c slot : Nat) (p ps : Bytes) : State :=
  let dest := fld p 32 2
  let data := forwardHeader p ++ ps
  let tag := s.liveTag
  let r : Remote := ⟨dest, c, slot, hdTag p, hdOpcode p, hdMsi p, none⟩
  let s := { s with cmd := { s.cmd with remotes := s.cmd.remotes ++ [r] } }
  let gone := { s with cmd := { s.cmd with remotes := s.cmd.remotes.filter (fun x => x != r) } }
  if dest != s.nodeId && s.lookup tag s.liveVer dest == .unreachable then gone.remoteDead c slot (hdOpcode p) (hdTag p)
  else s.sendLive .command dest [tag] data

/-! ## Submission -/

/-- A packet arrives on a channel: refused with the first failing check, forwarded, or accepted in arrival order (R354,
R367); an accepted one is recorded (R429). Details: DESIGN CHOICE, log entry 12. -/
def State.submit (s : State) (chan : Chan) (slot jobTag : Nat) (p : Bytes) : State :=
  let no := mkSub chan slot p [] false
  match s.packetParams chan p with
  | .inl st =>
    let s := match chan with
      | .loc _ => if hdExt p then s.noteRefl (fld p 24 8) (hdLength p) else s
      | _ => s
    s.refuse no st
  | .inr ps =>
    let st := s.acceptCheck chan jobTag p ps true
    if st != St.ok then
      (if st == St.notPrivileged then s.ev F.SEC_EVENTS_PRIV_REFUSED else s).refuse no st
    else match hdRemote p, chan with
      | true, .loc c => s.forward c slot p ps
      | _, _ =>
        let s := s.recordPut (some 1) 3 0 (natLE 8 chan.code ++ sub p 0 64 ++ (if hdExt p then ps else []))
        { s with cmd := { s.cmd with gate := s.cmd.gate ++ [mkSub chan slot p ps false] } }

/-- A packet reaches a Command Port slot (R355): discarded while the slot is PENDING, else PENDING until its reply.
Details: DEDUCED, log entry 15. -/
def State.slotSubmit (s : State) (k : Nat) (p : Bytes) : State :=
  let r := s.slot k
  if fld r 3 1 = 1 then
    (s.setSlot k (patch r 2 (natLE 1 ((fld r 2 1 + 1) % 256)))).ev F.NODE_CMD_EVENTS_SLOT_DROP
  else (s.setSlot k (patch r 3 (natLE 1 1))).submit (.loc (k / 64)) (k % 64) 0 p

/-! ## Channels other than the local ones -/

/-- TSB_COMMAND: a private write with FUNCTION 0x01; what exceeds the write length in force does not arrive (R465, R466).
Details: PRESUMED, log entry 96. -/
def execTsbCommand (packet : Bytes) (s : State) : Out :=
  if !s.trayOpen then ok s
  else s.addressed (fun s =>
    let r := if s.cmd.trayReply.isEmpty then mkReply 0 0 0 0 0 0 [] else s.cmd.trayReply
    if fld r 3 1 = 1 then
      { s with cmd := { s.cmd with trayReply := patch r 2 (natLE 1 ((fld r 2 1 + 1) % 256)) } }
    else
      { s with cmd := { s.cmd with trayReply := patch r 3 (natLE 1 1), traySelect := 1 } }.submit .tray 0 0
        (packet.take (s.panel.mwl - 1)))

/-- The kept packets of a session stay at 256, the newest first (R365). Details: DEDUCED, log entry 20. -/
def keepNewest (session : Nat) (l : List (Nat × Nat × Bytes × Bytes)) : List (Nat × Nat × Bytes × Bytes) :=
  (l.filter (fun k => k.1 == session)).take 256 ++ l.filter (fun k => k.1 != session)

/-- MGMT_COMMAND: the inner COMMAND message of an authenticated datagram; a repeated packet receives the kept reply and does
not run again, a different one under the same TAG is refused (R364, R365, R464). Details: DEDUCED, log entry 20. -/
def execMgmtCommand (sid counter client : Nat) (auth : Bool) (packet : Bytes) (s : State) : Out :=
  let (s, taken) := s.datagram sid counter client auth
  if !taken || !s.openFrom 2 || s.boot.romHold then ok s
  else
    let tag := hdTag packet
    match s.cmd.kept.find? (fun k => k.1 == sid && k.2.1 == tag) with
    | some (_, _, p, r) =>
      if p == packet then (if r.isEmpty then ok s else ok (s.mgmtSend sid 2 r))
      else
        ok ((s.inc F.NODE_CMD_COUNTS_REFUSED).mgmtSend sid 2 (mkReply 0 2 (hdOpcode packet) St.badParam 0 tag []))
    | none =>
      let s := { s with cmd := { s.cmd with kept := keepNewest sid ((sid, tag, packet, []) :: s.cmd.kept) } }
      ok (s.submit (.mgmt sid) 0 0 packet)

/-- FABRIC_COMMAND_PACKET: a command that node `src` forwarded, with the JOB_TAG of its packet (R357, R398).
Details: DEDUCED, log entry 15. -/
def execFabricCommandPacket (src : Fin 32768) (jobTag : BitVec 16) (packet : Bytes) (s : State) : Out :=
  if s.alive && s.ready then ok (s.submit (.fabric src) 0 jobTag.toNat packet) else ok s

/-! ## The source of a forwarded command (R357) -/

/-- Details: DESIGN CHOICE, log entry 19. -/
def State.remoteAt (s : State) (k : Nat) : Option Remote :=
  s.cmd.remotes.find? (fun r => r.chan == k / 64 && r.slot == k % 64 && r.handle.isNone)

def State.dropRemote (s : State) (r : Remote) : State :=
  { s with cmd := { s.cmd with remotes := s.cmd.remotes.erase r } }

/-- REMOTE_REPLY_ARRIVAL: the target's 64-byte reply becomes the reply of slot k.
Details: DESIGN CHOICE, log entry 19. -/
def execRemoteReplyArrival (k : Fin 1024) (reply : Vector (BitVec 8) 64) (s : State) : Out :=
  match s.remoteAt k with
  | none => ok s
  | some r =>
    let b := reply.toList
    let s := s.dropRemote r
    let s := if fld b 8 4 = 0 then s
      else { s with cmd := { s.cmd with remotes := s.cmd.remotes ++ [{ r with handle := some (fld b 8 4) }] } }
    ok (s.setSlot k (mkReply (fld (s.slot k) 2 1) 2 (fld b 4 2) (fld b 6 2) (fld b 8 4) (fld b 12 4) (sub b 16 48)))

/-- REMOTE_REPLY_TIMEOUT: the dead-target bound passes without a reply for slot k.
Details: DESIGN CHOICE, log entry 19. -/
def execRemoteReplyTimeout (k : Fin 1024) (s : State) : Out :=
  match s.remoteAt k with
  | none => ok s
  | some r => ok ((s.dropRemote r).remoteDead r.chan r.slot r.opcode r.tag)

/-- REMOTE_RECORD_ARRIVAL: the target's completion record goes to the submitting channel's ring.
Details: DESIGN CHOICE, log entry 19. -/
def execRemoteRecordArrival (node : Fin 32768) (data : Vector (BitVec 8) 64) (s : State) : Out :=
  let b := data.toList
  match s.cmd.remotes.find? (fun r => r.target == node.val && r.handle == some (fld b 8 4)) with
  | none => ok s
  | some r => ok ((s.dropRemote r).toRing r.chan b r.msi false)

/-- REMOTE_PROBE: the targets of the outstanding remote handles are probed; `dead` lists the nodes whose probe does not
answer within the dead-target bound. Details: DESIGN CHOICE, log entry 19. -/
def execRemoteProbe (dead : List (Fin 32768)) (s : State) : Out :=
  let held := s.cmd.remotes.filter (fun r => r.handle.isSome)
  let s := held.foldl (fun (s : State) (r : Remote) => s.sendLive .probe r.target [] []) s
  let lost := held.filter (fun r => dead.any (fun d => d.val == r.target)
    || s.lookup s.liveTag s.liveVer r.target == .unreachable)
  ok (lost.foldl (fun (s : State) (r : Remote) =>
    let rcd := patch (s.mkRecord 0 r.opcode St.targetDead (r.handle.getD 0) r.tag 0 []) 2 (natLE 2 r.target)
    (((s.dropRemote r).ev F.NODE_CMD_EVENTS_REMOTE_DEAD)).toRing r.chan rcd r.msi false) s)

/-! ## NODE_INFO (Table 16.7) -/

/-- Physical spires of a die that are good, in ascending order (R101). -/
def State.goodSpires (s : State) (die : Nat) : List Nat := bitList (if die = 0 then s.boot.good0 else s.boot.good1) 160

/-- Details: DEDUCED, log entry 94. -/
def State.infoPage (s : State) (page : Nat) : Bytes :=
  if page = 0 then
    natLE 2 (s.rdReg R.FAB_NODE_ID) ++ natLE 1 (s.rd F.NODE_VARIANT_VARIANT) ++ natLE 1 s.profile ++ natLE 2 (s.rd F.NODE_PROFILE_TOWER_MHZ)
      ++ natLE 2 (s.rd F.NODE_VARIANT_PLAN_MAX_MHZ) ++ natLE 8 (s.rd F.SEC_FW_VERSION_VALUE)
      ++ natLE 8 (s.keep.powerOnS / 3600) ++ natLE 1 (s.rd F.NODE_STAGE_STAGE)
  else
    let d := (page - 1) / 4
    if (page - 1) % 4 = 0 then natLE 20 (if d = 0 then s.boot.good0 else s.boot.good1)
    else (List.range 48).map (fun i => BitVec.ofNat 8 ((s.goodSpires d).getD (48 * ((page - 2) % 4) + i) 0))

/-- NODE_INFO: page 0–8. Details: DEDUCED, log entry 94. -/
def execNodeInfo (s : State) : Out :=
  s.withSub Op.nodeInfo (fun _ => true) (fun q s =>
    if q.p 0 1 > 8 then s.short q St.badParam [] else s.short q St.ok (s.infoPage (q.p 0 1)))

/-! ## Commands of a REPLAY (R431) -/

def chanOfCode (c node : Nat) : Chan :=
  if c < 16 then .loc c else if c = 0x40 then .mgmt 0 else if c = 0x80 then .tray else .fabric node

/-- REPLAY_COMMAND_SUBMIT: the next recorded COMMAND is submitted when its time, shifted by Δ steps, is reached; its reply
and completion are discarded. Details: DEDUCED, log entry 89. -/
def execReplayCommandSubmit (s : State) : Out :=
  match s.check.replay with
  | none => ok s
  | some r =>
    match r.liveStart, r.records.find? (fun x => recKind x == 3 && r.fromStep ≤ recTime x / 2 ^ 24) with
    | some first, some x =>
      let body := recBody x
      match s.reach (recTime x + 2 ^ 24 * (first - r.fromStep)) with
      | none => ok s
      | some s =>
        let s := { s with check := { s.check with replay := some { r with records := r.records.erase x } } }
        let p := sub body 8 64
        let ps := if hdExt p then sub body 72 (hdLength p) else sub p 24 (hdLength p)
        let chan := chanOfCode (fld body 0 1) s.nodeId
        let st := s.acceptCheck chan (match s.job with | some j => j.jobTag | none => 0) p ps false
        let q := mkSub chan 0 p ps true
        if st != St.ok then ok (s.refuse q st) else ok { s with cmd := { s.cmd with gate := s.cmd.gate ++ [q] } }
    | _, _ => ok s

end Sys2Proof.Machine
end

