-- ==== Sys2Proof/Machine/DomeFloat.lean ====
section
/-! DEFINITION. Scalar floating point of the Dome harts (R159): the RISC-V F, D, Zfh, Zfbfmin and Zfa instructions with one
rounding mode, and their flags. -/

namespace Sys2Proof.Machine

open Sys2Proof

/-- A hart executes an instruction when the node is ready and the hart waits for nothing (R192, R247).
Details: PRESUMED, log entry 56. -/
def State.onHart (s : State) (h : Nat) (f : State → State) : Out :=
  if s.alive && s.ready && (s.hart h).twait.isNone && (s.hart h).remote.isNone then ok (f s) else ok s

/-- Details: PRESUMED, log entry 56. -/
def State.hartIllegal (s : State) (h : Nat) : State := s.hartTrap h Cause.illegal 0

/-! ## Formats and registers -/

def ffmt : FFmt → Fmt
  | .half => fmtFP16
  | .single => fmtFP32
  | .double => fmtFP64
  | .bf16 => fmtBF16

/-- A float register's value in a format: the canonical NaN where it is not NaN-boxed. -/
def unbox (f : Fmt) (v : Word) : Nat :=
  let w := f.width
  if v.toNat >>> w = 2 ^ (64 - w) - 1 then v.toNat % 2 ^ w else f.nan

def Hart.fr (x : Hart) (r : Nat) : Word := mget x.f r 0
def Hart.fv (x : Hart) (f : Fmt) (r : Nat) : Nat := unbox f (x.fr r)
/-- Store a float result, NaN-boxed. -/
def Hart.setF (x : Hart) (f : Fmt) (r v : Nat) : Hart := x.setX (32 + r) (domeValue (32 + r) (f.width / 8) false v)
def Hart.flag (x : Hart) (fl : Nat) : Hart := { x with fflags := x.fflags ||| fl }

/-! ## Results with flags -/

def nvIf (b : Bool) : Nat := if b then Fl.nv else 0

/-- Deliver a value: rounded once, with the flags of the operation and of the rounding. -/
def Fmt.deliver (f : Fmt) (v : FVal) (fl : Nat) : Nat × Nat := (f.enc v, if v.isNan then fl else fl ||| f.flags v)

/-- Invalid: a signalling operand, or a NaN that no operand brought. -/
def Fmt.invalid (f : Fmt) (ops : List Nat) (v : FVal) : Bool :=
  ops.any f.isSNan || (v.isNan && ops.all (fun o => !(f.decode o).isNan))

/-- Extra bits a quotient keeps below every format's last place. -/
def quotBits : Nat := 192

def Fmt.fAdd (f : Fmt) (a b : Nat) : Nat × Nat :=
  let v := (f.decode a).add (f.decode b)
  f.deliver v (nvIf (f.invalid [a, b] v))
def Fmt.fSub (f : Fmt) (a b : Nat) : Nat × Nat :=
  let v := (f.decode a).sub (f.decode b)
  f.deliver v (nvIf (f.invalid [a, b] v))
def Fmt.fMul (f : Fmt) (a b : Nat) : Nat × Nat :=
  let v := (f.decode a).mul (f.decode b)
  f.deliver v (nvIf (f.invalid [a, b] v))
def Fmt.fDiv (f : Fmt) (a b : Nat) : Nat × Nat :=
  let x := f.decode a
  let y := f.decode b
  let v := x.div y quotBits
  let dz := y.isZero && !x.isZero && !x.isNan && !x.isInf
  f.deliver v (nvIf (f.invalid [a, b] v) ||| (if dz then Fl.dz else 0))
def Fmt.fSqrt (f : Fmt) (a : Nat) : Nat × Nat :=
  let v := (f.decode a).sqrt
  f.deliver v (nvIf (f.invalid [a] v))

/-- ±(a × b) ± c, rounded once; ∞ × 0 is invalid beside any addend. -/
def Fmt.fFma (f : Fmt) (negP negC : Bool) (a b c : Nat) : Nat × Nat :=
  let x := f.decode a
  let y := f.decode b
  let z := f.decode c
  let p := x.mul y
  let v := (if negP then p.neg else p).add (if negC then z.neg else z)
  f.deliver v (nvIf (f.invalid [a, b, c] v || (p.isNan && !x.isNan && !y.isNan)))

/-- Sign injection: the sign of b, its opposite, or the product of the signs. -/
def Fmt.fSgn (f : Fmt) (k a b : Nat) : Nat :=
  let w := f.width - 1
  let sa := bit a w
  let sb := bit b w
  setBit a w (if k = 0 then sb else if k = 1 then !sb else sa != sb)

/-- Minimum and maximum number; with `strict` a NaN operand gives the canonical NaN (Zfa).
Details: PRESUMED, log entry 60. -/
def Fmt.fMinMax (f : Fmt) (mx strict : Bool) (a b : Nat) : Nat × Nat :=
  let nan := (f.decode a).isNan || (f.decode b).isNan
  (if strict && nan then f.nan else fminMax f mx a b, nvIf (f.isSNan a || f.isSNan b))

/-- Comparison 0 equal, 1 less, 2 less or equal; a signalling one is invalid on any NaN. -/
def Fmt.fCmp (f : Fmt) (k : Nat) (signalling : Bool) (a b : Nat) : Nat × Nat :=
  let x := f.decode a
  let y := f.decode b
  let nan := x.isNan || y.isNan
  let r := if k = 0 then x.eq y else if k = 1 then x.lt y else x.lt y || x.eq y
  (b2n r, nvIf (f.isSNan a || f.isSNan b || (signalling && nan)))

/-- The class mask of FCLASS. Details: PRESUMED, log entry 60. -/
def Fmt.fClass (f : Fmt) (a : Nat) : Nat :=
  let sub := bits a f.mbits f.ebits = 0
  match f.decode a with
  | .nan => if f.isSNan a then 2 ^ 8 else 2 ^ 9
  | .inf n => if n then 2 ^ 0 else 2 ^ 7
  | .fin n m _ =>
    if m = 0 then (if n then 2 ^ 3 else 2 ^ 4)
    else if sub then (if n then 2 ^ 2 else 2 ^ 5)
    else (if n then 2 ^ 1 else 2 ^ 6)

/-- A value as a w-bit integer, rounded to nearest even; saturated and invalid outside the range. -/
def toIntFlags (w : Nat) (sgn : Bool) (v : FVal) : Nat × Nat :=
  let hi : Int := if sgn then 2 ^ (w - 1) - 1 else 2 ^ w - 1
  let lo : Int := if sgn then -(2 ^ (w - 1)) else 0
  match v with
  | .nan => (unsigned w hi, Fl.nv)
  | .inf n => (unsigned w (if n then lo else hi), Fl.nv)
  | .fin n m e =>
    let i := sgnM n (scaleRne m e)
    if i < lo then (unsigned w lo, Fl.nv)
    else if hi < i then (unsigned w hi, Fl.nv)
    else (unsigned w i, if (FVal.ofInt i 0 false).eq v then 0 else Fl.nx)

/-- A w-bit integer as a float. Details: PRESUMED, log entry 60. -/
def Fmt.ofIntFlags (f : Fmt) (w : Nat) (sgn : Bool) (i : Nat) : Nat × Nat :=
  f.deliver (FVal.ofInt (if sgn then signed w i else (i % 2 ^ w : Nat)) 0 false) 0

/-- To an integral value, ties to even (Zfa). Details: PRESUMED, log entry 60. -/
def Fmt.fRound (f : Fmt) (exact : Bool) (a : Nat) : Nat × Nat :=
  match f.decode a with
  | .nan => (f.nan, nvIf (f.isSNan a))
  | .inf _ => (a, 0)
  | .fin n m e =>
    let v : FVal := .fin n (scaleRne m e) 0
    (f.enc v, if exact && !v.eq (f.decode a) then Fl.nx else 0)

/-- The constants of FLI (Zfa): 1 is the smallest normal number, 30 infinity, 31 the canonical NaN.
Details: PRESUMED, log entry 60. -/
def Fmt.constant (f : Fmt) (k : Nat) : Nat :=
  let one := fun (m : Nat) (w : Int) => f.enc (.fin false m w)
  match k with
  | 0 => f.enc (.fin true 1 0)
  | 1 => f.pack false 1 0
  | 2 => one 1 (-16) | 3 => one 1 (-15) | 4 => one 1 (-8) | 5 => one 1 (-7) | 6 => one 1 (-4) | 7 => one 1 (-3)
  | 8 => one 1 (-2) | 9 => one 5 (-4) | 10 => one 3 (-3) | 11 => one 7 (-4) | 12 => one 1 (-1) | 13 => one 5 (-3)
  | 14 => one 3 (-2) | 15 => one 7 (-3) | 16 => one 1 0 | 17 => one 5 (-2) | 18 => one 3 (-1) | 19 => one 7 (-2)
  | 20 => one 2 0 | 21 => one 5 (-1) | 22 => one 3 0 | 23 => one 4 0 | 24 => one 8 0 | 25 => one 16 0 | 26 => one 128 0
  | 27 => one 256 0 | 28 => one 1 15 | 29 => one 1 16 | 30 => f.overflow false false | _ => f.nan

/-! ## The instruction -/

/-- Whether the instruction carries an rm field (R159). Details: PRESUMED, log entry 60. -/
def floatHasRm : FloatOp → Bool
  | .add | .sub | .mul | .div | .sqrt | .madd | .msub | .nmsub | .nmadd => true
  | .ofFmt _ | .toInt .. | .ofInt .. | .round _ => true
  | _ => false

/-- Whether the operation exists in the format: Zfbfmin has only its conversions with single precision.
Details: PRESUMED, log entry 60. -/
def floatExists (op : FloatOp) (f : FFmt) : Bool :=
  match op, f with
  | .csr r _, _ => r != 0
  | .ofFmt src, .bf16 => src == .single
  | .ofFmt .bf16, g => g == .single
  | .ofFmt src, g => src != g
  | _, .bf16 => false
  | _, _ => true

/-- The new value of a CSR instruction. -/
def csrNew (form : CsrForm) (old src : Nat) : Nat :=
  if form.kind = 0 then src else if form.kind = 1 then old ||| src else old &&& (2 ^ 64 - 1 - src)
/-- Whether a CSR instruction writes. -/
def csrWrites (form : CsrForm) (rs1 : Nat) : Bool := form.kind == 0 || rs1 != 0
def Hart.csrSrc (x : Hart) (form : CsrForm) (rs1 : Nat) : Nat := if form.imm then rs1 else (x.xr rs1).toNat

/-- fflags, frm or fcsr: frm reads 0 and ignores writes (R159). -/
def Hart.floatCsr (x : Hart) (reg : Nat) (form : CsrForm) (rd rs1 : Nat) : Hart :=
  let old := if reg = 2 then 0 else x.fflags
  let new := csrNew form old (x.csrSrc form rs1)
  let y := if csrWrites form rs1 && reg != 2 then { x with fflags := new % 32 } else x
  y.setX rd (BitVec.ofNat 64 old)

/-- The effect of a floating-point instruction on its hart's registers and flags. Details: PRESUMED, log entry 60. -/
def Hart.float (x : Hart) (op : FloatOp) (fm : FFmt) (rd rs1 rs2 rs3 : Nat) : Hart :=
  let f := ffmt fm
  let a := x.fv f rs1
  let b := x.fv f rs2
  let c := x.fv f rs3
  let toF := fun (r : Nat × Nat) => (x.setF f rd r.1).flag r.2
  let toX := fun (r : Nat × Nat) => (x.setX rd (BitVec.ofNat 64 r.1)).flag r.2
  match op with
  | .add => toF (f.fAdd a b)
  | .sub => toF (f.fSub a b)
  | .mul => toF (f.fMul a b)
  | .div => toF (f.fDiv a b)
  | .sqrt => toF (f.fSqrt a)
  | .madd => toF (f.fFma false false a b c)
  | .msub => toF (f.fFma false true a b c)
  | .nmsub => toF (f.fFma true false a b c)
  | .nmadd => toF (f.fFma true true a b c)
  | .sgnj => toF (f.fSgn 0 a b, 0)
  | .sgnjn => toF (f.fSgn 1 a b, 0)
  | .sgnjx => toF (f.fSgn 2 a b, 0)
  | .min => toF (f.fMinMax false false a b)
  | .max => toF (f.fMinMax true false a b)
  | .minm => toF (f.fMinMax false true a b)
  | .maxm => toF (f.fMinMax true true a b)
  | .eq => toX (f.fCmp 0 false a b)
  | .lt => toX (f.fCmp 1 true a b)
  | .le => toX (f.fCmp 2 true a b)
  | .ltq => toX (f.fCmp 1 false a b)
  | .leq => toX (f.fCmp 2 false a b)
  | .classify => toX (f.fClass a, 0)
  | .ofFmt src =>
    let g := ffmt src
    let v := x.fv g rs1
    toF (f.deliver (g.decode v) (nvIf (g.isSNan v)))
  | .toInt wide sgn =>
    let w := if wide then 64 else 32
    let (v, fl) := toIntFlags w sgn (f.decode a)
    toX (sext64 w v, fl)
  | .ofInt wide sgn => toF (f.ofIntFlags (if wide then 64 else 32) sgn (x.xr rs1).toNat)
  | .toBits => toX (sext64 f.width ((x.fr rs1).toNat % 2 ^ f.width), 0)
  | .ofBits => toF ((x.xr rs1).toNat % 2 ^ f.width, 0)
  | .round exact => toF (f.fRound exact a)
  | .li => toF (f.constant rs1, 0)
  | .csr reg form => x.floatCsr reg form rd rs1

/-- DOME_FLOAT_INSTRUCTION: rm values 1 to 6 are illegal; 0 and 7 both round to nearest, ties to even (R159).
Details: PRESUMED, log entry 60. -/
def execDomeFloatInstruction (h : Fin 64) (op : FloatOp) (fm : FFmt) (rm : Fin 8) (rd rs1 rs2 rs3 : Fin 32) (s : State) :
    Out :=
  s.onHart h (fun s =>
    if !floatExists op fm || (floatHasRm op && rm.val != 0 && rm.val != 7) then s.hartIllegal h
    else (s.setHart h ((s.hart h).float op fm rd rs1 rs2 rs3)).hartNext h 0 0)

end Sys2Proof.Machine
end

