-- ==== Sys2Proof/Machine/DomeVector.lean ====
section
/-! DEFINITION. The long-vector unit of a Dome hart (R190): the RISC-V V extension at VLEN = 2048 and ELEN = 64 with Zvfh and
Zvbb, under the choices of R190. -/

namespace Sys2Proof.Machine

open Sys2Proof

/-! ## vtype, groups and elements -/

def Hart.sew (x : Hart) : Nat := 8 * 2 ^ bits x.vtype 3 3
def Hart.vill (x : Hart) : Bool := bit x.vtype 63

/-- LMUL in eighths; 0 for the reserved code. -/
def lmul8Of (vt : Nat) : Nat :=
  match bits vt 0 3 with
  | 0 => 8 | 1 => 16 | 2 => 32 | 3 => 64 | 5 => 1 | 6 => 2 | 7 => 4 | _ => 0

/-- Whether the hart supports a vtype: SEW at most 64, and at most LMUL × 64 for a fractional LMUL.
Details: PRESUMED, log entry 60. -/
def vtypeOk (vt : Nat) : Bool :=
  let sew := 8 * 2 ^ bits vt 3 3
  vt < 2 ^ 8 && lmul8Of vt != 0 && sew ≤ 64 && (8 ≤ lmul8Of vt || sew * 8 ≤ lmul8Of vt * 64)

def vlmaxOf (vt : Nat) : Nat := lmul8Of vt * 256 / (8 * 2 ^ bits vt 3 3)
def Hart.vlmax (x : Hart) : Nat := vlmaxOf x.vtype

/-- EMUL in eighths of an operand of w-bit elements. -/
def Hart.emul8 (x : Hart) (w : Nat) : Nat := lmul8Of x.vtype * w / x.sew

def Hart.vr (x : Hart) (r : Nat) : Nat := (mget x.v r 0).toNat
def Hart.setVr (x : Hart) (r v : Nat) : Hart := { x with v := mput x.v r (BitVec.ofNat 2048 v) }

/-- Element i of w bits of the group that begins at r. -/
def Hart.vel (x : Hart) (r w i : Nat) : Nat := bits (x.vr (r + i * w / 2048)) (i * w % 2048) w
def Hart.setVel (x : Hart) (r w i v : Nat) : Hart :=
  let k := r + i * w / 2048
  x.setVr k (setBits (x.vr k) (i * w % 2048) w v)

/-- Bit i of a mask register. -/
def Hart.vbit (x : Hart) (r i : Nat) : Bool := bit (x.vr r) i
def Hart.setVbit (x : Hart) (r i : Nat) (b : Bool) : Hart := x.setVr r (setBit (x.vr r) i b)

/-- Element i is active: unmasked, or its bit of v0 is set. -/
def Hart.active (x : Hart) (vm : Bool) (i : Nat) : Bool := vm || x.vbit 0 i

/-- A vector operand: its first register, element width (1 for a mask) and EMUL in eighths. -/
structure VOperand where
  reg : Nat
  w : Nat
  e8 : Nat
  deriving DecidableEq, Repr

def Hart.group (x : Hart) (r w : Nat) : VOperand := ⟨r, w, x.emul8 w⟩
def maskOp (r : Nat) : VOperand := ⟨r, 1, 8⟩
def VOperand.regs (o : VOperand) : Nat := max 1 (o.e8 / 8)
def VOperand.aligned (o : VOperand) : Bool := 1 ≤ o.e8 && o.e8 ≤ 64 && o.w ≤ 64 && o.reg % o.regs = 0 && o.reg + o.regs ≤ 32
def VOperand.meets (a b : VOperand) : Bool := a.reg < b.reg + b.regs && b.reg < a.reg + a.regs

/-- Whether a destination may overlap a source: equal widths; a narrower one at the source's lowest register; a wider one at
its own highest registers. -/
def VOperand.mayMeet (d a : VOperand) : Bool :=
  !d.meets a || d.w == a.w || (d.w < a.w && d.reg == a.reg)
    || (a.w < d.w && 8 ≤ a.e8 && a.reg + a.regs == d.reg + d.regs)

/-- Whether the operands of an element instruction are legal; a masked one keeps its destination off v0. -/
def vOk (vm : Bool) (d : VOperand) (l : List VOperand) : Bool :=
  d.aligned && l.all VOperand.aligned && l.all d.mayMeet && (vm || d.w == 1 || !d.meets (maskOp 0))
/-- Whether the destination overlaps no source at all. -/
def vApart (d : VOperand) (l : List VOperand) : Bool := l.all (fun a => !d.meets a)

/-! ## Running over elements -/

/-- The body elements from vstart on. Details: PRESUMED, log entry 60. -/
def Hart.body (x : Hart) : List Nat := (List.range x.vl).drop x.vstart

/-- Write the active elements of a destination: value, fflags, saturation; the others keep their contents (R190). -/
def Hart.vMap (x : Hart) (vm : Bool) (vd w : Nat) (f : Nat → Nat × Nat × Bool) : Hart :=
  let y := x.body.foldl (fun (y : Hart) i =>
    if x.active vm i then
      let (v, fl, sat) := f i
      { (y.setVel vd w i v).flag fl with vxsat := y.vxsat || sat }
    else y) x
  { y with vstart := 0 }

/-- Write the active bits of a mask destination. -/
def Hart.vMapMask (x : Hart) (vm : Bool) (vd : Nat) (f : Nat → Bool × Nat) : Hart :=
  let y := x.body.foldl (fun (y : Hart) i =>
    if x.active vm i then
      let (b, fl) := f i
      (y.setVbit vd i b).flag fl
    else y) x
  { y with vstart := 0 }

def vFmt (w : Nat) : Fmt := if w = 16 then fmtFP16 else if w = 32 then fmtFP32 else fmtFP64
def isFw (w : Nat) : Bool := w == 16 || w == 32 || w == 64

/-- The second operand at element i: register, scalar, or sign-extended immediate. -/
def Hart.src1 (x : Hart) (form : VForm) (vs1 w i : Nat) : Nat :=
  match form with
  | .vv => x.vel vs1 w i
  | .vx => (x.xr vs1).toNat % 2 ^ w
  | .vf => unbox (vFmt w) (x.fr vs1)
  | .vi imm => unsigned w (signed 5 (imm.val % 32))

/-- As `src1`, with the immediate unsigned. -/
def Hart.src1u (x : Hart) (form : VForm) (vs1 w i : Nat) : Nat :=
  match form with
  | .vi imm => imm.val
  | _ => x.src1 form vs1 w i

def formV : VForm → Bool
  | .vv => true
  | _ => false
def formX : VForm → Bool
  | .vx => true
  | _ => false
def formI : VForm → Bool
  | .vi _ => true
  | _ => false
def formF : VForm → Bool
  | .vf => true
  | _ => false

/-- The register operand a form brings. -/
def Hart.formOp (x : Hart) (form : VForm) (vs1 w : Nat) : List VOperand := if formV form then [x.group vs1 w] else []

/-! ## Integer elements -/

/-- An integer divided by 2^k, rounded to nearest, ties to even: the vxrm of R190. Details: DEDUCED, log entry 61. -/
def roundoff (i : Int) (k : Nat) : Int :=
  let q := i / 2 ^ k
  let r := i % 2 ^ k
  if k = 0 then i
  else if 2 * r > 2 ^ k || (2 * r = 2 ^ k && q % 2 = 1) then q + 1 else q

/-- Saturate to w bits, signed or not. -/
def vSat (w : Nat) (sgn : Bool) (i : Int) : Nat × Bool :=
  let hi : Int := if sgn then 2 ^ (w - 1) - 1 else 2 ^ w - 1
  let lo : Int := if sgn then -(2 ^ (w - 1)) else 0
  if i < lo then (unsigned w lo, true) else if hi < i then (unsigned w hi, true) else (unsigned w i, false)

/-- a is vs2's element, b the second operand's. -/
def vInt (op : VInt) (w a b : Nat) : Nat × Bool :=
  let sa := signed w a
  let sb := signed w b
  let plain := fun (i : Int) => (unsigned w i, false)
  let sh := b % w
  match op with
  | .add => plain (sa + sb)
  | .sub => plain (sa - sb)
  | .rsub => plain (sb - sa)
  | .minu => (iminMax w false false a b, false)
  | .min => (iminMax w false true a b, false)
  | .maxu => (iminMax w true false a b, false)
  | .max => (iminMax w true true a b, false)
  | .and => (a &&& b, false)
  | .or => (a ||| b, false)
  | .xor => (a ^^^ b, false)
  | .andn => (a &&& (2 ^ w - 1 - b), false)
  | .sll => plain (sa * 2 ^ sh)
  | .srl => (a >>> sh, false)
  | .sra => plain (sa / 2 ^ sh)
  | .rol => ((a <<< sh ||| a >>> (w - sh)) % 2 ^ w, false)
  | .ror => ((a >>> sh ||| a <<< (w - sh)) % 2 ^ w, false)
  | .mul => plain (sa * sb)
  | .mulhu => (a * b >>> w, false)
  | .mulhsu => plain (sa * b / 2 ^ w)
  | .mulh => plain (sa * sb / 2 ^ w)
  | .divu => (if b = 0 then 2 ^ w - 1 else a / b, false)
  | .div => if b = 0 then (2 ^ w - 1, false) else plain (sa.tdiv sb)
  | .remu => (if b = 0 then a else a % b, false)
  | .rem => if b = 0 then (a, false) else plain (sa.tmod sb)
  | .saddu => vSat w false (a + b : Nat)
  | .sadd => vSat w true (sa + sb)
  | .ssubu => vSat w false ((a : Int) - b)
  | .ssub => vSat w true (sa - sb)
  | .aaddu => plain (roundoff (a + b : Nat) 1)
  | .aadd => plain (roundoff (sa + sb) 1)
  | .asubu => plain (roundoff ((a : Int) - b) 1)
  | .asub => plain (roundoff (sa - sb) 1)
  | .smul => vSat w true (roundoff (sa * sb) (w - 1))
  | .ssrl => plain (roundoff a sh)
  | .ssra => plain (roundoff sa sh)

/-- The forms an operation has. -/
def vIntForm (op : VInt) (form : VForm) : Bool :=
  match op with
  | .rsub => formX form || formI form
  | .add | .and | .or | .xor | .sll | .srl | .sra | .saddu | .sadd | .ssrl | .ssra | .ror => !formF form
  | _ => formV form || formX form

/-- Whether the immediate of an operation is unsigned. -/
def vIntUimm : VInt → Bool
  | .sll | .srl | .sra | .ssrl | .ssra | .ror => true
  | _ => false

def revBits (w a : Nat) : Nat := maskOf ((bitList a w).map (fun i => w - 1 - i))

def vUn (op : VUn) (w a : Nat) : Nat :=
  match op with
  | .brev => revBits w a
  | .brev8 => leNat ((natLE (w / 8) a).map (fun b => BitVec.ofNat 8 (revBits 8 b.toNat)))
  | .rev8 => leNat (natLE (w / 8) a).reverse
  | .clz => if a = 0 then w else w - 1 - msb a
  | .ctz => (bitList a w).headD w
  | .cpop => popcount a w

/-- Exact integer operands of a widening operation: a of wa bits, b of w bits. -/
def vWide (op : VWide) (w wa a b : Nat) : Nat :=
  let d := 2 * w
  match op with
  | .addu => (a + b) % 2 ^ d
  | .add => unsigned d (signed wa a + signed w b)
  | .subu => unsigned d ((a : Int) - b)
  | .sub => unsigned d (signed wa a - signed w b)
  | .mulu => a * b % 2 ^ d
  | .mulsu => unsigned d (signed wa a * b)
  | .mul => unsigned d (signed wa a * signed w b)
  | .sll => a * 2 ^ (b % d) % 2 ^ d

def vNarrow (op : VNarrow) (w a b : Nat) : Nat × Bool :=
  let sh := b % (2 * w)
  match op with
  | .srl => ((a >>> sh) % 2 ^ w, false)
  | .sra => (unsigned w (signed (2 * w) a / 2 ^ sh), false)
  | .clipu => vSat w false (roundoff a sh)
  | .clip => vSat w true (roundoff (signed (2 * w) a) sh)

/-- Multiply-accumulate of element d with vs2's a and the second operand's b; wide forms accumulate 2w bits. -/
def vMac (op : VMac) (w d a b : Nat) : Nat :=
  let s := signed w
  match op with
  | .macc => unsigned w (s b * s a + s d)
  | .nmsac => unsigned w (s d - s b * s a)
  | .madd => unsigned w (s b * s d + s a)
  | .nmsub => unsigned w (s a - s b * s d)
  | .wmaccu => (b * a + d) % 2 ^ (2 * w)
  | .wmacc => unsigned (2 * w) (s b * s a + d)
  | .wmaccsu => unsigned (2 * w) (s b * a + d)
  | .wmaccus => unsigned (2 * w) (b * s a + d)

def vMacWide : VMac → Bool
  | .wmaccu | .wmacc | .wmaccsu | .wmaccus => true
  | _ => false

def vCmp (op : VCmp) (w a b : Nat) : Bool :=
  let s := signed w
  match op with
  | .eq => a == b
  | .ne => a != b
  | .ltu => a < b
  | .lt => s a < s b
  | .leu => a ≤ b
  | .le => s a ≤ s b
  | .gtu => b < a
  | .gt => s b < s a

def vCmpForm (op : VCmp) (form : VForm) : Bool :=
  match op with
  | .ltu | .lt => formV form || formX form
  | .gtu | .gt => formX form || formI form
  | _ => !formF form

/-! ## Floating-point elements -/

def vFp (op : VFp) (f : Fmt) (a b : Nat) : Nat × Nat :=
  match op with
  | .add => f.fAdd a b
  | .sub => f.fSub a b
  | .rsub => f.fSub b a
  | .mul => f.fMul a b
  | .div => f.fDiv a b
  | .rdiv => f.fDiv b a
  | .min => f.fMinMax false false a b
  | .max => f.fMinMax true false a b
  | .sgnj => (f.fSgn 0 a b, 0)
  | .sgnjn => (f.fSgn 1 a b, 0)
  | .sgnjx => (f.fSgn 2 a b, 0)

def vFpForm (op : VFp) (form : VForm) : Bool :=
  match op with
  | .rsub | .rdiv => formF form
  | _ => formV form || formF form

/-- A code widened to the next format; a signalling NaN stays one. -/
def widenCode (f g : Fmt) (c : Nat) : Nat := if f.isSNan c then g.pack false (2 ^ g.ebits - 1) 1 else g.enc (f.decode c)

/-- The products and sums of a fused form: d is vd's element, a vs2's, b the second operand's. -/
def vFma (op : VFma) (f : Fmt) (d a b : Nat) : Nat × Nat :=
  match op with
  | .macc => f.fFma false false b a d
  | .nmacc => f.fFma true true b a d
  | .msac => f.fFma false true b a d
  | .nmsac => f.fFma true false b a d
  | .madd => f.fFma false false b d a
  | .nmadd => f.fFma true true b d a
  | .msub => f.fFma false true b d a
  | .nmsub => f.fFma true false b d a

def vFmaWide : VFma → Bool
  | .macc | .nmacc | .msac | .nmsac => true
  | _ => false

def vFcmp (op : VFcmp) (f : Fmt) (a b : Nat) : Bool × Nat :=
  let r := fun (k : Nat) (sg : Bool) (p q : Nat) => let t := f.fCmp k sg p q; (t.1 != 0, t.2)
  match op with
  | .eq => r 0 false a b
  | .ne => let t := r 0 false a b; (!t.1, t.2)
  | .lt => r 1 true a b
  | .le => r 2 true a b
  | .gt => r 1 true b a
  | .ge => r 2 true b a

def vFcmpForm (op : VFcmp) (form : VForm) : Bool :=
  match op with
  | .gt | .ge => formF form
  | _ => formV form || formF form

/-- Exponent and mantissa field of a nonzero finite code, a subnormal one normalised; the exponent may be negative.
Details: PRESUMED, log entry 60. -/
def normParts (f : Fmt) (c : Nat) : Int × Nat :=
  let e := bits c f.mbits f.ebits
  let m := bits c 0 f.mbits
  if e = 0 then
    let k := f.mbits - msb m
    (1 - (k : Int), (m * 2 ^ k) % 2 ^ f.mbits)
  else (e, m)

/-- The 7-bit reciprocal estimate of vfrec7. Details: PRESUMED, log entry 60. -/
def rec7 (f : Fmt) (c : Nat) : Nat × Nat :=
  match f.decode c with
  | .nan => (f.nan, nvIf (f.isSNan c))
  | .inf n => (f.pack n 0 0, 0)
  | .fin n m _ =>
    if m = 0 then (f.overflow n false, Fl.dz)
    else
      let (e, sig) := normParts f c
      if e < -1 then (f.overflow n false, Fl.nx ||| Fl.of)
      else
        let i := sig >>> (f.mbits - 7)
        let t := (256 * (255 - 2 * i) + 257 + 2 * i) / (2 * (257 + 2 * i))
        let t := t <<< (f.mbits - 7)
        let o : Int := 2 * (f.bias : Int) - 1 - e
        if o = 0 then (f.pack n 0 (t / 2 + 2 ^ (f.mbits - 1)), 0)
        else if o = -1 then (f.pack n 0 ((t / 2 + 2 ^ (f.mbits - 1)) / 2), 0)
        else (f.pack n o.toNat t, 0)

/-- The 7-bit reciprocal square-root estimate of vfrsqrt7. Details: PRESUMED, log entry 60. -/
def rsqrt7 (f : Fmt) (c : Nat) : Nat × Nat :=
  match f.decode c with
  | .nan => (f.nan, nvIf (f.isSNan c))
  | .inf n => if n then (f.nan, Fl.nv) else (f.pack false 0 0, 0)
  | .fin n m _ =>
    if m = 0 then (f.overflow n false, Fl.dz)
    else if n then (f.nan, Fl.nv)
    else
      let (e, sig) := normParts f c
      let i := sig >>> (f.mbits - 6)
      let d := if e % 2 = 0 then 64 else 128
      let t := (isqrt (262144 * d / (129 + 2 * i)) + 1) / 2 - 128
      (f.pack false ((3 * (f.bias : Int) - 1 - e) / 2).toNat (t <<< (f.mbits - 7)), 0)

def vFun (op : VFun) (f : Fmt) (a : Nat) : Nat × Nat :=
  match op with
  | .sqrt => f.fSqrt a
  | .rsqrt7 => rsqrt7 f a
  | .rec7 => rec7 f a
  | .classify => (f.fClass a, 0)

/-- Convert one element of ws bits to wd bits, rounded to nearest, ties to even: no unit has another mode (R158).
Details: PRESUMED, log entry 60. -/
def vCvt (op : VCvt) (ws wd a : Nat) : Nat × Nat :=
  let f := vFmt ws
  let g := vFmt wd
  match op with
  | .xuF | .rtzXuF => toIntFlags wd false (f.decode a)
  | .xF | .rtzXF => toIntFlags wd true (f.decode a)
  | .fXu => g.ofIntFlags ws false a
  | .fX => g.ofIntFlags ws true a
  | .fF | .rodF => g.deliver (f.decode a) (nvIf (f.isSNan a))

/-- Whether a conversion exists at these widths. The forms that truncate or round to odd name a mode that no unit has, and are
illegal as an rm field that names one is (R158, R159, R190). Details: DEDUCED, log entry 61. -/
def vCvtOk (op : VCvt) (width ws wd : Nat) : Bool :=
  match op with
  | .xuF | .xF => isFw ws && wd ≤ 64
  | .fXu | .fX => isFw wd && ws ≤ 64
  | .fF => width != 0 && isFw ws && isFw wd
  | .rtzXuF | .rtzXF | .rodF => false

/-! ## Reductions -/

/-- One step of a reduction on the accumulator (wide for widening forms) and an element.
Details: DEDUCED, log entry 61. -/
def vRed (op : VRed) (w acc a : Nat) : Nat × Nat :=
  let f := vFmt w
  let g := vFmt (2 * w)
  match op with
  | .sum => ((acc + a) % 2 ^ w, 0)
  | .and => (acc &&& a, 0)
  | .or => (acc ||| a, 0)
  | .xor => (acc ^^^ a, 0)
  | .minu => (iminMax w false false acc a, 0)
  | .min => (iminMax w false true acc a, 0)
  | .maxu => (iminMax w true false acc a, 0)
  | .max => (iminMax w true true acc a, 0)
  | .wsumu => ((acc + a) % 2 ^ (2 * w), 0)
  | .wsum => (unsigned (2 * w) (acc + signed w a), 0)
  | .fosum | .fusum => f.fAdd acc a
  | .fmin => f.fMinMax false false acc a
  | .fmax => f.fMinMax true false acc a
  | .fwosum | .fwusum => g.fAdd acc (widenCode f g a)

/-- Element width of a reduction's scalar operands. Details: DEDUCED, log entry 61. -/
def vRedWidth (op : VRed) (w : Nat) : Nat :=
  match op with
  | .wsumu | .wsum | .fwosum | .fwusum => 2 * w
  | _ => w

/-- Details: DEDUCED, log entry 61. -/
def vRedFloat : VRed → Bool
  | .fosum | .fusum | .fmin | .fmax | .fwosum | .fwusum => true
  | _ => false

/-- A reduction: the active elements in ascending order onto vs1's element 0 (R190). Details: DEDUCED, log entry 61. -/
def Hart.reduce (x : Hart) (op : VRed) (vm : Bool) (vd vs1 vs2 : Nat) : Hart :=
  let w := x.sew
  let d := vRedWidth op w
  if x.vl = 0 then x
  else
    let (acc, fl) := (x.body.filter (x.active vm)).foldl (fun (acc, fl) i =>
      let (v, g) := vRed op w acc (x.vel vs2 w i)
      (v, fl ||| g)) (x.vel vs1 d 0, 0)
    (x.setVel vd d 0 acc).flag fl

def vMaskOp (op : VMask) (a b : Bool) : Bool :=
  match op with
  | .and => a && b
  | .nand => !(a && b)
  | .andn => a && !b
  | .or => a || b
  | .nor => !(a || b)
  | .orn => a || !b
  | .xor => a != b
  | .xnor => a == b

/-! ## Configuration and CSRs -/

/-- vsetvl: AVL none keeps vl. A vtype the hart does not support, or one that would change VLMAX under a kept vl, sets vill. An
AVL between VLMAX and twice VLMAX gives a free vl in the range the extension allows. Details: DEDUCED, log entry 62. -/
def Hart.setVl (x : Hart) (vt rd : Nat) (avl : Option Nat) : Hart :=
  let m := vlmaxOf vt
  let fits := vtypeOk vt && (avl.isSome || (!x.vill && vlmaxOf x.vtype = m))
  let vl := match avl with
    | none => x.vl
    | some a =>
      if a ≤ m then a
      else if 2 * m ≤ a then m
      else (a + 1) / 2 + Config.freeNat a m % (m - (a + 1) / 2 + 1)
  let y := if fits then { x with vtype := vt, vl := vl, vstart := 0 } else { x with vtype := 2 ^ 63, vl := 0, vstart := 0 }
  y.setX rd (BitVec.ofNat 64 y.vl)

/-- The AVL that rd and rs1 select. Details: DEDUCED, log entry 62. -/
def Hart.avlOf (x : Hart) (rd rs1 : Nat) : Option Nat :=
  if rs1 != 0 then some (x.xr rs1).toNat else if rd != 0 then some (2 ^ 64 - 1) else none

/-- A vector CSR: vxrm reads 0b01 and ignores writes (R190). Details: DEDUCED, log entry 61. -/
def Hart.vecCsr (x : Hart) (reg : Nat) (form : CsrForm) (rd rs1 : Nat) : Hart :=
  let old := match reg with
    | 0 => x.vstart | 1 => b2n x.vxsat | 2 => 1 | 3 => b2n x.vxsat + 2 | 4 => x.vl | 5 => x.vtype | _ => 256
  let new := csrNew form old (x.csrSrc form rs1)
  let y := if !csrWrites form rs1 then x
    else if reg = 0 then { x with vstart := new % 2048 }
    else if reg = 1 || reg = 3 then { x with vxsat := bit new 0 }
    else x
  y.setX rd (BitVec.ofNat 64 old)

/-! ## Permutations -/

/-- The register a slide or gather takes its amount from. -/
def Hart.amount (x : Hart) (form : VForm) (vs1 : Nat) : Nat :=
  match form with
  | .vi imm => imm.val % 32
  | _ => (x.xr vs1).toNat

def Hart.slideup (x : Hart) (vm : Bool) (vd vs2 off : Nat) : Hart :=
  let w := x.sew
  x.vMap vm vd w (fun i => (if i < off then x.vel vd w i else x.vel vs2 w (i - off), 0, false))

def Hart.slidedown (x : Hart) (vm : Bool) (vd vs2 off : Nat) : Hart :=
  let w := x.sew
  x.vMap vm vd w (fun i => (if i + off < x.vlmax then x.vel vs2 w (i + off) else 0, 0, false))

def Hart.gather (x : Hart) (vm : Bool) (vd vs2 : Nat) (idx : Nat → Nat) : Hart :=
  let w := x.sew
  x.vMap vm vd w (fun i => (if idx i < x.vlmax then x.vel vs2 w (idx i) else 0, 0, false))

def Hart.compress (x : Hart) (vd vs1 vs2 : Nat) : Hart :=
  let w := x.sew
  let src := (List.range x.vl).filter (x.vbit vs1)
  (List.range src.length).foldl (fun (y : Hart) k => y.setVel vd w k (x.vel vs2 w (src.getD k 0))) x

/-- The bits of vmsbf, vmsif and vmsof at element i, the first active set bit at `k`. -/
def firstForm (op : VecOp) (i : Nat) (k : Option Nat) : Bool :=
  match k with
  | none => (match op with | .sof => false | _ => true)
  | some k => (match op with | .sbf => i < k | .sif => i ≤ k | _ => i == k)

/-! ## The instruction -/

/-- The effect of a vector instruction; none where it is illegal. Details: PRESUMED, log entry 60. -/
def Hart.vector (x : Hart) (op : VecOp) (form : VForm) (vm : Bool) (vd vs1 vs2 : Nat) : Option Hart :=
  let w := x.sew
  let d := x.group vd w
  let a := x.group vs2 w
  let b := x.formOp form vs1 w
  let f := vFmt w
  let wd := x.group vd (2 * w)
  let vf := formV form || formF form
  let vx := formV form || formX form
  let when_ := fun (good : Bool) (y : Hart) => if good && !x.vill then some y else none
  match op with
  | .setvl imm zimm =>
    if imm then some (x.setVl (zimm.val % 1024) vd (some vs1)) else some (x.setVl zimm vd (x.avlOf vd vs1))
  | .setvlReg => some (x.setVl (x.xr vs2).toNat vd (x.avlOf vd vs1))
  | .csr reg form => if 4 ≤ reg.val && csrWrites form vs1 then none else some (x.vecCsr reg form vd vs1)
  | .int op => when_ (vIntForm op form && vOk vm d (a :: b)) (x.vMap vm vd w (fun i =>
      let s := if vIntUimm op then x.src1u form vs1 w i else x.src1 form vs1 w i
      let (v, sat) := vInt op w (x.vel vs2 w i) s
      (v, 0, sat)))
  | .un op => when_ (vOk vm d [a]) (x.vMap vm vd w (fun i => (vUn op w (x.vel vs2 w i), 0, false)))
  | .ext sgn by_ =>
    let n := w / 2 ^ by_.val
    when_ (by_ != 0 && 8 ≤ n && vOk vm d [x.group vs2 n]) (x.vMap vm vd w (fun i =>
      (if sgn then unsigned w (signed n (x.vel vs2 n i)) else x.vel vs2 n i, 0, false)))
  | .wide op wop =>
    let wa := if wop then 2 * w else w
    let addSub := match op with | .addu | .add | .subu | .sub => true | _ => false
    let shift := match op with | .sll => true | _ => false
    when_ ((vx || (shift && formI form)) && (addSub || !wop) && vOk vm wd (x.group vs2 wa :: b)) (x.vMap vm vd (2 * w) (fun i =>
      (vWide op w wa (x.vel vs2 wa i) (x.src1u form vs1 w i), 0, false)))
  | .narrow op => when_ (!formF form && vOk vm d (x.group vs2 (2 * w) :: b)) (x.vMap vm vd w (fun i =>
      let (v, sat) := vNarrow op w (x.vel vs2 (2 * w) i) (x.src1u form vs1 w i)
      (v, 0, sat)))
  | .mac op =>
    let wide := vMacWide op
    let dw := if wide then 2 * w else w
    let usForm := match op with | .wmaccus => formX form | _ => true
    when_ (vx && usForm && vOk vm (x.group vd dw) (a :: b)) (x.vMap vm vd dw (fun i =>
      (vMac op w (x.vel vd dw i) (x.vel vs2 w i) (x.src1 form vs1 w i), 0, false)))
  | .cmp op => when_ (vCmpForm op form && vOk vm (maskOp vd) (a :: b)) (x.vMapMask vm vd (fun i =>
      (vCmp op w (x.vel vs2 w i) (x.src1 form vs1 w i), 0)))
  | .carry sub_ toMask =>
    let cin := fun i => if !vm && x.vbit 0 i then 1 else 0
    let sum := fun i => (x.vel vs2 w i : Int) + (if sub_ then -((x.src1 form vs1 w i : Nat) : Int) - cin i
      else (x.src1 form vs1 w i : Nat) + cin i)
    let forms := vx || (formI form && !sub_)
    if toMask then when_ (forms && vOk true (maskOp vd) (a :: b)) (x.vMapMask true vd (fun i =>
        (sum i < 0 || 2 ^ w ≤ sum i, 0)))
    else when_ (forms && !vm && vOk false d (a :: b)) (x.vMap true vd w (fun i => (unsigned w (sum i), 0, false)))
  | .merge => when_ ((!formF form || isFw w) && (!vm || vs2 = 0) && vOk vm d ((if vm then [] else [a]) ++ b))
      (x.vMap true vd w (fun i => (if vm || x.vbit 0 i then x.src1 form vs1 w i else x.vel vs2 w i, 0, false)))
  | .fp op => when_ (isFw w && vFpForm op form && vOk vm d (a :: b)) (x.vMap vm vd w (fun i =>
      let (v, fl) := vFp op f (x.vel vs2 w i) (x.src1 form vs1 w i)
      (v, fl, false)))
  | .fpWide op wop =>
    let wa := if wop then 2 * w else w
    let g := vFmt (2 * w)
    let has := match op with | .add | .sub => true | .mul => !wop | _ => false
    when_ (vf && has && isFw w && w ≤ 32 && vOk vm wd (x.group vs2 wa :: b)) (x.vMap vm vd (2 * w) (fun i =>
      let p := x.vel vs2 wa i
      let (v, fl) := vFp op g (if wop then p else widenCode f g p) (widenCode f g (x.src1 form vs1 w i))
      (v, fl, false)))
  | .fma op wide =>
    let dw := if wide then 2 * w else w
    let g := vFmt dw
    let up := fun c => if wide then widenCode f g c else c
    when_ (vf && isFw w && (!wide || (vFmaWide op && w ≤ 32)) && vOk vm (x.group vd dw) (a :: b)) (x.vMap vm vd dw (fun i =>
      let (v, fl) := vFma op g (x.vel vd dw i) (up (x.vel vs2 w i)) (up (x.src1 form vs1 w i))
      (v, fl, false)))
  | .fcmp op => when_ (isFw w && vFcmpForm op form && vOk vm (maskOp vd) (a :: b)) (x.vMapMask vm vd (fun i =>
      vFcmp op f (x.vel vs2 w i) (x.src1 form vs1 w i)))
  | .fun1 op => when_ (isFw w && vOk vm d [a]) (x.vMap vm vd w (fun i =>
      let (v, fl) := vFun op f (x.vel vs2 w i)
      (v, fl, false)))
  | .cvt op width =>
    let ws := if width = 2 then 2 * w else w
    let dw := if width = 1 then 2 * w else w
    when_ (vCvtOk op width ws dw && vOk vm (x.group vd dw) [x.group vs2 ws]) (x.vMap vm vd dw (fun i =>
      let (v, fl) := vCvt op ws dw (x.vel vs2 ws i)
      (v, fl, false)))
  | .red op => when_ (x.vstart = 0 && a.aligned && vRedWidth op w ≤ 64 && (!vRedFloat op || isFw w))
      (x.reduce op vm vd vs1 vs2)
  | .mask op => when_ vm (x.vMapMask true vd (fun i => (vMaskOp op (x.vbit vs2 i) (x.vbit vs1 i), 0)))
  | .cpopMask => when_ (x.vstart = 0) (x.setX vd (BitVec.ofNat 64
      ((x.body.filter (fun i => x.active vm i && x.vbit vs2 i)).length)))
  | .first => when_ (x.vstart = 0) (x.setX vd (match x.body.find? (fun i => x.active vm i && x.vbit vs2 i) with
      | some i => BitVec.ofNat 64 i
      | none => BitVec.ofNat 64 (2 ^ 64 - 1)))
  | .sbf | .sif | .sof =>
    let k := x.body.find? (fun i => x.active vm i && x.vbit vs2 i)
    when_ (x.vstart = 0 && vd != vs2 && (vm || vd != 0)) (x.vMapMask vm vd (fun i => (firstForm op i k, 0)))
  | .iota => when_ (x.vstart = 0 && vOk vm d [] && vApart d [maskOp vs2]) (x.vMap vm vd w (fun i =>
      ((((List.range i).filter (fun j => x.active vm j && x.vbit vs2 j)).length) % 2 ^ w, 0, false)))
  | .id => when_ (vs2 = 0 && vOk vm d []) (x.vMap vm vd w (fun i => (i % 2 ^ w, 0, false)))
  | .slideup => when_ ((formX form || formI form) && vOk vm d [a] && vApart d [a]) (x.slideup vm vd vs2 (x.amount form vs1))
  | .slidedown => when_ ((formX form || formI form) && vOk vm d [a]) (x.slidedown vm vd vs2 (x.amount form vs1))
  | .slide1up => when_ ((formX form || (formF form && isFw w)) && vOk vm d [a] && vApart d [a]) (x.vMap vm vd w (fun i =>
      (if i = 0 then x.src1 form vs1 w 0 else x.vel vs2 w (i - 1), 0, false)))
  | .slide1down => when_ ((formX form || (formF form && isFw w)) && vOk vm d [a]) (x.vMap vm vd w (fun i =>
      (if i + 1 = x.vl then x.src1 form vs1 w 0 else if i + 1 < x.vlmax then x.vel vs2 w (i + 1) else 0, 0, false)))
  | .gather => when_ (!formF form && vOk vm d (a :: b) && vApart d (a :: b)) (x.gather vm vd vs2 (fun i =>
      if formV form then x.vel vs1 w i else x.amount form vs1))
  | .gather16 => when_ (formV form && vOk vm d [a] && (x.group vs1 16).aligned && vApart d [a, x.group vs1 16])
      (x.gather vm vd vs2 (fun i => x.vel vs1 16 i))
  | .compress => when_ (vm && x.vstart = 0 && vOk true d [a] && vApart d [a, maskOp vs1]) (x.compress vd vs1 vs2)
  | .mvXS => when_ (vm && vs1 = 0) { x.setX vd (BitVec.ofNat 64 (sext64 w (x.vel vs2 w 0))) with vstart := 0 }
  | .mvSX => when_ (vm && vs2 = 0) { (if x.vstart < x.vl then x.setVel vd w 0 ((x.xr vs1).toNat % 2 ^ w) else x) with vstart := 0 }
  | .mvFS => when_ (vm && vs1 = 0 && isFw w) { x.setF f vd (x.vel vs2 w 0) with vstart := 0 }
  | .mvSF => when_ (vm && vs2 = 0 && isFw w)
      { (if x.vstart < x.vl then x.setVel vd w 0 (unbox f (x.fr vs1)) else x) with vstart := 0 }
  | .mvWhole log2 =>
    let n := 2 ^ log2.val
    let y := ((List.range (n * 2048 / w)).drop x.vstart).foldl (fun (y : Hart) i => y.setVel vd w i (x.vel vs2 w i)) x
    when_ (vm && vd % n = 0 && vs2 % n = 0) { y with vstart := 0 }

/-- DOME_VECTOR_INSTRUCTION: an illegal form raises an illegal-instruction exception; the unit is on while it runs (R190).
Details: PRESUMED, log entry 60. -/
def execDomeVectorInstruction (h : Fin 64) (op : VecOp) (form : VForm) (vm : Bool) (vd vs1 vs2 : Fin 32) (s : State) : Out :=
  s.onHart h (fun s =>
    match (s.hart h).vector op form vm vd vs1 vs2 with
    | none => s.hartIllegal h
    | some x => (s.setHart h { x with vecOn := true }).hartNext h 0 0)

end Sys2Proof.Machine
end

