-- ==== Sys2Proof/Machine/Dome.lean ====
section
/-! DEFINITION. Memory accesses of the Dome harts (R22, R191, R247, R248, R355): loads, stores, AMOs, vector memory
instructions; and their vendor instructions (Table 8.5). -/

namespace Sys2Proof.Machine

open Sys2Proof

/-! ## Dome addresses and the Dome cache (R224, R247) -/

/-- What a Dome physical address names; none raises an access fault (R247). Details: PRESUMED, log entry 56. -/
def State.domeTarget (s : State) (a : Nat) : Option Target :=
  let k := bits a 48 7
  if 2 ^ 56 ≤ a then none
  else if !bit a 55 then (if k = 0 then some (.here a) else none)
  else if !s.flag (F.FAB_DOME_SLOT_VALID k) then none
  else
    match s.target (2 ^ 63 * s.rd (F.FAB_DOME_SLOT_GLOBAL k) + 2 ^ 48 * s.rd (F.FAB_DOME_SLOT_NODE_ID k) + bits a 0 48) with
    | .bad => none
    | t => some t

/-- The lines an extent touches. Details: DEDUCED, log entry 58. -/
def linesOf (a n : Nat) : List Nat := (List.range ((a + n - 1) / 64 - a / 64 + 1)).map (fun i => (a / 64 + i) * 64)

/-- The Dome cache holds the tier lines of an extent, dirty after a write (R224). Details: DEDUCED, log entry 58. -/
def State.domeHold (s : State) (a n : Nat) (dirty : Bool) : State :=
  if !inTiers a n then s
  else { s with domeLines := (linesOf a n).foldl (fun l x => mput l x (dirty || mget l x false)) s.domeLines }

/-- A write by hart h, in the Dome cache; the other harts' reservations on its lines end.
Details: DEDUCED, log entry 58. -/
def State.domePut (s : State) (h a : Nat) (bs : Bytes) : State :=
  let upd := fun (k : Nat) (x : Hart) =>
    match x.resv with
    | some l => if k != h && overlaps a bs.length l 64 then { x with resv := none } else x
    | none => x
  let s := { s with harts := s.harts.map (fun (p : Nat × Hart) => (p.1, upd p.1 p.2)) }
  (s.write a bs).domeHold a bs.length true

/-! ## Local accesses -/

/-- Read n bytes that a target of this node names: an exception cause, or the bytes. Details: DEDUCED, log entry 58. -/
def State.domeRead (s : State) (h : Nat) (t : Target) (n : Nat) : State × (Nat ⊕ Bytes) :=
  match t with
  | .here l =>
    if isCommandPort l then
      (s, if n = 8 && l % 8 = 0 then .inr (sub (s.slot ((l - 0xF00000000000) / 64)) (l % 64) 8) else .inl Cause.load)
    else if isControl l then
      if controlOk l n then
        let s := s.counted (l / 8 * 8)
        let v := s.regRead (l / 8 * 8) h
        (if l / 8 * 8 = R.TB_NOW then s.latchFine h else s, .inr (natLE n (v >>> (8 * (l % 8)))))
      else (s, .inl Cause.load)
    else if !s.coreMay l n then (s.noteRefl l n, .inl Cause.load)
    else if s.poisoned l n then (s, .inl Cause.hardware)
    else (s.domeHold l n false, .inr (s.readBytes l n))
  | .self l =>
    let st := s.homeStatus l n false
    if st != St.ok then ((s.noteRefl l n).semEvent st, .inl Cause.load)
    else if s.poisoned l n then (s, .inl Cause.hardware)
    else (s, .inr (s.readBytes l n))
  | _ => (s, .inl Cause.load)

/-- Write bytes at a target of this node: the exception cause, 0 for none. A refusal through the hart's own node ID is a
posted failure (R25, R262). Details: DEDUCED, log entry 58. -/
def State.domeWrite (s : State) (h a : Nat) (t : Target) (bs : Bytes) : State × Nat :=
  let n := bs.length
  match t with
  | .here l =>
    if isCommandPort l then (s, Cause.store)
    else if isControl l then
      if controlOk l n then (s.controlWrite l n (leNat bs), 0) else (s, Cause.store)
    else if !s.coreMay l n || (s.ctxHit l n).isSome then (s.noteCtx l n, Cause.store)
    else (s.domePut h l bs, 0)
  | .self l =>
    let st := s.homeStatus l n true
    if st != St.ok then
      (((s.noteCtx l n).semEvent st).conclude (hartEngine h) s.nodeId a st (.hartPost h) [] 0, 0)
    else (s.write l bs, 0)
  | _ => (s, Cause.store)

/-! ## Loads and stores (R247) -/

/-- A load of `size` bytes into a register (32 and above name a float register). Details: PRESUMED, log entry 56. -/
def State.domeLoad (s : State) (h rd a size : Nat) (sgn : Bool) : State :=
  let e := hartEngine h
  match s.domeTarget a with
  | none => s.hartTrap h Cause.load a
  | some t =>
    if t.remote then
      if a % size != 0 then s.hartTrap h Cause.loadMisaligned a
      else if s.stalls e t then s
      else (s.setHart h { s.hart h with remote := some (rd, size, sgn) }).remoteLoad e size t 0 (.hart h rd size sgn false)
    else match s.domeRead h t size with
      | (s, .inl cause) => s.hartTrap h cause a
      | (s, .inr bs) => s.hartNext h rd (domeValue rd size sgn (leNat bs))

/-- Bytes without poison marks. -/
def clean (bs : Bytes) : List (Byte × Bool) := bs.map (·, false)

/-- A store. For want of a Weir window it is an access fault at the hart (R266); a window that may not be written makes it a posted
failure (Table 11.4). Details: PRESUMED, log entry 56. -/
def State.domeStore (s : State) (h a : Nat) (bs : Bytes) : State :=
  let e := hartEngine h
  match s.domeTarget a with
  | none => s.hartTrap h Cause.store a
  | some t =>
    if t.remote then
      if a % bs.length != 0 then s.hartTrap h Cause.storeMisaligned a
      else if s.stalls e t then s
      else if s.weirTraps t then (s.semEvent St.weirUnmapped).hartTrap h Cause.store a
      else (s.hartNext h 0 0).remoteStore e t 0 (clean bs) (.hartPost h)
    else match s.domeWrite h a t bs with
      | (s, 0) => s.hartNext h 0 0
      | (s, cause) => s.hartTrap h cause a

/-- What the ECC finds at a hart's access to memory of this node (R116, R240). Details: DEDUCED, log entry 65. -/
def State.domeEcc (s : State) (a n : Nat) (store : Bool) (f : EccFind) : State :=
  let whole := fun (l : Nat) => store && isScratch l && n == 8 && l % 8 == 0
  match s.domeTarget a with
  | some (.here l) =>
    if !s.coreMay l n || (store && (s.ctxHit l n).isSome) || whole l then s else s.eccFound l n f
  | some (.self l) => if s.homeStatus l n store != St.ok || whole l then s else s.eccFound l n f
  | _ => s

/-- DOME_LOAD_STORE: 2^size bytes at rs1 + imm, of an integer or float (`fp`) register; `ecc` is what the ECC finds there.
Details: PRESUMED, log entry 56. -/
def execDomeLoadStore (h : Fin 64) (store fp : Bool) (size : Fin 4) (sgn : Bool) (rd rs1 rs2 : Fin 32) (imm : Fin 4096)
    (ecc : EccFind) (s : State) : Out :=
  s.onHart h (fun s =>
    let x := s.hart h
    let a := (x.xr rs1 + BitVec.ofNat 64 (sext64 12 imm)).toNat
    let n := 2 ^ size.val
    let u := s.domeEcc a n store ecc
    if fp && size.val = 0 then s.hartIllegal h
    else if store then u.domeStore h a (natLE n (if fp then x.fr rs2 else x.xr rs2).toNat)
    else u.domeLoad h (if fp then 32 + rd.val else rd.val) a n sgn)

/-! ## AMOs (R239, R248) -/

/-- An AMO at an address of this node's memory: in the Dome cache, or in the owning scratchpad.
Details: DEDUCED, log entry 58. -/
def State.domeAmo (s : State) (h rd a l size mop v : Nat) : State :=
  match s.domeRead h (.here l) size with
  | (s, .inl cause) => s.hartTrap h (if cause = Cause.load then Cause.store else cause) a
  | (s, .inr bs) =>
    match s.domeWrite h a (.here l) (natLE size (mopElem mop (leNat bs) (v % 2 ^ (8 * size)))) with
    | (s, 0) => s.hartNext h rd (loadValue size true (leNat bs))
    | (s, cause) => s.hartTrap h cause a

/-- An AMO through a fabric slot that names this node: the memory-side operation is served here (R25, R248).
Details: DEDUCED, log entry 58. -/
def State.domeMop (s : State) (h rd a l size mop v : Nat) (retries : Nat := 0) (bad : List Nat := []) : State :=
  let (s', r) := s.mopAt l mop (natLE size v) retries bad
  if r.status != St.ok && (rd = 0 || r.status != St.residueMismatch) then
    if rd = 0 then ((s'.semEvent r.status).conclude (hartEngine h) s.nodeId a r.status (.hartPost h) [] 0).hartNext h 0 0
    else (s'.semEvent r.status).hartTrap h Cause.store a
  else if rd = 0 then s'.hartNext h 0 0
  else if r.poison != 0 then s'.hartTrap h Cause.hardware a
  else s'.hartNext h rd (loadValue size true (leNat r.old))

/-- LR and SC: a reservation on one line, which any other agent's write to it ends. Details: DEDUCED, log entry 58. -/
def State.domeLr (s : State) (h rd a size : Nat) (t : Target) : State :=
  match s.domeRead h t size with
  | (s, .inl cause) => s.hartTrap h cause a
  | (s, .inr bs) =>
    let l := t.loc / 64 * 64
    let s := { s with domeLines := mput s.domeLines l (mget s.domeLines l false) }
    (s.setHart h { s.hart h with resv := some l }).hartNext h rd (loadValue size true (leNat bs))

/-- Details: DEDUCED, log entry 58. -/
def State.domeSc (s : State) (h rd a : Nat) (t : Target) (bs : Bytes) : State :=
  let l := t.loc / 64 * 64
  let held := (s.hart h).resv == some l && (mfind s.domeLines l).isSome
  let s := s.setHart h { s.hart h with resv := none }
  if !held then s.hartNext h rd 1
  else match s.domeWrite h a t bs with
    | (s, 0) => s.hartNext h rd 0
    | (s, cause) => s.hartTrap h cause a

/-- DOME_AMO: in the Dome cache; through a fabric slot as a memory-side operation, which the Exact and Sealed profiles refuse
where its row is marked V (R248); `mres` is what the residues of its home's adder find (R422). LR and SC reach no other node;
an access to a control register reads it and writes it, and a misaligned one is an access fault (R22). `ecc` is what the ECC finds.
Details: DEDUCED, log entry 58. -/
def execDomeAmo (h : Fin 64) (op : AmoOp) (wide : Bool) (rd rs1 rs2 : Fin 32) (mres : Fin 3) (ecc : EccFind) (s : State) : Out :=
  s.onHart h (fun s =>
    let x := s.hart h
    let size := if wide then 8 else 4
    let a := (x.xr rs1).toNat
    let s := if a % size = 0 then s.domeEcc a size (op != .lr) ecc else s
    let v := x.xr rs2
    let isLr := op == .lr
    let pair := isLr || op == .sc
    let e := hartEngine h
    let mop := mopCode (amoMop op) (b2n wide) (rd.val != 0) false
    let fault := if isLr then Cause.load else Cause.store
    let device := match s.domeTarget a with | some (.here l) => isControl l || isCommandPort l | _ => false
    if a % size != 0 then
      s.hartTrap h (if device then fault else if isLr then Cause.loadMisaligned else Cause.storeMisaligned) a
    else match s.domeTarget a with
      | none => s.hartTrap h fault a
      | some (.here l) =>
        if isCommandPort l then s.hartTrap h fault a
        else match op with
          | .lr => s.domeLr h rd a size (.here l)
          | .sc => s.domeSc h rd a (.here l) (natLE size v.toNat)
          | _ => s.domeAmo h rd a l size mop v.toNat
      | some t =>
        if pair then
          if t.remote then s.hartTrap h fault a
          else if isLr then s.domeLr h rd a size t
          else s.domeSc h rd a t (natLE size v.toNat)
        else if op == .swap && rd.val == 0 then s.domeStore h a (natLE size v.toNat)
        else if mopV mop && s.refusesV then (s.ev F.NODE_PROFILE_EVENTS_EXACT_VIOL).hartTrap h Cause.store a
        else if s.stalls e t then s
        else if !t.remote then s.domeMop h rd a t.loc size mop v.toNat (if mres.val = 1 then 1 else 0)
          (if mres.val = 2 then [0] else [])
        else
          if rd.val != 0 then
            (s.setHart h { x with remote := some (rd, size, true) }).remoteMop e t mop (natLE size v.toNat)
              (.hart h rd size true true)
          else if s.weirTraps t then (s.semEvent St.weirUnmapped).hartTrap h Cause.store a
          else (s.hartNext h 0 0).remoteMop e t mop (natLE size v.toNat) (.hartPost h))

/-! ## Vector memory (R190, R191) -/

/-- What a vector memory instruction accesses: element width, registers per field, fields, first element, elements, and the
byte offset of field f of element i. -/
structure VecAccess where
  w : Nat
  regs : Nat
  fields : Nat
  count : Nat
  masked : Bool
  offset : Nat → Nat → Nat

/-- The access of an instruction; none where it is illegal. -/
def Hart.access (x : Hart) (store : Bool) (addr : VAddr) (eew nf : Nat) (vm : Bool) (vd rs2 : Nat) : Option VecAccess :=
  let ew := 8 * 2 ^ eew
  let n := nf + 1
  let m := ew / 8
  let data := x.group vd (match addr with | .indexed => x.sew | _ => ew)
  let fits := data.aligned && n * data.regs ≤ 8 && vd + n * data.regs ≤ 32
    && (store || vm || 0 < vd)
  match addr with
  | .whole =>
    if !vm || !(n == 1 || n == 2 || n == 4 || n == 8) || vd % n != 0 then none
    else some ⟨ew, n, 1, n * 2048 / ew, false, fun i _ => i * m⟩
  | .mask => if !vm || nf != 0 || eew != 0 || x.vill then none else some ⟨8, 1, 1, (x.vl + 7) / 8, false, fun i _ => i⟩
  | .unit => if !fits || x.vill then none else some ⟨ew, data.regs, n, x.vl, !vm, fun i f => (i * n + f) * m⟩
  | .faultFirst => if !fits || store || x.vill then none else some ⟨ew, data.regs, n, x.vl, !vm, fun i f => (i * n + f) * m⟩
  | .strided =>
    if !fits || x.vill then none else some ⟨ew, data.regs, n, x.vl, !vm, fun i f => i * (x.xr rs2).toNat + f * m⟩
  | .indexed =>
    let idx := x.group rs2 ew
    let all : VOperand := ⟨vd, x.sew, 8 * n * data.regs⟩
    let apart := store || (if n = 1 then data.mayMeet idx else !all.meets idx)
    if !fits || !idx.aligned || !apart || x.vill then none
    else some ⟨x.sew, data.regs, n, x.vl, !vm, fun i f => x.vel rs2 ew i + f * (x.sew / 8)⟩

/-- What the remote elements of a load meet: their bytes with poison marks in element order, the elements whose node is dead,
and those refused. -/
structure FarData where
  data : List (Byte × Bool)
  dead : List Nat
  refused : List Nat
  deriving DecidableEq, Repr

/-- Load one field: an exception cause, or the value and what is left of the far data.
Details: DEDUCED, log entry 59. -/
def State.vecLoadOne (s : State) (h a n i : Nat) (far : FarData) : State × (Nat ⊕ (Nat × FarData)) :=
  match s.domeTarget a with
  | none => (s, .inl Cause.load)
  | some t =>
    if !t.remote then
      match s.domeRead h t n with
      | (s, .inl c) => (s, .inl c)
      | (s, .inr bs) => (s, .inr (leNat bs, far))
    else
      let wst := match t with | .weir node loc => s.weirStatus node loc false | _ => St.ok
      if a % n != 0 then (s, .inl Cause.loadMisaligned)
      else if wst != St.ok then (s.semEvent wst, .inl Cause.load)
      else if far.refused.contains i then (s.semEvent St.addressRefused, .inl Cause.load)
      else if far.dead.contains i then (s.semEvent St.targetDead, .inr (leNat (deadBytes a n), far))
      else
        let cs := far.data.take n
        if cs.any (·.2) then (s, .inl Cause.hardware)
        else (s, .inr (leNat (cs.map (·.1)), { far with data := far.data.drop n }))

/-- Load the fields of one element. -/
def State.vecLoadFields (h base i : Nat) (acc : VecAccess) : List Nat → State → FarData → List Nat →
    State × (Nat × Nat ⊕ (List Nat × FarData))
  | [], s, far, vs => (s, .inr (vs, far))
  | f :: fs, s, far, vs =>
    let a := issuedAddr base (acc.offset i f)
    match s.vecLoadOne h a (acc.w / 8) i far with
    | (s, .inl c) => (s, .inl (c, a))
    | (s, .inr (v, far)) => State.vecLoadFields h base i acc fs s far (vs ++ [v])

/-- Load elements in order: the hart after them, and the element, cause and address of a fault.
Details: DEDUCED, log entry 59. -/
def State.vecLoad (h base vd : Nat) (acc : VecAccess) : List Nat → State → Hart → FarData →
    State × Hart × Option (Nat × Nat × Nat)
  | [], s, x, _ => (s, x, none)
  | i :: is, s, x, far =>
    if acc.masked && !(s.hart h).vbit 0 i then State.vecLoad h base vd acc is s x far
    else match State.vecLoadFields h base i acc (List.range acc.fields) s far [] with
      | (s, .inl (c, a)) => (s, x, some (i, c, a))
      | (s, .inr (vs, far)) =>
        let x := (List.range acc.fields).foldl (fun (x : Hart) f => x.setVel (vd + f * acc.regs) acc.w i (vs.getD f 0)) x
        State.vecLoad h base vd acc is s x far

/-- Store one field: the exception cause, 0 for none, 1 while the engine's table is full (R246).
Details: DEDUCED, log entry 59. -/
def State.vecStoreOne (s : State) (h a : Nat) (bs : Bytes) : State × Nat :=
  match s.domeTarget a with
  | none => (s, Cause.store)
  | some t =>
    if !t.remote then s.domeWrite h a t bs
    else
      let e := hartEngine h
      if a % bs.length != 0 then (s, Cause.storeMisaligned)
      else if s.weirTraps t then (s.semEvent St.weirUnmapped, Cause.store)
      else if s.stalls e t then (s, 1)
      else (s.remoteStore e t 0 (clean bs) (.hartPost h), 0)

def State.vecStoreFields (h base i : Nat) (acc : VecAccess) (value : Nat → Nat) : List Nat → State → State × Option (Nat × Nat)
  | [], s => (s, none)
  | f :: fs, s =>
    let a := issuedAddr base (acc.offset i f)
    match s.vecStoreOne h a (natLE (acc.w / 8) (value f)) with
    | (s, 0) => State.vecStoreFields h base i acc value fs s
    | (s, c) => (s, some (c, a))

/-- Store elements in order: the element, cause and address of a fault. Details: DEDUCED, log entry 59. -/
def State.vecStore (h base vd : Nat) (acc : VecAccess) (x : Hart) : List Nat → State → State × Option (Nat × Nat × Nat)
  | [], s => (s, none)
  | i :: is, s =>
    if acc.masked && !x.vbit 0 i then State.vecStore h base vd acc x is s
    else
      let value := fun (f : Nat) => x.vel (vd + f * acc.regs) acc.w i
      match State.vecStoreFields h base i acc value (List.range acc.fields) s with
      | (s, none) => State.vecStore h base vd acc x is s
      -- no field of the element that faults is written (R191); only the events of the refusal stay
      | (_, some (c, a)) => (if c = 1 then s else (s.vecStoreOne h a (zeros (acc.w / 8))).1, some (i, c, a))

/-- The instruction ends: vstart returns to 0; at a fault vstart holds the element, or a fault-only-first load trims vl at an
element past the first that R21 refuses (R190, R191). Details: DEDUCED, log entry 59. -/
def State.vecEnd (s : State) (h : Nat) (x : Hart) (first : Bool) (fault : Option (Nat × Nat × Nat)) : State :=
  match fault with
  | none => (s.setHart h { x with vstart := 0, vecOn := true }).hartNext h 0 0
  | some (i, c, a) =>
    if c = 1 then s.setHart h { x with vstart := i, vecOn := true }
    else if first && 0 < i && c = Cause.load then
      (s.setHart h { x with vl := i, vstart := 0, vecOn := true }).hartNext h 0 0
    else (s.setHart h { x with vstart := i, vecOn := true }).hartTrap h c a

/-- DOME_VECTOR_MEMORY: a load or store of nf + 1 fields of 8 × 2^eew bits (an indexed one: fields of SEW bits, indices of
that width). The remote elements of a load meet `data`, `dead` and `refused`. Details: DEDUCED, log entry 59. -/
def execDomeVectorMemory (h : Fin 64) (store : Bool) (addr : VAddr) (eew : Fin 4) (nf : Fin 8) (vm : Bool)
    (vd rs1 rs2 : Fin 32) (data : List (Byte × Bool)) (dead refused : List Nat) (ecc : EccFinds) (s : State) : Out :=
  s.onHart h (fun s =>
    let x := s.hart h
    let s := s.eccAll ecc
    match x.access store addr eew nf vm vd rs2 with
    | none => s.hartIllegal h
    | some acc =>
      let els := (List.range acc.count).drop x.vstart
      let base := (x.xr rs1).toNat
      if store then
        let (s, fault) := State.vecStore h base vd acc x els s
        s.vecEnd h (s.hart h) false fault
      else
        let (s, y, fault) := State.vecLoad h base vd acc els s x ⟨data, dead, refused⟩
        s.vecEnd h y (addr == .faultFirst) fault)

/-! ## Vendor instructions (R192, R193) -/

/-- D.TWAIT: the hart goes on at once when the target has passed, and waits otherwise.
Details: DEDUCED, log entry 57. -/
def execDTwait (h : Fin 64) (rs1 : Fin 32) (s : State) : Out :=
  s.onHart h (fun s =>
    let t := ((s.hart h).xr rs1).toNat
    if t ≤ s.now then s.hartNext h 0 0 else s.setHart h { s.hart h with twait := some t })

/-- D_TWAIT_EXPIRY: step time reaches the target. Details: DEDUCED, log entry 57. -/
def execDTwaitExpiry (h : Fin 64) (s : State) : Out :=
  match (s.hart h).twait with
  | none => ok s
  | some t =>
    match s.reach t with
    | none => ok s
    | some s => ok ((s.setHart h { s.hart h with twait := none }).hartNext h 0 0)

/-- D.TIME at step time `now`; refused as an operation marked V (R29). Details: DEDUCED, log entry 57. -/
def execDTime (h : Fin 64) (rd : Fin 32) (now : Nat) (s : State) : Out :=
  s.onHart h (fun s =>
    if s.refusesV then (s.ev F.NODE_PROFILE_EVENTS_EXACT_VIOL).hartIllegal h
    else match s.reach now with
      | some s => s.hartNext h rd (BitVec.ofNat 64 s.now)
      | none => s)

/-- PKST: the 64 bytes at rs2 become one packet of the slot at rs1, after the hart's earlier stores: it waits while one is outstanding
or held by the Weir (R193, R355). Where rs2 names another node, `far` is its
line and `mark` its poison, or the node is `dead` or refuses. Details: DEDUCED, log entry 59. -/
def execPkst (h : Fin 64) (rs1 rs2 : Fin 32) (far : Vector (BitVec 8) 64) (mark dead refused : Bool) (s : State) : Out :=
  s.onHart h (fun s =>
    let x := s.hart h
    let slot := (x.xr rs1).toNat
    let a := (x.xr rs2).toNat
    let k := (slot - 0xF00000000000) / 64
    if slot % 64 != 0 then s.hartTrap h Cause.storeMisaligned slot
    else if a % 64 != 0 then s.hartTrap h Cause.storeMisaligned a
    else if !isCommandPort slot then s.hartTrap h Cause.store slot
    else
      let s := s.flushOwned (· == .hartPost h)
      if s.owes (· == .hartPost h) then s else
      let plain := fun (l : Nat) => !isControl l && !isCommandPort l
      let (s, r) : State × (Nat ⊕ Bytes) := match s.domeTarget a with
        | none => (s, .inl Cause.load)
        | some t =>
          if !t.remote then (if plain t.loc then s.domeRead h t 64 else (s, .inl Cause.load))
          else match s.vecLoadOne h a 64 0 ⟨far.toList.map (fun b => (b, mark)), if dead then [0] else [],
              if refused then [0] else []⟩ with
            | (s, .inl c) => (s, .inl c)
            | (s, .inr (v, _)) => (s, .inr (natLE 64 v))
      match r with
      | .inl c => s.hartTrap h c a
      | .inr bs => (s.slotSubmit k bs).hartNext h 0 0)

end Sys2Proof.Machine
end

