-- ==== Sys2Proof/Machine/Dispatch.lean ====
section
/-! DEFINITION. One arm per command: each a direct call of its meaning. -/

namespace Sys2Proof.Machine

open Sys2Proof

def exec (i : Instr) (s : State) : Host.Outcome State Fault Refusal :=
  match i with
  | .registerWrite addr wide v => Sys2Proof.Machine.execRegisterWrite addr wide v s
  | .setProfile => Sys2Proof.Machine.execSetProfile s
  | .profileSwitchComplete => Sys2Proof.Machine.execProfileSwitchComplete s
  | .gateWindowEnd gated ungated => Sys2Proof.Machine.execGateWindowEnd gated ungated s
  | .powerAverageUpdate avg input => Sys2Proof.Machine.execPowerAverageUpdate avg input s
  | .backstopStep => Sys2Proof.Machine.execBackstopStep s
  | .nodePowerCapWrite w => Sys2Proof.Machine.execNodePowerCapWrite w s
  | .stepBoundary => Sys2Proof.Machine.execStepBoundary s
  | .tickSend stamp => Sys2Proof.Machine.execTickSend stamp s
  | .tickArrival p tick now fine clk res => Sys2Proof.Machine.execTickArrival p tick now fine clk res s
  | .holdEnd => Sys2Proof.Machine.execHoldEnd s
  | .holdTimeout => Sys2Proof.Machine.execHoldTimeout s
  | .delayRequest p => Sys2Proof.Machine.execDelayRequest p s
  | .delayRequestArrival p turnaround => Sys2Proof.Machine.execDelayRequestArrival p turnaround s
  | .delayResponseArrival p round turnaround => Sys2Proof.Machine.execDelayResponseArrival p round turnaround s
  | .ticksStop clk => Sys2Proof.Machine.execTicksStop clk s
  | .standbyPromotion => Sys2Proof.Machine.execStandbyPromotion s
  | .rtbEpochEdge since => Sys2Proof.Machine.execRtbEpochEdge since s
  | .rtbRefLoss => Sys2Proof.Machine.execRtbRefLoss s
  | .timebaseUnbind => Sys2Proof.Machine.execTimebaseUnbind s
  | .timebaseBindFollower => Sys2Proof.Machine.execTimebaseBindFollower s
  | .timebaseBindMaster => Sys2Proof.Machine.execTimebaseBindMaster s
  | .timebaseBindStandby => Sys2Proof.Machine.execTimebaseBindStandby s
  | .tbNowRead h rd now fine => Sys2Proof.Machine.execTbNowRead h rd now fine s
  | .alarmFire a => Sys2Proof.Machine.execAlarmFire a s
  | .entryFire t => Sys2Proof.Machine.execEntryFire t s
  | .entryComplete t e => Sys2Proof.Machine.execEntryComplete t e s
  | .entryDeadline t e => Sys2Proof.Machine.execEntryDeadline t e s
  | .tensorRun t e => Sys2Proof.Machine.execTensorRun t e s
  | .vectorProgram t e => Sys2Proof.Machine.execVectorProgram t e s
  | .solveEntry t e => Sys2Proof.Machine.execSolveEntry t e s
  | .move t e => Sys2Proof.Machine.execMove t e s
  | .collective t e => Sys2Proof.Machine.execCollective t e s
  | .fieldSend t e => Sys2Proof.Machine.execFieldSend t e s
  | .fieldWait t e => Sys2Proof.Machine.execFieldWait t e s
  | .reflect t e => Sys2Proof.Machine.execReflect t e s
  | .digest t e => Sys2Proof.Machine.execDigest t e s
  | .quiet t e => Sys2Proof.Machine.execQuiet t e s
  | .barrier t e group => Sys2Proof.Machine.execBarrier t e group s
  | .recordMark t e => Sys2Proof.Machine.execRecordMark t e s
  | .endStep t e => Sys2Proof.Machine.execEndStep t e s
  | .fieldChunkArrival node addr last p => Sys2Proof.Machine.execFieldChunkArrival node addr last p s
  | .scheduleLoad => Sys2Proof.Machine.execScheduleLoad s
  | .scheduleArm => Sys2Proof.Machine.execScheduleArm s
  | .scheduleDisarm => Sys2Proof.Machine.execScheduleDisarm s
  | .scheduleResume => Sys2Proof.Machine.execScheduleResume s
  | .schedRingCtrlWrite t v => Sys2Proof.Machine.execSchedRingCtrlWrite t v s
  | .nodeTerracePwrWrite off => Sys2Proof.Machine.execNodeTerracePwrWrite off s
  | .spTq n rs1 => Sys2Proof.Machine.execSpTq n rs1 s
  | .spMq n rs1 => Sys2Proof.Machine.execSpMq n rs1 s
  | .spWait n mover rd rs1 => Sys2Proof.Machine.execSpWait n mover rd rs1 s
  | .spTime n rd now => Sys2Proof.Machine.execSpTime n rd now s
  | .spTwait n rs1 => Sys2Proof.Machine.execSpTwait n rs1 s
  | .spTwaitExpiry n => Sys2Proof.Machine.execSpTwaitExpiry n s
  | .spAmax n rd rs1 => Sys2Proof.Machine.execSpAmax n rd rs1 s
  | .spAmaxx n rd rs1 => Sys2Proof.Machine.execSpAmaxx n rd rs1 s
  | .spEnd n rs1 => Sys2Proof.Machine.execSpEnd n rs1 s
  | .spireLoadStore n store size sgn rd rs1 rs2 imm res ecc => Sys2Proof.Machine.execSpireLoadStore n store size sgn rd rs1 rs2 imm res ecc s
  | .spireAmo n op wide rd rs1 rs2 res mres ecc => Sys2Proof.Machine.execSpireAmo n op wide rd rs1 rs2 res mres ecc s
  | .spireFence n pred succ => Sys2Proof.Machine.execSpireFence n pred succ s
  | .spireFenceI n => Sys2Proof.Machine.execSpireFenceI n s
  | .spireAmaxWrite n slot v update => Sys2Proof.Machine.execSpireAmaxWrite n slot v update s
  | .copy n retries stop ecc => Sys2Proof.Machine.execCopy n retries stop ecc s
  | .fill n retries stop => Sys2Proof.Machine.execFill n retries stop s
  | .gather n retries stop ecc => Sys2Proof.Machine.execGather n retries stop ecc s
  | .scatter n retries stop ecc => Sys2Proof.Machine.execScatter n retries stop ecc s
  | .moverDescriptorComplete n => Sys2Proof.Machine.execMoverDescriptorComplete n s
  | .gemm n retries bad ecc => Sys2Proof.Machine.execGemm n retries bad ecc s
  | .stencil n retries bad ecc => Sys2Proof.Machine.execStencil n retries bad ecc s
  | .q64Gemm n retries bad ecc => Sys2Proof.Machine.execQ64Gemm n retries bad ecc s
  | .round n ecc => Sys2Proof.Machine.execRound n ecc s
  | .ctxSeal n ecc => Sys2Proof.Machine.execCtxSeal n ecc s
  | .ctxDrop n => Sys2Proof.Machine.execCtxDrop n s
  | .tensorDescriptorComplete n cycles => Sys2Proof.Machine.execTensorDescriptorComplete n cycles s
  | .svCfg n rd rs1 rs2 => Sys2Proof.Machine.execSvCfg n rd rs1 rs2 s
  | .svBcast n wd rs1 => Sys2Proof.Machine.execSvBcast n wd rs1 s
  | .svExt n rd ws rs2 => Sys2Proof.Machine.execSvExt n rd ws rs2 s
  | .svPerm n wd ws1 ws2 => Sys2Proof.Machine.execSvPerm n wd ws1 ws2 s
  | .svLd n res wd rs1 ecc => Sys2Proof.Machine.execSvLd n res wd rs1 ecc s
  | .svSt n res ws rs1 => Sys2Proof.Machine.execSvSt n res ws rs1 s
  | .svLseg n nf res wd rs1 ecc => Sys2Proof.Machine.execSvLseg n nf res wd rs1 ecc s
  | .svSseg n nf res ws rs1 => Sys2Proof.Machine.execSvSseg n nf res ws rs1 s
  | .svGth n res wd rs1 wi ecc => Sys2Proof.Machine.execSvGth n res wd rs1 wi ecc s
  | .svSct n res ws rs1 wi => Sys2Proof.Machine.execSvSct n res ws rs1 wi s
  | .svAddSubMul n k res scalar wd ws1 r2 => Sys2Proof.Machine.execSvAddSubMul n k res scalar wd ws1 r2 s
  | .svMinMax n mx sgn res scalar wd ws1 r2 => Sys2Proof.Machine.execSvMinMax n mx sgn res scalar wd ws1 r2 s
  | .svAndOrXor n k res scalar wd ws1 r2 => Sys2Proof.Machine.execSvAndOrXor n k res scalar wd ws1 r2 s
  | .svSllSrlSra n k res scalar wd ws1 r2 => Sys2Proof.Machine.execSvSllSrlSra n k res scalar wd ws1 r2 s
  | .svFaddFsubFmul n k res scalar wd ws1 r2 => Sys2Proof.Machine.execSvFaddFsubFmul n k res scalar wd ws1 r2 s
  | .svFmacc n res scalar wd ws1 r2 => Sys2Proof.Machine.execSvFmacc n res scalar wd ws1 r2 s
  | .svFminFmax n mx res scalar wd ws1 r2 => Sys2Proof.Machine.execSvFminFmax n mx res scalar wd ws1 r2 s
  | .svCvt n res wd ws rs2 => Sys2Proof.Machine.execSvCvt n res wd ws rs2 s
  | .svMxcvt n res wd ws rs2 => Sys2Proof.Machine.execSvMxcvt n res wd ws rs2 s
  | .svMxexp n res wd ws rs2 => Sys2Proof.Machine.execSvMxexp n res wd ws rs2 s
  | .svRsumRminRmax n k res rd ws => Sys2Proof.Machine.execSvRsumRminRmax n k res rd ws s
  | .svFrsumFrminFrmax n k res rd ws => Sys2Proof.Machine.execSvFrsumFrminFrmax n k res rd ws s
  | .svPowerDown n => Sys2Proof.Machine.execSvPowerDown n s
  | .longVectorPowerDown h => Sys2Proof.Machine.execLongVectorPowerDown h s
  | .pkst h rs1 rs2 far mark dead refused => Sys2Proof.Machine.execPkst h rs1 rs2 far mark dead refused s
  | .dTwait h rs1 => Sys2Proof.Machine.execDTwait h rs1 s
  | .dTwaitExpiry h => Sys2Proof.Machine.execDTwaitExpiry h s
  | .dTime h rd now => Sys2Proof.Machine.execDTime h rd now s
  | .domeLoadStore h store fp size sgn rd rs1 rs2 imm ecc => Sys2Proof.Machine.execDomeLoadStore h store fp size sgn rd rs1 rs2 imm ecc s
  | .domeAmo h op wide rd rs1 rs2 mres ecc => Sys2Proof.Machine.execDomeAmo h op wide rd rs1 rs2 mres ecc s
  | .domeVectorMemory h store addr eew nf vm vd rs1 rs2 data dead refused ecc => Sys2Proof.Machine.execDomeVectorMemory h store addr eew nf vm vd rs1 rs2 data dead refused ecc s
  | .dot t retries fail ecc => Sys2Proof.Machine.execDot t retries fail ecc s
  | .axpy t retries fail ecc => Sys2Proof.Machine.execAxpy t retries fail ecc s
  | .spmv t retries fail ecc => Sys2Proof.Machine.execSpmv t retries fail ecc s
  | .trsolve t retries fail ecc => Sys2Proof.Machine.execTrsolve t retries fail ecc s
  | .chol t retries fail ecc => Sys2Proof.Machine.execChol t retries fail ecc s
  | .ldlt t retries fail ecc => Sys2Proof.Machine.execLdlt t retries fail ecc s
  | .lu t retries fail ecc => Sys2Proof.Machine.execLu t retries fail ecc s
  | .qr t retries fail ecc => Sys2Proof.Machine.execQr t retries fail ecc s
  | .cg t n retries fail ecc => Sys2Proof.Machine.execCg t n retries fail ecc s
  | .bicgstab t n retries fail ecc => Sys2Proof.Machine.execBicgstab t n retries fail ecc s
  | .gmres t n retries fail ecc => Sys2Proof.Machine.execGmres t n retries fail ecc s
  | .solve => Sys2Proof.Machine.execSolve s
  | .solveDeadline t warm cycles => Sys2Proof.Machine.execSolveDeadline t warm cycles s
  | .solveComplete t cycles => Sys2Proof.Machine.execSolveComplete t cycles s
  | .mopAdd engine a ty fetch line v retries bad ecc => Sys2Proof.Machine.execMopAdd engine a ty fetch line v retries bad ecc s
  | .mopMinMax engine a mx ty fetch line v retries bad ecc => Sys2Proof.Machine.execMopMinMax engine a mx ty fetch line v retries bad ecc s
  | .mopMinuMaxu engine a mx ty fetch line v retries bad ecc => Sys2Proof.Machine.execMopMinuMaxu engine a mx ty fetch line v retries bad ecc s
  | .mopAndOrXor engine a op ty fetch line v ecc => Sys2Proof.Machine.execMopAndOrXor engine a op ty fetch line v ecc s
  | .mopSwap engine a ty v ecc => Sys2Proof.Machine.execMopSwap engine a ty v ecc s
  | .mopCas engine a ty v ecc => Sys2Proof.Machine.execMopCas engine a ty v ecc s
  | .cistPinArm count => Sys2Proof.Machine.execCistPinArm count s
  | .cistPinDisarm => Sys2Proof.Machine.execCistPinDisarm s
  | .pinnedFillComplete ordinary => Sys2Proof.Machine.execPinnedFillComplete ordinary s
  | .scrubAccess line find last => Sys2Proof.Machine.execScrubAccess line find last s
  | .memScrubWrite enable period => Sys2Proof.Machine.execMemScrubWrite enable period s
  | .fabricRead p at10 ecc => Sys2Proof.Machine.execFabricRead p at10 ecc s
  | .fabricWrite p poison at10 => Sys2Proof.Machine.execFabricWrite p poison at10 s
  | .fabricMop p at10 retries bad ecc => Sys2Proof.Machine.execFabricMop p at10 retries bad ecc s
  | .fabricBulkGet p at10 ecc => Sys2Proof.Machine.execFabricBulkGet p at10 ecc s
  | .fabricBulkPut p poison at10 => Sys2Proof.Machine.execFabricBulkPut p poison at10 s
  | .fabricAck p at10 => Sys2Proof.Machine.execFabricAck p at10 s
  | .fabricReplyArrival p poison at10 => Sys2Proof.Machine.execFabricReplyArrival p poison at10 s
  | .requestRetransmit tag => Sys2Proof.Machine.execRequestRetransmit tag s
  | .deadTargetBound tag => Sys2Proof.Machine.execDeadTargetBound tag s
  | .backoffResend engine dest at10 => Sys2Proof.Machine.execBackoffResend engine dest at10 s
  | .ackTimer engine dest => Sys2Proof.Machine.execAckTimer engine dest s
  | .sourceRecordExpiry src at10 => Sys2Proof.Machine.execSourceRecordExpiry src at10 s
  | .fabDeadBoundWrite us => Sys2Proof.Machine.execFabDeadBoundWrite us s
  | .cableInsert p signal mem => Sys2Proof.Machine.execCableInsert p signal mem s
  | .portTrainingEnd p trains ber offer node port spine eq => Sys2Proof.Machine.execPortTrainingEnd p trains ber offer node port spine eq s
  | .linkFrameArrival p seq ack fixed fecFail crc data => Sys2Proof.Machine.execLinkFrameArrival p seq ack fixed fecFail crc data s
  | .linkReplayRequest p seq => Sys2Proof.Machine.execLinkReplayRequest p seq s
  | .partnerSilence p => Sys2Proof.Machine.execPartnerSilence p s
  | .lossOfSignal p => Sys2Proof.Machine.execLossOfSignal p s
  | .drainNotice p => Sys2Proof.Machine.execDrainNotice p s
  | .drainComplete p => Sys2Proof.Machine.execDrainComplete p s
  | .portEnable => Sys2Proof.Machine.execPortEnable s
  | .portDisable => Sys2Proof.Machine.execPortDisable s
  | .portDrain => Sys2Proof.Machine.execPortDrain s
  | .portUndrain => Sys2Proof.Machine.execPortUndrain s
  | .portPolicy => Sys2Proof.Machine.execPortPolicy s
  | .portRetrain => Sys2Proof.Machine.execPortRetrain s
  | .transitPacket tag ver dest src chunk data => Sys2Proof.Machine.execTransitPacket tag ver dest src chunk data s
  | .fabricPlanInstall => Sys2Proof.Machine.execFabricPlanInstall s
  | .fabricPlanRemove => Sys2Proof.Machine.execFabricPlanRemove s
  | .routeSwap => Sys2Proof.Machine.execRouteSwap s
  | .broadcast g => Sys2Proof.Machine.execBroadcast g s
  | .reduce g res => Sys2Proof.Machine.execReduce g res s
  | .allreduce g res => Sys2Proof.Machine.execAllreduce g res s
  | .allgather g => Sys2Proof.Machine.execAllgather g s
  | .reduceScatter g res => Sys2Proof.Machine.execReduceScatter g res s
  | .collectiveBarrier g others => Sys2Proof.Machine.execCollectiveBarrier g others s
  | .dataChunk node p res => Sys2Proof.Machine.execDataChunk node p res s
  | .token node p => Sys2Proof.Machine.execToken node p s
  | .chunkAck field node p => Sys2Proof.Machine.execChunkAck field node p s
  | .credit p => Sys2Proof.Machine.execCredit p s
  | .refetch field node p => Sys2Proof.Machine.execRefetch field node p s
  | .abort node p => Sys2Proof.Machine.execAbort node p s
  | .done p => Sys2Proof.Machine.execDone p s
  | .adopt p => Sys2Proof.Machine.execAdopt p s
  | .lost p => Sys2Proof.Machine.execLost p s
  | .chunkResend field g link entry key => Sys2Proof.Machine.execChunkResend field g link entry key s
  | .chunkAckTimeout field g link entry => Sys2Proof.Machine.execChunkAckTimeout field g link entry s
  | .reparentTimeout g link => Sys2Proof.Machine.execReparentTimeout g link s
  | .broadcastRootTimeout g => Sys2Proof.Machine.execBroadcastRootTimeout g s
  | .jobBroadcast => Sys2Proof.Machine.execJobBroadcast s
  | .collInstallArm slot addr => Sys2Proof.Machine.execCollInstallArm slot addr s
  | .collFieldWeightWrite w => Sys2Proof.Machine.execCollFieldWeightWrite w s
  | .ckptPolicy => Sys2Proof.Machine.execCkptPolicy s
  | .ckptNow => Sys2Proof.Machine.execCkptNow s
  | .ckptStatus => Sys2Proof.Machine.execCkptStatus s
  | .reflectionCopyDone => Sys2Proof.Machine.execReflectionCopyDone s
  | .storeIoCompletion item good data => Sys2Proof.Machine.execStoreIoCompletion item good data s
  | .drainTimeout => Sys2Proof.Machine.execDrainTimeout s
  | .restore => Sys2Proof.Machine.execRestore s
  | .restoreCopyDone => Sys2Proof.Machine.execRestoreCopyDone s
  | .jobShrink => Sys2Proof.Machine.execJobShrink s
  | .shrinkDeadline => Sys2Proof.Machine.execShrinkDeadline s
  | .nodeInfo => Sys2Proof.Machine.execNodeInfo s
  | .readStageReports => Sys2Proof.Machine.execReadStageReports s
  | .keepRead => Sys2Proof.Machine.execKeepRead s
  | .keepWrite => Sys2Proof.Machine.execKeepWrite s
  | .marginSurvey => Sys2Proof.Machine.execMarginSurvey s
  | .marginReplan => Sys2Proof.Machine.execMarginReplan s
  | .selfTest => Sys2Proof.Machine.execSelfTest s
  | .readAgeingLog => Sys2Proof.Machine.execReadAgeingLog s
  | .jobAdmit => Sys2Proof.Machine.execJobAdmit s
  | .jobRelease => Sys2Proof.Machine.execJobRelease s
  | .attest => Sys2Proof.Machine.execAttest s
  | .fwStageLocal => Sys2Proof.Machine.execFwStageLocal s
  | .fwStagePiece => Sys2Proof.Machine.execFwStagePiece s
  | .fwStageTimeout => Sys2Proof.Machine.execFwStageTimeout s
  | .fwActivate => Sys2Proof.Machine.execFwActivate s
  | .identityRead => Sys2Proof.Machine.execIdentityRead s
  | .keyRotateNew => Sys2Proof.Machine.execKeyRotateNew s
  | .keyRotateErase => Sys2Proof.Machine.execKeyRotateErase s
  | .recordStart => Sys2Proof.Machine.execRecordStart s
  | .recordStop => Sys2Proof.Machine.execRecordStop s
  | .replay => Sys2Proof.Machine.execReplay s
  | .panelState => Sys2Proof.Machine.execPanelState s
  | .portRelease => Sys2Proof.Machine.execPortRelease s
  | .terraceComputeReset => Sys2Proof.Machine.execTerraceComputeReset s
  | .towerDieComputeReset => Sys2Proof.Machine.execTowerDieComputeReset s
  | .nodeComputeReset => Sys2Proof.Machine.execNodeComputeReset s
  | .fullModuleReset => Sys2Proof.Machine.execFullModuleReset s
  | .partialResetEnd => Sys2Proof.Machine.execPartialResetEnd s
  | .remoteReplyArrival k reply => Sys2Proof.Machine.execRemoteReplyArrival k reply s
  | .remoteReplyTimeout k => Sys2Proof.Machine.execRemoteReplyTimeout k s
  | .remoteRecordArrival node data => Sys2Proof.Machine.execRemoteRecordArrival node data s
  | .remoteProbe dead => Sys2Proof.Machine.execRemoteProbe dead s
  | .nodeCmdRingCtrlWrite c v => Sys2Proof.Machine.execNodeCmdRingCtrlWrite c v s
  | .nodeCmdRingTailWrite c tail => Sys2Proof.Machine.execNodeCmdRingTailWrite c tail s
  | .recordResend k => Sys2Proof.Machine.execRecordResend k s
  | .clientHello client msg => Sys2Proof.Machine.execClientHello client msg s
  | .ack sid counter client auth kind handle tag => Sys2Proof.Machine.execAck sid counter client auth kind handle tag s
  | .keepalive sid counter client auth => Sys2Proof.Machine.execKeepalive sid counter client auth s
  | .sessionTimeout sid => Sys2Proof.Machine.execSessionTimeout sid s
  | .norOperationDone op good => Sys2Proof.Machine.execNorOperationDone op good s
  | .counterRecordTimer sec => Sys2Proof.Machine.execCounterRecordTimer sec s
  | .counterFold sec => Sys2Proof.Machine.execCounterFold sec s
  | .powerFail => Sys2Proof.Machine.execPowerFail s
  | .standbyRestart a b main => Sys2Proof.Machine.execStandbyRestart a b main s
  | .inputLow => Sys2Proof.Machine.execInputLow s
  | .feedLost b high => Sys2Proof.Machine.execFeedLost b high s
  | .stageComplete k elapsed good torn found mask good0 good1 => Sys2Proof.Machine.execStageComplete k elapsed good torn found mask good0 good1 s
  | .stageTimeout => Sys2Proof.Machine.execStageTimeout s
  | .watchdogExpiry => Sys2Proof.Machine.execWatchdogExpiry s
  | .surveyPartEnd t m1 mRate ro worst temp failing => Sys2Proof.Machine.execSurveyPartEnd t m1 mRate ro worst temp failing s
  | .surveyDeadline handle => Sys2Proof.Machine.execSurveyDeadline handle s
  | .twinTimeout k => Sys2Proof.Machine.execTwinTimeout k s
  | .buttonPress => Sys2Proof.Machine.execButtonPress s
  | .buttonCancel => Sys2Proof.Machine.execButtonCancel s
  | .latchWarning p => Sys2Proof.Machine.execLatchWarning p s
  | .latchReleaseTimeout p => Sys2Proof.Machine.execLatchReleaseTimeout p s
  | .cableRemove p => Sys2Proof.Machine.execCableRemove p s
  | .tsbCommand packet => Sys2Proof.Machine.execTsbCommand packet s
  | .tsbReplySelect => Sys2Proof.Machine.execTsbReplySelect s
  | .tsbRecordSelect => Sys2Proof.Machine.execTsbRecordSelect s
  | .tsbRecordRead n => Sys2Proof.Machine.execTsbRecordRead n s
  | .rstdaa => Sys2Proof.Machine.execRstdaa s
  | .setdasa static_ dyn => Sys2Proof.Machine.execSetdasa static_ dyn s
  | .enec events => Sys2Proof.Machine.execEnec events s
  | .disec events => Sys2Proof.Machine.execDisec events s
  | .getstatus => Sys2Proof.Machine.execGetstatus s
  | .getbcr => Sys2Proof.Machine.execGetbcr s
  | .getdcr => Sys2Proof.Machine.execGetdcr s
  | .getmwl => Sys2Proof.Machine.execGetmwl s
  | .getmrl => Sys2Proof.Machine.execGetmrl s
  | .setmwl n => Sys2Proof.Machine.execSetmwl n s
  | .setmrl n => Sys2Proof.Machine.execSetmrl n s
  | .routerAdvertisement pfx len auto life => Sys2Proof.Machine.execRouterAdvertisement pfx len auto life s
  | .neighbourDiscovery target src => Sys2Proof.Machine.execNeighbourDiscovery target src s
  | .icmpv6Echo dst src data => Sys2Proof.Machine.execIcmpv6Echo dst src data s
  | .mgmtLinkChange up => Sys2Proof.Machine.execMgmtLinkChange up s
  | .mainEnRise => Sys2Proof.Machine.execMainEnRise s
  | .mainEnFall => Sys2Proof.Machine.execMainEnFall s
  | .trayResetPulse => Sys2Proof.Machine.execTrayResetPulse s
  | .temperatureSample tower0 tower1 dome aqueduct memory packages => Sys2Proof.Machine.execTemperatureSample tower0 tower1 dome aqueduct memory packages s
  | .thermalBackstopStep => Sys2Proof.Machine.execThermalBackstopStep s
  | .partnerSignal p => Sys2Proof.Machine.execPartnerSignal p s
  | .feedRestored b => Sys2Proof.Machine.execFeedRestored b s
  | .inputRestored => Sys2Proof.Machine.execInputRestored s
  | .rtbRefRestored => Sys2Proof.Machine.execRtbRefRestored s
  | .standbyPowerApplied a b main => Sys2Proof.Machine.execStandbyPowerApplied a b main s
  | .retentionSweepComplete m ms temp => Sys2Proof.Machine.execRetentionSweepComplete m ms temp s
  | .eyeMonitorSample p heights widths temp => Sys2Proof.Machine.execEyeMonitorSample p heights widths temp s
  | .latchRelease p => Sys2Proof.Machine.execLatchRelease p s
  | .ticketReservationExpiry line src seq at10 => Sys2Proof.Machine.execTicketReservationExpiry line src seq at10 s
  | .replayCommandSubmit => Sys2Proof.Machine.execReplayCommandSubmit s
  | .mgmtCommand sid counter client auth packet => Sys2Proof.Machine.execMgmtCommand sid counter client auth packet s
  | .fabricCommandPacket src jobTag packet => Sys2Proof.Machine.execFabricCommandPacket src jobTag packet s
  | .spireCsrAccess n op imm csr rd rs1 => Sys2Proof.Machine.execSpireCsrAccess n op imm csr rd rs1 s
  | .domeFloatInstruction h op fm rm rd rs1 rs2 rs3 => Sys2Proof.Machine.execDomeFloatInstruction h op fm rm rd rs1 rs2 rs3 s
  | .domeVectorInstruction h op form vm vd vs1 vs2 => Sys2Proof.Machine.execDomeVectorInstruction h op form vm vd vs1 vs2 s

end Sys2Proof.Machine
end

