-- ==== Sys2Proof/Machine/Step.lean ====
section
/-! DEFINITION. One step of the node: the command at the front of the queue runs; on an empty queue each port that
carries traffic sends its next waiting frame (R296) and the checkpoint store goes on (R340). Details: DESIGN CHOICE, log entries 2, 100. -/

namespace Sys2Proof.Machine

open Sys2Proof

/-- The next indivisible step. Details: DESIGN CHOICE, log entries 2, 100. -/
def step (s : State) : Host.Outcome State Fault Refusal :=
  match s.pending with
  | [] => ok s.servePorts.serveStore
  | c :: r => exec c { s with pending := r }

/-- The state with the command a word spells at the front of its queue; unchanged where the word spells none.
Details: DESIGN CHOICE, log entry 1. -/
def State.withFetchWord (s : State) (nbits w : Nat) : State :=
  match decodeTableWord nbits w with
  | some c => { s with pending := c :: s.pending }
  | none => s

end Sys2Proof.Machine
end

