-- ==== Sys2Proof/Safety.lean ====
section
/-! DEFINITION. What claims about runs are stated in: the canonical forms of memory and registers, the count registers that
show what is held, and runs of several steps. -/

namespace Sys2Proof.Machine

open Sys2Proof

/-- Whether a keyed list's keys rise strictly, from above `lo` on. -/
def risingFrom {α : Type} : Nat → List (Nat × α) → Bool
  | _, [] => true
  | lo, (k, _) :: r => lo ≤ k && risingFrom (k + 1) r

/-- The canonical form of memory: addresses rise strictly and no listed byte is 0, what an unlisted one reads as. -/
def Memory.wf (m : List Host.Cell) : Bool := risingFrom 0 m && m.all (fun c => c.2 != 0)

/-- The canonical form of the register map: addresses rise strictly and no listed register holds 0. -/
def Registers.wf (m : List (Nat × Word)) : Bool := risingFrom 0 m && m.all (fun c => c.2 != 0)

/-- The blocks of the Weir that hold puts. -/
def State.putBlocks (s : State) : Nat := (s.fab.blocks.filter (·.put)).length

/-- The count registers show what the node holds, each modulo its field's width: long commands outstanding (Table 16.15),
records queued for the tray (Table 21.18), open sessions (Table 20.6), the Weir's read and put blocks (Table 11.17). -/
def State.countsShown (s : State) : Prop :=
  s.rd F.NODE_CMD_COUNTS_OUTSTANDING = s.cmd.longs.length % 2 ^ 16 ∧
  s.rd F.PANEL_TSB_QUEUED = s.cmd.tray.length % 2 ^ 7 ∧
  s.rd F.SEC_STATUS_SESSIONS = s.cmd.sessions.length % 2 ^ 4 ∧
  s.rd F.FAB_WEIR_STATUS_READ_BLOCKS = (s.fab.blocks.length - s.putBlocks) % 2 ^ 11 ∧
  s.rd F.FAB_WEIR_STATUS_PUT_BLOCKS = s.putBlocks % 2 ^ 11

/-- Whether an answer is a next state. -/
def Answers (o : Out) : Prop := ∃ t, o = .next t

/-- The command answers a next state of which P holds. -/
def Does (c : Instr) (s : State) (P : State → Prop) : Prop := ∃ t, exec c s = .next t ∧ P t

/-- The submission at the front of the gate: its opcode, and no reserved parameter byte set (R352). -/
def State.front (s : State) (q : Sub) (r : List Sub) (op : Nat) : Prop :=
  s.cmd.gate = q :: r ∧ q.opcode = op ∧ reservedParams op q.params = false

/-- The state with the front of the gate taken. -/
def State.taken (s : State) (r : List Sub) : State := { s with cmd := { s.cmd with gate := r } }

/-- The front of the gate is a submission q of an opcode, and u is the state with it taken. -/
def State.takes (s : State) (q : Sub) (op : Nat) (u : State) : Prop := ∃ r, s.front q r op ∧ u = s.taken r

/-- The elements a short-vector instruction computes: VL_START to VL − 1. -/
def State.lanes (s : State) (n : Nat) : List Nat :=
  (List.range ((s.sp n).vl - s.vecIdx n)).map (fun j => s.vecIdx n + j)

/-- The state with elements of w bits put into a group from VL_START on. -/
def State.putLanes (s : State) (n dst w : Nat) (vals : List (Nat × Bool)) : State :=
  s.setSp n ((s.sp n).putEls dst w (s.vecIdx n) vals)

/-- Spire n runs, and u is the state with its short-vector unit awake. -/
def State.vecReady (s : State) (n : Nat) (u : State) : Prop := s.coreRuns n = true ∧ u = s.svWake n

/-- Hart h executes instructions: the node is up and at B11, and the hart waits for no step time and no remote access. -/
def State.hartRuns (s : State) (h : Nat) : Bool :=
  s.alive && s.ready && (s.hart h).twait.isNone && (s.hart h).remote.isNone

/-- Every register outside a list, and outside those that show counts, holds what it held. -/
def State.keepsRegs (s t : State) (l : List Nat) : Prop :=
  ∀ a, a ∉ l → a ∉ [R.NODE_CMD_COUNTS, R.PANEL_TSB, R.SEC_STATUS, R.FAB_WEIR_STATUS] → t.rdReg a = s.rdReg a

/-- Every byte of memory and every mark on it is what it was. -/
def State.keepsMem (s t : State) : Prop := t.mem = s.mem ∧ t.poison = s.poison ∧ t.undef = s.undef

/-- The state after k steps, none where one of them stops. -/
def run : Nat → State → Option State
  | 0, s => some s
  | k + 1, s =>
    match step s with
    | .next t => run k t
    | _ => none

/-- A run of k steps is safe: it reaches a state, and every count register shows what is held there. -/
def SafeRun (k : Nat) (s : State) : Prop := ∃ t, run k s = some t ∧ t.countsShown

end Sys2Proof.Machine
end

