-- ==== Sys2Proof/Certificates/Slice0/Obligations.lean ====
section
/-! DEFINITION. The statements for the provers. -/

open Sys2Proof Sys2Proof.Machine


/-! ## The machine -/

/-- The command at the front of the queue runs on the state with the rest of the queue. On an empty queue every port sends its
next waiting frame and a checkpoint drain or restore goes on (the model's choice, log entry 100); nothing else changes than what a
port's frames change, and without a checkpoint at work the store does nothing. -/
def Obligations.StepRunsTheFrontCommand : Prop :=
  (∀ (c : Instr) (r : List Instr) (s : State), s.pending = c :: r → step s = exec c { s with pending := r }) ∧
  (∀ s : State, s.pending = [] → step s = ok s.servePorts.serveStore) ∧
  (∀ s : State, s.ckptBusy = false → s.serveStore = s) ∧
  (∀ s : State, s.servePorts = { s with regs := s.servePorts.regs, net := s.servePorts.net, out := s.servePorts.out } ∧
    s.keepsRegs s.servePorts ((List.range 10).map (fun p => R.PORT_TX_BYTES p)))

/-- No command stops the node: every command, in every state, answers a next state. -/
def Obligations.EveryCommandAnswers : Prop := ∀ (c : Instr) (s : State), Answers (exec c s)

/-- Every step keeps the count registers true: commands outstanding, records queued, sessions open, Weir blocks held. -/
def Obligations.StepKeepsCountsShown : Prop :=
  ∀ s t : State, s.countsShown → step s = .next t → t.countsShown

/-- Right after reset the counts are shown, memory and registers are canonical and nothing is listed, and the registers hold the
values their tables give: step time and its parent port, gating, rings, refresh. -/
def Obligations.ResetLeavesTheSpecsValues : Prop :=
  (State.reset.countsShown ∧ Memory.wf State.reset.mem = true ∧ Registers.wf State.reset.regs = true ∧ State.reset.mem = []) ∧
  (State.reset.rd F.TB_STATUS_STATE = 0 ∧ State.reset.rd F.TB_STATUS_PARENT_PORT = 0xF ∧
  State.reset.rd F.TB_PERIOD_PERIOD_NS = 1000000 ∧ State.reset.now = 0 ∧
  State.reset.rd F.NODE_PROFILE_ACTIVE = 1 ∧ State.reset.rd F.NODE_PROFILE_TOWER_MHZ = 1100 ∧
  State.reset.rd F.NODE_PROFILE_SWITCHING = 0 ∧
  State.reset.rd F.NODE_GATE_SLOTS = 64 ∧ State.reset.rd F.NODE_GATE_SLOTS_MIN = 64 ∧
  (∀ c : Fin 16, State.reset.rd (F.NODE_CMD_RING_CTRL_LOG2_RECORDS c) = 4 ∧ State.reset.rd (F.NODE_CMD_RING_CTRL_ENABLE c) = 0) ∧
  State.reset.rd F.FAB_DEAD_BOUND_BOUND_US = 24 ∧ State.reset.rd F.COLL_FIELD_WEIGHT_WEIGHT = 1 ∧
  State.reset.rd F.MEM_SCRUB_ENABLE = 1 ∧ State.reset.rd F.MEM_SCRUB_PERIOD_H = 24 ∧
  (∀ t : Fin 16, State.reset.rd (F.SCHED_STATUS_STATE t) = 0) ∧ State.reset.job = none)

/-- The end of a command changes only the registers that show counts, and those not where they show the counts already. -/
def Obligations.EndOfCommandFrame : Prop :=
  ∀ s t : State, ok s = .next t →
    s.keepsRegs t [] ∧ t = { s with regs := t.regs, fresh := s.fresh + 1 } ∧
    (s.countsShown → Registers.wf s.regs = true → t.regs = s.regs)

/-! ## Profile, clock, gating and power (chapter 2) -/

/-- SET_PROFILE with a valid code and clock that differ from those in force starts a switch: the target is held, SWITCHING is 1,
every slot's collective invocations end (State.collReset), and the reply is OK. With the pair in force it replies OK and changes
nothing; an invalid pair is BAD_PARAM; with a job admitted, a switch in progress, a SOLVE command or a survey or self-test part
running it is BUSY. PROFILE_SWITCH_COMPLETE puts code and clock in force and clears SWITCHING. -/
def Obligations.ProfileSwitch : Prop :=
  (∀ (s : State) (q : Sub) (r : List Sub), s.front q r Op.setProfile → s.admitted = false →
    s.rd F.NODE_PROFILE_SWITCHING = 0 → (∀ x ∈ s.solver, x.2.handle = none) →
    (∀ x ∈ s.age.queue, x.calibration = true ∨ x.running = []) →
    (∀ mhz : Nat, s.profileClock (q.p 0 1) (q.p 2 2) = some mhz →
      (q.p 0 1 ≠ s.profile ∨ mhz ≠ s.rd F.NODE_PROFILE_TOWER_MHZ) →
      exec .setProfile s = ok (((({ s.taken r with power := { s.power with target := some (q.p 0 1, mhz) } } : State).wr
        F.NODE_PROFILE_SWITCHING 1).collReset (List.range 16)).short q St.ok [])) ∧
    (s.profileClock (q.p 0 1) (q.p 2 2) = some (s.rd F.NODE_PROFILE_TOWER_MHZ) → q.p 0 1 = s.profile →
      exec .setProfile s = ok ((s.taken r).short q St.ok [])) ∧
    (s.profileClock (q.p 0 1) (q.p 2 2) = none → exec .setProfile s = ok ((s.taken r).short q St.badParam []))) ∧
  (∀ (s : State) (q : Sub) (r : List Sub), s.front q r Op.setProfile →
    (s.admitted = true ∨ s.rd F.NODE_PROFILE_SWITCHING = 1 ∨ (∃ x ∈ s.solver, x.2.handle ≠ none) ∨
      (∃ x ∈ s.age.queue, x.calibration = false ∧ x.running ≠ [])) →
    exec .setProfile s = ok ((s.taken r).short q St.busy [])) ∧
  (∀ (s : State) (code mhz : Nat), s.power.target = some (code, mhz) → code < 4 → mhz < 2 ^ 16 →
    Does .profileSwitchComplete s (fun t => t.rd F.NODE_PROFILE_ACTIVE = code ∧ t.rd F.NODE_PROFILE_TOWER_MHZ = mhz ∧
      t.rd F.NODE_PROFILE_SWITCHING = 0 ∧ t.power.target = none ∧ t.power.windowG = s.rd F.NODE_GATE_SLOTS ∧ s.keepsMem t ∧
      t.cmd = s.cmd)) ∧
  (∀ s : State, s.power.target = none → exec .profileSwitchComplete s = ok s)

/-- At the end of a window G becomes the value of R39 under the plan in force when the window began and stays between 8 and 64;
SLOTS_MIN never exceeds it. The power average engages the backstop above 105 % of the cap, which lowers G by 8; each
BACKSTOP_STEP lowers it by 8 more, down to 8 where CAP_UNMET is set, until the average is back at the cap.
A write to CAP_W is clamped to 1,200 W and LIMIT_W; it is in force at once without a job, and waits for the next step
boundary with one (from the acceptance of its JOB_ADMIT on: the model's choice, log entry 106); a clamped write sets CAP_CLAMPED. -/
def Obligations.GateBackstopAndPowerCap : Prop :=
  ((∀ (gated ungated : List (BitVec 32)) (s : State), s.rd F.NODE_GATE_BACKSTOP_ACTIVE = 0 →
    s.rd F.NODE_THERMAL_BACKSTOP_ACTIVE = 0 →
    let p := s.power.windowPlan
    let f := s.rd F.NODE_PROFILE_TOWER_MHZ
    let eg := energy (plWeightG p) ((gated.take 32).map (·.toNat))
    let eu := energy (plWeightU p) ((ungated.take 16).map (·.toNat))
    Does (.gateWindowEnd gated ungated) s (fun t =>
      t.rd F.NODE_GATE_SLOTS = nextG (eg * f % 2 ^ 64 / (64 * s.rd F.NODE_GATE_SLOTS))
        (plStatic p s.profile ((f - 1100) / 10) + eu * f % 2 ^ 64 / 4096) (1000000 * s.rd F.NODE_POWER_CAP_CAP_ACTIVE) ∧
      8 ≤ t.rd F.NODE_GATE_SLOTS ∧ t.rd F.NODE_GATE_SLOTS ≤ 64 ∧ t.rd F.NODE_GATE_SLOTS_MIN ≤ t.rd F.NODE_GATE_SLOTS ∧
      t.power.windowG = t.rd F.NODE_GATE_SLOTS ∧ t.power.windowPlan = s.age.plan ∧
      s.keepsRegs t [R.NODE_GATE, R.NODE_GATE_CYCLES, R.NODE_POWER] ∧
      t = { s with regs := t.regs, power := t.power, fresh := s.fresh + 1 })) ∧
  (∀ (gated ungated : List (BitVec 32)) (s : State), s.rd F.NODE_GATE_BACKSTOP_ACTIVE = 1 ∨
    s.rd F.NODE_THERMAL_BACKSTOP_ACTIVE = 1 →
    Does (.gateWindowEnd gated ungated) s (fun t => t.rd F.NODE_GATE_SLOTS = s.rd F.NODE_GATE_SLOTS ∧
      s.keepsRegs t [R.NODE_GATE_CYCLES, R.NODE_POWER])) ∧
  (∀ (avg input : BitVec 16) (s : State), s.rd F.NODE_GATE_BACKSTOP_ACTIVE = 0 →
    105 * s.rd F.NODE_POWER_CAP_CAP_ACTIVE < 100 * avg.toNat → 8 < s.rd F.NODE_GATE_SLOTS →
    Does (.powerAverageUpdate avg input) s (fun t => t.rd F.NODE_GATE_BACKSTOP_ACTIVE = 1 ∧
      t.rd F.NODE_PROFILE_EVENTS_BACKSTOP = 1 ∧ t.rd F.NODE_GATE_SLOTS = max (s.rd F.NODE_GATE_SLOTS - 8) 8 ∧
      t.rd F.NODE_POWER_INPUT_W = input.toNat ∧ t.power.avgW = avg.toNat ∧
      s.keepsRegs t [R.NODE_GATE, R.NODE_POWER, R.NODE_PROFILE_EVENTS] ∧
      t = { s with regs := t.regs, power := t.power, fresh := s.fresh + 1 })) ∧
  (∀ (avg input : BitVec 16) (s : State), s.rd F.NODE_GATE_BACKSTOP_ACTIVE = 1 ∨
    100 * avg.toNat ≤ 105 * s.rd F.NODE_POWER_CAP_CAP_ACTIVE →
    Does (.powerAverageUpdate avg input) s (fun t => t.rd F.NODE_POWER_INPUT_W = input.toNat ∧
      t.rd F.NODE_POWER_PEAK_INPUT_W = max input.toNat (s.rd F.NODE_POWER_PEAK_INPUT_W) ∧ t.power.avgW = avg.toNat ∧
      s.keepsRegs t [R.NODE_POWER])) ∧
  (∀ s : State, s.rd F.NODE_GATE_BACKSTOP_ACTIVE = 1 → s.power.avgW ≤ s.rd F.NODE_POWER_CAP_CAP_ACTIVE →
    Does .backstopStep s (fun t => t.rd F.NODE_GATE_BACKSTOP_ACTIVE = 0 ∧ t.rd F.NODE_GATE_SLOTS = s.rd F.NODE_GATE_SLOTS ∧
      s.keepsRegs t [R.NODE_GATE])) ∧
  (∀ s : State, s.rd F.NODE_GATE_BACKSTOP_ACTIVE = 1 → s.rd F.NODE_POWER_CAP_CAP_ACTIVE < s.power.avgW →
    8 < s.rd F.NODE_GATE_SLOTS →
    Does .backstopStep s (fun t => t.rd F.NODE_GATE_SLOTS = max (s.rd F.NODE_GATE_SLOTS - 8) 8 ∧
      t.rd F.NODE_GATE_BACKSTOP_ACTIVE = 1 ∧ s.keepsRegs t [R.NODE_GATE])) ∧
  (∀ s : State, s.rd F.NODE_GATE_BACKSTOP_ACTIVE = 1 → s.rd F.NODE_POWER_CAP_CAP_ACTIVE < s.power.avgW →
    s.rd F.NODE_GATE_SLOTS ≤ 8 →
    Does .backstopStep s (fun t => t.rd F.NODE_PROFILE_EVENTS_CAP_UNMET = 1 ∧ s.keepsRegs t [R.NODE_PROFILE_EVENTS])) ∧
  (∀ s : State, s.rd F.NODE_GATE_BACKSTOP_ACTIVE = 0 → exec .backstopStep s = ok s)) ∧
  (∀ (w : BitVec 16) (s : State),
    let v := min (max w.toNat 1200) (s.rd F.NODE_VARIANT_LIMIT_W)
    Does (.nodePowerCapWrite w) s (fun t => t.rd F.NODE_POWER_CAP_CAP_W = v ∧
      (s.job = none → t.rd F.NODE_POWER_CAP_CAP_ACTIVE = v ∧ t.power = s.power) ∧
      (s.job ≠ none → t.rd F.NODE_POWER_CAP_CAP_ACTIVE = s.rd F.NODE_POWER_CAP_CAP_ACTIVE ∧ t.power.capWaiting = true) ∧
      (v ≠ w.toNat → t.rd F.NODE_PROFILE_EVENTS_CAP_CLAMPED = 1) ∧
      (v = w.toNat → t.rd F.NODE_PROFILE_EVENTS_CAP_CLAMPED = s.rd F.NODE_PROFILE_EVENTS_CAP_CLAMPED) ∧
      s.keepsRegs t [R.NODE_POWER_CAP, R.NODE_PROFILE_EVENTS] ∧ t = { s with regs := t.regs, power := t.power, fresh := s.fresh + 1 })) ∧
  (∀ s : State, s.power.capWaiting = true → s.capBoundary.rd F.NODE_POWER_CAP_CAP_ACTIVE = s.rd F.NODE_POWER_CAP_CAP_W ∧
    s.capBoundary.power.capWaiting = false)

/-! ## Step time (chapter 3) -/

/-- A boundary begins the next step: step time is the step's first instant, the time base counts it, and the boundary's actions
follow (State.boundary), of which the first step of each terrace is the last. While step time does not advance nothing
happens. At the end of the last step of a binding step time stays at its greatest value, TIMEBASE_LOST is raised and the
boundary's actions follow, once.
Step time moves only forwards, and only inside the running step: a command that needs a time finds it passed, or moves
step time to it, or does nothing. -/
def Obligations.StepBoundariesAndStepTime : Prop :=
  ((∀ s : State, s.ticking = true → s.step ≠ 2 ^ 40 - 1 →
    (s.setNow (2 ^ 24 * (s.step + 1)) 0).step = s.step + 1 ∧ (s.setNow (2 ^ 24 * (s.step + 1)) 0).phase = 0 ∧
    exec .stepBoundary s = ok ((s.setNow (2 ^ 24 * (s.step + 1)) 0).tbBoundary.boundary s.step (s.step + 1))) ∧
  (∀ s u : State, s.ticking = true → s.step = 2 ^ 40 - 1 →
    u = ({ s with tb := { s.tb with ended := true } } : State).setNow (2 ^ 64 - 1) 65535 →
    u.now = 2 ^ 64 - 1 ∧
    (s.tb.ended = true → exec .stepBoundary s = ok u) ∧
    (s.tb.ended = false → s.tbState = Tb.free ∨ s.tbState = Tb.lost →
      exec .stepBoundary s = ok (u.boundary (2 ^ 40 - 1) (2 ^ 40))) ∧
    (s.tb.ended = false → s.tbState ≠ Tb.free → s.tbState ≠ Tb.lost →
      exec .stepBoundary s = ok (u.timebaseLost.boundary (2 ^ 40 - 1) (2 ^ 40)))) ∧
  (∀ s : State, s.ticking = false → exec .stepBoundary s = ok s)) ∧
  (∀ (s u : State) (t : Nat), t < 2 ^ 64 → s.reach t = some u →
    t ≤ u.now ∧ s.now ≤ u.now ∧ u.step = s.step ∧ s.keepsRegs u [R.TB_NOW] ∧ u = { s with regs := u.regs, tb := u.tb })

/-- A tick symbol carries its fields and verifies: 16 bytes whose CRC-8 over all of them is 0. -/
def Obligations.TickSymbolRoundTrip : Prop :=
  ∀ id src ref hops stamp corr : Nat, id < 2 ^ 16 → src < 2 → ref < 2 → hops < 64 → stamp < 2 ^ 64 → corr < 2 ^ 32 →
    let t := mkTick id src ref hops stamp corr
    t.length = 16 ∧ tkId t = id ∧ tkSrc t = src ∧ tkRefLost t = ref ∧ tkHops t = hops ∧ tkStamp t = stamp ∧ tkCorr t = corr ∧
    tkGood t = true

/-- A master at a tick point sends its tick down its child ports, once; a port whose state has the delay exchange (UP, DRAINED)
sends the request and answers one; a port publishes the median of its last 16 measurements; a relay adds the link's delay, to
the nearest 1/16 ns (the model's choice, log entry 31), and its residence, counts the hop, and drops a tick with 63.
A tick on a port that carries ticks (UP, DRAINING, DRAINED), of the time base a follower is bound to, is followed: with a
published delay, from its parent port and source, at a tick point and later than the last one it is valid, clears HOLD_STEPS,
is relayed, and loads or corrects step time; a bad one on a listed port is counted. A tick of a time base the node is not bound
to is only relayed, from the first listed port to deliver one; a port in another state takes no tick. -/
def Obligations.TicksDelaysAndArrivals : Prop :=
  ((∀ (stamp : BitVec 64) (s u : State), s.rd F.TB_STATUS_STATE = Tb.master → s.ticking = true →
    (∀ l, s.tb.lastStamp = some l → l < stamp.toNat) → s.now ≤ stamp.toNat →
    stamp.toNat % 2 ^ (24 - s.rd F.TB_STATUS_TICK_LOG2) = 0 → s.reach stamp.toNat = some u →
    exec (.tickSend stamp) s = ok (({ u with tb := { u.tb with lastStamp := some stamp.toNat } } : State).sendTick
      (mkTick (u.rd F.TB_STATUS_TB_ID) (if u.tb.role = 3 then 1 else 0) (if u.tb.refPresent then 0 else 1) 0 stamp.toNat 0))) ∧
  (∀ (stamp : BitVec 64) (s : State), s.rd F.TB_STATUS_STATE ≠ Tb.master ∨ s.ticking = false ∨ stamp.toNat < s.now ∨
    (∃ l, s.tb.lastStamp = some l ∧ stamp.toNat ≤ l) ∨ stamp.toNat % 2 ^ (24 - s.rd F.TB_STATUS_TICK_LOG2) ≠ 0 →
    exec (.tickSend stamp) s = ok s) ∧
  (∀ (s : State) (t : Bytes) (r : Relay), s.tb.relays.find? (fun x => x.tbId == tkId t) = some r →
    s.sendTick t = forEach ((bitList (if tkSrc t = 0 then r.childPrimary else r.childStandby) 8).filter s.tickPort) s
      (fun p v => v.send .tick p [] t)) ∧
  (∀ (p : Fin 8) (s : State), s.portState p = Port.up ∨ s.portState p = Port.drained →
    exec (.delayRequest p) s = ok (s.send .delayRequest p [] [])) ∧
  (∀ (p : Fin 8) (turn : Nat) (s : State), s.portState p = Port.up ∨ s.portState p = Port.drained →
    exec (.delayRequestArrival p turn) s = ok (s.send .delayResponse p [turn] [])) ∧
  (∀ (p : Fin 8) (round turn : Nat) (s : State), s.portState p = Port.up ∨ s.portState p = Port.drained →
    (15 ≤ (mget s.tb.meas p []).length → let l := ((round - turn) / 2 :: mget s.tb.meas p []).take 16
      exec (.delayResponseArrival p round turn) s =
        ok ((({ s with tb := { s.tb with meas := mput s.tb.meas p l } } : State).wr (F.TB_PORT_DELAY_DELAY_PS p)
          (min (median16 l) (2 ^ 32 - 1))).wr (F.TB_PORT_DELAY_VALID p) 1)) ∧
    ((mget s.tb.meas p []).length < 15 → exec (.delayResponseArrival p round turn) s =
      ok { s with tb := { s.tb with meas := mput s.tb.meas p ((round - turn) / 2 :: mget s.tb.meas p []) } })) ∧
  (∀ (p : Fin 8) (round turn : Nat) (s : State), s.portState p ≠ Port.up → s.portState p ≠ Port.drained →
    exec (.delayRequest p) s = ok s ∧ exec (.delayRequestArrival p turn) s = ok s ∧
    exec (.delayResponseArrival p round turn) s = ok s)) ∧
  ((∀ (p : Fin 8) (tick : Bytes) (now : BitVec 64) (fine : BitVec 16) (clk res : Nat) (s : State),
    s.portState p = Port.up ∨ s.portState p = Port.draining ∨ s.portState p = Port.drained →
    (∀ u : State, s.tb.role = 1 ∨ (s.tb.role = 3 ∧ s.tbState ≠ Tb.master) →
      (tkGood tick = true → tkId tick = s.rd F.TB_STATUS_TB_ID) →
      (s.ticking = false → exec (.tickArrival p tick now fine clk res) s = ok (s.followTick p clk res tick)) ∧
      (s.ticking = true → s.reach now.toNat = some u →
        (u.now = now.toNat → exec (.tickArrival p tick now fine clk res) s =
          ok (({ u with tb := { u.tb with fine := max u.tb.fine fine.toNat } } : State).followTick p clk res tick)) ∧
        (u.now ≠ now.toNat → exec (.tickArrival p tick now fine clk res) s = ok (u.followTick p clk res tick)))) ∧
    (s.tb.role = 0 → tkGood tick = true → exec (.tickArrival p tick now fine clk res) s = ok (s.relayOther p res tick))) ∧
  (∀ (p : Nat) (tick : Bytes) (clk res : Nat) (s : State), tkGood tick = true → s.rd (F.TB_PORT_DELAY_VALID p) = 1 →
    tkSrc tick = s.rd F.TB_STATUS_SRC → s.rd F.TB_STATUS_PARENT_PORT = p → p ≠ 15 →
    (∀ l, s.tb.lastStamp = some l → l < tkStamp tick) → tkStamp tick % 2 ^ (24 - s.rd F.TB_STATUS_TICK_LOG2) = 0 →
    s.followTick p clk res tick =
      ({ s with tb := { s.tb with portTick := mput s.tb.portTick p clk } } : State).validTick p res tick) ∧
  (∀ (p : Nat) (tick : Bytes) (clk res : Nat) (s : State), tkGood tick = false ∨ s.rd (F.TB_PORT_DELAY_VALID p) = 0 →
    ((s.parentList 0).contains p = true ∨ (s.parentList 1).contains p = true →
      s.followTick p clk res tick = (s.inc F.TB_COUNTS_BAD_TICKS).ev F.TB_EVENTS_BAD_TICK) ∧
    ((s.parentList 0).contains p = false → (s.parentList 1).contains p = false → s.followTick p clk res tick = s)) ∧
  (∀ (p res est : Nat) (t : Bytes) (e : Int) (s u v w : State),
    u = (({ s with tb := { s.tb with lastStamp := some (tkStamp t) } } : State).wr F.TB_STATUS_HOLD_STEPS 0).relayTick p res t →
    est = u.estimate p t → e = ((2 ^ 16 * u.now + u.tb.fine : Nat) : Int) - (est : Int) → v = u.showError e → w = v.correct e est →
    (u.tbState = Tb.lost → s.validTick p res t = u) ∧
    (u.tbState ≠ Tb.lost → v.tb.loadPending = true → s.validTick p res t = v.loadTime (est / 2 ^ 16) (est % 2 ^ 16)) ∧
    (u.tbState ≠ Tb.lost → v.tb.loadPending = false → w.tbState = Tb.lost → s.validTick p res t = w) ∧
    (u.tbState ≠ Tb.lost → v.tb.loadPending = false → w.tbState ≠ Tb.lost → s.validTick p res t = w.judge e)) ∧
  (∀ (p res : Nat) (t : Bytes) (s : State), (tkHops t = 63 → s.relayTick p res t = s) ∧
    (tkHops t ≠ 63 → s.relayTick p res t = s.sendTick (mkTick (tkId t) (tkSrc t) (tkRefLost t) (tkHops t + 1) (tkStamp t)
      (tkCorr t + (16 * s.rd (F.TB_PORT_DELAY_DELAY_PS p) + 500) / 1000 + res)))) ∧
  (∀ (p res key : Nat) (t : Bytes) (s u : State) (r : Relay), s.tb.relays.find? (fun x => x.tbId == tkId t) = some r →
    key = tkId t * 2 + tkSrc t →
    u = ({ s with tb := { s.tb with relayed := mput s.tb.relayed key (p, tkStamp t) } } : State).relayTick p res t →
    (s.tickPort p = false ∨ (if tkSrc t = 0 then r.primary else r.standby).contains p = false → s.relayOther p res t = s) ∧
    (s.tickPort p = true → (if tkSrc t = 0 then r.primary else r.standby).contains p = true →
      (mfind s.tb.relayed key = none → s.relayOther p res t = u) ∧
      (∀ q last : Nat, mfind s.tb.relayed key = some (q, last) →
        (last < tkStamp t → (q = p ∨ s.tickPort q = false) → s.relayOther p res t = u) ∧
        (tkStamp t ≤ last ∨ (q ≠ p ∧ s.tickPort q = true) → s.relayOther p res t = s)))) ∧
  (∀ (p : Fin 8) (tick : Bytes) (now : BitVec 64) (fine : BitVec 16) (clk res : Nat) (s : State),
    s.portState p ≠ Port.up → s.portState p ≠ Port.draining → s.portState p ≠ Port.drained →
    exec (.tickArrival p tick now fine clk res) s = ok s))

/-- Losing time: a hold ends when the estimate reaches step time, or after 64 tick intervals the node is LOST; a follower that
misses ticks selects another port with a fresh tick, or without one enters HOLDOVER; a standby master in HOLDOVER is promoted
to MASTER; the RTB_EPOCH edge at least 1 ms after a master's bind begins step time at START and sends the first tick; RTB_REF's
loss and return show in REF_LOST. -/
def Obligations.HoldoverAndReference : Prop :=
  (∀ s : State, exec .holdEnd s = ok { s with tb := { s.tb with held := false } }) ∧
  (∀ s : State, s.tb.held = true → exec .holdTimeout s = ok s.timebaseLost) ∧
  (∀ s : State, s.tb.held = false → exec .holdTimeout s = ok s) ∧
  (∀ s : State, s.timebaseLost.rd F.TB_STATUS_STATE = Tb.lost ∧ s.timebaseLost.tb.stopped = true ∧
    s.timebaseLost.tb.held = false) ∧
  (∀ (clk : Nat) (s : State) (fresh : Nat → Bool),
    (∀ p, fresh p = true ↔ p ≠ s.rd F.TB_STATUS_PARENT_PORT ∧ ∃ c, mfind s.tb.portTick p = some c ∧ clk ≤ c + s.intervals 4) →
    (s.tb.role = 1 ∨ s.tb.role = 3) → s.tb.lastStamp ≠ none →
    (s.rd F.TB_STATUS_STATE = Tb.acquiring ∨ s.rd F.TB_STATUS_STATE = Tb.locked ∨ s.rd F.TB_STATUS_STATE = Tb.holdover) →
    (∀ p, (s.parentList (s.rd F.TB_STATUS_SRC)).find? fresh = some p → exec (.ticksStop clk) s = ok (s.setParent p)) ∧
    ((s.parentList (s.rd F.TB_STATUS_SRC)).find? fresh = none → s.rd F.TB_STATUS_STATE ≠ Tb.holdover →
      exec (.ticksStop clk) s = ok ((s.ev F.TB_EVENTS_HOLDOVER).setTb Tb.holdover)) ∧
    ((s.parentList (s.rd F.TB_STATUS_SRC)).find? fresh = none → s.rd F.TB_STATUS_STATE = Tb.holdover →
      exec (.ticksStop clk) s = ok s)) ∧
  (∀ (clk : Nat) (s : State), s.tb.role = 0 ∨ s.tb.role = 2 ∨ s.tb.lastStamp = none → exec (.ticksStop clk) s = ok s) ∧
  (∀ s : State, s.tb.role = 3 → s.rd F.TB_STATUS_STATE = Tb.holdover →
    exec .standbyPromotion s = ok (((({ s with tb := { s.tb with held := false } } : State).wr F.TB_STATUS_REF_LOST
      (if s.tb.refPresent then 0 else 1)).ev F.TB_EVENTS_PROMOTED).setTb Tb.master)) ∧
  (∀ s : State, s.tb.role ≠ 3 ∨ s.rd F.TB_STATUS_STATE ≠ Tb.holdover → exec .standbyPromotion s = ok s) ∧
  (∀ (since t : Nat) (s : State), s.tb.start = some t → 1000000 ≤ since →
    exec (.rtbEpochEdge since) s = ok ((s.loadTime t 0).masterTick t)) ∧
  (∀ (since : Nat) (s : State), since < 1000000 ∨ s.tb.start = none → exec (.rtbEpochEdge since) s = ok s) ∧
  (∀ s : State, s.rd F.TB_STATUS_STATE = Tb.master →
    exec .rtbRefLoss s = ok ((({ s with tb := { s.tb with refPresent := false } } : State).wr F.TB_STATUS_REF_LOST 1).ev
      F.TB_EVENTS_REF_LOST)) ∧
  (∀ s : State, s.rd F.TB_STATUS_STATE ≠ Tb.master →
    exec .rtbRefLoss s = ok { s with tb := { s.tb with refPresent := false } }) ∧
  (∀ s : State, exec .rtbRefRestored s =
    ok (({ s with tb := { s.tb with refPresent := true } } : State).wr F.TB_STATUS_REF_LOST 0))

/-- TIMEBASE_BIND without a job: role 0 unbinds to FREE; roles 1 and 3 wait in ACQUIRING for the first valid tick; role 2 becomes
MASTER and waits for RTB_EPOCH to begin at START; each takes the ID, period and tick interval given. A period out of range, a
START where none belongs, and a master bind without RTB_REF are BAD_PARAM; with a job and a time base that is not LOST a bind is
BUSY.
A read of TB_NOW gives step time, which it may move within the running step, and latches FINE for its hart; an enabled alarm
whose target step time has reached fires once, with its interrupt, and is disabled; one that is disabled does nothing. -/
def Obligations.TimebaseBindingReadingTimeAndAlarms : Prop :=
  ((∀ (s : State) (q : Sub) (r : List Sub), s.front q r Op.timebaseBind → s.job = none → q.p 0 1 = 0 → q.p 1 1 = 0 →
    q.p 2 2 = 0 → q.p 8 8 = 0 → q.p 16 8 = 0 →
    Does .timebaseUnbind s (fun t => t.tb.role = 0 ∧ t.tb.lastStamp = none ∧ t.tb.held = false ∧ t.tb.start = none ∧
      t.tb.loadPending = false ∧ t.rd F.TB_STATUS_STATE = Tb.free)) ∧
  (∀ (s : State) (q : Sub) (r : List Sub) (c : Instr) (k : Nat), s.front q r Op.timebaseBind → s.job = none → q.p 0 1 = k →
    (c, k) ∈ [(Instr.timebaseBindFollower, 1), (.timebaseBindMaster, 2), (.timebaseBindStandby, 3)] → q.p 1 1 ≤ 23 →
    q.p 2 2 ≠ 0 → 50000 ≤ q.p 8 8 → q.p 8 8 ≤ 10 ^ 10 → 1000 * 2 ^ q.p 1 1 ≤ q.p 8 8 → q.p 8 8 ≤ 100000 * 2 ^ q.p 1 1 →
    (k = 2 → s.tb.refPresent = true ∧ q.p 16 8 % 2 ^ 24 = 0) → (k ≠ 2 → q.p 16 8 = 0) →
    Does c s (fun t => t.tb.role = k ∧ t.tb.lastStamp = none ∧ t.tb.held = false ∧
      t.tb.start = (if k = 2 then some (q.p 16 8) else none) ∧ t.tb.loadPending = decide (k ≠ 2) ∧
      t.rd F.TB_STATUS_STATE = (if k = 2 then Tb.master else Tb.acquiring) ∧ t.rd F.TB_STATUS_TB_ID = q.p 2 2 ∧
      t.rd F.TB_STATUS_TICK_LOG2 = q.p 1 1 ∧ t.periodNs = q.p 8 8)) ∧
  (∀ (s : State) (q : Sub) (r : List Sub) (c : Instr) (k : Nat), s.front q r Op.timebaseBind → q.p 0 1 = k →
    (c, k) ∈ [(Instr.timebaseBindFollower, 1), (.timebaseBindMaster, 2), (.timebaseBindStandby, 3)] →
    (q.p 2 2 = 0 ∨ 23 < q.p 1 1 ∨ q.p 8 8 < 50000 ∨ 10 ^ 10 < q.p 8 8 ∨ q.p 8 8 < 1000 * 2 ^ q.p 1 1 ∨
      100000 * 2 ^ q.p 1 1 < q.p 8 8 ∨ (k ≠ 2 ∧ q.p 16 8 ≠ 0) ∨ q.p 16 8 % 2 ^ 24 ≠ 0 →
      exec c s = ok ((s.taken r).short q St.badParam [])) ∧
    (q.p 2 2 ≠ 0 → q.p 1 1 ≤ 23 → 50000 ≤ q.p 8 8 → q.p 8 8 ≤ 10 ^ 10 → 1000 * 2 ^ q.p 1 1 ≤ q.p 8 8 →
      q.p 8 8 ≤ 100000 * 2 ^ q.p 1 1 → (k ≠ 2 → q.p 16 8 = 0) → q.p 16 8 % 2 ^ 24 = 0 →
      (k = 2 → s.tb.refPresent = false →
        exec c s = ok (((s.taken r).wr F.TB_STATUS_REF_LOST 1).short q St.badParam [])) ∧
      ((k = 2 → s.tb.refPresent = true) → s.job ≠ none → s.rd F.TB_STATUS_STATE ≠ Tb.lost →
        exec c s = ok ((s.taken r).short q St.busy []))))) ∧
  ((∀ (h : Fin 64) (rd : Fin 32) (now : BitVec 64) (fine : BitVec 16) (s u : State), u = s.at_ now.toNat fine.toNat →
    (rd ≠ 0 → exec (.tbNowRead ⟨h.val, by omega⟩ rd now fine) s = ok ((u.latchFine h).setHart h
      { u.hart h with x := mput (u.hart h).x rd (BitVec.ofNat 64 u.now) })) ∧
    (rd = 0 → exec (.tbNowRead ⟨h.val, by omega⟩ rd now fine) s = ok (u.latchFine h)) ∧
    exec (.tbNowRead 64 rd now fine) s = ok (u.latchFine 64)) ∧
  (∀ (s : State) (now fine : Nat), (s.reach now = none → s.at_ now fine = s) ∧
    (∀ u : State, s.reach now = some u →
      (u.ticking = true → u.now = now → s.at_ now fine = { u with tb := { u.tb with fine := max u.tb.fine fine } }) ∧
      (u.ticking = false ∨ u.now ≠ now → s.at_ now fine = u))) ∧
  (∀ (s : State) (h : Nat), mget (s.latchFine h).tb.hartFine h 0 = s.tb.fine) ∧
  (∀ (a : Fin 32) (s u v : State), s.rd (F.TB_ALARM_CTRL_ENABLE a) = 1 → s.tb.loadPending = false → s.tb.start = none →
    s.reach (s.rd (F.TB_ALARM_TIME_TARGET a)) = some u →
    v = (u.wr (F.TB_ALARM_CTRL_FIRED a) 1).wr (F.TB_ALARM_CTRL_ENABLE a) 0 →
    exec (.alarmFire a) s = ok (if v.rd (F.TB_ALARM_CTRL_MSI a) = 0 then v
      else v.msi (v.rd (F.TB_ALARM_CTRL_HART a)) (v.rd (F.TB_ALARM_CTRL_EIID a)))) ∧
  (∀ (a : Fin 32) (s : State), s.rd (F.TB_ALARM_CTRL_ENABLE a) = 0 → exec (.alarmFire a) s = ok s))

/-! ## The schedule sequencer (chapter 4) -/

/-- The next entry of a terrace in its step fires when step time reaches its FIRE_PHASE and no hold stops step time. It becomes
pending when what it reads passes its checks, and else completes with the status of the check that failed; a DIGEST or REFLECT
keeps the extent list it read. In no step, past the table and during a hold nothing fires. -/
def Obligations.EntriesFireInOrder : Prop :=
  (∀ (t : Fin 16) (s u : State) (e : Entry), s.entry t (s.rd (F.SCHED_STATUS_NEXT_ENTRY t)) = some e →
    (s.tr t).inStep = true → s.tb.held = false → s.reach (2 ^ 24 * s.rd (F.SCHED_STEP_STEP t) + e.firePhase) = some u →
    exec (.entryFire t) s = ok (u.fireNext t)) ∧
  (∀ (t : Fin 16) (s : State), (s.tr t).inStep = false ∨ s.tb.held = true ∨
    s.entry t (s.rd (F.SCHED_STATUS_NEXT_ENTRY t)) = none → exec (.entryFire t) s = ok s) ∧
  (∀ (t st : Nat) (s u v : State) (e : Entry) (snap : List (Nat × Bytes)), let n := s.rd (F.SCHED_STATUS_NEXT_ENTRY t)
    u = s.wr (F.SCHED_STATUS_NEXT_ENTRY t) (n + 1) → s.entry t n = some e → e.action ≠ Act.reflect → e.action ≠ Act.digest →
    u.fireCheck t e = (st, snap) → v = u.setEs t n { EntryState.init with phase := .pending, source := n, snap := snap } →
    (st = St.ok → s.fireNext t = propagate 65536 v) ∧
    (st = St.badParam → s.fireNext t = (v.noteRefl e.addr 64).completeEntry t n st) ∧
    (st = St.exactViolation → s.fireNext t = (v.ev F.NODE_PROFILE_EVENTS_EXACT_VIOL).completeEntry t n st) ∧
    (st ≠ St.ok → st ≠ St.badParam → st ≠ St.exactViolation → s.fireNext t = v.completeEntry t n st)) ∧
  (∀ (t ls : Nat) (s u v : State) (e : Entry) (es : List (Nat × Nat)), let n := s.rd (F.SCHED_STATUS_NEXT_ENTRY t)
    u = s.wr (F.SCHED_STATUS_NEXT_ENTRY t) (n + 1) → s.entry t n = some e → u.readExtents e.addr = (ls, es) →
    v = u.setEs t n { EntryState.init with phase := .pending, source := n, snap := [(0, extentBytes es)] } →
    (e.action = Act.digest → ls = St.ok → u.digestOk es = true → s.fireNext t = propagate 65536 v) ∧
    (e.action = Act.digest → ls = St.badParam ∨ (ls = St.ok ∧ u.digestOk es = false) →
      s.fireNext t = (v.noteRefl e.addr 64).completeEntry t n St.badParam) ∧
    (e.action = Act.digest → ls = St.poisonConsumed → s.fireNext t = v.completeEntry t n St.poisonConsumed) ∧
    (e.action = Act.reflect → ls = St.ok →
      s.fireNext t = propagate 65536 (v.setTr t { v.tr t with reflectList := some (ls, es) })) ∧
    (e.action = Act.reflect → ls = St.badParam → s.fireNext t =
      ((v.setTr t { v.tr t with reflectList := some (ls, es) }).noteRefl e.addr 64).completeEntry t n St.badParam) ∧
    (e.action = Act.reflect → ls = St.poisonConsumed →
      s.fireNext t = (v.setTr t { v.tr t with reflectList := some (ls, es) }).completeEntry t n St.poisonConsumed)) ∧
  (∀ (s : State) (t i status : Nat), s.completeEntry t i status = propagate 65536 (s.endEntry t i status false i true))

/-- A running entry whose work is done completes with its status; in the Sealed profile with its twin, once both are done, and a
pair whose statuses differ diverges. An entry that is not done stays. At its deadline a pending entry ends with
DEADLINE_MISSED, a running one whose work is done completes in time, and any other, a DIGEST always, stops its units and ends
with the status of the stop; one already done keeps its end. -/
def Obligations.EntriesEnd : Prop :=
  (∀ (t : Fin 16) (i : Fin 4096) (s : State), (s.es t i).phase = .running → (s.es t i).ready = true →
    exec (.entryComplete t i) s = ok ((s.finishEntry t i).afterEntry t)) ∧
  (∀ (t : Fin 16) (i : Fin 4096) (s : State), (s.es t i).phase ≠ .running ∨ (s.es t i).ready = false →
    exec (.entryComplete t i) s = ok s) ∧
  (∀ (t i : Nat) (s : State), s.sealed = false → s.finishEntry t i = s.completeEntry t i (s.es t i).outcome) ∧
  (∀ (t i : Nat) (s : State) (x y : EntryState), s.sealed = true → x = s.es t i → y = s.es ((t + 8) % 16) i →
    (y.phase = .running → y.ready = true → y.outcome = x.outcome → s.finishEntry t i = propagate 65536
      ((s.endEntry (t % 8) i x.outcome false i true).endEntry (t % 8 + 8) i x.outcome false i false)) ∧
    (y.phase = .running → y.ready = true → y.outcome ≠ x.outcome → s.finishEntry t i = s.diverge (t % 8) 3 0 0) ∧
    (y.phase = .done → y.status = x.outcome → s.finishEntry t i = s.completeEntry t i x.outcome) ∧
    (y.phase = .done → y.status ≠ x.outcome → s.finishEntry t i = s.diverge (t % 8) 3 0 0) ∧
    (y.phase ≠ .done → y.phase ≠ .running ∨ y.ready = false → s.finishEntry t i = s)) ∧
  (∀ (t : Fin 16) (i : Fin 4096) (s u : State) (e : Entry), s.entry t i = some e → e.action ≠ Act.endStep →
    (s.tr t).inStep = true → (s.es t i).phase = .pending ∨ (s.es t i).phase = .running →
    s.reach (2 ^ 24 * s.rd (F.SCHED_STEP_STEP t) + e.deadline) = some u →
    ((∀ k ∈ u.members t, (u.es k i).phase = .done ∨
        ((u.es k i).phase = .running ∧ (u.es k i).ready = true ∧ e.action ≠ Act.digest)) →
      exec (.entryDeadline t i) s = ok ((u.finishEntry t i).afterEntry t)) ∧
    (u.sealed = false → (u.es t i).phase ≠ .done →
      ((u.es t i).phase ≠ .running ∨ (u.es t i).ready = false ∨ e.action = Act.digest) →
      exec (.entryDeadline t i) s = ok ((u.deadlineOne t i e true).afterEntry t)) ∧
    (u.sealed = true → (∃ k ∈ u.members t, (u.es k i).phase ≠ .done ∧
        ((u.es k i).phase ≠ .running ∨ (u.es k i).ready = false ∨ e.action = Act.digest)) →
      ∀ v : State, v = u.deadlineOne (t.val % 8) i e true →
        exec (.entryDeadline t i) s = ok ((v.deadlineOne (t.val % 8 + 8) i e (!v.sealed)).afterEntry t))) ∧
  (∀ (t i st detail : Nat) (e : Entry) (sig : Bool) (s u : State),
    ((s.es t i).phase = .pending → s.deadlineOne t i e sig = s.completeEntry t i St.deadlineMissed) ∧
    ((s.es t i).phase = .running → s.stopEntry t i e = (u, st, detail) → (u.es t i).phase = .running →
      s.deadlineOne t i e sig =
        propagate 65536 ((u.setEs t i { u.es t i with detail := detail }).endEntry t i st false i sig))) ∧
  (∀ (t : Fin 16) (i : Fin 4096) (s : State), (s.es t i).phase ≠ .pending → (s.es t i).phase ≠ .running →
    exec (.entryDeadline t i) s = ok s)

/-- A signal adds one to its counter while the target runs the sender's step, a failure marks the counter FAILED once with
its status and source, and any other signal is dropped with STALE_SIGNAL. A startable entry is one whose wait is met, whose
units are free, with fewer than 64 running and none before it that may start; starting it makes it run and hold its units. -/
def Obligations.SignalsAndStarting : Prop :=
  (∀ (s : State) (step t ctr status source : Nat), bit s.jobMask t = true → s.rd (F.SCHED_STATUS_STATE t) = 1 →
    s.rd (F.SCHED_STEP_STEP t) = step → ((s.tr t).inStep = true ∨ (s.tr t).ranStep = some step) →
    (isSuccess status = true → s.signal step t ctr status source = s.inc (F.SCHED_CTR_VALUE t ctr)) ∧
    (isSuccess status = false → s.rd (F.SCHED_CTR_FAILED t ctr) = 0 →
      s.signal step t ctr status source = (s.ev (F.SCHED_CTR_FAILED t ctr)).setTr t
        { s.tr t with ctrSource := mput (s.tr t).ctrSource ctr (status, source) }) ∧
    (isSuccess status = false → s.rd (F.SCHED_CTR_FAILED t ctr) = 1 → s.signal step t ctr status source = s)) ∧
  (∀ (s : State) (step t ctr status source : Nat), bit s.jobMask t = false ∨ s.rd (F.SCHED_STATUS_STATE t) ≠ 1 ∨
    s.rd (F.SCHED_STEP_STEP t) ≠ step ∨ ((s.tr t).inStep = false ∧ (s.tr t).ranStep ≠ some step) →
    s.signal step t ctr status source = s.ev (F.SCHED_EVENTS_STALE_SIGNAL t)) ∧
  (∀ (s : State) (t i : Nat), s.startable t i = true → ∃ e, s.entry t i = some e ∧ (s.tr t).inStep = true ∧
    (s.es t i).phase = .pending ∧ (e.waitEn = true → e.waitVal ≤ s.rd (F.SCHED_CTR_VALUE t e.waitCtr)) ∧
    (s.runningEntries t).length < 64 ∧ (∀ u ∈ s.resources t i e, u ∉ s.heldUnits t ∧ s.unitBusy t u = false) ∧
    (∀ j ∈ s.pendingEntries t, j < i → s.startable t j = false)) ∧
  (∀ (s : State) (t i : Nat), ((s.startEntry t i).es t i).phase = .running ∧ ((s.startEntry t i).es t i).started = true ∧
    s.keepsRegs (s.startEntry t i) [R.SCHED_COUNTS t] ∧ s.keepsMem (s.startEntry t i) ∧
    (∀ e, s.entry t i = some e → ∀ u ∈ s.resources t i e, u ∈ (s.startEntry t i).heldUnits t))

/-- A startable entry starts its action: descriptors go to the engines of its spires, cores start a program at PROG_ADDR,
the Solver Engine accepts a SOLVE or the entry is done with its status, the group takes a COLLECTIVE, a wait tests its slot, a
DIGEST takes a hash engine or waits for one, a QUIET window opens, a MARK is recorded, once for a pair, and REFLECT tests
whether a checkpoint is due. A BARRIER that starts, or runs already, has its group part done when every member has reached it,
and is met with the terraces it names. An entry that may not start does nothing. -/
def Obligations.StartableEntriesStart : Prop :=
  (∀ (t : Fin 16) (i : Fin 4096) (s : State) (e : Entry), s.entry t i = some e → s.startable t i = true →
    let u := s.startEntry t i
    (e.action = Act.tensorRun → exec (.tensorRun t i) s = ok (u.issueSpires t i e false)) ∧
    (e.action = Act.move → exec (.move t i) s = ok (u.issueSpires t i e true)) ∧
    (e.action = Act.vectorProgram → exec (.vectorProgram t i) s = ok (forEach (bitList e.spireMask 18)
      (u.setEs t i { u.es t i with left := e.spireMask }) (fun k v => v.startCore t i k e))) ∧
    (e.action = Act.solve → ∀ (v : State) (st : Nat), u.solveStart t e.addr (mget (u.es t i).snap 0 []) false (some i) none
      (2 ^ 24 * u.rd (F.SCHED_STEP_STEP t) + e.deadline) = (v, st) →
      (st = 0 → exec (.solveEntry t i) s = ok v) ∧ (st ≠ 0 → exec (.solveEntry t i) s = ok (v.entryReady t i st))) ∧
    (e.action = Act.collective → (∀ b, (u.cslot (e.op 16 1 % 16)).live = some b →
        exec (.collective t i) s = ok (u.collQueue (e.op 16 1 % 16) t i (mget (u.es t i).snap 0 []) b)) ∧
      ((u.cslot (e.op 16 1 % 16)).live = none → exec (.collective t i) s = ok (u.entryReady t i St.badParam))) ∧
    (e.action = Act.fieldWait → exec (.fieldWait t i) s = ok (u.testFields t)) ∧
    (e.action = Act.reflect → exec (.reflect t i) s =
      ok (((u.reflect (u.rd (F.SCHED_STEP_STEP t))).entryReady t i St.ok).finishEntry t i)) ∧
    (e.action = Act.digest → exec (.digest t i) s =
      ok (hashNext 4 { u with check := { u.check with hashQueue := u.check.hashQueue ++ [(t.val, i.val)] } })) ∧
    (e.action = Act.quiet → exec (.quiet t i) s = ok (u.startParts t)) ∧
    (e.action = Act.recordMark → (u.sealed = false ∨ t.val < 8 → exec (.recordMark t i) s =
        ok (((u.recordPut none 5 0 (natLE 1 t ++ zeros 1 ++ natLE 2 e.tag ++ natLE 4 (e.op 16 4) ++ zeros 8)).entryReady t i
          St.ok).finishEntry t i)) ∧
      (u.sealed = true → 8 ≤ t.val → exec (.recordMark t i) s = ok ((u.entryReady t i St.ok).finishEntry t i)))) ∧
  (∀ (t : Fin 16) (i : Fin 4096) (group : Bool) (s u v : State) (e : Entry), s.entry t i = some e → e.action = Act.barrier →
    (s.startable t i = true → u = s.startEntry t i →
      v = u.setEs t i { u.es t i with left := if e.op 19 1 = 0xFF then 0 else 1 }) →
    (s.startable t i = false → (s.es t i).phase = .running ∧ v = s) →
    (group = true → (v.cslot (e.op 19 1 % 16)).live ≠ none → exec (.barrier t i group) s =
      ok ((v.setEs t i { v.es t i with left := 0 }).barriers)) ∧
    (group = false ∨ (v.cslot (e.op 19 1 % 16)).live = none → exec (.barrier t i group) s = ok v.barriers)) ∧
  (∀ (t : Fin 16) (i : Fin 4096) (s : State), s.startable t i = false →
    exec (.tensorRun t i) s = ok s ∧ exec (.move t i) s = ok s ∧ exec (.vectorProgram t i) s = ok s ∧
    exec (.solveEntry t i) s = ok s ∧ exec (.collective t i) s = ok s ∧ exec (.fieldSend t i) s = ok s ∧
    exec (.fieldWait t i) s = ok s ∧ exec (.reflect t i) s = ok s ∧ exec (.digest t i) s = ok s ∧
    exec (.quiet t i) s = ok s ∧ exec (.recordMark t i) s = ok s ∧
    ((s.es t i).phase ≠ .running → ∀ group : Bool, exec (.barrier t i group) s = ok s))

/-- FIELD_SEND sends the extent as chunks of 64 KiB, each with its poison mask, to the buffer of the step; a pair sends once,
when both members run. A chunk that arrives is written in place with its poison; with its check it is acknowledged and, when it
completes its field, counts at the slot and the waits test it; without it is fetched again, and the fourth failure fails the
slot; a repeat is only acknowledged; a stale one only raises FIELD_STALE, and one whose bytes are refused is not taken. -/
def Obligations.FieldsAreSentAndReceived : Prop :=
  (∀ (t : Fin 16) (i : Fin 4096) (s u : State) (e : Entry), s.entry t i = some e → s.startable t i = true →
    e.action = Act.fieldSend → u = s.startEntry t i →
    ((u.liveBank t).fields[e.op 16 1 % 64]? = none → exec (.fieldSend t i) s = ok (u.entryReady t i St.badParam)) ∧
    (∀ f : FieldMap, (u.liveBank t).fields[e.op 16 1 % 64]? = some f →
      ((∃ k ∈ u.members t, (u.es k i).phase ≠ .running) → exec (.fieldSend t i) s = ok u) ∧
      ((∀ k ∈ u.members t, (u.es k i).phase = .running) → ∀ (st base terr : Nat) (cs : List CChunk) (p : FieldSend × State),
        st = u.rd (F.SCHED_STEP_STEP t) → base = f.dstBase + st % f.nbuf * f.bufStride →
        terr = (if u.sealed = true then t.val % 8 else t.val) →
        cs = u.fieldChunks f e.addr (e.op 20 4) st (fieldOrigin terr i) →
        p = pumpField 8 ⟨terr, i, (match u.target base with | .pond n _ => n | .weir n _ => n | _ => u.nodeId), f.destTerrace,
          f.destSlot, st, base % 2 ^ 48, cs.length, [], cs, []⟩ u →
        exec (.fieldSend t i) s = ok (p.2.setSends (p.2.coll.sends ++ [p.1]))))) ∧
  (∀ (s : State) (f : FieldMap) (src len stamp origin k : Nat), k < (len + 65535) / 65536 →
    ((s.fieldChunks f src len stamp origin)[k]?).map (·.msg) = some (chunkMsg 1 f.destTerrace 0 0 f.destSlot stamp 0 k
      (min 65536 (len - 65536 * k)) origin (s.readBytes (src + 65536 * k) (min 65536 (len - 65536 * k)) ++
        natLE ((min 65536 (len - 65536 * k) + 63) / 64) (maskOf ((List.range (min 65536 (len - 65536 * k) / 8)).filter
          (fun j => s.poisonAt (src + 65536 * k + 8 * j))))))) ∧
  (∀ (s : State) (f : FieldMap) (src len stamp origin : Nat),
    (s.fieldChunks f src len stamp origin).length = (len + 65535) / 65536) ∧
  (∀ (node : Fin 32768) (addr : Fin 281474976710656) (last : Bool) (p : Bytes) (s v w : State) (t slot u k n key : Nat)
    (held : Bool) (kept : List FieldRx) (rx rx' : FieldRx), fld p 0 1 = 1 → t = fld p 1 1 % 16 → slot = fld p 3 1 % 64 →
    u = fld p 4 5 → k = fld p 12 4 → n = fld p 16 4 % 2 ^ 19 →
    ((u + 1 < s.rd (F.SCHED_STEP_STEP t) ∨ s.rd (F.SCHED_STEP_STEP t) + 1 < u) →
      exec (.fieldChunkArrival node addr last p) s =
        ok (forEach (s.members t) s (fun t x => x.ev (F.SCHED_EVENTS_FIELD_STALE t)))) ∧
    (s.rd (F.SCHED_STEP_STEP t) ≤ u + 1 → u ≤ s.rd (F.SCHED_STEP_STEP t) + 1 → s.homeStatus addr n true ≠ St.ok →
      exec (.fieldChunkArrival node addr last p) s = ok (s.noteCtx addr n)) ∧
    (s.rd (F.SCHED_STEP_STEP t) ≤ u + 1 → u ≤ s.rd (F.SCHED_STEP_STEP t) + 1 → s.homeStatus addr n true = St.ok →
      held = (s.flag (F.SCHED_FIELD_VALID t slot (u % 3)) && s.rd (F.SCHED_FIELD_STEP t slot (u % 3)) == u) →
      key = node.val + 2 ^ 15 * (addr - 0x10000 * k) → v = forEach (s.members t) s (fun t x => x.fieldEntry t slot u) →
      kept = v.coll.fields.filter (fun f => !(f.terr == t && (f.stamp + 3 ≤ u ||
        (f.slot == slot && f.stamp % 3 == u % 3 && (f.stamp != u || !held))))) →
      rx = ((kept.find? (fun f => f.terr == t && f.slot == slot && f.stamp == u && f.key == key)).getD
        ⟨t, slot, u, key, [], none, []⟩) →
      w = v.writeCells addr ((List.range n).map (fun j => ((sub p 32 n).getD j 0, bit (fld p (32 + n) ((n + 63) / 64)) (j / 8)))) →
      ∀ (put : FieldRx → State → State), (∀ (x : FieldRx) (y : State), put x y = y.setFields
        (kept.filter (fun f => !(f.terr == t && f.slot == slot && f.stamp == u && f.key == key)) ++ [x])) →
      ∀ ack : State → State, (∀ x : State, ack x = x.sendLive .collective node [t] (chunkReply p 3 (fld p 20 3 % 2 ^ 17))) →
      (rx.got.contains k = true → chunkOk p = true → exec (.fieldChunkArrival node addr last p) s = ok (ack v)) ∧
      (rx.got.contains k = true → chunkOk p = false → exec (.fieldChunkArrival node addr last p) s = ok v) ∧
      (rx.got.contains k = false → chunkOk p = true →
        rx' = { rx with got := sinsert rx.got k, total := if last then some (k + 1) else rx.total } →
        ∀ z : State, z = put rx' ((ack w).noteArrival (chunkSource node) addr 0 (sub p 32 n)) →
        (rx'.total ≠ some rx'.got.length → exec (.fieldChunkArrival node addr last p) s = ok z) ∧
        (rx'.total = some rx'.got.length → exec (.fieldChunkArrival node addr last p) s = ok (forEach (s.members t)
          (forEach (s.members t) z (fun t x => x.inc (F.SCHED_FIELD_COUNT t slot (u % 3)))) (fun t x => x.testFields t)))) ∧
      (rx.got.contains k = false → chunkOk p = false → ∀ z : State,
        z = put { rx with fails := mput rx.fails k (mget rx.fails k 0 + 1) }
          (w.sendLive .collective node [t] (chunkReply p 5 (fld p 20 3 % 2 ^ 17))) →
        (mget rx.fails k 0 < 3 → exec (.fieldChunkArrival node addr last p) s = ok z) ∧
        (3 ≤ mget rx.fails k 0 → exec (.fieldChunkArrival node addr last p) s = ok (forEach (s.members t)
          ((forEach (s.members t) z (fun t x => x.ev (F.SCHED_FIELD_FAILED t slot (u % 3)))).ev F.COLL_EVENTS_UNRECOVERABLE)
          (fun t x => x.testFields t)))))) ∧
  (∀ (node : Fin 32768) (addr : Fin 281474976710656) (last : Bool) (p : Bytes) (s : State), fld p 0 1 ≠ 1 →
    exec (.fieldChunkArrival node addr last p) s = ok s)

/-- END_STEP ends the step once every other entry has completed and it may itself start, or its counter is FAILED: it completes
with OK and publishes the step digest, or with the failure's status and no digest; the step's summary is written, and a terrace
that overran starts its next step late or skips the steps passed. While an entry is not done it waits. A pair ends together; it
diverges when its statuses or its digests differ. -/
def Obligations.EndOfStep : Prop :=
  (∀ (t : Fin 16) (i : Fin 4096) (s : State), s.sealed = false → s.stepDone t i = true →
    exec (.endStep t i) s = ok (s.finishStep t i)) ∧
  (∀ (t : Fin 16) (i : Fin 4096) (s u : State) (statuses : Nat → List Nat), s.sealed = true →
    s.stepDone (t.val % 8) i = true → s.stepDone (t.val % 8 + 8) i = true →
    (∀ k, statuses k = (List.range i).map (fun j => (s.es k j).status)) →
    (statuses (t.val % 8) ≠ statuses (t.val % 8 + 8) → u = s.diverge (t.val % 8) 3 0 0) →
    (statuses (t.val % 8) = statuses (t.val % 8 + 8) → s.stepDigest (t.val % 8) ≠ s.stepDigest (t.val % 8 + 8) →
      u = s.diverge (t.val % 8) 4 0 0) →
    (statuses (t.val % 8) = statuses (t.val % 8 + 8) → s.stepDigest (t.val % 8) = s.stepDigest (t.val % 8 + 8) → u = s) →
    u.sealed = true → exec (.endStep t i) s = ok ((u.finishStep (t.val % 8) i).finishStep (t.val % 8 + 8) i)) ∧
  (∀ (t : Fin 16) (i : Fin 4096) (s : State), (∃ k ∈ s.members t, s.stepDone k i = false) → exec (.endStep t i) s = ok s) ∧
  (∀ (s : State) (t i : Nat), s.stepDone t i = true → ∀ j < i, (s.es t j).phase = .done) ∧
  (∀ (s : State) (t i : Nat) (e : Entry), s.entry t i = some e →
    (s.endFailed t i = true → s.endStep t i = (propagate 65536 (s.endEntry t i (s.waitSource t i e).1 true
      (s.waitSource t i e).2 (decide (t < 8) || !s.sealed)), [])) ∧
    (s.endFailed t i = false → s.endStep t i = (propagate 65536 ((forEach [0, 1, 2, 3] (s.startEntry t i) (fun w v =>
      v.wr (F.SCHED_LAST_DIGEST_BYTES t w) (fld (s.stepDigest t) (8 * w) 8))).endEntry t i St.ok false i
      (decide (t < 8) || !s.sealed)), s.stepDigest t))) ∧
  (∀ (s u v : State) (t i step : Nat) (d : Bytes), s.endStep t i = (u, d) → step = s.rd (F.SCHED_STEP_STEP t) →
    v = u.outcome t 0xFFFF 0 1 (if (u.tr t).firstFail = 0 then St.ok else (u.tr t).firstFail) 0 ((u.tr t).failCount % 2 ^ 16 +
      2 ^ 16 * b2n (u.tr t).unusable + 2 ^ 17 * b2n (u.tr t).lateStart) d →
    ∀ w : State, w = (v.setTr t { v.tr t with inStep := false, ranStep := some step }).wr (F.SCHED_STATUS_OVERRUNNING t) 0 →
    (w.step = step → s.finishStep t i = w) ∧
    (w.step = step + 1 → s.finishStep t i = (w.startStep t (step + 1) true).firePassed t) ∧
    (w.step ≠ step → w.step ≠ step + 1 → s.finishStep t i = forEach ((List.range (w.step - step)).map (fun k => step + 1 + k)) w
      (fun k x => x.skipStep t k St.deadlineMissed)))

/-- SCHEDULE_LOAD checks every image before it writes any bank: with all good, the inactive banks of the terraces, and of their
twins in the Sealed profile, hold them and the record carries the digest of their digests; else it completes with the deciding
failure and writes no bank; an empty mask is BAD_PARAM and an armed terrace BUSY. SCHEDULE_ARM arms a valid inactive bank
for the first boundary at least 10 µs away, disarms, or resumes a halted terrace; it is BUSY where a swap is armed, or too near to
disarm, and BAD_PARAM where no inactive bank is valid. -/
def Obligations.SchedulesLoadAndArm : Prop :=
  (∀ (s u : State) (q : Sub), s.takes q Op.scheduleLoad u →
    (q.p 0 2 = 0 ∨ (u.sealed = true ∧ 256 ≤ q.p 0 2) → exec .scheduleLoad s = ok (u.refuse q St.badParam)) ∧
    (q.p 0 2 ≠ 0 → (u.sealed = true → q.p 0 2 < 256) →
      (u.rd F.NODE_PROFILE_SWITCHING = 1 ∨ u.armedIn (q.p 0 2) = true ∨ u.ckpt.shrink ≠ none →
        exec .scheduleLoad s = ok (u.refuse q St.busy)) ∧
      (u.rd F.NODE_PROFILE_SWITCHING = 0 → u.armedIn (q.p 0 2) = false → u.ckpt.shrink = none →
        (u.backed (q.p 8 8) 128 = false →
          exec .scheduleLoad s = ok (u.longNow q St.badParam ((terraces (q.p 0 2)).headD 0) [])) ∧
        (u.backed (q.p 8 8) 128 = true → u.poisoned (q.p 8 8) 128 = true → exec .scheduleLoad s = ok (u.longNow q
          St.poisonConsumed (failDetail (4, St.poisonConsumed, (terraces (q.p 0 2)).headD 0, 0, 0)) [])) ∧
        (u.backed (q.p 8 8) 128 = true → u.poisoned (q.p 8 8) 128 = false → ∀ checked : List (ImgFail ⊕ Bank),
          checked = (terraces (q.p 0 2)).map (fun t => u.imgCheck t (u.readNat (q.p 8 8 + 8 * t) 8) u.admitted) →
          (∀ f : ImgFail, worstFail checked = some f →
            exec .scheduleLoad s = ok ((u.noteExact f.2.1).longNow q f.2.1 (failDetail f) [])) ∧
          (∀ banks : List Bank, checked = banks.map Sum.inr → exec .scheduleLoad s =
            ok ((banks.foldl (fun v b => forEach (u.members b.header.terrace) v (fun t x => x.writeInactive t b)) u).longNow q
              St.ok 0 (sha3_256 (banks.flatMap (·.header.digest))))))))) ∧
  (∀ (s u : State) (q : Sub) (c : Instr) (k : Nat), s.takes q Op.scheduleArm u → q.p 2 1 = k →
    (c, k) ∈ [(Instr.scheduleArm, 0), (.scheduleDisarm, 1), (.scheduleResume, 2)] →
    (q.p 0 2 = 0 ∨ (u.sealed = true ∧ 256 ≤ q.p 0 2) → exec c s = ok (u.short q St.badParam [])) ∧
    (q.p 0 2 ≠ 0 → (u.sealed = true → q.p 0 2 < 256) → u.ckpt.shrink ≠ none → exec c s = ok (u.short q St.busy []))) ∧
  (∀ (s u : State) (q : Sub), s.takes q Op.scheduleArm u → q.p 0 2 ≠ 0 → (u.sealed = true → q.p 0 2 < 256) →
    u.ckpt.shrink = none →
    (q.p 2 1 = 0 → (∃ t ∈ u.named (q.p 0 2), u.rd (F.SCHED_STATUS_ARMED t) = 1) →
      exec .scheduleArm s = ok (u.short q St.busy [])) ∧
    (q.p 2 1 = 0 → (∀ t ∈ u.named (q.p 0 2), u.rd (F.SCHED_STATUS_ARMED t) = 0) →
      (∃ t ∈ u.named (q.p 0 2), u.rd (F.SCHED_STATUS_INACTIVE_VALID t) = 0) →
      exec .scheduleArm s = ok (u.short q St.badParam [])) ∧
    (q.p 2 1 = 0 → (∀ t ∈ u.named (q.p 0 2), u.rd (F.SCHED_STATUS_ARMED t) = 0 ∧
        u.rd (F.SCHED_STATUS_INACTIVE_VALID t) = 1) →
      exec .scheduleArm s = ok ((forEach (u.named (q.p 0 2)) u (fun t v => (v.wr (F.SCHED_STATUS_ARMED t) 1).wr
        (F.SCHED_ARM_STEP_STEP t) u.boundStep)).short q St.ok (natLE 8 u.boundStep))) ∧
    (q.p 2 1 = 1 → (∃ t ∈ u.named (q.p 0 2), u.rd (F.SCHED_STATUS_ARMED t) = 1 ∧
        u.tooLate (u.rd (F.SCHED_ARM_STEP_STEP t)) = true) → exec .scheduleDisarm s = ok (u.short q St.busy [])) ∧
    (q.p 2 1 = 1 → (∀ t ∈ u.named (q.p 0 2), u.rd (F.SCHED_STATUS_ARMED t) = 0 ∨
        u.tooLate (u.rd (F.SCHED_ARM_STEP_STEP t)) = false) →
      exec .scheduleDisarm s = ok ((forEach (u.named (q.p 0 2)) u (fun t v => v.wr (F.SCHED_STATUS_ARMED t) 0)).short q St.ok
        (natLE 8 u.boundStep))) ∧
    (q.p 2 1 = 2 → exec .scheduleResume s = ok ((forEach (u.named (q.p 0 2)) u (fun t v =>
      if v.rd (F.SCHED_STATUS_STATE t) == 2 then v.setTr t { v.tr t with resumeStep := some u.boundStep } else v)).short q
      St.ok (natLE 8 u.boundStep)))) ∧
  (∀ s : State, s.now + s.nsToPhase 10000 ≤ 2 ^ 24 * s.boundStep ∧ 2 ^ 24 * s.boundStep < s.now + s.nsToPhase 10000 + 2 ^ 24)

/-! ## Control registers (chapter 0, R8–R10, R22) -/

/-- What a register holds after a write, field by field: read-write bits take the written bits of the mask, write-one-to-clear
bits fall where a one is written, read-only and write-only fields and reserved bits keep what they held. -/
def Obligations.RegisterFieldsObeyTheirAccessTypes : Prop :=
  ∀ (a v m old : Nat) (lo w : Nat) (acc : Access), (lo, w, acc) ∈ fieldsAt a →
    bits (storeReg a v m old) lo w =
      (match acc with
       | .rw => (bits old lo w &&& (2 ^ w - 1 - bits m lo w)) ||| (bits v lo w &&& bits m lo w)
       | .w1c => bits old lo w &&& (2 ^ w - 1 - (bits v lo w &&& bits m lo w))
       | .ro => bits old lo w
       | .wo => bits old lo w)

/-- A write of 4 or 8 aligned bytes to a control register of a block that exists stores it; any other access to the control region,
or one to a failed node, does nothing. Enabling a ring clears its indices; freeing records of a command ring releases the records
that waited; OFF_REQ, the dead bound and the scrub period are kept in range, and OFF_REQ acts on every terrace not in use. -/
def Obligations.ControlRegisterWrites : Prop :=
  (∀ (a : BitVec 48) (wide : Bool) (v : BitVec 64) (s : State), s.alive = true → isControl a.toNat = true →
    a.toNat % (if wide then 8 else 4) = 0 → reservedBlock a.toNat = false →
    exec (.registerWrite a wide v) s = ok (s.controlWrite a.toNat (if wide then 8 else 4) v.toNat)) ∧
  (∀ (a : BitVec 48) (wide : Bool) (v : BitVec 64) (s : State), s.alive = false ∨ isControl a.toNat = false ∨
    a.toNat % (if wide then 8 else 4) ≠ 0 ∨ reservedBlock a.toNat = true → exec (.registerWrite a wide v) s = ok s) ∧
  (∀ (t : Fin 16) (v : BitVec 64) (s : State), s.alive = true → v.toNat.testBit 8 = true →
    Does (.schedRingCtrlWrite t v) s (fun u => u.rd (F.SCHED_RING_HEAD_INDEX t) = 0 ∧ u.rd (F.SCHED_RING_TAIL_INDEX t) = 0 ∧
      u.rd (F.SCHED_RING_CTRL_ENABLE t) = 1 ∧ u.rd (F.SCHED_RING_CTRL_LOG2_RECORDS t) = v.toNat % 32 ∧ s.keepsMem u ∧
      s.keepsRegs u [R.SCHED_RING_CTRL t, R.SCHED_RING_HEAD t, R.SCHED_RING_TAIL t])) ∧
  (∀ (t : Fin 16) (v : BitVec 64) (s : State), s.alive = true → v.toNat.testBit 8 = false →
    Does (.schedRingCtrlWrite t v) s (fun u => u.rd (F.SCHED_RING_CTRL_ENABLE t) = 0 ∧ s.keepsMem u ∧
      s.keepsRegs u [R.SCHED_RING_CTRL t])) ∧
  (∀ (off : BitVec 16) (s : State), s.alive = true →
    exec (.nodeTerracePwrWrite off) s = ok (s.wr F.NODE_TERRACE_PWR_OFF_REQ off.toNat).offRequest) ∧
  (∀ s : State, s.ready = true → s.offRequest = forEach (List.range 16) s (fun t u =>
    if u.inUse t = true ∨ u.resetting t = true then u else u.settlePower t)) ∧
  (∀ (c : Fin 16) (v : BitVec 64) (s : State), s.alive = true →
    exec (.nodeCmdRingCtrlWrite c v) s = ok (((s.plainStore (R.NODE_CMD_RING_CTRL c) v.toNat (2 ^ 64 - 1)).ringEnable
      (v.toNat.testBit 8) (R.NODE_CMD_RING_HEAD c) (R.NODE_CMD_RING_TAIL c)).flushRing c)) ∧
  (∀ (c : Fin 16) (tail : BitVec 32) (s : State), s.alive = true →
    exec (.nodeCmdRingTailWrite c tail) s = ok ((s.plainStore (R.NODE_CMD_RING_TAIL c) tail.toNat (2 ^ 64 - 1)).flushRing c)) ∧
  (∀ (us : Fin 256) (s : State), Does (.fabDeadBoundWrite us) s (fun u =>
    u.rd F.FAB_DEAD_BOUND_BOUND_US = min (max us.val 4) 250 ∧ s.keepsRegs u [R.FAB_DEAD_BOUND] ∧
    u = { s with regs := u.regs, fresh := s.fresh + 1 })) ∧
  (∀ (enable : Bool) (period : Fin 256) (s : State), Does (.memScrubWrite enable period) s (fun u =>
    u.rd F.MEM_SCRUB_ENABLE = b2n enable ∧ u.rd F.MEM_SCRUB_PERIOD_H = max 1 period.val ∧ s.keepsRegs u [R.MEM_SCRUB] ∧
    u = { s with regs := u.regs, fresh := s.fresh + 1 }))

/-! ## The spire (chapter 5) -/

/-- What the end of an instruction does: its result is in rd unless rd is x0, which stays zero, the pc is four bytes on, and no
other register, no other spire and nothing outside the spires has changed. A core that does not run executes none of the rows
of chapter 5's instructions: the state stays. -/
def Obligations.SpireInstructionsCompleteOrDoNothing : Prop :=
  (∀ (s : State) (n rd r : Nat) (v : Word), rd ≠ 0 → r ≠ rd →
    (((s.coreNext n rd v).sp n).xr rd = v ∧ ((s.coreNext n rd v).sp n).xr r = (s.sp n).xr r)) ∧
  (∀ (s : State) (n r : Nat) (v : Word), ((s.coreNext n 0 v).sp n).xr r = (s.sp n).xr r ∧ ((s.sp n).xr 0 = 0)) ∧
  (∀ (s : State) (n rd : Nat) (v : Word), ((s.coreNext n rd v).sp n).pc = (s.sp n).pc + 4 ∧
    (s.coreNext n rd v) = { s with spires := (s.coreNext n rd v).spires } ∧
    (∀ k, k ≠ n → (s.coreNext n rd v).sp k = s.sp k)) ∧
  (∀ (n : Fin 288) (s : State) (rd rs1 rs2 : Fin 32) (mover store wide sgn imm : Bool) (now : Nat) (size : Fin 4)
    (off : Fin 4096) (op : AmoOp) (csr : Fin 4096) (k res mres : Fin 3) (ecc : EccFind) (pred succ : Fin 16),
    s.coreRuns n = false →
    exec (.spTq n rs1) s = ok s ∧ exec (.spMq n rs1) s = ok s ∧ exec (.spWait n mover rd rs1) s = ok s ∧
    exec (.spTime n rd now) s = ok s ∧ exec (.spTwait n rs1) s = ok s ∧ exec (.spAmax n rd rs1) s = ok s ∧
    exec (.spAmaxx n rd rs1) s = ok s ∧ exec (.spEnd n rs1) s = ok s ∧
    exec (.spireLoadStore n store size sgn rd rs1 rs2 off res ecc) s = ok s ∧
    exec (.spireAmo n op wide rd rs1 rs2 res mres ecc) s = ok s ∧
    exec (.spireFence n pred succ) s = ok s ∧ exec (.spireFenceI n) s = ok s ∧
    exec (.spireCsrAccess n k imm csr rd rs1) s = ok s)

/-- The vendor instructions of a running core. SP.TQ and SP.MQ wait to issue their descriptor, which is queued once no entry holds
the engine and its queue has room; one that finds the engine held raises OWNER_STALL. SP.WAIT goes on when enough have
completed, with the first failure's status in rd, and waits otherwise. SP.TIME gives step time in the Rate profile and is an
illegal instruction with EXACT_VIOL elsewhere. SP.TWAIT goes on when its target has passed and waits otherwise, until step
time reaches it. SP.AMAX reads a slot and SP.AMAXX clears it as well. SP.END ends the part; with a value in rs1 not 0 it fails
it, and records cause 0xFF, the pc and the value. A Dome write replaces an amax slot, and an update of the same cycle lands
after it. (State.coreDone flushes the Weir's puts of a core that has stopped.) -/
def Obligations.SpireVendorInstructions : Prop :=
  (∀ (n : Fin 288) (rs1 : Fin 32) (s u : State), s.coreRuns n = true →
    u = (if s.engineHeld n false = true then s.ev (F.SPIRE_EVENTS_OWNER_STALL n) else s) →
    exec (.spTq n rs1) s = ok ((((u.coreWait n (.tq ((s.sp n).xr rs1).toNat)).retryIssue n).takeTensors n).coreDone n)) ∧
  (∀ (n : Fin 288) (rs1 : Fin 32) (s u : State), s.coreRuns n = true →
    u = (if s.engineHeld n true = true then s.ev (F.SPIRE_EVENTS_OWNER_STALL n) else s) →
    exec (.spMq n rs1) s = ok ((((u.coreWait n (.mq ((s.sp n).xr rs1).toNat)).retryIssue n).takeMovers n).coreDone n)) ∧
  (∀ (s : State) (n a : Nat) (mover : Bool), (s.sp n).wait = (if mover then .mq a else .tq a) →
    (s.engineHeld n mover = false → s.queueFull n mover = false → s.retryIssue n =
      ((s.setSp n { s.sp n with wait := .none, pc := (s.sp n).pc + 4 }).setCore n 1).pushDesc n mover a none none) ∧
    (s.engineHeld n mover = true ∨ s.queueFull n mover = true → s.retryIssue n = s)) ∧
  (∀ (n : Fin 288) (mover : Bool) (rd rs1 : Fin 32) (s : State), s.coreRuns n = true →
    ((s.sp n).xr rs1).toNat ≤ (if mover then (s.sp n).doneM else (s.sp n).doneT) →
    Does (.spWait n mover rd rs1) s (fun t => (rd ≠ 0 → (t.sp n).xr rd = BitVec.ofNat 64
      (if mover then (s.sp n).failM else (s.sp n).failT)) ∧ (t.sp n).pc = (s.sp n).pc + 4 ∧ (t.sp n).wait = .none ∧
      t.coreRuns n = true ∧ s.keepsMem t ∧ s.keepsRegs t [R.SPIRE_STATUS n])) ∧
  (∀ (n : Fin 288) (mover : Bool) (rd rs1 : Fin 32) (s : State), s.coreRuns n = true →
    (if mover then (s.sp n).doneM else (s.sp n).doneT) < ((s.sp n).xr rs1).toNat →
    Does (.spWait n mover rd rs1) s (fun t => (t.sp n).wait = .wait mover ((s.sp n).xr rs1).toNat rd ∧
      (t.sp n).pc = (s.sp n).pc ∧ t.coreRuns n = false ∧ s.keepsMem t ∧ s.keepsRegs t [R.SPIRE_STATUS n])) ∧
  (∀ (n : Fin 288) (rd : Fin 32) (now : Nat) (s u : State), s.coreRuns n = true → s.profile = 0 → s.reach now = some u →
    exec (.spTime n rd now) s = ok (u.coreNext n rd (BitVec.ofNat 64 u.now))) ∧
  (∀ (n : Fin 288) (rd : Fin 32) (now : Nat) (s : State), s.coreRuns n = true → s.profile ≠ 0 →
    exec (.spTime n rd now) s = ok ((s.exactRefused n).coreDone n)) ∧
  (∀ (n : Fin 288) (rs1 : Fin 32) (s : State), s.coreRuns n = true → ((s.sp n).xr rs1).toNat ≤ s.now →
    exec (.spTwait n rs1) s = ok (s.coreNext n 0 0)) ∧
  (∀ (n : Fin 288) (rs1 : Fin 32) (s : State), s.coreRuns n = true → s.now < ((s.sp n).xr rs1).toNat →
    exec (.spTwait n rs1) s = ok (s.coreWait n (.twait ((s.sp n).xr rs1).toNat))) ∧
  (∀ (n : Fin 288) (t : Nat) (s u : State), (s.sp n).wait = .twait t → s.reach t = some u →
    exec (.spTwaitExpiry n) s = ok (((u.setSp n { u.sp n with wait := .none }).setCore n 1).coreNext n 0 0)) ∧
  (∀ (n : Fin 288) (rd rs1 : Fin 32) (s : State), s.coreRuns n = true →
    exec (.spAmax n rd rs1) s = ok (s.coreNext n rd (BitVec.ofNat 64
      (s.rdReg (R.SPIRE_AMAX n (((s.sp n).xr rs1).toNat % 64)))))) ∧
  (∀ (n : Fin 288) (rd rs1 : Fin 32) (s : State), s.coreRuns n = true →
    exec (.spAmaxx n rd rs1) s = ok ((s.wrReg (R.SPIRE_AMAX n (((s.sp n).xr rs1).toNat % 64)) 0).coreNext n rd
      (BitVec.ofNat 64 (s.rdReg (R.SPIRE_AMAX n (((s.sp n).xr rs1).toNat % 64)))))) ∧
  (∀ (n : Fin 288) (rs1 : Fin 32) (s : State), s.coreRuns n = true → (s.sp n).xr rs1 = 0 →
    exec (.spEnd n rs1) s = ok ((((s.setSp n { s.sp n with ended := true }).setCore n 0).corePart n).coreDone n)) ∧
  (∀ (n : Fin 288) (rs1 : Fin 32) (s u v : State), s.coreRuns n = true → (s.sp n).xr rs1 ≠ 0 →
    u = (s.wr (F.SPIRE_FAULT_INFO_CAUSE n) 0xFF).partFails n 0 St.spireFault →
    v = ((u.wr (F.SPIRE_FAULT_INFO_STATUS n) (u.sp n).partStatus).wrReg (R.SPIRE_FAULT_PC n) (s.sp n).pc.toNat).wrReg
      (R.SPIRE_FAULT_TVAL n) ((s.sp n).xr rs1).toNat →
    exec (.spEnd n rs1) s = ok ((((v.setSp n { v.sp n with ended := true }).setCore n 0).corePart n).coreDone n)) ∧
  (∀ (n : Fin 288) (slot : Fin 64) (v : Word) (s : State), Does (.spireAmaxWrite n slot v none) s (fun t =>
    t.rdReg (R.SPIRE_AMAX n slot) = v.toNat ∧ s.keepsRegs t [R.SPIRE_AMAX n slot] ∧ s.keepsMem t)) ∧
  (∀ (n : Fin 288) (slot : Fin 64) (v : Word) (x : BitVec 32) (sat : Bool) (s : State),
    exec (.spireAmaxWrite n slot v (some (x, sat))) s =
      ok ((s.wrReg (R.SPIRE_AMAX n slot) v.toNat).amaxUpdate n slot (some (fmtFP32.decode x.toNat)) sat))

/-- Loads, stores and atomics of a running core. At this node, where the ECC finds nothing: a load of clean backed memory puts the
value, sign- or zero-extended, in rd; a store writes its bytes (unpaired); an AMO reads and updates at home, and one without
rd that swaps stores; LR holds a reservation that SC consumes; poison raises mcause 19. A refused access is an access fault;
a misaligned AMO raises address-misaligned, but an access fault in the control region. To another node: a load or a
fetching AMO waits for its request, a store or post operation goes on, a misaligned access and LR or SC trap. With its engine
full the core stalls. An AMO marked V is illegal outside the Rate profile. In the Sealed profile a residue that mismatches
again raises mcause 19 with no other effect, and one that matches is counted (R422; that mtval is open is the model's reading,
log entry 91). -/
def Obligations.SpireMemoryInstructions : Prop :=
  (∀ (n : Fin 288) (size : Fin 4) (sgn : Bool) (rd rs1 rs2 : Fin 32) (imm : Fin 4096) (res : Fin 3) (s : State) (a : Nat)
    (t : Target) (st : Nat), s.coreRuns n = true → (s.sealed = false ∨ res = 0) →
    a = ((s.sp n).xr rs1 + BitVec.ofNat 64 (sext64 12 imm)).toNat → s.coreTarget a (2 ^ size.val) false = (t, st) →
    (t.remote = false → st = St.ok → s.check.twins = [] →
      exec (.spireLoadStore n false size sgn rd rs1 rs2 imm res .clean) s = ok
        ((if s.poisoned t.loc (2 ^ size.val) then s.coreTrap n Cause.hardware 0 a
          else s.coreNext n rd (loadValue (2 ^ size.val) sgn (s.readNat t.loc (2 ^ size.val)))).coreDone n)) ∧
    (t.remote = false → st ≠ St.ok → ∀ ecc, exec (.spireLoadStore n false size sgn rd rs1 rs2 imm res ecc) s =
      ok ((s.coreRefuse n a (2 ^ size.val) t st false (.core n rd (2 ^ size.val) sgn false)).coreDone n)) ∧
    (t.remote = true → a % 2 ^ size.val = 0 → s.stalls (spireEngine n) t = false → ∀ ecc,
      exec (.spireLoadStore n false size sgn rd rs1 rs2 imm res ecc) s = ok (((s.coreWait n .remote).remoteLoad
        (spireEngine n) (2 ^ size.val) t 0 (.core n rd (2 ^ size.val) sgn false)).coreDone n)) ∧
    (t.remote = true → a % 2 ^ size.val ≠ 0 → ∀ ecc, exec (.spireLoadStore n false size sgn rd rs1 rs2 imm res ecc) s =
      ok ((s.coreTrap n Cause.loadMisaligned 0 a).coreDone n))) ∧
  (∀ (n : Fin 288) (size : Fin 4) (sgn : Bool) (rd rs1 rs2 : Fin 32) (imm : Fin 4096) (res : Fin 3) (s : State) (a : Nat)
    (t : Target) (st : Nat) (cs : List (Byte × Bool)), s.coreRuns n = true → (s.sealed = false ∨ res = 0) →
    a = ((s.sp n).xr rs1 + BitVec.ofNat 64 (sext64 12 imm)).toNat → s.coreTarget a (2 ^ size.val) true = (t, st) →
    cs = (natLE (2 ^ size.val) ((s.sp n).xr rs2).toNat).map (fun b => (b, false)) →
    (t.remote = false → st = St.ok → s.sealed = false →
      exec (.spireLoadStore n true size sgn rd rs1 rs2 imm res .clean) s = ok ((s.writeCells t.loc cs).coreNext n 0 0)) ∧
    (∀ l, t = .here l → st ≠ St.ok → ∀ ecc, exec (.spireLoadStore n true size sgn rd rs1 rs2 imm res ecc) s =
      ok (((s.noteCtx l (2 ^ size.val)).coreTrap n Cause.store 0 a).coreDone n)) ∧
    (t.remote = true → a % 2 ^ size.val = 0 → s.stalls (spireEngine n) t = false → s.weirTraps t = false → ∀ ecc,
      exec (.spireLoadStore n true size sgn rd rs1 rs2 imm res ecc) s = ok (((s.coreNext n 0 0).remoteStore
        (spireEngine n) t 0 cs (.corePost n (s.sp n).entry)).coreDone n)) ∧
    (t.remote = true → a % 2 ^ size.val ≠ 0 → ∀ ecc, exec (.spireLoadStore n true size sgn rd rs1 rs2 imm res ecc) s =
      ok ((s.coreTrap n Cause.storeMisaligned 0 a).coreDone n)) ∧
    (t.remote = true → a % 2 ^ size.val = 0 → s.stalls (spireEngine n) t = true → ∀ store ecc,
      exec (.spireLoadStore n store size sgn rd rs1 rs2 imm res ecc) s = ok s)) ∧
  (∀ (s : State) (n a l size st : Nat) (w : Waiter), s.coreRefuse n a size (.here l) st false w =
    (s.noteRefl l size).coreTrap n Cause.load 0 a) ∧
  (∀ (n : Fin 288) (op : AmoOp) (wide : Bool) (rd rs1 rs2 : Fin 32) (res mres : Fin 3) (ecc : EccFind) (s : State)
    (a size : Nat) (t : Target) (st : Nat), s.coreRuns n = true → (s.sealed = false ∨ res = 0) →
    (s.profile = 0 ∨ amoV op rd = false) → a = ((s.sp n).xr rs1).toNat → size = (if wide then 8 else 4) →
    s.coreTarget a size (op != .lr) = (t, st) →
    (a % size ≠ 0 → t.remote = false → isControl t.loc = true ∨ isCommandPort t.loc = true →
      exec (.spireAmo n op wide rd rs1 rs2 res mres ecc) s =
        ok ((s.coreTrap n (if op = .lr then Cause.load else Cause.store) 0 a).coreDone n)) ∧
    (a % size ≠ 0 → t.remote = true ∨ isControl t.loc = false ∧ isCommandPort t.loc = false →
      exec (.spireAmo n op wide rd rs1 rs2 res mres ecc) s =
        ok ((s.coreTrap n (if op = .lr then Cause.loadMisaligned else Cause.storeMisaligned) 0 a).coreDone n)) ∧
    (a % size = 0 → t.remote = true → op = .lr ∨ op = .sc → exec (.spireAmo n op wide rd rs1 rs2 res mres ecc) s =
      ok ((s.coreTrap n (if op = .lr then Cause.load else Cause.store) 0 a).coreDone n)) ∧
    (a % size = 0 → t.remote = true → op ≠ .lr → op ≠ .sc → rd ≠ 0 → s.stalls (spireEngine n) t = false →
      exec (.spireAmo n op wide rd rs1 rs2 res mres ecc) s = ok (((s.coreWait n .remote).remoteMop (spireEngine n) t
        (mopCode (amoMop op) (b2n wide) true false) (natLE size ((s.sp n).xr rs2).toNat)
        (.core n rd size true true)).coreDone n)) ∧
    (a % size = 0 → t.remote = false → st = St.ok → op ≠ .lr → op ≠ .sc → ¬(op = .swap ∧ rd = 0) →
      s.sealed = false ∨ isScratch t.loc = true → ecc = .clean → exec (.spireAmo n op wide rd rs1 rs2 res mres ecc) s =
      ok ((s.coreMop n rd a size (mopCode (amoMop op) (b2n wide) (rd.val != 0) false) ((s.sp n).xr rs2).toNat t
        (if mres.val = 1 then 1 else 0) (if mres.val = 2 then [0] else [])).coreDone n)) ∧
    (a % size = 0 → op = .swap → rd = 0 → ecc = .clean → exec (.spireAmo n op wide rd rs1 rs2 res mres ecc) s =
      ok ((s.coreStore n a size ((s.sp n).xr rs2)).coreDone n)) ∧
    (a % size = 0 → t.remote = false → st = St.ok → op = .lr → ecc = .clean →
      exec (.spireAmo n op wide rd rs1 rs2 res mres ecc) s = ok ((if s.poisoned t.loc size then
        s.coreTrap n Cause.hardware 0 a else ({ s with resv := mput s.resv n (t.loc / 64 * 64) } : State).coreNext n rd
          (loadValue size true (s.readNat t.loc size))).coreDone n)) ∧
    (a % size = 0 → t.remote = false → st = St.ok → op = .sc → ecc = .clean →
      exec (.spireAmo n op wide rd rs1 rs2 res mres ecc) s = ok (s.coreSc n rd size ((s.sp n).xr rs2) t))) ∧
  (∀ (s : State) (n rd size : Nat) (v : Word) (t : Target), mfind s.resv n = some (t.loc / 64 * 64) →
    s.coreSc n rd size v t = (({ s with resv := mdel s.resv n } : State).write t.loc (natLE size v.toNat)).coreNext n rd 0) ∧
  (∀ (s : State) (n rd size : Nat) (v : Word) (t : Target), mfind s.resv n ≠ some (t.loc / 64 * 64) →
    s.coreSc n rd size v t = ({ s with resv := mdel s.resv n } : State).coreNext n rd 1) ∧
  (∀ (n : Fin 288) (op : AmoOp) (wide : Bool) (rd rs1 rs2 : Fin 32) (res mres : Fin 3) (ecc : EccFind) (s : State),
    s.coreRuns n = true → s.profile ≠ 0 → (s.sealed = false ∨ res = 0) → amoV op rd = true →
    exec (.spireAmo n op wide rd rs1 rs2 res mres ecc) s = ok ((s.exactRefused n).coreDone n)) ∧
  (∀ (n : Fin 288) (store wide sgn : Bool) (size : Fin 4) (op : AmoOp) (rd rs1 rs2 : Fin 32) (imm : Fin 4096) (mres : Fin 3)
    (ecc : EccFind) (s u : State), s.coreRuns n = true → s.sealed = true →
    u = ((s.residue F.NODE_CHECK_EVENTS_CORE_RESIDUE 0 1).coreTrap n Cause.hardware 0 (s.free 0 (2 ^ 64))).coreDone n →
    exec (.spireLoadStore n store size sgn rd rs1 rs2 imm 2 ecc) s = ok u ∧
    exec (.spireAmo n op wide rd rs1 rs2 2 mres ecc) s = ok u ∧
    exec (.spireLoadStore n store size sgn rd rs1 rs2 imm 1 ecc) s =
      exec (.spireLoadStore n store size sgn rd rs1 rs2 imm 0 ecc) (s.residue F.NODE_CHECK_EVENTS_CORE_RESIDUE 1 0) ∧
    exec (.spireAmo n op wide rd rs1 rs2 1 mres ecc) s =
      exec (.spireAmo n op wide rd rs1 rs2 0 mres ecc) (s.residue F.NODE_CHECK_EVENTS_CORE_RESIDUE 1 0))

/-- Fences, CSRs and the trap of a core. FENCE with w before flushes the Weir's puts that hold the core's stores and waits for
them; with r after it discards the Weir's read blocks; FENCE.I empties the instruction cache. A CSR instruction returns the
old value and writes, sets or clears bits, with rs1 0 only reads; a CSR the core lacks, or a write to a read-only one, is an
illegal instruction. A trap saves the pc, the cause and the value and goes to mtvec; with mtvec 0 the core stops and records
them. -/
def Obligations.SpireFencesCsrsAndTraps : Prop :=
  (∀ (n : Fin 288) (pred succ : Fin 16) (s u : State), s.coreRuns n = true → bit pred 0 = false →
    u = (if bit succ 1 then s.dropReads else s) → exec (.spireFence n pred succ) s = ok (u.coreNext n 0 0)) ∧
  (∀ (n : Fin 288) (pred succ : Fin 16) (s u : State), s.coreRuns n = true → bit pred 0 = true →
    u = (if bit succ 1 then (s.flushOwned (Waiter.postOf n)).dropReads else s.flushOwned (Waiter.postOf n)) →
    exec (.spireFence n pred succ) s = ok (((u.coreWait n .fence).wakeFence n).coreDone n)) ∧
  (∀ (s : State) (n : Nat), (s.sp n).wait = .fence → (s.postsOut n = true → s.wakeFence n = s) ∧
    (s.postsOut n = false → s.wakeFence n =
      (s.setSp n { s.sp n with wait := .none, pc := (s.sp n).pc + 4 }).setCore n 1)) ∧
  (∀ (n : Fin 288) (s : State), s.coreRuns n = true → Does (.spireFenceI n) s (fun t => (t.sp n).icacheValid = false ∧
    (t.sp n).pc = (s.sp n).pc + 4 ∧ s.keepsMem t ∧ s.keepsRegs t [])) ∧
  (∀ (n : Fin 288) (op : Fin 3) (imm : Bool) (csr : Fin 4096) (rd rs1 : Fin 32) (s : State) (old src : Nat),
    s.coreRuns n = true → s.csrRead n csr = some old → op = 0 ∨ rs1 ≠ 0 →
    src = (if imm then rs1.val else ((s.sp n).xr rs1).toNat) →
    (csr.val / 1024 ≠ 3 → exec (.spireCsrAccess n op imm csr rd rs1) s = ok ((s.csrWrite n csr
      (if op = 0 then src else if op = 1 then old ||| src else old &&& (2 ^ 64 - 1 - src))).coreNext n rd
        (BitVec.ofNat 64 old))) ∧
    (csr.val / 1024 = 3 → exec (.spireCsrAccess n op imm csr rd rs1) s = ok ((s.illegal n).coreDone n))) ∧
  (∀ (n : Fin 288) (op : Fin 3) (imm : Bool) (csr : Fin 4096) (rd : Fin 32) (s : State) (old : Nat), s.coreRuns n = true →
    s.csrRead n csr = some old → op ≠ 0 →
    exec (.spireCsrAccess n op imm csr rd 0) s = ok (s.coreNext n rd (BitVec.ofNat 64 old))) ∧
  (∀ (n : Fin 288) (op : Fin 3) (imm : Bool) (csr : Fin 4096) (rd rs1 : Fin 32) (s : State), s.coreRuns n = true →
    s.csrRead n csr = none → exec (.spireCsrAccess n op imm csr rd rs1) s = ok ((s.illegal n).coreDone n)) ∧
  (∀ (s : State) (n cause unit tval : Nat), (s.sp n).mtvec ≠ 0 → let t := s.coreTrap n cause unit tval
    (t.sp n).mepc = (s.sp n).pc ∧ (t.sp n).mcause = BitVec.ofNat 64 cause ∧ (t.sp n).mtval = BitVec.ofNat 64 tval ∧
    (t.sp n).pc = (s.sp n).mtvec &&& ~~~3#64 ∧ s.keepsMem t ∧ s.keepsRegs t [R.SPIRE_STATUS n]) ∧
  (∀ (s : State) (n cause unit tval : Nat), (s.sp n).mtvec = 0 → (s.sp n).entry = none → cause < 256 →
    let t := s.coreTrap n cause unit tval
    t.rd (F.SPIRE_STATUS_CORE n) = 2 ∧ (t.sp n).mepc = (s.sp n).pc ∧ (t.sp n).ended = true ∧
    bits (t.rdReg (R.SPIRE_FAULT_INFO n)) 0 8 = cause ∧ t.rdReg (R.SPIRE_FAULT_PC n) = (s.sp n).pc.toNat ∧
    t.rd (F.SPIRE_EVENTS_FAULT n) = 1 ∧ s.keepsMem t)

/-! ## The data mover and the tensor engine (chapters 5 and 6) -/

/-- A mover runs the descriptor it holds when it is of the command's kind: the first such command starts the run, what the ECC finds
takes effect, and the run goes on until it waits or is done (State.mvGo); a later one lets it go on. Another kind, or no
descriptor, does nothing. In the Sealed profile the command says what the residues found: recomputes that matched are counted,
and one that mismatched again stops the run at its row or element. A worked descriptor completes once its writes are performed
at home: it is counted for its owner with its status, a failure discards the queue, and the next is taken; one not worked, or
with writes outstanding, does not complete. -/
def Obligations.MoverDescriptorsRunAndComplete : Prop :=
  (∀ (n : Fin 288) (retries : Nat) (stop : Option Nat) (ecc : EccFinds) (s u : State) (r : DescRun),
    (s.sp n).mover = some r → r.worked = false → r.walk.started = false →
    u = (s.eccAll ecc).setWalk n (fun w => { w with started := true, bad := if s.sealed then stop else none }) →
    let v := if s.sealed then u.residue F.NODE_CHECK_EVENTS_MOVER_RESIDUE retries 0 else u
    (mvOp r.desc = 0 → exec (.copy n retries stop ecc) s = ok (v.mvGo n)) ∧
    (mvOp r.desc = 3 → ecc = [] → exec (.fill n retries stop) s = ok (v.mvGo n)) ∧
    (mvOp r.desc = 1 → exec (.gather n retries stop ecc) s = ok (v.mvGo n)) ∧
    (mvOp r.desc = 2 → exec (.scatter n retries stop ecc) s = ok (v.mvGo n))) ∧
  (∀ (n : Fin 288) (retries : Nat) (stop : Option Nat) (ecc : EccFinds) (s : State) (r : DescRun),
    (s.sp n).mover = some r → r.worked = false → r.walk.started = true →
    (mvOp r.desc = 0 → exec (.copy n retries stop ecc) s = ok ((s.eccAll ecc).mvGo n)) ∧
    (mvOp r.desc = 3 → exec (.fill n retries stop) s = ok (s.mvGo n)) ∧
    (mvOp r.desc = 1 → exec (.gather n retries stop ecc) s = ok ((s.eccAll ecc).mvGo n)) ∧
    (mvOp r.desc = 2 → exec (.scatter n retries stop ecc) s = ok ((s.eccAll ecc).mvGo n))) ∧
  (∀ (n : Fin 288) (retries : Nat) (stop : Option Nat) (ecc : EccFinds) (s : State), (s.sp n).mover = none →
    exec (.copy n retries stop ecc) s = ok s ∧ exec (.fill n retries stop) s = ok s ∧
    exec (.gather n retries stop ecc) s = ok s ∧ exec (.scatter n retries stop ecc) s = ok s ∧
    exec (.moverDescriptorComplete n) s = ok s) ∧
  (∀ (n : Fin 288) (retries : Nat) (stop : Option Nat) (ecc : EccFinds) (s : State) (r : DescRun), (s.sp n).mover = some r →
    (r.worked = true ∨ mvOp r.desc ≠ 0 → exec (.copy n retries stop ecc) s = ok s) ∧
    (r.worked = true ∨ mvOp r.desc ≠ 3 → exec (.fill n retries stop) s = ok s) ∧
    (r.worked = true ∨ mvOp r.desc ≠ 1 → exec (.gather n retries stop ecc) s = ok s) ∧
    (r.worked = true ∨ mvOp r.desc ≠ 2 → exec (.scatter n retries stop ecc) s = ok s) ∧
    (r.worked = false ∨ s.unitOut n false = true → exec (.moverDescriptorComplete n) s = ok s)) ∧
  (∀ (n : Fin 288) (s : State) (r : DescRun), (s.sp n).mover = some r → r.worked = true → s.unitOut n false = false →
    (isSuccess r.outcome = true → exec (.moverDescriptorComplete n) s =
      ok ((((s.setSp n { s.sp n with mover := none }).countDesc n true r.owner r.outcome).retryIssue n).takeMovers n)) ∧
    (isSuccess r.outcome = false → exec (.moverDescriptorComplete n) s =
      ok (((((s.setSp n { s.sp n with mover := none }).countDesc n true r.owner r.outcome).discardQueue n true
        r.outcome).retryIssue n).takeMovers n)))

/-- One piece of a mover's run. A row or element whose source and destination lie at this node writes the source's bytes, with
their poison marks, at the destination, and the walk goes to the next; FILL writes the 8-byte pattern; after the last one the
descriptor is worked with OK. An address that leaves bits [47:0], or a refused one, stops the mover there with SPIRE_FAULT, its
index and the address; so does a residue that mismatched again, with RESIDUE_MISMATCH; a poisoned index word stops it with
POISON_CONSUMED. A source at another node is read by a request, of an aligned 64, 8, 4, 2 or 1 bytes. And a COPY whose rows all
lie at this node moves every row, in order, within its command (outside the Sealed profile, without LAST_USE). -/
def Obligations.MoverRowsMoveTheirBytes : Prop :=
  (∀ (s : State) (n : Nat) (r : DescRun) (a b ls ld : Nat) (ta tb : Target), (s.sp n).mover = some r → r.worked = false →
    r.walk.started = true → r.walk.acc = .none → r.walk.off = 0 → r.walk.row < mvItems r.desc →
    r.walk.bad ≠ some r.walk.row → s.sealed = false → s.check.twins = [] → mvOp r.desc < 3 → mvSrcHint r.desc ≠ 2 →
    (mvRowOp r.desc = false → s.poisoned (mvIdxWord r.desc r.walk.row) 4 = false) →
    s.mvAddr r.desc false r.walk.row = some a → s.mvAddr r.desc true r.walk.row = some b → 0 < mvLen r.desc →
    s.coreTarget a (mvLen r.desc) false = (ta, St.ok) → s.coreTarget b (mvLen r.desc) true = (tb, St.ok) →
    ta.remote = false → tb.remote = false → ls = ta.loc → ld = tb.loc →
    s.mvStep n (s.mvWhole n) = some ((s.writeCells ld (s.readCells ls (mvLen r.desc))).setWalk n
      (fun _ => { r.walk with writing := false, row := r.walk.row + 1, off := 0 }))) ∧
  (∀ (s : State) (n : Nat) (r : DescRun) (b : Nat) (tb : Target), (s.sp n).mover = some r → r.worked = false →
    r.walk.started = true → r.walk.acc = .none → r.walk.off = 0 → r.walk.row < mvItems r.desc →
    r.walk.bad ≠ some r.walk.row → s.sealed = false → mvOp r.desc = 3 → mvSrcHint r.desc ≠ 2 → 0 < mvLen r.desc →
    s.mvAddr r.desc true r.walk.row = some b → s.coreTarget b (mvLen r.desc) true = (tb, St.ok) → tb.remote = false →
    s.mvStep n (s.mvWhole n) = some ((s.writeCells tb.loc ((List.range (mvLen r.desc)).map (fun j =>
      (BitVec.ofNat 8 (mvIndex r.desc >>> (8 * (j % 8))), false)))).setWalk n
        (fun _ => { r.walk with writing := false, row := r.walk.row + 1, off := 0 }))) ∧
  (∀ (s : State) (n lim : Nat) (r : DescRun), (s.sp n).mover = some r → r.worked = false → r.walk.started = true →
    mvItems r.desc ≤ r.walk.row → s.mvStep n lim = some (s.moverWorked n St.ok)) ∧
  (∀ (s : State) (n lim k : Nat) (r : DescRun), (s.sp n).mover = some r → r.worked = false → r.walk.started = true →
    r.walk.acc = .none → k = r.walk.row → k < mvItems r.desc → s.check.twins = [] →
    (mvRowOp r.desc = false → s.poisoned (mvIdxWord r.desc k) 4 = true →
      s.mvStep n lim = some (s.mvStop n St.poisonConsumed k (mvIdxWord r.desc k))) ∧
    ((mvRowOp r.desc = false → s.poisoned (mvIdxWord r.desc k) 4 = false) →
      (r.walk.bad = some k → r.walk.off = 0 → s.mvStep n lim =
        some ((s.residue F.NODE_CHECK_EVENTS_MOVER_RESIDUE 0 1).mvStop n St.residueMismatch k
          (s.mvIssued r.desc (mvRowOp r.desc || mvOp r.desc == 2) k))) ∧
      (r.walk.bad ≠ some k ∨ r.walk.off ≠ 0 → mvOp r.desc ≠ 3 → s.mvAddr r.desc false k = none →
        s.mvStep n lim = some (s.mvStop n St.spireFault k (s.mvIssued r.desc false k))) ∧
      (∀ (a p st : Nat) (t : Target), r.walk.bad ≠ some k ∨ r.walk.off ≠ 0 → mvOp r.desc ≠ 3 →
        s.mvAddr r.desc false k = some a →
        p = s.mvPiece r.desc (some a) (s.mvAddr r.desc true k) r.walk.off lim →
        s.coreTarget (a + r.walk.off) p false = (t, st) →
        (t.remote = false → st ≠ St.ok →
          s.mvStep n lim = some ((s.noteRefusal t p st false).mvStop n St.spireFault k a)) ∧
        (t.remote = true → s.stalls (spireEngine n) t = true → s.mvStep n lim = none) ∧
        (t.remote = true → s.stalls (spireEngine n) t = false → s.mvStep n lim =
          some ((s.setWalk n (fun _ => { r.walk with acc := .out })).remoteLoad (spireEngine n) p t
            (mvSrcHint r.desc) (.unit n false)))))) ∧
  (∀ (s : State) (d : Bytes) (a off lim : Nat) (dst : Option Nat), s.localOf a = none →
    s.mvPiece d (some a) dst off lim ∈ [64, 8, 4, 2, 1] ∧ (a + off) % s.mvPiece d (some a) dst off lim = 0) ∧
  (∀ (n : Fin 288) (retries : Nat) (stop : Option Nat) (s u : State) (r : DescRun) (src dst : Nat → Nat),
    (s.sp n).mover = some r → r.worked = false → r.walk = MvWalk.init → s.sealed = false → s.check.twins = [] →
    mvOp r.desc = 0 → mvSrcHint r.desc ≠ 2 → 0 < mvLen r.desc →
    (∀ k < mvItems r.desc, ∃ (a b : Nat) (ta tb : Target), s.mvAddr r.desc false k = some a ∧
      s.mvAddr r.desc true k = some b ∧ s.coreTarget a (mvLen r.desc) false = (ta, St.ok) ∧ ta.remote = false ∧
      s.coreTarget b (mvLen r.desc) true = (tb, St.ok) ∧ tb.remote = false ∧ ta.loc = src k ∧ tb.loc = dst k) →
    u = (List.range (mvItems r.desc)).foldl (fun v k => v.writeCells (dst k) (v.readCells (src k) (mvLen r.desc))) s →
    exec (.copy n retries stop []) s = ok ((u.setWalk n (fun _ =>
      { MvWalk.init with started := true, row := mvItems r.desc })).moverWorked n St.ok))

/-- A tensor engine runs the descriptor it holds when it is of the command's kind: GEMM, STENCIL, Q64_GEMM and ROUND compute and
write every output tile, count their work and the residue recomputes that matched, and are worked with OK, with
RANGE_EXCEEDED, or, with the POISON event, with POISON_CONSUMED, as their elements were; a tile that fails its recompute is
written as poison and gives RESIDUE_MISMATCH. Another kind, a worked one or none does nothing. -/
def Obligations.TensorDescriptorsRun : Prop :=
  (∀ (n : Fin 288) (s : State) (run : DescRun) (r : TnRun) (retries total again : Nat) (ecc : EccFinds),
    (s.sp n).tens = some run → run.worked = false → total = tnBatch run.desc * tnTilesM run.desc * tnTilesN run.desc →
    r = (TnRun.mk (s.eccAll ecc) false false).tiles n run.desc (fun _ => true) [] →
    ∀ w u v : State,
    (tnOp run.desc ≠ 4 → again = (if s.tnChecked run.desc then min retries total else 0)) →
    (tnOp run.desc = 4 → again = 0) →
    w = (if again = 0 then r.s else
      (r.s.inc (F.TENS_COUNTS_RESIDUE_RETRIES n) again).ev (F.TENS_EVENTS_RESIDUE_RETRY n)) →
    u = (((if r.poison then w.ev (F.TENS_EVENTS_POISON n) else w).wr (F.TENS_PROGRESS_TILES n) total).wr
      (F.TENS_PROGRESS_BATCH n) (tnBatch run.desc - 1)).incw (F.TENS_MACS_VALUE n)
      (tnBatch run.desc * tnM run.desc * tnN run.desc * tnK run.desc) →
    v = u.setSp n { u.sp n with tens := some { run with worked := true, status :=
      if r.poison then St.poisonConsumed else if r.range then St.rangeExceeded else St.ok } } →
    (tnOp run.desc = 1 → exec (.gemm n retries [] ecc) s = ok v) ∧
    (tnOp run.desc = 2 → exec (.stencil n retries [] ecc) s = ok v) ∧
    (tnOp run.desc = 3 → exec (.q64Gemm n retries [] ecc) s = ok v) ∧
    (tnOp run.desc = 4 → exec (.round n ecc) s = ok v)) ∧
  (∀ (n : Fin 288) (s : State) (run : DescRun) (retries k : Nat) (bad : List Nat) (ecc : EccFinds) (c : Instr),
    (s.sp n).tens = some run → run.worked = false → s.tnChecked run.desc = true → k ∈ bad →
    k < tnBatch run.desc * tnTilesM run.desc * tnTilesN run.desc →
    (tnOp run.desc = 1 ∧ c = .gemm n retries bad ecc ∨ tnOp run.desc = 2 ∧ c = .stencil n retries bad ecc ∨
      tnOp run.desc = 3 ∧ c = .q64Gemm n retries bad ecc) →
    Does c s (fun t => (t.sp n).tens = some { run with worked := true, status := St.residueMismatch } ∧
      t.rd (F.TENS_EVENTS_RESIDUE_FAIL n) = 1)) ∧
  (∀ (n : Fin 288) (k : Nat) (bad : List Nat) (ecc : EccFinds) (s : State), (s.sp n).tens = none →
    exec (.gemm n k bad ecc) s = ok s ∧ exec (.stencil n k bad ecc) s = ok s ∧ exec (.q64Gemm n k bad ecc) s = ok s ∧
    exec (.round n ecc) s = ok s ∧ exec (.ctxSeal n ecc) s = ok s ∧ exec (.ctxDrop n) s = ok s ∧
    exec (.tensorDescriptorComplete n k) s = ok s) ∧
  (∀ (n : Fin 288) (k : Nat) (bad : List Nat) (ecc : EccFinds) (s : State) (run : DescRun), (s.sp n).tens = some run →
    (run.worked = true ∨ tnOp run.desc ≠ 1 → exec (.gemm n k bad ecc) s = ok s) ∧
    (run.worked = true ∨ tnOp run.desc ≠ 2 → exec (.stencil n k bad ecc) s = ok s) ∧
    (run.worked = true ∨ tnOp run.desc ≠ 3 → exec (.q64Gemm n k bad ecc) s = ok s) ∧
    (run.worked = true ∨ tnOp run.desc ≠ 4 → exec (.round n ecc) s = ok s) ∧
    (run.worked = true ∨ tnOp run.desc ≠ 5 → exec (.ctxSeal n ecc) s = ok s) ∧
    (run.worked = true ∨ tnOp run.desc ≠ 6 → exec (.ctxDrop n) s = ok s) ∧
    (run.worked = false → exec (.tensorDescriptorComplete n k) s = ok s)) ∧
  (∀ (r : TnRun) (n : Nat) (d : Bytes) (b i tj : Nat) (a : Nat), (r.segment n d b i tj true).poison = r.poison ∧
    (tnN d - 64 * tj ≠ 0 → fmtWidth (tnOutFmt d) / 8 ≠ 0 →
      a = scratchAddr n (tnRow d 3 b i + 64 * tj * (fmtWidth (tnOutFmt d) / 8)) →
      (r.segment n d b i tj true).s.poisonAt a = true))

/-- A tensor descriptor writes only its output rows: every byte outside them keeps its value. -/
def Obligations.TensorRunsWriteOnlyTheirOutput : Prop :=
  ∀ (r : TnRun) (n : Nat) (d : Bytes) (sel : Nat → Bool) (bad : List Nat) (a : Nat), r.s.ckpt.copying = false →
    (∀ b < tnBatch d, ∀ i < tnM d, a < scratchAddr n (tnRow d 3 b i) ∨
      scratchAddr n (tnRow d 3 b i) + tnN d * (fmtWidth (tnOutFmt d) / 8) ≤ a) →
    mget (r.tiles n d sel bad).s.mem a 0 = mget r.s.mem a 0

/-- CTX_SEAL seals a context whose bytes are clean and match the CRC-64 of the descriptor, and refuses any other with
SEAL_FAIL, poison before the CRC; CTX_DROP releases it and leaves its bytes. A worked descriptor completes with its status and
busy cycles, and a failure discards the queue. -/
def Obligations.ContextsAndTensorCompletion : Prop :=
  (∀ (n : Fin 288) (ecc : EccFinds) (s u : State) (run : DescRun), (s.sp n).tens = some run → run.worked = false →
    tnOp run.desc = 5 → u = s.eccAll ecc →
    (u.poisoned (scratchAddr n (tnOff run.desc 3)) (fld run.desc 88 4) = true →
      exec (.ctxSeal n ecc) s = ok ((u.ev (F.TENS_EVENTS_SEAL_FAIL n)).tensorWorked n St.poisonConsumed)) ∧
    (u.poisoned (scratchAddr n (tnOff run.desc 3)) (fld run.desc 88 4) = false →
      crc64 (u.readBytes (scratchAddr n (tnOff run.desc 3)) (fld run.desc 88 4)) ≠ fld run.desc 80 8 →
      exec (.ctxSeal n ecc) s = ok ((u.ev (F.TENS_EVENTS_SEAL_FAIL n)).tensorWorked n St.digestMismatch)) ∧
    (u.poisoned (scratchAddr n (tnOff run.desc 3)) (fld run.desc 88 4) = false →
      crc64 (u.readBytes (scratchAddr n (tnOff run.desc 3)) (fld run.desc 88 4)) = fld run.desc 80 8 →
      exec (.ctxSeal n ecc) s = ok ((((((u.wr (F.TENS_CTX_BASE n (tnCtx run.desc)) (tnOff run.desc 3)).wr
        (F.TENS_CTX_LENGTH n (tnCtx run.desc)) (fld run.desc 88 4)).wr (F.TENS_CTX_SEALED n (tnCtx run.desc)) 1).wr
        (F.TENS_CTX_CRC_CRC n (tnCtx run.desc)) (fld run.desc 80 8)).showSealed n).tensorWorked n St.ok))) ∧
  (∀ (n : Fin 288) (s : State) (run : DescRun), (s.sp n).tens = some run → run.worked = false → tnOp run.desc = 6 →
    Does (.ctxDrop n) s (fun t => t.rd (F.TENS_CTX_SEALED n (tnCtx run.desc)) = 0 ∧ s.keepsMem t ∧
      (t.sp n).tens = some { run with worked := true, status := St.ok } ∧
      s.keepsRegs t [R.TENS_CTX n (tnCtx run.desc), R.TENS_CTX_CRC n (tnCtx run.desc), R.TENS_STATUS n])) ∧
  (∀ (n : Fin 288) (cycles : Nat) (s : State) (r : DescRun), (s.sp n).tens = some r → r.worked = true →
    isSuccess r.status = true → exec (.tensorDescriptorComplete n cycles) s =
      ok ((((((s.setSp n { s.sp n with tens := none }).wr (F.TENS_STATUS_OP n) 0).incw (F.TENS_BUSY_VALUE n) cycles).countDesc
        n false r.owner r.status).retryIssue n).takeTensors n)) ∧
  (∀ (n : Fin 288) (cycles : Nat) (s : State) (r : DescRun), (s.sp n).tens = some r → r.worked = true →
    isSuccess r.status = false → exec (.tensorDescriptorComplete n cycles) s =
      ok (((((((s.setSp n { s.sp n with tens := none }).wr (F.TENS_STATUS_OP n) 0).incw (F.TENS_BUSY_VALUE n)
        cycles).countDesc n false r.owner r.status).discardQueue n false r.status).retryIssue n).takeTensors n))

/-! ## The short-vector unit (chapter 8) -/

/-- Elements put into a group read back, whichever registers they span, and every other element of the group keeps its value;
so do the integer registers and the configuration. -/
def Obligations.VectorElementsReadBack : Prop :=
  ∀ (x : Spire) (first w start : Nat) (vals : List (Nat × Bool)), 0 < w → w ≤ 512 → let y := x.putEls first w start vals
    (∀ j, j < vals.length → y.el first w (start + j) = (vals.getD j (0, false)).1 % 2 ^ w) ∧
    (∀ i, i < start ∨ start + vals.length ≤ i → y.el first w i = x.el first w i) ∧
    y = { x with v := y.v }

/-- Arithmetic on vectors: each element from VL_START to VL − 1 of the destination becomes the operation's value of its
operands' elements, poisoned when an operand is, and the instruction ends (State.svEnd: the pc moves on and VL_START returns to
0; what a residue found takes effect in the Sealed profile). An instruction with a group that is not legal for the span, or a
float one with 8-bit elements, is an illegal instruction. A core that does not run executes none of these. -/
def Obligations.VectorArithmetic : Prop :=
  (∀ (n : Fin 288) (res : Fin 3) (scalar : Bool) (wd ws1 r2 : Fin 32) (s u : State), s.vecReady n u →
    groupOk wd (svSpan (u.sp n).span) = true → groupOk ws1 (svSpan (u.sp n).span) = true →
    (scalar = true ∨ groupOk r2 (svSpan (u.sp n).span) = true) →
    ∀ w : Nat, w = svBits (u.sp n).ew →
    ∀ a b : Nat → Nat, (∀ i, a i = (u.sp n).el ws1 w i) → (∀ i, b i = ((u.sp n).opB scalar r2 i).1) →
    ∀ put : (Nat → Nat) → Out, (∀ f, put f = ok (((u.putLanes n wd w ((u.lanes n).map (fun i => (f i,
      (u.sp n).elPoison ws1 w i || ((u.sp n).opB scalar r2 i).2)))).svEnd n res wd (svSpan (u.sp n).span) 0 0).coreDone n)) →
    exec (.svAddSubMul n 0 res scalar wd ws1 r2) s = put (fun i => (a i + b i) % 2 ^ w) ∧
    exec (.svAddSubMul n 1 res scalar wd ws1 r2) s = put (fun i => (a i + 2 ^ w - b i) % 2 ^ w) ∧
    exec (.svAddSubMul n 2 res scalar wd ws1 r2) s = put (fun i => a i * b i % 2 ^ w) ∧
    (∀ mx sgn : Bool, exec (.svMinMax n mx sgn res scalar wd ws1 r2) s = put (fun i => iminMax w mx sgn (a i) (b i))) ∧
    exec (.svAndOrXor n 0 res scalar wd ws1 r2) s = put (fun i => a i &&& b i) ∧
    exec (.svAndOrXor n 1 res scalar wd ws1 r2) s = put (fun i => a i ||| b i) ∧
    exec (.svAndOrXor n 2 res scalar wd ws1 r2) s = put (fun i => a i ^^^ b i) ∧
    exec (.svSllSrlSra n 0 res scalar wd ws1 r2) s = put (fun i => a i * 2 ^ (b i % w) % 2 ^ w) ∧
    exec (.svSllSrlSra n 1 res scalar wd ws1 r2) s = put (fun i => a i / 2 ^ (b i % w)) ∧
    exec (.svSllSrlSra n 2 res scalar wd ws1 r2) s = put (fun i => unsigned w (signed w (a i) / 2 ^ (b i % w))) ∧
    ((u.sp n).ew ≠ 0 → ∀ f : Fmt, f = (u.sp n).fmt →
      exec (.svFaddFsubFmul n 0 res scalar wd ws1 r2) s = put (fun i => f.add (a i) (b i)) ∧
      exec (.svFaddFsubFmul n 1 res scalar wd ws1 r2) s = put (fun i => f.sub (a i) (b i)) ∧
      exec (.svFaddFsubFmul n 2 res scalar wd ws1 r2) s = put (fun i => f.mul (a i) (b i)) ∧
      (∀ mx : Bool, exec (.svFminFmax n mx res scalar wd ws1 r2) s = put (fun i => fminMax f mx (a i) (b i))) ∧
      exec (.svFmacc n res scalar wd ws1 r2) s = ok (((u.putLanes n wd w ((u.lanes n).map (fun i =>
        (f.fma (a i) (b i) ((u.sp n).el wd w i), (u.sp n).elPoison ws1 w i || ((u.sp n).opB scalar r2 i).2 ||
          (u.sp n).elPoison wd w i)))).svEnd n res wd (svSpan (u.sp n).span) 0 0).coreDone n))) ∧
  (∀ (n : Fin 288) (k res : Fin 3) (mx sgn scalar : Bool) (wd ws1 r2 : Fin 32) (s u : State) (bad : Prop), s.vecReady n u →
    bad = (groupOk wd (svSpan (u.sp n).span) = false ∨ groupOk ws1 (svSpan (u.sp n).span) = false ∨
      scalar = false ∧ groupOk r2 (svSpan (u.sp n).span) = false) →
    (bad → exec (.svAddSubMul n k res scalar wd ws1 r2) s = ok ((u.illegal n).coreDone n) ∧
      exec (.svMinMax n mx sgn res scalar wd ws1 r2) s = ok ((u.illegal n).coreDone n) ∧
      exec (.svAndOrXor n k res scalar wd ws1 r2) s = ok ((u.illegal n).coreDone n) ∧
      exec (.svSllSrlSra n k res scalar wd ws1 r2) s = ok ((u.illegal n).coreDone n)) ∧
    (bad ∨ (u.sp n).ew = 0 → exec (.svFaddFsubFmul n k res scalar wd ws1 r2) s = ok ((u.illegal n).coreDone n) ∧
      exec (.svFminFmax n mx res scalar wd ws1 r2) s = ok ((u.illegal n).coreDone n) ∧
      exec (.svFmacc n res scalar wd ws1 r2) s = ok ((u.illegal n).coreDone n))) ∧
  (∀ (n : Fin 288) (k res : Fin 3) (mx sgn scalar : Bool) (wd ws1 r2 : Fin 32) (s : State), s.coreRuns n = false →
    exec (.svAddSubMul n k res scalar wd ws1 r2) s = ok s ∧ exec (.svMinMax n mx sgn res scalar wd ws1 r2) s = ok s ∧
    exec (.svAndOrXor n k res scalar wd ws1 r2) s = ok s ∧ exec (.svSllSrlSra n k res scalar wd ws1 r2) s = ok s ∧
    exec (.svFaddFsubFmul n k res scalar wd ws1 r2) s = ok s ∧ exec (.svFminFmax n mx res scalar wd ws1 r2) s = ok s ∧
    exec (.svFmacc n res scalar wd ws1 r2) s = ok s)

/-- Configuration, moves and reductions: SV.CFG sets width, span and VL, no more than VLMAX; SV.BCAST copies a register to
every element; SV.EXT, while VL_START is below VL, reads one, sign-extended, or 0 past VLMAX, and traps on poison; SV.PERM
selects elements; the reductions combine all VL elements into rd: the sum modulo the width, the signed minimum and maximum, and
the floats pairwise; poison traps. A configuration or group that is not legal is an illegal instruction. Either vector unit
can power down. In the Sealed profile a residue's retry is counted, and a second mismatch poisons the destination and
traps; otherwise an instruction ends with VL_START 0 and the pc four on. -/
def Obligations.VectorConfigurationMovesAndReductions : Prop :=
  (∀ ew k : Nat, svVlmax ew k = 2 ^ k * 512 / (8 * 2 ^ ew)) ∧
  (∀ (s : State) (n res dst k rd : Nat) (v : Word), s.sealed = false ∨ res = 0 →
    s.svEnd n res dst k rd v = (s.wrReg (R.VEC_FAULT_IDX n) 0).coreNext n rd v) ∧
  (∀ (s u : State) (n res dst k rd : Nat) (v : Word), s.sealed = true → res ≠ 0 →
    u = (s.inc (F.VEC_COUNTS_RESIDUE_RETRIES n)).ev (F.VEC_EVENTS_RESIDUE_RETRY n) →
    (res = 1 → s.svEnd n res dst k rd v = u.vecDone n rd v) ∧
    (res = 2 → s.svEnd n res dst k rd v = (((u.setSp n ((List.range (8 * k)).foldl (fun x i => x.setSlice dst i true) (u.sp n))).inc
      (F.VEC_COUNTS_RESIDUE_FAILS n)).ev (F.VEC_EVENTS_RESIDUE_FAIL n)).coreTrap n Cause.hardware 3 0)) ∧
  (∀ (n : Fin 288) (rd rs1 rs2 : Fin 32) (s u : State), s.vecReady n u → ((u.sp n).xr rs2).toNat < 32 →
    ∀ c vl : Nat, c = ((u.sp n).xr rs2).toNat → vl = min ((u.sp n).xr rs1).toNat (svVlmax (bits c 0 2) (bits c 2 2)) →
    exec (.svCfg n rd rs1 rs2) s = ok (((u.setSp n { u.sp n with
      ew := bits c 0 2, span := bits c 2 2, f16 := bits c 4 1, vl := vl }).showVec n).vecDone n rd (BitVec.ofNat 64 vl))) ∧
  (∀ (n : Fin 288) (rd rs1 rs2 : Fin 32) (s u : State), s.vecReady n u → 32 ≤ ((u.sp n).xr rs2).toNat →
    exec (.svCfg n rd rs1 rs2) s = ok ((u.illegal n).coreDone n)) ∧
  (∀ (n : Fin 288) (wd rs1 : Fin 32) (s u : State), s.vecReady n u → groupOk wd (svSpan (u.sp n).span) = true →
    exec (.svBcast n wd rs1) s = ok ((u.putLanes n wd (svBits (u.sp n).ew) ((u.lanes n).map (fun _ =>
      (((u.sp n).xr rs1).toNat % 2 ^ svBits (u.sp n).ew, false)))).vecDone n 0 0)) ∧
  (∀ (n : Fin 288) (k res : Fin 3) (rd wd ws ws2 : Fin 32) (s u : State), s.vecReady n u →
    groupOk ws (svSpan (u.sp n).span) = false →
    exec (.svBcast n ws rd) s = ok ((u.illegal n).coreDone n) ∧ exec (.svExt n rd ws wd) s = ok ((u.illegal n).coreDone n) ∧
    exec (.svPerm n wd ws ws2) s = ok ((u.illegal n).coreDone n) ∧
    exec (.svRsumRminRmax n k res rd ws) s = ok ((u.illegal n).coreDone n) ∧
    exec (.svFrsumFrminFrmax n k res rd ws) s = ok ((u.illegal n).coreDone n)) ∧
  (∀ (n : Fin 288) (rd ws rs2 : Fin 32) (s u : State) (i w : Nat), s.vecReady n u →
    groupOk ws (svSpan (u.sp n).span) = true → i = ((u.sp n).xr rs2).toNat → w = svBits (u.sp n).ew →
    exec (.svExt n rd ws rs2) s = ok ((if (u.sp n).vl ≤ u.vecIdx n then u.vecDone n 0 0
      else if svVlmax (u.sp n).ew (u.sp n).span ≤ i then u.vecDone n rd 0
      else if (u.sp n).elPoison ws w i then u.coreTrap n Cause.hardware 3 0
      else u.vecDone n rd (BitVec.ofNat 64 (sext64 w ((u.sp n).el ws w i)))).coreDone n)) ∧
  (∀ (n : Fin 288) (wd ws1 ws2 : Fin 32) (s u : State) (k w : Nat), s.vecReady n u → k = svSpan (u.sp n).span →
    w = svBits (u.sp n).ew → groupOk wd k = true → groupOk ws1 k = true → groupOk ws2 k = true →
    groupsMeet wd k ws1 k = false → groupsMeet wd k ws2 k = false →
    exec (.svPerm n wd ws1 ws2) s = ok ((u.putLanes n wd w ((u.lanes n).map (fun i =>
      if (u.sp n).el ws2 w i < (u.sp n).vl then ((u.sp n).el ws1 w ((u.sp n).el ws2 w i),
        (u.sp n).elPoison ws2 w i || (u.sp n).elPoison ws1 w ((u.sp n).el ws2 w i))
      else (0, (u.sp n).elPoison ws2 w i)))).vecDone n 0 0)) ∧
  (∀ (n : Fin 288) (res : Fin 3) (rd ws : Fin 32) (s u : State) (w : Nat) (xs : List Nat) (give : Word → Out),
    s.vecReady n u → (u.sp n).ew < 4 → groupOk ws (svSpan (u.sp n).span) = true → w = svBits (u.sp n).ew →
    xs = (List.range (u.sp n).vl).map (fun i => (u.sp n).el ws w i) →
    (∀ i < (u.sp n).vl, (u.sp n).elPoison ws w i = false) →
    (∀ v, give v = ok ((u.svEnd n res 0 0 rd v).coreDone n)) →
    exec (.svRsumRminRmax n 0 res rd ws) s = give (BitVec.ofNat 64 (sext64 w (xs.sum % 2 ^ w))) ∧
    exec (.svRsumRminRmax n 1 res rd ws) s = give (BitVec.ofInt 64 ((xs.map (signed w)).foldl min (2 ^ (w - 1) - 1))) ∧
    exec (.svRsumRminRmax n 2 res rd ws) s = give (BitVec.ofInt 64 ((xs.map (signed w)).foldl max (-2 ^ (w - 1)))) ∧
    ((u.sp n).ew ≠ 0 → ∀ (f : Fmt) (lv : Nat) (pad : Nat → List Nat), f = (u.sp n).fmt → lv = ceilLog2 (u.sp n).vl →
      (∀ e, pad e = xs ++ List.replicate (2 ^ lv - (u.sp n).vl) e) →
      exec (.svFrsumFrminFrmax n 0 res rd ws) s = give (BitVec.ofNat 64 (pairwise f.add lv (pad 0))) ∧
      exec (.svFrsumFrminFrmax n 1 res rd ws) s =
        give (BitVec.ofNat 64 (pairwise (fminMax f false) lv (pad (f.pack false (2 ^ f.ebits - 1) 0)))) ∧
      exec (.svFrsumFrminFrmax n 2 res rd ws) s =
        give (BitVec.ofNat 64 (pairwise (fminMax f true) lv (pad (f.pack true (2 ^ f.ebits - 1) 0)))))) ∧
  (∀ (n : Fin 288) (k res : Fin 3) (rd ws : Fin 32) (s u : State) (i : Nat), s.vecReady n u →
    groupOk ws (svSpan (u.sp n).span) = true → i < (u.sp n).vl → (u.sp n).elPoison ws (svBits (u.sp n).ew) i = true →
    exec (.svRsumRminRmax n k res rd ws) s = ok ((u.coreTrap n Cause.hardware 3 0).coreDone n) ∧
    ((u.sp n).ew ≠ 0 →
      exec (.svFrsumFrminFrmax n k res rd ws) s = ok ((u.coreTrap n Cause.hardware 3 0).coreDone n))) ∧
  (∀ (n : Fin 288) (s : State), Does (.svPowerDown n) s (fun t => t.rd (F.VEC_STATUS_POWER n) = 0 ∧ s.keepsMem t ∧
    s.keepsRegs t [R.VEC_STATUS n] ∧ t.spires = s.spires)) ∧
  (∀ (h : Fin 64) (s : State), exec (.longVectorPowerDown h) s = ok (s.setHart h { s.hart h with vecOn := false }))

/-- Vector memory and conversions. A legal load or store begins at element VL_START and runs until it waits or is done
(State.svGo); while the core waits in one, the row looks again; one that is not legal is an illegal instruction. A load at unit
stride whose elements all lie at this node puts them in its group, and a store there writes them in order, in one command
(outside the Sealed profile). An element that is refused stops the instruction, with its index and address; a field at another
node of the pond is a request. Conversions and block conversions put the codes of every element, with its poison, and record the magnitudes
and saturations of clean ones in their amax slot; a control word or group that is not legal is an illegal instruction. -/
def Obligations.VectorMemoryAndConversions : Prop :=
  (∀ (n : Fin 288) (res nf : Fin 3) (w rs1 wi : Fin 32) (ecc : EccFinds) (s u : State) (k : Nat) (fits : Nat → Bool)
    (run : Bool → Nat → Option Nat → SvRun) (go : EccFinds → SvRun → Out), (s.sp n).wait ≠ .sv → s.vecReady n u →
    k = svSpan (u.sp n).span → (∀ m, fits m = (groupOk w k && w.val + m * k ≤ 32)) →
    (∀ st m ix, run st m ix =
      { store := st, group := w, nf := m, base := ((u.sp n).xr rs1).toNat, index := ix, res := res, elem := u.vecIdx n,
        field := 0, off := 0, part := [], acc := .none, fields := [], done := [] }) →
    (∀ e r, go e r = ok (((((u.eccAll e).setSv n r).coreWait n .sv).svGo n).coreDone n)) →
    exec (.svLd n res w rs1 ecc) s =
      (if fits 1 then go ecc (run false 1 none) else ok ((u.illegal n).coreDone n)) ∧
    exec (.svSt n res w rs1) s = (if fits 1 then go [] (run true 1 none) else ok ((u.illegal n).coreDone n)) ∧
    exec (.svLseg n nf res w rs1 ecc) s =
      (if fits (nf + 2) then go ecc (run false (nf + 2) none) else ok ((u.illegal n).coreDone n)) ∧
    exec (.svSseg n nf res w rs1) s =
      (if fits (nf + 2) then go [] (run true (nf + 2) none) else ok ((u.illegal n).coreDone n)) ∧
    exec (.svGth n res w rs1 wi ecc) s = (if fits 1 && 2 ≤ (u.sp n).ew && groupOk wi k && !groupsMeet w k wi k then
      go ecc (run false 1 (some wi)) else ok ((u.illegal n).coreDone n)) ∧
    exec (.svSct n res w rs1 wi) s = (if fits 1 && 2 ≤ (u.sp n).ew && groupOk wi k then
      go [] (run true 1 (some wi)) else ok ((u.illegal n).coreDone n))) ∧
  (∀ (n : Fin 288) (res nf : Fin 3) (w rs1 wi : Fin 32) (ecc : EccFinds) (s : State), (s.sp n).wait = .sv →
    exec (.svLd n res w rs1 ecc) s = ok ((s.eccAll ecc).svGo n) ∧ exec (.svSt n res w rs1) s = ok (s.svGo n) ∧
    exec (.svLseg n nf res w rs1 ecc) s = ok ((s.eccAll ecc).svGo n) ∧ exec (.svSseg n nf res w rs1) s = ok (s.svGo n) ∧
    exec (.svGth n res w rs1 wi ecc) s = ok ((s.eccAll ecc).svGo n) ∧ exec (.svSct n res w rs1 wi) s = ok (s.svGo n)) ∧
  (∀ (n : Fin 288) (res : Fin 3) (wd rs1 : Fin 32) (s u : State) (k w : Nat) (loc : Nat → Nat), s.vecReady n u →
    u.sealed = false → (u.sp n).wait = .none → (u.sp n).sv = none → u.check.twins = [] → k = svSpan (u.sp n).span →
    w = svBits (u.sp n).ew → groupOk wd k = true → wd.val + k ≤ 32 →
    (∀ i ∈ u.lanes n, ∃ (a : Nat) (t : Target), formAddr ((u.sp n).xr rs1).toNat (i * (w / 8) : Nat) = some a ∧
      a % 2 ^ 48 + w / 8 ≤ 2 ^ 48 ∧ u.coreTarget a (w / 8) false = (t, St.ok) ∧ t.remote = false ∧ t.loc = loc i ∧
      u.poisoned (loc i) (w / 8) = false) →
    Does (.svLd n res wd rs1 []) s (fun t => t.sp n = (((u.putLanes n wd w ((u.lanes n).map (fun i =>
      (u.readNat (loc i) (w / 8), false)))).vecDone n 0 0).sp n) ∧ t.coreRuns n = true ∧ t.vecIdx n = 0 ∧ s.keepsMem t ∧
      u.keepsRegs t [R.SPIRE_STATUS n, R.VEC_FAULT_IDX n])) ∧
  (∀ (n : Fin 288) (res : Fin 3) (ws rs1 : Fin 32) (s u v : State) (k w : Nat) (loc : Nat → Nat), s.vecReady n u →
    u.sealed = false → (u.sp n).wait = .none → (u.sp n).sv = none → u.unitOut n true = false → k = svSpan (u.sp n).span →
    w = svBits (u.sp n).ew → groupOk ws k = true → ws.val + k ≤ 32 →
    (∀ i ∈ u.lanes n, ∃ (a : Nat) (t : Target), formAddr ((u.sp n).xr rs1).toNat (i * (w / 8) : Nat) = some a ∧
      a % 2 ^ 48 + w / 8 ≤ 2 ^ 48 ∧ u.coreTarget a (w / 8) true = (t, St.ok) ∧ t.remote = false ∧ t.loc = loc i) →
    v = (u.lanes n).foldl (fun t i => t.writeCells (loc i) ((natLE (w / 8) ((u.sp n).el ws w i)).map (fun b =>
      (b, (u.sp n).elPoison ws w i)))) u →
    Does (.svSt n res ws rs1) s (fun t => v.keepsMem t ∧ t.coreRuns n = true ∧ t.vecIdx n = 0 ∧
      (t.sp n).pc = (u.sp n).pc + 4 ∧ v.keepsRegs t [R.SPIRE_STATUS n, R.VEC_FAULT_IDX n])) ∧
  (∀ (s : State) (n : Nat) (r : SvRun) (a st : Nat) (t : Target), (s.sp n).sv = some r → r.elem < (s.sp n).vl →
    r.acc = .none → r.nf = 1 → r.field = 0 → r.off = 0 →
    ((s.sp n).svAddr r r.elem 0 = none → s.svStep n = some (s.svFault n r 0)) ∧
    ((s.sp n).svAddr r r.elem 0 = some a → s.coreTarget a (s.sp n).svBytes r.store = (t, st) →
      (t.remote = false → st ≠ St.ok →
        s.svStep n = some ((s.noteRefusal t (s.sp n).svBytes st r.store).svFault n r 0)) ∧
      (∀ nd l p, t = .pond nd l → s.check.twins = [] → p = svPiece a 0 (s.sp n).svBytes →
        (s.stalls (spireEngine n) t = true → s.svStep n = none) ∧
        (s.stalls (spireEngine n) t = false → s.svStep n = some (if r.store then
          (s.setSv n { r with acc := .out }).remoteStore (spireEngine n) t 0 (((s.sp n).svCells r).take p) (.unit n true)
        else (s.setSv n { r with acc := .out }).remoteLoad (spireEngine n) p t 0 (.unit n true)))))) ∧
  (∀ (s : State) (n i addr : Nat) (store : Bool), (s.sp n).mtvec ≠ 0 → i < 1024 → let t := s.vecFault n i addr store
    t.vecIdx n = i ∧ t.rdReg (R.VEC_FAULT_ADDR n) = addr % 2 ^ 64 ∧ t.rd (F.VEC_EVENTS_FAULT n) = 1 ∧
    (t.sp n).mcause = BitVec.ofNat 64 (if store then Cause.store else Cause.load) ∧ (t.sp n).mepc = (s.sp n).pc ∧
    s.keepsMem t) ∧
  (∀ (n : Fin 288) (res : Fin 3) (wd ws rs2 : Fin 32) (s u : State) (cw sw dw ks kd : Nat), s.vecReady n u →
    cw = ((u.sp n).xr rs2).toNat → sw = fmtWidth (cwSrc cw) → dw = fmtWidth (cwDst cw) → ks = groupFor (u.sp n).vl sw →
    kd = groupFor (u.sp n).vl dw →
    (cvtCwOk cw = false ∨ 8 < ks ∨ 8 < kd ∨ groupOk ws ks = false ∨ groupOk wd kd = false →
      exec (.svCvt n res wd ws rs2) s = ok ((u.illegal n).coreDone n)) ∧
    (cvtCwOk cw = true → ks ≤ 8 → kd ≤ 8 → groupOk ws ks = true → groupOk wd kd = true →
      ∀ (v : Nat → FVal) (e : Nat → Nat × Bool) (p : Nat → Bool),
      (∀ i, v i = cvtDecode (cwSrc cw) (cwQexp cw) ((u.sp n).el ws sw i)) →
      (∀ i, e i = cvtEncode (cwDst cw) (cwQexp cw) (cwOvf cw) (v i)) → (∀ i, p i = (u.sp n).elPoison ws sw i) →
      exec (.svCvt n res wd ws rs2) s = ok ((((u.lanes n).foldl (fun t i => if p i then t else
        t.amaxUpdate n (cwSlot cw) (if (v i).isNan then none else some (v i)) (e i).2)
        (u.putLanes n wd dw ((u.lanes n).map (fun i => ((e i).1, p i))))).svEnd n res wd kd 0 0).coreDone n))) ∧
  (∀ (n : Fin 288) (res : Fin 3) (wd ws rs2 : Fin 32) (s u : State) (cw sw dw ks kd vl : Nat), s.vecReady n u →
    cw = ((u.sp n).xr rs2).toNat → sw = fmtWidth (cwSrc cw) → dw = fmtWidth (cwDst cw) → vl = (u.sp n).vl →
    ks = groupFor vl sw → kd = groupFor vl dw →
    (mxCwOk cw false = false ∨ vl % 32 ≠ 0 ∨ 256 < vl ∨ 8 < ks ∨ groupOk ws ks = false ∨ groupOk wd kd = false →
      exec (.svMxcvt n res wd ws rs2) s = ok ((u.illegal n).coreDone n)) ∧
    (mxCwOk cw true = false ∨ vl % 32 ≠ 0 ∨ 256 < vl ∨ 8 < kd ∨ groupOk ws ks = false ∨ groupOk wd kd = false →
      exec (.svMxexp n res wd ws rs2) s = ok ((u.illegal n).coreDone n)) ∧
    (mxCwOk cw false = true → vl % 32 = 0 → vl ≤ 256 → ks ≤ 8 → groupOk ws ks = true → groupOk wd kd = true →
      ∀ (b : Nat → Nat × List (Nat × Option FVal × Bool)) (p : Nat → Bool) (x : State),
      (∀ j, b j = mxBlock (cwDst cw) ((List.range 32).map (fun i => (fmtOf (cwSrc cw)).decode ((u.sp n).el ws sw (32 * j + i))))) →
      (∀ j, p j = (List.range 32).any (fun i => (u.sp n).elPoison ws sw (32 * j + i))) →
      x = u.setSp n ((u.sp n).putEls wd dw 0 ((List.range (vl / 32)).flatMap (fun j => (b j).2.map (fun e => (e.1, p j))))) →
      exec (.svMxcvt n res wd ws rs2) s = ok ((((List.range (vl / 32)).foldl (fun t j => if p j then t else
        (b j).2.foldl (fun t e => t.amaxUpdate n (cwSlot cw) e.2.1 e.2.2) t) (if vl = 0 then x else
          x.wrReg (R.VEC_SCALE n) (leNat ((List.range (vl / 32)).map (fun j => BitVec.ofNat 8 (b j).1))))).svEnd n res wd kd 0
            0).coreDone n)) ∧
    (mxCwOk cw true = true → vl % 32 = 0 → vl ≤ 256 → kd ≤ 8 → groupOk ws ks = true → groupOk wd kd = true →
      ∀ (v : Nat → FVal) (e : Nat → Nat × Bool) (p : Nat → Bool),
      (∀ i, v i = (if bits (u.rdReg (R.VEC_SCALE n)) (8 * (i / 32)) 8 = 0xFF then .nan else
        match narrowVal (cwSrc cw) ((u.sp n).el ws sw i) true with
        | .fin neg m y => .fin (neg && m != 0) m (y + (bits (u.rdReg (R.VEC_SCALE n)) (8 * (i / 32)) 8 : Int) - 127)
        | x => x)) →
      (∀ i, e i = (fmtOf (cwDst cw)).convert (v i) false) → (∀ i, p i = (u.sp n).elPoison ws sw i) →
      exec (.svMxexp n res wd ws rs2) s = ok ((((List.range vl).foldl (fun t i => if p i then t else
        t.amaxUpdate n (cwSlot cw) (if (v i).isNan then none else some (v i)) (e i).2) (u.setSp n ((u.sp n).putEls wd dw 0
          ((List.range vl).map (fun i => ((e i).1, p i)))))).svEnd n res wd kd 0 0).coreDone n)))

/-! ## The Dome harts (chapters 8 and 11) -/

/-- A hart's completed instruction leaves its result in rd and the pc four bytes on; a trap records the cause, the pc and the
value; a hart that waits, or a node not yet at B11, executes nothing. -/
def Obligations.DomeInstructionsCompleteOrTrap : Prop :=
  (∀ (s : State) (h rd : Nat) (v : Word), 0 < rd → rd < 32 → ((s.hartNext h rd v).hart h).xr rd = v ∧
    ((s.hartNext h rd v).hart h).pc = (s.hart h).pc + 4 ∧ (∀ r, r ≠ rd → ((s.hartNext h rd v).hart h).xr r = (s.hart h).xr r)) ∧
  (∀ (s : State) (h : Nat) (v : Word), (s.hartNext h 0 v).hart h = { s.hart h with
    pc := (s.hart h).pc + 4, trapped := false }) ∧
  (∀ (s : State) (h rd : Nat) (v : Word), s.hartNext h rd v = { s with harts := (s.hartNext h rd v).harts } ∧
    (∀ k, k ≠ h → (s.hartNext h rd v).hart k = s.hart k)) ∧
  (∀ (s : State) (h cause tval : Nat), ((s.hartTrap h cause tval).hart h).cause = cause ∧
    ((s.hartTrap h cause tval).hart h).tval = tval ∧ ((s.hartTrap h cause tval).hart h).epc = (s.hart h).pc ∧
    ((s.hartTrap h cause tval).hart h).trapped = true ∧ ((s.hartTrap h cause tval).hart h).x = (s.hart h).x ∧
    s.hartTrap h cause tval = { s with harts := (s.hartTrap h cause tval).harts }) ∧
  (∀ (h : Fin 64) (s : State) (b c d e : Bool) (size : Fin 4) (rd rs1 rs2 rs3 : Fin 32) (imm : Fin 4096) (op : AmoOp)
    (mres : Fin 3) (fop : FloatOp) (fm : FFmt) (rm : Fin 8) (vop : VecOp) (form : VForm) (now : Nat) (far : Vector (BitVec 8) 64)
    (ecc : EccFind) (eccs : EccFinds) (addr : VAddr) (nf : Fin 8) (data : List (Byte × Bool)) (dead refused : List Nat),
    s.hartRuns h = false →
    exec (.domeLoadStore h b c size d rd rs1 rs2 imm ecc) s = ok s ∧ exec (.domeAmo h op b rd rs1 rs2 mres ecc) s = ok s ∧
    exec (.domeFloatInstruction h fop fm rm rd rs1 rs2 rs3) s = ok s ∧
    exec (.domeVectorInstruction h vop form b rd rs1 rs2) s = ok s ∧
    exec (.domeVectorMemory h b addr size nf c rd rs1 rs2 data dead refused eccs) s = ok s ∧ exec (.dTwait h rs1) s = ok s ∧
    exec (.dTime h rd now) s = ok s ∧ exec (.pkst h rs1 rs2 far c d e) s = ok s)

/-- Dome arithmetic: a floating-point or vector instruction that exists changes only its hart's registers; one that does not
exist, or that names another rounding mode than the nearest even, is an illegal instruction. -/
def Obligations.DomeFloatAndVectorInstructions : Prop :=
  (∀ (h : Fin 64) (op : FloatOp) (fm : FFmt) (rm : Fin 8) (rd rs1 rs2 rs3 : Fin 32) (s : State), s.hartRuns h = true →
    floatExists op fm = true → (floatHasRm op = false ∨ rm = 0 ∨ rm = 7) →
    exec (.domeFloatInstruction h op fm rm rd rs1 rs2 rs3) s =
      ok ((s.setHart h ((s.hart h).float op fm rd rs1 rs2 rs3)).hartNext h 0 0)) ∧
  (∀ (h : Fin 64) (op : FloatOp) (fm : FFmt) (rm : Fin 8) (rd rs1 rs2 rs3 : Fin 32) (s : State), s.hartRuns h = true →
    (floatExists op fm = false ∨ (floatHasRm op = true ∧ rm ≠ 0 ∧ rm ≠ 7)) →
    exec (.domeFloatInstruction h op fm rm rd rs1 rs2 rs3) s = ok (s.hartTrap h Cause.illegal 0)) ∧
  (∀ (h : Fin 64) (op : VecOp) (form : VForm) (vm : Bool) (vd vs1 vs2 : Fin 32) (s : State) (x : Hart), s.hartRuns h = true →
    (s.hart h).vector op form vm vd vs1 vs2 = some x →
    exec (.domeVectorInstruction h op form vm vd vs1 vs2) s = ok ((s.setHart h { x with vecOn := true }).hartNext h 0 0)) ∧
  (∀ (h : Fin 64) (op : VecOp) (form : VForm) (vm : Bool) (vd vs1 vs2 : Fin 32) (s : State), s.hartRuns h = true →
    (s.hart h).vector op form vm vd vs1 vs2 = none →
    exec (.domeVectorInstruction h op form vm vd vs1 vs2) s = ok (s.hartTrap h Cause.illegal 0))

/-- Dome accesses. At this node: a load of clean backed memory puts the value in rd and the line in the Dome cache; a store
writes its bytes and makes the line dirty; a control register reads and is written whole or by halves; an AMO reads, operates
and writes in place, and a misaligned one raises address-misaligned, or in the control region and at a command slot an access
fault. To another node an aligned load waits for its request and a store goes on; a misaligned one traps, and with its engine
full the hart stalls. An address that names nothing is an access fault. A vector memory instruction runs its elements from
vstart on; at a fault vstart holds the element and the hart traps. (No error that the ECC finds, except in vector memory.) -/
def Obligations.DomeMemoryInstructions : Prop :=
  (∀ (h : Fin 64) (fp sgn : Bool) (size : Fin 4) (rd rs1 rs2 : Fin 32) (imm : Fin 4096) (s : State) (a n r : Nat),
    s.hartRuns h = true → a = ((s.hart h).xr rs1 + BitVec.ofNat 64 (sext64 12 imm)).toNat → n = 2 ^ size.val →
    (fp = false ∨ size ≠ 0) → r = (if fp then 32 + rd.val else rd.val) →
    (∀ l, s.domeTarget a = some (.here l) → isCommandPort l = false → isControl l = false → s.coreMay l n = true →
      (s.poisoned l n = false → exec (.domeLoadStore h false fp size sgn rd rs1 rs2 imm .clean) s =
        ok ((s.domeHold l n false).hartNext h r (domeValue r n sgn (leNat (s.readBytes l n))))) ∧
      (s.poisoned l n = true → exec (.domeLoadStore h false fp size sgn rd rs1 rs2 imm .clean) s =
        ok (s.hartTrap h Cause.hardware a))) ∧
    (∀ l (ecc : EccFind), s.domeTarget a = some (.here l) → isCommandPort l = false → isControl l = true →
      controlOk l n = true → ∀ u : State, u = s.counted (l / 8 * 8) →
      exec (.domeLoadStore h false fp size sgn rd rs1 rs2 imm ecc) s = ok ((if l / 8 * 8 = R.TB_NOW then u.latchFine h
        else u).hartNext h r (domeValue r n sgn (leNat (natLE n (u.regRead (l / 8 * 8) h >>> (8 * (l % 8)))))))) ∧
    (∀ (t : Target) (ecc : EccFind), s.domeTarget a = some t → t.remote = true →
      (a % n ≠ 0 → exec (.domeLoadStore h false fp size sgn rd rs1 rs2 imm ecc) s =
        ok (s.hartTrap h Cause.loadMisaligned a)) ∧
      (a % n = 0 → s.stalls (hartEngine h) t = true → ∀ store,
        exec (.domeLoadStore h store fp size sgn rd rs1 rs2 imm ecc) s = ok s) ∧
      (a % n = 0 → s.stalls (hartEngine h) t = false → exec (.domeLoadStore h false fp size sgn rd rs1 rs2 imm ecc) s =
        ok ((s.setHart h { s.hart h with remote := some (r, n, sgn) }).remoteLoad (hartEngine h) n t 0
          (.hart h r n sgn false))))) ∧
  (∀ (h : Fin 64) (fp sgn : Bool) (size : Fin 4) (rd rs1 rs2 : Fin 32) (imm : Fin 4096) (s : State) (a n : Nat) (bs : Bytes),
    s.hartRuns h = true → a = ((s.hart h).xr rs1 + BitVec.ofNat 64 (sext64 12 imm)).toNat → n = 2 ^ size.val →
    (fp = false ∨ size ≠ 0) → bs = natLE n (if fp then (s.hart h).fr rs2 else (s.hart h).xr rs2).toNat →
    (∀ l, s.domeTarget a = some (.here l) → isCommandPort l = false → isControl l = false →
      s.coreMay l n = true → s.ctxHit l n = none →
      exec (.domeLoadStore h true fp size sgn rd rs1 rs2 imm .clean) s = ok ((s.domePut h l bs).hartNext h 0 0)) ∧
    (∀ l (ecc : EccFind), s.domeTarget a = some (.here l) → isCommandPort l = false → isControl l = true →
      controlOk l n = true → exec (.domeLoadStore h true fp size sgn rd rs1 rs2 imm ecc) s =
        ok ((s.controlWrite l n (leNat bs)).hartNext h 0 0)) ∧
    (∀ (t : Target) (ecc : EccFind), s.domeTarget a = some t → t.remote = true →
      (a % n ≠ 0 → exec (.domeLoadStore h true fp size sgn rd rs1 rs2 imm ecc) s =
        ok (s.hartTrap h Cause.storeMisaligned a)) ∧
      (a % n = 0 → s.stalls (hartEngine h) t = false → s.weirTraps t = false →
        exec (.domeLoadStore h true fp size sgn rd rs1 rs2 imm ecc) s =
          ok ((s.hartNext h 0 0).remoteStore (hartEngine h) t 0 (clean bs) (.hartPost h))))) ∧
  (∀ (h : Fin 64) (store fp sgn : Bool) (size : Fin 4) (rd rs1 rs2 : Fin 32) (imm : Fin 4096) (ecc : EccFind)
    (s : State) (a : Nat),
    s.hartRuns h = true → a = ((s.hart h).xr rs1 + BitVec.ofNat 64 (sext64 12 imm)).toNat → (fp = false ∨ size ≠ 0) →
    s.domeTarget a = none → exec (.domeLoadStore h store fp size sgn rd rs1 rs2 imm ecc) s =
      ok (s.hartTrap h (if store then Cause.store else Cause.load) a)) ∧
  (∀ (h : Fin 64) (store sgn : Bool) (rd rs1 rs2 : Fin 32) (imm : Fin 4096) (ecc : EccFind) (s : State), s.hartRuns h = true →
    exec (.domeLoadStore h store true 0 sgn rd rs1 rs2 imm ecc) s = ok (s.hartTrap h Cause.illegal 0)) ∧
  (∀ (h : Fin 64) (op : AmoOp) (wide : Bool) (rd rs1 rs2 : Fin 32) (mres : Fin 3) (s : State) (a l : Nat), s.hartRuns h = true →
    a = ((s.hart h).xr rs1).toNat → a % (if wide then 8 else 4) = 0 → s.domeTarget a = some (.here l) →
    isCommandPort l = false → op ≠ .lr → op ≠ .sc →
    exec (.domeAmo h op wide rd rs1 rs2 mres .clean) s = ok (s.domeAmo h rd a l (if wide then 8 else 4)
      (mopCode (amoMop op) (b2n wide) (rd.val != 0) false) ((s.hart h).xr rs2).toNat)) ∧
  (∀ (s : State) (h rd a l size mop v : Nat), isCommandPort l = false → isControl l = false → s.coreMay l size = true →
    s.poisoned l size = false → ∀ t : State, t = s.domeHold l size false → t.coreMay l size = true →
    t.ctxHit l size = none → s.domeAmo h rd a l size mop v = (t.domePut h l (natLE size (mopElem mop
      (leNat (s.readBytes l size)) (v % 2 ^ (8 * size))))).hartNext h rd (loadValue size true (leNat (s.readBytes l size)))) ∧
  (∀ (h : Fin 64) (op : AmoOp) (wide : Bool) (rd rs1 rs2 : Fin 32) (mres : Fin 3) (ecc : EccFind) (s : State) (a : Nat),
    s.hartRuns h = true → a = ((s.hart h).xr rs1).toNat → a % (if wide then 8 else 4) ≠ 0 →
    (∀ l, s.domeTarget a = some (.here l) → isControl l = true ∨ isCommandPort l = true →
      exec (.domeAmo h op wide rd rs1 rs2 mres ecc) s =
        ok (s.hartTrap h (if op = .lr then Cause.load else Cause.store) a)) ∧
    ((∀ l, s.domeTarget a = some (.here l) → isControl l = false ∧ isCommandPort l = false) →
      exec (.domeAmo h op wide rd rs1 rs2 mres ecc) s =
        ok (s.hartTrap h (if op = .lr then Cause.loadMisaligned else Cause.storeMisaligned) a))) ∧
  (∀ (h : Fin 64) (addr : VAddr) (eew : Fin 4) (nf : Fin 8) (vm : Bool) (vd rs1 rs2 : Fin 32) (data : List (Byte × Bool))
    (dead refused : List Nat) (ecc : EccFinds) (s : State), s.hartRuns h = true →
    (∀ store, (s.hart h).access store addr eew nf vm vd rs2 = none →
      exec (.domeVectorMemory h store addr eew nf vm vd rs1 rs2 data dead refused ecc) s =
        ok ((s.eccAll ecc).hartTrap h Cause.illegal 0)) ∧
    (∀ (acc : VecAccess) (t : State) (y : Hart) (f : Option (Nat × Nat × Nat)),
      (s.hart h).access false addr eew nf vm vd rs2 = some acc →
      State.vecLoad h ((s.hart h).xr rs1).toNat vd acc ((List.range acc.count).drop (s.hart h).vstart) (s.eccAll ecc)
        (s.hart h) ⟨data, dead, refused⟩ = (t, y, f) →
      exec (.domeVectorMemory h false addr eew nf vm vd rs1 rs2 data dead refused ecc) s =
        ok (t.vecEnd h y (addr == .faultFirst) f)) ∧
    (∀ (acc : VecAccess) (t : State) (f : Option (Nat × Nat × Nat)),
      (s.hart h).access true addr eew nf vm vd rs2 = some acc →
      State.vecStore h ((s.hart h).xr rs1).toNat vd acc (s.hart h) ((List.range acc.count).drop (s.hart h).vstart)
        (s.eccAll ecc) = (t, f) →
      exec (.domeVectorMemory h true addr eew nf vm vd rs1 rs2 data dead refused ecc) s =
        ok (t.vecEnd h (t.hart h) false f))) ∧
  (∀ (s : State) (h i c a : Nat) (y : Hart) (first : Bool),
    s.vecEnd h y first none = (s.setHart h { y with vstart := 0, vecOn := true }).hartNext h 0 0 ∧
    (c ≠ 1 → first = false ∨ i = 0 ∨ c ≠ Cause.load → s.vecEnd h y first (some (i, c, a)) =
      (s.setHart h { y with vstart := i, vecOn := true }).hartTrap h c a))

/-- D.TIME gives step time in the Rate profile and is illegal elsewhere; D.TWAIT goes on once its target has passed and waits
otherwise. PKST sends the Weir's puts that hold the hart's stores and waits while a store of the hart is outstanding; then it
takes an aligned 64-byte packet from memory of this node or of another node of the pond, whose line is given, and submits it at
its Command Port slot. It traps on an address that is no slot, a misaligned one, one that names no memory, and on poison. -/
def Obligations.DomeTimeAndPacketStore : Prop :=
  (∀ (h : Fin 64) (rd : Fin 32) (now : Nat) (s u : State), s.hartRuns h = true → s.profile = 0 → s.reach now = some u →
    exec (.dTime h rd now) s = ok (u.hartNext h rd (BitVec.ofNat 64 u.now))) ∧
  (∀ (h : Fin 64) (rd : Fin 32) (now : Nat) (s : State), s.hartRuns h = true → s.profile ≠ 0 →
    exec (.dTime h rd now) s = ok ((s.ev F.NODE_PROFILE_EVENTS_EXACT_VIOL).hartTrap h Cause.illegal 0)) ∧
  (∀ (h : Fin 64) (rs1 : Fin 32) (s : State), s.hartRuns h = true → ((s.hart h).xr rs1).toNat ≤ s.now →
    exec (.dTwait h rs1) s = ok (s.hartNext h 0 0)) ∧
  (∀ (h : Fin 64) (rs1 : Fin 32) (s : State), s.hartRuns h = true → s.now < ((s.hart h).xr rs1).toNat →
    exec (.dTwait h rs1) s = ok (s.setHart h { s.hart h with twait := some ((s.hart h).xr rs1).toNat })) ∧
  (∀ (h : Fin 64) (t : Nat) (s u : State), (s.hart h).twait = some t → s.reach t = some u →
    exec (.dTwaitExpiry h) s = ok ((u.setHart h { u.hart h with twait := none }).hartNext h 0 0)) ∧
  (∀ (h : Fin 64) (s : State), (s.hart h).twait = none → exec (.dTwaitExpiry h) s = ok s) ∧
  (∀ (h : Fin 64) (rs1 rs2 : Fin 32) (far : Vector (BitVec 8) 64) (mark dead refused : Bool) (s u : State)
    (slot a k : Nat), s.hartRuns h = true → slot = ((s.hart h).xr rs1).toNat → a = ((s.hart h).xr rs2).toNat →
    k = (slot - 0xF00000000000) / 64 → u = s.flushOwned (· == .hartPost h) →
    (slot % 64 ≠ 0 → exec (.pkst h rs1 rs2 far mark dead refused) s = ok (s.hartTrap h Cause.storeMisaligned slot)) ∧
    (slot % 64 = 0 → a % 64 ≠ 0 → exec (.pkst h rs1 rs2 far mark dead refused) s =
      ok (s.hartTrap h Cause.storeMisaligned a)) ∧
    (slot % 64 = 0 → a % 64 = 0 → isCommandPort slot = false → exec (.pkst h rs1 rs2 far mark dead refused) s =
      ok (s.hartTrap h Cause.store slot)) ∧
    (slot % 64 = 0 → a % 64 = 0 → isCommandPort slot = true → u.owes (· == .hartPost h) = true →
      exec (.pkst h rs1 rs2 far mark dead refused) s = ok u) ∧
    (slot % 64 = 0 → a % 64 = 0 → isCommandPort slot = true → u.owes (· == .hartPost h) = false →
      (u.domeTarget a = none → exec (.pkst h rs1 rs2 far mark dead refused) s = ok (u.hartTrap h Cause.load a)) ∧
      (∀ l, u.domeTarget a = some (.here l) → isControl l = true ∨ isCommandPort l = true →
        exec (.pkst h rs1 rs2 far mark dead refused) s = ok (u.hartTrap h Cause.load a)) ∧
      (∀ l, u.domeTarget a = some (.here l) → isControl l = false → isCommandPort l = false → u.coreMay l 64 = true →
        (u.poisoned l 64 = true → exec (.pkst h rs1 rs2 far mark dead refused) s = ok (u.hartTrap h Cause.hardware a)) ∧
        (u.poisoned l 64 = false → exec (.pkst h rs1 rs2 far mark dead refused) s =
          ok (((u.domeHold l 64 false).slotSubmit k (u.readBytes l 64)).hartNext h 0 0))) ∧
      (∀ node l, u.domeTarget a = some (.pond node l) →
        (refused = true → exec (.pkst h rs1 rs2 far mark dead refused) s =
          ok ((u.semEvent St.addressRefused).hartTrap h Cause.load a)) ∧
        (refused = false → dead = true → exec (.pkst h rs1 rs2 far mark dead refused) s =
          ok (((u.semEvent St.targetDead).slotSubmit k (natLE 64 (leNat (deadBytes a 64)))).hartNext h 0 0)) ∧
        (refused = false → dead = false → mark = true → exec (.pkst h rs1 rs2 far mark dead refused) s =
          ok (u.hartTrap h Cause.hardware a)) ∧
        (refused = false → dead = false → mark = false → exec (.pkst h rs1 rs2 far mark dead refused) s =
          ok ((u.slotSubmit k far.toList).hartNext h 0 0)))))

/-! ## The Solver Engine (chapter 9) -/

/-- A terrace's Solver Engine runs the solve it holds when the row is of its OP and no held twin covers an operand: what the ECC
finds and the residue retries take effect first. A kernel writes its words and counts its work, and has its status; a
factorisation writes the slot that is not current and leaves the header to SOLVE_COMPLETE; an iterative solve starts once and
runs the given number of iterations. Poison, or a structure that fails its check, stops a kernel with that status and its words
written in part or with free values (Table 9.7); a recompute that fails again ends the run with RESIDUE_MISMATCH. With no such
solve nothing happens. DOT gives the rounded dot product of A and B. -/
def Obligations.SolverRunsItsOperation : Prop :=
  (∀ (t : Fin 16) (retries : Nat) (fail : Bool) (ecc : EccFinds) (s u v : State) (r : SolveRun) (st : Nat) (c : SArith)
    (ws : List (Nat × Int)) (macs f : Nat), u = (s.eccAll ecc).svResidue t retries fail → u.kernel r = (st, c, ws, macs, f) →
    v = (if st = St.poisonConsumed ∨ st = St.badParam then (u.svScramble t r).keepRun t { r with status := some st }
      else if fail then (u.svPartial t ws).keepRun t { u.partRun r c 0 with status := some St.residueMismatch }
      else ((u.svWriteAt t ws).svMacs t macs).keepRun t { r with status := some st, range := c.range, failIndex := f }) →
    (s.activeRun t 1 = some r → exec (.dot t retries fail ecc) s = ok v) ∧
    (s.activeRun t 2 = some r → exec (.axpy t retries fail ecc) s = ok v) ∧
    (s.activeRun t 3 = some r → exec (.spmv t retries fail ecc) s = ok v) ∧
    (s.activeRun t 4 = some r → exec (.trsolve t retries fail ecc) s = ok v)) ∧
  (∀ (t : Fin 16) (retries : Nat) (fail : Bool) (ecc : EccFinds) (s u : State) (r r' : SolveRun) (st : Nat) (f : FactSt)
    (c : SArith) (k : Nat) (v : Nat → State), u = (s.eccAll ecc).svResidue t retries fail →
    r' = { r with fp := u.fingerprint r } → u.factorise r' = (st, f, c, k) →
    (∀ op, v op = (if fail = true ∧ (st = 0 ∨ st = St.rangeExceeded) then
        (u.slotPart t r' st f).keepRun t { u.partRun r' c (k - 1) with status := some St.residueMismatch }
      else if st ≠ 0 then (u.slotPart t r' st f).keepRun t { r' with
        status := some st, range := c.range, k := k, failIndex := (match f.fail with | some (i, _) => i | none => 0) }
      else ((((u.svWriteAt t (slotWords r' f)).svMacs t (factMacs op (svN r.desc) (svNc r.desc))).keepRun t { r' with
        status := some St.ok, range := c.range, k := k }).wr (F.SOLV_STATUS_PHASE t) 2))) →
    (s.activeRun t 5 = some r → exec (.chol t retries fail ecc) s = ok (v 5)) ∧
    (s.activeRun t 6 = some r → exec (.ldlt t retries fail ecc) s = ok (v 6)) ∧
    (s.activeRun t 7 = some r → exec (.lu t retries fail ecc) s = ok (v 7)) ∧
    (s.activeRun t 8 = some r → exec (.qr t retries fail ecc) s = ok (v 8))) ∧
  (∀ (t : Fin 16) (n retries : Nat) (fail failed : Bool) (ecc : EccFinds) (s s1 s2 v : State) (r r1 r2 : SolveRun),
    (if r.started then (s.eccAll ecc, r) else (s.eccAll ecc).iterStart t r) = (s1, r1) → iterRun t n s1 r1 = (s2, r2) →
    failed = (fail && r2.status.isNone) →
    v = (s2.svResidue t retries failed).keepRun t (if failed then { r2 with status := some St.residueMismatch } else r2) →
    (s.activeRun t 9 = some r → exec (.cg t n retries fail ecc) s = ok v) ∧
    (s.activeRun t 10 = some r → exec (.bicgstab t n retries fail ecc) s = ok v) ∧
    (s.activeRun t 11 = some r → exec (.gmres t n retries fail ecc) s = ok v)) ∧
  (∀ (t : Fin 16) (n k : Nat) (fail : Bool) (ecc : EccFinds) (s : State),
    (s.activeRun t 1 = none → exec (.dot t k fail ecc) s = ok s) ∧ (s.activeRun t 2 = none → exec (.axpy t k fail ecc) s = ok s) ∧
    (s.activeRun t 3 = none → exec (.spmv t k fail ecc) s = ok s) ∧
    (s.activeRun t 4 = none → exec (.trsolve t k fail ecc) s = ok s) ∧
    (s.activeRun t 5 = none → exec (.chol t k fail ecc) s = ok s) ∧ (s.activeRun t 6 = none → exec (.ldlt t k fail ecc) s = ok s) ∧
    (s.activeRun t 7 = none → exec (.lu t k fail ecc) s = ok s) ∧ (s.activeRun t 8 = none → exec (.qr t k fail ecc) s = ok s) ∧
    (s.activeRun t 9 = none → exec (.cg t n k fail ecc) s = ok s) ∧
    (s.activeRun t 10 = none → exec (.bicgstab t n k fail ecc) s = ok s) ∧
    (s.activeRun t 11 = none → exec (.gmres t n k fail ecc) s = ok s)) ∧
  (∀ (s : State) (r : SolveRun), svOp r.desc = 1 → s.poisoned (svB r.desc) (8 * svN r.desc) = false →
    s.poisoned (svA r.desc) (8 * svN r.desc) = false →
    ∀ (q : Int) (c : SArith), (SArith.mk r.exps none).rnd ((SArith.mk r.exps none).dot (s.readQ (svA r.desc) (svN r.desc))
      Role.a (s.readQ (svB r.desc) (svN r.desc)) Role.b) Role.x 0 = (q, c) →
    s.kernel r = (if c.range.isSome then St.rangeExceeded else St.ok, c, [(svX r.desc, q)], svN r.desc, 0)) ∧
  (∀ (s : State) (r : SolveRun), svOp r.desc ≤ 2 → s.poisoned (svB r.desc) (8 * svN r.desc) = true ∨
    s.poisoned (svA r.desc) (8 * svN r.desc) = true → (s.kernel r).1 = St.poisonConsumed)

/-- SOLVE accepts the descriptor of idle terraces outside every job and starts it on the terrace, or on both members of a Sealed
pair; it refuses a terrace that does not exist with BAD_PARAM and a busy one with BUSY; an accepted one whose descriptor is not
aligned or not backed, or that an engine does not take, ends at once with its status. A solve that has its status completes with
its result record: an iterative one that converged puts its last iterate at X and writes the warm block, a factorisation
commits its header. A deadline that comes first ends a solve. -/
def Obligations.SolvesAcceptAndComplete : Prop :=
  (∀ (s u : State) (q : Sub), s.takes q Op.solve u →
    (15 < q.p 0 1 ∨ u.sealed = true ∧ 7 < q.p 0 1 → exec .solve s = ok (u.refuse q St.badParam)) ∧
    (q.p 0 1 ≤ 15 → u.sealed = false ∨ q.p 0 1 ≤ 7 →
      ((∃ x ∈ u.members (q.p 0 1), bit u.jobMask x = true ∨ u.rd (F.SOLV_STATUS_STATE x) ≠ 0) ∨
        u.flag F.NODE_PROFILE_SWITCHING = true → exec .solve s = ok (u.refuse q St.busy)) ∧
      ((∀ x ∈ u.members (q.p 0 1), bit u.jobMask x = false ∧ u.rd (F.SOLV_STATUS_STATE x) = 0) →
        u.flag F.NODE_PROFILE_SWITCHING = false → ∀ (w : State) (h : Nat), u.accept q = (w, h) →
        (2 ^ 48 ≤ q.p 8 8 ∨ q.p 8 8 % 64 ≠ 0 ∨ w.backed (q.p 8 8) 128 = false →
          exec .solve s = ok (w.complete h St.badParam 0 [])) ∧
        (q.p 8 8 < 2 ^ 48 → q.p 8 8 % 64 = 0 → w.backed (q.p 8 8) 128 = true → ∀ (v : State) (sts : List Nat),
          (u.members (q.p 0 1)).foldl (fun (acc : State × List Nat) x =>
            (((acc.1.solveStart x (q.p 8 8) (w.readBytes (q.p 8 8) 128) (w.poisoned (q.p 8 8) 128) none (some h)
              q.deadline).1), acc.2 ++ [((acc.1.solveStart x (q.p 8 8) (w.readBytes (q.p 8 8) 128)
              (w.poisoned (q.p 8 8) 128) none (some h) q.deadline).2)]))
            (forEach (u.members (q.p 0 1)) w (fun x y => y.setPower x 2), []) = (v, sts) →
          ((∀ st ∈ sts, st = 0) → exec .solve s = ok v) ∧
          (∀ st, sts.find? (· != 0) = some st → exec .solve s = ok ((forEach (u.members (q.p 0 1))
            ({ v with solver := v.solver.filter (fun e => e.2.handle != some h) } : State)
            (fun x y => (y.wr (F.SOLV_STATUS_STATE x) 0).settlePower x)).complete h st 0 [])))))) ∧
  (∀ (t : Fin 16) (cycles st : Nat) (s u : State) (r : SolveRun), mfind s.solver t = some r → r.status = some st →
    u = s.incw (F.SOLV_BUSY_VALUE t) cycles →
    (st ≠ St.ok ∨ (svIter r.desc = false ∧ svFact r.desc = false) →
      exec (.solveComplete t cycles) s = ok ((u.recordRun t r st).endRun t r st)) ∧
    (st = St.ok → svIter r.desc = false → svFact r.desc = true → ∀ v : State, v = u.svBytes t (svX r.desc) (u.fsHeader r) →
      exec (.solveComplete t cycles) s = ok ((v.recordRun t r St.ok).endRun t r St.ok)) ∧
    (st = St.ok → svIter r.desc = true → ∀ (v w x : State) (r' : SolveRun) (st' : Nat), r' = { r with lastBuf := 0 } →
      v = (if r.lastBuf = 1 then u.svWrite t (svX r.desc) r.x else u) →
      w = (v.svBytes t (svWarmAddr r.desc + 2) [0]).svWrite t (svWarmAddr r.desc + 64) r.x →
      x = (if svWarm r.desc then (w.svBytes t (svWarmAddr r.desc) (w.warmHeader r')).wrReg (R.SOLV_WARM_FP t) r.fp else v) →
      st' = (if r.warmRej then St.warmRejected else St.ok) →
      exec (.solveComplete t cycles) s = ok ((x.recordRun t r' st').endRun t r' st'))) ∧
  (∀ (t : Fin 16) (cycles : Nat) (warm : Bool) (s : State), mfind s.solver t = none →
    exec (.solveComplete t cycles) s = ok s ∧ exec (.solveDeadline t warm cycles) s = ok s) ∧
  (∀ (t : Fin 16) (cycles : Nat) (s : State) (r : SolveRun), mfind s.solver t = some r → r.status = none →
    exec (.solveComplete t cycles) s = ok s) ∧
  (∀ (t : Fin 16) (warm : Bool) (cycles : Nat) (s : State) (r : SolveRun), mfind s.solver t = some r →
    (r.deadline = 0 ∨ s.reach r.deadline = none → exec (.solveDeadline t warm cycles) s = ok s) ∧
    (∀ u, r.deadline ≠ 0 → s.reach r.deadline = some u →
      (u.deadlineRun t r warm = none → exec (.solveDeadline t warm cycles) s = ok u) ∧
      (∀ (v : State) (r' : SolveRun) (st : Nat), u.deadlineRun t r warm = some (v, r', st) →
        exec (.solveDeadline t warm cycles) s =
          ok ((((v.keepRun t r').incw (F.SOLV_BUSY_VALUE t) cycles).recordRun t r' st).endRun t r' st))))

/-! ## Memory (chapter 10) -/

/-- A memory-side operation of an engine of this node is performed at its home, after what the ECC finds, and its reply sent to the
engine. An element-sized operation that R236 allows on unpoisoned bytes writes the element the operation gives, answers the old
element when it fetches, and is counted; a compare-and-swap that does not match writes nothing; one that R236 does not allow
changes no byte and is refused; one other than SWAP on a poisoned element leaves its bytes. When the adder's residue mismatches
again the element becomes poison, a fetch answers poison, and the status is RESIDUE_MISMATCH; a recompute that matches is counted.
A pinned list that passes R231's checks becomes live at once without a job and waits for its step boundary with one; one
that fails sets ERROR and PIN_ERROR. A disarm in time drops the armed set. A finished fill clears FILLING and holds as
ordinary the lines beyond 8 ways, with PIN_OVERFLOW. The scrub marks an uncorrectable line poisoned and counts what it
finds; with scrubbing off it changes nothing. An error that an access meets is counted with its event and, when
uncorrectable, poisons the tier's line or the SRAM's word. -/
def Obligations.MemoryOperationsPinningAndScrub : Prop :=
  ((∀ (e : Fin 24) (a : Nat) (ty : Fin 8) (fetch line mx : Bool) (k : Fin 3) (v : Bytes) (retries : Nat) (bad : List Nat)
    (ecc : EccFinds) (s x u : State) (r : MopResult), x = s.eccAll ecc →
    ∀ w : State, w = u.send .fabricReply u.nodeId [r.status, u.nodeId * 32 + e.val, 0, 0, r.poison] r.old →
    (x.mopAt a (mopCode 0 ty fetch line) v retries bad = (u, r) →
      exec (.mopAdd e a ty fetch line v retries bad ecc) s = ok w) ∧
    (x.mopAt a (mopCode (if mx then 2 else 1) ty fetch line) v retries bad = (u, r) →
      exec (.mopMinMax e a mx ty fetch line v retries bad ecc) s = ok w) ∧
    (x.mopAt a (mopCode (if mx then 9 else 8) ty fetch line) v retries bad = (u, r) →
      exec (.mopMinuMaxu e a mx ty fetch line v retries bad ecc) s = ok w) ∧
    (x.mopAt a (mopCode (3 + k.val) ty fetch line) v = (u, r) → exec (.mopAndOrXor e a k ty fetch line v ecc) s = ok w) ∧
    (x.mopAt a (mopCode 6 ty true false) v = (u, r) → exec (.mopSwap e a ty v ecc) s = ok w) ∧
    (x.mopAt a (mopCode 7 ty true false) v = (u, r) → exec (.mopCas e a ty v ecc) s = ok w)) ∧
  (∀ (a m : Nat) (v : Bytes) (s u : State), mopAligned a m = true → mopLine m = false → mopOp m ≠ 7 →
    v.length = mopBytes m → s.homeStatus a (mopBytes m) true = St.ok → u = s.touch a (mopBytes m) →
    u.poisoned a (mopBytes m) = false →
    (s.mopAt a m v).1 = (u.rawWrite a (natLE (mopBytes m) (mopElem m (u.readNat a (mopBytes m)) (fld v 0 (mopBytes m))))).incw
      F.MEM_MOP_COUNTS_OPS ∧
    (s.mopAt a m v).2.status = St.ok ∧
    (s.mopAt a m v).2.old = (if mopFetch m then s.readBytes a (mopBytes m) else [])) ∧
  (∀ (a m : Nat) (v : Bytes) (s u : State), mopAligned a m = true → mopLine m = false → mopOp m = 7 →
    v.length = 2 * mopBytes m → s.homeStatus a (mopBytes m) true = St.ok → u = s.touch a (mopBytes m) →
    u.poisoned a (mopBytes m) = false →
    u.readNat a (mopBytes m) ≠ fld v 0 (2 * mopBytes m) % 2 ^ (8 * mopBytes m) →
    (s.mopAt a m v).1 = u.incw F.MEM_MOP_COUNTS_OPS ∧ (s.mopAt a m v).2.status = St.ok) ∧
  (∀ (a m : Nat) (v : Bytes) (s u : State), mopAligned a m = true → mopLine m = false → mopOp m ≠ 6 →
    v.length = (if mopOp m = 7 then 2 * mopBytes m else mopBytes m) → s.homeStatus a (mopBytes m) true = St.ok →
    u = s.touch a (mopBytes m) → u.poisoned a (mopBytes m) = true →
    (s.mopAt a m v).1 = (u.ev F.MEM_EVENTS_MOP_POISON).incw F.MEM_MOP_COUNTS_OPS ∧ (s.mopAt a m v).2.status = St.ok) ∧
  (∀ (a m : Nat) (v : Bytes) (s : State), mopAligned a m = false →
    s.homeStatus a (if mopLine m then 64 else mopBytes m) true ≠ St.nodeResetting →
    s.mopAt a m v = ((s.ev F.MEM_EVENTS_MOP_REFUSED).inc F.MEM_MOP_COUNTS_REFUSED, ⟨St.addressRefused, [], 0⟩)) ∧
  (∀ (a m : Nat) (v : Bytes) (s : State), s.homeStatus a (if mopLine m then 64 else mopBytes m) true = St.nodeResetting →
    s.mopAt a m v = (s, ⟨St.nodeResetting, [], 0⟩)) ∧
  (∀ (a m : Nat) (v : Bytes) (s : State), mopAdder m = true → mopLine m = false → (s.mopAt a m v).2.status = St.ok →
    (s.mopAt a m v 0 [0]).1 =
      ((s.mopAt a m v).1.residue F.NODE_CHECK_EVENTS_MOP_RESIDUE 0 1).setPoison (wordsOf a (mopBytes m)) ∧
    (s.mopAt a m v 0 [0]).2.status = St.residueMismatch ∧ (s.mopAt a m v 0 [0]).2.old = (s.mopAt a m v).2.old ∧
    (mopFetch m = true → (s.mopAt a m v 0 [0]).2.poison ≠ 0) ∧
    s.mopAt a m v 1 [] = ((s.mopAt a m v).1.residue F.NODE_CHECK_EVENTS_MOP_RESIDUE 1 0, (s.mopAt a m v).2)) ∧
  (∀ m x y : Nat, mopOp m = 0 → mopFloat m = false → mopElem m x y % 2 ^ (8 * mopBytes m) = (x + y) % 2 ^ (8 * mopBytes m))) ∧
  ((∀ (n : Nat) (s u : State), s.rd F.CIST_STATUS_ARMED = 0 → u = s.wr F.CIST_PIN_CTRL_COUNT n →
    ∀ base code : Nat, base = u.rd F.CIST_PIN_LIST_BASE * 16 → code = u.pinCheck (u.rd F.CIST_PIN_CTRL_COUNT) base →
    ∀ set : List (Nat × Nat), set = (List.range (u.rd F.CIST_PIN_CTRL_COUNT)).map
      (fun i => (u.readNat (base + 16 * i) 8, u.readNat (base + 16 * i + 8) 4)) →
    (code ≠ 0 → exec (.cistPinArm n) s = ok ((u.wr F.CIST_PIN_CTRL_ERROR code).ev F.CIST_EVENTS_PIN_ERROR)) ∧
    (code = 0 → s.admitted = false → exec (.cistPinArm n) s = ok ((u.wr F.CIST_PIN_CTRL_ERROR 0).pinLive set)) ∧
    (code = 0 → s.admitted = true → ∀ v : State, v = { u.wr F.CIST_PIN_CTRL_ERROR 0 with pinned := { s.pinned with armed := some set } } →
      exec (.cistPinArm n) s = ok ((v.wr F.CIST_STATUS_ARMED 1).wr F.CIST_PIN_ARM_STEP_STEP v.boundStep))) ∧
  (∀ (n : Nat) (s : State), s.rd F.CIST_STATUS_ARMED = 1 → exec (.cistPinArm n) s =
    ok (((s.wr F.CIST_PIN_CTRL_COUNT n).wr F.CIST_PIN_CTRL_ERROR 6).ev F.CIST_EVENTS_PIN_ERROR)) ∧
  (∀ s u : State, u = { s with pinned := { s.pinned with armed := none } } →
    (s.rd F.CIST_STATUS_ARMED = 1 → s.tooLate (s.rd F.CIST_PIN_ARM_STEP_STEP) = false →
      exec .cistPinDisarm s = ok ((u.wr F.CIST_STATUS_ARMED 0).wr F.CIST_PIN_CTRL_ERROR 0)) ∧
    (s.rd F.CIST_STATUS_ARMED = 1 → s.tooLate (s.rd F.CIST_PIN_ARM_STEP_STEP) = true →
      exec .cistPinDisarm s = ok ((s.wr F.CIST_PIN_CTRL_ERROR 6).ev F.CIST_EVENTS_PIN_ERROR)) ∧
    (s.rd F.CIST_STATUS_ARMED = 0 → exec .cistPinDisarm s = ok (s.wr F.CIST_PIN_CTRL_ERROR 0))) ∧
  (∀ (ordinary : List Nat) (s u : State), u = { s with pinned := { s.pinned with ordinary := ordinary } } →
    (s.rd F.CIST_STATUS_FILLING = 1 → ordinary = [] →
      exec (.pinnedFillComplete ordinary) s = ok (u.wr F.CIST_STATUS_FILLING 0)) ∧
    (s.rd F.CIST_STATUS_FILLING = 1 → ordinary ≠ [] →
      exec (.pinnedFillComplete ordinary) s = ok ((u.wr F.CIST_STATUS_FILLING 0).ev F.CIST_EVENTS_PIN_OVERFLOW)) ∧
    (s.rd F.CIST_STATUS_FILLING = 0 → exec (.pinnedFillComplete ordinary) s = ok s)) ∧
  (∀ (line : Nat) (die : Fin 16) (last : Bool) (s : State) (give : State → Out), s.rd F.MEM_SCRUB_ENABLE = 1 →
    line % 64 = 0 → inTiers line 64 = true → (∀ u, give u = ok (if last then u.scrubPass else u)) →
    exec (.scrubAccess line (.uncorrected die) last) s =
      give (((((s.inc F.MEM_ECC_COUNTS_POISONED_LINES).ev F.MEM_EVENTS_POISONED).ev F.MEM_EVENTS_SCRUB_POISON).memError line
        die true).setPoison (wordsOf line 64) |>.eccNote line true) ∧
    exec (.scrubAccess line (.corrected die) last) s =
      give ((((s.inc F.MEM_ECC_COUNTS_CORRECTED).ev F.MEM_EVENTS_CORRECTED).memError line die false).eccNote line false) ∧
    exec (.scrubAccess line .clean last) s = give s) ∧
  (∀ (line : Nat) (f : ScrubFind) (last : Bool) (s : State),
    s.rd F.MEM_SCRUB_ENABLE = 0 ∨ line % 64 ≠ 0 ∨ inTiers line 64 = false → exec (.scrubAccess line f last) s = ok s) ∧
  (∀ (a n line : Nat) (die : Fin 16) (last : Bool) (s : State), isScratch a = false →
    line = (if last then a + n - 1 else a) / 64 * 64 →
    s.eccFound a n (.tier false last die) =
      (((s.inc F.MEM_ECC_COUNTS_CORRECTED).ev F.MEM_EVENTS_CORRECTED).memError line die false).eccNote line false ∧
    s.eccFound a n (.tier true last die) = ((((s.inc F.MEM_ECC_COUNTS_POISONED_LINES).ev F.MEM_EVENTS_POISONED).memError line
      die true).eccNote line true).setPoison (wordsOf line 64)) ∧
  (∀ (a n w k : Nat) (last dome : Bool) (s : State), isScratch a = true → w = (if last then a + n - 1 else a) / 8 * 8 →
    k = (w - scratchBase) / 0x200000 →
    s.eccFound a n (.sram false last dome) = ((s.wr (F.SPIRE_SP_ECC_LAST_BANK k) (bits w 6 4)).inc
      (F.SPIRE_SP_ECC_CORRECTED k)).ev (F.SPIRE_EVENTS_ECC_CORRECTED k) ∧
    s.eccFound a n (.sram true last dome) = (((s.wr (F.SPIRE_SP_ECC_LAST_BANK k) (bits w 6 4)).inc
      (F.SPIRE_SP_ECC_POISONED k)).ev (F.SPIRE_EVENTS_ECC_POISON k)).setPoison [w / 8]) ∧
  (∀ (a n w : Nat) (last dome : Bool) (s : State), isScratch a = false → w = (if last then a + n - 1 else a) / 8 * 8 →
    (s.eccFound a n (.sram true last dome)).poisonAt w = true ∧
    (s.eccFound a n (.sram true last dome)).rd F.MEM_EVENTS_POISONED = 1 ∧
    (s.eccFound a n (.sram false last dome)).rd F.MEM_EVENTS_CORRECTED = 1 ∧ s.keepsMem (s.eccFound a n (.sram false last dome))))

/-! ## Fabric memory semantics (chapter 11) -/

/-- A home answers a read with the bytes and marks of its memory, or with the status that refuses it; a write-type request is
performed when it is the next of its source, answered from its replay entry when it was performed before, dropped when one
before it is lacking, and answered BACKOFF when its line has no place, or no replay entry or record is free, which leaves the
line's queue as it was; an ACK frees replay entries; a packet that fails its checks is dropped. -/
def Obligations.FabricRequestsAtTheHome : Prop :=
  (∀ (p : Bytes) (at10 sz n a st : Nat) (ecc : EccFinds) (s v : State), sz = fld p 5 1 →
    v = (s.homeSeen p at10).eccAll ecc → a = fld p 8 6 → st = v.homeStatus a n false →
    ∀ w : State, (st = St.ok → bits (fld p 1 1) 0 2 ≠ 2 → w = v.replyReq p St.ok 0 (v.readBytes a n)
        (maskOf ((List.range ((a % 8 + n + 7) / 8)).filter (fun i => v.poisonAt (a / 8 * 8 + 8 * i))))) →
      (st = St.ok → bits (fld p 1 1) 0 2 = 2 → w = (v.replyReq p St.ok 0 (v.readBytes a n)
        (maskOf ((List.range ((a % 8 + n + 7) / 8)).filter (fun i => v.poisonAt (a / 8 * 8 + 8 * i))))).discard a n) →
      (st ≠ St.ok → w = (v.noteRefl a n).replyReq p st 0 [] 0) →
      (reqOk p Kind.read = true → (sz ≤ 3 ∨ sz = 6) → n = 2 ^ sz → exec (.fabricRead p at10 ecc) s = ok w) ∧
      (reqOk p Kind.bulkGet = true → sz = 12 → n = 4096 → exec (.fabricBulkGet p at10 ecc) s = ok w)) ∧
  (∀ (p : Bytes) (poison at10 retries : Nat) (bad : List Nat) (ecc : EccFinds) (s : State),
    (reqOk p Kind.write = true → exec (.fabricWrite p poison at10) s = ok (s.homeWrite p poison at10)) ∧
    (reqOk p Kind.mop = true → exec (.fabricMop p at10 retries bad ecc) s = ok (s.homeWrite p 0 at10 retries bad ecc)) ∧
    (reqOk p Kind.bulkPut = true → exec (.fabricBulkPut p poison at10) s = ok (s.homeWrite p poison at10)) ∧
    (reqOk p Kind.ack = true → exec (.fabricAck p at10) s = ok (s.homeSeen p at10)) ∧
    (reqOk p Kind.write = false → exec (.fabricWrite p poison at10) s = ok s) ∧
    (reqOk p Kind.mop = false → exec (.fabricMop p at10 retries bad ecc) s = ok s) ∧
    (reqOk p Kind.bulkPut = false → exec (.fabricBulkPut p poison at10) s = ok s) ∧
    (reqOk p Kind.ack = false → exec (.fabricAck p at10) s = ok s) ∧
    (reqOk p Kind.read = false ∨ 3 < fld p 5 1 ∧ fld p 5 1 ≠ 6 → exec (.fabricRead p at10 ecc) s = ok s) ∧
    (reqOk p Kind.bulkGet = false ∨ fld p 5 1 ≠ 12 → exec (.fabricBulkGet p at10 ecc) s = ok s)) ∧
  (∀ (p : Bytes) (poison at10 retries src seq d : Nat) (bad : List Nat) (ecc : EccFinds) (s v : State) (r r' : SrcRec),
    src = fld p 16 3 % 2 ^ 20 → seq = fld p 20 4 →
    (mfind s.fab.recs src = some r ∨ mfind s.fab.recs src = none ∧ s.fab.recs.length < 65535 ∧ r = ⟨seq, at10, []⟩) →
    r' = { r with last := at10, entries := r.entries.filter (fun e => (e.seq + 2 ^ 32 - fld p 24 4) % 2 ^ 32 < 2 ^ 31) } →
    v = s.setRec src r' → d = (seq + 2 ^ 32 - r.next) % 2 ^ 32 →
    (∀ e : ReplayEntry, 2 ^ 31 ≤ d → r'.entries.find? (fun e => e.seq == seq) = some e →
      s.homeWrite p poison at10 retries bad ecc =
        ((v.inc F.FAB_REPLAY_COUNTS_REPLAYS).ev F.FAB_SEM_EVENTS_REPLAY_HIT).replyReq p e.status 0 e.data e.poison) ∧
    (2 ^ 31 ≤ d → r'.entries.find? (fun e => e.seq == seq) = none → s.homeWrite p poison at10 retries bad ecc = v) ∧
    (d < 2 ^ 31 → d ≠ 0 → s.homeWrite p poison at10 retries bad ecc = v) ∧
    (∀ (u : State) (w : Nat), d = 0 → v.lineAdmit (fld p 8 6 / 64 * 64) src seq at10 = (u, some w) →
      s.homeWrite p poison at10 retries bad ecc = u.replyReq p St.backoff w [] 0) ∧
    (∀ u : State, d = 0 → v.lineAdmit (fld p 8 6 / 64 * 64) src seq at10 = (u, none) →
      1024 ≤ r'.entries.length ∨ 65536 ≤ v.rd F.FAB_REPLAY_ENTRIES →
      s.homeWrite p poison at10 retries bad ecc = v.replyReq p St.backoff 2000 [] 0) ∧
    (∀ (u x y : State) (m : MopResult), d = 0 → v.lineAdmit (fld p 8 6 / 64 * 64) src seq at10 = (u, none) →
      r'.entries.length < 1024 → v.rd F.FAB_REPLAY_ENTRIES < 65536 →
      (u.eccAll ecc).performReq p poison retries bad = (x, m) →
      (m.status = St.ok ∨ m.status = St.residueMismatch → y = x.noteArrival src (fld p 8 8) (fld p 2 2) ((p.take (p.length - 8)).drop 32)) →
      (m.status ≠ St.ok → m.status ≠ St.residueMismatch → y = x) →
      s.homeWrite p poison at10 retries bad ecc = (y.setRec src { r' with
        next := (r'.next + 1) % 2 ^ 32
        entries := r'.entries ++ [⟨seq, m.status, m.old, m.poison⟩] }).replyReq p m.status 0 m.old m.poison)) ∧
  (∀ (p : Bytes) (poison at10 retries : Nat) (bad : List Nat) (ecc : EccFinds) (s : State),
    mfind s.fab.recs (fld p 16 3 % 2 ^ 20) = none → 65535 ≤ s.fab.recs.length →
    s.homeWrite p poison at10 retries bad ecc = s.replyReq p St.backoff 2000 [] 0) ∧
  (∀ (p : Bytes) (poison a : Nat) (body : Bytes) (s : State), a = fld p 8 6 → body = (p.take (p.length - 8)).drop 32 →
    (fld p 0 1 % 16 = Kind.write → s.homeStatus a body.length true = St.ok →
      s.performReq p poison = (s.writeMarked a body poison, ⟨St.ok, [], 0⟩)) ∧
    (fld p 0 1 % 16 = Kind.write → s.homeStatus a body.length true ≠ St.ok →
      s.performReq p poison = (s.noteCtx a body.length, ⟨s.homeStatus a body.length true, [], 0⟩)) ∧
    (fld p 0 1 % 16 = Kind.bulkPut → s.homeStatus a 4096 true = St.ok →
      s.performReq p poison = (s.putMasked a (sub body 0 4096) (fld body 4096 512) poison, ⟨St.ok, [], 0⟩)) ∧
    (fld p 0 1 % 16 = Kind.bulkPut → s.homeStatus a 4096 true ≠ St.ok →
      s.performReq p poison = (s.noteCtx a 4096, ⟨s.homeStatus a 4096 true, [], 0⟩)) ∧
    (fld p 0 1 % 16 = Kind.mop → ∀ (retries : Nat) (bad : List Nat),
      s.performReq p poison retries bad = s.mopAt a (fld p 2 2) body retries bad)) ∧
  (∀ (src : Fin 1048576) (at10 : Nat) (s : State) (r : SrcRec), mfind s.fab.recs src = some r →
    (10000000 + r.last ≤ at10 → exec (.sourceRecordExpiry src at10) s =
      ok ({ s with fab := { s.fab with recs := mdel s.fab.recs src } } : State).showReplay) ∧
    (at10 < 10000000 + r.last → exec (.sourceRecordExpiry src at10) s = ok s)) ∧
  (∀ (src : Fin 1048576) (at10 : Nat) (s : State), mfind s.fab.recs src = none →
    exec (.sourceRecordExpiry src at10) s = ok s) ∧
  (∀ (line : Nat) (src : Fin 1048576) (seq : Fin 4294967296) (at10 : Nat) (s : State) (q : LineQueue),
    mfind s.fab.lines line = some q → exec (.ticketReservationExpiry line src seq at10) s = ok (s.setLine line at10 { q with
      tickets := q.tickets.filter (fun t => !(t.1 == src.val && t.2.1 == seq.val && t.2.2 + 20000 < at10)) })) ∧
  (∀ (line : Nat) (src : Fin 1048576) (seq : Fin 4294967296) (at10 : Nat) (s : State), mfind s.fab.lines line = none →
    exec (.ticketReservationExpiry line src seq at10) s = ok s)

/-- A source sends an unreplied request again up to three times, a write-type one with every other of its destination, under the
version in force; a reply concludes its request, a BACKOFF reply holds it and those after it until the wait is over, when each
goes under its own version; without a reply by the bound a request ends TARGET_DEAD, a memory-side operation
ATOMIC_INDETERMINATE; a dead load reads the bytes of R261 and a failed posted store is recorded; an ACK owed is sent. -/
def Obligations.FabricRequestsAtTheSource : Prop :=
  (∀ (tag : Nat) (s u : State) (r : Req), s.fab.reqs.find? (fun r => r.tag == tag) = some r →
    u = { s with fab := { s.fab with
      reqs := s.fab.reqs.map (fun x => if x.tag == tag then { x with sends := x.sends + 1 } else x) } } →
    (1 ≤ r.sends → r.sends ≤ 3 → ∀ l : List Req,
      (writeType r.kind = true → l = (u.outTo r.engine r.dest).filter (fun x => !x.held && writeType x.kind)) →
      (writeType r.kind = false → l = (u.outTo r.engine r.dest).filter (fun x => !x.held && x.tag == r.tag)) →
      (r.engine < 20 → exec (.requestRetransmit tag) s = ok (l.foldl (fun v x =>
        (v.sendAgain { x with ver := v.liveVer }).inc (F.FAB_RAE_OUT_RETRANSMITS r.engine)) u)) ∧
      (20 ≤ r.engine → exec (.requestRetransmit tag) s = ok (l.foldl (fun v x => v.sendAgain { x with ver := v.liveVer }) u))) ∧
    (r.sends = 0 ∨ 4 ≤ r.sends → exec (.requestRetransmit tag) s = ok s) ∧
    (r.kind = Kind.mop → exec (.deadTargetBound tag) s =
      ok (s.finishReq r St.atomicIndeterminate [] 0).pump.releaseFinish) ∧
    (r.kind ≠ Kind.mop → exec (.deadTargetBound tag) s = ok (s.finishReq r St.targetDead [] 0).pump.releaseFinish)) ∧
  (∀ (tag : Nat) (s : State), s.fab.reqs.find? (fun r => r.tag == tag) = none →
    exec (.requestRetransmit tag) s = ok s ∧ exec (.deadTargetBound tag) s = ok s.pump.releaseFinish) ∧
  (∀ (r : Req) (s : State), s.sendAgain r = (({ s with fab := { s.fab with reqs := s.fab.reqs.map (fun x =>
    if x.tag == r.tag then { x with ver := r.ver, held := false, sends := max 1 x.sends } else x) } } : State).sendReq r
      (r.sends != 0))) ∧
  (∀ (p : Bytes) (poison at10 : Nat) (s : State), 24 ≤ p.length → fld p 0 1 = 8 →
    fld p (p.length - 8) 8 = crc64 (p.take (p.length - 8)) → fld p 4 3 / 32 = s.nodeId →
    (∀ r : Req, s.fab.reqs.find? (fun r => r.tag == fld p 8 4 && r.engine == fld p 4 3 % 32) = some r →
      (fld p 2 2 ≠ St.backoff → ∀ u : State, u = s.finishReq r (fld p 2 2) ((p.take (p.length - 8)).drop 16) poison →
        exec (.fabricReplyArrival p poison at10) s =
          ok ({ u with fab := { u.fab with owed := sinsert u.fab.owed (seqKey r.engine r.dest) } } : State).pump.releaseFinish) ∧
      (fld p 2 2 = St.backoff → ∀ u : State, u = { s with fab := { s.fab with
          reqs := s.fab.reqs.map (fun x => if x.engine == r.engine && x.dest == r.dest && writeType x.kind
            && (x.seq + 2 ^ 32 - r.seq) % 2 ^ 32 < 2 ^ 31 then { x with held := true } else x)
          holds := s.fab.holds.filter (fun h => !(h.1 == r.engine && h.2.1 == r.dest))
            ++ [(r.engine, r.dest, r.seq, at10 + 10 * fld p 12 4)] } } →
        exec (.fabricReplyArrival p poison at10) s = ok u.pump.releaseFinish)) ∧
    (s.fab.reqs.find? (fun r => r.tag == fld p 8 4 && r.engine == fld p 4 3 % 32) = none →
      exec (.fabricReplyArrival p poison at10) s = ok s.pump.releaseFinish)) ∧
  (∀ (p : Bytes) (poison at10 : Nat) (s : State), p.length < 24 ∨ fld p 0 1 ≠ 8 ∨
    fld p (p.length - 8) 8 ≠ crc64 (p.take (p.length - 8)) ∨ fld p 4 3 / 32 ≠ s.nodeId →
    exec (.fabricReplyArrival p poison at10) s = ok s.pump.releaseFinish) ∧
  (∀ (g : Fin 24) (d : Fin 32768) (at10 e' d' seq due : Nat) (s u : State),
    s.fab.holds.find? (fun h => h.1 == g.val && h.2.1 == d.val) = some (e', d', seq, due) →
    u = { s with fab := { s.fab with holds := s.fab.holds.filter (fun h => !(h.1 == g.val && h.2.1 == d.val)) } } →
    (due ≤ at10 → exec (.backoffResend g d at10) s = ok (((u.outTo g d).filter (fun x =>
      writeType x.kind && (x.seq + 2 ^ 32 - seq) % 2 ^ 32 < 2 ^ 31)).foldl (fun v x => v.sendAgain x) u)) ∧
    (at10 < due → exec (.backoffResend g d at10) s = ok s)) ∧
  (∀ (g : Fin 24) (d : Fin 32768) (at10 : Nat) (s : State), s.fab.holds.find? (fun h => h.1 == g.val && h.2.1 == d.val) = none →
    exec (.backoffResend g d at10) s = ok s) ∧
  (∀ (g : Fin 24) (d : Fin 32768) (s u : State), s.fab.owed.contains (seqKey g d) = true →
    u = { s with fab := { s.fab with owed := s.fab.owed.filter (· != seqKey g d) } } →
    exec (.ackTimer g d) s = ok (u.sendReq (u.ackReq g d) false)) ∧
  (∀ (g : Fin 24) (d : Fin 32768) (s : State), s.fab.owed.contains (seqKey g d) = false → exec (.ackTimer g d) s = ok s) ∧
  (∀ (s u : State) (r : Req) (status : Nat) (data : Bytes) (poison : Nat),
    u = ({ s with fab := { s.fab with reqs := s.fab.reqs.filter (fun x => x.tag != r.tag) } } : State).showRae r.engine →
    s.finishReq r status data poison = (((u.semEvent status).told r status data poison).releaseReads).flushDue) ∧
  (∀ (s : State) (r : Req) (n rd size : Nat) (sgn amo : Bool), r.waiter = .core n rd size sgn amo → r.carry = [] →
    s.told r St.targetDead [] 0 = s.coreData n rd size sgn r.addr (deadBytes r.addr size) false) ∧
  (∀ (s : State) (r : Req) (n : Nat) (e : Option Nat) (st : Nat), r.waiter = .corePost n e → r.carry = [] →
    isSuccess st = false →
    s.told r st [] 0 = ((s.postedFail r.engine r.dest r.addr st).postToEntry n e st).corePart n)

/-! ## Ports and links (chapter 12) -/

/-- PORT_CONTROL acts on its port and replies PORTn_STATUS, unless Table 12.4 refuses it: a bad parameter, a busy port, a
disable or drain that leaves fewer than four of ports 0 to 5. PORT_RETRAIN and PORT_RELEASE are accepted unless a drain would be
refused, drain an UP port, and end when the port has trained or drained. -/
def Obligations.PortCommands : Prop :=
  (∀ (s u : State) (q : Sub) (p : Nat), s.takes q Op.portControl u → p = q.p 0 1 → portBad q = false →
    u.portBusy p = false →
    ∀ r : State → State, (∀ v : State, r v = v.short q St.ok (natLE 8 (v.rdReg (R.PORT_STATUS p)))) →
    (q.p 1 1 = 0 → u.rd (F.PORT_STATUS_ENABLED p) = 0 →
      exec .portEnable s = ok (r ((u.wr (F.PORT_STATUS_ENABLED p) 1).setPort p Port.wait))) ∧
    (q.p 1 1 = 0 → u.rd (F.PORT_STATUS_ENABLED p) = 1 → exec .portEnable s = ok (r u)) ∧
    (q.p 1 1 = 1 → u.drainRefused p = false → (u.wr (F.PORT_STATUS_ENABLED p) 0).portState p = Port.up →
      exec .portDisable s = ok (r ((u.wr (F.PORT_STATUS_ENABLED p) 0).startDrain p .disable none))) ∧
    (q.p 1 1 = 1 → u.drainRefused p = false → (u.wr (F.PORT_STATUS_ENABLED p) 0).portState p ≠ Port.up →
      exec .portDisable s = ok (r (((u.wr (F.PORT_STATUS_ENABLED p) 0).portIdle p).setPort p Port.off))) ∧
    (q.p 1 1 = 2 → u.drainRefused p = false → u.portState p = Port.up →
      exec .portDrain s = ok (r (u.startDrain p .drain none))) ∧
    (q.p 1 1 = 2 → u.drainRefused p = false → (u.portState p = Port.train ∨ u.portState p = Port.wait) →
      exec .portDrain s = ok (r ((u.portIdle p).setPort p Port.drained))) ∧
    (q.p 1 1 = 2 → u.drainRefused p = false → u.portState p ≠ Port.up → u.portState p ≠ Port.train →
      u.portState p ≠ Port.wait → exec .portDrain s = ok (r u)) ∧
    (q.p 1 1 = 3 → u.portState p = Port.drained → u.rd (F.PORT_STATUS_LANES_TRAINED p) ≠ 0 →
      exec .portUndrain s = ok (r (u.setPort p Port.up))) ∧
    (q.p 1 1 = 3 → u.portState p = Port.drained → u.rd (F.PORT_STATUS_LANES_TRAINED p) = 0 →
      u.rd (F.PORT_CABLE_PRESENT p) = 1 → exec .portUndrain s = ok (r (u.startTraining p))) ∧
    (q.p 1 1 = 3 → u.portState p = Port.drained → u.rd (F.PORT_STATUS_LANES_TRAINED p) = 0 →
      u.rd (F.PORT_CABLE_PRESENT p) = 0 → exec .portUndrain s = ok (r (u.setPort p Port.wait))) ∧
    (q.p 1 1 = 3 → u.portState p ≠ Port.drained → exec .portUndrain s = ok (r u)) ∧
    (q.p 1 1 = 4 → exec .portPolicy s =
      ok (r ((u.wr (F.PORT_STATUS_FEC_FORCE_STD p) (q.p 2 1)).wr (F.PORT_STATUS_MODE_FLOOR p) (q.p 3 1))))) ∧
  (∀ (s u : State) (q : Sub), s.takes q Op.portControl u → 4 < q.p 1 1 →
    exec .portEnable s = ok (u.short q St.badParam [])) ∧
  (∀ (s u : State) (q : Sub) (c : Instr) (k : Nat), s.takes q Op.portControl u → q.p 1 1 = k →
    (c, k) ∈ [(Instr.portEnable, 0), (.portDisable, 1), (.portDrain, 2), (.portUndrain, 3), (.portPolicy, 4)] →
    (portBad q = true → exec c s = ok (u.short q St.badParam [])) ∧
    (portBad q = false → u.portBusy (q.p 0 1) = true → exec c s = ok (u.short q St.busy [])) ∧
    (portBad q = false → u.portBusy (q.p 0 1) = false → (k = 1 ∨ k = 2) → u.drainRefused (q.p 0 1) = true →
      exec c s = ok (u.short q St.badParam []))) ∧
  (∀ (s u v : State) (q : Sub) (p h : Nat), s.takes q Op.portRetrain u → p = q.p 0 1 → p ≤ 9 → u.portBusy p = false →
    u.drainRefused p = false → u.accept q = (v, h) →
    (v.portState p = Port.up → exec .portRetrain s = ok (v.startDrain p .retrain (some h))) ∧
    (v.portState p ≠ Port.up → v.rd (F.PORT_STATUS_ENABLED p) = 0 → exec .portRetrain s = ok (v.retrainDone p h)) ∧
    (v.portState p ≠ Port.up → v.rd (F.PORT_STATUS_ENABLED p) = 1 → ∀ w : State, w = v.startTraining p →
      exec .portRetrain s = ok (w.setPt p { w.pt p with handle := some h }))) ∧
  (∀ (s u v : State) (q : Sub) (p h : Nat), s.takes q Op.portRelease u → p = q.p 0 1 → p ≤ 9 → u.portBusy p = false →
    u.drainRefused p = false → u.accept q = (v, h) →
    (v.portState p = Port.up → exec .portRelease s = ok (v.startDrain p .drain (some h))) ∧
    (v.portState p = Port.drained ∨ v.portState p = Port.off → exec .portRelease s = ok (v.complete h St.ok 0 [])) ∧
    (v.portState p = Port.down ∨ v.portState p = Port.held ∨ v.portState p = Port.train ∨ v.portState p = Port.wait →
      exec .portRelease s = ok ((v.setPt p { v.pt p with handle := some h }).stopTraining p))) ∧
  (∀ (s u : State) (q : Sub) (c : Instr) (o : Nat), s.takes q o u →
    (c, o) ∈ [(Instr.portRetrain, Op.portRetrain), (.portRelease, Op.portRelease)] →
    (9 < q.p 0 1 → exec c s = ok (u.refuse q St.badParam)) ∧
    (q.p 0 1 ≤ 9 → u.portBusy (q.p 0 1) = true → exec c s = ok (u.refuse q St.busy)) ∧
    (q.p 0 1 ≤ 9 → u.portBusy (q.p 0 1) = false → u.drainRefused (q.p 0 1) = true →
      exec c s = ok (u.refuse q St.badParam)))

/-- A frame whose CRC-32 and FEC hold and which is in order on a live link is delivered once and counted, one that came before is
dropped, any other is asked for again, once unless it is the frame asked for that fails; the FEC's corrections and failures are
counted; a replay request sends every unacknowledged frame again, and the ninth for one frame retrains; a partner's drain drains
the port, a finished drain ends as it was asked for, and a lost link or a silent partner retrains. Training takes the lowest mode
and, in it, the lowest group of lanes that all train; short-reach FEC needs both ends' offer and a bit error ratio of at most
10⁻⁸. -/
def Obligations.LinksDeliverAndRecover : Prop :=
  (∀ (p : Fin 10) (seq ack : Fin 4096) (fixed crc : Nat) (fail : Bool) (data : Bytes) (s u v : State),
    s.portState p ∈ [Port.up, Port.draining, Port.drained, Port.held] →
    (fail = false → v = s.incw (F.PORT_FEC_CORRECTED p) fixed) →
    (fail = true → v = (s.incw (F.PORT_FEC_CORRECTED p) fixed).inc (F.PORT_FEC_UNCORRECTED p)) →
    (crc = frameCrc seq ack data → fail = false → seq.val = (v.pt p).rxSeq → u = v.frameAck p ack →
      exec (.linkFrameArrival p seq ack fixed fail crc data) s =
        ok ((u.setPt p { u.pt p with rxSeq := ((v.pt p).rxSeq + 1) % 4096, asked := false }).incw (F.PORT_RX_BYTES_BYTES p)
          data.length)) ∧
    (crc = frameCrc seq ack data → fail = false → seqBefore seq (v.pt p).rxSeq = true →
      exec (.linkFrameArrival p seq ack fixed fail crc data) s = ok v) ∧
    (crc = frameCrc seq ack data → fail = false → seq.val ≠ (v.pt p).rxSeq → seqBefore seq (v.pt p).rxSeq = false →
      ((v.pt p).asked = true → exec (.linkFrameArrival p seq ack fixed fail crc data) s = ok v) ∧
      ((v.pt p).asked = false → exec (.linkFrameArrival p seq ack fixed fail crc data) s =
        ok ((v.setPt p { v.pt p with asked := true }).send .replayRequest p [(v.pt p).rxSeq] []))) ∧
    (crc ≠ frameCrc seq ack data ∨ fail = true →
      ((v.pt p).asked = true → seq.val ≠ (v.pt p).rxSeq →
        exec (.linkFrameArrival p seq ack fixed fail crc data) s = ok v) ∧
      ((v.pt p).asked = false ∨ seq.val = (v.pt p).rxSeq →
        exec (.linkFrameArrival p seq ack fixed fail crc data) s =
          ok ((v.setPt p { v.pt p with asked := true }).send .replayRequest p [(v.pt p).rxSeq] [])))) ∧
  (∀ (p : Fin 10) (seq : Fin 4096) (s u : State), s.portState p ∈ [Port.up, Port.draining, Port.drained, Port.held] →
    u = s.frameAck p seq →
    ((u.pt p).replay ≠ [] → (u.pt p).replays < 8 → exec (.linkReplayRequest p seq) s =
      ok ((u.pt p).replay.foldl (fun v f => v.frameSend p f.1 f.2)
        ((u.setPt p { u.pt p with replays := (u.pt p).replays + 1 }).inc (F.PORT_COUNTS_LINK_REPLAYS p))).removalProceed) ∧
    ((u.pt p).replay ≠ [] → 8 ≤ (u.pt p).replays → exec (.linkReplayRequest p seq) s = ok (u.relink p).removalProceed) ∧
    ((u.pt p).replay = [] → exec (.linkReplayRequest p seq) s = ok u.removalProceed) ∧
    exec (.partnerSilence p) s = ok (s.relink p).removalProceed) ∧
  (∀ (p : Fin 10) (seq ack : Fin 4096) (fixed crc : Nat) (fail : Bool) (data : Bytes) (s : State),
    s.portState p ∉ [Port.up, Port.draining, Port.drained, Port.held] →
    exec (.linkFrameArrival p seq ack fixed fail crc data) s = ok s ∧ exec (.linkReplayRequest p seq) s = ok s ∧
    exec (.partnerSilence p) s = ok s ∧ exec (.lossOfSignal p) s = ok s) ∧
  (∀ (p : Fin 10) (s : State),
    (s.portState p = Port.up → exec (.drainNotice p) s = ok (s.startDrain p .drain none)) ∧
    (s.portState p ≠ Port.up → exec (.drainNotice p) s = ok s) ∧
    (s.portState p = Port.up → exec (.lossOfSignal p) s = ok (s.unannounced p).removalProceed) ∧
    (s.portState p = Port.draining ∨ s.portState p = Port.drained ∨ s.portState p = Port.held →
      exec (.lossOfSignal p) s = ok (s.relink p).removalProceed)) ∧
  (∀ (p : Fin 10) (s u v : State), s.portState p = Port.draining → (s.pt p).replay = [] → (s.pt p).queue = [] →
    s.storeWaits p = false → u = (s.setPt p { s.pt p with drain := .none }).ev (F.PORT_EVENTS_DRAINED p) → v = u.startTraining p →
    ((s.pt p).drain = .disable → exec (.drainComplete p) s =
      ok (((u.portIdle p).setPort p Port.off).portDone p).removalProceed) ∧
    ((s.pt p).drain = .retrain → exec (.drainComplete p) s =
      ok (v.setPt p { v.pt p with drain := .retrain }).removalProceed) ∧
    ((s.pt p).drain ≠ .disable → (s.pt p).drain ≠ .retrain → exec (.drainComplete p) s =
      ok ((u.setPort p Port.drained).portDone p).removalProceed)) ∧
  (∀ (p : Fin 10) (s : State), s.portState p ≠ Port.draining ∨ (s.pt p).replay ≠ [] ∨ (s.pt p).queue ≠ [] ∨
    s.storeWaits p = true → exec (.drainComplete p) s = ok s) ∧
  (∀ (p : Fin 10) (s : State),
    (s.portState p = Port.wait → s.rd (F.PORT_STATUS_ENABLED p) = 1 → s.rd (F.PORT_CABLE_PRESENT p) = 1 →
      s.panel.unpowered.contains p.val = false → s.removable = false → exec (.partnerSignal p) s = ok (s.startTraining p).removalProceed) ∧
    (s.portState p ≠ Port.wait ∨ s.rd (F.PORT_STATUS_ENABLED p) = 0 ∨ s.rd (F.PORT_CABLE_PRESENT p) = 0 ∨
      s.panel.unpowered.contains p.val = true ∨ s.removable = true → exec (.partnerSignal p) s = ok s)) ∧
  (∀ (p : Fin 10) (trains : List (Fin 256)) (ber : Nat) (offer : Bool) (node : Fin 32768) (port : Fin 16) (spine : Bool)
    (eq : Bytes) (s u v : State), s.portState p = Port.train → u = s.setPt p { s.pt p with drain := .none } →
    (∀ l, l = (List.range 8).foldl (fun l i => mput l (p.val * 8 + i) (sub eq (8 * i) 8)) u.age.presets →
      v = { u with age := { u.age with presets := l } }) →
    (s.trainMode p trains = none →
      exec (.portTrainingEnd p trains ber offer node port spine eq) s = ok ((u.portDown p).trainEnded p)) ∧
    (∀ m lanes : Nat, s.trainMode p trains = some (m, lanes) →
      (s.shortReach p = true → offer = true → ber ≤ 10000 →
        exec (.portTrainingEnd p trains ber offer node port spine eq) s =
          ok ((v.portTrained p m lanes true node port spine).trainEnded p)) ∧
      (s.shortReach p = false ∨ offer = false ∨ 10000 < ber →
        exec (.portTrainingEnd p trains ber offer node port spine eq) s =
          ok ((v.portTrained p m lanes false node port spine).trainEnded p)))) ∧
  (∀ (p : Fin 10) (trains : List (Fin 256)) (m g : Nat) (s : State), m ≤ s.rd (F.PORT_STATUS_MODE_FLOOR p) →
    g ∈ laneGroups p m → (∀ x : Nat, x = (trains.getD m 0).val &&& (255 - s.rd (F.PORT_STATUS_LANES_OOS p)) → g &&& x = g) →
    ∃ m' g', s.trainMode p trains = some (m', g') ∧ m' ≤ m ∧ g' ∈ laneGroups p m' ∧
      ∀ x : Nat, x = (trains.getD m' 0).val &&& (255 - s.rd (F.PORT_STATUS_LANES_OOS p)) → g' &&& x = g') ∧
  (∀ (p : Fin 10) (trains : List (Fin 256)) (ber : Nat) (offer : Bool) (node : Fin 32768) (port : Fin 16) (spine : Bool)
    (eq : Bytes) (s : State), s.portState p ≠ Port.train →
    exec (.portTrainingEnd p trains ber offer node port spine eq) s = ok s)

/-- A transit packet waits at its route's port and is counted, one without a route is a miss, and a chunk that fails its check is
fetched again; a port that carries traffic sends one waiting frame that its replay buffer has room for, a node's control messages
before its chunks; FABRIC_PLAN_LOAD installs a plan that Table 12.7 accepts and completes with its digest, or removes a job's sets;
ROUTE_SWAP arms a stored version for the first boundary 10 µs away; the base set routes a packet to the next node of each
dimension the short way. -/
def Obligations.PlansAndRoutes : Prop :=
  (∀ (tag : Fin 65536) (ver : Fin 16) (dest src : Fin 32768) (chunk : Bool) (data : Bytes) (s u : State),
    (chunk = true → chunkOk data = true) →
    (∀ p : Nat, s.routeTo tag ver dest = (u, .port p) → exec (.transitPacket tag ver dest src chunk data) s =
      ok ((u.incw F.FAB_TRANSIT_BYTES_BYTES data.length).portSend p tag data)) ∧
    (s.routeTo tag ver dest = (u, .here) → exec (.transitPacket tag ver dest src chunk data) s = ok u) ∧
    (s.routeTo tag ver dest = (u, .unreachable) ∨ s.routeTo tag ver dest = (u, .absent) →
      exec (.transitPacket tag ver dest src chunk data) s = ok u.routeMiss)) ∧
  (∀ (tag : Fin 65536) (ver : Fin 16) (dest src : Fin 32768) (data : Bytes) (s : State), chunkOk data = false →
    exec (.transitPacket tag ver dest src true data) s = ok (s.sendPacket .collective tag ver src [fld data 1 1, dest]
      (chunkReply data 5 (fld data 20 3 % 2 ^ 17)))) ∧
  (∀ (p : Nat) (s : State) (f : Bytes) (t : Turn) (q : PortQueue),
    (s.portState p ≠ Port.up → s.portState p ≠ Port.draining → s.servePort p = s) ∧
    ((s.pt p).queue = [] → s.servePort p = s) ∧
    (s.portState p = Port.up ∨ s.portState p = Port.draining → (s.pt p).queue = [(t, q)] → t.on = false → q.frames = [f] →
      q.chunks = [] → f.length ≤ 4608 →
      ((s.pt p).room f.length = true →
        s.servePort p = (s.setPt p { s.pt p with queue := [] }).frameOut p f) ∧
      ((s.pt p).room f.length = false → s.servePort p = s))) ∧
  (∀ (s : State) (x y : PortQueue) (f f' g g' : Bytes) (fs gs : List Bytes) (l : List (Turn × PortQueue)),
    x.frames = f :: f' :: fs → y.frames = g :: g' :: gs → f.length = 4608 → f'.length = 4608 → g.length = 4608 →
    g'.length = 4608 → x.chunks = [] → y.chunks = [] →
    l = [(⟨0, true⟩, { x with frames := f' :: fs }), (⟨0, false⟩, y)] →
    s.portFront [(⟨0, false⟩, x), (⟨0, false⟩, y)] = some (f, l) ∧
    s.portFront l = some (g, [(⟨0, true⟩, { y with frames := g' :: gs }), (⟨0, false⟩, { x with frames := f' :: fs })])) ∧
  (∀ (q : PortQueue) (m : Bytes), fld m 0 1 ∉ [0, 1, 2] → (∀ f ∈ q.frames, f = []) →
    (q.put .collective m).frames = m :: q.frames ∧ (q.put .collective m).chunks = q.chunks) ∧
  (∀ (s u : State) (q : Sub) (st : Nat) (pl : Plan), s.takes q Op.fabricPlanLoad u → q.p 0 1 = 0 → q.p 2 2 ≠ 0 →
    u.planRead (q.p 8 8) = (st, some pl) →
    (pl.jobTag ≠ q.p 2 2 → exec .fabricPlanInstall s = ok (u.longNow q St.badParam 0 [])) ∧
    (pl.jobTag = q.p 2 2 → u.storeFull pl = false → u.jobChanging = false →
      pl.sets.any (fun x => u.setInUse x.jobTag x.ver) = false →
      exec .fabricPlanInstall s = ok ((u.installPlan pl).longNow q St.ok 0 pl.digest)) ∧
    (pl.jobTag = q.p 2 2 → u.storeFull pl = true → exec .fabricPlanInstall s = ok (u.longNow q St.badParam 0 [])) ∧
    (pl.jobTag = q.p 2 2 → u.storeFull pl = false →
      (u.jobChanging = true ∨ pl.sets.any (fun x => u.setInUse x.jobTag x.ver) = true) →
      exec .fabricPlanInstall s = ok (u.longNow q St.busy 0 []))) ∧
  (∀ (s u : State) (q : Sub) (st : Nat), s.takes q Op.fabricPlanLoad u → q.p 0 1 = 0 → q.p 2 2 ≠ 0 →
    u.planRead (q.p 8 8) = (st, none) → exec .fabricPlanInstall s = ok (u.longNow q st 0 [])) ∧
  (∀ (s u : State) (q : Sub), s.takes q Op.fabricPlanLoad u → (1 < q.p 0 1 ∨ q.p 0 1 = 0 ∧ q.p 2 2 = 0) →
    exec .fabricPlanInstall s = ok (u.longNow q St.badParam 0 [])) ∧
  (∀ (s u : State) (q : Sub), s.takes q Op.fabricPlanLoad u → q.p 0 1 = 1 →
    (q.p 2 2 ≠ 0 → u.jobChanging = false →
      u.net.sets.any (fun x => x.jobTag == q.p 2 2 && u.setInUse (q.p 2 2) x.ver) = false →
      exec .fabricPlanRemove s = ok ((u.removePlan (q.p 2 2)).longNow q St.ok 0 [])) ∧
    (q.p 2 2 = 0 → exec .fabricPlanRemove s = ok (u.longNow q St.badParam 0 [])) ∧
    (q.p 2 2 ≠ 0 → (u.jobChanging = true ∨
      u.net.sets.any (fun x => x.jobTag == q.p 2 2 && u.setInUse (q.p 2 2) x.ver) = true) →
      exec .fabricPlanRemove s = ok (u.longNow q St.busy 0 []))) ∧
  (∀ (s u : State) (tag : Nat), u = s.removePlan tag → u.net.sets = s.net.sets.filter (·.jobTag != tag) ∧
    u.tb.relays = s.tb.relays.filter (·.jobTag != tag) ∧ s.keepsMem u) ∧
  (∀ (s u : State) (q : Sub), s.takes q Op.routeSwap u →
    (u.admitted = true → u.liveTag = q.p 0 2 → u.net.sets.any (fun x => x.jobTag == q.p 0 2 && x.ver == q.p 2 1) = true →
      u.rd F.FAB_ROUTE_LIVE_ARMED = 0 → exec .routeSwap s =
        ok ((((u.wr F.FAB_ROUTE_LIVE_ARMED 1).wr F.FAB_ROUTE_LIVE_ARMED_VER (q.p 2 1)).wr F.FAB_ROUTE_ARM_STEP_STEP
          u.boundStep).short q St.ok (natLE 8 u.boundStep))) ∧
    (u.admitted = true → u.liveTag = q.p 0 2 → u.net.sets.any (fun x => x.jobTag == q.p 0 2 && x.ver == q.p 2 1) = true →
      u.rd F.FAB_ROUTE_LIVE_ARMED = 1 → exec .routeSwap s = ok (u.short q St.busy [])) ∧
    (u.admitted = false ∨ u.liveTag ≠ q.p 0 2 ∨
      u.net.sets.any (fun x => x.jobTag == q.p 0 2 && x.ver == q.p 2 1) = false →
      exec .routeSwap s = ok (u.short q St.badParam []))) ∧
  (∀ (here there dim : Nat), here < 8 → there < 8 →
    (here = there → dimPort here there dim = none) ∧
    ((there + 8 - here) % 8 ∈ [1, 2, 3, 4] → dimPort here there dim = some (2 * dim)) ∧
    ((there + 8 - here) % 8 ∈ [5, 6, 7] → dimPort here there dim = some (2 * dim + 1)))

/-! ## Cables, latches and the service button (chapter 21) -/

/-- A cable that arrives is read and counted and its port trains when its partner signals; one that leaves without a warning is
an unannounced loss, with one its port waits; a latch warning drains the port and a latch released for 2 s returns it; a press
of the button asks for removal once, a hold cancels it. Without power the Gatehouse does nothing of this (the model's reading, log
entry 73). -/
def Obligations.CablesLatchesAndTheButton : Prop :=
  (∀ (p : Fin 10) (sig : Bool) (m : Bytes) (s u v : State), s.cablePresent p = false →
    s.boot.failed = false → u = (s.setPresent p true).readCable p m →
    (∀ l, l = mput u.keep.insertions p ((mget u.keep.insertions p 0 + 1) % 2 ^ 32) →
      v = ((({ u with keep := { u.keep with insertions := l } } : State).showCounters.ev F.PANEL_EVENTS_CABLE_IN).ev
        (F.PORT_EVENTS_CABLE_IN p))) →
    (v.removalPending = true → v.admitted = false → exec (.cableInsert p sig m) s =
      ok { v with panel := { v.panel with arrived := sinsert v.panel.arrived p } }) ∧
    ((v.removalPending = false ∨ v.admitted = true) → sig = true → v.panel.unpowered.contains p.val = false →
      exec (.cableInsert p sig m) s = ok (v.trainWaiting p)) ∧
    ((v.removalPending = false ∨ v.admitted = true) → (sig = false ∨ v.panel.unpowered.contains p.val = true) →
      (v.portState p = Port.down → exec (.cableInsert p sig m) s = ok (v.setPort p Port.wait)) ∧
      (v.portState p ≠ Port.down → exec (.cableInsert p sig m) s = ok v))) ∧
  (∀ (p : Fin 10) (sig : Bool) (m : Bytes) (s : State), s.cablePresent p = true →
    exec (.cableInsert p sig m) s = ok s) ∧
  (∀ (p : Fin 10) (s u v : State), s.cablePresent p = true → s.boot.failed = false →
    u = (s.setPresent p false).readCable p [] →
    v = ({ u with panel := { u.panel with arrived := u.panel.arrived.filter (· != p.val) } } : State).setWarned p false →
    (bit (s.rd F.PANEL_CABLES_WARNED) p = false → s.portState p ∈ [Port.up, Port.train, Port.draining] →
      exec (.cableRemove p) s = ok (((((v.unannounced p).inc F.PANEL_COUNTS_UNANNOUNCED).ev
        F.PANEL_EVENTS_UNANNOUNCED_LOSS).panelEvent 3 p).removalProceed)) ∧
    (bit (s.rd F.PANEL_CABLES_WARNED) p = true ∨ s.portState p ∉ [Port.up, Port.train, Port.draining] →
      (s.portState p = Port.off → exec (.cableRemove p) s = ok v) ∧
      (s.portState p ≠ Port.off → exec (.cableRemove p) s = ok ((v.cableGone p).replanPort p).removalProceed))) ∧
  (∀ (p : Fin 10) (s : State), s.cablePresent p = false → exec (.cableRemove p) s = ok s) ∧
  (∀ (p : Fin 10) (s u : State), s.latched p = false → s.boot.failed = false → u = s.setLatch p true →
    (u.cablePresent p = true → exec (.latchWarning p) s =
      ok (((((u.panelEvent 2 p).setWarned p true).inc F.PANEL_COUNTS_LATCH_WARNINGS).ev
        F.PANEL_EVENTS_LATCH_WARNING).latchDrain p .latch none).removalProceed) ∧
    (u.cablePresent p = false → exec (.latchWarning p) s = ok u)) ∧
  (∀ (p : Fin 10) (s : State), s.latched p = true → exec (.latchWarning p) s = ok s) ∧
  (∀ (p : Fin 10) (s : State), exec (.latchRelease p) s = ok ((s.wrBit F.PANEL_CABLES_LATCH p false).wr
    (F.PORT_CABLE_LATCH p) 0)) ∧
  (∀ (p : Fin 10) (s u : State), bit (s.rd F.PANEL_CABLES_WARNED) p = true → s.latched p = false →
    s.cablePresent p = true → s.boot.failed = false → u = s.setWarned p false →
    (u.removalPending = true → u.admitted = false → exec (.latchReleaseTimeout p) s = ok u) ∧
    (u.removalPending = false ∨ u.admitted = true → exec (.latchReleaseTimeout p) s = ok (u.drainBack p .latch))) ∧
  (∀ (p : Nat) (s : State) (d : DrainFor),
    (s.portState p = Port.draining → (s.pt p).drain = d →
      s.drainBack p d = ((s.setPt p { s.pt p with drain := .none }).setPort p Port.up).portDone p) ∧
    (s.portState p ≠ Port.draining ∨ (s.pt p).drain ≠ d → s.drainBack p d = s.undrain p)) ∧
  (∀ (p : Fin 10) (s : State), bit (s.rd F.PANEL_CABLES_WARNED) p = false ∨ s.latched p = true ∨
    s.cablePresent p = false → exec (.latchReleaseTimeout p) s = ok s) ∧
  (∀ s u : State, s.boot.failed = false → u = s.inc F.PANEL_COUNTS_PRESSES →
    (s.rd F.PANEL_STATUS_REQUEST = 0 → exec .buttonPress s =
      ok (((u.wr F.PANEL_STATUS_REQUEST 1).ev F.PANEL_EVENTS_PRESS).panelEvent 0 0).removalProceed) ∧
    (s.rd F.PANEL_STATUS_REQUEST ≠ 0 → exec .buttonPress s = ok u)) ∧
  (∀ (p : Fin 10) (sig : Bool) (m : Bytes) (s : State), s.boot.failed = true →
    exec .buttonPress s = ok s ∧ exec .buttonCancel s = ok s ∧ exec (.latchReleaseTimeout p) s = ok s ∧
    (s.cablePresent p = false → exec (.cableInsert p sig m) s = ok ((s.setPresent p true).readCable p m)) ∧
    (s.latched p = false → exec (.latchWarning p) s = ok (s.setLatch p true))) ∧
  (∀ s u v : State, s.boot.failed = false → u = s.inc F.PANEL_COUNTS_CANCELS →
    (s.rd F.PANEL_STATUS_REQUEST = 0 → exec .buttonCancel s = ok u) ∧
    (s.rd F.PANEL_STATUS_REQUEST ≠ 0 → v = forEach (List.range 10)
        (((u.panelEvent 1 0).wr F.PANEL_STATUS_REQUEST 0).ev F.PANEL_EVENTS_CANCEL) (fun p x => x.drainBack p .removal) →
      exec .buttonCancel s = ok (forEach v.panel.arrived ({ v with panel := { v.panel with arrived := [] } } : State)
        (fun p x => x.trainWaiting p)).keepStart)) ∧
  (∀ s : State, s.rd F.PANEL_STATUS_REQUEST = 1 → s.admitted = false →
    (∀ p < 10, s.portState p ∉ [Port.up, Port.train, Port.draining]) → s.removalReady = true →
    s.removalProceed = (s.wr F.PANEL_STATUS_REQUEST 2).ev F.PANEL_EVENTS_REMOVABLE)

/-! ## Collectives (chapter 13) -/

/-- An operation row starts the slot's current invocation when it is of that operation (in the Sealed profile, once both members'
entries have joined it): its staging region is left undefined, what the member contributes first is sent, held messages are used,
and the part completes when it can; a second residue mismatch, which only the Sealed profile looks for, ends it; a barrier
completes when every member has started it; a group plan that passes its checks is live at once without a job and armed with one;
JOB_BROADCAST starts a broadcast over the slot's tree. -/
def Obligations.CollectiveInvocationsRun : Prop :=
  (∀ (g : Fin 16) (res : Fin 3) (s : State),
    exec (.broadcast g) s = ok (s.collRun g 1 0) ∧ exec (.reduce g res) s = ok (s.collRun g 2 res) ∧
    exec (.allreduce g res) s = ok (s.collRun g 3 res) ∧ exec (.allgather g) s = ok (s.collRun g 4 0) ∧
    exec (.reduceScatter g res) s = ok (s.collRun g 5 res)) ∧
  (∀ (g op res : Nat) (i j : CInv) (b : Bytes) (s u v w : State), (s.cslot g).cur = some i → (s.cslot g).live = some b →
    i.running = false → cdOp i.desc = op → (i.bcast.isSome = true ∨ s.sealed = false ∨ i.entries.length = 2) →
    u = (bitList (cdMask i.desc) 18).foldl
      (fun s n => s.scramble (scratchAddr (18 * i.terr + n) (cdOff i.desc)) (cdLen i.desc)) s →
    (u.sealed = false ∨ res = 0 → v = u) →
    (u.sealed = true → res ≠ 0 → res ≠ 2 → v = (u.ev F.COLL_EVENTS_RESIDUE_RETRY).inc F.COLL_COUNTS_RESIDUE_RETRIES) →
    (u.sealed = true → res = 2 → v = ((u.ev F.COLL_EVENTS_RESIDUE_RETRY).inc F.COLL_COUNTS_RESIDUE_RETRIES).ev
      F.COLL_EVENTS_RESIDUE_FAIL) →
    v.cBegin g b { i with running := true } = (j, w) →
    (u.sealed = false ∨ res ≠ 2 → s.collRun g op res = ((w.setCur g j).collHeld g).collCheck g) ∧
    (u.sealed = true → res = 2 → s.collRun g op res = (w.setCur g j).collAbort g St.residueMismatch (gpMe b) none)) ∧
  (∀ (g op res : Nat) (s : State), ((s.cslot g).cur = none ∨ (s.cslot g).live = none ∨
    ∃ i, (s.cslot g).cur = some i ∧ (i.running = true ∨ cdOp i.desc ≠ op ∨
      i.bcast = none ∧ s.sealed = true ∧ i.entries.length ≠ 2)) → s.collRun g op res = s) ∧
  (∀ (g : Fin 16) (others : Bool) (i : CInv) (b : Bytes) (s u : State), u = s.collRun g 6 0 → (u.cslot g).cur = some i →
    (u.cslot g).live = some b → cdOp i.desc = 6 → i.running = true →
    ((others = true ∨ gpMembers b = 1) → exec (.collectiveBarrier g others) s =
      ok ((i.entries.foldl (fun s e => s.entryReady e.1 e.2 St.ok) (u.endInv g i St.ok)).nextInv g)) ∧
    (others = false → gpMembers b ≠ 1 → exec (.collectiveBarrier g others) s = ok u)) ∧
  (∀ (g : Fin 16) (others : Bool) (s u : State), u = s.collRun g 6 0 → ((u.cslot g).cur = none ∨ (u.cslot g).live = none ∨
    ∃ i, (u.cslot g).cur = some i ∧ (cdOp i.desc ≠ 6 ∨ i.running = false)) → exec (.collectiveBarrier g others) s = ok u) ∧
  (∀ (slot : Fin 16) (addr : Fin 281474976710656) (code : Nat) (b : Bytes) (s u : State),
    u = (s.wr F.COLL_INSTALL_SLOT slot).wr F.COLL_INSTALL_ADDR (addr.val / 64) →
    u.groupCheck (addr.val / 64 * 64) (some slot.val) (match u.job with | some j => some j.jobTag | none => none) = (code, b) →
    (code ≠ 0 → exec (.collInstallArm slot addr) s = ok (u.wr F.COLL_INSTALL_ERROR code)) ∧
    (code = 0 → (u.cslot slot).armed = none → (∀ i : CInv, (u.cslot slot).cur = some i → i.bcast = none) →
      ∀ v : State, v = u.wr F.COLL_INSTALL_ERROR 0 →
      (v.admitted = false → exec (.collInstallArm slot addr) s = ok (v.groupLive slot b)) ∧
      (v.admitted = true → exec (.collInstallArm slot addr) s =
        ok ((v.setSlotC slot { u.cslot slot with armed := some (b, v.boundStep) }).wr F.COLL_INSTALL_STEP_STEP v.boundStep))) ∧
    (code = 0 → ((u.cslot slot).armed ≠ none ∨ ∃ i : CInv, (u.cslot slot).cur = some i ∧ i.bcast ≠ none) →
      exec (.collInstallArm slot addr) s = ok (u.wr F.COLL_INSTALL_ERROR 6))) ∧
  (∀ (w : Fin 256) (s : State), exec (.collFieldWeightWrite w) s = ok (s.wr F.COLL_FIELD_WEIGHT_WEIGHT (max 1 w.val))) ∧
  (∀ (s u : State) (q : Sub), s.takes q Op.jobBroadcast u →
    (u.bcastCheck q = St.busy → exec .jobBroadcast s = ok (u.refuse q St.busy)) ∧
    (u.bcastCheck q ≠ St.busy → u.bcastCheck q ≠ 0 → exec .jobBroadcast s = ok (u.longNow q (u.bcastCheck q) 0 [])) ∧
    (∀ (v : State) (h : Nat) (b : Bytes), u.bcastCheck q = 0 → (u.cslot (q.p 0 1)).live = some b → u.accept q = (v, h) →
      exec .jobBroadcast s = ok ((v.setSlotC (q.p 0 1) { v.cslot (q.p 0 1) with
        cur := some (CInv.fresh (2 ^ 40 - 1) 0xFF (gpTerrace b) [] (bcastDesc q) b
          (some ⟨h, if q.p 2 2 = 0 then 200 else q.p 2 2, q.deadline, q.p 40 8, [], 0⟩))
        aborted := (v.cslot (q.p 0 1)).aborted.filter (· != bcastStamp) }).collRun (q.p 0 1) 1 0))) ∧
  (∀ (d a b : Bytes) (x y : CPart), x.data = a → y.data = b → (redBytes d x y).data = (List.range (a.length /
    mopBytes (cdRed d + 16 * cdType d))).flatMap (fun i => natLE (mopBytes (cdRed d + 16 * cdType d))
      (mopElem (cdRed d + 16 * cdType d) (fld a (i * mopBytes (cdRed d + 16 * cdType d)) (mopBytes (cdRed d + 16 * cdType d)))
        (fld b (i * mopBytes (cdRed d + 16 * cdType d)) (mopBytes (cdRed d + 16 * cdType d))))) ∧
    (redBytes d x y).contrib = x.contrib + y.contrib)

/-- A chunk, TOKEN or ABORT whose check holds is used by the running invocation it names, held for one to come, or stale; a
chunk whose check fails is fetched again. A chunk used before is only acknowledged again, one without a free receive slot or,
as a result, without every member's contribution is not used; a result is used when its RESULT_CHECK matches, and else fetched
again. An ACK frees the copy kept, a CREDIT lets one more go, a REFETCH sends the copy again and the fourth ends the invocation
or the field; a chunk without ACK is sent again and by the bound ends it TARGET_DEAD.
In a JOB_BROADCAST a DONE sets its member's bit at the root and is passed on elsewhere, as a LOST is; an adopted child is
sent what it lacks; a member whose parent is silent moves to its next spare, or with none left ends TARGET_DEAD; a silent child
is owed no more; the root's deadline ends it PARTIAL. -/
def Obligations.CollectiveMessagesAndJobBroadcast : Prop :=
  ((∀ (n : Fin 32768) (p : Bytes) (res : Fin 3) (g me : Nat) (s : State), g = fld p 1 1 % 16 →
    me = gpMe ((s.cslot g).live.getD []) →
    (fld p 0 1 = 0 → chunkOk p = false →
      exec (.dataChunk n p res) s = ok (s.sendLive .collective n [g] (chunkReply p 5 me))) ∧
    (fld p 0 1 = 0 → chunkOk p = true → s.sealed = false → exec (.dataChunk n p res) s = ok (s.collMsg false n p)) ∧
    (fld p 0 1 = 0 → chunkOk p = true → s.sealed = true → ∀ u : State,
      u = (s.ev F.COLL_EVENTS_RESIDUE_RETRY).inc F.COLL_COUNTS_RESIDUE_RETRIES →
      (res.val = 0 ∨ s.combines g p = false → exec (.dataChunk n p res) s = ok (s.collMsg false n p)) ∧
      (res.val = 1 → s.combines g p = true → exec (.dataChunk n p res) s = ok (u.collMsg false n p)) ∧
      (res.val = 2 → s.combines g p = true → exec (.dataChunk n p res) s =
        ok ((u.ev F.COLL_EVENTS_RESIDUE_FAIL).collAbort g St.residueMismatch me none))) ∧
    (fld p 0 1 = 2 → chunkOk p = false → exec (.token n p) s = ok (s.sendLive .collective n [g] (chunkReply p 5 me))) ∧
    (fld p 0 1 = 2 → chunkOk p = true → exec (.token n p) s = ok (s.collMsg false n p)) ∧
    (fld p 0 1 = 6 → chunkOk p = true → exec (.abort n p) s = ok (s.collMsg false n p)) ∧
    (fld p 0 1 ≠ 0 → exec (.dataChunk n p res) s = ok s) ∧ (fld p 0 1 ≠ 2 → exec (.token n p) s = ok s) ∧
    (fld p 0 1 ≠ 6 ∨ chunkOk p = false → exec (.abort n p) s = ok s)) ∧
  (∀ (again : Bool) (n : Nat) (p b : Bytes) (g : Nat) (i j : CInv) (s u : State), g = fld p 1 1 % 16 →
    (s.cslot g).live = some b →
    (s.stampOf g p = 0 → (s.cslot g).cur = some i → i.running = true → fld p 0 1 ≠ 6 → fld p 0 1 ≠ 2 →
      s.useData again g b i p = (j, u) → s.collMsg again n p = (u.setCur g j).collCheck g) ∧
    (s.stampOf g p = 0 → (s.cslot g).cur = some i → i.running = true → fld p 0 1 = 2 →
      s.useToken g b i p = (j, u) → s.collMsg again n p = (u.setCur g j).collCheck g) ∧
    (s.stampOf g p = 0 → (s.cslot g).cur = some i → i.running = true → fld p 0 1 = 6 →
      s.collMsg again n p = s.useAbort g p n) ∧
    (s.stampOf g p = 0 → (s.cslot g).cur = some i → i.running = false → s.collMsg again n p = s.holdMsg again g n p) ∧
    (s.stampOf g p = 1 → s.collMsg again n p = s.holdMsg again g n p) ∧
    (s.stampOf g p = 2 → fld p 0 1 = 0 → s.collMsg again n p = s.ev F.COLL_EVENTS_STALE_CHUNK) ∧
    (s.stampOf g p = 2 → fld p 0 1 = 6 →
      s.collMsg again n p = s.passAbort g (neighbours (planLinks b) (gpMe b) (some n)) p) ∧
    (s.stampOf g p = 2 → fld p 0 1 ≠ 0 → fld p 0 1 ≠ 6 → s.collMsg again n p = s)) ∧
  (∀ (held final : Bool) (g l k n key : Nat) (b p : Bytes) (i : CInv) (s : State),
    linkOf i.links (fld p 20 3 % 2 ^ 17) true (!gpTree b) = some l → k = fld p 12 4 → final = bit (fld p 2 1) 1 →
    n = fld p 16 4 % 2 ^ 19 → key = 2 ^ 40 * l + k * 2 + b2n final →
    (i.used.contains key = true → held = true → s.useData held g b i p = (i, s)) ∧
    (i.used.contains key = true → held = false → s.useData held g b i p = (i, s.answer g b i l k final 3)) ∧
    (i.used.contains key = false → n = (cChunkOf b i.desc k).2.2 → n ≠ 0 → 4 ≤ i.occupied l →
      s.useData held g b i p = (i, s)) ∧
    (i.used.contains key = false → n = (cChunkOf b i.desc k).2.2 → n ≠ 0 → cdReduces i.desc = true → final = true →
      fld p 9 3 % 2 ^ 17 ≠ gpMembers b → s.useData held g b i p = (i, s))) ∧
  (∀ (g k : Nat) (b t : Bytes) (i j : CInv) (x : CPart) (s : State), mfind i.finals k = some x → mfind i.tokens k = some t →
    j = { i with finals := mdel i.finals k, tokens := mdel i.tokens k } →
    (leNat t = crc64 (x.data ++ x.mask) → s.cVerify g b i k = ((s.answer g b j x.link k true 3).answer g b j x.link k true
      4).cFinish g b { j with used := sinsert j.used (2 ^ 40 * x.link + k * 2 + 1) } k x (some x.link)) ∧
    (leNat t ≠ crc64 (x.data ++ x.mask) → s.cVerify g b i k = (j, s.answer g b j x.link k true 5))) ∧
  (∀ (n : Fin 32768) (p b : Bytes) (g l : Nat) (i j : CInv) (s u : State), s.ctrlInv p = some (g, b, i) →
    linkOf i.links (fld p 20 3 % 2 ^ 17) false (!gpTree b) = some l →
    (fld p 0 1 = 3 → chunkOk p = true → (i.link l).out.any (fun c => c.key == ctrlKey p) = true →
      pumpLink g l 8 { i.setLink l { i.link l with out := (i.link l).out.filter (fun c => c.key != ctrlKey p) } with
        acked := sinsert i.acked (2 ^ 40 * l + ctrlKey p) } s = (j, u) →
      exec (.chunkAck false n p) s = ok ((u.setCur g j).collCheck g)) ∧
    (fld p 0 1 = 3 → (i.link l).out.any (fun c => c.key == ctrlKey p) = false → exec (.chunkAck false n p) s = ok s) ∧
    (fld p 0 1 = 4 → pumpLink g l 8 (i.setLink l { i.link l with credits := min 4 ((i.link l).credits + 1) }) s = (j, u) →
      exec (.credit p) s = ok (u.setCur g j))) ∧
  (∀ (n : Fin 32768) (p b : Bytes) (g l : Nat) (i : CInv) (c : CChunk) (s : State), s.ctrlInv p = some (g, b, i) →
    i.holder n (ctrlKey p) = some l → fld p 0 1 = 5 → chunkOk p = true →
    (i.link l).out.find? (fun c => c.key == ctrlKey p) = some c →
    (3 ≤ c.refetches → exec (.refetch false n p) s = ok (s.collAbort g St.chunkUnrecoverable (gpMe b) none)) ∧
    (c.refetches < 3 → ∀ x : CLink, x = { i.link l with
        out := (i.link l).out.map (fun y => if y.key == c.key then { y with refetches := y.refetches + 1 } else y) } →
      exec (.refetch false n p) s = ok ((((s.inc F.COLL_COUNTS_REFETCHES).ev F.COLL_EVENTS_REFETCH).setCur g
        { i.setLink l x with refetches := i.refetches + 1 }).resendChunk g x c))) ∧
  (∀ (n : Fin 32768) (p : Bytes) (s : State), s.ctrlInv p = none →
    exec (.chunkAck false n p) s = ok s ∧ exec (.credit p) s = ok s ∧ exec (.refetch false n p) s = ok s) ∧
  (∀ (n : Fin 32768) (p : Bytes) (s : State), s.fieldOf n p = none →
    exec (.chunkAck true n p) s = ok s ∧ exec (.refetch true n p) s = ok s) ∧
  (∀ (n : Fin 32768) (p : Bytes) (f k : FieldSend) (s u : State), s.fieldOf n p = some f → chunkOk p = true → fld p 0 1 = 3 →
    pumpField 8 { f with
      out := f.out.filter (fun c => c.key != fld p 12 4), acked := sinsert f.acked (fld p 12 4) } s = (k, u) →
    (k.acked.length = k.chunks → exec (.chunkAck true n p) s = ok (u.endField k St.ok)) ∧
    (k.acked.length ≠ k.chunks → exec (.chunkAck true n p) s = ok (u.putField k))) ∧
  (∀ (n : Fin 32768) (p : Bytes) (f k : FieldSend) (c : CChunk) (s : State), s.fieldOf n p = some f → chunkOk p = true →
    fld p 0 1 = 5 → f.out.find? (fun c => c.key == fld p 12 4) = some c →
    k = { f with out := f.out.map (fun y => if y.key == c.key then { y with refetches := y.refetches + 1 } else y) } →
    (3 ≤ c.refetches → exec (.refetch true n p) s = ok (s.endField f St.chunkUnrecoverable)) ∧
    (c.refetches < 3 → exec (.refetch true n p) s = ok ((((s.inc F.COLL_COUNTS_REFETCHES).ev
      F.COLL_EVENTS_REFETCH).putField k).fieldChunk k c.key (retryMsg c.msg)))) ∧
  (∀ (g : Fin 16) (l : Fin 17) (e : Fin 4096) (k : Nat) (i : CInv) (c : CChunk) (s : State), (s.cslot g).cur = some i →
    (i.link l).out.find? (fun c => c.key == k) = some c →
    (3 ≤ c.resends → exec (.chunkResend false g l e k) s = ok s) ∧
    (c.resends < 3 → ∀ x : CLink, x = { i.link l with
        out := (i.link l).out.map (fun y => if y.key == c.key then { y with resends := y.resends + 1 } else y) } →
      exec (.chunkResend false g l e k) s = ok ((s.setCur g (i.setLink l x)).resendChunk g x c))) ∧
  (∀ (g : Fin 16) (l : Fin 17) (e : Fin 4096) (k : Nat) (i : CInv) (s : State),
    ((s.cslot g).cur = some i → (i.link l).out.find? (fun c => c.key == k) = none →
      exec (.chunkResend false g l e k) s = ok s) ∧
    ((s.cslot g).cur = none → exec (.chunkResend false g l e k) s = ok s)) ∧
  (∀ (g : Fin 16) (l : Fin 17) (e : Fin 4096) (k : Nat) (f h : FieldSend) (c : CChunk) (s : State),
    s.coll.sends.find? (fun f => f.terr == g.val && f.entry == e.val) = some f →
    (f.out.find? (fun c => c.key == k) = none → exec (.chunkResend true g l e k) s = ok s) ∧
    (f.out.find? (fun c => c.key == k) = some c →
      h = { f with out := f.out.map (fun y => if y.key == c.key then { y with resends := y.resends + 1 } else y) } →
      (3 ≤ c.resends → exec (.chunkResend true g l e k) s = ok s) ∧
      (c.resends < 3 → exec (.chunkResend true g l e k) s = ok ((s.putField h).fieldChunk h c.key (retryMsg c.msg))))) ∧
  (∀ (g : Fin 16) (l : Fin 17) (e : Fin 4096) (k : Nat) (s : State),
    s.coll.sends.find? (fun f => f.terr == g.val && f.entry == e.val) = none →
    exec (.chunkResend true g l e k) s = ok s) ∧
  (∀ (g : Fin 16) (l : Fin 17) (e : Fin 4096) (i : CInv) (b : Bytes) (s : State), (s.cslot g).cur = some i →
    (s.cslot g).live = some b →
    ((i.link l).out ≠ [] → exec (.chunkAckTimeout false g l e) s = ok (s.collAbort g St.targetDead (gpMe b) none)) ∧
    ((i.link l).out = [] → exec (.chunkAckTimeout false g l e) s = ok s)) ∧
  (∀ (g : Fin 16) (l : Fin 17) (e : Fin 4096) (s : State),
    (∀ f : FieldSend, s.coll.sends.find? (fun f => f.terr == g.val && f.entry == e.val && !f.out.isEmpty) = some f →
      exec (.chunkAckTimeout true g l e) s = ok (s.endField f St.targetDead)) ∧
    (s.coll.sends.find? (fun f => f.terr == g.val && f.entry == e.val && !f.out.isEmpty) = none →
      exec (.chunkAckTimeout true g l e) s = ok s) ∧
    ((s.cslot g).cur = none → exec (.chunkAckTimeout false g l e) s = ok s))) ∧
  ((∀ (p b : Bytes) (g : Nat) (i : CInv) (c : CBcast) (s : State), s.bcastOf p = some (g, b, i, c) →
    (fld p 0 1 = 7 → cdIsRoot b i.desc = true → fld p 20 3 % 2 ^ 17 < gpMembers b → exec (.done p) s =
      ok ((s.setCur g { i with bcast := some { c with members := sinsert c.members (fld p 20 3 % 2 ^ 17) } }).collCheck g)) ∧
    (fld p 0 1 = 7 → cdIsRoot b i.desc = true → gpMembers b ≤ fld p 20 3 % 2 ^ 17 → exec (.done p) s = ok s) ∧
    (fld p 0 1 = 7 → cdIsRoot b i.desc = false → exec (.done p) s = ok (s.ctrl g (i.link 0).record p)) ∧
    (fld p 0 1 = 9 → cdIsRoot b i.desc = true → exec (.lost p) s = ok s) ∧
    (fld p 0 1 = 9 → cdIsRoot b i.desc = false → exec (.lost p) s = ok (s.ctrl g (i.link 0).record p)) ∧
    (fld p 0 1 = 8 → (List.range (gpAdopt b)).find? (fun a => nbIndex (gpAdoptee b a) == fld p 20 3 % 2 ^ 17) = none →
      exec (.adopt p) s = ok s) ∧
    (∀ a : Nat, fld p 0 1 = 8 →
      (List.range (gpAdopt b)).find? (fun a => nbIndex (gpAdoptee b a) == fld p 20 3 % 2 ^ 17) = some a →
      ((i.links.map (·.1)).contains (9 + a) = true → exec (.adopt p) s = ok s) ∧
      ((i.links.map (·.1)).contains (9 + a) = false → ∀ (j k : CInv) (u v : State),
        j = { i.setLink (9 + a) ⟨gpAdoptee b a, 4, [], []⟩ with
          acked := (((cChunks b i.desc).filter (· < fld p 12 4)).map (fun k => 2 ^ 40 * (9 + a) + k * 2 + 1)).foldl
            sinsert i.acked } →
        u = (s.ev F.COLL_EVENTS_REPARENT).inc F.COLL_COUNTS_REPARENTS →
        (i.committed.filter (fld p 12 4 ≤ ·)).foldl (fun r k => r.2.emit g b r.1 [9 + a] k true
          ⟨0xFF, r.2.readBytes ((cDstAddr b r.1.desc k).getD 0) (cChunkOf b r.1.desc k).2.2,
            natLE (maskBytes (cChunkOf b r.1.desc k).2.2) (maskOf ((List.range ((cChunkOf b r.1.desc k).2.2 / 8)).filter
              (fun w => r.2.poisonAt ((cDstAddr b r.1.desc k).getD 0 + 8 * w)))), 1⟩ false) (j, u) = (k, v) →
        exec (.adopt p) s = ok ((v.setCur g k).collCheck g)))) ∧
  (∀ (p : Bytes) (s : State), s.bcastOf p = none →
    (fld p 0 1 = 7 → exec (.done p) s = ok (s.towardsRoot p)) ∧ (fld p 0 1 = 9 → exec (.lost p) s = ok (s.towardsRoot p)) ∧
    (fld p 0 1 ≠ 7 → exec (.done p) s = ok s) ∧ (fld p 0 1 ≠ 9 → exec (.lost p) s = ok s) ∧ exec (.adopt p) s = ok s) ∧
  (∀ (g : Fin 16) (i j : CInv) (b : Bytes) (c : CBcast) (s u : State), (s.cslot g).cur = some i → (s.cslot g).live = some b →
    i.bcast = some c →
    (cdIsRoot b i.desc = true ∨ (cCommits b i.desc).all i.committed.contains = true →
      exec (.reparentTimeout g 0) s = ok s) ∧
    (cdIsRoot b i.desc = false → (cCommits b i.desc).all i.committed.contains = false → gpSpares b ≤ c.tried →
      exec (.reparentTimeout g 0) s = ok (s.endBcast g i c St.targetDead)) ∧
    (cdIsRoot b i.desc = false → (cCommits b i.desc).all i.committed.contains = false → c.tried < gpSpares b →
      j = { i.setLink 0 ⟨gpSpare b c.tried, 4, [], []⟩ with bcast := some { c with tried := c.tried + 1 } } →
      u = ((s.ev F.COLL_EVENTS_REPARENT).inc F.COLL_COUNTS_REPARENTS).ctrl g (gpSpare b c.tried)
        (chunkMsg 8 g 0 0 i.inv i.step 0 (((cChunks b i.desc).filter (fun k => !i.committed.contains k)).headD 0) 0 (gpMe b) []) →
      exec (.reparentTimeout g 0) s = ok ((u.setCur g j).ctrl g (gpSpare b c.tried)
        (chunkMsg 9 g 0 0 i.inv i.step 0 0 0 (nbIndex (i.link 0).record) []))) ∧
    (∀ l : Fin 17, l.val ≠ 0 → (i.link l).out = [] → exec (.reparentTimeout g l) s = ok s) ∧
    (∀ l : Fin 17, l.val ≠ 0 → (i.link l).out ≠ [] →
      j = { i.setLink l { i.link l with out := [], queue := [] } with
        acked := ((cSends b i.desc i.adopted).filter (fun k => k / 2 ^ 40 == l.val)).foldl sinsert i.acked } →
      (cdIsRoot b i.desc = true → exec (.reparentTimeout g l) s = ok ((s.setCur g j).collCheck g)) ∧
      (cdIsRoot b i.desc = false → exec (.reparentTimeout g l) s = ok (((s.ctrl g (j.link 0).record
        (chunkMsg 9 g 0 0 i.inv i.step 0 0 0 (nbIndex (i.link l).record) [])).setCur g j).collCheck g))) ∧
    (cdIsRoot b i.desc = false → exec (.broadcastRootTimeout g) s = ok s) ∧
    (∀ d : CBcast, cdIsRoot b i.desc = true →
      ((cCommits b i.desc).all i.committed.contains = true → d = { c with members := sinsert c.members (gpMe b) }) →
      ((cCommits b i.desc).all i.committed.contains = false → d = c) →
      (c.deadline = 0 → exec (.broadcastRootTimeout g) s = ok (s.endBcast g i d St.partial)) ∧
      (c.deadline ≠ 0 → s.reach c.deadline = some u → exec (.broadcastRootTimeout g) s = ok (u.endBcast g i d St.partial)) ∧
      (c.deadline ≠ 0 → s.reach c.deadline = none → exec (.broadcastRootTimeout g) s = ok s))) ∧
  (∀ (g : Fin 16) (l : Fin 17) (s : State), (s.cslot g).cur = none →
    exec (.reparentTimeout g l) s = ok s ∧ exec (.broadcastRootTimeout g) s = ok s))

/-! ## Checkpoints, restores and jobs (chapters 14 and 16) -/

/-- CKPT_POLICY takes a policy that R328 accepts for the next boundary and refuses others; CKPT_NOW waits for its checkpoint;
CKPT_STATUS replies five registers. The end of the sweep copies what is left and frees the guard; each I/O that ends well lets
the drain or restore go on and one that fails ends it; RESTORE begins with its manifests and ends when its bytes are copied. -/
def Obligations.CheckpointsAndRestores : Prop :=
  (∀ (s u : State) (q : Sub) (p : Policy) (ls ss : Nat) (es : List (Nat × Nat)) (d : Bytes), s.takes q Op.ckptPolicy u →
    p = ckptParams q → u.admitted = true → p.baseStep < 2 ^ 40 → 100 ≤ p.drainMs → p.drainMs ≤ 600000 →
    (p.intervalNs = 0 ∨ u.periodNs ≤ p.intervalNs) → p.reflBase % granuleBytes = 0 → p.reflLen % granuleBytes = 0 →
    2 ^ 30 ≤ p.reflLen → inDeep p.reflBase p.reflLen = true → (p.domeList = 0 → ls = 0 ∧ es = []) →
    (p.domeList ≠ 0 → u.readExtents p.domeList = (ls, es)) → u.readStore p.storeAddr = (ss, d) →
    (ls = 0 → ss = 0 → reflRules es p.reflBase p.reflLen = true → u.ckptBusy = false →
      exec .ckptPolicy s = ok (({ u with ckpt := { u.ckpt with nextPolicy := some p } } : State).short q St.ok [])) ∧
    (ls = 0 → ss = 0 → reflRules es p.reflBase p.reflLen = true → u.ckptBusy = true →
      exec .ckptPolicy s = ok (u.short q St.busy [])) ∧
    (ls = 0 → ss = 0 → reflRules es p.reflBase p.reflLen = false → exec .ckptPolicy s = ok (u.short q St.badParam [])) ∧
    (u.structFault p.storeAddr storeLength = St.badParam ∨
      p.domeList ≠ 0 ∧ u.structFault p.domeList extentsLength = St.badParam →
      exec .ckptPolicy s = ok (u.short q St.badParam [])) ∧
    (u.structFault p.storeAddr storeLength ≠ St.badParam →
      (p.domeList ≠ 0 → u.structFault p.domeList extentsLength ≠ St.badParam) →
      (u.structFault p.storeAddr storeLength = St.poisonConsumed ∨
        p.domeList ≠ 0 ∧ u.structFault p.domeList extentsLength = St.poisonConsumed →
        exec .ckptPolicy s = ok (u.short q St.poisonConsumed [])) ∧
      (u.structFault p.storeAddr storeLength ≠ St.poisonConsumed →
        (p.domeList ≠ 0 → u.structFault p.domeList extentsLength ≠ St.poisonConsumed) → (ls ≠ 0 ∨ ss ≠ 0) →
        exec .ckptPolicy s = ok (u.short q St.badParam [])))) ∧
  (∀ (s u : State) (q : Sub) (p : Policy), s.takes q Op.ckptPolicy u → p = ckptParams q →
    (u.admitted = false ∨ 2 ^ 40 ≤ p.baseStep ∨ p.drainMs < 100 ∨ 600000 < p.drainMs ∨
      (p.intervalNs ≠ 0 ∧ p.intervalNs < u.periodNs) ∨ p.reflBase % granuleBytes ≠ 0 ∨ p.reflLen % granuleBytes ≠ 0 ∨
      p.reflLen < 2 ^ 30 ∨ inDeep p.reflBase p.reflLen = false) →
    exec .ckptPolicy s = ok (u.short q St.badParam [])) ∧
  (∀ (s u : State) (q : Sub), s.takes q Op.ckptNow u →
    (u.ckpt.policy ≠ none → q.p 0 8 < 2 ^ 40 → (q.p 0 8 = 0 ∨ u.step < q.p 0 8) → u.ckpt.now = none →
      ∀ (v : State) (h : Nat), u.accept q = (v, h) →
      exec .ckptNow s = ok ({ v with ckpt := { v.ckpt with now := some (h, q.p 0 8) } } : State).showCkpt) ∧
    (u.ckpt.policy ≠ none → q.p 0 8 < 2 ^ 40 → (q.p 0 8 = 0 ∨ u.step < q.p 0 8) → u.ckpt.now ≠ none →
      exec .ckptNow s = ok (u.refuse q St.busy)) ∧
    (u.ckpt.policy = none ∨ 2 ^ 40 ≤ q.p 0 8 ∨ (q.p 0 8 ≠ 0 ∧ q.p 0 8 ≤ u.step) →
      exec .ckptNow s = ok (u.refuse q St.badParam))) ∧
  (∀ (s u : State) (q : Sub), s.takes q Op.ckptStatus u → exec .ckptStatus s =
    ok (u.short q St.ok (natLE 8 (u.rdReg R.CKPT_STATUS) ++ natLE 8 (u.rdReg R.CKPT_LAST) ++ natLE 8 (u.rdReg R.CKPT_COPIED)
      ++ natLE 8 (u.rdReg R.CKPT_DRAINED) ++ natLE 8 (u.rdReg R.CKPT_TOTAL)))) ∧
  (∀ s : State, (s.ckpt.copying = false → exec .reflectionCopyDone s = ok s) ∧
    (s.ckpt.copying = true → ∀ u : State, u = s.ckpt.granules.foldl (fun s g => s.copyRange g.1 g.2 granuleBytes) s →
      exec .reflectionCopyDone s = ok ((({ u with ckpt := { u.ckpt with copying := false, granules := [] } } : State).incw
        F.CKPT_COPIED_BYTES (granuleBytes * s.ckpt.granules.length)).storePump))) ∧
  (∀ (item : Nat) (data : Bytes) (s : State) (r : Restore), s.ckpt.restore = some r →
    (r.inFlight.any (·.1 == item) = true → exec (.storeIoCompletion item true data) s = ok (s.restoreRead r item data)) ∧
    (r.inFlight.any (·.1 == item) = true → exec (.storeIoCompletion item false data) s = ok (s.restoreEnd St.storeError)) ∧
    (∀ good : Bool, r.inFlight.any (·.1 == item) = false → exec (.storeIoCompletion item good data) s = ok s) ∧
    (r.stage = 3 → exec .drainTimeout s = ok s) ∧
    (r.stage ≠ 3 → exec .drainTimeout s = ok (s.restoreEnd St.storeUnreachable) ∧ exec .restoreCopyDone s = ok s) ∧
    (r.stage = 3 → ∀ u : State, u = r.shards.foldl (fun v x => (v.writeCells x.2.1.dest (v.readCells (s.reflBase + x.2.2)
        x.2.1.length)).incw F.CKPT_COPIED_BYTES x.2.1.length) s →
      (r.shards.any (fun x => s.poisoned (s.reflBase + x.2.2) x.2.1.length) = false →
        exec .restoreCopyDone s = ok (u.restoreEnd St.ok)) ∧
      (r.shards.any (fun x => s.poisoned (s.reflBase + x.2.2) x.2.1.length) = true →
        exec .restoreCopyDone s = ok (u.restoreEnd St.poisonConsumed)))) ∧
  (∀ (item : Nat) (data : Bytes) (s : State) (d : Drain), s.ckpt.restore = none → s.ckpt.drain = some d →
    (d.inFlight.any (·.1 == item) = true → d.order ≠ 3 → exec (.storeIoCompletion item true data) s =
      ok (s.setDrain { d with inFlight := d.inFlight.filter (·.1 != item) }).storePump) ∧
    (d.inFlight.any (·.1 == item) = true → d.order = 3 → exec (.storeIoCompletion item true data) s =
      ok ((s.incw F.CKPT_DRAINED_BYTES (d.shards.getD item ⟨0, 0, 0, 0, []⟩).length).setDrain
        { d with inFlight := d.inFlight.filter (·.1 != item) }).storePump) ∧
    (d.inFlight.any (·.1 == item) = true → exec (.storeIoCompletion item false data) s = ok (s.endDrain St.storeError)) ∧
    (∀ good : Bool, d.inFlight.any (·.1 == item) = false → exec (.storeIoCompletion item good data) s = ok s) ∧
    exec .restoreCopyDone s = ok s ∧
    (d.order = 7 → exec .drainTimeout s = ok s) ∧
    (d.order ≠ 7 → exec .drainTimeout s = ok (s.endDrain St.storeUnreachable))) ∧
  (∀ (item : Nat) (good : Bool) (data : Bytes) (s : State), s.ckpt.restore = none → s.ckpt.drain = none →
    exec (.storeIoCompletion item good data) s = ok s ∧ exec .drainTimeout s = ok s ∧ exec .restoreCopyDone s = ok s) ∧
  (∀ (s u : State) (q : Sub), s.takes q Op.restore u →
    (∀ j : Job, u.job = some j → j.anyStep = false → u.ckptBusy = false → u.rd F.NODE_PROFILE_SWITCHING = 0 →
      ∀ (st : Nat) (srcs : List RestoreSource) (trust : List Bytes),
        u.readSources (q.p 0 1) (q.p 8 8) (q.p 1 1) (q.p 16 8) = (st, srcs, trust) →
      (st ≠ 0 → exec .restore s = ok (u.longNow q st 0 [])) ∧
      (∀ (v : State) (h : Nat), st = 0 → u.accept q = (v, h) →
        exec .restore s = ok (v.restoreBegin (some h) srcs trust))) ∧
    ((u.job = none ∨ (∃ j, u.job = some j ∧ j.anyStep = true) ∨ u.ckptBusy = true ∨ u.rd F.NODE_PROFILE_SWITCHING ≠ 0) →
      exec .restore s = ok (u.refuse q St.busy)))

/-- JOB_ADMIT tests the rows of Table 16.16 in order and installs the job when none refuses it; JOB_RELEASE of the admitted job
cancels its checkpoint and recording and waits for the next boundary; JOB_SHRINK halts the job's terraces, arms the variant for
its step and starts its restore, and fails when that is not over 10 µs before. -/
def Obligations.JobsAdmitReleaseAndShrink : Prop :=
  (∀ (s u : State) (q : Sub), s.takes q Op.jobAdmit u →
    (u.admitBusy (q.p 2 2) = true → exec .jobAdmit s = ok (u.refuse q St.busy)) ∧
    (u.admitBusy (q.p 2 2) = false → u.admitBad q = true → exec .jobAdmit s = ok (u.refuse q St.badParam)) ∧
    (u.admitBusy (q.p 2 2) = false → u.admitBad q = false →
      (q.p 88 1 ≠ u.profile ∨ q.p 90 2 ≠ u.rd F.NODE_PROFILE_TOWER_MHZ) → exec .jobAdmit s = ok (u.refuse q St.badParam)) ∧
    (u.admitBusy (q.p 2 2) = false → u.admitBad q = false → q.p 88 1 = u.profile →
      q.p 90 2 = u.rd F.NODE_PROFILE_TOWER_MHZ →
      (u.rd F.TB_STATUS_STATE ≠ 2 → u.rd F.TB_STATUS_STATE ≠ 5 → exec .jobAdmit s = ok (u.refuse q St.timebaseLost)) ∧
      ((u.rd F.TB_STATUS_STATE = 2 ∨ u.rd F.TB_STATUS_STATE = 5) → u.bindingIs (q.p 92 2) (q.p 89 1) (q.p 96 8) = false →
        exec .jobAdmit s = ok (u.refuse q St.badParam)) ∧
      ((u.rd F.TB_STATUS_STATE = 2 ∨ u.rd F.TB_STATUS_STATE = 5) → u.bindingIs (q.p 92 2) (q.p 89 1) (q.p 96 8) = true →
        (∀ st : Nat, u.admitCheck q = Sum.inl st → exec .jobAdmit s = ok ((u.noteExact st).longNow q st 0 [])) ∧
        (∀ (pl : Plan) (cached : Bool) (gs : List Bytes) (vs : List (List Nat × List Bytes)) (v : State) (h : Nat),
          u.admitCheck q = Sum.inr (pl, cached, gs, vs) → u.accept q = (v, h) →
          exec .jobAdmit s = ok (v.admitInstall q h pl cached gs vs))))) ∧
  (∀ (s u : State) (q : Sub), s.takes q Op.jobRelease u →
    (∀ (j : Job) (v : State) (h : Nat), u.job = some j → j.jobTag = q.p 0 2 → u.jobChanging = false → u.ckpt.shrink = none →
      u.accept q = (v, h) →
      exec .jobRelease s = ok { v.ckptCancel.recordEnd with job := some { j with releasing := some (h, false) } }) ∧
    (∀ j : Job, u.job = some j → j.jobTag = q.p 0 2 → (u.jobChanging = true ∨ u.ckpt.shrink ≠ none) →
      exec .jobRelease s = ok (u.refuse q St.busy)) ∧
    (∀ j : Job, u.job = some j → j.jobTag ≠ q.p 0 2 → exec .jobRelease s = ok (u.refuse q St.badParam)) ∧
    (u.job = none → exec .jobRelease s = ok (u.refuse q St.badParam))) ∧
  (∀ (s : State) (j : Job) (h : Nat), s.job = some j → j.releasing = some (h, true) → s.putsOut = true →
    s.releaseFinish = s) ∧
  (∀ (s u v w : State) (q : Sub) (j : Job) (addrs : List Nat) (ds : List Bytes) (h : Nat), s.takes q Op.jobShrink u →
    u.job = some j → q.p 0 1 ≠ 0 → j.variants[q.p 0 1 - 1]? = some (addrs, ds) → q.p 8 8 < 2 ^ 40 → q.p 1 1 ≤ 64 →
    q.p 2 1 ≤ 64 →
    (u.jobChanging = true ∨ u.ckpt.shrink ≠ none ∨ u.ckpt.restore ≠ none → exec .jobShrink s = ok (u.refuse q St.busy)) ∧
    (u.jobChanging = false → u.ckpt.shrink = none → u.ckpt.restore = none → u.accept q = (v, h) →
      w = forEach (List.range 16) (forEach (terraces j.mask) v.ckptCancel
        (fun t x => x.setTr t { x.tr t with haltPending := true, resumeStep := none }))
        (fun t x => x.wr (F.SCHED_STATUS_ARMED t) 0) →
      (∀ st : Nat, w.variantBanks addrs ds = Sum.inl st → exec .jobShrink s = ok (w.complete h st 0 [])) ∧
      (∀ (bs : List Bank) (x y : State), w.variantBanks addrs ds = Sum.inr bs →
        x = (forEach (terraces j.mask) (bs.foldl (fun y b => forEach (y.members b.header.terrace) y (fun t y =>
          ((y.writeInactive t b).wr (F.SCHED_STATUS_ARMED t) 1).wr (F.SCHED_ARM_STEP_STEP t) (q.p 8 8))) w)
          (fun t y => y.setTr t { y.tr t with resumeStep := some (q.p 8 8) })).armVariant j (q.p 0 1) (q.p 8 8) →
        y = { x with ckpt := { x.ckpt with shrink := some ⟨h, q.p 0 1, q.p 8 8, q.p 1 1 != 0, []⟩ } } →
        (q.p 1 1 = 0 → exec .jobShrink s = ok y) ∧
        (∀ (st : Nat) (srcs : List RestoreSource) (trust : List Bytes), q.p 1 1 ≠ 0 →
          y.readSources (q.p 1 1) (q.p 16 8) (q.p 2 1) (q.p 24 8) = (st, srcs, trust) →
          (st ≠ 0 → exec .jobShrink s = ok (y.shrinkFail st)) ∧
          (st = 0 → exec .jobShrink s = ok (y.restoreBegin none srcs trust)))))) ∧
  (∀ (s u : State) (q : Sub), s.takes q Op.jobShrink u →
    (u.job = none ∨ q.p 0 1 = 0 ∨ (∃ j, u.job = some j ∧ j.variants.length < q.p 0 1) ∨ 2 ^ 40 ≤ q.p 8 8 ∨ 64 < q.p 1 1 ∨
      64 < q.p 2 1) → exec .jobShrink s = ok (u.refuse q St.badParam)) ∧
  (∀ (s u : State) (k : Shrink), s.ckpt.shrink = some k → k.withRestore = true →
    (s.reach (2 ^ 24 * k.effStep - s.nsToPhase 10000) = some u →
      exec .shrinkDeadline s = ok (u.shrinkFail St.deadlineMissed)) ∧
    (s.reach (2 ^ 24 * k.effStep - s.nsToPhase 10000) = none → exec .shrinkDeadline s = ok s)) ∧
  (∀ s : State, (s.ckpt.shrink = none ∨ ∃ k, s.ckpt.shrink = some k ∧ k.withRestore = false) →
    exec .shrinkDeadline s = ok s)

/-! ## The Keep and ageing (chapter 17) -/

/-- KEEP_READ replies the bytes of a region; KEEP_WRITE queues an update that its commit ends; an update erases, programs and
commits, and one that fails is done again on a spare. A counter record is due every 900 s. Surveys and self-tests queue their
parts, are refused when 64 wait, and end when their parts end or their deadline passes; MARGIN_REPLAN stores its plan first. -/
def Obligations.KeepAndAgeing : Prop :=
  (∀ (s u : State) (q : Sub), s.takes q Op.keepRead u →
    (q.p 0 1 ≤ 9 → 1 ≤ q.p 8 1 → q.p 8 1 ≤ 48 → q.p 4 4 + q.p 8 1 ≤ keepLimit (q.p 0 1) →
      (u.keep.damaged.contains (q.p 0 1) = false →
        exec .keepRead s = ok (u.short q St.ok (u.keepRead (q.p 0 1) (q.p 4 4) (q.p 8 1)))) ∧
      (u.keep.damaged.contains (q.p 0 1) = true → exec .keepRead s = ok (u.short q St.digestMismatch []))) ∧
    (9 < q.p 0 1 ∨ q.p 8 1 = 0 ∨ 48 < q.p 8 1 ∨ keepLimit (q.p 0 1) < q.p 4 4 + q.p 8 1 →
      exec .keepRead s = ok (u.short q St.badParam []))) ∧
  (∀ (s u : State) (q : Sub) (g off n : Nat), s.takes q Op.keepWrite u → g = q.p 0 1 → off = q.p 4 4 → n = q.p 8 2 →
    (g = 1 ∨ g = 9) → 1 ≤ n → n ≤ 4080 → off + n ≤ keepLimit g → 16 + n ≤ q.params.length →
    (g = 9 → overlaps off n 4096 4096 = false) →
    (u.keep.damaged.contains g = true → (off ≠ 0 ∨ n < (u.region g).data.length) →
      exec .keepWrite s = ok (u.short q St.digestMismatch [])) ∧
    ((u.keep.damaged.contains g = false ∨ off = 0 ∧ (u.region g).data.length ≤ n) →
    (u.removable = true ∨ u.keep.erasing.contains g = true ∨ u.keep.updates.any (·.region == g) = true →
      exec .keepWrite s = ok (u.short q St.busy [])) ∧
    (u.removable = false → u.keep.erasing.contains g = false → u.keep.updates.any (·.region == g) = false →
      (u.isWorn g = true → exec .keepWrite s = ok (u.short q St.keepWorn [])) ∧
      (u.isWorn g = false → exec .keepWrite s = ok (u.keepPut g (patch (sub (u.region g).data 0
        (max (u.region g).data.length (off + n))) off (sub q.params 16 n)) (.reply q)).keepStart)))) ∧
  (∀ (s u : State) (q : Sub), s.takes q Op.keepWrite u → (q.p 0 1 ≠ 1 ∧ q.p 0 1 ≠ 9 ∨ q.p 8 2 = 0 ∨
    4080 < q.p 8 2 ∨ keepLimit (q.p 0 1) < q.p 4 4 + q.p 8 2 ∨ q.params.length < 16 + q.p 8 2 ∨
    q.p 0 1 = 9 ∧ overlaps (q.p 4 4) (q.p 8 2) 4096 4096 = true) →
    exec .keepWrite s = ok (u.short q St.badParam [])) ∧
  (∀ (s u v : State) (k : KeepThen) (good : Bool), s.alive = true → s.norUpdate good = (u, k) →
    v = (u.keepThen k).siteChanged (sub (s.keepData 9) 512 64) →
    exec (.norOperationDone .update good) s = ok v.ageBudgets.removalProceed) ∧
  (∀ (s : State) (g : Fin 10) (good : Bool), s.alive = true →
    exec (.norOperationDone (.erase g) good) s = ok (s.norErase g good).ageBudgets.removalProceed ∧
    exec (.norOperationDone .staging good) s = ok (s.norStaging good).removalProceed) ∧
  (∀ (s : State) (op : NorOp) (good : Bool), s.alive = false → exec (.norOperationDone op good) s = ok s) ∧
  (∀ (s : State) (x : KUpdate) (xs : List KUpdate), s.keep.updates = x :: xs →
    (x.phase ≠ 0 → s.norUpdate false = ((({ s with keep := { s.keep with
      remapped := s.keep.remapped ++ [(x.region, (s.region x.region).next)] } } : State).ev
        F.KEEP_EVENTS_SECTOR_REMAPPED).keepNote x.region 2, .none)) ∧
    (x.phase = 1 → s.norUpdate true = ({ s with keep := { s.keep with
      updates := { x with phase := 2 } :: xs, erasing := s.keep.erasing.filter (· != x.region) } }, .none)) ∧
    (x.phase = 2 → ∀ v : State, v = s.keepCommit x.region x.data →
      s.norUpdate true = (({ v with keep := { v.keep with updates := v.keep.updates.drop 1 } } : State).keepStart, x.thn))) ∧
  (∀ (sec : BitVec 32) (s : State),
    (900 + s.keep.lastCounter ≤ sec.toNat → exec (.counterRecordTimer sec) s = ok (s.powerOn sec.toNat).counterRecord) ∧
    (sec.toNat < 900 + s.keep.lastCounter → exec (.counterRecordTimer sec) s = ok s) ∧
    (3600000 + s.keep.lastFold ≤ sec.toNat → ∀ u : State, u = s.powerOn sec.toNat → exec (.counterFold sec) s =
      ok (({ u with keep := { u.keep with lastFold := sec.toNat } } : State).keepAppend 8 u.foldData)) ∧
    (sec.toNat < 3600000 + s.keep.lastFold → exec (.counterFold sec) s = ok s)) ∧
  (∀ (s u : State) (q : Sub), s.takes q Op.readAgeingLog u → u.keep.damaged.contains 3 = true →
    exec .readAgeingLog s = ok (u.short q St.digestMismatch [])) ∧
  (∀ (s u : State) (q : Sub) (i : Nat) (r : Bytes), s.takes q Op.readAgeingLog u → u.keep.damaged.contains 3 = false →
    ((u.region 3).recs[q.p 0 4]? = some (i, r) → exec .readAgeingLog s = ok (u.short q St.ok (r.take 48))) ∧
    ((u.region 3).recs[q.p 0 4]? = none → exec .readAgeingLog s = ok (u.short q St.badParam []))) ∧
  (∀ (s u : State) (q : Sub), s.takes q Op.marginSurvey u →
    (7 < q.p 2 1 → exec .marginSurvey s = ok (u.refuse q St.badParam)) ∧
    (∀ ts : List Nat, q.p 2 1 ≤ 7 → (bit (q.p 2 1) 0 = true →
        ts = (terraces (q.p 0 2)).filter (fun t => !bit (u.rd F.AGE_STATUS_RETIRED) t)) →
      (bit (q.p 2 1) 0 = false → ts = []) →
      exec .marginSurvey s = ok (u.queueAge q (fun h => ⟨some h, false, q.p 2 1, 0, ts, [], q.p 0 2, q.deadline, [], 0, 0, false⟩)))) ∧
  (∀ (s u : State) (q : Sub), s.takes q Op.selfTest u →
    (1 < q.p 2 1 → exec .selfTest s = ok (u.refuse q St.badParam)) ∧
    (q.p 2 1 ≤ 1 → exec .selfTest s = ok (u.queueAge q (fun h => ⟨some h, true, 0, q.p 2 1,
      (terraces (q.p 0 2)).filter (fun t => !bit (u.rd F.AGE_STATUS_RETIRED) t), [], q.p 0 2, q.deadline, [], 0, 0, false⟩)))) ∧
  (∀ (s : State) (q : Sub) (mk : Nat → AgeReq), 64 ≤ (s.age.queue.filter (·.handle.isSome)).length →
    s.queueAge q mk = (s.ev F.AGE_EVENTS_QUEUE_FULL).refuse q St.busy) ∧
  (∀ (s u v : State) (q : Sub) (h : Nat), s.takes q Op.marginReplan u →
    (u.age.replan ≠ none ∨ u.removable = true → exec .marginReplan s = ok (u.refuse q St.busy)) ∧
    (u.age.replan = none → u.removable = false → u.accept q = (v, h) →
      (v.isWorn 2 = true → exec .marginReplan s =
        ok (v.setReplan (some ⟨h, v.buildPlan, none, false, [], St.keepWorn⟩)).replanStored) ∧
      (v.isWorn 2 = false → exec .marginReplan s =
        ok ((v.setReplan (some ⟨h, v.buildPlan, none, false, [], St.ok⟩)).keepPut 2 v.buildPlan (.replan h)).keepStart))) ∧
  (∀ (m1 : Int), (m1 = 0 → offset5 (30 - m1) = 30) ∧ (m1 = -30 → offset5 (30 - m1) = 60) ∧ (m1 = 40 → offset5 (30 - m1) = 0)) ∧
  (∀ (t : Fin 16) (m1 mr : BitVec 16) (ro : BitVec 32) (w : Fin 16) (temp : BitVec 16) (bad : Bool) (s : State),
    s.age.queue.find? (·.running.contains t.val) = none → exec (.surveyPartEnd t m1 mr ro w temp bad) s = ok s) ∧
  (∀ (t : Fin 16) (m1 mr : BitVec 16) (ro : BitVec 32) (w : Fin 16) (temp : BitVec 16) (bad : Bool) (s u : State) (r : AgeReq),
    s.age.queue.find? (·.running.contains t.val) = some r → (r.selfTest = true ∨ r.calibration = true) →
    u = s.setQueue (s.age.queue.map (fun x => if x.running.contains t.val then { x with
      running := x.running.filter (· != t.val)
      failing := if x.selfTest && bad then setBit x.failing t true else x.failing } else x)) →
    exec (.surveyPartEnd t m1 mr ro w temp bad) s = ok ((u.settlePower t).finishReqs.startParts t).showAge.admitFinish) ∧
  (∀ (t : Fin 16) (m1 mr : BitVec 16) (ro : BitVec 32) (w : Fin 16) (temp : BitVec 16) (bad : Bool) (s u v : State) (r : AgeReq),
    s.age.queue.find? (·.running.contains t.val) = some r → r.selfTest = false → r.calibration = false →
    u = s.setQueue (s.age.queue.map (fun x => if x.running.contains t.val then { x with
      running := x.running.filter (· != t.val)
      recs := mput x.recs t (s.ageRecord 1 t temp.toNat (natLE 2 m1.toNat ++ natLE 2 mr.toNat ++ natLE 4 ro.toNat ++ natLE 1 w))
      failing := if x.selfTest && bad then setBit x.failing t true else x.failing } else x)) →
    v = u.wr (F.AGE_TERRACE_MARGIN_MV t) m1.toNat →
    exec (.surveyPartEnd t m1 mr ro w temp bad) s = ok ((v.settlePower t).finishReqs.startParts t).showAge.admitFinish) ∧
  (∀ (h : Nat) (s u : State) (r : AgeReq), s.age.queue.find? (fun r => r.handle == some h) = some r →
    (r.deadline ≠ 0 → r.left ≠ [] → s.reach r.deadline = some u → exec (.surveyDeadline h) s = ok (u.setQueue (u.age.queue.map
      (fun x => if x.handle == some h then { x with expired := x.expired ||| maskOf x.left, left := [] } else x))).finishReqs.showAge) ∧
    (s.reach r.deadline = none → exec (.surveyDeadline h) s = ok s) ∧
    (r.deadline = 0 ∨ r.left = [] → exec (.surveyDeadline h) s = ok s)) ∧
  (∀ (h : Nat) (s : State), s.age.queue.find? (fun r => r.handle == some h) = none → exec (.surveyDeadline h) s = ok s) ∧
  (∀ (m : Fin 24) (ms : BitVec 32) (temp : BitVec 16) (s : State), exec (.retentionSweepComplete m ms temp) s =
    ok (({ s with age := { s.age with retAt := mput s.age.retAt m (s.now, temp.toNat) } } : State).wr (F.AGE_MEM_RET_MS m)
      ms.toNat)) ∧
  (∀ (p : Fin 10) (hs ws : Bytes) (temp : BitVec 16) (s : State),
    (s.portState p ≠ Port.up → exec (.eyeMonitorSample p hs ws temp) s = ok s) ∧
    (∀ u : State, s.portState p = Port.up → bitList (s.rd (F.PORT_STATUS_LANES_TRAINED p)) 8 = [] →
      u = { s with age := { s.age with eyeAt := mput s.age.eyeAt p (s.now, temp.toNat) } } →
      exec (.eyeMonitorSample p hs ws temp) s = ok u) ∧
    (∀ (u : State) (l0 : Nat) (ls : List Nat) (wl mh : Nat), s.portState p = Port.up →
      bitList (s.rd (F.PORT_STATUS_LANES_TRAINED p)) 8 = l0 :: ls →
      u = { s with age := { s.age with
        eyes := (l0 :: ls).foldl (fun m l => mput m (p.val * 8 + l) (fld hs l 1, fld ws l 1)) s.age.eyes
        eyeAt := mput s.age.eyeAt p (s.now, temp.toNat) } } →
      worstLane ((l0 :: ls).map (fun l => (l, fld hs l 1))) (l0, fld hs l0 1) = (wl, mh) →
      exec (.eyeMonitorSample p hs ws temp) s = ok (((u.wr (F.AGE_EYE_MIN_HEIGHT_MV p) mh).wr (F.AGE_EYE_MIN_WIDTH p)
        (((l0 :: ls).map (fun l => fld ws l 1)).foldl min (fld ws l0 1))).wr (F.AGE_EYE_WORST_LANE p) wl)))

/-! ## Security, sessions, the management port and the tray (chapters 20 and 21) -/

/-- FW_STAGE checks its parameters and begins with the image or its first piece, a later piece follows in order, and a staging
without a piece for 60 s ends; IDENTITY_READ replies a page; ATTEST logs every measurement and completes with the log's digest;
KEY_ROTATE queues the new pair. A good CLIENT_HELLO opens a session and others are counted and refused; an ACK frees its
records, a KEEPALIVE is answered, a record is sent up to 50 times, and a session that times out closes. -/
def Obligations.FirmwareIdentityAndSessions : Prop :=
  (∀ (s u : State) (q : Sub) (a n : Nat), s.takes q Op.fwStage u → q.p 0 1 = 0 → a = q.p 8 8 → n = q.p 16 8 →
    fwParamsBad q 0 = false → 4097 ≤ n → n ≤ 33554368 → u.backed a n = true →
    (u.poisoned a n = true ∨ fwHeaderOk (u.readBytes a n) = false ∨ fwLength (u.readBytes a n) = n) →
    (u.sec.staging ≠ none ∨ u.removable = true → exec .fwStageLocal s = ok (u.refuse q St.busy)) ∧
    (u.sec.staging = none → u.removable = false → u.isWorn 6 = true → exec .fwStageLocal s = ok (u.refuse q St.keepWorn)) ∧
    (∀ (v : State) (h : Nat), u.sec.staging = none → u.removable = false → u.isWorn 6 = false → u.poisoned a n = true →
      u.accept q = (v, h) → exec .fwStageLocal s = ok (v.fwFail h St.signatureInvalid)) ∧
    (u.sec.staging = none → u.removable = false → u.isWorn 6 = false → u.poisoned a n = false →
      exec .fwStageLocal s = ok (u.fwBegin q (u.readBytes a n) true))) ∧
  (∀ (s u : State) (q : Sub), s.takes q Op.fwStage u → q.p 0 1 ≠ 1 → (1 < q.p 0 1 ∨ fwParamsBad q 0 = true ∨
    q.p 16 8 < 4097 ∨ 33554368 < q.p 16 8 ∨ u.backed (q.p 8 8) (q.p 16 8) = false ∨
    (u.poisoned (q.p 8 8) (q.p 16 8) = false ∧ fwHeaderOk (u.readBytes (q.p 8 8) (q.p 16 8)) = true ∧
      fwLength (u.readBytes (q.p 8 8) (q.p 16 8)) ≠ q.p 16 8)) →
    exec .fwStageLocal s = ok (u.refuse q St.badParam)) ∧
  (∀ (s u v : State) (q : Sub) (h : Nat) (image : Bytes) (last : Bool), s.accept q = (v, h) →
    (fwHeaderOk image = false → s.fwBegin q image last = v.fwFail h St.signatureInvalid) ∧
    (fwHeaderOk image = true → fwSvn image < v.sec.fuses → s.fwBegin q image last = v.fwFail h St.rollbackRefused) ∧
    (fwHeaderOk image = true → v.sec.fuses ≤ fwSvn image → u = (v.setSlotFw v.fwTarget FwSlot.empty).showStaged none →
      s.fwBegin q image last = u.setStaging (some ⟨q.chan, some h, last, u.fwTarget, image, 1⟩))) ∧
  (∀ (s u : State) (q : Sub), s.takes q Op.fwStage u → q.p 0 1 = 1 → fwParamsBad q 1 = false → u.removable = false →
    u.isWorn 6 = false →
    (u.sec.staging = none → q.p 4 4 = 0 → 3860 ≤ (q.params.drop 32).length →
      (q.params.drop 32).length ≤ fwLength (q.params.drop 32) →
      (q.p 1 1 = 1 → (q.params.drop 32).length = fwLength (q.params.drop 32)) →
      exec .fwStagePiece s = ok (u.fwBegin q (q.params.drop 32) (q.p 1 1 == 1))) ∧
    (u.sec.staging = none → q.p 4 4 ≠ 0 → exec .fwStagePiece s = ok (u.refuse q St.badParam)) ∧
    (∀ (g : Staging) (im : Bytes) (v : State) (h : Nat), u.sec.staging = some g → g.chan = q.chan → g.handle = none →
      q.p 4 4 = g.received.length → q.p 4 4 ≠ 0 → im = g.received ++ q.params.drop 32 → 1 ≤ (q.params.drop 32).length →
      im.length ≤ fwLength im → (q.p 1 1 = 1 → im.length = fwLength im) → u.accept q = (v, h) →
      exec .fwStagePiece s =
        ok (v.setStaging (some { g with handle := some h, last := q.p 1 1 == 1, received := im, phase := 2 })))) ∧
  (∀ (s u : State) (q : Sub), s.takes q Op.fwStage u → q.p 0 1 = 1 → (fwParamsBad q 1 = true ∨ q.params.drop 32 = [] ∨
    (q.p 4 4 = 0 ∧ (q.params.drop 32).length < 3860)) → exec .fwStagePiece s = ok (u.refuse q St.badParam)) ∧
  (∀ (s u : State) (q : Sub) (g : Staging) (piece : Bytes), s.takes q Op.fwStage u → q.p 0 1 = 1 → fwParamsBad q 1 = false →
    u.sec.staging = some g → piece = q.params.drop 32 → q.p 4 4 = 0 → 3860 ≤ piece.length → piece.length ≤ fwLength piece →
    (q.p 1 1 = 1 → piece.length = fwLength piece) →
    (g.chan ≠ q.chan ∨ u.removable = true → exec .fwStagePiece s = ok (u.refuse q St.busy)) ∧
    (g.chan = q.chan → u.removable = false → u.isWorn 6 = true → exec .fwStagePiece s = ok (u.refuse q St.keepWorn)) ∧
    (g.chan = q.chan → u.removable = false → u.isWorn 6 = false →
      (g.handle = none → exec .fwStagePiece s = ok (u.fwBegin q piece (q.p 1 1 == 1))) ∧
      (∀ h : Nat, g.handle = some h →
        exec .fwStagePiece s = ok ((u.complete h St.busy 0 []).fwBegin q piece (q.p 1 1 == 1))))) ∧
  (∀ s : State, (∀ g : Staging, s.sec.staging = some g → g.phase = 0 → exec .fwStageTimeout s = ok (s.setStaging none)) ∧
    (∀ g : Staging, s.sec.staging = some g → g.phase ≠ 0 → exec .fwStageTimeout s = ok s) ∧
    (s.sec.staging = none → exec .fwStageTimeout s = ok s)) ∧
  (∀ (s u : State) (q : Sub), s.takes q Op.identityRead u →
    (q.p 0 1 ≤ 106 → exec .identityRead s = ok (u.short q St.ok (sub (identityBytes 0 5108) (48 * q.p 0 1) 48))) ∧
    (128 ≤ q.p 0 1 → q.p 0 1 ≤ 186 → exec .identityRead s = ok (u.short q St.ok (sub u.sec.log (48 * (q.p 0 1 - 128)) 48))) ∧
    (106 < q.p 0 1 → (q.p 0 1 < 128 ∨ 186 < q.p 0 1) → exec .identityRead s = ok (u.short q St.badParam []))) ∧
  (∀ (s u : State) (q : Sub) (log : Bytes), s.takes q Op.attest u → log = u.attestLog (sub q.params 0 32) →
    (∀ c : Nat, q.chan = .loc c →
      (q.p 32 8 % 64 = 0 → u.backed (q.p 32 8) 2828 = true → ∀ v : State, v = u.write (q.p 32 8) log → exec .attest s =
        ok ((({ v with sec := { v.sec with log := log } } : State).inc F.SEC_COUNTS_ATTESTS).longNow q St.ok 0 (sha3_256 log))) ∧
      (q.p 32 8 % 64 ≠ 0 ∨ u.backed (q.p 32 8) 2828 = false → exec .attest s = ok (u.refuse q St.badParam))) ∧
    ((∀ c : Nat, q.chan ≠ .loc c) →
      (q.p 32 8 = 0 → exec .attest s =
        ok ((({ u with sec := { u.sec with log := log } } : State).inc F.SEC_COUNTS_ATTESTS).longNow q St.ok 0 (sha3_256 log))) ∧
      (q.p 32 8 ≠ 0 → exec .attest s = ok (u.refuse q St.badParam)))) ∧
  (∀ (s u v : State) (q : Sub) (h : Nat), s.takes q Op.keyRotate u → u.removable = false →
    u.keep.updates.any (·.region == 9) = false → u.isWorn 9 = false → u.accept q = (v, h) →
    (q.p 0 1 = 0 → exec .keyRotateNew s = ok (v.keepPut 9 (patch (sub (v.keepData 9) 0 (max (v.keepData 9).length 8192)) 4096
      u.newKeyPair) (.keyRotate h (sha3_256 (u.newKeyPair.take 1312)))).keepStart) ∧
    (q.p 0 1 = 1 → exec .keyRotateErase s = ok (v.keepPut 9 (patch (sub (v.keepData 9) 0 (max (v.keepData 9).length 8192)) 4096
      (zeros 4096)) (.keyRotate h (zeros 32))).keepStart)) ∧
  (∀ (s u : State) (q : Sub), s.takes q Op.keyRotate u →
    (1 < q.p 0 1 → exec .keyRotateNew s = ok (u.refuse q St.badParam)) ∧
    (u.removable = false → u.keep.updates.any (·.region == 9) = false → u.isWorn 9 = true →
      (q.p 0 1 = 0 → exec .keyRotateNew s = ok (u.longNow q St.keepWorn 0 [])) ∧
      (q.p 0 1 = 1 → exec .keyRotateErase s = ok (u.longNow q St.keepWorn 0 []))) ∧
    (q.p 0 1 = 0 → (u.removable = true ∨ u.keep.updates.any (·.region == 9) = true) →
      exec .keyRotateNew s = ok (u.refuse q St.busy)) ∧
    (q.p 0 1 = 1 → (u.removable = true ∨ u.keep.updates.any (·.region == 9) = true) →
      exec .keyRotateErase s = ok (u.refuse q St.busy))) ∧
  (∀ (client : Nat) (msg pub part : Bytes) (s : State), s.alive = true → s.openFrom 2 = true → s.sec.sessKey = some pub →
    msg.length = 4948 → s.operatorKnown (sub msg 1216 1312) = true →
    Config.mldsaVerify (sub msg 1216 1312) (sha3_256 (sub msg 0 2528 ++ natLE 2 s.nodeId)) (sub msg 2528 2420) = true →
    s.cmd.sessions.length < 8 →
    part = (List.range 1088).map (Config.cryptoByte s.fresh 6) ++ (List.range 32).map (Config.cryptoByte s.fresh 7) ++ pub
      ++ sub (s.keepData 9) 5408 2420 →
    exec (.clientHello client msg) s = ok (({ s with cmd := { s.cmd with
      sessions := s.cmd.sessions ++ [⟨fld (sha3_256 (msg ++ part)) 0 8, none, [], client, 0, 0⟩] } } : State).send .nodeHello
        client [] (part ++ (List.range 2420).map (Config.cryptoByte s.fresh 8)))) ∧
  (∀ (client : Nat) (msg : Bytes) (s : State), s.alive = true → s.openFrom 2 = true →
    (s.sec.sessKey = none ∨ msg.length ≠ 4948 ∨ s.operatorKnown (sub msg 1216 1312) = false ∨ 8 ≤ s.cmd.sessions.length ∨
      Config.mldsaVerify (sub msg 1216 1312) (sha3_256 (sub msg 0 2528 ++ natLE 2 s.nodeId)) (sub msg 2528 2420) = false) →
    exec (.clientHello client msg) s = ok ((s.inc F.SEC_COUNTS_REFUSED).ev F.SEC_EVENTS_SESSION_REFUSED)) ∧
  (∀ (client : Nat) (msg : Bytes) (s : State), s.alive = false ∨ s.openFrom 2 = false →
    exec (.clientHello client msg) s = ok s) ∧
  (∀ (sid counter client : Nat) (auth : Bool) (kind : Fin 4) (h tag : BitVec 32) (s u : State),
    (s.datagram sid counter client auth = (u, true) → exec (.keepalive sid counter client auth) s = ok (u.mgmtSend sid 5 []) ∧
      exec (.ack sid counter client auth kind h tag) s = ok { u with cmd := { u.cmd with
        mgmt := u.cmd.mgmt.filter (fun r => !(r.session == sid && fld r.record 0 1 % 4 == kind.val
          && fld r.record 8 4 == h.toNat && fld r.record 12 4 == tag.toNat)) } }) ∧
    (s.datagram sid counter client auth = (u, false) → exec (.keepalive sid counter client auth) s = ok u ∧
      exec (.ack sid counter client auth kind h tag) s = ok u) ∧
    exec (.sessionTimeout sid) s = ok (s.closeSessions (·.sid == sid))) ∧
  (∀ (sid counter client : Nat) (auth : Bool) (s : State) (x : Session), s.cmd.sessions.find? (·.sid == sid) = some x →
    (2 ^ 32 ≤ x.received ∨ 2 ^ 32 ≤ x.sent →
      s.datagram sid counter client auth = (s.closeSessions (·.sid == sid), false)) ∧
    (x.received < 2 ^ 32 → x.sent < 2 ^ 32 →
    (s.alive = true → auth = true → x.admits counter = true → s.datagram sid counter client auth = ({ s with cmd := { s.cmd with
      sessions := s.cmd.sessions.map (fun y => if y.sid == sid then y.take counter client else y) } }, true)) ∧
    (s.alive = false ∨ auth = false ∨ x.admits counter = false →
      s.datagram sid counter client auth = (s.inc F.SEC_COUNTS_AUTH_FAILS, false)))) ∧
  (∀ (sid counter client : Nat) (auth : Bool) (s : State), s.cmd.sessions.find? (·.sid == sid) = none →
    s.datagram sid counter client auth = (s.inc F.SEC_COUNTS_AUTH_FAILS, false)) ∧
  (∀ (k : Nat) (s : State) (r : MgmtRecord), s.cmd.mgmt[k]? = some r →
    (r.sends < 50 → exec (.recordResend k) s = ok (({ s with cmd := { s.cmd with
      mgmt := lset s.cmd.mgmt k { r with sends := r.sends + 1 } } } : State).mgmtSend r.session 3 r.record)) ∧
    (50 ≤ r.sends → exec (.recordResend k) s =
      ok (({ s with cmd := { s.cmd with mgmt := s.cmd.mgmt.eraseIdx k } } : State).ev F.NODE_CMD_EVENTS_MGMT_UNACKED))) ∧
  (∀ (k : Nat) (s : State), s.cmd.mgmt[k]? = none → exec (.recordResend k) s = ok s)

/-- The management port takes one SLAAC address, answers solicitations and echoes to its own addresses, and shows its link. The
tray target takes its address by SETDASA, loses it by RSTDAA, holds the lengths set in their limits, enables its interrupt, and
returns the selected reply or record, all 64 bytes of which remove the record; a TSB_COMMAND is dropped while the last is
pending, else submitted. -/
def Obligations.ManagementPortAndTray : Prop :=
  (∀ (pfx : Bytes) (len : Fin 129) (auto : Bool) (life : BitVec 32) (s : State), s.alive = true →
    s.rd F.PANEL_MGMT_LINK_UP = 1 → s.rd F.PANEL_MGMT_STATIC = 0 → s.rd F.PANEL_MGMT_ADDR_VALID = 0 →
    (auto = true → len.val = 64 → life ≠ 0 → (fld pfx 0 1 ≠ 0xFE ∨ fld pfx 1 1 / 64 ≠ 2) →
      exec (.routerAdvertisement pfx len auto life) s = ok (((s.setAddr R.PANEL_MGMT_ADDR (sub pfx 0 8 ++ interfaceId)).wr
        F.PANEL_MGMT_PREFIX_LEN 64).wr F.PANEL_MGMT_ADDR_VALID 1)) ∧
    (auto = false ∨ len.val ≠ 64 ∨ life = 0 ∨ (fld pfx 0 1 = 0xFE ∧ fld pfx 1 1 / 64 = 2) →
      exec (.routerAdvertisement pfx len auto life) s = ok s)) ∧
  (∀ (pfx : Bytes) (len : Fin 129) (auto : Bool) (life : BitVec 32) (s : State), s.alive = false ∨
    s.rd F.PANEL_MGMT_LINK_UP = 0 ∨ s.rd F.PANEL_MGMT_STATIC = 1 ∨ s.rd F.PANEL_MGMT_ADDR_VALID = 1 →
    exec (.routerAdvertisement pfx len auto life) s = ok s) ∧
  (∀ (dst src data : Bytes) (s : State),
    (s.alive = true → s.rd F.PANEL_MGMT_LINK_UP = 1 → s.ownAddr dst = true →
      exec (.neighbourDiscovery dst src) s = ok (s.send .neighbour (leNat src) [] (dst ++ macBytes)) ∧
      exec (.icmpv6Echo dst src data) s = ok (s.send .icmpv6 (leNat src) [] data)) ∧
    (s.alive = false ∨ s.rd F.PANEL_MGMT_LINK_UP = 0 ∨ s.ownAddr dst = false →
      exec (.neighbourDiscovery dst src) s = ok s ∧ exec (.icmpv6Echo dst src data) s = ok s)) ∧
  (∀ s : State,
    (s.alive = true → s.rd F.PANEL_MGMT_LINK_UP = 0 →
      exec (.mgmtLinkChange true) s = ok ((s.wr F.PANEL_MGMT_LINK_UP 1).ev F.PANEL_EVENTS_MGMT_LINK) ∧
      exec (.mgmtLinkChange false) s = ok s) ∧
    (s.alive = true → s.rd F.PANEL_MGMT_LINK_UP = 1 →
      exec (.mgmtLinkChange false) s = ok ((s.wr F.PANEL_MGMT_LINK_UP 0).ev F.PANEL_EVENTS_MGMT_LINK) ∧
      exec (.mgmtLinkChange true) s = ok s)) ∧
  (∀ (st dyn : Fin 128) (s : State), s.alive = true →
    exec .rstdaa s = ok ((s.wr F.PANEL_TSB_DYN_ADDR 0).wr F.PANEL_TSB_ADDR_VALID 0) ∧
    (s.rd F.PANEL_TSB_ADDR_VALID = 0 → st.val = 0x30 + s.panel.strap →
      exec (.setdasa st dyn) s = ok ((s.wr F.PANEL_TSB_DYN_ADDR dyn).wr F.PANEL_TSB_ADDR_VALID 1)) ∧
    (s.rd F.PANEL_TSB_ADDR_VALID = 1 ∨ st.val ≠ 0x30 + s.panel.strap → exec (.setdasa st dyn) s = ok s)) ∧
  (∀ (e : Fin 256) (n : Fin 65536) (s : State), s.alive = true → s.rd F.PANEL_TSB_ADDR_VALID = 1 →
    (bit e 0 = true → exec (.enec e) s = ok (s.wr F.PANEL_TSB_IBI_ENABLED 1).ibi ∧
      exec (.disec e) s = ok (s.wr F.PANEL_TSB_IBI_ENABLED 0)) ∧
    (bit e 0 = false → exec (.enec e) s = ok s ∧ exec (.disec e) s = ok s) ∧
    exec .getstatus s = ok (s.send .trayData 0 [0x90] ((List.range 2).map (fun i => Config.freeByte s.fresh i))) ∧
    exec .getbcr s = ok (s.send .trayData 0 [0x8E] ((List.range 1).map (fun i => Config.freeByte s.fresh i))) ∧
    exec .getdcr s = ok (s.send .trayData 0 [0x8F] ((List.range 1).map (fun i => Config.freeByte s.fresh i))) ∧
    exec .getmwl s = ok (s.send .trayData 0 [0x8B] (natLE 2 s.panel.mwl).reverse) ∧
    exec .getmrl s = ok (s.send .trayData 0 [0x8C] ((natLE 2 s.panel.mrl).reverse ++ [1])) ∧
    exec (.setmwl n) s = ok { s with panel := { s.panel with mwl := min n.val 4161 } } ∧
    exec (.setmrl n) s = ok { s with panel := { s.panel with mrl := min n.val 64 } } ∧
    (s.trayOpen = true → exec .tsbReplySelect s = ok { s with cmd := { s.cmd with traySelect := 1 } } ∧
      exec .tsbRecordSelect s = ok { s with cmd := { s.cmd with traySelect := 2 } })) ∧
  (∀ (e : Fin 256) (n : Fin 65536) (k : Fin 65) (p : Bytes) (s : State), s.alive = false ∨ s.rd F.PANEL_TSB_ADDR_VALID = 0 →
    exec (.enec e) s = ok s ∧ exec (.disec e) s = ok s ∧ exec .getstatus s = ok s ∧ exec .getbcr s = ok s ∧
    exec .getdcr s = ok s ∧ exec .getmwl s = ok s ∧ exec .getmrl s = ok s ∧ exec (.setmwl n) s = ok s ∧
    exec (.setmrl n) s = ok s ∧ exec .tsbReplySelect s = ok s ∧ exec .tsbRecordSelect s = ok s ∧
    exec (.tsbRecordRead k) s = ok s ∧ exec (.tsbCommand p) s = ok s) ∧
  (∀ (k : Fin 65) (p : Bytes) (s : State), s.trayOpen = false → exec .tsbReplySelect s = ok s ∧
    exec .tsbRecordSelect s = ok s ∧ exec (.tsbRecordRead k) s = ok s ∧ exec (.tsbCommand p) s = ok s) ∧
  (∀ (up : Bool) (st dyn : Fin 128) (s : State), s.alive = false →
    exec (.mgmtLinkChange up) s = ok s ∧ exec .rstdaa s = ok s ∧ exec (.setdasa st dyn) s = ok s) ∧
  (∀ (k : Fin 65) (s : State), s.alive = true → s.rd F.PANEL_TSB_ADDR_VALID = 1 → s.trayOpen = true →
    (s.cmd.traySelect = 1 → s.cmd.trayReply ≠ [] →
      exec (.tsbRecordRead k) s = ok (s.send .trayData 0 [] (sub s.cmd.trayReply 0 (min k.val s.panel.mrl)))) ∧
    (s.cmd.traySelect = 1 → s.cmd.trayReply = [] → exec (.tsbRecordRead k) s =
      ok (s.send .trayData 0 [] (sub (mkReply 0 0 0 0 0 0 []) 0 (min k.val s.panel.mrl)))) ∧
    (s.cmd.traySelect ≠ 1 → s.cmd.traySelect ≠ 2 →
      exec (.tsbRecordRead k) s = ok (s.send .trayData 0 [] (sub (zeros 64) 0 (min k.val s.panel.mrl)))) ∧
    (s.cmd.traySelect = 2 → min k.val s.panel.mrl = 64 → ∀ u : State,
      u = s.send .trayData 0 [] (sub (s.cmd.tray.headD (zeros 64)) 0 64) → exec (.tsbRecordRead k) s =
        ok ({ u with cmd := { u.cmd with tray := u.cmd.tray.drop 1 } } : State).ibi) ∧
    (s.cmd.traySelect = 2 → min k.val s.panel.mrl ≠ 64 → exec (.tsbRecordRead k) s =
      ok (s.send .trayData 0 [] (sub (s.cmd.tray.headD (zeros 64)) 0 (min k.val s.panel.mrl))))) ∧
  (∀ (p r : Bytes) (s : State), s.alive = true → s.rd F.PANEL_TSB_ADDR_VALID = 1 → s.trayOpen = true →
    (s.cmd.trayReply = [] → r = mkReply 0 0 0 0 0 0 []) → (s.cmd.trayReply ≠ [] → r = s.cmd.trayReply) →
    (fld r 3 1 = 1 → exec (.tsbCommand p) s = ok { s with cmd := { s.cmd with
      trayReply := patch r 2 (natLE 1 ((fld r 2 1 + 1) % 256)) } }) ∧
    (fld r 3 1 ≠ 1 → exec (.tsbCommand p) s = ok (({ s with cmd := { s.cmd with
      trayReply := patch r 3 (natLE 1 1), traySelect := 1 } } : State).submit .tray 0 0 (p.take (s.panel.mwl - 1)))))

/-! ## Bring-up and reset (chapter 18), firmware activation -/

/-- A bring-up stage that runs passes or fails on what it found, and one that does not run changes nothing; the stage's time-out
fails it with its own status, B8 and B9 excepted; a first failure of B3, B4, B5 or B7 restarts the bring-up once. Memory is
cleared at B5, and B6 fails below 144 good spires on a die. READ_STAGE_REPORTS replies the report of the current or an earlier bring-up. -/
def Obligations.BringUpStages : Prop :=
  (∀ (k : Fin 11) (e : BitVec 32) (good torn : Bool) (found : BitVec 16) (mask : BitVec 128) (g0 g1 : BitVec 160) (s : State),
    s.stageRuns k = false ∨ (k.val = 7 ∧ ∃ p, p < 10 ∧ s.portState p = Port.train) →
    exec (.stageComplete k e good torn found mask g0 g1) s = ok s) ∧
  (∀ (e : BitVec 32) (torn : Bool) (found : BitVec 16) (mask : BitVec 128) (g0 g1 : BitVec 160) (s : State),
    (s.stageRuns 0 = true →
      exec (.stageComplete 0 e true torn found mask g0 g1) s =
        ok (((s.wr F.FAB_NODE_ID_NODE_ID s.panel.pos).wr F.FAB_NODE_ID_VALID 1).senseCables.stagePass 0 false St.ok e.toNat 0 0) ∧
      exec (.stageComplete 0 e false torn found mask g0 g1) s = ok (s.stageFail 0 St.deadlineMissed e.toNat 0 0)) ∧
    (s.stageRuns 3 = true →
      exec (.stageComplete 3 e true torn found mask g0 g1) s = ok (s.stagePass 3 false St.ok e.toNat 0 0) ∧
      exec (.stageComplete 3 e false torn found mask g0 g1) s = ok (s.stageFail 3 St.deadlineMissed e.toNat 0 0)) ∧
    (s.stageRuns 4 = true →
      exec (.stageComplete 4 e true torn found 0 g0 g1) s = ok (s.stagePass 4 false St.ok e.toNat 0 0) ∧
      exec (.stageComplete 4 e false torn found mask g0 g1) s = ok (s.stageFail 4 St.deadlineMissed e.toNat 0 mask.toNat))) ∧
  (∀ (e : BitVec 32) (good torn : Bool) (found : BitVec 16) (mask : BitVec 128) (g0 g1 : BitVec 160) (s : State),
    (s.stageRuns 1 = true → exec (.stageComplete 1 e good torn found mask g0 g1) s = ok (s.stageB1 e.toNat mask.toNat)) ∧
    (s.stageRuns 2 = true →
      exec (.stageComplete 2 e good torn found mask g0 g1) s = ok (s.stageB2 e.toNat good torn found.toNat mask.toNat)) ∧
    (s.stageRuns 5 = true → exec (.stageComplete 5 e good torn found mask g0 g1) s = ok (s.stageB5 e.toNat good mask.toNat)) ∧
    (s.stageRuns 6 = true → exec (.stageComplete 6 e good torn found mask g0 g1) s = ok (s.stageB6 e.toNat g0.toNat g1.toNat)) ∧
    (s.stageRuns 7 = true → (∀ p, p < 10 → s.portState p ≠ Port.train) →
      exec (.stageComplete 7 e good torn found mask g0 g1) s = ok (s.stageB7 e.toNat)) ∧
    (s.stageRuns 8 = true → exec (.stageComplete 8 e good torn found mask g0 g1) s = ok (s.stageB8 e.toNat)) ∧
    (∀ bad : Nat, s.stageRuns 9 = true → bad = mask.toNat % 2 ^ 16 &&& (0xFFFF - s.rd F.AGE_STATUS_RETIRED) →
      exec (.stageComplete 9 e good torn found mask g0 g1) s = ok (s.stageB9 e.toNat bad)) ∧
    (s.stageRuns 10 = true → exec (.stageComplete 10 e good torn found mask g0 g1) s = ok (s.stageB10 e.toNat found.toNat))) ∧
  (∀ s : State,
    (∀ k : Nat, s.rd F.NODE_STAGE_STAGE = k → s.stageRuns k = true →
      (k = 0 ∨ (2 ≤ k ∧ k ≤ 5) → exec .stageTimeout s = ok (s.stageFail k St.deadlineMissed 0 0 0)) ∧
      (k = 1 → exec .stageTimeout s = ok (s.stageFail 1 St.signatureInvalid 0 0 0)) ∧
      (k = 6 → exec .stageTimeout s = ok (s.stageFail 6 St.badParam 0 0 0)) ∧
      (k = 7 → exec .stageTimeout s = ok (s.stageFail 7 St.portDegraded 0 0 0)) ∧
      (k = 10 → exec .stageTimeout s = ok (s.stageFail 10 St.timebaseLost 0 0 0)) ∧
      (k = 8 ∨ k = 9 ∨ 11 ≤ k → exec .stageTimeout s = ok s)) ∧
    (s.stageRuns (s.rd F.NODE_STAGE_STAGE) = false → exec .stageTimeout s = ok s)) ∧
  (∀ (s v : State) (k st e d m : Nat), k = 3 ∨ k = 4 ∨ k = 5 ∨ k = 7 → v = (s.report k 2 st e d m).appendBringup →
    (v.flag F.NODE_STAGE_RETRIED = false → ∃ t : State, s.stageFail k st e d m =
        ((t.wr F.NODE_STAGE_STAGE 0).wr F.NODE_STAGE_RETRIED 1).wr F.NODE_STAGE_DEGRADED 0 ∧
      t.mem = [] ∧ t.boot.reports = [] ∧ t.boot.appended = false) ∧
    (v.flag F.NODE_STAGE_RETRIED = true → ∃ t : State, s.stageFail k st e d m = t.wr F.NODE_STAGE_STATE 2 ∧
      t.boot.romHold = false)) ∧
  (∀ (s : State) (e f0 f1 g0 g1 : Nat), g0 = s.goodMask 0 f0 → g1 = s.goodMask 1 f1 →
    popcount g0 160 < 144 ∨ popcount g1 160 < 144 → s.stageB6 e f0 f1 =
      ({ s with boot := { s.boot with good0 := g0, good1 := g1 } } : State).stageFail 6 St.badParam e
        ((popcount g0 160 - 144) + (popcount g1 160 - 144) * 256) (b2n (popcount g0 160 < 144) + 2 * b2n (popcount g1 160 < 144))) ∧
  (∀ (s : State) (d f : Nat), s.keep.damaged.contains 1 = true ∨ (s.region 1).data = [] →
    s.goodMask d f = (2 ^ 160 - 1) &&& f) ∧
  (∀ (s : State) (e m : Nat) (good : Bool), good = true → m % 2 ^ 24 = 0 → ∃ t : State,
    s.stageB5 e good m = t.stagePass 5 false St.ok e 0 0 ∧ t.mem = [] ∧ t.poison = [] ∧ t.undef = []) ∧
  (∀ (s u : State) (q : Sub) (recs : List Bytes), s.takes q Op.readStageReports u →
    recs = (u.region 4).recs.map (·.2) →
    (11 < q.p 1 1 → exec .readStageReports s = ok (u.short q St.badParam [])) ∧
    (q.p 1 1 ≤ 11 → q.p 0 1 = 0 →
      exec .readStageReports s = ok (u.short q St.ok (u.reportOf (q.p 1 1) ++ natLE 4 u.keep.bringups))) ∧
    (q.p 1 1 ≤ 11 → q.p 0 1 ≠ 0 → u.keep.damaged.contains 4 = true →
      exec .readStageReports s = ok (u.short q St.digestMismatch [])) ∧
    (∀ (r0 r : Bytes), q.p 1 1 ≤ 11 → q.p 0 1 ≠ 0 → u.keep.damaged.contains 4 = false → recs.head? = some r0 →
      recs[(if u.boot.appended = true ∧ fld r0 0 8 = u.keep.bringups then q.p 0 1 else q.p 0 1 - 1)]? = some r →
      exec .readStageReports s = ok (u.short q St.ok (sub r (64 + 32 * q.p 1 1) 32 ++ natLE 4 (fld r 0 8)))) ∧
    (∀ r0 : Bytes, q.p 1 1 ≤ 11 → q.p 0 1 ≠ 0 → u.keep.damaged.contains 4 = false → recs.head? = some r0 →
      recs[(if u.boot.appended = true ∧ fld r0 0 8 = u.keep.bringups then q.p 0 1 else q.p 0 1 - 1)]? = none →
      exec .readStageReports s = ok (u.short q St.badParam [])) ∧
    (q.p 1 1 ≤ 11 → q.p 0 1 ≠ 0 → u.keep.damaged.contains 4 = false → recs = [] →
      exec .readStageReports s = ok (u.short q St.badParam [])))

/-- RESET_SCOPE replies OK and resets the terrace (with its pair member in the Sealed profile), the Tower die, the node's compute
or the module; a parameter out of range is BAD_PARAM and a node at work on a reset BUSY. PARTIAL_RESET_END clears the
masks, gives the terraces their states and, after scope 2, starts hart 0. FW_ACTIVATE makes the slot current, and with WHEN
1 resets the module; the watchdog and the tray's pulse reset it with causes 2 and 4. -/
def Obligations.ResetsAndActivation : Prop :=
  (∀ (s u : State) (q : Sub) (i : Nat), s.takes q Op.resetScope u → i = q.p 1 1 → u.ready = true → u.preset = none →
    u.flag F.NODE_PROFILE_SWITCHING = false →
    (q.p 0 1 = 0 → i ≤ 15 → u.powered i = true → bit (u.rd F.AGE_STATUS_RETIRED) i = false →
      exec .terraceComputeReset s = ok ((u.short q St.ok []).resetBegin 0 i (u.members i))) ∧
    (q.p 0 1 = 0 → i ≤ 15 → (u.powered i = false ∨ bit (u.rd F.AGE_STATUS_RETIRED) i = true) →
      exec .terraceComputeReset s = ok (u.short q St.ok [])) ∧
    (q.p 0 1 = 1 → i ≤ 1 → u.sealed = false →
      exec .towerDieComputeReset s = ok ((u.short q St.ok []).resetBegin 1 i ((List.range 8).map (fun k => 8 * i + k)))) ∧
    (q.p 0 1 = 1 → i ≤ 1 → u.sealed = true →
      exec .towerDieComputeReset s = ok ((u.short q St.ok []).resetBegin 1 i (List.range 16))) ∧
    (q.p 0 1 = 2 → i = 0 → exec .nodeComputeReset s = ok ((u.short q St.ok []).resetBegin 2 0 (List.range 16)))) ∧
  (∀ (s u : State) (q : Sub), s.takes q Op.resetScope u →
    u.ready = false ∨ u.preset ≠ none ∨ u.flag F.NODE_PROFILE_SWITCHING = true →
    (q.p 0 1 = 0 → q.p 1 1 ≤ 15 → exec .terraceComputeReset s = ok (u.short q St.busy [])) ∧
    (q.p 0 1 = 1 → q.p 1 1 ≤ 1 → exec .towerDieComputeReset s = ok (u.short q St.busy [])) ∧
    (q.p 0 1 = 2 → q.p 1 1 = 0 → exec .nodeComputeReset s = ok (u.short q St.busy []))) ∧
  (∀ (s u : State) (q : Sub), s.takes q Op.resetScope u →
    (3 < q.p 0 1 ∨ (q.p 0 1 = 0 ∧ 15 < q.p 1 1) → exec .terraceComputeReset s = ok (u.short q St.badParam [])) ∧
    (q.p 0 1 = 1 → 1 < q.p 1 1 → exec .towerDieComputeReset s = ok (u.short q St.badParam [])) ∧
    (q.p 0 1 = 2 → q.p 1 1 ≠ 0 → exec .nodeComputeReset s = ok (u.short q St.badParam [])) ∧
    (q.p 0 1 = 3 → q.p 1 1 = 0 → exec .fullModuleReset s = ok ((u.short q St.ok []).fullReset 1)) ∧
    (q.p 0 1 = 3 → q.p 1 1 ≠ 0 → exec .fullModuleReset s = ok (u.short q St.badParam []))) ∧
  (∀ (s : State) (t : Nat), t < 16 → (s.sealed = true → s.members t = [t % 8, t % 8 + 8]) ∧ (s.sealed = false → s.members t = [t])) ∧
  (∀ (s : State) (scope i : Nat) (ts : List Nat), (s.resetBegin scope i ts).preset =
    some ⟨scope, i, ts, ts.filter (fun t => s.rd (F.SCHED_STATUS_STATE t) == 2)⟩) ∧
  (∀ s : State, s.preset = none → exec .partialResetEnd s = ok s) ∧
  (∀ (s u v : State) (p : PartialReset), s.preset = some p →
    u = ((({ s with preset := none } : State).wr F.NODE_RESET_TERRACES 0).wr F.NODE_RESET_TOWERS 0).wr F.NODE_RESET_NODE 0 →
    v = forEach p.terraces u (fun t x => ((x.wr (F.SCHED_STATUS_STATE t)
      (if bit x.jobMask t = false then 0 else if p.halted.contains t then 2 else 1)).settlePower t).startParts t) →
    (p.scope ≠ 2 → exec .partialResetEnd s = ok v) ∧ (p.scope = 2 → exec .partialResetEnd s = ok v.startHart0)) ∧
  (∀ (s u : State) (q : Sub) (st : Nat), s.takes q Op.fwActivate u → u.fwActivateCheck (q.p 0 1) (q.p 1 1) = st →
    (st ≠ St.ok → exec .fwActivate s = ok (u.short q st [])) ∧
    (st = St.ok → q.p 1 1 = 0 → exec .fwActivate s = ok ((u.fwCommit (q.p 0 1)).short q St.ok [])) ∧
    (st = St.ok → q.p 1 1 = 1 → exec .fwActivate s = ok (((u.fwCommit (q.p 0 1)).short q St.ok []).fullReset 3))) ∧
  (∀ s : State, (s.alive = true → exec .watchdogExpiry s = ok (s.fullReset 2) ∧ exec .trayResetPulse s = ok (s.fullReset 4)) ∧
    (s.alive = false → exec .watchdogExpiry s = ok s ∧ exec .trayResetPulse s = ok s)) ∧
  (∀ (s : State) (c : Nat), c < 8 → (s.fullReset c).rd F.NODE_RESET_CAUSE = c ∧ (s.fullReset c).mem = [] ∧
    (s.fullReset c).job = none ∧ (s.fullReset c).cmd = State.reset.cmd)

/-! ## Supply and temperature (chapter 22), the power failure (R378) -/

/-- The input and its feeds set and clear their flags and events; a power failure stops a running node, standby begins when the
input is back; a rise of MAIN_EN begins the bring-up and a fall powers the node down; a device at its trip temperature powers
it down, a stack above 85 °C has its refresh interval halved until it is at or below, and a Tower die above 100 °C starts the
thermal backstop, which lowers G until both are at or below 97 °C. -/
def Obligations.SupplyAndTemperature : Prop :=
  (∀ s : State, s.alive = true →
    (s.flag F.NODE_SUPPLY_LOW = false → exec .inputLow s = ok ((s.wr F.NODE_SUPPLY_LOW 1).ev F.NODE_ENV_EVENTS_LOW_INPUT)) ∧
    (s.flag F.NODE_SUPPLY_LOW = true → exec .inputLow s = ok s) ∧
    exec .inputRestored s = ok (s.wr F.NODE_SUPPLY_LOW 0) ∧
    exec (.feedRestored false) s = ok (s.wr F.NODE_SUPPLY_FEED_A_OK 1) ∧
    exec (.feedRestored true) s = ok (s.wr F.NODE_SUPPLY_FEED_B_OK 1) ∧
    exec .powerFail s = ok s.powerFail) ∧
  (∀ s : State, s.alive = true → s.flag F.NODE_SUPPLY_FEED_A_OK = true → s.flag F.NODE_SUPPLY_FEED_B_OK = true →
    exec (.feedLost false true) s = ok ((s.wr F.NODE_SUPPLY_FEED_A_OK 0).ev F.NODE_ENV_EVENTS_FEED_LOST) ∧
    exec (.feedLost true true) s = ok ((s.wr F.NODE_SUPPLY_FEED_B_OK 0).ev F.NODE_ENV_EVENTS_FEED_LOST) ∧
    exec (.feedLost false false) s = ok (s.wr F.NODE_SUPPLY_FEED_A_OK 0).inputLow ∧
    exec (.feedLost true false) s = ok (s.wr F.NODE_SUPPLY_FEED_B_OK 0).inputLow) ∧
  (∀ (b high : Bool) (s : State), s.alive = false ∨ s.flag F.NODE_SUPPLY_FEED_A_OK = false ∨
    s.flag F.NODE_SUPPLY_FEED_B_OK = false → exec (.feedLost b high) s = ok s) ∧
  (∀ (b : Bool) (s : State), s.alive = false → exec .inputLow s = ok s ∧ exec .inputRestored s = ok s ∧
    exec (.feedRestored b) s = ok s ∧ exec .powerFail s = ok s ∧ exec .mainEnRise s = ok s ∧ exec .mainEnFall s = ok s) ∧
  (∀ (a b main : Bool) (s : State),
    (s.boot.failed = true → (a = true ∨ b = true) → exec (.standbyRestart a b main) s = ok (s.standbyUp a b main) ∧
      exec (.standbyPowerApplied a b main) s = ok (s.standbyUp a b main)) ∧
    (s.boot.failed = false → exec (.standbyRestart a b main) s = ok s) ∧
    (s.flag F.NODE_SUPPLY_FEED_A_OK = false → s.flag F.NODE_SUPPLY_FEED_B_OK = false → (a = true ∨ b = true) →
      exec (.standbyPowerApplied a b main) s = ok (s.standbyUp a b main)) ∧
    (s.boot.failed = false → (s.flag F.NODE_SUPPLY_FEED_A_OK = true ∨ s.flag F.NODE_SUPPLY_FEED_B_OK = true) →
      exec (.standbyPowerApplied a b main) s = ok s) ∧
    (a = false → b = false → exec (.standbyRestart a b main) s = ok s ∧ exec (.standbyPowerApplied a b main) s = ok s)) ∧
  (∀ (s u : State), s.alive = true →
    (s.flag F.NODE_SUPPLY_MAIN_EN = false → u = s.wr F.NODE_SUPPLY_MAIN_EN 1 →
      (s.boot.fell = true → exec .mainEnRise s = ok (u.fullReset 4)) ∧
      (s.boot.fell = false → exec .mainEnRise s = ok { u with boot := { u.boot with standby := false } }) ∧
      exec .mainEnFall s = ok s) ∧
    (s.flag F.NODE_SUPPLY_MAIN_EN = true → u = s.wr F.NODE_SUPPLY_MAIN_EN 0 →
      (s.boot.standby = true → exec .mainEnFall s = ok { u with boot := { u.boot with fell := true } }) ∧
      (s.boot.standby = false → ∀ v : State, v = u.powerDown →
        exec .mainEnFall s = ok { v with boot := { v.boot with fell := true } }) ∧
      exec .mainEnRise s = ok s)) ∧
  (∀ (t0 t1 d a : BitVec 8) (m : Vector (BitVec 8) 8) (p : Vector (BitVec 8) 16) (s u v w : State), s.alive = true →
    s.boot.standby = false →
    u = ((((s.wr F.NODE_THERMAL_TOWER0_C t0.toNat).wr F.NODE_THERMAL_TOWER1_C t1.toNat).wr F.NODE_THERMAL_DOME_C d.toNat).wr
      F.NODE_THERMAL_AQUEDUCT_C a.toNat).wr F.NODE_THERMAL_LPDDR_C ((p.toList.map (·.toNat)).foldl max 0) →
    v = forEach (List.range 8) u (fun k x => x.stackTemp k ((m.toList.map (·.toNat)).getD k 0)) →
    w = forEach (List.range 16) v (fun k x => x.wr (F.MEM_PKG_TEMP_C k) ((p.toList.map (·.toNat)).getD k 0)) →
    ∀ r, r = tripUnit ([t0.toNat, t1.toNat, d.toNat, a.toNat] ++ m.toList.map (·.toNat) ++ p.toList.map (·.toNat)) →
    (∀ k c : Nat, r = some (k, c) → exec (.temperatureSample t0 t1 d a m p) s =
      ok ((w.wr F.NODE_THERMAL_TRIP_UNIT k).ev F.NODE_ENV_EVENTS_TRIP).powerDown) ∧
    (r = none → 100 < t0.toNat ∨ 100 < t1.toNat → exec (.temperatureSample t0 t1 d a m p) s =
      ok ((w.wr F.NODE_THERMAL_BACKSTOP_ACTIVE 1).ev F.NODE_ENV_EVENTS_HOT)) ∧
    (r = none → t0.toNat ≤ 100 → t1.toNat ≤ 100 → exec (.temperatureSample t0 t1 d a m p) s = ok w)) ∧
  (∀ (t0 t1 d a : BitVec 8) (m : Vector (BitVec 8) 8) (p : Vector (BitVec 8) 16) (s : State),
    s.alive = false ∨ s.boot.standby = true → exec (.temperatureSample t0 t1 d a m p) s = ok s) ∧
  (∀ (s u : State) (k t base : Nat), u = s.wr (F.MEM_STACK_TEMP_C k) t → (s.age.plan = [] → base = 3900) →
    (s.age.plan ≠ [] → base = plRefresh s.age.plan k) →
    (t ≤ 85 → s.rd (F.MEM_STACK_TEMP_C k) ≤ 85 → s.stackTemp k t = u) ∧
    (t ≤ 85 → 85 < s.rd (F.MEM_STACK_TEMP_C k) → s.stackTemp k t = u.wr (F.MEM_STACK_REFRESH_NS k) base) ∧
    (85 < t → s.rd (F.MEM_STACK_TEMP_C k) ≤ 85 →
      s.stackTemp k t = (u.wr (F.MEM_STACK_REFRESH_NS k) (base / 2)).ev F.MEM_EVENTS_HOT) ∧
    (85 < t → 85 < s.rd (F.MEM_STACK_TEMP_C k) → s.stackTemp k t = u.wr (F.MEM_STACK_REFRESH_NS k) (base / 2))) ∧
  (∀ l : List Nat, (tripUnit l = none ↔ ∀ u, u < l.length → l.getD u 0 < tripAt u) ∧
    (∀ u t : Nat, tripUnit l = some (u, t) → u < l.length ∧ t = l.getD u 0 ∧ tripAt u ≤ t ∧
      ∀ v, v < l.length → tripAt v ≤ l.getD v 0 → l.getD v 0 ≤ t ∧ (l.getD v 0 = t → u ≤ v))) ∧
  (∀ s : State, (s.flag F.NODE_THERMAL_BACKSTOP_ACTIVE = false → exec .thermalBackstopStep s = ok s) ∧
    (s.flag F.NODE_THERMAL_BACKSTOP_ACTIVE = true → s.rd F.NODE_THERMAL_TOWER0_C ≤ 97 → s.rd F.NODE_THERMAL_TOWER1_C ≤ 97 →
      exec .thermalBackstopStep s = ok (s.wr F.NODE_THERMAL_BACKSTOP_ACTIVE 0)) ∧
    (s.flag F.NODE_THERMAL_BACKSTOP_ACTIVE = true → (97 < s.rd F.NODE_THERMAL_TOWER0_C ∨ 97 < s.rd F.NODE_THERMAL_TOWER1_C) →
      exec .thermalBackstopStep s = ok s.lowerG))

/-! ## Recording and replay (R428–R431) -/

/-- RECORD_START begins an empty ring, or waits for the next step boundary with a job admitted; a bad ring or class is
BAD_PARAM and a second recording BUSY; RECORD_STOP replies the records written and dropped. REPLAY accepts a ring that holds
the step before the first, without a lost record after it. A twin that waited 20 µs poisons its words and the pair diverges. -/
def Obligations.RecordingAndReplay : Prop :=
  (∀ (s u : State) (q : Sub) (c base len : Nat), s.takes q Op.recordStart u → c = q.p 0 1 → base = q.p 8 8 → len = q.p 16 8 →
    (c = 0 ∨ 7 < c ∨ base % 65536 ≠ 0 ∨ len % 65536 ≠ 0 ∨ len < 2 ^ 24 ∨ 2 ^ 36 < len ∨ inDeep base len = false ∨
      u.ringOverlaps base len = true → exec .recordStart s = ok (u.short q St.badParam [])) ∧
    (1 ≤ c → c ≤ 7 → base % 65536 = 0 → len % 65536 = 0 → 2 ^ 24 ≤ len → len ≤ 2 ^ 36 → inDeep base len = true →
      u.ringOverlaps base len = false →
      (u.rd F.NODE_REC_STATUS_STATE = 1 ∨ u.check.recorder.starting ≠ none → exec .recordStart s = ok (u.short q St.busy [])) ∧
      (u.rd F.NODE_REC_STATUS_STATE ≠ 1 → u.check.recorder.starting = none →
        (u.admitted = false → exec .recordStart s = ok ((u.recordBegin c base len).short q St.ok [])) ∧
        (u.admitted = true → exec .recordStart s = ok (({ u with
          check := { u.check with recorder := { u.check.recorder with starting := some (c, base, len) } } } : State).short q
            St.ok []))))) ∧
  (∀ (s : State) (c base len : Nat), c ≤ 7 → base % 64 = 0 → base < 2 ^ 46 → len ≤ 2 ^ 36 →
    (s.recordBegin c base len).rd F.NODE_REC_STATUS_STATE = 1 ∧ (s.recordBegin c base len).rd F.NODE_REC_STATUS_CLASSES = c ∧
    (s.recordBegin c base len).rd F.NODE_REC_LENGTH_BYTES = len ∧ (s.recordBegin c base len).rd F.NODE_REC_HEAD_OFFSET = 0 ∧
    (s.recordBegin c base len).rd F.NODE_REC_TAIL_OFFSET = 0 ∧ (s.recordBegin c base len).rd F.NODE_REC_COUNTS_WRITTEN = 0 ∧
    (s.recordBegin c base len).rd F.NODE_REC_COUNTS_DROPPED = 0) ∧
  (∀ (s u : State) (q : Sub), s.takes q Op.recordStop u → exec .recordStop s = ok (u.recordEnd.short q St.ok
    (natLE 8 (u.rd F.NODE_REC_COUNTS_WRITTEN) ++ natLE 8 (u.rd F.NODE_REC_COUNTS_DROPPED)))) ∧
  (∀ (s u : State) (q : Sub) (base len : Nat), s.takes q Op.replay u → base = q.p 8 8 → len = q.p 16 8 →
    (u.job = none ∨ u.ckptBusy = true ∨ u.check.replay ≠ none ∨ (∃ j, u.job = some j ∧ j.anyStep = true) →
      exec .replay s = ok (u.refuse q St.busy)) ∧
    (∀ j, u.job = some j → j.anyStep = false → u.ckptBusy = false → u.check.replay = none →
      (base % 65536 ≠ 0 ∨ len % 65536 ≠ 0 ∨ len < 2 ^ 24 ∨ 2 ^ 36 < len ∨ inDeep base len = false →
        exec .replay s = ok (u.refuse q St.badParam)) ∧
      (base % 65536 = 0 → len % 65536 = 0 → 2 ^ 24 ≤ len → len ≤ 2 ^ 36 → inDeep base len = true →
        (q.p 0 8 = 0 ∨ (u.recordsOf base len).any (fun r => isStepRec r (q.p 0 8 - 1)) = false →
          exec .replay s = ok (u.longNow q St.badParam 0 [])) ∧
        (∀ (later : List Bytes) (v w : State) (h : Nat), 1 ≤ q.p 0 8 →
          (u.recordsOf base len).any (fun r => isStepRec r (q.p 0 8 - 1)) = true →
          later = ((u.recordsOf base len).dropWhile (fun r => !isStepRec r (q.p 0 8 - 1))).drop 1 → u.accept q = (v, h) →
          w = { v with check := { v.check with
            replay := some ⟨h, q.p 0 8, none, later, later.any (fun r => recKind r == 2), []⟩ } } →
          (later.any (fun r => recKind r == 1 && q.p 0 8 ≤ fld r 16 8 && bit (recFlags r) 0) = true →
            exec .replay s = ok (u.longNow q St.badParam 0 [])) ∧
          (later.any (fun r => recKind r == 1 && q.p 0 8 ≤ fld r 16 8 && bit (recFlags r) 0) = false →
            w.rd F.NODE_REC_STATUS_STATE = 1 → exec .replay s = ok w) ∧
          (later.any (fun r => recKind r == 1 && q.p 0 8 ≤ fld r 16 8 && bit (recFlags r) 0) = false →
            w.rd F.NODE_REC_STATUS_STATE ≠ 1 → exec .replay s = ok (w.wr F.NODE_REC_STATUS_STATE 2)))))) ∧
  (∀ (s u v : State) (r : Replay) (x p ps : Bytes) (first st : Nat), s.check.replay = some r → r.liveStart = some first →
    r.records.find? (fun x => recKind x == 3 && r.fromStep ≤ recTime x / 2 ^ 24) = some x →
    s.reach (recTime x + 2 ^ 24 * (first - r.fromStep)) = some u →
    v = { u with check := { u.check with replay := some { r with records := r.records.erase x } } } →
    p = sub (recBody x) 8 64 → (hdExt p = true → ps = sub (recBody x) 72 (hdLength p)) →
    (hdExt p = false → ps = sub p 24 (hdLength p)) →
    v.acceptCheck (chanOfCode (fld (recBody x) 0 1) v.nodeId) (match v.job with | some j => j.jobTag | none => 0) p ps false = st →
    ∀ q, q = mkSub (chanOfCode (fld (recBody x) 0 1) v.nodeId) 0 p ps true →
    (st ≠ St.ok → exec .replayCommandSubmit s = ok (v.refuse q st)) ∧
    (st = St.ok → exec .replayCommandSubmit s = ok { v with cmd := { v.cmd with gate := v.cmd.gate ++ [q] } })) ∧
  (∀ s : State, s.check.replay = none → exec .replayCommandSubmit s = ok s) ∧
  (∀ (s : State) (r : Replay), s.check.replay = some r → (r.liveStart = none ∨
    r.records.find? (fun x => recKind x == 3 && r.fromStep ≤ recTime x / 2 ^ 24) = none ∨
    ∃ (first : Nat) (x : Bytes), r.liveStart = some first ∧
      r.records.find? (fun x => recKind x == 3 && r.fromStep ≤ recTime x / 2 ^ 24) = some x ∧
      s.reach (recTime x + 2 ^ 24 * (first - r.fromStep)) = none) → exec .replayCommandSubmit s = ok s) ∧
  (∀ (k : Nat) (s u : State) (w : Twin), s.check.twins[k]? = some w →
    u = { s with check := { s.check with twins := s.check.twins.eraseIdx k } } →
    exec (.twinTimeout k) s = ok ((u.poisonRange w.addr w.data.length).diverge w.pair 2 w.index w.unit)) ∧
  (∀ (k : Nat) (s : State), s.check.twins[k]? = none → exec (.twinTimeout k) s = ok s)

/-! ## Commands reach the Gatehouse (chapter 16) -/

/-- The checks of a packet in their order (R367), what each channel does with one, and what a refused, short and long command
leave in the reply, the handle, the counters and the record; NODE_INFO and PANEL_STATE reply their pages. -/
def Obligations.CommandsArriveAndReply : Prop :=
  (∀ (s : State) (chan : Chan) (tag : Nat) (p ps : Bytes) (live : Bool),
    (Op.all.contains (hdOpcode p) = false → s.acceptCheck chan tag p ps live = St.badOpcode) ∧
    (Op.all.contains (hdOpcode p) = true →
      (s.channelCheck chan tag (hdOpcode p) (hdRemote p) ps ≠ St.ok →
        s.acceptCheck chan tag p ps live = s.channelCheck chan tag (hdOpcode p) (hdRemote p) ps) ∧
      (s.channelCheck chan tag (hdOpcode p) (hdRemote p) ps = St.ok →
        (s.opcodeClosed (hdOpcode p) ps live = true → s.acceptCheck chan tag p ps live = St.busy) ∧
        (s.opcodeClosed (hdOpcode p) ps live = false →
          (hdDeadline p ≠ 0 → usesDeadline (hdOpcode p) = false → s.acceptCheck chan tag p ps live = St.badParam) ∧
          ((hdDeadline p = 0 ∨ usesDeadline (hdOpcode p) = true) →
            s.acceptCheck chan tag p ps live = s.limitCheck chan (hdOpcode p)))))) ∧
  (∀ (s : State) (chan : Chan) (slot tag st : Nat) (p ps : Bytes),
    ((∀ c : Nat, chan ≠ .loc c) → s.packetParams chan p = .inl st →
      s.submit chan slot tag p = s.refuse (mkSub chan slot p [] false) st) ∧
    (∀ c : Nat, chan = .loc c → s.packetParams chan p = .inl st →
      (hdExt p = true → s.submit chan slot tag p =
        (s.noteRefl (fld p 24 8) (hdLength p)).refuse (mkSub chan slot p [] false) st) ∧
      (hdExt p = false → s.submit chan slot tag p = s.refuse (mkSub chan slot p [] false) st)) ∧
    (s.packetParams chan p = .inr ps → s.acceptCheck chan tag p ps true = st →
      (st = St.notPrivileged →
        s.submit chan slot tag p = (s.ev F.SEC_EVENTS_PRIV_REFUSED).refuse (mkSub chan slot p [] false) st) ∧
      (st ≠ St.ok → st ≠ St.notPrivileged → s.submit chan slot tag p = s.refuse (mkSub chan slot p [] false) st) ∧
      (∀ u : State, st = St.ok → hdRemote p = false →
        u = s.recordPut (some 1) 3 0 (natLE 8 chan.code ++ sub p 0 64 ++ (if hdExt p then ps else [])) →
        s.submit chan slot tag p = { u with cmd := { u.cmd with gate := u.cmd.gate ++ [mkSub chan slot p ps false] } }) ∧
      (∀ c : Nat, st = St.ok → hdRemote p = true → chan = .loc c → s.submit chan slot tag p = s.forward c slot p ps))) ∧
  (∀ (op : Nat) (ps : Bytes), privileged op ps = true ↔ (op = Op.fwActivate ∨ op = Op.keyRotate ∨
    (op = Op.resetScope ∧ fld ps 0 1 = 3) ∨ (op = Op.keepWrite ∧ (fld ps 0 1 = 1 ∨ (fld ps 0 1 = 9 ∧ fld ps 4 4 < 8192))))) ∧
  (∀ (s : State) (chan : Chan) (tag op : Nat) (remote : Bool) (ps : Bytes), privileged op ps = true →
    s.channelCheck .tray tag op remote ps = St.ok ∧ (chan ≠ .tray → s.channelCheck chan tag op remote ps = St.notPrivileged)) ∧
  (∀ (s : State) (q : Sub) (r : List Sub) (op : Nat) (sel : Sub → Bool) (f : Sub → State → State), s.cmd.gate = q :: r →
    q.opcode = op → sel q = true → reservedParams op q.params = true →
    (Op.longs.contains op = true → s.withSub op sel f = ok ((s.taken r).refuse q St.badParam)) ∧
    (Op.longs.contains op = false → s.withSub op sel f = ok ((s.taken r).short q St.badParam []))) ∧
  (∀ (s : State) (q : Sub) (st : Nat) (data : Bytes), q.silent = false →
    s.refuse q st = (s.inc F.NODE_CMD_COUNTS_REFUSED).replyTo q.chan q.slot q.opcode q.tag st 0 [] ∧
    s.short q st data = (s.inc F.NODE_CMD_COUNTS_ACCEPTED).replyTo q.chan q.slot q.opcode q.tag st 0 data) ∧
  (∀ (s : State) (c slot op tag st h : Nat) (data : Bytes), s.replyTo (.loc c) slot op tag st h data =
    s.setSlot (c * 64 + slot) (mkReply (fld (s.slot (c * 64 + slot)) 2 1) 2 op st h tag data)) ∧
  (∀ (s : State) (q : Sub) (n h : Nat) (u : State), q.silent = false → n = mget s.cmd.seqs q.chan.seqKey 0 % 0xFFFFFF + 1 →
    h = 2 ^ 24 * q.chan.code + n →
    u.cmd = { s.cmd with seqs := mput s.cmd.seqs q.chan.seqKey n, longs := s.cmd.longs ++ [⟨(s.accept q).2, q.chan, q.opcode,
      q.tag, q.msi, q.silent⟩] } → u = { s with cmd := u.cmd } →
    (s.accept q).1 = (u.inc F.NODE_CMD_COUNTS_ACCEPTED).replyTo q.chan q.slot q.opcode q.tag St.accepted h [] ∧
    (s.accept q).2 % 2 ^ 32 = h % 2 ^ 32 ∧ 1 ≤ n ∧ n < 2 ^ 24 ∧
    (mget s.cmd.seqs q.chan.seqKey 0 < 0xFFFFFF → n = mget s.cmd.seqs q.chan.seqKey 0 + 1) ∧
    (mget s.cmd.seqs q.chan.seqKey 0 = 0xFFFFFF → n = 1)) ∧
  ((∀ c : Nat, Chan.code (.loc c) = c) ∧ (∀ i : Nat, Chan.code (.mgmt i) = 0x40) ∧ Chan.code .tray = 0x80 ∧
    (∀ n : Nat, Chan.code (.fabric n) = 0xC0) ∧ (∀ i j : Nat, Chan.seqKey (.mgmt i) = Chan.seqKey (.mgmt j) ↔ i = j) ∧
    (∀ (s : State) (c k : Nat), mget (s.fullReset c).cmd.seqs k 0 = 0)) ∧
  (∀ (s : State) (h st d : Nat) (res : Bytes) (l : LongCmd) (u : State),
    s.cmd.longs.find? (fun l => l.handle == h) = some l → l.silent = false →
    u = { s with cmd := { s.cmd with longs := s.cmd.longs.filter (fun l => l.handle != h) } } →
    (isSuccess st = true → s.complete h st d res = u.deliver l (u.mkRecord 0 l.opcode st (h % 2 ^ 32) l.tag d res)) ∧
    (isSuccess st = false → s.complete h st d res = u.deliver l (u.mkRecord 0 l.opcode st (h % 2 ^ 32) l.tag d []))) ∧
  (∀ (s : State) (h st d : Nat) (res : Bytes), s.cmd.longs.find? (fun l => l.handle == h) = none → s.complete h st d res = s) ∧
  (∀ (s : State) (c : Nat) (rcd : Bytes) (msi event : Bool),
    (mget s.cmd.waiting c [] = [] → s.ringRoom c = true → s.toRing c rcd msi event = s.ringWrite c rcd msi) ∧
    (mget s.cmd.waiting c [] ≠ [] ∨ s.ringRoom c = false →
      (event = true → 256 ≤ (mget s.cmd.waiting c []).length →
        s.toRing c rcd msi event = s.ev F.NODE_CMD_EVENTS_EVENT_DROPPED) ∧
      (event = false ∨ (mget s.cmd.waiting c []).length < 256 →
        s.toRing c rcd msi event = s.setWaiting c (mget s.cmd.waiting c [] ++ [(rcd, msi)])))) ∧
  (∀ (sid counter client : Nat) (auth : Bool) (p : Bytes) (s u : State), s.datagram sid counter client auth = (u, true) →
    u.openFrom 2 = true → u.boot.romHold = false →
    (∀ (r : Bytes) (i t : Nat), u.cmd.kept.find? (fun k => k.1 == sid && k.2.1 == hdTag p) = some (i, t, p, r) →
      (r = [] → exec (.mgmtCommand sid counter client auth p) s = ok u) ∧
      (r ≠ [] → exec (.mgmtCommand sid counter client auth p) s = ok (u.mgmtSend sid 2 r))) ∧
    (∀ (p' r : Bytes) (i t : Nat), u.cmd.kept.find? (fun k => k.1 == sid && k.2.1 == hdTag p) = some (i, t, p', r) → p' ≠ p →
      exec (.mgmtCommand sid counter client auth p) s = ok ((u.inc F.NODE_CMD_COUNTS_REFUSED).mgmtSend sid 2
        (mkReply 0 2 (hdOpcode p) St.badParam 0 (hdTag p) []))) ∧
    (∀ v : State, u.cmd.kept.find? (fun k => k.1 == sid && k.2.1 == hdTag p) = none →
      v = { u with cmd := { u.cmd with kept := keepNewest sid ((sid, hdTag p, p, []) :: u.cmd.kept) } } →
      exec (.mgmtCommand sid counter client auth p) s = ok (v.submit (.mgmt sid) 0 0 p))) ∧
  (∀ (sid counter client : Nat) (auth taken : Bool) (p : Bytes) (s u : State), s.datagram sid counter client auth = (u, taken) →
    taken = false ∨ u.openFrom 2 = false ∨ u.boot.romHold = true → exec (.mgmtCommand sid counter client auth p) s = ok u) ∧
  (∀ (src : Fin 32768) (tag : BitVec 16) (p : Bytes) (s : State),
    (s.alive = true → s.ready = true →
      exec (.fabricCommandPacket src tag p) s = ok (s.submit (.fabric src) 0 tag.toNat p)) ∧
    (s.alive = false ∨ s.ready = false → exec (.fabricCommandPacket src tag p) s = ok s)) ∧
  (∀ (s u : State) (q : Sub), s.takes q Op.nodeInfo u →
    (q.p 0 1 ≤ 8 → exec .nodeInfo s = ok (u.short q St.ok (u.infoPage (q.p 0 1)))) ∧
    (8 < q.p 0 1 → exec .nodeInfo s = ok (u.short q St.badParam []))) ∧
  (∀ (s u : State) (q : Sub), s.takes q Op.panelState u → exec .panelState s =
    ok (u.short q St.ok ((List.range 6).flatMap (fun i => natLE 8 (u.panelReg (panelBlock + 8 * i))))))

/-- A command with REMOTE is forwarded to its target; the target's reply fills the slot and its record goes to the submitting
channel's ring; a target that does not answer, or whose probe does not, ends it with TARGET_DEAD. -/
def Obligations.ForwardedCommandsConclude : Prop :=
  (∀ (s u : State) (c slot dest : Nat) (p ps data : Bytes) (r : Remote), dest = fld p 32 2 → data = forwardHeader p ++ ps →
    r = ⟨dest, c, slot, hdTag p, hdOpcode p, hdMsi p, none⟩ →
    u = { s with cmd := { s.cmd with remotes := s.cmd.remotes ++ [r] } } →
    (dest = u.nodeId → s.forward c slot p ps = u.send .command dest [u.liveTag] data) ∧
    (dest ≠ u.nodeId → u.lookup u.liveTag u.liveVer dest = .unreachable → s.forward c slot p ps =
      ({ u with cmd := { u.cmd with remotes := u.cmd.remotes.filter (fun x => x != r) } } : State).remoteDead c slot
        (hdOpcode p) (hdTag p)) ∧
    (∀ (v : State) (k : Nat), dest ≠ u.nodeId → u.lookup u.liveTag u.liveVer dest ≠ .unreachable →
      u.routeTo u.liveTag u.liveVer dest = (v, .port k) →
      s.forward c slot p ps = (v.portSend k u.liveTag data).send .command dest [u.liveTag] data) ∧
    (∀ (v : State) (x : Route), dest ≠ u.nodeId → u.lookup u.liveTag u.liveVer dest ≠ .unreachable →
      u.routeTo u.liveTag u.liveVer dest = (v, x) → (∀ k : Nat, x ≠ .port k) → s.forward c slot p ps = v.routeMiss)) ∧
  (∀ (k : Fin 1024) (b : Vector (BitVec 8) 64) (s u : State) (r : Remote), s.remoteAt k = some r → u = s.dropRemote r →
    (fld b.toList 8 4 = 0 → exec (.remoteReplyArrival k b) s = ok (u.setSlot k (mkReply (fld (u.slot k) 2 1) 2 (fld b.toList 4 2)
      (fld b.toList 6 2) 0 (fld b.toList 12 4) (sub b.toList 16 48)))) ∧
    (∀ v : State, fld b.toList 8 4 ≠ 0 →
      v = { u with cmd := { u.cmd with remotes := u.cmd.remotes ++ [{ r with handle := some (fld b.toList 8 4) }] } } →
      exec (.remoteReplyArrival k b) s = ok (v.setSlot k (mkReply (fld (v.slot k) 2 1) 2 (fld b.toList 4 2)
        (fld b.toList 6 2) (fld b.toList 8 4) (fld b.toList 12 4) (sub b.toList 16 48)))) ∧
    exec (.remoteReplyTimeout k) s = ok ((u.ev F.NODE_CMD_EVENTS_REMOTE_DEAD).replyTo (.loc r.chan) r.slot r.opcode r.tag
      St.targetDead 0 [])) ∧
  (∀ (k : Fin 1024) (b : Vector (BitVec 8) 64) (s : State), s.remoteAt k = none →
    exec (.remoteReplyArrival k b) s = ok s ∧ exec (.remoteReplyTimeout k) s = ok s) ∧
  (∀ (n : Fin 32768) (b : Vector (BitVec 8) 64) (s : State),
    (∀ r : Remote, s.cmd.remotes.find? (fun r => r.target == n.val && r.handle == some (fld b.toList 8 4)) = some r →
      exec (.remoteRecordArrival n b) s = ok ((s.dropRemote r).toRing r.chan b.toList r.msi false)) ∧
    (s.cmd.remotes.find? (fun r => r.target == n.val && r.handle == some (fld b.toList 8 4)) = none →
      exec (.remoteRecordArrival n b) s = ok s)) ∧
  (∀ (dead : List (Fin 32768)) (s : State), s.cmd.remotes = [] → exec (.remoteProbe dead) s = ok s) ∧
  (∀ (dead : List (Fin 32768)) (s u v : State) (r : Remote) (h : Nat), s.cmd.remotes = [r] → r.handle = some h →
    u = s.sendLive .probe r.target [] [] →
    (dead.any (fun d => d.val == r.target) = false → u.lookup u.liveTag u.liveVer r.target ≠ .unreachable →
      exec (.remoteProbe dead) s = ok u) ∧
    ((dead.any (fun d => d.val == r.target) = true ∨ u.lookup u.liveTag u.liveVer r.target = .unreachable) →
      v = (u.dropRemote r).ev F.NODE_CMD_EVENTS_REMOTE_DEAD →
      exec (.remoteProbe dead) s = ok (v.toRing r.chan (patch (u.mkRecord 0 r.opcode St.targetDead h r.tag 0 []) 2
        (natLE 2 r.target)) r.msi false)))
end

