-- ==== Sys2Proof/Laws/Bits.lean ====
section
/-! SUPPORT. Bit fields: what is read of a field after it, or another, is stored. -/

namespace Sys2Proof.Machine

open Sys2Proof

theorem bits_eq (v lo w : Nat) : bits v lo w = v / 2 ^ lo % 2 ^ w := by
  simp [bits, Nat.shiftRight_eq_div_pow]

theorem bits_lt (v lo w : Nat) : bits v lo w < 2 ^ w := by
  rw [bits_eq]; exact Nat.mod_lt _ (by positivity)

/-- A number split at a field. -/
theorem split_at (v lo w : Nat) :
    v = v / 2 ^ (lo + w) * 2 ^ (lo + w) + bits v lo w * 2 ^ lo + v % 2 ^ lo := by
  have h1 := Nat.div_add_mod v (2 ^ lo)
  have h2 := Nat.div_add_mod (v / 2 ^ lo) (2 ^ w)
  rw [Nat.div_div_eq_div_mul, ← Nat.pow_add] at h2
  rw [bits_eq, pow_add]
  conv_lhs => rw [← h1, ← h2, pow_add]
  ring

theorem setBits_eq (v lo w x : Nat) :
    setBits v lo w x = v / 2 ^ (lo + w) * 2 ^ (lo + w) + x % 2 ^ w * 2 ^ lo + v % 2 ^ lo := by
  have h := split_at v lo w
  simp only [setBits, Nat.shiftLeft_eq]
  generalize v / 2 ^ (lo + w) * 2 ^ (lo + w) = p at *
  generalize bits v lo w * 2 ^ lo = q at *
  generalize v % 2 ^ lo = r at *
  omega

theorem testBit_bits (v lo w j : Nat) : (bits v lo w).testBit j = (decide (j < w) && v.testBit (lo + j)) := by
  rw [bits_eq, Nat.testBit_mod_two_pow, Nat.testBit_div_two_pow, Nat.add_comm]

/-- Bit j of a number with a field stored: the field's bit inside the field, the number's own outside. -/
theorem testBit_setBits (v lo w x j : Nat) :
    (setBits v lo w x).testBit j = if lo ≤ j ∧ j < lo + w then x.testBit (j - lo) else v.testBit j := by
  have hr : v % 2 ^ lo < 2 ^ lo := Nat.mod_lt _ (by positivity)
  have hx : x % 2 ^ w < 2 ^ w := Nat.mod_lt _ (by positivity)
  rw [setBits_eq,
    show v / 2 ^ (lo + w) * 2 ^ (lo + w) + x % 2 ^ w * 2 ^ lo + v % 2 ^ lo
      = 2 ^ lo * (2 ^ w * (v / 2 ^ (lo + w)) + x % 2 ^ w) + v % 2 ^ lo by rw [pow_add]; ring,
    Nat.testBit_two_pow_mul_add _ hr, Nat.testBit_two_pow_mul_add _ hx]
  split
  · rename_i h
    rw [if_neg (by omega), Nat.testBit_mod_two_pow]
    simp [h]
  · rename_i h
    split
    · rename_i h2
      rw [if_pos (by omega), Nat.testBit_mod_two_pow]
      simp [h2]
    · rename_i h2
      rw [if_neg (by omega), Nat.testBit_div_two_pow]
      congr 1
      omega

/-- A stored field reads back, modulo its width. -/
@[simp] theorem bits_setBits_same (v lo w x : Nat) : bits (setBits v lo w x) lo w = x % 2 ^ w := by
  apply Nat.eq_of_testBit_eq
  intro j
  rw [testBit_bits, testBit_setBits, Nat.testBit_mod_two_pow]
  by_cases h : j < w <;> simp [h]

/-- A field apart from the stored one keeps its value. -/
theorem bits_setBits_apart (v x : Nat) {lo w lo' w' : Nat} (h : lo' + w' ≤ lo ∨ lo + w ≤ lo') :
    bits (setBits v lo w x) lo' w' = bits v lo' w' := by
  apply Nat.eq_of_testBit_eq
  intro j
  rw [testBit_bits, testBit_bits, testBit_setBits]
  by_cases hj : j < w'
  · rw [if_neg (by omega)]
  · simp [hj]

/-- A field that lies in the low n bits of a number is not changed by truncating it to n bits. -/
theorem bits_mod (v : Nat) {lo w n : Nat} (h : lo + w ≤ n) : bits (v % 2 ^ n) lo w = bits v lo w := by
  apply Nat.eq_of_testBit_eq
  intro j
  rw [testBit_bits, testBit_bits, Nat.testBit_mod_two_pow]
  by_cases hj : j < w
  · simp [hj, show lo + j < n by omega]
  · simp [hj]

@[simp] theorem bits_zero (lo w : Nat) : bits 0 lo w = 0 := by simp [bits]

/-- Storing what a field holds changes nothing. -/
theorem setBits_self (v lo w : Nat) : setBits v lo w (bits v lo w) = v := by
  apply Nat.eq_of_testBit_eq
  intro j
  rw [testBit_setBits]
  split
  · rename_i h
    rw [testBit_bits]
    simp only [show j - lo < w by omega, decide_true, Bool.true_and]
    congr 1; omega
  · rfl

/-- Only the value modulo the width is stored. -/
theorem setBits_mod (v lo w x : Nat) : setBits v lo w (x % 2 ^ w) = setBits v lo w x := by simp [setBits]

theorem setBits_lt {v lo w n : Nat} (x : Nat) (hv : v < 2 ^ n) (h : lo + w ≤ n) : setBits v lo w x < 2 ^ n := by
  apply Nat.lt_pow_two_of_testBit
  intro j hj
  rw [testBit_setBits, if_neg (by omega)]
  exact Nat.testBit_lt_two_pow (lt_of_lt_of_le hv (Nat.pow_le_pow_right (by norm_num) hj))

end Sys2Proof.Machine
end

