-- ==== Sys2Proof/Laws/Commands.lean ====
section
/-! SUPPORT. How a command's meaning reaches its effect: the front of the gate, a running core, a running hart; and a spire that
was just set. -/

namespace Sys2Proof.Machine

open Sys2Proof

/-- A command row acts on the submission at the front of the gate. -/
theorem withSub_takes {s u : State} {q : Sub} {op : Nat} {sel : Sub → Bool} {f : Sub → State → State}
    (h : s.takes q op u) (hs : sel q = true) : s.withSub op sel f = ok (f q u) := by
  obtain ⟨r, ⟨hg, ho, hr⟩, rfl⟩ := h
  unfold State.withSub
  rw [hg]
  simp [ho, hs, hr, State.taken]

/-- The same, from the queue's form. -/
theorem withSub_front {s : State} {q : Sub} {r : List Sub} {op : Nat} {sel : Sub → Bool} {f : Sub → State → State}
    (h : s.front q r op) (hs : sel q = true) : s.withSub op sel f = ok (f q (s.taken r)) :=
  withSub_takes ⟨r, h, rfl⟩ hs

theorem onCore_does {s : State} {n : Nat} (h : s.coreRuns n = true) (f : State → State) :
    s.onCore n f = ok ((f s).coreDone n) := by simp [State.onCore, h]
/-- A core that goes on has nothing flushed. -/
theorem coreDone_of {s : State} {n : Nat} (h : s.rd (F.SPIRE_STATUS_CORE n) % 2 = 1) : s.coreDone n = s := by
  simp [State.coreDone, h]
theorem onCore_of {s : State} {n : Nat} (h : s.coreRuns n = true) (f : State → State)
    (hf : (f s).rd (F.SPIRE_STATUS_CORE n) % 2 = 1) : s.onCore n f = ok (f s) := by rw [onCore_does h, coreDone_of hf]
theorem onCore_not {s : State} {n : Nat} (h : s.coreRuns n = false) (f : State → State) : s.onCore n f = ok s := by
  simp [State.onCore, h]

theorem svRun_legal {s u : State} {n : Nat} (h : s.vecReady n u) (legal : Spire → Bool) (f : State → Spire → State)
    (hl : legal (u.sp n) = true) : s.svRun n legal f = ok ((f u (u.sp n)).coreDone n) := by
  obtain ⟨h1, rfl⟩ := h
  simp [State.svRun, h1, hl]
theorem svRun_illegal {s u : State} {n : Nat} (h : s.vecReady n u) (legal : Spire → Bool) (f : State → Spire → State)
    (hl : legal (u.sp n) = false) : s.svRun n legal f = ok ((u.illegal n).coreDone n) := by
  obtain ⟨h1, rfl⟩ := h
  simp [State.svRun, h1, hl]

theorem rd_setSp (s : State) (n : Nat) (x : Spire) (f : Field) : (s.setSp n x).rd f = s.rd f := rfl
theorem sp_wr (s : State) (n v : Nat) (f : Field) : (s.wr f v).sp n = s.sp n := rfl
theorem sp_wrReg (s : State) (n v a : Nat) : (s.wrReg a v).sp n = s.sp n := rfl

end Sys2Proof.Machine
end

