-- ==== Sys2Proof/Laws/Lists.lean ====
section
/-! SUPPORT. Keyed lists: what is read after a put or a delete, and the canonical form both keep. -/

namespace Sys2Proof.Machine

open Sys2Proof

section
variable {α : Type}

@[simp] theorem mget_mput_same (m : List (Nat × α)) (k : Nat) (v d : α) : mget (mput m k v) k d = v := by
  induction m with
  | nil => simp [mput, mget]
  | cons x r ih =>
    obtain ⟨k', v'⟩ := x
    simp only [mput]
    split
    · simp [mget]
    · split
      · simp [mget]
      · rename_i h; simp [mget, h, ih]

theorem mget_mput_ne (m : List (Nat × α)) {k j : Nat} (v d : α) (h : j ≠ k) : mget (mput m k v) j d = mget m j d := by
  induction m with
  | nil => simp [mput, mget, h]
  | cons x r ih =>
    obtain ⟨k', v'⟩ := x
    simp only [mput]
    split
    · simp [mget, h]
    · split
      · rename_i h2; subst h2; simp [mget, h]
      · simp [mget, ih]

@[simp] theorem mget_mdel_same (m : List (Nat × α)) (k : Nat) (d : α) : mget (mdel m k) k d = d := by
  induction m with
  | nil => simp [mdel, mget]
  | cons x r ih =>
    obtain ⟨k', v'⟩ := x
    simp only [mdel]
    split
    · exact ih
    · rename_i h; simp [mget, h, ih]

theorem mget_mdel_ne (m : List (Nat × α)) {k j : Nat} (d : α) (h : j ≠ k) : mget (mdel m k) j d = mget m j d := by
  induction m with
  | nil => simp [mdel]
  | cons x r ih =>
    obtain ⟨k', v'⟩ := x
    simp only [mdel]
    split
    · rename_i h2; subst h2; simp [mget, h, ih]
    · simp [mget, ih]

theorem risingFrom_weaken {lo lo' : Nat} (h : lo' ≤ lo) : ∀ {m : List (Nat × α)}, risingFrom lo m = true → risingFrom lo' m = true
  | [], _ => rfl
  | (k, _) :: r, hm => by
    simp only [risingFrom, Bool.and_eq_true, decide_eq_true_eq] at *
    exact ⟨by omega, hm.2⟩

/-- A key below a rising list is not listed. -/
theorem mget_below {lo k : Nat} (d : α) (h : k < lo) : ∀ {m : List (Nat × α)}, risingFrom lo m = true → mget m k d = d
  | [], _ => rfl
  | (k', _) :: r, hm => by
    simp only [risingFrom, Bool.and_eq_true, decide_eq_true_eq] at hm
    simp only [mget]
    rw [if_neg (by omega)]
    exact mget_below d (by omega) hm.2

theorem risingFrom_mput {lo k : Nat} (v : α) (h : lo ≤ k) :
    ∀ {m : List (Nat × α)}, risingFrom lo m = true → risingFrom lo (mput m k v) = true
  | [], _ => by simp [mput, risingFrom, h]
  | (k', v') :: r, hm => by
    simp only [risingFrom, Bool.and_eq_true, decide_eq_true_eq] at hm
    simp only [mput]
    split
    · simp only [risingFrom, Bool.and_eq_true, decide_eq_true_eq]
      exact ⟨h, by omega, hm.2⟩
    · split
      · rename_i h2; subst h2
        simp only [risingFrom, Bool.and_eq_true, decide_eq_true_eq]
        exact ⟨h, hm.2⟩
      · simp only [risingFrom, Bool.and_eq_true, decide_eq_true_eq]
        exact ⟨hm.1, risingFrom_mput v (by omega) hm.2⟩

theorem risingFrom_mdel {lo k : Nat} :
    ∀ {m : List (Nat × α)}, risingFrom lo m = true → risingFrom lo (mdel m k) = true
  | [], _ => rfl
  | (k', v') :: r, hm => by
    simp only [risingFrom, Bool.and_eq_true, decide_eq_true_eq] at hm
    simp only [mdel]
    split
    · exact risingFrom_mdel (risingFrom_weaken (by omega) hm.2)
    · simp only [risingFrom, Bool.and_eq_true, decide_eq_true_eq]
      exact ⟨hm.1, risingFrom_mdel hm.2⟩

theorem all_mput {p : Nat × α → Bool} {k : Nat} {v : α} (h : p (k, v) = true) :
    ∀ {m : List (Nat × α)}, m.all p = true → (mput m k v).all p = true
  | [], _ => by simp [mput, h]
  | (k', v') :: r, hm => by
    simp only [List.all_cons, Bool.and_eq_true] at hm
    simp only [mput]
    split
    · simp [h, hm.1, hm.2]
    · split
      · simp [h, hm.2]
      · simp [hm.1, all_mput h hm.2]

theorem all_mdel {p : Nat × α → Bool} {k : Nat} :
    ∀ {m : List (Nat × α)}, m.all p = true → (mdel m k).all p = true
  | [], _ => rfl
  | (k', v') :: r, hm => by
    simp only [List.all_cons, Bool.and_eq_true] at hm
    simp only [mdel]
    split
    · exact all_mdel hm.2
    · simp [hm.1, all_mdel hm.2]

/-- Two rising lists without the default entry that read alike are the same list. -/
theorem mget_ext {d : α} [DecidableEq α] : ∀ {lo : Nat} {m n : List (Nat × α)}, risingFrom lo m = true → risingFrom lo n = true →
    (∀ x ∈ m, x.2 ≠ d) → (∀ x ∈ n, x.2 ≠ d) → (∀ k, mget m k d = mget n k d) → m = n
  | _, [], [], _, _, _, _, _ => rfl
  | _, [], (k, v) :: r, _, _, _, hn, h => by
    have := h k
    simp only [mget, if_true] at this
    exact absurd this.symm (hn (k, v) (by simp))
  | _, (k, v) :: r, [], _, _, hm, _, h => by
    have := h k
    simp only [mget, if_true] at this
    exact absurd this (hm (k, v) (by simp))
  | lo, (k, v) :: r, (j, w) :: t, h1, h2, hm, hn, h => by
    simp only [risingFrom, Bool.and_eq_true, decide_eq_true_eq] at h1 h2
    have hkj : k = j := by
      rcases Nat.lt_trichotomy k j with hlt | heq | hgt
      · have := h k
        simp only [mget, if_true] at this
        rw [if_neg (by omega), mget_below d (by omega) h2.2] at this
        exact absurd this (hm (k, v) (by simp))
      · exact heq
      · have := h j
        simp only [mget, if_true] at this
        rw [if_neg (by omega), mget_below d (by omega) h1.2] at this
        exact absurd this.symm (hn (j, w) (by simp))
    subst hkj
    have hv : v = w := by have := h k; simpa [mget] using this
    subst hv
    have := mget_ext (d := d) h1.2 h2.2 (fun x hx => hm x (by simp [hx])) (fun x hx => hn x (by simp [hx])) (fun i => by
      by_cases hi : i = k
      · subst hi; rw [mget_below d (by omega) h1.2, mget_below d (by omega) h2.2]
      · have := h i
        simpa [mget, hi] using this)
    rw [this]

end

end Sys2Proof.Machine
end

