-- ==== Sys2Proof/Laws/Regs.lean ====
section
/-! SUPPORT. Registers: what a field reads after a store, and the canonical form of the register map. -/

namespace Sys2Proof.Machine

open Sys2Proof

/-- The fields of two registers, or of one register without a common bit. -/
def Field.apart (f g : Field) : Bool := f.addr != g.addr || f.lo + f.width ≤ g.lo || g.lo + g.width ≤ f.lo

/-- A field inside the 64 bits of its register. -/
def Field.fits (f : Field) : Bool := f.lo + f.width ≤ 64

@[simp] theorem State.rdReg_wrReg_same (s : State) (a v : Nat) : (s.wrReg a v).rdReg a = v % 2 ^ 64 := by
  simp only [State.wrReg, State.rdReg]
  split
  · rename_i h
    rw [mget_mdel_same]
    have := congrArg BitVec.toNat h
    simpa using this.symm
  · rw [mget_mput_same]; simp

theorem State.rdReg_wrReg_ne (s : State) {a b : Nat} (v : Nat) (h : b ≠ a) : (s.wrReg a v).rdReg b = s.rdReg b := by
  simp only [State.wrReg, State.rdReg]
  split
  · rw [mget_mdel_ne _ _ h]
  · rw [mget_mput_ne _ _ _ h]

theorem State.rdReg_lt (s : State) (a : Nat) : s.rdReg a < 2 ^ 64 := (mget s.regs a 0).isLt

/-- A stored field reads back, modulo its width. -/
theorem State.rd_wr_same (s : State) (f : Field) (v : Nat) (h : f.fits = true) : (s.wr f v).rd f = v % 2 ^ f.width := by
  simp only [Field.fits, decide_eq_true_eq] at h
  rw [State.rd, State.wr, rdReg_wrReg_same, bits_mod _ h, bits_setBits_same]

/-- A field apart from the stored one keeps its value. -/
theorem State.rd_wr_apart (s : State) {f g : Field} (v : Nat) (h : f.apart g = true) (hf : f.fits = true) :
    (s.wr g v).rd f = s.rd f := by
  simp only [Field.apart, Field.fits, Bool.or_eq_true, bne_iff_ne, decide_eq_true_eq] at h hf
  by_cases ha : f.addr = g.addr
  · rw [State.rd, State.wr, ← ha, rdReg_wrReg_same, bits_mod _ hf]
    rw [bits_setBits_apart]
    · rfl
    · rcases h with (h | h) | h
      · exact absurd ha h
      · exact Or.inl h
      · exact Or.inr h
  · rw [State.rd, State.wr, rdReg_wrReg_ne _ _ ha]; rfl

/-- A register apart from the stored one keeps its value. -/
theorem State.rdReg_wr_ne (s : State) {f : Field} {a : Nat} (v : Nat) (h : a ≠ f.addr) : (s.wr f v).rdReg a = s.rdReg a :=
  rdReg_wrReg_ne _ _ h

theorem State.rd_wrReg_ne (s : State) {f : Field} {a : Nat} (v : Nat) (h : f.addr ≠ a) : (s.wrReg a v).rd f = s.rd f := by
  rw [State.rd, rdReg_wrReg_ne _ _ h]; rfl

/-- A field of a register stored whole. -/
theorem State.rd_wrReg_same (s : State) {f : Field} (v : Nat) (h : f.fits = true) :
    (s.wrReg f.addr v).rd f = bits v f.lo f.width := by
  simp only [Field.fits, decide_eq_true_eq] at h
  rw [State.rd, rdReg_wrReg_same, bits_mod _ h]

theorem State.rd_lt (s : State) (f : Field) : s.rd f < 2 ^ f.width := bits_lt _ _ _

theorem Registers.wf_wrReg (s : State) (a v : Nat) (h : Registers.wf s.regs = true) : Registers.wf (s.wrReg a v).regs = true := by
  simp only [Registers.wf, Bool.and_eq_true, State.wrReg] at *
  split
  · exact ⟨risingFrom_mdel h.1, all_mdel h.2⟩
  · rename_i hv
    exact ⟨risingFrom_mput _ (Nat.zero_le _) h.1, all_mput (by simpa using hv) h.2⟩

theorem Registers.wf_wr (s : State) (f : Field) (v : Nat) (h : Registers.wf s.regs = true) : Registers.wf (s.wr f v).regs = true :=
  wf_wrReg s _ _ h

/-- A register map in canonical form that holds a value already is not changed by storing it. -/
theorem State.wrReg_self (s : State) (a v : Nat) (h : Registers.wf s.regs = true) (hv : s.rdReg a = v) : s.wrReg a v = s := by
  have hw := Registers.wf_wrReg s a v h
  have key : (s.wrReg a v).regs = s.regs := by
    simp only [Registers.wf, Bool.and_eq_true, List.all_eq_true, bne_iff_ne, ne_eq] at h hw
    apply mget_ext (d := (0 : Word)) hw.1 h.1 (fun x hx => hw.2 x hx) (fun x hx => h.2 x hx)
    intro k
    apply BitVec.eq_of_toNat_eq
    change (s.wrReg a v).rdReg k = s.rdReg k
    by_cases hk : k = a
    · subst hk
      rw [rdReg_wrReg_same, hv, Nat.mod_eq_of_lt]
      rw [← hv]; exact s.rdReg_lt k
    · exact rdReg_wrReg_ne s v hk
  show State.mk _ _ _ _ _ _ _ _ _ _ _ _ _ _ _ _ _ _ _ _ _ _ _ _ _ _ _ _ _ = s
  cases s
  simp only [State.wrReg] at key
  simp only [State.mk.injEq, and_true]
  simpa using key

/-- Storing in a field the value it holds changes nothing. -/
theorem State.wr_self (s : State) (f : Field) (v : Nat) (h : Registers.wf s.regs = true) (hv : v % 2 ^ f.width = s.rd f) :
    s.wr f v = s := by
  rw [State.wr, wrReg_self s _ _ h]
  rw [← setBits_mod, hv, State.rd, setBits_self]

end Sys2Proof.Machine
end

