-- ==== Sys2Proof/Laws/State.lean ====
section
/-! SUPPORT. One lemma per field of State per named update: the fields an update leaves alone. -/

namespace Sys2Proof.Machine

open Sys2Proof

@[simp] theorem State.wrReg_mem (s : State) (a v : Nat) : (s.wrReg a v).mem = s.mem := rfl
@[simp] theorem State.wrReg_poison (s : State) (a v : Nat) : (s.wrReg a v).poison = s.poison := rfl
@[simp] theorem State.wrReg_undef (s : State) (a v : Nat) : (s.wrReg a v).undef = s.undef := rfl
@[simp] theorem State.wrReg_domeLines (s : State) (a v : Nat) : (s.wrReg a v).domeLines = s.domeLines := rfl
@[simp] theorem State.wrReg_resv (s : State) (a v : Nat) : (s.wrReg a v).resv = s.resv := rfl
@[simp] theorem State.wrReg_tb (s : State) (a v : Nat) : (s.wrReg a v).tb = s.tb := rfl
@[simp] theorem State.wrReg_power (s : State) (a v : Nat) : (s.wrReg a v).power = s.power := rfl
@[simp] theorem State.wrReg_terr (s : State) (a v : Nat) : (s.wrReg a v).terr = s.terr := rfl
@[simp] theorem State.wrReg_spires (s : State) (a v : Nat) : (s.wrReg a v).spires = s.spires := rfl
@[simp] theorem State.wrReg_harts (s : State) (a v : Nat) : (s.wrReg a v).harts = s.harts := rfl
@[simp] theorem State.wrReg_pinned (s : State) (a v : Nat) : (s.wrReg a v).pinned = s.pinned := rfl
@[simp] theorem State.wrReg_ckpt (s : State) (a v : Nat) : (s.wrReg a v).ckpt = s.ckpt := rfl
@[simp] theorem State.wrReg_cmd (s : State) (a v : Nat) : (s.wrReg a v).cmd = s.cmd := rfl
@[simp] theorem State.wrReg_check (s : State) (a v : Nat) : (s.wrReg a v).check = s.check := rfl
@[simp] theorem State.wrReg_net (s : State) (a v : Nat) : (s.wrReg a v).net = s.net := rfl
@[simp] theorem State.wrReg_fab (s : State) (a v : Nat) : (s.wrReg a v).fab = s.fab := rfl
@[simp] theorem State.wrReg_preset (s : State) (a v : Nat) : (s.wrReg a v).preset = s.preset := rfl
@[simp] theorem State.wrReg_keep (s : State) (a v : Nat) : (s.wrReg a v).keep = s.keep := rfl
@[simp] theorem State.wrReg_age (s : State) (a v : Nat) : (s.wrReg a v).age = s.age := rfl
@[simp] theorem State.wrReg_solver (s : State) (a v : Nat) : (s.wrReg a v).solver = s.solver := rfl
@[simp] theorem State.wrReg_coll (s : State) (a v : Nat) : (s.wrReg a v).coll = s.coll := rfl
@[simp] theorem State.wrReg_panel (s : State) (a v : Nat) : (s.wrReg a v).panel = s.panel := rfl
@[simp] theorem State.wrReg_boot (s : State) (a v : Nat) : (s.wrReg a v).boot = s.boot := rfl
@[simp] theorem State.wrReg_sec (s : State) (a v : Nat) : (s.wrReg a v).sec = s.sec := rfl
@[simp] theorem State.wrReg_job (s : State) (a v : Nat) : (s.wrReg a v).job = s.job := rfl
@[simp] theorem State.wrReg_out (s : State) (a v : Nat) : (s.wrReg a v).out = s.out := rfl
@[simp] theorem State.wrReg_fresh (s : State) (a v : Nat) : (s.wrReg a v).fresh = s.fresh := rfl
@[simp] theorem State.wrReg_pending (s : State) (a v : Nat) : (s.wrReg a v).pending = s.pending := rfl

@[simp] theorem State.wr_mem (s : State) (f : Field) (v : Nat) : (s.wr f v).mem = s.mem := rfl
@[simp] theorem State.wr_poison (s : State) (f : Field) (v : Nat) : (s.wr f v).poison = s.poison := rfl
@[simp] theorem State.wr_undef (s : State) (f : Field) (v : Nat) : (s.wr f v).undef = s.undef := rfl
@[simp] theorem State.wr_domeLines (s : State) (f : Field) (v : Nat) : (s.wr f v).domeLines = s.domeLines := rfl
@[simp] theorem State.wr_resv (s : State) (f : Field) (v : Nat) : (s.wr f v).resv = s.resv := rfl
@[simp] theorem State.wr_tb (s : State) (f : Field) (v : Nat) : (s.wr f v).tb = s.tb := rfl
@[simp] theorem State.wr_power (s : State) (f : Field) (v : Nat) : (s.wr f v).power = s.power := rfl
@[simp] theorem State.wr_terr (s : State) (f : Field) (v : Nat) : (s.wr f v).terr = s.terr := rfl
@[simp] theorem State.wr_spires (s : State) (f : Field) (v : Nat) : (s.wr f v).spires = s.spires := rfl
@[simp] theorem State.wr_harts (s : State) (f : Field) (v : Nat) : (s.wr f v).harts = s.harts := rfl
@[simp] theorem State.wr_pinned (s : State) (f : Field) (v : Nat) : (s.wr f v).pinned = s.pinned := rfl
@[simp] theorem State.wr_ckpt (s : State) (f : Field) (v : Nat) : (s.wr f v).ckpt = s.ckpt := rfl
@[simp] theorem State.wr_cmd (s : State) (f : Field) (v : Nat) : (s.wr f v).cmd = s.cmd := rfl
@[simp] theorem State.wr_check (s : State) (f : Field) (v : Nat) : (s.wr f v).check = s.check := rfl
@[simp] theorem State.wr_net (s : State) (f : Field) (v : Nat) : (s.wr f v).net = s.net := rfl
@[simp] theorem State.wr_fab (s : State) (f : Field) (v : Nat) : (s.wr f v).fab = s.fab := rfl
@[simp] theorem State.wr_preset (s : State) (f : Field) (v : Nat) : (s.wr f v).preset = s.preset := rfl
@[simp] theorem State.wr_keep (s : State) (f : Field) (v : Nat) : (s.wr f v).keep = s.keep := rfl
@[simp] theorem State.wr_age (s : State) (f : Field) (v : Nat) : (s.wr f v).age = s.age := rfl
@[simp] theorem State.wr_solver (s : State) (f : Field) (v : Nat) : (s.wr f v).solver = s.solver := rfl
@[simp] theorem State.wr_coll (s : State) (f : Field) (v : Nat) : (s.wr f v).coll = s.coll := rfl
@[simp] theorem State.wr_panel (s : State) (f : Field) (v : Nat) : (s.wr f v).panel = s.panel := rfl
@[simp] theorem State.wr_boot (s : State) (f : Field) (v : Nat) : (s.wr f v).boot = s.boot := rfl
@[simp] theorem State.wr_sec (s : State) (f : Field) (v : Nat) : (s.wr f v).sec = s.sec := rfl
@[simp] theorem State.wr_job (s : State) (f : Field) (v : Nat) : (s.wr f v).job = s.job := rfl
@[simp] theorem State.wr_out (s : State) (f : Field) (v : Nat) : (s.wr f v).out = s.out := rfl
@[simp] theorem State.wr_fresh (s : State) (f : Field) (v : Nat) : (s.wr f v).fresh = s.fresh := rfl
@[simp] theorem State.wr_pending (s : State) (f : Field) (v : Nat) : (s.wr f v).pending = s.pending := rfl

@[simp] theorem State.ev_mem (s : State) (f : Field) : (s.ev f).mem = s.mem := rfl
@[simp] theorem State.ev_poison (s : State) (f : Field) : (s.ev f).poison = s.poison := rfl
@[simp] theorem State.ev_undef (s : State) (f : Field) : (s.ev f).undef = s.undef := rfl
@[simp] theorem State.ev_domeLines (s : State) (f : Field) : (s.ev f).domeLines = s.domeLines := rfl
@[simp] theorem State.ev_resv (s : State) (f : Field) : (s.ev f).resv = s.resv := rfl
@[simp] theorem State.ev_tb (s : State) (f : Field) : (s.ev f).tb = s.tb := rfl
@[simp] theorem State.ev_power (s : State) (f : Field) : (s.ev f).power = s.power := rfl
@[simp] theorem State.ev_terr (s : State) (f : Field) : (s.ev f).terr = s.terr := rfl
@[simp] theorem State.ev_spires (s : State) (f : Field) : (s.ev f).spires = s.spires := rfl
@[simp] theorem State.ev_harts (s : State) (f : Field) : (s.ev f).harts = s.harts := rfl
@[simp] theorem State.ev_pinned (s : State) (f : Field) : (s.ev f).pinned = s.pinned := rfl
@[simp] theorem State.ev_ckpt (s : State) (f : Field) : (s.ev f).ckpt = s.ckpt := rfl
@[simp] theorem State.ev_cmd (s : State) (f : Field) : (s.ev f).cmd = s.cmd := rfl
@[simp] theorem State.ev_check (s : State) (f : Field) : (s.ev f).check = s.check := rfl
@[simp] theorem State.ev_net (s : State) (f : Field) : (s.ev f).net = s.net := rfl
@[simp] theorem State.ev_fab (s : State) (f : Field) : (s.ev f).fab = s.fab := rfl
@[simp] theorem State.ev_preset (s : State) (f : Field) : (s.ev f).preset = s.preset := rfl
@[simp] theorem State.ev_keep (s : State) (f : Field) : (s.ev f).keep = s.keep := rfl
@[simp] theorem State.ev_age (s : State) (f : Field) : (s.ev f).age = s.age := rfl
@[simp] theorem State.ev_solver (s : State) (f : Field) : (s.ev f).solver = s.solver := rfl
@[simp] theorem State.ev_coll (s : State) (f : Field) : (s.ev f).coll = s.coll := rfl
@[simp] theorem State.ev_panel (s : State) (f : Field) : (s.ev f).panel = s.panel := rfl
@[simp] theorem State.ev_boot (s : State) (f : Field) : (s.ev f).boot = s.boot := rfl
@[simp] theorem State.ev_sec (s : State) (f : Field) : (s.ev f).sec = s.sec := rfl
@[simp] theorem State.ev_job (s : State) (f : Field) : (s.ev f).job = s.job := rfl
@[simp] theorem State.ev_out (s : State) (f : Field) : (s.ev f).out = s.out := rfl
@[simp] theorem State.ev_fresh (s : State) (f : Field) : (s.ev f).fresh = s.fresh := rfl
@[simp] theorem State.ev_pending (s : State) (f : Field) : (s.ev f).pending = s.pending := rfl

@[simp] theorem State.inc_mem (s : State) (f : Field) (n : Nat) : (s.inc f n).mem = s.mem := rfl
@[simp] theorem State.inc_poison (s : State) (f : Field) (n : Nat) : (s.inc f n).poison = s.poison := rfl
@[simp] theorem State.inc_undef (s : State) (f : Field) (n : Nat) : (s.inc f n).undef = s.undef := rfl
@[simp] theorem State.inc_domeLines (s : State) (f : Field) (n : Nat) : (s.inc f n).domeLines = s.domeLines := rfl
@[simp] theorem State.inc_resv (s : State) (f : Field) (n : Nat) : (s.inc f n).resv = s.resv := rfl
@[simp] theorem State.inc_tb (s : State) (f : Field) (n : Nat) : (s.inc f n).tb = s.tb := rfl
@[simp] theorem State.inc_power (s : State) (f : Field) (n : Nat) : (s.inc f n).power = s.power := rfl
@[simp] theorem State.inc_terr (s : State) (f : Field) (n : Nat) : (s.inc f n).terr = s.terr := rfl
@[simp] theorem State.inc_spires (s : State) (f : Field) (n : Nat) : (s.inc f n).spires = s.spires := rfl
@[simp] theorem State.inc_harts (s : State) (f : Field) (n : Nat) : (s.inc f n).harts = s.harts := rfl
@[simp] theorem State.inc_pinned (s : State) (f : Field) (n : Nat) : (s.inc f n).pinned = s.pinned := rfl
@[simp] theorem State.inc_ckpt (s : State) (f : Field) (n : Nat) : (s.inc f n).ckpt = s.ckpt := rfl
@[simp] theorem State.inc_cmd (s : State) (f : Field) (n : Nat) : (s.inc f n).cmd = s.cmd := rfl
@[simp] theorem State.inc_check (s : State) (f : Field) (n : Nat) : (s.inc f n).check = s.check := rfl
@[simp] theorem State.inc_net (s : State) (f : Field) (n : Nat) : (s.inc f n).net = s.net := rfl
@[simp] theorem State.inc_fab (s : State) (f : Field) (n : Nat) : (s.inc f n).fab = s.fab := rfl
@[simp] theorem State.inc_preset (s : State) (f : Field) (n : Nat) : (s.inc f n).preset = s.preset := rfl
@[simp] theorem State.inc_keep (s : State) (f : Field) (n : Nat) : (s.inc f n).keep = s.keep := rfl
@[simp] theorem State.inc_age (s : State) (f : Field) (n : Nat) : (s.inc f n).age = s.age := rfl
@[simp] theorem State.inc_solver (s : State) (f : Field) (n : Nat) : (s.inc f n).solver = s.solver := rfl
@[simp] theorem State.inc_coll (s : State) (f : Field) (n : Nat) : (s.inc f n).coll = s.coll := rfl
@[simp] theorem State.inc_panel (s : State) (f : Field) (n : Nat) : (s.inc f n).panel = s.panel := rfl
@[simp] theorem State.inc_boot (s : State) (f : Field) (n : Nat) : (s.inc f n).boot = s.boot := rfl
@[simp] theorem State.inc_sec (s : State) (f : Field) (n : Nat) : (s.inc f n).sec = s.sec := rfl
@[simp] theorem State.inc_job (s : State) (f : Field) (n : Nat) : (s.inc f n).job = s.job := rfl
@[simp] theorem State.inc_out (s : State) (f : Field) (n : Nat) : (s.inc f n).out = s.out := rfl
@[simp] theorem State.inc_fresh (s : State) (f : Field) (n : Nat) : (s.inc f n).fresh = s.fresh := rfl
@[simp] theorem State.inc_pending (s : State) (f : Field) (n : Nat) : (s.inc f n).pending = s.pending := rfl

@[simp] theorem State.incw_mem (s : State) (f : Field) (n : Nat) : (s.incw f n).mem = s.mem := rfl
@[simp] theorem State.incw_poison (s : State) (f : Field) (n : Nat) : (s.incw f n).poison = s.poison := rfl
@[simp] theorem State.incw_undef (s : State) (f : Field) (n : Nat) : (s.incw f n).undef = s.undef := rfl
@[simp] theorem State.incw_domeLines (s : State) (f : Field) (n : Nat) : (s.incw f n).domeLines = s.domeLines := rfl
@[simp] theorem State.incw_resv (s : State) (f : Field) (n : Nat) : (s.incw f n).resv = s.resv := rfl
@[simp] theorem State.incw_tb (s : State) (f : Field) (n : Nat) : (s.incw f n).tb = s.tb := rfl
@[simp] theorem State.incw_power (s : State) (f : Field) (n : Nat) : (s.incw f n).power = s.power := rfl
@[simp] theorem State.incw_terr (s : State) (f : Field) (n : Nat) : (s.incw f n).terr = s.terr := rfl
@[simp] theorem State.incw_spires (s : State) (f : Field) (n : Nat) : (s.incw f n).spires = s.spires := rfl
@[simp] theorem State.incw_harts (s : State) (f : Field) (n : Nat) : (s.incw f n).harts = s.harts := rfl
@[simp] theorem State.incw_pinned (s : State) (f : Field) (n : Nat) : (s.incw f n).pinned = s.pinned := rfl
@[simp] theorem State.incw_ckpt (s : State) (f : Field) (n : Nat) : (s.incw f n).ckpt = s.ckpt := rfl
@[simp] theorem State.incw_cmd (s : State) (f : Field) (n : Nat) : (s.incw f n).cmd = s.cmd := rfl
@[simp] theorem State.incw_check (s : State) (f : Field) (n : Nat) : (s.incw f n).check = s.check := rfl
@[simp] theorem State.incw_net (s : State) (f : Field) (n : Nat) : (s.incw f n).net = s.net := rfl
@[simp] theorem State.incw_fab (s : State) (f : Field) (n : Nat) : (s.incw f n).fab = s.fab := rfl
@[simp] theorem State.incw_preset (s : State) (f : Field) (n : Nat) : (s.incw f n).preset = s.preset := rfl
@[simp] theorem State.incw_keep (s : State) (f : Field) (n : Nat) : (s.incw f n).keep = s.keep := rfl
@[simp] theorem State.incw_age (s : State) (f : Field) (n : Nat) : (s.incw f n).age = s.age := rfl
@[simp] theorem State.incw_solver (s : State) (f : Field) (n : Nat) : (s.incw f n).solver = s.solver := rfl
@[simp] theorem State.incw_coll (s : State) (f : Field) (n : Nat) : (s.incw f n).coll = s.coll := rfl
@[simp] theorem State.incw_panel (s : State) (f : Field) (n : Nat) : (s.incw f n).panel = s.panel := rfl
@[simp] theorem State.incw_boot (s : State) (f : Field) (n : Nat) : (s.incw f n).boot = s.boot := rfl
@[simp] theorem State.incw_sec (s : State) (f : Field) (n : Nat) : (s.incw f n).sec = s.sec := rfl
@[simp] theorem State.incw_job (s : State) (f : Field) (n : Nat) : (s.incw f n).job = s.job := rfl
@[simp] theorem State.incw_out (s : State) (f : Field) (n : Nat) : (s.incw f n).out = s.out := rfl
@[simp] theorem State.incw_fresh (s : State) (f : Field) (n : Nat) : (s.incw f n).fresh = s.fresh := rfl
@[simp] theorem State.incw_pending (s : State) (f : Field) (n : Nat) : (s.incw f n).pending = s.pending := rfl

@[simp] theorem State.wrBit_mem (s : State) (f : Field) (i : Nat) (b : Bool) : (s.wrBit f i b).mem = s.mem := rfl
@[simp] theorem State.wrBit_poison (s : State) (f : Field) (i : Nat) (b : Bool) : (s.wrBit f i b).poison = s.poison := rfl
@[simp] theorem State.wrBit_undef (s : State) (f : Field) (i : Nat) (b : Bool) : (s.wrBit f i b).undef = s.undef := rfl
@[simp] theorem State.wrBit_domeLines (s : State) (f : Field) (i : Nat) (b : Bool) : (s.wrBit f i b).domeLines = s.domeLines := rfl
@[simp] theorem State.wrBit_resv (s : State) (f : Field) (i : Nat) (b : Bool) : (s.wrBit f i b).resv = s.resv := rfl
@[simp] theorem State.wrBit_tb (s : State) (f : Field) (i : Nat) (b : Bool) : (s.wrBit f i b).tb = s.tb := rfl
@[simp] theorem State.wrBit_power (s : State) (f : Field) (i : Nat) (b : Bool) : (s.wrBit f i b).power = s.power := rfl
@[simp] theorem State.wrBit_terr (s : State) (f : Field) (i : Nat) (b : Bool) : (s.wrBit f i b).terr = s.terr := rfl
@[simp] theorem State.wrBit_spires (s : State) (f : Field) (i : Nat) (b : Bool) : (s.wrBit f i b).spires = s.spires := rfl
@[simp] theorem State.wrBit_harts (s : State) (f : Field) (i : Nat) (b : Bool) : (s.wrBit f i b).harts = s.harts := rfl
@[simp] theorem State.wrBit_pinned (s : State) (f : Field) (i : Nat) (b : Bool) : (s.wrBit f i b).pinned = s.pinned := rfl
@[simp] theorem State.wrBit_ckpt (s : State) (f : Field) (i : Nat) (b : Bool) : (s.wrBit f i b).ckpt = s.ckpt := rfl
@[simp] theorem State.wrBit_cmd (s : State) (f : Field) (i : Nat) (b : Bool) : (s.wrBit f i b).cmd = s.cmd := rfl
@[simp] theorem State.wrBit_check (s : State) (f : Field) (i : Nat) (b : Bool) : (s.wrBit f i b).check = s.check := rfl
@[simp] theorem State.wrBit_net (s : State) (f : Field) (i : Nat) (b : Bool) : (s.wrBit f i b).net = s.net := rfl
@[simp] theorem State.wrBit_fab (s : State) (f : Field) (i : Nat) (b : Bool) : (s.wrBit f i b).fab = s.fab := rfl
@[simp] theorem State.wrBit_preset (s : State) (f : Field) (i : Nat) (b : Bool) : (s.wrBit f i b).preset = s.preset := rfl
@[simp] theorem State.wrBit_keep (s : State) (f : Field) (i : Nat) (b : Bool) : (s.wrBit f i b).keep = s.keep := rfl
@[simp] theorem State.wrBit_age (s : State) (f : Field) (i : Nat) (b : Bool) : (s.wrBit f i b).age = s.age := rfl
@[simp] theorem State.wrBit_solver (s : State) (f : Field) (i : Nat) (b : Bool) : (s.wrBit f i b).solver = s.solver := rfl
@[simp] theorem State.wrBit_coll (s : State) (f : Field) (i : Nat) (b : Bool) : (s.wrBit f i b).coll = s.coll := rfl
@[simp] theorem State.wrBit_panel (s : State) (f : Field) (i : Nat) (b : Bool) : (s.wrBit f i b).panel = s.panel := rfl
@[simp] theorem State.wrBit_boot (s : State) (f : Field) (i : Nat) (b : Bool) : (s.wrBit f i b).boot = s.boot := rfl
@[simp] theorem State.wrBit_sec (s : State) (f : Field) (i : Nat) (b : Bool) : (s.wrBit f i b).sec = s.sec := rfl
@[simp] theorem State.wrBit_job (s : State) (f : Field) (i : Nat) (b : Bool) : (s.wrBit f i b).job = s.job := rfl
@[simp] theorem State.wrBit_out (s : State) (f : Field) (i : Nat) (b : Bool) : (s.wrBit f i b).out = s.out := rfl
@[simp] theorem State.wrBit_fresh (s : State) (f : Field) (i : Nat) (b : Bool) : (s.wrBit f i b).fresh = s.fresh := rfl
@[simp] theorem State.wrBit_pending (s : State) (f : Field) (i : Nat) (b : Bool) : (s.wrBit f i b).pending = s.pending := rfl

@[simp] theorem State.showCounts_mem (s : State) : (s.showCounts).mem = s.mem := by simp [State.showCounts]
@[simp] theorem State.showCounts_poison (s : State) : (s.showCounts).poison = s.poison := by simp [State.showCounts]
@[simp] theorem State.showCounts_undef (s : State) : (s.showCounts).undef = s.undef := by simp [State.showCounts]
@[simp] theorem State.showCounts_domeLines (s : State) : (s.showCounts).domeLines = s.domeLines := by simp [State.showCounts]
@[simp] theorem State.showCounts_resv (s : State) : (s.showCounts).resv = s.resv := by simp [State.showCounts]
@[simp] theorem State.showCounts_tb (s : State) : (s.showCounts).tb = s.tb := by simp [State.showCounts]
@[simp] theorem State.showCounts_power (s : State) : (s.showCounts).power = s.power := by simp [State.showCounts]
@[simp] theorem State.showCounts_terr (s : State) : (s.showCounts).terr = s.terr := by simp [State.showCounts]
@[simp] theorem State.showCounts_spires (s : State) : (s.showCounts).spires = s.spires := by simp [State.showCounts]
@[simp] theorem State.showCounts_harts (s : State) : (s.showCounts).harts = s.harts := by simp [State.showCounts]
@[simp] theorem State.showCounts_pinned (s : State) : (s.showCounts).pinned = s.pinned := by simp [State.showCounts]
@[simp] theorem State.showCounts_ckpt (s : State) : (s.showCounts).ckpt = s.ckpt := by simp [State.showCounts]
@[simp] theorem State.showCounts_cmd (s : State) : (s.showCounts).cmd = s.cmd := by simp [State.showCounts]
@[simp] theorem State.showCounts_check (s : State) : (s.showCounts).check = s.check := by simp [State.showCounts]
@[simp] theorem State.showCounts_net (s : State) : (s.showCounts).net = s.net := by simp [State.showCounts]
@[simp] theorem State.showCounts_fab (s : State) : (s.showCounts).fab = s.fab := by simp [State.showCounts]
@[simp] theorem State.showCounts_preset (s : State) : (s.showCounts).preset = s.preset := by simp [State.showCounts]
@[simp] theorem State.showCounts_keep (s : State) : (s.showCounts).keep = s.keep := by simp [State.showCounts]
@[simp] theorem State.showCounts_age (s : State) : (s.showCounts).age = s.age := by simp [State.showCounts]
@[simp] theorem State.showCounts_solver (s : State) : (s.showCounts).solver = s.solver := by simp [State.showCounts]
@[simp] theorem State.showCounts_coll (s : State) : (s.showCounts).coll = s.coll := by simp [State.showCounts]
@[simp] theorem State.showCounts_panel (s : State) : (s.showCounts).panel = s.panel := by simp [State.showCounts]
@[simp] theorem State.showCounts_boot (s : State) : (s.showCounts).boot = s.boot := by simp [State.showCounts]
@[simp] theorem State.showCounts_sec (s : State) : (s.showCounts).sec = s.sec := by simp [State.showCounts]
@[simp] theorem State.showCounts_job (s : State) : (s.showCounts).job = s.job := by simp [State.showCounts]
@[simp] theorem State.showCounts_out (s : State) : (s.showCounts).out = s.out := by simp [State.showCounts]
@[simp] theorem State.showCounts_fresh (s : State) : (s.showCounts).fresh = s.fresh := by simp [State.showCounts]
@[simp] theorem State.showCounts_pending (s : State) : (s.showCounts).pending = s.pending := by simp [State.showCounts]

@[simp] theorem State.send_regs (s : State) (k : MsgKind) (d : Nat) (l : List Nat) (bs : Bytes) : (s.send k d l bs).regs = s.regs := rfl
@[simp] theorem State.send_mem (s : State) (k : MsgKind) (d : Nat) (l : List Nat) (bs : Bytes) : (s.send k d l bs).mem = s.mem := rfl
@[simp] theorem State.send_poison (s : State) (k : MsgKind) (d : Nat) (l : List Nat) (bs : Bytes) : (s.send k d l bs).poison = s.poison := rfl
@[simp] theorem State.send_undef (s : State) (k : MsgKind) (d : Nat) (l : List Nat) (bs : Bytes) : (s.send k d l bs).undef = s.undef := rfl
@[simp] theorem State.send_domeLines (s : State) (k : MsgKind) (d : Nat) (l : List Nat) (bs : Bytes) : (s.send k d l bs).domeLines = s.domeLines := rfl
@[simp] theorem State.send_resv (s : State) (k : MsgKind) (d : Nat) (l : List Nat) (bs : Bytes) : (s.send k d l bs).resv = s.resv := rfl
@[simp] theorem State.send_tb (s : State) (k : MsgKind) (d : Nat) (l : List Nat) (bs : Bytes) : (s.send k d l bs).tb = s.tb := rfl
@[simp] theorem State.send_power (s : State) (k : MsgKind) (d : Nat) (l : List Nat) (bs : Bytes) : (s.send k d l bs).power = s.power := rfl
@[simp] theorem State.send_terr (s : State) (k : MsgKind) (d : Nat) (l : List Nat) (bs : Bytes) : (s.send k d l bs).terr = s.terr := rfl
@[simp] theorem State.send_spires (s : State) (k : MsgKind) (d : Nat) (l : List Nat) (bs : Bytes) : (s.send k d l bs).spires = s.spires := rfl
@[simp] theorem State.send_harts (s : State) (k : MsgKind) (d : Nat) (l : List Nat) (bs : Bytes) : (s.send k d l bs).harts = s.harts := rfl
@[simp] theorem State.send_pinned (s : State) (k : MsgKind) (d : Nat) (l : List Nat) (bs : Bytes) : (s.send k d l bs).pinned = s.pinned := rfl
@[simp] theorem State.send_ckpt (s : State) (k : MsgKind) (d : Nat) (l : List Nat) (bs : Bytes) : (s.send k d l bs).ckpt = s.ckpt := rfl
@[simp] theorem State.send_cmd (s : State) (k : MsgKind) (d : Nat) (l : List Nat) (bs : Bytes) : (s.send k d l bs).cmd = s.cmd := rfl
@[simp] theorem State.send_check (s : State) (k : MsgKind) (d : Nat) (l : List Nat) (bs : Bytes) : (s.send k d l bs).check = s.check := rfl
@[simp] theorem State.send_net (s : State) (k : MsgKind) (d : Nat) (l : List Nat) (bs : Bytes) : (s.send k d l bs).net = s.net := rfl
@[simp] theorem State.send_fab (s : State) (k : MsgKind) (d : Nat) (l : List Nat) (bs : Bytes) : (s.send k d l bs).fab = s.fab := rfl
@[simp] theorem State.send_preset (s : State) (k : MsgKind) (d : Nat) (l : List Nat) (bs : Bytes) : (s.send k d l bs).preset = s.preset := rfl
@[simp] theorem State.send_keep (s : State) (k : MsgKind) (d : Nat) (l : List Nat) (bs : Bytes) : (s.send k d l bs).keep = s.keep := rfl
@[simp] theorem State.send_age (s : State) (k : MsgKind) (d : Nat) (l : List Nat) (bs : Bytes) : (s.send k d l bs).age = s.age := rfl
@[simp] theorem State.send_solver (s : State) (k : MsgKind) (d : Nat) (l : List Nat) (bs : Bytes) : (s.send k d l bs).solver = s.solver := rfl
@[simp] theorem State.send_coll (s : State) (k : MsgKind) (d : Nat) (l : List Nat) (bs : Bytes) : (s.send k d l bs).coll = s.coll := rfl
@[simp] theorem State.send_panel (s : State) (k : MsgKind) (d : Nat) (l : List Nat) (bs : Bytes) : (s.send k d l bs).panel = s.panel := rfl
@[simp] theorem State.send_boot (s : State) (k : MsgKind) (d : Nat) (l : List Nat) (bs : Bytes) : (s.send k d l bs).boot = s.boot := rfl
@[simp] theorem State.send_sec (s : State) (k : MsgKind) (d : Nat) (l : List Nat) (bs : Bytes) : (s.send k d l bs).sec = s.sec := rfl
@[simp] theorem State.send_job (s : State) (k : MsgKind) (d : Nat) (l : List Nat) (bs : Bytes) : (s.send k d l bs).job = s.job := rfl
@[simp] theorem State.send_fresh (s : State) (k : MsgKind) (d : Nat) (l : List Nat) (bs : Bytes) : (s.send k d l bs).fresh = s.fresh := rfl
@[simp] theorem State.send_pending (s : State) (k : MsgKind) (d : Nat) (l : List Nat) (bs : Bytes) : (s.send k d l bs).pending = s.pending := rfl

@[simp] theorem State.setTr_regs (s : State) (t : Nat) (x : Terrace) : (s.setTr t x).regs = s.regs := rfl
@[simp] theorem State.setTr_mem (s : State) (t : Nat) (x : Terrace) : (s.setTr t x).mem = s.mem := rfl
@[simp] theorem State.setTr_poison (s : State) (t : Nat) (x : Terrace) : (s.setTr t x).poison = s.poison := rfl
@[simp] theorem State.setTr_undef (s : State) (t : Nat) (x : Terrace) : (s.setTr t x).undef = s.undef := rfl
@[simp] theorem State.setTr_domeLines (s : State) (t : Nat) (x : Terrace) : (s.setTr t x).domeLines = s.domeLines := rfl
@[simp] theorem State.setTr_resv (s : State) (t : Nat) (x : Terrace) : (s.setTr t x).resv = s.resv := rfl
@[simp] theorem State.setTr_tb (s : State) (t : Nat) (x : Terrace) : (s.setTr t x).tb = s.tb := rfl
@[simp] theorem State.setTr_power (s : State) (t : Nat) (x : Terrace) : (s.setTr t x).power = s.power := rfl
@[simp] theorem State.setTr_spires (s : State) (t : Nat) (x : Terrace) : (s.setTr t x).spires = s.spires := rfl
@[simp] theorem State.setTr_harts (s : State) (t : Nat) (x : Terrace) : (s.setTr t x).harts = s.harts := rfl
@[simp] theorem State.setTr_pinned (s : State) (t : Nat) (x : Terrace) : (s.setTr t x).pinned = s.pinned := rfl
@[simp] theorem State.setTr_ckpt (s : State) (t : Nat) (x : Terrace) : (s.setTr t x).ckpt = s.ckpt := rfl
@[simp] theorem State.setTr_cmd (s : State) (t : Nat) (x : Terrace) : (s.setTr t x).cmd = s.cmd := rfl
@[simp] theorem State.setTr_check (s : State) (t : Nat) (x : Terrace) : (s.setTr t x).check = s.check := rfl
@[simp] theorem State.setTr_net (s : State) (t : Nat) (x : Terrace) : (s.setTr t x).net = s.net := rfl
@[simp] theorem State.setTr_fab (s : State) (t : Nat) (x : Terrace) : (s.setTr t x).fab = s.fab := rfl
@[simp] theorem State.setTr_preset (s : State) (t : Nat) (x : Terrace) : (s.setTr t x).preset = s.preset := rfl
@[simp] theorem State.setTr_keep (s : State) (t : Nat) (x : Terrace) : (s.setTr t x).keep = s.keep := rfl
@[simp] theorem State.setTr_age (s : State) (t : Nat) (x : Terrace) : (s.setTr t x).age = s.age := rfl
@[simp] theorem State.setTr_solver (s : State) (t : Nat) (x : Terrace) : (s.setTr t x).solver = s.solver := rfl
@[simp] theorem State.setTr_coll (s : State) (t : Nat) (x : Terrace) : (s.setTr t x).coll = s.coll := rfl
@[simp] theorem State.setTr_panel (s : State) (t : Nat) (x : Terrace) : (s.setTr t x).panel = s.panel := rfl
@[simp] theorem State.setTr_boot (s : State) (t : Nat) (x : Terrace) : (s.setTr t x).boot = s.boot := rfl
@[simp] theorem State.setTr_sec (s : State) (t : Nat) (x : Terrace) : (s.setTr t x).sec = s.sec := rfl
@[simp] theorem State.setTr_job (s : State) (t : Nat) (x : Terrace) : (s.setTr t x).job = s.job := rfl
@[simp] theorem State.setTr_out (s : State) (t : Nat) (x : Terrace) : (s.setTr t x).out = s.out := rfl
@[simp] theorem State.setTr_fresh (s : State) (t : Nat) (x : Terrace) : (s.setTr t x).fresh = s.fresh := rfl
@[simp] theorem State.setTr_pending (s : State) (t : Nat) (x : Terrace) : (s.setTr t x).pending = s.pending := rfl

@[simp] theorem State.setSp_regs (s : State) (n : Nat) (x : Spire) : (s.setSp n x).regs = s.regs := rfl
@[simp] theorem State.setSp_mem (s : State) (n : Nat) (x : Spire) : (s.setSp n x).mem = s.mem := rfl
@[simp] theorem State.setSp_poison (s : State) (n : Nat) (x : Spire) : (s.setSp n x).poison = s.poison := rfl
@[simp] theorem State.setSp_undef (s : State) (n : Nat) (x : Spire) : (s.setSp n x).undef = s.undef := rfl
@[simp] theorem State.setSp_domeLines (s : State) (n : Nat) (x : Spire) : (s.setSp n x).domeLines = s.domeLines := rfl
@[simp] theorem State.setSp_resv (s : State) (n : Nat) (x : Spire) : (s.setSp n x).resv = s.resv := rfl
@[simp] theorem State.setSp_tb (s : State) (n : Nat) (x : Spire) : (s.setSp n x).tb = s.tb := rfl
@[simp] theorem State.setSp_power (s : State) (n : Nat) (x : Spire) : (s.setSp n x).power = s.power := rfl
@[simp] theorem State.setSp_terr (s : State) (n : Nat) (x : Spire) : (s.setSp n x).terr = s.terr := rfl
@[simp] theorem State.setSp_harts (s : State) (n : Nat) (x : Spire) : (s.setSp n x).harts = s.harts := rfl
@[simp] theorem State.setSp_pinned (s : State) (n : Nat) (x : Spire) : (s.setSp n x).pinned = s.pinned := rfl
@[simp] theorem State.setSp_ckpt (s : State) (n : Nat) (x : Spire) : (s.setSp n x).ckpt = s.ckpt := rfl
@[simp] theorem State.setSp_cmd (s : State) (n : Nat) (x : Spire) : (s.setSp n x).cmd = s.cmd := rfl
@[simp] theorem State.setSp_check (s : State) (n : Nat) (x : Spire) : (s.setSp n x).check = s.check := rfl
@[simp] theorem State.setSp_net (s : State) (n : Nat) (x : Spire) : (s.setSp n x).net = s.net := rfl
@[simp] theorem State.setSp_fab (s : State) (n : Nat) (x : Spire) : (s.setSp n x).fab = s.fab := rfl
@[simp] theorem State.setSp_preset (s : State) (n : Nat) (x : Spire) : (s.setSp n x).preset = s.preset := rfl
@[simp] theorem State.setSp_keep (s : State) (n : Nat) (x : Spire) : (s.setSp n x).keep = s.keep := rfl
@[simp] theorem State.setSp_age (s : State) (n : Nat) (x : Spire) : (s.setSp n x).age = s.age := rfl
@[simp] theorem State.setSp_solver (s : State) (n : Nat) (x : Spire) : (s.setSp n x).solver = s.solver := rfl
@[simp] theorem State.setSp_coll (s : State) (n : Nat) (x : Spire) : (s.setSp n x).coll = s.coll := rfl
@[simp] theorem State.setSp_panel (s : State) (n : Nat) (x : Spire) : (s.setSp n x).panel = s.panel := rfl
@[simp] theorem State.setSp_boot (s : State) (n : Nat) (x : Spire) : (s.setSp n x).boot = s.boot := rfl
@[simp] theorem State.setSp_sec (s : State) (n : Nat) (x : Spire) : (s.setSp n x).sec = s.sec := rfl
@[simp] theorem State.setSp_job (s : State) (n : Nat) (x : Spire) : (s.setSp n x).job = s.job := rfl
@[simp] theorem State.setSp_out (s : State) (n : Nat) (x : Spire) : (s.setSp n x).out = s.out := rfl
@[simp] theorem State.setSp_fresh (s : State) (n : Nat) (x : Spire) : (s.setSp n x).fresh = s.fresh := rfl
@[simp] theorem State.setSp_pending (s : State) (n : Nat) (x : Spire) : (s.setSp n x).pending = s.pending := rfl

@[simp] theorem State.setHart_regs (s : State) (h : Nat) (x : Hart) : (s.setHart h x).regs = s.regs := rfl
@[simp] theorem State.setHart_mem (s : State) (h : Nat) (x : Hart) : (s.setHart h x).mem = s.mem := rfl
@[simp] theorem State.setHart_poison (s : State) (h : Nat) (x : Hart) : (s.setHart h x).poison = s.poison := rfl
@[simp] theorem State.setHart_undef (s : State) (h : Nat) (x : Hart) : (s.setHart h x).undef = s.undef := rfl
@[simp] theorem State.setHart_domeLines (s : State) (h : Nat) (x : Hart) : (s.setHart h x).domeLines = s.domeLines := rfl
@[simp] theorem State.setHart_resv (s : State) (h : Nat) (x : Hart) : (s.setHart h x).resv = s.resv := rfl
@[simp] theorem State.setHart_tb (s : State) (h : Nat) (x : Hart) : (s.setHart h x).tb = s.tb := rfl
@[simp] theorem State.setHart_power (s : State) (h : Nat) (x : Hart) : (s.setHart h x).power = s.power := rfl
@[simp] theorem State.setHart_terr (s : State) (h : Nat) (x : Hart) : (s.setHart h x).terr = s.terr := rfl
@[simp] theorem State.setHart_spires (s : State) (h : Nat) (x : Hart) : (s.setHart h x).spires = s.spires := rfl
@[simp] theorem State.setHart_pinned (s : State) (h : Nat) (x : Hart) : (s.setHart h x).pinned = s.pinned := rfl
@[simp] theorem State.setHart_ckpt (s : State) (h : Nat) (x : Hart) : (s.setHart h x).ckpt = s.ckpt := rfl
@[simp] theorem State.setHart_cmd (s : State) (h : Nat) (x : Hart) : (s.setHart h x).cmd = s.cmd := rfl
@[simp] theorem State.setHart_check (s : State) (h : Nat) (x : Hart) : (s.setHart h x).check = s.check := rfl
@[simp] theorem State.setHart_net (s : State) (h : Nat) (x : Hart) : (s.setHart h x).net = s.net := rfl
@[simp] theorem State.setHart_fab (s : State) (h : Nat) (x : Hart) : (s.setHart h x).fab = s.fab := rfl
@[simp] theorem State.setHart_preset (s : State) (h : Nat) (x : Hart) : (s.setHart h x).preset = s.preset := rfl
@[simp] theorem State.setHart_keep (s : State) (h : Nat) (x : Hart) : (s.setHart h x).keep = s.keep := rfl
@[simp] theorem State.setHart_age (s : State) (h : Nat) (x : Hart) : (s.setHart h x).age = s.age := rfl
@[simp] theorem State.setHart_solver (s : State) (h : Nat) (x : Hart) : (s.setHart h x).solver = s.solver := rfl
@[simp] theorem State.setHart_coll (s : State) (h : Nat) (x : Hart) : (s.setHart h x).coll = s.coll := rfl
@[simp] theorem State.setHart_panel (s : State) (h : Nat) (x : Hart) : (s.setHart h x).panel = s.panel := rfl
@[simp] theorem State.setHart_boot (s : State) (h : Nat) (x : Hart) : (s.setHart h x).boot = s.boot := rfl
@[simp] theorem State.setHart_sec (s : State) (h : Nat) (x : Hart) : (s.setHart h x).sec = s.sec := rfl
@[simp] theorem State.setHart_job (s : State) (h : Nat) (x : Hart) : (s.setHart h x).job = s.job := rfl
@[simp] theorem State.setHart_out (s : State) (h : Nat) (x : Hart) : (s.setHart h x).out = s.out := rfl
@[simp] theorem State.setHart_fresh (s : State) (h : Nat) (x : Hart) : (s.setHart h x).fresh = s.fresh := rfl
@[simp] theorem State.setHart_pending (s : State) (h : Nat) (x : Hart) : (s.setHart h x).pending = s.pending := rfl

@[simp] theorem State.setNow_mem (s : State) (t fine : Nat) : (s.setNow t fine).mem = s.mem := rfl
@[simp] theorem State.setNow_poison (s : State) (t fine : Nat) : (s.setNow t fine).poison = s.poison := rfl
@[simp] theorem State.setNow_undef (s : State) (t fine : Nat) : (s.setNow t fine).undef = s.undef := rfl
@[simp] theorem State.setNow_domeLines (s : State) (t fine : Nat) : (s.setNow t fine).domeLines = s.domeLines := rfl
@[simp] theorem State.setNow_resv (s : State) (t fine : Nat) : (s.setNow t fine).resv = s.resv := rfl
@[simp] theorem State.setNow_power (s : State) (t fine : Nat) : (s.setNow t fine).power = s.power := rfl
@[simp] theorem State.setNow_terr (s : State) (t fine : Nat) : (s.setNow t fine).terr = s.terr := rfl
@[simp] theorem State.setNow_spires (s : State) (t fine : Nat) : (s.setNow t fine).spires = s.spires := rfl
@[simp] theorem State.setNow_harts (s : State) (t fine : Nat) : (s.setNow t fine).harts = s.harts := rfl
@[simp] theorem State.setNow_pinned (s : State) (t fine : Nat) : (s.setNow t fine).pinned = s.pinned := rfl
@[simp] theorem State.setNow_ckpt (s : State) (t fine : Nat) : (s.setNow t fine).ckpt = s.ckpt := rfl
@[simp] theorem State.setNow_cmd (s : State) (t fine : Nat) : (s.setNow t fine).cmd = s.cmd := rfl
@[simp] theorem State.setNow_check (s : State) (t fine : Nat) : (s.setNow t fine).check = s.check := rfl
@[simp] theorem State.setNow_net (s : State) (t fine : Nat) : (s.setNow t fine).net = s.net := rfl
@[simp] theorem State.setNow_fab (s : State) (t fine : Nat) : (s.setNow t fine).fab = s.fab := rfl
@[simp] theorem State.setNow_preset (s : State) (t fine : Nat) : (s.setNow t fine).preset = s.preset := rfl
@[simp] theorem State.setNow_keep (s : State) (t fine : Nat) : (s.setNow t fine).keep = s.keep := rfl
@[simp] theorem State.setNow_age (s : State) (t fine : Nat) : (s.setNow t fine).age = s.age := rfl
@[simp] theorem State.setNow_solver (s : State) (t fine : Nat) : (s.setNow t fine).solver = s.solver := rfl
@[simp] theorem State.setNow_coll (s : State) (t fine : Nat) : (s.setNow t fine).coll = s.coll := rfl
@[simp] theorem State.setNow_panel (s : State) (t fine : Nat) : (s.setNow t fine).panel = s.panel := rfl
@[simp] theorem State.setNow_boot (s : State) (t fine : Nat) : (s.setNow t fine).boot = s.boot := rfl
@[simp] theorem State.setNow_sec (s : State) (t fine : Nat) : (s.setNow t fine).sec = s.sec := rfl
@[simp] theorem State.setNow_job (s : State) (t fine : Nat) : (s.setNow t fine).job = s.job := rfl
@[simp] theorem State.setNow_out (s : State) (t fine : Nat) : (s.setNow t fine).out = s.out := rfl
@[simp] theorem State.setNow_fresh (s : State) (t fine : Nat) : (s.setNow t fine).fresh = s.fresh := rfl
@[simp] theorem State.setNow_pending (s : State) (t fine : Nat) : (s.setNow t fine).pending = s.pending := rfl

@[simp] theorem State.rawWrite_regs (s : State) (a : Nat) (bs : Bytes) : (s.rawWrite a bs).regs = s.regs := rfl
@[simp] theorem State.rawWrite_domeLines (s : State) (a : Nat) (bs : Bytes) : (s.rawWrite a bs).domeLines = s.domeLines := rfl
@[simp] theorem State.rawWrite_resv (s : State) (a : Nat) (bs : Bytes) : (s.rawWrite a bs).resv = s.resv := rfl
@[simp] theorem State.rawWrite_tb (s : State) (a : Nat) (bs : Bytes) : (s.rawWrite a bs).tb = s.tb := rfl
@[simp] theorem State.rawWrite_power (s : State) (a : Nat) (bs : Bytes) : (s.rawWrite a bs).power = s.power := rfl
@[simp] theorem State.rawWrite_terr (s : State) (a : Nat) (bs : Bytes) : (s.rawWrite a bs).terr = s.terr := rfl
@[simp] theorem State.rawWrite_spires (s : State) (a : Nat) (bs : Bytes) : (s.rawWrite a bs).spires = s.spires := rfl
@[simp] theorem State.rawWrite_harts (s : State) (a : Nat) (bs : Bytes) : (s.rawWrite a bs).harts = s.harts := rfl
@[simp] theorem State.rawWrite_pinned (s : State) (a : Nat) (bs : Bytes) : (s.rawWrite a bs).pinned = s.pinned := rfl
@[simp] theorem State.rawWrite_ckpt (s : State) (a : Nat) (bs : Bytes) : (s.rawWrite a bs).ckpt = s.ckpt := rfl
@[simp] theorem State.rawWrite_cmd (s : State) (a : Nat) (bs : Bytes) : (s.rawWrite a bs).cmd = s.cmd := rfl
@[simp] theorem State.rawWrite_check (s : State) (a : Nat) (bs : Bytes) : (s.rawWrite a bs).check = s.check := rfl
@[simp] theorem State.rawWrite_net (s : State) (a : Nat) (bs : Bytes) : (s.rawWrite a bs).net = s.net := rfl
@[simp] theorem State.rawWrite_fab (s : State) (a : Nat) (bs : Bytes) : (s.rawWrite a bs).fab = s.fab := rfl
@[simp] theorem State.rawWrite_preset (s : State) (a : Nat) (bs : Bytes) : (s.rawWrite a bs).preset = s.preset := rfl
@[simp] theorem State.rawWrite_keep (s : State) (a : Nat) (bs : Bytes) : (s.rawWrite a bs).keep = s.keep := rfl
@[simp] theorem State.rawWrite_age (s : State) (a : Nat) (bs : Bytes) : (s.rawWrite a bs).age = s.age := rfl
@[simp] theorem State.rawWrite_solver (s : State) (a : Nat) (bs : Bytes) : (s.rawWrite a bs).solver = s.solver := rfl
@[simp] theorem State.rawWrite_coll (s : State) (a : Nat) (bs : Bytes) : (s.rawWrite a bs).coll = s.coll := rfl
@[simp] theorem State.rawWrite_panel (s : State) (a : Nat) (bs : Bytes) : (s.rawWrite a bs).panel = s.panel := rfl
@[simp] theorem State.rawWrite_boot (s : State) (a : Nat) (bs : Bytes) : (s.rawWrite a bs).boot = s.boot := rfl
@[simp] theorem State.rawWrite_sec (s : State) (a : Nat) (bs : Bytes) : (s.rawWrite a bs).sec = s.sec := rfl
@[simp] theorem State.rawWrite_job (s : State) (a : Nat) (bs : Bytes) : (s.rawWrite a bs).job = s.job := rfl
@[simp] theorem State.rawWrite_out (s : State) (a : Nat) (bs : Bytes) : (s.rawWrite a bs).out = s.out := rfl
@[simp] theorem State.rawWrite_fresh (s : State) (a : Nat) (bs : Bytes) : (s.rawWrite a bs).fresh = s.fresh := rfl
@[simp] theorem State.rawWrite_pending (s : State) (a : Nat) (bs : Bytes) : (s.rawWrite a bs).pending = s.pending := rfl

@[simp] theorem State.setPoison_regs (s : State) (ws : List Nat) : (s.setPoison ws).regs = s.regs := rfl
@[simp] theorem State.setPoison_mem (s : State) (ws : List Nat) : (s.setPoison ws).mem = s.mem := rfl
@[simp] theorem State.setPoison_undef (s : State) (ws : List Nat) : (s.setPoison ws).undef = s.undef := rfl
@[simp] theorem State.setPoison_domeLines (s : State) (ws : List Nat) : (s.setPoison ws).domeLines = s.domeLines := rfl
@[simp] theorem State.setPoison_resv (s : State) (ws : List Nat) : (s.setPoison ws).resv = s.resv := rfl
@[simp] theorem State.setPoison_tb (s : State) (ws : List Nat) : (s.setPoison ws).tb = s.tb := rfl
@[simp] theorem State.setPoison_power (s : State) (ws : List Nat) : (s.setPoison ws).power = s.power := rfl
@[simp] theorem State.setPoison_terr (s : State) (ws : List Nat) : (s.setPoison ws).terr = s.terr := rfl
@[simp] theorem State.setPoison_spires (s : State) (ws : List Nat) : (s.setPoison ws).spires = s.spires := rfl
@[simp] theorem State.setPoison_harts (s : State) (ws : List Nat) : (s.setPoison ws).harts = s.harts := rfl
@[simp] theorem State.setPoison_pinned (s : State) (ws : List Nat) : (s.setPoison ws).pinned = s.pinned := rfl
@[simp] theorem State.setPoison_ckpt (s : State) (ws : List Nat) : (s.setPoison ws).ckpt = s.ckpt := rfl
@[simp] theorem State.setPoison_cmd (s : State) (ws : List Nat) : (s.setPoison ws).cmd = s.cmd := rfl
@[simp] theorem State.setPoison_check (s : State) (ws : List Nat) : (s.setPoison ws).check = s.check := rfl
@[simp] theorem State.setPoison_net (s : State) (ws : List Nat) : (s.setPoison ws).net = s.net := rfl
@[simp] theorem State.setPoison_fab (s : State) (ws : List Nat) : (s.setPoison ws).fab = s.fab := rfl
@[simp] theorem State.setPoison_preset (s : State) (ws : List Nat) : (s.setPoison ws).preset = s.preset := rfl
@[simp] theorem State.setPoison_keep (s : State) (ws : List Nat) : (s.setPoison ws).keep = s.keep := rfl
@[simp] theorem State.setPoison_age (s : State) (ws : List Nat) : (s.setPoison ws).age = s.age := rfl
@[simp] theorem State.setPoison_solver (s : State) (ws : List Nat) : (s.setPoison ws).solver = s.solver := rfl
@[simp] theorem State.setPoison_coll (s : State) (ws : List Nat) : (s.setPoison ws).coll = s.coll := rfl
@[simp] theorem State.setPoison_panel (s : State) (ws : List Nat) : (s.setPoison ws).panel = s.panel := rfl
@[simp] theorem State.setPoison_boot (s : State) (ws : List Nat) : (s.setPoison ws).boot = s.boot := rfl
@[simp] theorem State.setPoison_sec (s : State) (ws : List Nat) : (s.setPoison ws).sec = s.sec := rfl
@[simp] theorem State.setPoison_job (s : State) (ws : List Nat) : (s.setPoison ws).job = s.job := rfl
@[simp] theorem State.setPoison_out (s : State) (ws : List Nat) : (s.setPoison ws).out = s.out := rfl
@[simp] theorem State.setPoison_fresh (s : State) (ws : List Nat) : (s.setPoison ws).fresh = s.fresh := rfl
@[simp] theorem State.setPoison_pending (s : State) (ws : List Nat) : (s.setPoison ws).pending = s.pending := rfl

@[simp] theorem State.setSlot_regs (s : State) (k : Nat) (r : Bytes) : (s.setSlot k r).regs = s.regs := rfl
@[simp] theorem State.setSlot_mem (s : State) (k : Nat) (r : Bytes) : (s.setSlot k r).mem = s.mem := rfl
@[simp] theorem State.setSlot_poison (s : State) (k : Nat) (r : Bytes) : (s.setSlot k r).poison = s.poison := rfl
@[simp] theorem State.setSlot_undef (s : State) (k : Nat) (r : Bytes) : (s.setSlot k r).undef = s.undef := rfl
@[simp] theorem State.setSlot_domeLines (s : State) (k : Nat) (r : Bytes) : (s.setSlot k r).domeLines = s.domeLines := rfl
@[simp] theorem State.setSlot_resv (s : State) (k : Nat) (r : Bytes) : (s.setSlot k r).resv = s.resv := rfl
@[simp] theorem State.setSlot_tb (s : State) (k : Nat) (r : Bytes) : (s.setSlot k r).tb = s.tb := rfl
@[simp] theorem State.setSlot_power (s : State) (k : Nat) (r : Bytes) : (s.setSlot k r).power = s.power := rfl
@[simp] theorem State.setSlot_terr (s : State) (k : Nat) (r : Bytes) : (s.setSlot k r).terr = s.terr := rfl
@[simp] theorem State.setSlot_spires (s : State) (k : Nat) (r : Bytes) : (s.setSlot k r).spires = s.spires := rfl
@[simp] theorem State.setSlot_harts (s : State) (k : Nat) (r : Bytes) : (s.setSlot k r).harts = s.harts := rfl
@[simp] theorem State.setSlot_pinned (s : State) (k : Nat) (r : Bytes) : (s.setSlot k r).pinned = s.pinned := rfl
@[simp] theorem State.setSlot_ckpt (s : State) (k : Nat) (r : Bytes) : (s.setSlot k r).ckpt = s.ckpt := rfl
@[simp] theorem State.setSlot_check (s : State) (k : Nat) (r : Bytes) : (s.setSlot k r).check = s.check := rfl
@[simp] theorem State.setSlot_net (s : State) (k : Nat) (r : Bytes) : (s.setSlot k r).net = s.net := rfl
@[simp] theorem State.setSlot_fab (s : State) (k : Nat) (r : Bytes) : (s.setSlot k r).fab = s.fab := rfl
@[simp] theorem State.setSlot_preset (s : State) (k : Nat) (r : Bytes) : (s.setSlot k r).preset = s.preset := rfl
@[simp] theorem State.setSlot_keep (s : State) (k : Nat) (r : Bytes) : (s.setSlot k r).keep = s.keep := rfl
@[simp] theorem State.setSlot_age (s : State) (k : Nat) (r : Bytes) : (s.setSlot k r).age = s.age := rfl
@[simp] theorem State.setSlot_solver (s : State) (k : Nat) (r : Bytes) : (s.setSlot k r).solver = s.solver := rfl
@[simp] theorem State.setSlot_coll (s : State) (k : Nat) (r : Bytes) : (s.setSlot k r).coll = s.coll := rfl
@[simp] theorem State.setSlot_panel (s : State) (k : Nat) (r : Bytes) : (s.setSlot k r).panel = s.panel := rfl
@[simp] theorem State.setSlot_boot (s : State) (k : Nat) (r : Bytes) : (s.setSlot k r).boot = s.boot := rfl
@[simp] theorem State.setSlot_sec (s : State) (k : Nat) (r : Bytes) : (s.setSlot k r).sec = s.sec := rfl
@[simp] theorem State.setSlot_job (s : State) (k : Nat) (r : Bytes) : (s.setSlot k r).job = s.job := rfl
@[simp] theorem State.setSlot_out (s : State) (k : Nat) (r : Bytes) : (s.setSlot k r).out = s.out := rfl
@[simp] theorem State.setSlot_fresh (s : State) (k : Nat) (r : Bytes) : (s.setSlot k r).fresh = s.fresh := rfl
@[simp] theorem State.setSlot_pending (s : State) (k : Nat) (r : Bytes) : (s.setSlot k r).pending = s.pending := rfl

@[simp] theorem State.setWaiting_regs (s : State) (c : Nat) (l : List (Bytes × Bool)) : (s.setWaiting c l).regs = s.regs := rfl
@[simp] theorem State.setWaiting_mem (s : State) (c : Nat) (l : List (Bytes × Bool)) : (s.setWaiting c l).mem = s.mem := rfl
@[simp] theorem State.setWaiting_poison (s : State) (c : Nat) (l : List (Bytes × Bool)) : (s.setWaiting c l).poison = s.poison := rfl
@[simp] theorem State.setWaiting_undef (s : State) (c : Nat) (l : List (Bytes × Bool)) : (s.setWaiting c l).undef = s.undef := rfl
@[simp] theorem State.setWaiting_domeLines (s : State) (c : Nat) (l : List (Bytes × Bool)) : (s.setWaiting c l).domeLines = s.domeLines := rfl
@[simp] theorem State.setWaiting_resv (s : State) (c : Nat) (l : List (Bytes × Bool)) : (s.setWaiting c l).resv = s.resv := rfl
@[simp] theorem State.setWaiting_tb (s : State) (c : Nat) (l : List (Bytes × Bool)) : (s.setWaiting c l).tb = s.tb := rfl
@[simp] theorem State.setWaiting_power (s : State) (c : Nat) (l : List (Bytes × Bool)) : (s.setWaiting c l).power = s.power := rfl
@[simp] theorem State.setWaiting_terr (s : State) (c : Nat) (l : List (Bytes × Bool)) : (s.setWaiting c l).terr = s.terr := rfl
@[simp] theorem State.setWaiting_spires (s : State) (c : Nat) (l : List (Bytes × Bool)) : (s.setWaiting c l).spires = s.spires := rfl
@[simp] theorem State.setWaiting_harts (s : State) (c : Nat) (l : List (Bytes × Bool)) : (s.setWaiting c l).harts = s.harts := rfl
@[simp] theorem State.setWaiting_pinned (s : State) (c : Nat) (l : List (Bytes × Bool)) : (s.setWaiting c l).pinned = s.pinned := rfl
@[simp] theorem State.setWaiting_ckpt (s : State) (c : Nat) (l : List (Bytes × Bool)) : (s.setWaiting c l).ckpt = s.ckpt := rfl
@[simp] theorem State.setWaiting_check (s : State) (c : Nat) (l : List (Bytes × Bool)) : (s.setWaiting c l).check = s.check := rfl
@[simp] theorem State.setWaiting_net (s : State) (c : Nat) (l : List (Bytes × Bool)) : (s.setWaiting c l).net = s.net := rfl
@[simp] theorem State.setWaiting_fab (s : State) (c : Nat) (l : List (Bytes × Bool)) : (s.setWaiting c l).fab = s.fab := rfl
@[simp] theorem State.setWaiting_preset (s : State) (c : Nat) (l : List (Bytes × Bool)) : (s.setWaiting c l).preset = s.preset := rfl
@[simp] theorem State.setWaiting_keep (s : State) (c : Nat) (l : List (Bytes × Bool)) : (s.setWaiting c l).keep = s.keep := rfl
@[simp] theorem State.setWaiting_age (s : State) (c : Nat) (l : List (Bytes × Bool)) : (s.setWaiting c l).age = s.age := rfl
@[simp] theorem State.setWaiting_solver (s : State) (c : Nat) (l : List (Bytes × Bool)) : (s.setWaiting c l).solver = s.solver := rfl
@[simp] theorem State.setWaiting_coll (s : State) (c : Nat) (l : List (Bytes × Bool)) : (s.setWaiting c l).coll = s.coll := rfl
@[simp] theorem State.setWaiting_panel (s : State) (c : Nat) (l : List (Bytes × Bool)) : (s.setWaiting c l).panel = s.panel := rfl
@[simp] theorem State.setWaiting_boot (s : State) (c : Nat) (l : List (Bytes × Bool)) : (s.setWaiting c l).boot = s.boot := rfl
@[simp] theorem State.setWaiting_sec (s : State) (c : Nat) (l : List (Bytes × Bool)) : (s.setWaiting c l).sec = s.sec := rfl
@[simp] theorem State.setWaiting_job (s : State) (c : Nat) (l : List (Bytes × Bool)) : (s.setWaiting c l).job = s.job := rfl
@[simp] theorem State.setWaiting_out (s : State) (c : Nat) (l : List (Bytes × Bool)) : (s.setWaiting c l).out = s.out := rfl
@[simp] theorem State.setWaiting_fresh (s : State) (c : Nat) (l : List (Bytes × Bool)) : (s.setWaiting c l).fresh = s.fresh := rfl
@[simp] theorem State.setWaiting_pending (s : State) (c : Nat) (l : List (Bytes × Bool)) : (s.setWaiting c l).pending = s.pending := rfl

@[simp] theorem State.tr_setTr_same (s : State) (t : Nat) (x : Terrace) : (s.setTr t x).tr t = x := mget_mput_same _ _ _ _
@[simp] theorem State.sp_setSp_same (s : State) (n : Nat) (x : Spire) : (s.setSp n x).sp n = x := mget_mput_same _ _ _ _
@[simp] theorem State.hart_setHart_same (s : State) (h : Nat) (x : Hart) : (s.setHart h x).hart h = x := mget_mput_same _ _ _ _
theorem State.tr_setTr_ne (s : State) {t u : Nat} (x : Terrace) (h : u ≠ t) : (s.setTr t x).tr u = s.tr u := mget_mput_ne _ _ _ h
theorem State.sp_setSp_ne (s : State) {n m : Nat} (x : Spire) (h : m ≠ n) : (s.setSp n x).sp m = s.sp m := mget_mput_ne _ _ _ h
theorem State.hart_setHart_ne (s : State) {h k : Nat} (x : Hart) (e : k ≠ h) : (s.setHart h x).hart k = s.hart k := mget_mput_ne _ _ _ e

end Sys2Proof.Machine
end

