-- ==== Sys2Proof/Laws/Ops.lean ====
section
/-! SUPPORT. What each shared operation can do, said once: the end of a command, the gate, replies, completions, step time. -/

namespace Sys2Proof.Machine

open Sys2Proof

/-! ## The end of a command -/

/-- The registers that show a count. -/
def countRegs : List Nat := [R.NODE_CMD_COUNTS, R.PANEL_TSB, R.SEC_STATUS, R.FAB_WEIR_STATUS]

theorem ok_eq (s : State) : ok s = .next { s.showCounts with fresh := s.fresh + 1 } := rfl

theorem ok_inj {s t : State} (h : ok s = .next t) : t = { s.showCounts with fresh := s.fresh + 1 } := by
  simpa [ok] using h.symm

theorem showCounts_eq (s : State) : s.showCounts =
    ((((s.wr F.NODE_CMD_COUNTS_OUTSTANDING s.cmd.longs.length).wr F.PANEL_TSB_QUEUED s.cmd.tray.length).wr
      F.SEC_STATUS_SESSIONS s.cmd.sessions.length).wr F.FAB_WEIR_STATUS_READ_BLOCKS (s.fab.blocks.length - s.putBlocks)).wr
      F.FAB_WEIR_STATUS_PUT_BLOCKS s.putBlocks := rfl

theorem countsShown_showCounts (s : State) : s.showCounts.countsShown := by
  have hp : s.showCounts.putBlocks = s.putBlocks := by rw [State.putBlocks, State.showCounts_fab, State.putBlocks]
  simp only [State.countsShown, hp, State.showCounts_cmd, State.showCounts_fab]
  rw [showCounts_eq]
  and_intros <;> (repeat rw [State.rd_wr_apart _ _ (by decide) (by decide)]) <;> rw [State.rd_wr_same _ _ _ (by decide)] <;> rfl

/-- The counter behind the free values is no part of what the registers show. -/
theorem countsShown_fresh (s : State) (n : Nat) (h : s.countsShown) : ({ s with fresh := n } : State).countsShown := h

/-- After a command the count registers show what is held. -/
theorem ok_countsShown {s t : State} (h : ok s = .next t) : t.countsShown := by
  rw [ok_inj h]; exact countsShown_fresh _ _ (countsShown_showCounts s)

theorem rdReg_showCounts (s : State) {a : Nat} (h : a ∉ countRegs) : s.showCounts.rdReg a = s.rdReg a := by
  simp only [countRegs, List.mem_cons, List.not_mem_nil, or_false, not_or] at h
  rw [showCounts_eq, State.rdReg_wr_ne (f := F.FAB_WEIR_STATUS_PUT_BLOCKS) _ _ h.2.2.2,
    State.rdReg_wr_ne (f := F.FAB_WEIR_STATUS_READ_BLOCKS) _ _ h.2.2.2, State.rdReg_wr_ne (f := F.SEC_STATUS_SESSIONS) _ _ h.2.2.1,
    State.rdReg_wr_ne (f := F.PANEL_TSB_QUEUED) _ _ h.2.1, State.rdReg_wr_ne (f := F.NODE_CMD_COUNTS_OUTSTANDING) _ _ h.1]

/-- The end of a command leaves every field of every other register. -/
theorem rd_showCounts (s : State) {f : Field} (h : f.addr ∉ countRegs) : s.showCounts.rd f = s.rd f := by
  simp only [State.rd, rdReg_showCounts s h]

@[simp] theorem State.rd_fresh (s : State) (n : Nat) (f : Field) : ({ s with fresh := n } : State).rd f = s.rd f := rfl
@[simp] theorem State.rdReg_fresh (s : State) (n a : Nat) : ({ s with fresh := n } : State).rdReg a = s.rdReg a := rfl

theorem rd_of_ok {s t : State} (h : ok s = .next t) {f : Field} (hf : f.addr ∉ countRegs) : t.rd f = s.rd f := by
  rw [ok_inj h, State.rd_fresh, rd_showCounts s hf]

/-- The end of a command changes no state beside the count registers and the counter of the free values. -/
theorem rest_of_ok {s t : State} (h : ok s = .next t) : t = { s with regs := t.regs, fresh := t.fresh } := by
  rw [ok_inj h]
  simp [showCounts_eq, State.wr, State.wrReg]

/-- In a state that shows its counts, with the register map in canonical form, the end of a command changes no register. -/
theorem showCounts_self (s : State) (hw : Registers.wf s.regs = true) (h : s.countsShown) : s.showCounts = s := by
  obtain ⟨h1, h2, h3, h4, h5⟩ := h
  rw [showCounts_eq, State.wr_self s F.NODE_CMD_COUNTS_OUTSTANDING _ hw h1.symm, State.wr_self s F.PANEL_TSB_QUEUED _ hw h2.symm,
    State.wr_self s F.SEC_STATUS_SESSIONS _ hw h3.symm, State.wr_self s F.FAB_WEIR_STATUS_READ_BLOCKS _ hw h4.symm,
    State.wr_self s F.FAB_WEIR_STATUS_PUT_BLOCKS _ hw h5.symm]

/-- What every application of a change keeps, a repeated change keeps. -/
theorem forEach_keeps (P : State → Prop) (f : Nat → State → State) (hf : ∀ i s, P s → P (f i s)) :
    ∀ (l : List Nat) (s : State), P s → P (forEach l s f)
  | [], _, h => h
  | i :: l, s, h => forEach_keeps P f hf l (f i s) (hf i s h)

/-! ## The gate -/

/-- A row of the gate: with nothing at the front, or another opcode, it does nothing; a submission with a nonzero reserved
parameter byte is malformed; otherwise the row runs it. -/
theorem withSub_nil (s : State) (op : Nat) (sel : Sub → Bool) (f : Sub → State → State) (h : s.cmd.gate = []) :
    s.withSub op sel f = ok s := by simp [State.withSub, h]

theorem withSub_other (s : State) (op : Nat) (sel : Sub → Bool) (f : Sub → State → State) {q : Sub} {r : List Sub}
    (h : s.cmd.gate = q :: r) (hq : (q.opcode == op && sel q) = false) : s.withSub op sel f = ok s := by
  simp [State.withSub, h, hq]

theorem withSub_run (s : State) (op : Nat) (sel : Sub → Bool) (f : Sub → State → State) {q : Sub} {r : List Sub}
    (h : s.cmd.gate = q :: r) (hq : (q.opcode == op && sel q) = true) (hp : reservedParams op q.params = false) :
    s.withSub op sel f = ok (f q { s with cmd := { s.cmd with gate := r } }) := by
  simp [State.withSub, h, hq, hp]

theorem withSub_bad (s : State) (op : Nat) (sel : Sub → Bool) (f : Sub → State → State) {q : Sub} {r : List Sub}
    (h : s.cmd.gate = q :: r) (hq : (q.opcode == op && sel q) = true) (hp : reservedParams op q.params = true) :
    s.withSub op sel f = ok (if Op.longs.contains op then ({ s with cmd := { s.cmd with gate := r } } : State).refuse q St.badParam
      else ({ s with cmd := { s.cmd with gate := r } } : State).short q St.badParam []) := by
  simp [State.withSub, h, hq, hp]

/-- A row of the gate always answers a next state. -/
theorem withSub_ok (s : State) (op : Nat) (sel : Sub → Bool) (f : Sub → State → State) : ∃ t, s.withSub op sel f = ok t := by
  simp only [State.withSub]
  split
  · split
    · split <;> exact ⟨_, rfl⟩
    · exact ⟨_, rfl⟩
  · exact ⟨_, rfl⟩

/-! ## Replies and completions -/

/-- t differs from s at most in what the router keeps and has sent, and in the registers of misses and fabric events: what
sending a packet can change (R285, R287, R289). -/
def RouterFrame (s t : State) : Prop :=
  t = { s with regs := t.regs, net := t.net, out := t.out } ∧
  ∀ a, a ≠ R.FAB_ROUTE_MISSES → a ≠ R.FAB_EVENTS → t.rdReg a = s.rdReg a

theorem RouterFrame.refl (s : State) : RouterFrame s s := ⟨rfl, fun _ _ _ => rfl⟩
theorem RouterFrame.trans {s t u : State} (h1 : RouterFrame s t) (h2 : RouterFrame t u) : RouterFrame s u := by
  refine ⟨?_, fun a ha hb => (h2.2 a ha hb).trans (h1.2 a ha hb)⟩
  have e2 := h2.1
  rw [h1.1] at e2
  exact e2
theorem RouterFrame.net (s : State) (n : Net) : RouterFrame s { s with net := n } := ⟨rfl, fun _ _ _ => rfl⟩
theorem RouterFrame.send (s : State) (k : MsgKind) (d : Nat) (l : List Nat) (b : Bytes) : RouterFrame s (s.send k d l b) :=
  ⟨rfl, fun _ _ _ => rfl⟩
theorem RouterFrame.counted (s : State) (f g : Field) (hf : f.addr = R.FAB_ROUTE_MISSES) (hg : g.addr = R.FAB_EVENTS) :
    RouterFrame s ((s.inc f).ev g) :=
  ⟨rfl, fun a ha hb => by rw [State.ev, State.rdReg_wr_ne _ _ (hg ▸ hb), State.inc, State.rdReg_wr_ne _ _ (hf ▸ ha)]⟩

theorem routerFrame_takePort (s : State) (k p : Nat) : RouterFrame s (s.takePort k p) := by
  simp only [State.takePort]
  split
  · split
    · exact (RouterFrame.net s _).trans (.counted _ _ _ rfl rfl)
    · exact .net s _
  · exact .net s _

theorem routerFrame_routeTo (s : State) (tag ver dest : Nat) : RouterFrame s (s.routeTo tag ver dest).1 := by
  simp only [State.routeTo]
  split
  · exact routerFrame_takePort _ _ _
  · exact .refl s

/-- Sending a packet changes no more than the router's own state. -/
theorem routerFrame_sendPacket (s : State) (k : MsgKind) (tag ver dest : Nat) (l : List Nat) (b : Bytes) :
    RouterFrame s (s.sendPacket k tag ver dest l b) := by
  simp only [State.sendPacket]
  have h := routerFrame_routeTo s tag ver dest
  split
  · exact .send _ _ _ _ _
  · generalize s.routeTo tag ver dest = r at h
    obtain ⟨t, r⟩ := r
    cases r
    case port p => exact (h.trans (.net t _)).trans (.send _ _ _ _ _)
    all_goals exact h.trans (.counted _ _ _ rfl rfl)

theorem routerFrame_sendLive (s : State) (k : MsgKind) (dest : Nat) (l : List Nat) (b : Bytes) :
    RouterFrame s (s.sendLive k dest l b) := routerFrame_sendPacket _ _ _ _ _ _ _

/-- A reply changes only what the Gatehouse keeps of commands, and on the fabric channel what sending its packet can. -/
theorem replyTo_frame (s : State) (c : Chan) (slot op tag st h : Nat) (d : Bytes) :
    ∃ cmd, RouterFrame { s with cmd := cmd } (s.replyTo c slot op tag st h d) := by
  cases c
  · exact ⟨_, .refl _⟩
  · simp only [State.replyTo, State.mgmtSend]
    split
    · exact ⟨_, .refl _⟩
    · exact ⟨_, .send _ _ _ _ _⟩
  · exact ⟨_, .refl _⟩
  · exact ⟨s.cmd, routerFrame_sendLive _ _ _ _ _⟩

theorem reply_frame (s : State) (q : Sub) (st : Nat) (d : Bytes) :
    ∃ cmd, RouterFrame { s with cmd := cmd } (s.reply q st d) := by
  simp only [State.reply]
  split
  · exact ⟨s.cmd, .refl _⟩
  · exact replyTo_frame _ _ _ _ _ _ _ _

theorem State.reply_rdReg (s : State) (q : Sub) (st : Nat) (d : Bytes) {a : Nat} (ha : a ≠ R.FAB_ROUTE_MISSES)
    (hb : a ≠ R.FAB_EVENTS) : (s.reply q st d).rdReg a = s.rdReg a := by
  obtain ⟨c, -, h⟩ := reply_frame s q st d; exact h a ha hb
@[simp] theorem State.reply_mem (s : State) (q : Sub) (st : Nat) (d : Bytes) : (s.reply q st d).mem = s.mem := by
  obtain ⟨c, h, -⟩ := reply_frame s q st d; rw [h]
@[simp] theorem State.reply_pending (s : State) (q : Sub) (st : Nat) (d : Bytes) : (s.reply q st d).pending = s.pending := by
  obtain ⟨c, h, -⟩ := reply_frame s q st d; rw [h]

/-- A refusal counts in NODE_CMD_COUNTS.REFUSED and replies; nothing else changes. -/
@[simp] theorem State.refuse_mem (s : State) (q : Sub) (st : Nat) : (s.refuse q st).mem = s.mem := by
  simp only [State.refuse, State.reply_mem, State.inc_mem]
@[simp] theorem State.short_mem (s : State) (q : Sub) (st : Nat) (d : Bytes) : (s.short q st d).mem = s.mem := by
  simp only [State.short, State.reply_mem, State.inc_mem]
theorem State.rd_refuse (s : State) (q : Sub) (st : Nat) {f : Field} (h : f.addr ≠ R.NODE_CMD_COUNTS)
    (ha : f.addr ≠ R.FAB_ROUTE_MISSES) (hb : f.addr ≠ R.FAB_EVENTS) : (s.refuse q st).rd f = s.rd f := by
  simp only [State.refuse, State.rd, State.reply_rdReg _ _ _ _ ha hb, State.inc]
  exact congrArg (fun v => bits v f.lo f.width) (State.rdReg_wr_ne s _ h)
theorem State.rd_short (s : State) (q : Sub) (st : Nat) (d : Bytes) {f : Field} (h : f.addr ≠ R.NODE_CMD_COUNTS)
    (ha : f.addr ≠ R.FAB_ROUTE_MISSES) (hb : f.addr ≠ R.FAB_EVENTS) : (s.short q st d).rd f = s.rd f := by
  simp only [State.short, State.rd, State.reply_rdReg _ _ _ _ ha hb, State.inc]
  exact congrArg (fun v => bits v f.lo f.width) (State.rdReg_wr_ne s _ h)

/-- A completion of a handle that no long command holds changes nothing. -/
theorem completeKeep_none (s : State) (h st d : Nat) (r : Bytes) (hn : s.cmd.longs.find? (fun l => l.handle == h) = none) :
    s.completeKeep h st d r = s := by simp [State.completeKeep, hn]

/-- A completion retires the long command and delivers one record on its channel (R359). -/
theorem completeKeep_some (s : State) (h st d : Nat) (r : Bytes) {l : LongCmd}
    (hl : s.cmd.longs.find? (fun l => l.handle == h) = some l) (hs : l.silent = false) :
    s.completeKeep h st d r =
      ({ s with cmd := { s.cmd with longs := s.cmd.longs.filter (fun l => l.handle != h) } } : State).deliver l
        (s.mkRecord 0 l.opcode st (h % 2 ^ 32) l.tag d r) := by
  simp [State.completeKeep, hl, hs]
  rfl

/-! ## Step time -/

/-- Step time reaches a time it has passed, or one inside the running step while it advances; nothing else. -/
theorem reach_cases (s : State) (t : Nat) :
    (t ≤ s.now ∧ s.reach t = some s) ∨
    (s.now < t ∧ s.ticking = true ∧ t / 2 ^ 24 = s.step ∧ s.reach t = some (s.setNow t 0)) ∨
    (s.now < t ∧ (s.ticking = false ∨ t / 2 ^ 24 ≠ s.step) ∧ s.reach t = none) := by
  simp only [State.reach]
  split
  · exact Or.inl ⟨‹_›, rfl⟩
  · rename_i h
    split
    · rename_i h2
      simp only [Bool.and_eq_true, beq_iff_eq] at h2
      exact Or.inr (Or.inl ⟨by omega, h2.1, h2.2, rfl⟩)
    · rename_i h2
      simp only [Bool.and_eq_true, beq_iff_eq, not_and_or, Bool.not_eq_true] at h2
      exact Or.inr (Or.inr ⟨by omega, h2, rfl⟩)

@[simp] theorem State.now_setNow (s : State) (t fine : Nat) : (s.setNow t fine).now = t % 2 ^ 64 := State.rdReg_wrReg_same _ _ _

end Sys2Proof.Machine
end

