-- ==== Sys2Proof/Laws/RegMap.lean ====
section
/-! SUPPORT. The register map on its own: every read and store of a register said of the list `regs`, so that a read after
several updates of the state does not depend on how the other fields of State are written. -/

namespace Sys2Proof.Machine

open Sys2Proof

/-- A register of a map, and a field of it. -/
@[irreducible] def regGet (m : List (Nat × Word)) (a : Nat) : Nat := (mget m a 0).toNat
@[irreducible] def fieldGet (m : List (Nat × Word)) (f : Field) : Nat := bits (regGet m f.addr) f.lo f.width

/-- A register map with a register stored, and with a field stored. -/
@[irreducible] def regSet (m : List (Nat × Word)) (a v : Nat) : List (Nat × Word) :=
  if BitVec.ofNat 64 v = 0#64 then mdel m a else mput m a (BitVec.ofNat 64 v)
@[irreducible] def fieldSet (m : List (Nat × Word)) (f : Field) (v : Nat) : List (Nat × Word) :=
  regSet m f.addr (setBits (regGet m f.addr) f.lo f.width v)

/-- A register map after a command ends. -/
@[irreducible] def countSet (s : State) (m : List (Nat × Word)) : List (Nat × Word) :=
  fieldSet (fieldSet (fieldSet (fieldSet (fieldSet m F.NODE_CMD_COUNTS_OUTSTANDING s.cmd.longs.length)
    F.PANEL_TSB_QUEUED s.cmd.tray.length) F.SEC_STATUS_SESSIONS s.cmd.sessions.length)
    F.FAB_WEIR_STATUS_READ_BLOCKS (s.fab.blocks.length - s.putBlocks)) F.FAB_WEIR_STATUS_PUT_BLOCKS s.putBlocks

theorem State.rdReg_map (s : State) (a : Nat) : s.rdReg a = regGet s.regs a := by
  unfold regGet; rfl
theorem State.rd_map (s : State) (f : Field) : s.rd f = fieldGet s.regs f := by
  unfold fieldGet regGet; rfl
theorem State.wrReg_map (s : State) (a v : Nat) : s.wrReg a v = { s with regs := regSet s.regs a v } := by
  unfold regSet; rfl
theorem State.wr_map (s : State) (f : Field) (v : Nat) : s.wr f v = { s with regs := fieldSet s.regs f v } := by
  unfold fieldSet regSet regGet; rfl
theorem State.ev_map (s : State) (f : Field) : s.ev f = { s with regs := fieldSet s.regs f 1 } := by
  unfold fieldSet regSet regGet; rfl
theorem State.inc_map (s : State) (f : Field) (n : Nat) :
    s.inc f n = { s with regs := fieldSet s.regs f (satAdd f.width (fieldGet s.regs f) n) } := by
  unfold fieldSet regSet fieldGet regGet; rfl
theorem State.incw_map (s : State) (f : Field) (n : Nat) :
    s.incw f n = { s with regs := fieldSet s.regs f (fieldGet s.regs f + n) } := by
  unfold fieldSet regSet fieldGet regGet; rfl
theorem State.wrBit_map (s : State) (f : Field) (i : Nat) (b : Bool) :
    s.wrBit f i b = { s with regs := fieldSet s.regs f (setBit (fieldGet s.regs f) i b) } := by
  unfold fieldSet regSet fieldGet regGet; rfl
theorem State.flag_map (s : State) (f : Field) : s.flag f = (fieldGet s.regs f != 0) := by
  unfold fieldGet regGet; rfl

/-- A command that ends with `ok` answers this state. -/
theorem ok_map (s : State) : ok s = .next { s with regs := countSet s s.regs, fresh := s.fresh + 1 } := by
  rw [ok_eq, showCounts_eq]
  simp only [State.wr_map, countSet]

theorem fieldGet_lt (m : List (Nat × Word)) (f : Field) : fieldGet m f < 2 ^ f.width := by
  unfold fieldGet; exact bits_lt _ _ _

theorem regGet_regSet_same (m : List (Nat × Word)) (a v : Nat) : regGet (regSet m a v) a = v % 2 ^ 64 := by
  simpa only [State.rdReg_map, State.rd_map, State.wrReg_map, State.wr_map] using
    State.rdReg_wrReg_same { State.reset with regs := m } a v
theorem regGet_regSet_ne (m : List (Nat × Word)) {a b : Nat} (v : Nat) (h : b ≠ a) : regGet (regSet m a v) b = regGet m b := by
  simpa only [State.rdReg_map, State.rd_map, State.wrReg_map, State.wr_map] using
    State.rdReg_wrReg_ne { State.reset with regs := m } v h
theorem fieldGet_regSet_same (m : List (Nat × Word)) {f : Field} (v : Nat) (h : f.fits = true) :
    fieldGet (regSet m f.addr v) f = bits v f.lo f.width := by
  simpa only [State.rdReg_map, State.rd_map, State.wrReg_map, State.wr_map] using
    State.rd_wrReg_same { State.reset with regs := m } v h
theorem fieldGet_regSet_ne (m : List (Nat × Word)) {f : Field} {a : Nat} (v : Nat) (h : f.addr ≠ a) :
    fieldGet (regSet m a v) f = fieldGet m f := by
  simpa only [State.rdReg_map, State.rd_map, State.wrReg_map, State.wr_map] using
    State.rd_wrReg_ne { State.reset with regs := m } v h
theorem regGet_fieldSet_ne (m : List (Nat × Word)) {f : Field} {a : Nat} (v : Nat) (h : a ≠ f.addr) :
    regGet (fieldSet m f v) a = regGet m a := by
  unfold fieldSet; exact regGet_regSet_ne m _ h
theorem fieldGet_fieldSet_same (m : List (Nat × Word)) (f : Field) (v : Nat) (h : f.fits = true) :
    fieldGet (fieldSet m f v) f = v % 2 ^ f.width := by
  simpa only [State.rdReg_map, State.rd_map, State.wrReg_map, State.wr_map] using
    State.rd_wr_same { State.reset with regs := m } f v h
theorem fieldGet_fieldSet_apart (m : List (Nat × Word)) {f g : Field} (v : Nat) (h : f.apart g = true) (hf : f.fits = true) :
    fieldGet (fieldSet m g v) f = fieldGet m f := by
  simpa only [State.rdReg_map, State.rd_map, State.wrReg_map, State.wr_map] using
    State.rd_wr_apart { State.reset with regs := m } v h hf

/-- The end of a command leaves every register that shows no count, and every field of one. -/
theorem regGet_countSet (s : State) (m : List (Nat × Word)) {a : Nat} (h : a ∉ countRegs) : regGet (countSet s m) a = regGet m a := by
  simp only [countRegs, List.mem_cons, List.not_mem_nil, or_false, not_or] at h
  rw [countSet, regGet_fieldSet_ne (f := F.FAB_WEIR_STATUS_PUT_BLOCKS) _ _ h.2.2.2,
    regGet_fieldSet_ne (f := F.FAB_WEIR_STATUS_READ_BLOCKS) _ _ h.2.2.2, regGet_fieldSet_ne (f := F.SEC_STATUS_SESSIONS) _ _ h.2.2.1,
    regGet_fieldSet_ne (f := F.PANEL_TSB_QUEUED) _ _ h.2.1, regGet_fieldSet_ne (f := F.NODE_CMD_COUNTS_OUTSTANDING) _ _ h.1]
theorem fieldGet_countSet (s : State) (m : List (Nat × Word)) {f : Field} (h : f.addr ∉ countRegs) :
    fieldGet (countSet s m) f = fieldGet m f := by
  rw [fieldGet, fieldGet, regGet_countSet s m h]

/-- A field of a register that shows a count, apart from the counts themselves, is left too. -/
theorem fieldGet_countSet_apart (s : State) (m : List (Nat × Word)) {f : Field} (hf : f.fits = true)
    (h1 : f.apart F.NODE_CMD_COUNTS_OUTSTANDING = true) (h2 : f.apart F.PANEL_TSB_QUEUED = true)
    (h3 : f.apart F.SEC_STATUS_SESSIONS = true) (h4 : f.apart F.FAB_WEIR_STATUS_READ_BLOCKS = true)
    (h5 : f.apart F.FAB_WEIR_STATUS_PUT_BLOCKS = true) : fieldGet (countSet s m) f = fieldGet m f := by
  rw [countSet, fieldGet_fieldSet_apart _ _ h5 hf, fieldGet_fieldSet_apart _ _ h4 hf, fieldGet_fieldSet_apart _ _ h3 hf,
    fieldGet_fieldSet_apart _ _ h2 hf, fieldGet_fieldSet_apart _ _ h1 hf]


end Sys2Proof.Machine
end

