-- ==== Sys2Proof/Laws/Frames.lean ====
section
/-! SUPPORT. What the operations that write memory, deliver records and raise events can change at all: one lemma each, the
fields they leave alone read off it. -/

namespace Sys2Proof.Machine

open Sys2Proof

/-- t differs from s at most in registers, memory with its marks, reservations, the Dome's lines and the checkpoint's list of
granules still to copy: what a write at home can change. -/
def MemFrame (s t : State) : Prop :=
  t = { s with
    regs := t.regs, mem := t.mem, poison := t.poison, undef := t.undef, resv := t.resv, domeLines := t.domeLines, ckpt := t.ckpt }

/-- As `MemFrame`, and in what the Gatehouse keeps of commands, what the router keeps and what the node has sent: what delivering a
record can change. -/
def RecordFrame (s t : State) : Prop :=
  t = { s with
    regs := t.regs, mem := t.mem, poison := t.poison, undef := t.undef, resv := t.resv, domeLines := t.domeLines, ckpt := t.ckpt
    cmd := t.cmd, net := t.net, out := t.out }

theorem MemFrame.refl (s : State) : MemFrame s s := rfl
theorem RecordFrame.refl (s : State) : RecordFrame s s := rfl

theorem MemFrame.trans {s t u : State} (h1 : MemFrame s t) (h2 : MemFrame t u) : MemFrame s u := by
  unfold MemFrame at *; rw [h1] at h2; rw [h2]

theorem RecordFrame.trans {s t u : State} (h1 : RecordFrame s t) (h2 : RecordFrame t u) : RecordFrame s u := by
  unfold RecordFrame at *; rw [h1] at h2; rw [h2]

theorem MemFrame.record {s t : State} (h : MemFrame s t) : RecordFrame s t := by
  unfold MemFrame at h; unfold RecordFrame; rw [h]

theorem memFrame_wr (s : State) (f : Field) (v : Nat) : MemFrame s (s.wr f v) := rfl
theorem memFrame_wrReg (s : State) (a v : Nat) : MemFrame s (s.wrReg a v) := rfl

theorem memFrame_foldl {α : Type} (f : State → α → State) (hf : ∀ s x, MemFrame s (f s x)) :
    ∀ (l : List α) (s : State), MemFrame s (l.foldl f s)
  | [], s => .refl s
  | x :: l, s => (hf s x).trans (memFrame_foldl f hf l (f s x))

theorem memFrame_copyAhead (s : State) (a n : Nat) : MemFrame s (s.copyAhead a n) := by
  simp only [State.copyAhead]
  split
  · exact .refl s
  · refine MemFrame.trans (t := { s with ckpt := { s.ckpt with granules := s.ckpt.granules.filter (fun g => !overlaps a n g.1 granuleBytes) } })
      rfl (memFrame_foldl _ (fun t g => ?_) _ _)
    exact (((show MemFrame t (t.copyRange g.1 g.2 granuleBytes) from rfl).trans (memFrame_wr _ _ _)).trans (memFrame_wr _ _ _)).trans
      (memFrame_wr _ _ _)

theorem memFrame_touch (s : State) (a n : Nat) : MemFrame s (s.touch a n) := (memFrame_copyAhead s a n).trans rfl
theorem memFrame_write (s : State) (a : Nat) (bs : Bytes) : MemFrame s (s.write a bs) := (memFrame_touch s a bs.length).trans rfl

theorem RouterFrame.record {s t : State} (h : RouterFrame s t) : RecordFrame s t := by
  have e := h.1; unfold RecordFrame; rw [e]

theorem recordFrame_msi (s : State) (h e : Nat) : RecordFrame s (s.msi h e) := by
  simp only [State.msi]; split <;> rfl

theorem recordFrame_ringWrite (s : State) (c : Nat) (r : Bytes) (m : Bool) : RecordFrame s (s.ringWrite c r m) := by
  simp only [State.ringWrite]
  generalize hw : s.write _ _ = t
  have h1 : RecordFrame s t := by rw [← hw]; exact (memFrame_write _ _ _).record
  have h2 : RecordFrame s (t.wr (F.NODE_CMD_RING_HEAD_INDEX c) (s.rd (F.NODE_CMD_RING_HEAD_INDEX c) + 1)) :=
    h1.trans (memFrame_wr _ _ _).record
  split
  · exact h2.trans (recordFrame_msi _ _ _)
  · exact h2

theorem recordFrame_toRing (s : State) (c : Nat) (r : Bytes) (m e : Bool) : RecordFrame s (s.toRing c r m e) := by
  simp only [State.toRing]
  split
  · exact recordFrame_ringWrite _ _ _ _
  · split <;> rfl

theorem recordFrame_mgmtSend (s : State) (i k : Nat) (b : Bytes) : RecordFrame s (s.mgmtSend i k b) := by
  simp only [State.mgmtSend]; split <;> rfl

theorem recordFrame_toMgmt (s : State) (i : Nat) (r : Bytes) : RecordFrame s (s.toMgmt i r) := by
  simp only [State.toMgmt]
  split
  · rfl
  · exact RecordFrame.trans (t := { s with cmd := { s.cmd with mgmt := s.cmd.mgmt ++ [MgmtRecord.mk i r 1] } }) rfl
      (recordFrame_mgmtSend _ _ _ _)

theorem recordFrame_cmd (s : State) (c : Command) : RecordFrame s { s with cmd := c } := rfl
theorem memFrame_check {s t : State} (c : Checking) (h : MemFrame s t) : MemFrame { s with check := c } { t with check := c } := by
  unfold MemFrame at *; rw [h]

theorem recordFrame_ibi (s : State) : RecordFrame s s.ibi := by simp only [State.ibi]; split <;> rfl

theorem recordFrame_toTray (s : State) (r : Bytes) : RecordFrame s (s.toTray r) := by
  simp only [State.toTray]
  refine RecordFrame.trans ?_ (recordFrame_ibi _)
  split
  · exact ((memFrame_wr _ _ _).trans (memFrame_wr _ _ _)).record.trans (recordFrame_cmd _ _)
  · exact recordFrame_cmd _ _

theorem recordFrame_deliver (s : State) (l : LongCmd) (r : Bytes) : RecordFrame s (s.deliver l r) := by
  simp only [State.deliver]
  split
  · exact recordFrame_toRing _ _ _ _ _
  · exact recordFrame_toMgmt _ _ _
  · exact recordFrame_toTray _ _
  · exact (routerFrame_sendLive _ _ _ _ _).record

/-- A completion changes only registers, memory through a ring, and what the Gatehouse keeps and sends. -/
theorem recordFrame_completeKeep (s : State) (h st d : Nat) (r : Bytes) : RecordFrame s (s.completeKeep h st d r) := by
  simp only [State.completeKeep]
  split
  · rfl
  · split
    · rfl
    · refine RecordFrame.trans (t := { s with cmd := { s.cmd with longs := s.cmd.longs.filter (fun l => l.handle != h) } }) rfl ?_
      exact recordFrame_deliver _ _ _

theorem recordFrame_complete (s : State) (h st d : Nat) (r : Bytes) : RecordFrame s (s.complete h st d r) :=
  recordFrame_completeKeep _ _ _ _ _

theorem recordFrame_forEach (f : Nat → State → State) (hf : ∀ i s, RecordFrame s (f i s)) :
    ∀ (l : List Nat) (s : State), RecordFrame s (forEach l s f)
  | [], s => .refl s
  | i :: l, s => (hf i s).trans (recordFrame_forEach f hf l (f i s))

/-- An event changes no more. -/
theorem recordFrame_raiseEvent (s : State) (c st d : Nat) (r : Bytes) : RecordFrame s (s.raiseEvent c st d r) := by
  simp only [State.raiseEvent]
  refine RecordFrame.trans ?_ (recordFrame_toTray _ _)
  refine RecordFrame.trans ?_ (recordFrame_forEach _ (fun i t => recordFrame_toMgmt _ _ _) _ _)
  refine RecordFrame.trans ?_ (recordFrame_forEach _ (fun i t => ?_) _ _)
  · rfl
  · split
    · exact recordFrame_toRing _ _ _ _ _
    · rfl

theorem recordFrame_replyTo (s : State) (c : Chan) (slot op tag st h : Nat) (d : Bytes) :
    RecordFrame s (s.replyTo c slot op tag st h d) := by
  obtain ⟨c', e⟩ := replyTo_frame s c slot op tag st h d; exact (recordFrame_cmd s c').trans e.record

theorem recordFrame_reply (s : State) (q : Sub) (st : Nat) (d : Bytes) : RecordFrame s (s.reply q st d) := by
  obtain ⟨c', e⟩ := reply_frame s q st d; exact (recordFrame_cmd s c').trans e.record

theorem recordFrame_refuse (s : State) (q : Sub) (st : Nat) : RecordFrame s (s.refuse q st) :=
  (memFrame_wr _ _ _).record.trans (recordFrame_reply _ _ _ _)
theorem recordFrame_short (s : State) (q : Sub) (st : Nat) (d : Bytes) : RecordFrame s (s.short q st d) :=
  (memFrame_wr _ _ _).record.trans (recordFrame_reply _ _ _ _)

theorem recordFrame_acceptAs (s : State) (q : Sub) (st : Nat) : RecordFrame s (s.acceptAs q st).1 := by
  simp only [State.acceptAs]
  split
  · rfl
  · refine RecordFrame.trans ?_ (recordFrame_replyTo _ _ _ _ _ _ _ _)
    rfl

theorem recordFrame_longNow (s : State) (q : Sub) (st d : Nat) (r : Bytes) : RecordFrame s (s.longNow q st d r) :=
  (recordFrame_acceptAs s q St.accepted).trans (recordFrame_complete _ _ _ _ _)

/-- What forming a record of the recorder can change: what a write can, and the recorder. -/
theorem recordPut_frame (s : State) (cls : Option Nat) (k fl : Nat) (b : Bytes) :
    ∃ check, MemFrame { s with check := check } (s.recordPut cls k fl b) := by
  simp only [State.recordPut]
  split
  · exact ⟨s.check, rfl⟩
  · split
    · exact ⟨_, memFrame_wr _ _ _⟩
    · generalize ht : State.ringBytes _ _ _ _ _ = t
      have h1 : MemFrame s t := by
        rw [← ht]; simp only [State.ringBytes]; exact (memFrame_write _ _ _).trans (memFrame_write _ _ _)
      exact ⟨_, memFrame_check _ (((h1.trans (memFrame_wr _ _ _)).trans (memFrame_wr _ _ _)).trans (memFrame_wr _ _ _))⟩

end Sys2Proof.Machine
end

