-- ==== Sys2Proof/Laws/Memory.lean ====
section
/-! SUPPORT. Memory: read after write, what a write leaves alone, and the canonical form that every memory operation keeps. -/

namespace Sys2Proof.Machine

open Sys2Proof

theorem mget_memPut_same (m : List Host.Cell) (k : Nat) (v : Byte) (h : Memory.wf m = true) : mget (memPut m k v) k 0 = v := by
  simp only [Memory.wf, Bool.and_eq_true] at h
  obtain ⟨h, -⟩ := h
  revert h
  generalize (0 : Nat) = lo
  induction m generalizing lo with
  | nil =>
    intro _
    simp only [memPut]
    split
    · rename_i hv; simp [mget, hv]
    · simp [mget]
  | cons x r ih =>
    obtain ⟨k', v'⟩ := x
    intro h
    simp only [risingFrom, Bool.and_eq_true, decide_eq_true_eq] at h
    simp only [memPut]
    split
    · split
      · rename_i hk hv
        simp only [mget]
        rw [if_neg (by omega), mget_below 0 (by omega) h.2, hv]
      · simp [mget]
    · split
      · rename_i hk
        split
        · rename_i hv
          rw [mget_below 0 (by omega) h.2, hv]
        · simp [mget]
      · rename_i hk
        simp only [mget, if_neg hk]
        exact ih (k' + 1) h.2

theorem mget_memPut_ne (m : List Host.Cell) {k j : Nat} (v : Byte) (h : j ≠ k) : mget (memPut m k v) j 0 = mget m j 0 := by
  induction m with
  | nil =>
    simp only [memPut]
    split
    · rfl
    · simp [mget, h]
  | cons x r ih =>
    obtain ⟨k', v'⟩ := x
    simp only [memPut]
    split
    · split
      · rfl
      · simp [mget, h]
    · split
      · rename_i hk
        subst hk
        split
        · simp [mget, h]
        · simp [mget, h]
      · simp only [mget]
        split
        · rfl
        · exact ih

theorem risingFrom_memPut {lo k : Nat} (v : Byte) (hk : lo ≤ k) :
    ∀ {m : List Host.Cell}, risingFrom lo m = true → risingFrom lo (memPut m k v) = true
  | [], _ => by simp only [memPut]; split <;> simp [risingFrom, hk]
  | (k', v') :: r, hm => by
    simp only [risingFrom, Bool.and_eq_true, decide_eq_true_eq] at hm
    simp only [memPut]
    split
    · split
      · simpa [risingFrom] using hm
      · simp only [risingFrom, Bool.and_eq_true, decide_eq_true_eq]
        exact ⟨hk, by omega, hm.2⟩
    · split
      · split
        · exact risingFrom_weaken (by omega) hm.2
        · simp only [risingFrom, Bool.and_eq_true, decide_eq_true_eq]
          rename_i h2 _
          subst h2
          exact ⟨hk, hm.2⟩
      · simp only [risingFrom, Bool.and_eq_true, decide_eq_true_eq]
        exact ⟨hm.1, risingFrom_memPut v (by omega) hm.2⟩

theorem all_memPut {k : Nat} {v : Byte} :
    ∀ {m : List Host.Cell}, m.all (fun c => c.2 != 0) = true → (memPut m k v).all (fun c => c.2 != 0) = true
  | [], _ => by
    simp only [memPut]
    split
    · rfl
    · rename_i h; simpa using h
  | (k', v') :: r, hm => by
    have hm' := hm
    simp only [List.all_cons, Bool.and_eq_true] at hm
    simp only [memPut]
    split
    · split
      · exact hm'
      · rename_i h
        simp only [List.all_cons, Bool.and_eq_true]
        exact ⟨by simpa using h, hm.1, hm.2⟩
    · split
      · split
        · exact hm.2
        · rename_i h
          simp only [List.all_cons, Bool.and_eq_true]
          exact ⟨by simpa using h, hm.2⟩
      · simp only [List.all_cons, Bool.and_eq_true]
        exact ⟨hm.1, all_memPut hm.2⟩

/-- Storing one byte keeps the canonical form. -/
theorem Memory.wf_memPut {m : List Host.Cell} (k : Nat) (v : Byte) (h : Memory.wf m = true) : Memory.wf (memPut m k v) = true := by
  simp only [Memory.wf, Bool.and_eq_true] at *
  exact ⟨risingFrom_memPut v (Nat.zero_le _) h.1, all_memPut h.2⟩

/-- Storing bytes keeps the canonical form. -/
theorem Memory.wf_memWrite (bs : Bytes) : ∀ {m : List Host.Cell} (a : Nat), Memory.wf m = true → Memory.wf (memWrite m a bs) = true := by
  induction bs with
  | nil => intro m a h; exact h
  | cons b bs ih => intro m a h; exact ih _ (Memory.wf_memPut _ _ h)

theorem risingFrom_filter {α : Type} (p : Nat × α → Bool) :
    ∀ {lo : Nat} {m : List (Nat × α)}, risingFrom lo m = true → risingFrom lo (m.filter p) = true
  | _, [], _ => rfl
  | lo, (k, v) :: r, hm => by
    simp only [risingFrom, Bool.and_eq_true, decide_eq_true_eq] at hm
    simp only [List.filter_cons]
    split
    · simp only [risingFrom, Bool.and_eq_true, decide_eq_true_eq]
      exact ⟨hm.1, risingFrom_filter p hm.2⟩
    · exact risingFrom_weaken (by omega) (risingFrom_filter p hm.2)

theorem Memory.wf_filter {m : List Host.Cell} (p : Host.Cell → Bool) (h : Memory.wf m = true) : Memory.wf (m.filter p) = true := by
  simp only [Memory.wf, Bool.and_eq_true] at *
  refine ⟨risingFrom_filter p h.1, ?_⟩
  simp only [List.all_eq_true, List.mem_filter] at *
  exact fun x hx => h.2 x hx.1

theorem Memory.wf_foldl {α : Type} (l : List α) (f : α → Nat × Byte) :
    ∀ {m : List Host.Cell}, Memory.wf m = true → Memory.wf (l.foldl (fun m x => memPut m (f x).1 (f x).2) m) = true := by
  induction l with
  | nil => intro m h; exact h
  | cons x l ih => intro m h; exact ih (Memory.wf_memPut _ _ h)

/-- Every memory operation keeps the canonical form: a raw write, -/
theorem State.rawWrite_wf (s : State) (a : Nat) (bs : Bytes) (h : Memory.wf s.mem = true) : Memory.wf (s.rawWrite a bs).mem = true :=
  Memory.wf_memWrite bs a h

/-- a copy of an extent, -/
theorem State.copyRange_wf (s : State) (src dst n : Nat) (h : Memory.wf s.mem = true) :
    Memory.wf (s.copyRange src dst n).mem = true :=
  Memory.wf_foldl _ (fun c : Host.Cell => (c.1 - src + dst, c.2)) (Memory.wf_filter _ h)

theorem State.copyAhead_wf (s : State) (a n : Nat) (h : Memory.wf s.mem = true) : Memory.wf (s.copyAhead a n).mem = true := by
  have gen : ∀ (l : List (Nat × Nat)) (f : State → Nat × Nat → State), (∀ t g, Memory.wf t.mem = true → Memory.wf (f t g).mem = true) →
      ∀ t : State, Memory.wf t.mem = true → Memory.wf (l.foldl f t).mem = true := by
    intro l f hf
    induction l with
    | nil => intro t ht; exact ht
    | cons g l ih => intro t ht; exact ih _ (hf t g ht)
  simp only [State.copyAhead]
  split
  · exact h
  · apply gen
    · intro t g ht
      simpa using State.copyRange_wf t g.1 g.2 granuleBytes ht
    · exact h

theorem State.touch_wf (s : State) (a n : Nat) (h : Memory.wf s.mem = true) : Memory.wf (s.touch a n).mem = true :=
  State.copyAhead_wf s a n h

/-- a write by an agent, -/
theorem State.write_wf (s : State) (a : Nat) (bs : Bytes) (h : Memory.wf s.mem = true) : Memory.wf (s.write a bs).mem = true :=
  State.rawWrite_wf _ _ _ (State.touch_wf s a _ h)

/-- a write with poison marks, -/
theorem State.writeCells_wf (s : State) (a : Nat) (cs : List (Byte × Bool)) (h : Memory.wf s.mem = true) :
    Memory.wf (s.writeCells a cs).mem = true :=
  State.write_wf _ _ _ h

/-- and poisoning an extent. -/
theorem State.poisonRange_wf (s : State) (a n : Nat) (h : Memory.wf s.mem = true) : Memory.wf (s.poisonRange a n).mem = true :=
  State.touch_wf s a n h

theorem mget_memWrite_out (bs : Bytes) : ∀ (m : List Host.Cell) (a k : Nat), k < a ∨ a + bs.length ≤ k →
    mget (memWrite m a bs) k 0 = mget m k 0 := by
  induction bs with
  | nil => intro m a k _; rfl
  | cons b bs ih =>
    intro m a k h
    simp only [List.length_cons] at h
    simp only [memWrite]
    rw [ih _ _ _ (by omega), mget_memPut_ne _ _ (by omega)]

theorem mget_memWrite_in (bs : Bytes) : ∀ (m : List Host.Cell) (a i : Nat), Memory.wf m = true → i < bs.length →
    mget (memWrite m a bs) (a + i) 0 = bs.getD i 0 := by
  induction bs with
  | nil => intro m a i _ h; simp at h
  | cons b bs ih =>
    intro m a i hm h
    simp only [memWrite]
    cases i with
    | zero => rw [mget_memWrite_out _ _ _ _ (by omega)]; simpa using mget_memPut_same m a b hm
    | succ i =>
      have := ih (memPut m a b) (a + 1) i (Memory.wf_memPut _ _ hm) (by simpa using h)
      rw [show a + (i + 1) = a + 1 + i by omega]
      simpa using this

theorem contains_filter {p : Nat → Bool} {l : List Nat} {w : Nat} (h : p w = true) : (l.filter p).contains w = l.contains w := by
  simp [List.mem_filter, h]

/-- A byte outside the bytes of a write, in no word the write covers whole, reads as before. -/
theorem State.readByte_rawWrite_out (s : State) (a : Nat) (bs : Bytes) (k : Nat) (h : k < a ∨ a + bs.length ≤ k) :
    (s.rawWrite a bs).readByte k = s.readByte k := by
  have hw : (!wholeWord a bs.length (k / 8)) = true := by
    simp only [wholeWord, Bool.not_eq_true', Bool.and_eq_false_iff, decide_eq_false_iff_not]
    omega
  have hc := contains_filter (l := s.undef) (p := fun w => !wholeWord a bs.length w) hw
  simp only [State.readByte, State.rawWrite]
  simp only [hc, mget_memWrite_out _ _ _ _ h]

/-- A write of a whole aligned word reads back. -/
theorem State.readByte_rawWrite_in (s : State) (a : Nat) (bs : Bytes) (i : Nat) (hm : Memory.wf s.mem = true) (hi : i < bs.length)
    (hu : s.undef.contains ((a + i) / 8) = false) : (s.rawWrite a bs).readByte (a + i) = bs.getD i 0 := by
  have hu' : (s.undef.filter (fun w => !wholeWord a bs.length w)).contains ((a + i) / 8) = false := by
    simp only [List.contains_eq_mem, decide_eq_false_iff_not, List.mem_filter] at *
    exact fun h => hu h.1
  simp only [State.readByte, State.rawWrite]
  simp only [hu']
  simpa using mget_memWrite_in bs s.mem a i hm hi

theorem State.reset_mem_wf : Memory.wf State.reset.mem = true := rfl

end Sys2Proof.Machine
end

