-- ==== Sys2Proof/Laws/Reset.lean ====
section
/-! SUPPORT. What a full module reset leaves: operations that write registers alone, and the fields that are clear after it. -/

namespace Sys2Proof.Machine

open Sys2Proof

/-- t differs from s at most in registers. -/
def RegsFrame (s t : State) : Prop := t = { s with regs := t.regs }

theorem RegsFrame.refl (s : State) : RegsFrame s s := rfl
theorem RegsFrame.trans {s t u : State} (h1 : RegsFrame s t) (h2 : RegsFrame t u) : RegsFrame s u := by
  unfold RegsFrame at *; rw [h1] at h2; rw [h2]
theorem regsFrame_wr (s : State) (f : Field) (v : Nat) : RegsFrame s (s.wr f v) := rfl
theorem regsFrame_wrReg (s : State) (a v : Nat) : RegsFrame s (s.wrReg a v) := rfl

theorem regsFrame_foldl {α : Type} (f : State → α → State) (hf : ∀ s x, RegsFrame s (f s x)) :
    ∀ (l : List α) (s : State), RegsFrame s (l.foldl f s)
  | [], s => .refl s
  | x :: l, s => (hf s x).trans (regsFrame_foldl f hf l (f s x))

theorem regsFrame_showRegion (s : State) (g : Nat) : RegsFrame s (s.showRegion g) := rfl
theorem regsFrame_forEach (f : Nat → State → State) (hf : ∀ i s, RegsFrame s (f i s)) (l : List Nat) (s : State) :
    RegsFrame s (forEach l s f) := regsFrame_foldl _ (fun s x => hf x s) l s
theorem regsFrame_showCounters (s : State) : RegsFrame s s.showCounters := by
  unfold State.showCounters
  exact RegsFrame.trans (RegsFrame.trans (RegsFrame.trans (RegsFrame.trans (regsFrame_wr _ _ _) (regsFrame_wr _ _ _)) (regsFrame_wr _ _ _))
    (regsFrame_wr _ _ _)) (regsFrame_forEach _ (fun p s => regsFrame_wr _ _ _) _ _)

/-- What the reset of everything but the standby part clears. -/
theorem cold_cleared (s : State) :
    s.cold.mem = [] ∧ s.cold.job = none ∧ s.cold.cmd = State.reset.cmd := by
  unfold State.cold
  extract_lets kr x0 x1 x2 x3 x4 r0 r1 n2 r2 r3 r4 r5
  have h1 : RegsFrame r0 r1 := regsFrame_foldl _ (fun s p => regsFrame_wrReg _ _ _) _ _
  have h3 : RegsFrame r5 ((forEach (List.range 10) r5 fun g r => r.showRegion g).wr F.KEEP_STATUS_DAMAGED 0).showCounters :=
    ((regsFrame_forEach _ (fun p s => regsFrame_showRegion _ _) _ _).trans (regsFrame_wr _ _ _)).trans (regsFrame_showCounters _)
  have g3 : RegsFrame r2 r3 := (regsFrame_wr _ _ _).trans (regsFrame_wr _ _ _)
  have g4 : RegsFrame r3 r4 := (regsFrame_wrReg _ _ _).trans (regsFrame_wr _ _ _)
  have g5 : RegsFrame r4 r5 := (regsFrame_wrReg _ _ _).trans (regsFrame_wr _ _ _)
  have h2 : RegsFrame r2 _ := ((g3.trans g4).trans g5).trans h3
  have h5 : r2.mem = r1.mem ∧ r2.job = r1.job ∧ r2.cmd = r1.cmd := ⟨rfl, rfl, rfl⟩
  clear_value r3 r4 r5
  unfold RegsFrame at h2 h1
  rw [h2]
  show r2.mem = [] ∧ r2.job = none ∧ r2.cmd = State.reset.cmd
  rw [h5.1, h5.2.1, h5.2.2, h1]
  exact ⟨rfl, rfl, rfl⟩

/-- What a full module reset clears. -/
theorem fullReset_cleared (s : State) (c : Nat) :
    (s.fullReset c).mem = [] ∧ (s.fullReset c).job = none ∧ (s.fullReset c).cmd = State.reset.cmd := by
  obtain ⟨h1, h2, h3⟩ := cold_cleared s
  unfold State.fullReset
  generalize s.cold = r at *
  extract_lets a b
  generalize hx : ({ r with boot := _ } : State) = x
  have : RegsFrame x (x.wr F.NODE_RESET_CAUSE c) := regsFrame_wr _ _ _
  generalize x.wr F.NODE_RESET_CAUSE c = y at *
  unfold RegsFrame at this
  rw [this, ← hx]
  exact ⟨h1, h2, h3⟩

end Sys2Proof.Machine
end

