-- ==== Sys2Proof/WellFormed.lean ====
section
/-! DEFINITION. Well-formed commands: the lengths and ranges of the operands whose types are wider than what can arrive. The
meanings are total: an ill-formed command has the effect its bytes spell. -/

namespace Sys2Proof

/-- A message of exactly, at least, at most n bytes. -/
def lenIs (b : Bytes) (n : Nat) : Bool := b.length == n
def lenGe (b : Bytes) (n : Nat) : Bool := n ≤ b.length
def lenLe (b : Bytes) (n : Nat) : Bool := b.length ≤ n
/-- A number of at most w bits. -/
def below (v w : Nat) : Bool := v < 2 ^ w
/-- Element indices below n. -/
def allBelow (l : List Nat) (n : Nat) : Bool := l.all (· < n)
/-- Errors at node-local addresses. -/
def eccOk (l : EccFinds) : Bool := l.all (fun e => below e.1 48)

/-- Whether a command is well formed: a tick of 16 bytes (Table 3.1), chunk messages with their 32-byte header (Table 13.6),
requests with header and check (R249), packets with at most 4,096 parameter bytes (R351), memory-side operands of at most
128 bytes (R249), IPv6 addresses of 16 bytes. -/
def Instr.wellFormed (i : Instr) : Bool :=
  match i with
  | .registerWrite .. => true
  | .setProfile => true
  | .profileSwitchComplete => true
  | .gateWindowEnd .. => true
  | .powerAverageUpdate .. => true
  | .backstopStep => true
  | .nodePowerCapWrite .. => true
  | .stepBoundary => true
  | .tickSend .. => true
  | .tickArrival _ tick _ _ _ _ => lenIs tick 16
  | .holdEnd => true
  | .holdTimeout => true
  | .delayRequest .. => true
  | .delayRequestArrival .. => true
  | .delayResponseArrival .. => true
  | .ticksStop .. => true
  | .standbyPromotion => true
  | .rtbEpochEdge .. => true
  | .rtbRefLoss => true
  | .timebaseUnbind => true
  | .timebaseBindFollower => true
  | .timebaseBindMaster => true
  | .timebaseBindStandby => true
  | .tbNowRead .. => true
  | .alarmFire .. => true
  | .entryFire .. => true
  | .entryComplete .. => true
  | .entryDeadline .. => true
  | .tensorRun .. => true
  | .vectorProgram .. => true
  | .solveEntry .. => true
  | .move .. => true
  | .collective .. => true
  | .fieldSend .. => true
  | .fieldWait .. => true
  | .reflect .. => true
  | .digest .. => true
  | .quiet .. => true
  | .barrier .. => true
  | .recordMark .. => true
  | .endStep .. => true
  | .fieldChunkArrival _ _ _ p => lenGe p 32
  | .scheduleLoad => true
  | .scheduleArm => true
  | .scheduleDisarm => true
  | .scheduleResume => true
  | .schedRingCtrlWrite .. => true
  | .nodeTerracePwrWrite .. => true
  | .spTq .. => true
  | .spMq .. => true
  | .spWait .. => true
  | .spTime _ _ now => below now 64
  | .spTwait .. => true
  | .spTwaitExpiry .. => true
  | .spAmax .. => true
  | .spAmaxx .. => true
  | .spEnd .. => true
  | .spireLoadStore .. => true
  | .spireAmo .. => true
  | .spireFence .. => true
  | .spireFenceI .. => true
  | .spireAmaxWrite .. => true
  | .copy _ _ _ ecc => eccOk ecc
  | .fill .. => true
  | .gather _ _ _ ecc => eccOk ecc
  | .scatter _ _ _ ecc => eccOk ecc
  | .moverDescriptorComplete .. => true
  | .gemm _ _ _ ecc => eccOk ecc
  | .stencil _ _ _ ecc => eccOk ecc
  | .q64Gemm _ _ _ ecc => eccOk ecc
  | .round _ ecc => eccOk ecc
  | .ctxSeal _ ecc => eccOk ecc
  | .ctxDrop .. => true
  | .tensorDescriptorComplete .. => true
  | .svCfg .. => true
  | .svBcast .. => true
  | .svExt .. => true
  | .svPerm .. => true
  | .svLd _ _ _ _ ecc => eccOk ecc
  | .svSt .. => true
  | .svLseg _ _ _ _ _ ecc => eccOk ecc
  | .svSseg .. => true
  | .svGth _ _ _ _ _ ecc => eccOk ecc
  | .svSct .. => true
  | .svAddSubMul .. => true
  | .svMinMax .. => true
  | .svAndOrXor .. => true
  | .svSllSrlSra .. => true
  | .svFaddFsubFmul .. => true
  | .svFmacc .. => true
  | .svFminFmax .. => true
  | .svCvt .. => true
  | .svMxcvt .. => true
  | .svMxexp .. => true
  | .svRsumRminRmax .. => true
  | .svFrsumFrminFrmax .. => true
  | .svPowerDown .. => true
  | .longVectorPowerDown .. => true
  | .pkst .. => true
  | .dTwait .. => true
  | .dTwaitExpiry .. => true
  | .dTime _ _ now => below now 64
  | .domeLoadStore .. => true
  | .domeAmo .. => true
  | .domeVectorMemory _ _ _ _ _ _ _ _ _ _ dead refused ecc => allBelow dead 2048 && allBelow refused 2048 && eccOk ecc
  | .dot _ _ _ ecc => eccOk ecc
  | .axpy _ _ _ ecc => eccOk ecc
  | .spmv _ _ _ ecc => eccOk ecc
  | .trsolve _ _ _ ecc => eccOk ecc
  | .chol _ _ _ ecc => eccOk ecc
  | .ldlt _ _ _ ecc => eccOk ecc
  | .lu _ _ _ ecc => eccOk ecc
  | .qr _ _ _ ecc => eccOk ecc
  | .cg _ _ _ _ ecc => eccOk ecc
  | .bicgstab _ _ _ _ ecc => eccOk ecc
  | .gmres _ _ _ _ ecc => eccOk ecc
  | .solve => true
  | .solveDeadline .. => true
  | .solveComplete .. => true
  | .mopAdd _ a _ _ _ v _ _ ecc => below a 48 && lenLe v 128 && eccOk ecc
  | .mopMinMax _ a _ _ _ _ v _ _ ecc => below a 48 && lenLe v 128 && eccOk ecc
  | .mopMinuMaxu _ a _ _ _ _ v _ _ ecc => below a 48 && lenLe v 128 && eccOk ecc
  | .mopAndOrXor _ a _ _ _ _ v ecc => below a 48 && lenLe v 128 && eccOk ecc
  | .mopSwap _ a _ v ecc => below a 48 && lenLe v 128 && eccOk ecc
  | .mopCas _ a _ v ecc => below a 48 && lenLe v 128 && eccOk ecc
  | .cistPinArm count => below count 32
  | .cistPinDisarm => true
  | .pinnedFillComplete ls => ls.all (fun l => below l 48 && l % 64 == 0)
  | .scrubAccess line _ _ => line % 64 == 0
  | .memScrubWrite .. => true
  | .fabricRead p _ ecc => lenGe p 40 && eccOk ecc
  | .fabricWrite p _ _ => lenGe p 40 && lenLe p 104
  | .fabricMop p _ _ _ ecc => lenGe p 40 && lenLe p 168 && eccOk ecc
  | .fabricBulkGet p _ ecc => lenGe p 40 && eccOk ecc
  | .fabricBulkPut p _ _ => lenIs p 4648
  | .fabricAck p _ => lenGe p 40
  | .fabricReplyArrival .. => true
  | .requestRetransmit tag => below tag 32
  | .deadTargetBound tag => below tag 32
  | .backoffResend .. => true
  | .ackTimer .. => true
  | .sourceRecordExpiry .. => true
  | .fabDeadBoundWrite .. => true
  | .cableInsert _ _ mem => lenIs mem 32
  | .portTrainingEnd _ trains _ _ _ _ _ eq => decide (trains.length ≤ 6) && lenLe eq 64
  | .linkFrameArrival _ _ _ _ _ crc _ => below crc 32
  | .linkReplayRequest .. => true
  | .partnerSilence .. => true
  | .lossOfSignal .. => true
  | .drainNotice .. => true
  | .drainComplete .. => true
  | .portEnable => true
  | .portDisable => true
  | .portDrain => true
  | .portUndrain => true
  | .portPolicy => true
  | .portRetrain => true
  | .transitPacket .. => true
  | .fabricPlanInstall => true
  | .fabricPlanRemove => true
  | .routeSwap => true
  | .broadcast .. => true
  | .reduce .. => true
  | .allreduce .. => true
  | .allgather .. => true
  | .reduceScatter .. => true
  | .collectiveBarrier .. => true
  | .dataChunk _ p _ => lenGe p 32
  | .token _ p => lenGe p 32
  | .chunkAck _ _ p => lenGe p 32
  | .credit p => lenGe p 32
  | .refetch _ _ p => lenGe p 32
  | .abort _ p => lenGe p 32
  | .done p => lenGe p 32
  | .adopt p => lenGe p 32
  | .lost p => lenGe p 32
  | .chunkResend .. => true
  | .chunkAckTimeout .. => true
  | .reparentTimeout .. => true
  | .broadcastRootTimeout .. => true
  | .jobBroadcast => true
  | .collInstallArm .. => true
  | .collFieldWeightWrite .. => true
  | .ckptPolicy => true
  | .ckptNow => true
  | .ckptStatus => true
  | .reflectionCopyDone => true
  | .storeIoCompletion .. => true
  | .drainTimeout => true
  | .restore => true
  | .restoreCopyDone => true
  | .jobShrink => true
  | .shrinkDeadline => true
  | .nodeInfo => true
  | .readStageReports => true
  | .keepRead => true
  | .keepWrite => true
  | .marginSurvey => true
  | .marginReplan => true
  | .selfTest => true
  | .readAgeingLog => true
  | .jobAdmit => true
  | .jobRelease => true
  | .attest => true
  | .fwStageLocal => true
  | .fwStagePiece => true
  | .fwStageTimeout => true
  | .fwActivate => true
  | .identityRead => true
  | .keyRotateNew => true
  | .keyRotateErase => true
  | .recordStart => true
  | .recordStop => true
  | .replay => true
  | .panelState => true
  | .portRelease => true
  | .terraceComputeReset => true
  | .towerDieComputeReset => true
  | .nodeComputeReset => true
  | .fullModuleReset => true
  | .partialResetEnd => true
  | .remoteReplyArrival .. => true
  | .remoteReplyTimeout .. => true
  | .remoteRecordArrival .. => true
  | .remoteProbe .. => true
  | .nodeCmdRingCtrlWrite .. => true
  | .nodeCmdRingTailWrite .. => true
  | .recordResend .. => true
  | .clientHello _ msg => lenLe msg 9216
  | .ack sid counter _ _ _ _ _ => below sid 64 && below counter 64
  | .keepalive sid counter _ _ => below sid 64 && below counter 64
  | .sessionTimeout sid => below sid 64
  | .norOperationDone .. => true
  | .counterRecordTimer .. => true
  | .counterFold .. => true
  | .powerFail => true
  | .standbyRestart .. => true
  | .inputLow => true
  | .feedLost .. => true
  | .stageComplete .. => true
  | .stageTimeout => true
  | .watchdogExpiry => true
  | .surveyPartEnd .. => true
  | .surveyDeadline .. => true
  | .twinTimeout .. => true
  | .buttonPress => true
  | .buttonCancel => true
  | .latchWarning .. => true
  | .latchReleaseTimeout .. => true
  | .cableRemove .. => true
  | .tsbCommand packet => lenLe packet 4160
  | .tsbReplySelect => true
  | .tsbRecordSelect => true
  | .tsbRecordRead .. => true
  | .rstdaa => true
  | .setdasa .. => true
  | .enec .. => true
  | .disec .. => true
  | .getstatus => true
  | .getbcr => true
  | .getdcr => true
  | .getmwl => true
  | .getmrl => true
  | .setmwl .. => true
  | .setmrl .. => true
  | .routerAdvertisement pfx _ _ _ => lenIs pfx 16
  | .neighbourDiscovery target src => lenIs target 16 && lenIs src 16
  | .icmpv6Echo dst src _ => lenIs dst 16 && lenIs src 16
  | .mgmtLinkChange .. => true
  | .mainEnRise => true
  | .mainEnFall => true
  | .trayResetPulse => true
  | .temperatureSample .. => true
  | .thermalBackstopStep => true
  | .partnerSignal .. => true
  | .feedRestored .. => true
  | .inputRestored => true
  | .rtbRefRestored => true
  | .standbyPowerApplied .. => true
  | .retentionSweepComplete .. => true
  | .eyeMonitorSample _ heights widths _ => lenIs heights 8 && lenIs widths 8
  | .latchRelease .. => true
  | .ticketReservationExpiry .. => true
  | .replayCommandSubmit => true
  | .mgmtCommand sid counter _ _ packet => lenLe packet 4160 && below sid 64 && below counter 64
  | .fabricCommandPacket _ _ packet => lenLe packet 4160
  | .spireCsrAccess .. => true
  | .domeFloatInstruction .. => true
  | .domeVectorInstruction .. => true

end Sys2Proof
end

