-- ==== Sys2Proof/Tests/Slice0.lean ====
section
/-! SUPPORT. Tests of the model, and for each statement concrete states and operands that meet its hypotheses. -/

namespace Sys2Proof.Tests

open Sys2Proof Sys2Proof.Machine

set_option Elab.async false

/-! ## Small states -/

/-- A submission on local channel 0 with tag 7. -/
def sub0 (op : Nat) (params : Bytes) : Sub := ⟨.loc 0, 0, op, false, 7, 0, params, false⟩

/-- A submission waits at the front of the gate. -/
def gated (s : State) (q : Sub) : State := { s with cmd := { s.cmd with gate := [q] } }

/-- The node at B11. -/
def up : State := (({ State.reset with boot := { State.reset.boot with standby := false } } : State).wr F.NODE_STAGE_STATE 1).wr
  F.NODE_STAGE_STAGE 11

theorem gated_front (s : State) (q : Sub) (op : Nat) (h1 : q.opcode = op) (h2 : reservedParams op q.params = false) :
    (gated s q).front q [] op := ⟨rfl, h1, h1 ▸ h2⟩

theorem gated_takes (s : State) (q : Sub) (op : Nat) (h1 : q.opcode = op) (h2 : reservedParams op q.params = false) :
    (gated s q).takes q op ((gated s q).taken []) := ⟨[], gated_front s q op h1 h2, rfl⟩

theorem gated_mem (s : State) (q : Sub) : ((gated s q).taken []).mem = s.mem := rfl

theorem pair_of {α β : Type} (x : α × β) (b : β) (h : x.2 = b) : ∃ a, x = (a, b) := ⟨x.1, by rw [← h]⟩

theorem pair_fst {α β : Type} (x : α × β) (a : α) (h : x.1 = a) : ∃ b, x = (a, b) := ⟨x.2, by rw [← h]⟩

theorem inl_of {α β : Type} (x : α ⊕ β) (h : x.isLeft = true) : ∃ a, x = Sum.inl a := by
  cases x with
  | inl a => exact ⟨a, rfl⟩
  | inr b => cases h

theorem inr_of {α β : Type} (x : α ⊕ β) (h : x.isRight = true) : ∃ b, x = Sum.inr b := by
  cases x with
  | inl a => cases h
  | inr b => exact ⟨b, rfl⟩

/-! A digest has 32 bytes. -/

theorem keccakRound_length (a : List Nat) (rc : Nat) : (keccakRound a rc).length = 25 := by
  unfold keccakRound
  extract_lets lane c d t b e
  have h : e.length = 25 := by rw [List.length_map, List.length_range]
  generalize e = e at h
  match e, h with
  | z :: r, h => exact h

theorem keccakF_length (a : List Nat) : (keccakF a).length = 25 := by
  have h : ∀ (l : List Nat) (b : List Nat), b.length = 25 → (l.foldl keccakRound b).length = 25 := by
    intro l
    induction l with
    | nil => exact fun b h => h
    | cons c l ih => exact fun b _ => ih _ (keccakRound_length b c)
  have hc : roundConstants = 1 :: roundConstants.tail := rfl
  rw [keccakF, hc, List.foldl_cons]
  exact h _ _ (keccakRound_length a _)

theorem sha3_length (m : Bytes) : (sha3_256 m).length = 32 := by
  have h : ∀ (n : Nat) (bs : Bytes) (st : List Nat), st.length = 25 → (sha3Absorb n bs st).length = 25 := by
    intro n
    induction n with
    | zero => exact fun _ _ h => h
    | succ n ih => exact fun _ _ _ => ih _ _ (keccakF_length _)
  have hl : ∀ st : List Nat, st.length = 25 → ((st.take 4).flatMap (natLE 8)).length = 32 := by
    intro st hs
    match st, hs with
    | a :: b :: c :: d :: r, _ => rfl
  exact hl _ (h _ _ _ rfl)

/-! ## Witnesses -/

theorem witness_StepRunsTheFrontCommand :
    (∃ (c : Instr) (r : List Instr) (s : State), s.pending = c :: r) ∧ (∃ s : State, s.pending = []) ∧
    (∃ s : State, s.ckptBusy = false) :=
  ⟨⟨.stepBoundary, [], { up with pending := [.stepBoundary] }, rfl⟩, ⟨up, rfl⟩, up, rfl⟩

theorem witness_StepKeepsCountsShown : ∃ s t : State, s.countsShown ∧ step s = .next t :=
  ⟨State.reset, { State.reset.servePorts.serveStore.showCounts with fresh := State.reset.servePorts.serveStore.fresh + 1 },
    by unfold State.countsShown; decide +kernel, by unfold step; rfl⟩

theorem witness_EndOfCommandFrame : ∃ s t : State, ok s = .next t ∧ s.countsShown ∧ Registers.wf s.regs = true :=
  ⟨State.reset, _, rfl, by unfold State.countsShown; decide +kernel, by decide +kernel⟩

def switchTo (code mhz : Nat) : State := gated up (sub0 Op.setProfile (natLE 1 code ++ [0] ++ natLE 2 mhz))

theorem witness_ProfileSwitch :
    (∃ (s : State) (q : Sub) (r : List Sub) (mhz : Nat), s.front q r Op.setProfile ∧ s.admitted = false ∧
      s.rd F.NODE_PROFILE_SWITCHING = 0 ∧ (∀ x ∈ s.solver, x.2.handle = none) ∧
      (∀ x ∈ s.age.queue, x.calibration = true ∨ x.running = []) ∧
      s.profileClock (q.p 0 1) (q.p 2 2) = some mhz ∧ q.p 0 1 ≠ s.profile) ∧
    (∃ (s : State) (q : Sub) (r : List Sub), s.front q r Op.setProfile ∧ s.admitted = false ∧
      s.profileClock (q.p 0 1) (q.p 2 2) = some (s.rd F.NODE_PROFILE_TOWER_MHZ) ∧ q.p 0 1 = s.profile) ∧
    (∃ (s : State) (q : Sub) (r : List Sub), s.front q r Op.setProfile ∧ s.admitted = false ∧
      s.profileClock (q.p 0 1) (q.p 2 2) = none) ∧
    (∃ (s : State) (q : Sub) (r : List Sub), s.front q r Op.setProfile ∧ s.rd F.NODE_PROFILE_SWITCHING = 1) ∧
    (∃ s : State, s.power.target = some (3, 1500)) ∧ (∃ s : State, s.power.target = none) :=
  ⟨⟨switchTo 0 1100, _, [], 1100, gated_front _ _ _ rfl (by decide), rfl, by decide +kernel, by decide +kernel,
      by decide +kernel, by decide +kernel, by decide +kernel⟩,
   ⟨switchTo 1 0, _, [], gated_front _ _ _ rfl (by decide), rfl, by decide +kernel, by decide +kernel⟩,
   ⟨switchTo 3 0, _, [], gated_front _ _ _ rfl (by decide), rfl, by decide +kernel⟩,
   ⟨gated (up.wr F.NODE_PROFILE_SWITCHING 1) (sub0 Op.setProfile (zeros 4)), _, [], gated_front _ _ _ rfl (by decide),
    by decide +kernel⟩,
   ⟨{ up with power := { up.power with target := some (3, 1500) } }, rfl⟩, ⟨up, rfl⟩⟩

theorem witness_GateBackstopAndPowerCap :
    (∃ s : State, s.rd F.NODE_GATE_BACKSTOP_ACTIVE = 0 ∧ s.rd F.NODE_THERMAL_BACKSTOP_ACTIVE = 0) ∧
    (∃ (avg : BitVec 16) (s : State), s.rd F.NODE_GATE_BACKSTOP_ACTIVE = 0 ∧
      105 * s.rd F.NODE_POWER_CAP_CAP_ACTIVE < 100 * avg.toNat ∧ 8 < s.rd F.NODE_GATE_SLOTS) ∧
    (∃ (avg : BitVec 16) (s : State), 100 * avg.toNat ≤ 105 * s.rd F.NODE_POWER_CAP_CAP_ACTIVE) ∧
    (∃ s : State, s.rd F.NODE_GATE_BACKSTOP_ACTIVE = 1 ∧ s.power.avgW ≤ s.rd F.NODE_POWER_CAP_CAP_ACTIVE) ∧
    (∃ s : State, s.rd F.NODE_GATE_BACKSTOP_ACTIVE = 1 ∧ s.rd F.NODE_POWER_CAP_CAP_ACTIVE < s.power.avgW ∧
      8 < s.rd F.NODE_GATE_SLOTS) ∧
    (∃ s : State, s.rd F.NODE_GATE_BACKSTOP_ACTIVE = 1 ∧ s.rd F.NODE_POWER_CAP_CAP_ACTIVE < s.power.avgW ∧
      s.rd F.NODE_GATE_SLOTS ≤ 8) ∧
    (∃ s : State, s.job ≠ none ∧ s.power.capWaiting = true) :=
  let high : State := ({ up with power := { up.power with avgW := 65535 } } : State).wr F.NODE_GATE_BACKSTOP_ACTIVE 1
  ⟨⟨up, by decide +kernel, by decide +kernel⟩, ⟨65535, up, by decide +kernel, by decide +kernel, by decide +kernel⟩,
   ⟨0, up, by decide +kernel⟩, ⟨up.wr F.NODE_GATE_BACKSTOP_ACTIVE 1, by decide +kernel, by decide +kernel⟩,
   ⟨high, by decide +kernel, by decide +kernel, by decide +kernel⟩,
   ⟨high.wr F.NODE_GATE_SLOTS 8, by decide +kernel, by decide +kernel, by decide +kernel⟩,
   ⟨{ up with job := some ⟨0, 1, 0, 0, 1, 0, [], none, none, none, true⟩, power := { up.power with capWaiting := true } },
    by decide, rfl⟩⟩

/-- Step time runs. -/
def timed : State := { up with tb := { up.tb with running := true } }

theorem witness_StepBoundariesAndStepTime :
    (∃ s : State, s.ticking = true ∧ s.step ≠ 2 ^ 40 - 1) ∧
    (∃ s : State, s.ticking = true ∧ s.step = 2 ^ 40 - 1 ∧ s.tb.ended = false ∧ s.tbState ≠ Tb.free ∧ s.tbState ≠ Tb.lost) ∧
    (∃ s : State, s.ticking = true ∧ s.step = 2 ^ 40 - 1 ∧ s.tb.ended = false ∧ s.tbState = Tb.free) ∧
    (∃ s : State, s.ticking = true ∧ s.step = 2 ^ 40 - 1 ∧ s.tb.ended = true) ∧
    (∃ s : State, s.ticking = false) ∧ (∃ (s u : State) (t : Nat), t < 2 ^ 64 ∧ s.reach t = some u) :=
  let last := timed.setNow (2 ^ 64 - 1) 0
  ⟨⟨timed, by decide +kernel, by decide +kernel⟩,
   ⟨(timed.wr F.TB_STATUS_STATE Tb.locked).setNow (2 ^ 64 - 1) 0, by decide +kernel, by decide +kernel, by decide +kernel,
    by decide +kernel, by decide +kernel⟩,
   ⟨last, by decide +kernel, by decide +kernel, by decide +kernel, by decide +kernel⟩,
   ⟨{ last with tb := { last.tb with ended := true } }, by decide +kernel, by decide +kernel, by decide +kernel⟩,
   ⟨up, by decide +kernel⟩, ⟨timed, timed, 0, by decide, rfl⟩⟩

theorem witness_TickSymbolRoundTrip : ∃ id src ref hops stamp corr : Nat, id < 2 ^ 16 ∧ src < 2 ∧ ref < 2 ∧ hops < 64 ∧
    stamp < 2 ^ 64 ∧ corr < 2 ^ 32 := ⟨2 ^ 16 - 1, 1, 1, 63, 2 ^ 64 - 1, 2 ^ 32 - 1, by decide⟩

theorem reach_ahead (s : State) (t : Nat) (h : ¬t ≤ s.now) (h2 : (s.ticking && t / 2 ^ 24 == s.step) = true) :
    s.reach t = some (s.setNow t 0) := by rw [State.reach, if_neg h, if_pos h2]

/-- A good tick of time base 5 at step 3. -/
def tick5 : Bytes := mkTick 5 0 0 1 (3 * 2 ^ 24) 0

/-- Port 0 is UP and its delay published. -/
def linked : State := (timed.setPort 0 Port.up).wr (F.TB_PORT_DELAY_VALID 0) 1

/-- A follower of time base 5 on port 0. -/
def following : State := (({ linked with tb := { linked.tb with role := 1, running := false } } : State).wr F.TB_STATUS_TB_ID 5).wr
  F.TB_STATUS_PARENT_PORT 0

/-- A relay entry of time base 5 with port 0 as its parent. -/
def relaying : State := { linked with tb := { linked.tb with relays := [⟨1, 5, [0], [0], 254, 254⟩] } }

theorem witness_TicksDelaysAndArrivals :
    (∃ (stamp : BitVec 64) (s u : State), s.rd F.TB_STATUS_STATE = Tb.master ∧ s.ticking = true ∧ s.tb.lastStamp = none ∧
      s.now ≤ stamp.toNat ∧ stamp.toNat % 2 ^ (24 - s.rd F.TB_STATUS_TICK_LOG2) = 0 ∧ s.reach stamp.toNat = some u) ∧
    (∃ (stamp : BitVec 64) (s : State) (l : Nat), s.tb.lastStamp = some l ∧ stamp.toNat ≤ l) ∧
    (∃ (s : State) (r : Relay), s.tb.relays.find? (fun x => x.tbId == tkId tick5) = some r) ∧
    (∀ st ∈ [Port.up, Port.drained], ∃ (p : Fin 8) (s : State), s.portState p = st ∧ 15 ≤ (mget s.tb.meas p []).length) ∧
    (∃ (p : Fin 8) (s : State), s.portState p = Port.up ∧ (mget s.tb.meas p []).length < 15) ∧
    (∃ (p : Fin 8) (s : State), s.portState p ≠ Port.up ∧ s.portState p ≠ Port.draining ∧ s.portState p ≠ Port.drained) ∧
    (∀ st ∈ [Port.up, Port.draining, Port.drained], ∃ (p : Fin 8) (tick : Bytes) (s : State), s.portState p = st ∧ s.tb.role = 1 ∧
      tkGood tick = true ∧ tkId tick = s.rd F.TB_STATUS_TB_ID ∧ s.ticking = false) ∧
    (∃ (p : Fin 8) (tick : Bytes) (s u : State), s.portState p = Port.up ∧ s.tb.role = 1 ∧ tkGood tick = false ∧
      s.ticking = true ∧ s.reach 7 = some u ∧ u.now = 7) ∧
    (∃ (p : Nat) (tick : Bytes) (s : State), tkGood tick = true ∧ s.rd (F.TB_PORT_DELAY_VALID p) = 1 ∧
      tkSrc tick = s.rd F.TB_STATUS_SRC ∧ s.rd F.TB_STATUS_PARENT_PORT = p ∧ p ≠ 15 ∧ s.tb.lastStamp = none ∧
      tkStamp tick % 2 ^ (24 - s.rd F.TB_STATUS_TICK_LOG2) = 0) ∧
    (∃ (p : Nat) (s : State), s.rd (F.TB_PORT_DELAY_VALID p) = 0 ∧ (s.parentList 1).contains p = false ∧
      (s.parentList 0).contains p = false) ∧
    (∃ (s u v : State) (res : Nat),
      u = (({ s with tb := { s.tb with lastStamp := some (tkStamp tick5) } } : State).wr F.TB_STATUS_HOLD_STEPS 0).relayTick 0 res tick5 ∧
      v = u.showError (((2 ^ 16 * u.now + u.tb.fine : Nat) : Int) - (u.estimate 0 tick5 : Int)) ∧
      u.tbState ≠ Tb.lost ∧ v.tb.loadPending = false) ∧
    tkHops tick5 ≠ 63 ∧ tkHops (mkTick 5 0 0 63 0 0) = 63 ∧
    (∃ (s : State) (r : Relay), s.tb.relays.find? (fun x => x.tbId == tkId tick5) = some r ∧ s.tickPort 0 = true ∧
      r.primary.contains 0 = true ∧ tkSrc tick5 = 0 ∧ mfind s.tb.relayed 10 = none) ∧
    (∃ s : State, s.tickPort 0 = true ∧ mfind s.tb.relayed 10 = some (0, 4) ∧ 4 < tkStamp tick5) ∧
    (∃ (p : Fin 8) (tick : Bytes) (s : State), s.portState p = Port.up ∧ s.tb.role = 0 ∧ tkGood tick = true) :=
  ⟨⟨0, timed.wr F.TB_STATUS_STATE Tb.master, timed.wr F.TB_STATUS_STATE Tb.master, by decide +kernel, by decide +kernel,
    by decide +kernel, by decide +kernel, by decide +kernel, if_pos (by decide +kernel)⟩,
   ⟨4, { timed with tb := { timed.tb with lastStamp := some 4 } }, 4, rfl, by decide⟩, ⟨relaying, _, rfl⟩,
   fun st h => ⟨0, ({ linked with tb := { linked.tb with meas := [(0, List.replicate 15 100)] } } : State).setPort 0 st,
    by revert st; decide +kernel⟩,
   ⟨0, linked, by decide +kernel, by decide +kernel⟩, ⟨0, up, by decide +kernel⟩,
   fun st h => ⟨0, tick5, following.setPort 0 st, by revert st; decide +kernel⟩,
   ⟨0, [], { following with tb := { following.tb with running := true } }, _, by decide +kernel, by decide +kernel,
    by decide +kernel, by decide +kernel, reach_ahead _ _ (by decide +kernel) (by decide +kernel), by decide +kernel⟩,
   ⟨0, tick5, linked.wr F.TB_STATUS_PARENT_PORT 0, by decide +kernel, by decide +kernel, by decide +kernel, by decide +kernel,
    by decide +kernel, by decide +kernel⟩,
   ⟨9, following, by decide +kernel⟩, ⟨following, _, _, 0, rfl, rfl, by decide +kernel, by decide +kernel⟩,
   by decide +kernel, by decide +kernel, ⟨relaying, _, rfl, by decide +kernel⟩,
   ⟨{ relaying with tb := { relaying.tb with relayed := [(10, (0, 4))] } }, by decide +kernel⟩,
   ⟨0, tick5, linked, by decide +kernel, by decide +kernel, by decide +kernel⟩⟩

/-- The ports other than the parent whose last tick is at most 4 tick intervals old. -/
def fresher (s : State) (clk p : Nat) : Bool :=
  p != s.rd F.TB_STATUS_PARENT_PORT && ((mfind s.tb.portTick p).map (fun c => decide (clk ≤ c + s.intervals 4))).getD false

theorem fresher_iff (s : State) (clk p : Nat) : fresher s clk p = true ↔
    p ≠ s.rd F.TB_STATUS_PARENT_PORT ∧ ∃ c, mfind s.tb.portTick p = some c ∧ clk ≤ c + s.intervals 4 := by
  cases h : mfind s.tb.portTick p <;> simp [fresher, h]

theorem witness_HoldoverAndReference :
    (∃ s : State, s.tb.held = true) ∧ (∃ s : State, s.tb.held = false) ∧
    (∃ (p : Nat) (s : State) (fresh : Nat → Bool),
      (∀ p, fresh p = true ↔ p ≠ s.rd F.TB_STATUS_PARENT_PORT ∧ ∃ c, mfind s.tb.portTick p = some c ∧ 0 ≤ c + s.intervals 4) ∧
      s.tb.role = 1 ∧ s.tb.lastStamp ≠ none ∧ s.rd F.TB_STATUS_STATE = Tb.locked ∧ (s.parentList 0).find? fresh = some p) ∧
    (∀ st ∈ [Tb.acquiring, Tb.locked, Tb.holdover], ∃ (l : Nat) (s : State), s.tb.role = 1 ∧ s.tb.lastStamp = some l ∧
      s.rd F.TB_STATUS_STATE = st ∧ s.tb.portTick = []) ∧
    (∃ s : State, s.tb.role = 3 ∧ s.rd F.TB_STATUS_STATE = Tb.holdover) ∧ (∃ s : State, s.tb.role = 0) ∧
    (∃ (since t : Nat) (s : State), s.tb.start = some t ∧ 1000000 ≤ since) ∧
    (∃ s : State, s.tb.start = none) ∧ (∃ s : State, s.rd F.TB_STATUS_STATE = Tb.master) ∧
    (∃ s : State, s.rd F.TB_STATUS_STATE ≠ Tb.master) :=
  let late : State := { timed with tb := { timed.tb with role := 1, lastStamp := some 9 } }
  ⟨⟨{ up with tb := { up.tb with held := true } }, rfl⟩, ⟨up, rfl⟩,
   ⟨1, ({ late with tb := { late.tb with portTick := [(1, 9)] } } : State).wr F.TB_STATUS_STATE Tb.locked,
    fresher _ 0, fun p => fresher_iff _ 0 p, by decide +kernel, by decide +kernel, by decide +kernel, by decide +kernel⟩,
   fun st h => ⟨9, late.wr F.TB_STATUS_STATE st, by revert st; decide +kernel⟩,
   ⟨({ timed with tb := { timed.tb with role := 3 } } : State).wr F.TB_STATUS_STATE Tb.holdover, by decide +kernel, by decide +kernel⟩,
   ⟨up, by decide⟩, ⟨1000000, 0, { up with tb := { up.tb with start := some 0 } }, rfl, by decide⟩, ⟨up, rfl⟩,
   ⟨up.wr F.TB_STATUS_STATE Tb.master, by decide +kernel⟩, ⟨up, by decide +kernel⟩⟩

/-- A TIMEBASE_BIND with its parameters. -/
def bind (role tickLog2 tbId period start : Nat) : State :=
  gated up (sub0 Op.timebaseBind (natLE 1 role ++ natLE 1 tickLog2 ++ natLE 2 tbId ++ natLE 4 0 ++ natLE 8 period ++ natLE 8 start))

theorem witness_TimebaseBindingReadingTimeAndAlarms :
    (∃ (s : State) (q : Sub) (r : List Sub), s.front q r Op.timebaseBind ∧ s.job = none ∧ q.p 0 1 = 0 ∧ q.p 1 1 = 0 ∧
      q.p 2 2 = 0 ∧ q.p 8 8 = 0 ∧ q.p 16 8 = 0) ∧
    (∃ (s : State) (q : Sub) (r : List Sub), s.front q r Op.timebaseBind ∧ s.job = none ∧ q.p 0 1 = 1 ∧ q.p 1 1 ≤ 23 ∧
      q.p 2 2 ≠ 0 ∧ 50000 ≤ q.p 8 8 ∧ q.p 8 8 ≤ 10 ^ 10 ∧ 1000 * 2 ^ q.p 1 1 ≤ q.p 8 8 ∧ q.p 8 8 ≤ 100000 * 2 ^ q.p 1 1 ∧
      q.p 16 8 = 0) ∧
    (∃ (s : State) (q : Sub) (r : List Sub), s.front q r Op.timebaseBind ∧ s.job = none ∧ s.tb.refPresent = true ∧
      q.p 0 1 = 2 ∧ q.p 1 1 ≤ 23 ∧ q.p 2 2 ≠ 0 ∧ 50000 ≤ q.p 8 8 ∧ q.p 8 8 ≤ 10 ^ 10 ∧ 1000 * 2 ^ q.p 1 1 ≤ q.p 8 8 ∧
      q.p 8 8 ≤ 100000 * 2 ^ q.p 1 1 ∧ q.p 16 8 % 2 ^ 24 = 0) ∧
    (∃ (s : State) (q : Sub) (r : List Sub), s.front q r Op.timebaseBind ∧ s.job = none ∧ q.p 0 1 = 3 ∧ q.p 1 1 ≤ 23 ∧
      q.p 2 2 ≠ 0 ∧ 50000 ≤ q.p 8 8 ∧ q.p 8 8 ≤ 10 ^ 10 ∧ 1000 * 2 ^ q.p 1 1 ≤ q.p 8 8 ∧ q.p 8 8 ≤ 100000 * 2 ^ q.p 1 1 ∧
      q.p 16 8 = 0) ∧
    (∃ (s : State) (q : Sub) (r : List Sub), s.front q r Op.timebaseBind ∧ q.p 0 1 = 1 ∧ q.p 8 8 < 50000) ∧
    (∃ (s : State) (q : Sub) (r : List Sub), s.front q r Op.timebaseBind ∧ q.p 0 1 = 1 ∧ q.p 16 8 ≠ 0) ∧
    (∃ (now : BitVec 64) (s : State), now.toNat < s.now) ∧
    (∃ (a : Fin 32) (s : State), s.rd (F.TB_ALARM_CTRL_ENABLE a) = 1 ∧ s.tb.loadPending = false ∧ s.tb.start = none ∧
      s.rd (F.TB_ALARM_TIME_TARGET a) ≤ s.now) ∧
    (∃ (a : Fin 32) (s : State), s.rd (F.TB_ALARM_CTRL_ENABLE a) = 0) :=
  ⟨⟨bind 0 0 0 0 0, _, [], gated_front _ _ _ rfl (by decide +kernel), rfl, by decide +kernel⟩,
   ⟨bind 1 0 9 50000 0, _, [], gated_front _ _ _ rfl (by decide +kernel), rfl, by decide +kernel⟩,
   ⟨bind 2 23 9 (10 ^ 10) (2 ^ 24), _, [], gated_front _ _ _ rfl (by decide +kernel), rfl, rfl, by decide +kernel⟩,
   ⟨bind 3 4 9 100000 0, _, [], gated_front _ _ _ rfl (by decide +kernel), rfl, by decide +kernel⟩,
   ⟨bind 1 0 9 49999 0, _, [], gated_front _ _ _ rfl (by decide +kernel), by decide +kernel⟩,
   ⟨bind 1 0 9 50000 1, _, [], gated_front _ _ _ rfl (by decide +kernel), by decide +kernel⟩,
   ⟨0, timed.setNow 1 0, by decide +kernel⟩,
   ⟨31, up.wr (F.TB_ALARM_CTRL_ENABLE 31) 1, by decide +kernel, rfl, rfl, by decide +kernel⟩,
   ⟨0, up, by decide +kernel⟩⟩

/-! ## Schedules and spires -/

/-- An entry of an action with an operand, due at the end of the step. -/
def ent (action : Nat) (operand : Bytes) : Entry := ⟨action, false, false, false, 0, 0, 0, 2 ^ 24 - 1, 0, 0, 0, operand⟩

/-- Terrace 0 in its step with one entry in a phase. -/
def stepping (e : Entry) (ph : EntryPhase) : State :=
  (timed.setTr 0 { timed.tr 0 with
    inStep := true, bankA := { (timed.tr 0).bankA with entries := [e] }, entries := [(0, { EntryState.init with phase := ph })]
  })

/-- An extent list of the 64 bytes from address 4096 on. -/
def exMem : Bytes := natLE 2 0x454C ++ [1] ++ zeros 5 ++ natLE 4 1 ++ zeros 52 ++ natLE 8 4096 ++ natLE 8 64

theorem witness_EntriesFireInOrder :
    (∃ (t : Fin 16) (s u : State) (e : Entry), s.entry t (s.rd (F.SCHED_STATUS_NEXT_ENTRY t)) = some e ∧ (s.tr t).inStep = true ∧
      s.tb.held = false ∧ s.reach (2 ^ 24 * s.rd (F.SCHED_STEP_STEP t) + e.firePhase) = some u) ∧
    (∃ (t : Fin 16) (s : State), (s.tr t).inStep = false) ∧ (∃ s : State, s.tb.held = true) ∧
    (∃ (t : Fin 16) (s : State), s.entry t (s.rd (F.SCHED_STATUS_NEXT_ENTRY t)) = none) ∧
    (∀ x ∈ [(Act.quiet, 0, 0, St.ok), (Act.tensorRun, 1, 0, St.badParam), (Act.collective, 512, 0, St.exactViolation),
        (Act.tensorRun, 1, 1, St.poisonConsumed)],
      ∃ (s : State) (e : Entry), s.entry 0 (s.rd (F.SCHED_STATUS_NEXT_ENTRY 0)) = some e ∧ e.action = x.1 ∧ e.action ≠ Act.reflect ∧
      e.action ≠ Act.digest ∧
      ((s.wr (F.SCHED_STATUS_NEXT_ENTRY 0) (s.rd (F.SCHED_STATUS_NEXT_ENTRY 0) + 1)).fireCheck 0 e).1 = x.2.2.2) ∧
    (∀ x ∈ [(exMem, [], St.ok), (zeros 64, [], St.badParam), (exMem, [0], St.poisonConsumed)], ∀ act ∈ [Act.reflect, Act.digest],
      ∃ (s u : State) (e : Entry) (es : List (Nat × Nat)), u = s.wr (F.SCHED_STATUS_NEXT_ENTRY 0) (s.rd (F.SCHED_STATUS_NEXT_ENTRY 0) + 1) ∧
      s.entry 0 (s.rd (F.SCHED_STATUS_NEXT_ENTRY 0)) = some e ∧ e.action = act ∧ u.readExtents e.addr = (x.2.2, es) ∧
      u.digestOk es = true) := by
  refine ⟨⟨0, stepping (ent Act.quiet (zeros 24)) .waiting, _, ent Act.quiet (zeros 24), by decide +kernel, by decide +kernel,
    by decide +kernel, rfl⟩, ⟨0, up, by decide +kernel⟩, ⟨{ up with tb := { up.tb with held := true } }, rfl⟩,
    ⟨0, up, by decide +kernel⟩, fun x h => ⟨{ stepping (ent x.1 (natLE 4 x.2.1 ++ zeros 20)) .waiting with
      poison := List.range x.2.2.1 }, ent x.1 (natLE 4 x.2.1 ++ zeros 20), ?_⟩,
    fun x h act ha => ⟨{ (stepping (ent act (zeros 24)) .waiting).rawWrite 0 x.1 with poison := x.2.1 }, _, ent act (zeros 24),
      if x.2.2 = St.ok then [(4096, 64)] else [], rfl, ?_⟩⟩
  · revert x; decide +kernel
  · revert x act; decide +kernel

/-- A running entry whose work is done. -/
def workDone : State := ((stepping (ent Act.move (zeros 24)) .running).setEs 0 0
  { EntryState.init with phase := .running, ready := true })

/-- A pair's terraces 0 and 8 with their entry 0 in two states, in the Sealed profile. -/
def paired (x y : EntryState) : State :=
  let s := (stepping (ent Act.move (zeros 24)) .running).setEs 0 0 x
  (s.setTr 8 (s.tr 0)).setEs 8 0 y |>.wr F.NODE_PROFILE_ACTIVE 2

theorem witness_EntriesEnd :
    (∃ (t : Fin 16) (i : Fin 4096) (s : State), (s.es t i).phase = .running ∧ (s.es t i).ready = true ∧ s.sealed = false) ∧
    (∃ (t : Fin 16) (i : Fin 4096) (s : State), (s.es t i).ready = false) ∧
    (∀ ph ∈ [EntryPhase.running, .done, .pending], ∀ st ∈ [0, St.badParam], ∃ (t i : Nat) (s : State) (x y : EntryState),
      s.sealed = true ∧ x = s.es t i ∧ y = s.es ((t + 8) % 16) i ∧ y.phase = ph ∧ y.ready = true ∧ y.status = st ∧
      (y.outcome = x.outcome ↔ st = 0)) ∧
    (∃ (t : Fin 16) (i : Fin 4096) (s u : State) (e : Entry), s.entry t i = some e ∧ e.action ≠ Act.endStep ∧
      (s.tr t).inStep = true ∧ (s.es t i).phase = .running ∧ e.action ≠ Act.digest ∧
      s.reach (2 ^ 24 * s.rd (F.SCHED_STEP_STEP t) + e.deadline) = some u ∧
      (∀ k ∈ u.members t, (u.es k i).phase = .running ∧ (u.es k i).ready = true)) ∧
    (∃ (t : Fin 16) (i : Fin 4096) (s u : State) (e : Entry), s.entry t i = some e ∧ e.action ≠ Act.endStep ∧
      (s.tr t).inStep = true ∧ (s.es t i).phase = .pending ∧
      s.reach (2 ^ 24 * s.rd (F.SCHED_STEP_STEP t) + e.deadline) = some u ∧ u.sealed = false ∧ (u.es t i).phase = .pending) ∧
    (∃ (t : Fin 16) (i : Fin 4096) (s u : State) (e : Entry), s.entry t i = some e ∧ e.action ≠ Act.endStep ∧
      (s.tr t).inStep = true ∧ (s.es t i).phase = .running ∧
      s.reach (2 ^ 24 * s.rd (F.SCHED_STEP_STEP t) + e.deadline) = some u ∧ u.sealed = true ∧
      (∃ k ∈ u.members t, (u.es k i).phase ≠ .done ∧ (u.es k i).phase ≠ .running)) ∧
    (∃ (t : Fin 16) (i : Fin 4096) (s : State), (s.es t i).phase = .done) := by
  refine ⟨⟨0, 0, workDone, by decide +kernel, by decide +kernel, by decide +kernel⟩, ⟨0, 4095, up, by decide +kernel⟩,
   fun ph h st h2 => ⟨8, 0, paired { EntryState.init with phase := ph, ready := true, status := st, partStatus := st }
     { EntryState.init with phase := .running, ready := true }, _, _, ?_, rfl, rfl, ?_⟩,
   ⟨0, 0, workDone, _, ent Act.move (zeros 24), by decide +kernel, by decide, by decide +kernel, by decide +kernel, by decide,
    rfl, by decide +kernel⟩,
   ⟨0, 0, stepping (ent Act.move (zeros 24)) .pending, _, ent Act.move (zeros 24), by decide +kernel, by decide, by decide +kernel,
    by decide +kernel, rfl, by decide +kernel, by decide +kernel⟩,
   ⟨8, 0, paired { EntryState.init with phase := .pending } { EntryState.init with phase := .running }, _,
    ent Act.move (zeros 24), by decide +kernel, by decide, by decide +kernel, by decide +kernel,
    reach_ahead _ _ (by decide +kernel) (by decide +kernel), by decide +kernel, 0, by decide +kernel⟩,
   ⟨0, 0, stepping (ent Act.move (zeros 24)) .done, by decide +kernel⟩⟩
  all_goals revert ph st; decide +kernel

/-- A job on terrace 0, which runs step 0. -/
def jobbed (e : Entry) (ph : EntryPhase) : State :=
  { (stepping e ph).wr (F.SCHED_STATUS_STATE 0) 1 with job := some ⟨0, 1, 0, 0, 1, 0, [], none, none, none, true⟩ }

theorem witness_SignalsAndStarting :
    (∃ (s : State) (step t status : Nat), bit s.jobMask t = true ∧ s.rd (F.SCHED_STATUS_STATE t) = 1 ∧
      s.rd (F.SCHED_STEP_STEP t) = step ∧ (s.tr t).inStep = true ∧ isSuccess status = true) ∧
    (∀ f ∈ [0, 1], ∃ (s : State) (step t ctr status : Nat), bit s.jobMask t = true ∧ s.rd (F.SCHED_STATUS_STATE t) = 1 ∧
      s.rd (F.SCHED_STEP_STEP t) = step ∧ (s.tr t).inStep = true ∧ isSuccess status = false ∧ s.rd (F.SCHED_CTR_FAILED t ctr) = f) ∧
    (∃ (s : State) (step t : Nat), s.rd (F.SCHED_STEP_STEP t) ≠ step) ∧
    (∃ (s : State) (t : Nat), (s.tr t).inStep = false ∧ (s.tr t).ranStep ≠ some 0) ∧
    (∃ (s : State) (t i : Nat), s.startable t i = true) := by
  let s := jobbed (ent Act.move (zeros 24)) .pending
  exact ⟨⟨s, 0, 0, St.ok, by decide +kernel⟩,
    fun f h => ⟨s.wr (F.SCHED_CTR_FAILED 0 63) f, 0, 0, 63, St.badParam, by revert f; decide +kernel⟩,
    ⟨s, 1, 0, by decide +kernel⟩, ⟨up, 15, by decide +kernel⟩, ⟨s, 0, 0, by decide +kernel⟩⟩

/-- A state in which an entry may start, in the Sealed profile. -/
def sealedJob (e : Entry) (t : Nat) : State :=
  let s := (jobbed e .pending).wr F.NODE_PROFILE_ACTIVE 2
  { ((s.setTr t (s.tr 0)).wr (F.SCHED_STATUS_STATE t) 1) with job := some ⟨0, 0x101, 0, 0, 1, 0, [], none, none, none, true⟩ }

theorem witness_StartableEntriesStart :
    (∀ act ∈ [Act.tensorRun, Act.move, Act.vectorProgram, Act.solve, Act.collective, Act.fieldWait, Act.reflect, Act.digest,
      Act.quiet, Act.recordMark], ∃ (t : Fin 16) (i : Fin 4096) (s : State) (e : Entry), s.entry t i = some e ∧
      s.startable t i = true ∧ e.action = act ∧ (s.startEntry t i).sealed = false ∧
      ((s.startEntry t i).cslot (e.op 16 1 % 16)).live = none) ∧
    (∃ (t : Fin 16) (i : Fin 4096) (s : State) (e : Entry), s.entry t i = some e ∧ s.startable t i = true ∧
      e.action = Act.recordMark ∧ (s.startEntry t i).sealed = true ∧ 8 ≤ t.val) ∧
    (∃ (t : Fin 16) (i : Fin 4096) (s : State) (e : Entry), s.entry t i = some e ∧ e.action = Act.barrier ∧
      s.startable t i = true ∧ ((s.startEntry t i).cslot (e.op 19 1 % 16)).live = none) ∧
    (∃ (t : Fin 16) (i : Fin 4096) (s : State) (e : Entry), s.entry t i = some e ∧ e.action = Act.barrier ∧
      s.startable t i = false ∧ (s.es t i).phase = .running) ∧
    (∃ (t : Fin 16) (i : Fin 4096) (s : State), s.startable t i = false ∧ (s.es t i).phase ≠ .running) := by
  refine ⟨fun act h => ⟨0, 0, jobbed (ent act (zeros 24)) .pending, ent act (zeros 24), ?_⟩,
    ⟨8, 0, sealedJob (ent Act.recordMark (zeros 24)) 8, ent Act.recordMark (zeros 24), by decide +kernel⟩,
    ⟨0, 0, jobbed (ent Act.barrier (zeros 3 ++ [0xFF])) .pending, ent Act.barrier (zeros 3 ++ [0xFF]), by decide +kernel⟩,
    ⟨0, 0, jobbed (ent Act.barrier (zeros 3)) .running, ent Act.barrier (zeros 3), by decide +kernel⟩,
    ⟨15, 4095, up, by decide +kernel⟩⟩
  revert act
  decide +kernel

/-- A field chunk of 8 bytes of step u, whole or with a wrong check. -/
def fieldChunk (u : Nat) (good : Bool) : Bytes :=
  let m := chunkMsg 1 0 0 0 0 u 0 0 8 0 (zeros 9)
  if good then m else m ++ [1]

/-- The node takes chunks of step 0 for slot 0 of terrace 0; chunk 0 has come if `got`, and failed `fails` times. -/
def fielding (got : Bool) (fails : Nat) : State :=
  let s := (timed.wr (F.SCHED_FIELD_VALID 0 0 0) 1).wr (F.SCHED_FIELD_STEP 0 0 0) 0
  s.setFields [⟨0, 0, 0, 65536, if got then [0] else [], none, [(0, fails)]⟩]

/-- A field map with one buffer at address 0. -/
def field0 : FieldMap := ⟨0, 0, 1, 0, 0, true⟩
/-- A pending FIELD_SEND of 1 byte from address 0 on field 0. -/
def sending : State :=
  let s := jobbed (ent Act.fieldSend (zeros 4 ++ [1, 0, 0, 0])) .pending
  s.setTr 0 { s.tr 0 with bankA := { (s.tr 0).bankA with fields := [field0] } }

theorem witness_FieldsAreSentAndReceived :
    (∃ (t : Fin 16) (i : Fin 4096) (s u : State) (e : Entry), s.entry t i = some e ∧ s.startable t i = true ∧
      e.action = Act.fieldSend ∧ u = s.startEntry t i ∧ (u.liveBank t).fields[e.op 16 1 % 64]? = none) ∧
    (∃ (t : Fin 16) (i : Fin 4096) (s u : State) (e : Entry) (f : FieldMap), s.entry t i = some e ∧ s.startable t i = true ∧
      e.action = Act.fieldSend ∧ u = s.startEntry t i ∧ (u.liveBank t).fields[e.op 16 1 % 64]? = some f ∧
      (∀ k ∈ u.members t, (u.es k i).phase = .running)) ∧
    (∃ (t : Fin 16) (i : Fin 4096) (s u : State) (e : Entry) (f : FieldMap), s.entry t i = some e ∧ s.startable t i = true ∧
      e.action = Act.fieldSend ∧ u = s.startEntry t i ∧ (u.liveBank t).fields[e.op 16 1 % 64]? = some f ∧
      (∃ k ∈ u.members t, (u.es k i).phase ≠ .running)) ∧
    (∃ len k : Nat, k < (len + 65535) / 65536) ∧
    (∃ (p : Bytes) (s : State), fld p 0 1 = 1 ∧ fld p 4 5 + 1 < s.rd (F.SCHED_STEP_STEP (fld p 1 1 % 16))) ∧
    (∃ (p : Bytes) (s : State), fld p 0 1 = 1 ∧ s.rd (F.SCHED_STEP_STEP (fld p 1 1 % 16)) + 1 < fld p 4 5) ∧
    (∃ (addr : Fin 281474976710656) (p : Bytes) (s : State), fld p 0 1 = 1 ∧ fld p 4 5 = s.rd (F.SCHED_STEP_STEP (fld p 1 1 % 16)) ∧
      s.homeStatus addr (fld p 16 4 % 2 ^ 19) true ≠ St.ok) ∧
    (∀ good ∈ [true, false], ∀ got ∈ [true, false], ∀ fails ∈ [2, 3], ∃ (addr : Fin 281474976710656) (p : Bytes) (s v : State)
      (held : Bool) (kept : List FieldRx) (rx : FieldRx), fld p 0 1 = 1 ∧ fld p 4 5 = s.rd (F.SCHED_STEP_STEP 0) ∧ fld p 1 1 = 0 ∧
      s.homeStatus addr (fld p 16 4 % 2 ^ 19) true = St.ok ∧ chunkOk p = good ∧
      held = (s.flag (F.SCHED_FIELD_VALID 0 0 0) && s.rd (F.SCHED_FIELD_STEP 0 0 0) == 0) ∧
      v = forEach (s.members 0) s (fun t x => x.fieldEntry t 0 0) ∧
      kept = v.coll.fields.filter (fun f => !(f.terr == 0 && (f.stamp + 3 ≤ 0 ||
        (f.slot == 0 && f.stamp % 3 == 0 && (f.stamp != 0 || !held))))) ∧
      rx = ((kept.find? (fun f => f.terr == 0 && f.slot == 0 && f.stamp == 0 && f.key == addr.val)).getD ⟨0, 0, 0, 65536, [], none, []⟩) ∧
      rx.got.contains 0 = got ∧ mget rx.fails 0 0 = fails) ∧
    (∃ p : Bytes, fld p 0 1 ≠ 1) := by
  refine ⟨⟨0, 0, jobbed (ent Act.fieldSend (zeros 4 ++ [1, 0, 0, 0])) .pending, _, ent Act.fieldSend (zeros 4 ++ [1, 0, 0, 0]),
      by decide +kernel, by decide +kernel, rfl, rfl, by decide +kernel⟩,
   ⟨0, 0, sending, _, ent Act.fieldSend (zeros 4 ++ [1, 0, 0, 0]), field0, by decide +kernel, by decide +kernel, rfl, rfl,
     by decide +kernel⟩,
   ⟨0, 0, ({ sending with job := some ⟨0, 0x101, 0, 0, 1, 0, [], none, none, none, true⟩ } : State).wr F.NODE_PROFILE_ACTIVE 2, _,
    ent Act.fieldSend (zeros 4 ++ [1, 0, 0, 0]), field0, by decide +kernel, by decide +kernel, rfl, rfl, by decide +kernel, 8,
      by decide +kernel⟩,
   ⟨65537, 1, by decide⟩,
   ⟨[1, 0, 0, 0, 4] ++ zeros 27, timed.wr (F.SCHED_STEP_STEP 0) 6, by decide +kernel⟩,
   ⟨[1, 0, 0, 0, 2] ++ zeros 27, timed, by decide +kernel⟩,
   ⟨0xFFFFFFFFFFFF, [1] ++ zeros 31, timed, by decide +kernel⟩,
   fun good hg got h2 fails hf => ⟨65536, fieldChunk 0 good, fielding got fails, _, _, _, _, ?_, ?_, ?_, ?_, ?_, rfl, rfl, rfl, rfl, ?_⟩,
   ⟨zeros 32, by decide⟩⟩
  all_goals revert good got fails; decide +kernel

theorem witness_EndOfStep :
    (∃ (t : Fin 16) (i : Fin 4096) (s : State), s.sealed = false ∧ s.stepDone t i = true) ∧
    (∃ (t : Fin 16) (i : Fin 4096) (s : State), ∃ k ∈ s.members t, s.stepDone k i = false) ∧
    (∃ (t : Fin 16) (i : Fin 4096) (s : State), s.sealed = true ∧ s.stepDone (t % 8) i = true ∧
      s.stepDone (t % 8 + 8) i = true ∧ s.stepDigest (t.val % 8) = s.stepDigest (t.val % 8 + 8)) ∧
    (∃ (t : Fin 16) (i : Fin 4096) (s : State), s.sealed = true ∧ s.stepDone (t % 8) i = true ∧
      s.stepDone (t % 8 + 8) i = true ∧ (s.es (t.val % 8) 0).status ≠ (s.es (t.val % 8 + 8) 0).status ∧ 0 < i.val) ∧
    (∃ (s : State) (t i : Nat) (e : Entry), s.entry t i = some e ∧ s.endFailed t i = false) ∧
    (∃ (s : State) (t i : Nat) (e : Entry), s.entry t i = some e ∧ s.endFailed t i = true) ∧
    (∃ s w : State, w.step = s.rd (F.SCHED_STEP_STEP 0)) ∧ (∃ s w : State, w.step = s.rd (F.SCHED_STEP_STEP 0) + 1) ∧
    (∃ s w : State, w.step = s.rd (F.SCHED_STEP_STEP 0) + 2) :=
  let s := jobbed (ent Act.endStep (zeros 24)) .pending
  let two : State := s.setTr 0 { s.tr 0 with
    bankA := { (s.tr 0).bankA with entries := [ent Act.move (zeros 24), ent Act.endStep (zeros 24)] },
    entries := [(0, { EntryState.init with phase := .done, status := 1 }), (1, { EntryState.init with phase := .pending })] }
  let waits : Entry := { ent Act.endStep (zeros 24) with waitEn := true, waitVal := 1 }
  ⟨⟨0, 0, s, by decide +kernel⟩, ⟨0, 0, up, 0, by decide +kernel⟩,
   ⟨0, 0, (s.setTr 8 (s.tr 0)).wr F.NODE_PROFILE_ACTIVE 2, by decide +kernel⟩,
   ⟨0, 1, ((two.setTr 8 (two.tr 0)).setEs 8 0 { EntryState.init with phase := .done }).wr F.NODE_PROFILE_ACTIVE 2, by decide +kernel⟩,
   ⟨s, 0, 0, ent Act.endStep (zeros 24), by decide +kernel⟩,
   ⟨(jobbed waits .pending).wr (F.SCHED_CTR_FAILED 0 0) 1, 0, 0, waits, by decide +kernel⟩,
   ⟨timed, timed, by decide +kernel⟩, ⟨timed, timed.setNow (2 ^ 24) 0, by decide +kernel⟩,
   ⟨timed, timed.setNow (2 ^ 25) 0, by decide +kernel⟩⟩

/-- A SCHEDULE_LOAD and a SCHEDULE_ARM of a mask. -/
def loading (mask : Nat) : State := gated timed (sub0 Op.scheduleLoad (natLE 2 mask ++ zeros 14))
def arming (mask op : Nat) : State := gated (timed.wr (F.SCHED_STATUS_INACTIVE_VALID 0) 1) (sub0 Op.scheduleArm (natLE 2 mask ++ natLE 1 op))

theorem witness_SchedulesLoadAndArm :
    (∃ (s u : State) (q : Sub), s.takes q Op.scheduleLoad u ∧ q.p 0 2 = 0) ∧
    (∃ (s u : State) (q : Sub), s.takes q Op.scheduleLoad u ∧ q.p 0 2 ≠ 0 ∧ u.sealed = false ∧ u.armedIn (q.p 0 2) = true) ∧
    (∃ (s u : State) (q : Sub), s.takes q Op.scheduleLoad u ∧ u.sealed = true ∧ 256 ≤ q.p 0 2) ∧
    (∃ (s u : State) (q : Sub), s.takes q Op.scheduleLoad u ∧ q.p 0 2 ≠ 0 ∧ u.sealed = false ∧
      u.rd F.NODE_PROFILE_SWITCHING = 0 ∧ u.armedIn (q.p 0 2) = false ∧ u.ckpt.shrink = none ∧ u.backed (q.p 8 8) 128 = false) ∧
    (∃ (s u : State) (q : Sub), s.takes q Op.scheduleLoad u ∧ q.p 0 2 ≠ 0 ∧ u.sealed = false ∧
      u.rd F.NODE_PROFILE_SWITCHING = 0 ∧ u.armedIn (q.p 0 2) = false ∧ u.ckpt.shrink = none ∧ u.backed (q.p 8 8) 128 = true ∧
      u.poisoned (q.p 8 8) 128 = true) ∧
    (∃ (s u : State) (q : Sub) (f : ImgFail), s.takes q Op.scheduleLoad u ∧ q.p 0 2 ≠ 0 ∧ u.sealed = false ∧
      u.rd F.NODE_PROFILE_SWITCHING = 0 ∧ u.armedIn (q.p 0 2) = false ∧ u.ckpt.shrink = none ∧ u.backed (q.p 8 8) 128 = true ∧
      u.poisoned (q.p 8 8) 128 = false ∧ worstFail ((terraces (q.p 0 2)).map (fun t =>
        u.imgCheck t (u.readNat (q.p 8 8 + 8 * t) 8) u.admitted)) = some f) ∧
    (∃ (s u : State) (q : Sub), s.takes q Op.scheduleArm u ∧ q.p 0 2 ≠ 0 ∧ u.sealed = false ∧ u.ckpt.shrink = some ⟨0, 0, 0, false, []⟩) ∧
    (∃ (s u : State) (q : Sub), s.takes q Op.scheduleArm u ∧ q.p 2 1 = 0 ∧ q.p 0 2 ≠ 0 ∧ u.sealed = false ∧
      u.ckpt.shrink = none ∧ (∀ t ∈ u.named (q.p 0 2), u.rd (F.SCHED_STATUS_ARMED t) = 0 ∧
        u.rd (F.SCHED_STATUS_INACTIVE_VALID t) = 1)) ∧
    (∃ (s u : State) (q : Sub), s.takes q Op.scheduleArm u ∧ q.p 2 1 = 0 ∧ q.p 0 2 ≠ 0 ∧ u.sealed = false ∧
      u.ckpt.shrink = none ∧ (∀ t ∈ u.named (q.p 0 2), u.rd (F.SCHED_STATUS_ARMED t) = 0) ∧
      (∃ t ∈ u.named (q.p 0 2), u.rd (F.SCHED_STATUS_INACTIVE_VALID t) = 0)) ∧
    (∃ (s u : State) (q : Sub), s.takes q Op.scheduleArm u ∧ q.p 2 1 = 0 ∧ q.p 0 2 ≠ 0 ∧ u.sealed = false ∧
      u.ckpt.shrink = none ∧ (∃ t ∈ u.named (q.p 0 2), u.rd (F.SCHED_STATUS_ARMED t) = 1)) ∧
    (∀ step ∈ [0, 9], ∃ (s u : State) (q : Sub), s.takes q Op.scheduleArm u ∧ q.p 2 1 = 1 ∧ q.p 0 2 ≠ 0 ∧ u.sealed = false ∧
      u.ckpt.shrink = none ∧ (∀ t ∈ u.named (q.p 0 2), u.rd (F.SCHED_STATUS_ARMED t) = 1 ∧
        u.tooLate (u.rd (F.SCHED_ARM_STEP_STEP t)) = decide (step = 0))) ∧
    (∃ (s u : State) (q : Sub), s.takes q Op.scheduleArm u ∧ q.p 2 1 = 2 ∧ q.p 0 2 ≠ 0 ∧ u.sealed = false ∧
      u.ckpt.shrink = none) := by
  refine ⟨⟨loading 0, _, _, gated_takes _ _ _ rfl (by decide +kernel), by decide +kernel⟩,
   ⟨gated (timed.wr (F.SCHED_STATUS_ARMED 3) 1) (sub0 Op.scheduleLoad (natLE 2 8)), _, _,
    gated_takes _ _ _ rfl (by decide +kernel), by decide +kernel⟩,
   ⟨gated (timed.wr F.NODE_PROFILE_ACTIVE 2) (sub0 Op.scheduleLoad (natLE 2 256)), _, _,
    gated_takes _ _ _ rfl (by decide +kernel), by decide +kernel⟩,
   ⟨gated timed (sub0 Op.scheduleLoad (natLE 2 1 ++ zeros 6 ++ natLE 8 0xFFFFFFFFFFC0)), _, _,
    gated_takes _ _ _ rfl (by decide +kernel), by decide +kernel⟩,
   ⟨gated { timed with poison := [15] } (sub0 Op.scheduleLoad (natLE 2 1 ++ zeros 14)), _, _,
    gated_takes _ _ _ rfl (by decide +kernel), by decide +kernel⟩,
   ⟨loading 1, _, _, (3, St.badParam, 0, 0, 0), gated_takes _ _ _ rfl (by decide +kernel), by decide +kernel⟩,
   ⟨gated { timed with ckpt := { timed.ckpt with shrink := some ⟨0, 0, 0, false, []⟩ } } (sub0 Op.scheduleArm (natLE 2 1)), _, _,
    gated_takes _ _ _ rfl (by decide +kernel), by decide +kernel⟩,
   ⟨arming 1 0, _, _, gated_takes _ _ _ rfl (by decide +kernel), by decide +kernel⟩,
   ⟨arming 2 0, _, _, gated_takes _ _ _ rfl (by decide +kernel), by decide +kernel⟩,
   ⟨gated (timed.wr (F.SCHED_STATUS_ARMED 15) 1) (sub0 Op.scheduleArm (natLE 2 0x8000 ++ [0#8])), _, _,
    gated_takes _ _ _ rfl (by decide +kernel), by decide +kernel⟩,
   fun step h => ⟨gated ((timed.wr (F.SCHED_STATUS_ARMED 0) 1).wr (F.SCHED_ARM_STEP_STEP 0) step)
      (sub0 Op.scheduleArm (natLE 2 1 ++ natLE 1 1)), _, _, gated_takes _ _ _ rfl (by decide +kernel), by revert step; decide +kernel⟩,
   ⟨arming 1 2, _, _, gated_takes _ _ _ rfl (by decide +kernel), by decide +kernel⟩⟩

/-- CAP_W is a read-write field of 16 bits, ENABLE of the scrub one of 1 bit. -/
theorem witness_RegisterFieldsObeyTheirAccessTypes : ∃ (a lo w : Nat) (acc : Access), (lo, w, acc) ∈ fieldsAt a :=
  ⟨R.NODE_POWER_CAP, 0, 16, .rw, by decide +kernel⟩

theorem witness_ControlRegisterWrites :
    (∃ (a : BitVec 48) (wide : Bool) (s : State), s.alive = true ∧ isControl a.toNat = true ∧
      a.toNat % (if wide then 8 else 4) = 0 ∧ reservedBlock a.toNat = false) ∧
    (∃ (a : BitVec 48) (wide : Bool), a.toNat % (if wide then 8 else 4) ≠ 0) ∧
    (∃ a : BitVec 48, isControl a.toNat = true ∧ reservedBlock a.toNat = true) ∧
    (∃ (v : BitVec 64) (s : State), s.alive = true ∧ v.toNat.testBit 8 = true) ∧
    (∃ (v : BitVec 64) (s : State), s.alive = true ∧ v.toNat.testBit 8 = false) ∧ (∃ s : State, s.ready = true) :=
  ⟨⟨BitVec.ofNat 48 R.NODE_POWER_CAP, true, up, by decide +kernel⟩, ⟨4, true, by decide⟩,
   ⟨0xF000000C0000, by decide +kernel⟩, ⟨256, up, by decide +kernel⟩,
   ⟨255, up, by decide +kernel⟩, ⟨up, by decide +kernel⟩⟩

/-- The core of spire 0 runs, with x1 = a and x2 = b, and mtvec 0x100. -/
def core (a b : Word) : State :=
  (timed.setSp 0 { timed.sp 0 with x := [(1, a), (2, b)], mtvec := 0x100, pc := 0x40 }).wr (F.SPIRE_STATUS_CORE 0) 1

theorem witness_SpireInstructionsCompleteOrDoNothing :
    (∃ rd r : Nat, rd ≠ 0 ∧ r ≠ rd) ∧ (∃ (n : Fin 288) (s : State), s.coreRuns n = false) :=
  ⟨⟨1, 0, by decide⟩, ⟨287, up, by decide +kernel⟩⟩

/-- An outstanding request of engine 0 to node 1, and a node with such requests. -/
def aReq (kind : Nat) (w : Waiter) : Req := ⟨0, 1, kind, 0, 0, 0, 3, 0, 0, 0, zeros 8, 0, 1, false, 24, w, []⟩

/-- The node with these outstanding requests. -/
def owing (s : State) (l : List Req) : State := { s with fab := { s.fab with reqs := l } }

/-- The core of spire 0 runs, and an entry of terrace 0 holds its mover, or its tensor engine, if `held`. -/
def holding (m held : Bool) : State :=
  let b : Bank := { ((core 0 0).tr 0).bankA with entries := [ent (if m then Act.move else Act.tensorRun) (natLE 4 1 ++ zeros 20)] }
  (core 0 0).setTr 0 { (core 0 0).tr 0 with
    inStep := held, bankA := b, entries := [(0, { EntryState.init with phase := if held then .running else .done, left := 1 })]
  }

theorem witness_SpireVendorInstructions :
    (∀ m ∈ [true, false], ∀ held ∈ [true, false], ∃ (n : Fin 288) (s : State), s.coreRuns n = true ∧ s.engineHeld n m = held) ∧
    (∀ m ∈ [true, false], ∃ (s : State) (n a : Nat), (s.sp n).wait = (if m then .mq a else .tq a) ∧
      s.engineHeld n m = false ∧ s.queueFull n m = false) ∧
    (∀ m ∈ [true, false], ∃ (s : State) (n a : Nat), (s.sp n).wait = (if m then .mq a else .tq a) ∧ s.queueFull n m = true) ∧
    (∃ (n : Fin 288) (rs1 : Fin 32) (s : State), s.coreRuns n = true ∧ ((s.sp n).xr rs1).toNat ≤ (s.sp n).doneT) ∧
    (∃ (n : Fin 288) (rs1 : Fin 32) (s : State), s.coreRuns n = true ∧ (s.sp n).doneM < ((s.sp n).xr rs1).toNat) ∧
    (∃ (n : Fin 288) (now : Nat) (s u : State), s.coreRuns n = true ∧ s.profile = 0 ∧ s.reach now = some u) ∧
    (∃ (n : Fin 288) (s : State), s.coreRuns n = true ∧ s.profile ≠ 0) ∧
    (∃ (n : Fin 288) (rs1 : Fin 32) (s : State), s.coreRuns n = true ∧ ((s.sp n).xr rs1).toNat ≤ s.now) ∧
    (∃ (n : Fin 288) (rs1 : Fin 32) (s : State), s.coreRuns n = true ∧ s.now < ((s.sp n).xr rs1).toNat) ∧
    (∃ (n : Fin 288) (t : Nat) (s u : State), (s.sp n).wait = .twait t ∧ s.reach t = some u) ∧
    (∃ (n : Fin 288) (rs1 : Fin 32) (s : State), s.coreRuns n = true ∧ (s.sp n).xr rs1 = 0) ∧
    (∃ (n : Fin 288) (rs1 : Fin 32) (s : State), s.coreRuns n = true ∧ (s.sp n).xr rs1 ≠ 0) := by
  refine ⟨fun m hm held h => ⟨0, holding m held, ?_⟩,
   fun m hm => ⟨(core 0 0).setSp 0 { (core 0 0).sp 0 with wait := if m then .mq 0 else .tq 0 }, 0, 0, ?_⟩,
   fun m hm => ⟨(core 0 0).setSp 0 { (core 0 0).sp 0 with
      wait := if m then .mq 0 else .tq 0, mq := List.replicate 8 ⟨0, none, none⟩, tq := List.replicate 8 ⟨0, none, none⟩ }, 0, 0, ?_⟩,
   ⟨0, 1, core 0 0, by decide +kernel⟩, ⟨0, 1, core 1 0, by decide +kernel⟩,
   ⟨0, 0, (core 0 0).wr F.NODE_PROFILE_ACTIVE 0, _, by decide +kernel, by decide +kernel, if_pos (by decide +kernel)⟩,
   ⟨0, core 0 0, by decide +kernel⟩, ⟨0, 1, core 0 0, by decide +kernel⟩, ⟨0, 1, core 1 0, by decide +kernel⟩,
   ⟨0, 0, (core 0 0).setSp 0 { (core 0 0).sp 0 with wait := .twait 0 }, _, by decide +kernel, if_pos (by decide +kernel)⟩,
   ⟨0, 0, core 0 0, by decide +kernel⟩, ⟨0, 1, core 1 0, by decide +kernel⟩⟩
  · revert m held; decide +kernel
  all_goals revert m; decide +kernel

theorem witness_SpireMemoryInstructions :
    (∃ (n : Fin 288) (s : State) (a l : Nat), s.coreRuns n = true ∧ s.sealed = false ∧ s.check.twins = [] ∧
      s.coreTarget a 8 false = (.here l, St.ok)) ∧
    (∃ (n : Fin 288) (s : State) (a l : Nat), s.coreRuns n = true ∧ s.sealed = false ∧ s.coreTarget a 8 true = (.here l, St.ok)) ∧
    (∀ w ∈ [true, false], ∃ (n : Fin 288) (s : State) (a l st : Nat), s.coreRuns n = true ∧ s.sealed = false ∧ st ≠ St.ok ∧
      s.coreTarget a 8 w = (.here l, st)) ∧
    (∀ w ∈ [true, false], ∀ d ∈ [0, 1], ∃ (n : Fin 288) (s : State) (a node l : Nat), s.coreRuns n = true ∧ s.sealed = false ∧
      s.coreTarget a 8 w = (.pond node l, St.ok) ∧ a % 8 = d ∧ s.stalls (spireEngine n) (.pond node l) = false ∧
      s.weirTraps (.pond node l) = false) ∧
    (∃ (n : Fin 288) (s : State) (node l : Nat), s.coreRuns n = true ∧ s.sealed = false ∧
      s.coreTarget (fabricAddr 1 64) 8 false = (.pond node l, St.ok) ∧ s.stalls (spireEngine n) (.pond node l) = true) ∧
    (∃ (n : Fin 288) (rs1 : Fin 32) (s : State), s.coreRuns n = true ∧ s.profile = 0 ∧ ((s.sp n).xr rs1).toNat % 4 ≠ 0 ∧
      isControl ((s.sp n).xr rs1).toNat = false ∧ isCommandPort ((s.sp n).xr rs1).toNat = false) ∧
    (∃ (n : Fin 288) (rs1 : Fin 32) (s : State) (l : Nat), s.coreRuns n = true ∧ s.profile = 0 ∧
      ((s.sp n).xr rs1).toNat % 8 ≠ 0 ∧ (s.coreTarget ((s.sp n).xr rs1).toNat 8 true).1 = .here l ∧ isControl l = true) ∧
    (∃ (n : Fin 288) (rs1 : Fin 32) (s : State) (l : Nat), s.coreRuns n = true ∧ s.profile = 0 ∧
      ((s.sp n).xr rs1).toNat % 8 = 0 ∧ s.coreTarget ((s.sp n).xr rs1).toNat 8 true = (.here l, St.ok)) ∧
    (∃ (n : Fin 288) (s : State) (op : AmoOp), s.coreRuns n = true ∧ s.profile = 0 ∧ op ≠ .lr ∧ op ≠ .sc) ∧
    (∃ (n : Fin 288) (s : State) (op : AmoOp), s.coreRuns n = true ∧ s.profile ≠ 0 ∧ s.sealed = false ∧ amoV op 1 = true) ∧
    (∃ (s : State) (n l : Nat), mfind s.resv n = some (l / 64 * 64)) ∧
    (∃ (s : State) (n l : Nat), mfind s.resv n ≠ some (l / 64 * 64)) ∧
    (∃ (n : Fin 288) (s : State), s.coreRuns n = true ∧ s.sealed = true) := by
  refine ⟨⟨0, core 64 0, 64, 64, by decide +kernel⟩, ⟨0, core 64 0, 64, 64, by decide +kernel⟩,
   fun w h => ⟨0, core 64 0, 0xFFFFFFFFFFF8, 0xFFFFFFFFFFF8, St.addressRefused, ?_⟩,
   fun w h d h2 => ⟨0, core 64 0, fabricAddr 1 64 + d, 1, 64 + d, ?_⟩,
   ⟨0, owing (core 64 0) (List.replicate 768 (aReq Kind.read (.core 0 1 8 false false))), 1, 64, by decide +kernel⟩,
   ⟨0, 1, (core 2 0).wr F.NODE_PROFILE_ACTIVE 0, by decide +kernel⟩,
   ⟨0, 1, (core 0xF00000010004 0).wr F.NODE_PROFILE_ACTIVE 0, 0xF00000010004, by decide +kernel⟩,
   ⟨0, 1, (core 64 0).wr F.NODE_PROFILE_ACTIVE 0, 64, by decide +kernel⟩,
   ⟨0, (core 64 0).wr F.NODE_PROFILE_ACTIVE 0, .swap, by decide +kernel⟩, ⟨0, core 64 0, .add, by decide +kernel⟩,
   ⟨{ core 0 0 with resv := [(0, 64)] }, 0, 127, by decide +kernel⟩, ⟨core 0 0, 0, 0, by decide +kernel⟩,
   ⟨0, (core 0 0).wr F.NODE_PROFILE_ACTIVE 2, by decide +kernel⟩⟩
  · revert w; decide +kernel
  · revert w d; decide +kernel

theorem witness_SpireFencesCsrsAndTraps :
    (∃ (n : Fin 288) (pred succ : Fin 16) (s : State), s.coreRuns n = true ∧ bit pred 0 = false ∧ bit succ 1 = false) ∧
    (∃ (n : Fin 288) (pred succ : Fin 16) (s : State), s.coreRuns n = true ∧ bit pred 0 = true ∧ bit succ 1 = false) ∧
    (∃ (n : Fin 288) (pred succ : Fin 16) (s : State), s.coreRuns n = true ∧ bit pred 0 = false ∧ bit succ 1 = true) ∧
    (∃ (n : Fin 288) (pred succ : Fin 16) (s : State), s.coreRuns n = true ∧ bit pred 0 = true ∧ bit succ 1 = true) ∧
    (∃ (s : State) (n : Nat), (s.sp n).wait = .fence ∧ s.postsOut n = true) ∧
    (∃ (s : State) (n : Nat), (s.sp n).wait = .fence ∧ s.postsOut n = false) ∧
    (∃ (n : Fin 288) (csr : Fin 4096) (s : State) (old : Nat), s.coreRuns n = true ∧ s.csrRead n csr = some old ∧
      csr.val / 1024 ≠ 3) ∧
    (∃ (n : Fin 288) (csr : Fin 4096) (s : State), s.coreRuns n = true ∧ (s.csrRead n csr).isSome = true ∧
      csr.val / 1024 = 3) ∧
    (∃ (n : Fin 288) (csr : Fin 4096) (s : State), s.coreRuns n = true ∧ s.csrRead n csr = none) ∧
    (∃ (s : State) (n : Nat), (s.sp n).mtvec ≠ 0) ∧
    (∃ (s : State) (n cause : Nat), (s.sp n).mtvec = 0 ∧ (s.sp n).entry = none ∧ cause < 256) :=
  let fencing : State := (core 0 0).setSp 0 { (core 0 0).sp 0 with wait := .fence }
  ⟨⟨0, 0xE, 0xD, core 0 0, by decide +kernel⟩, ⟨0, 1, 1, core 0 0, by decide +kernel⟩, ⟨0, 2, 2, core 0 0, by decide +kernel⟩,
   ⟨0, 15, 15, core 0 0, by decide +kernel⟩,
   ⟨owing fencing [aReq Kind.write (.corePost 0 none)], 0, by decide +kernel⟩, ⟨fencing, 0, by decide +kernel⟩,
   ⟨0, 0x305, core 0 0, 0x100, by decide +kernel⟩, ⟨0, 0xF14, core 0 0, by decide +kernel⟩,
   ⟨0, 0, core 0 0, by decide +kernel⟩, ⟨core 0 0, 0, by decide +kernel⟩,
   ⟨up, 0, 255, by decide +kernel⟩⟩

/-! ## Engines -/

/-- The mover of spire 0 holds a descriptor of an operation. -/
def moving (op : Nat) (worked : Bool) (st : Nat) : State :=
  timed.setSp 0 { timed.sp 0 with mover := some ⟨natLE 1 op ++ zeros 63, none, worked, st, MvWalk.init⟩ }
/-- The tensor engine of spire 0 holds a descriptor. -/
def tensing (d : Bytes) (worked : Bool) (st : Nat) : State :=
  timed.setSp 0 { timed.sp 0 with tens := some ⟨d, none, worked, st, MvWalk.init⟩ }

/-- A COPY of one row of 8 bytes from address 0 to address 64. -/
def copy8 : Bytes := zeros 4 ++ natLE 4 8 ++ natLE 8 0 ++ natLE 8 64 ++ natLE 4 1 ++ natLE 4 1 ++ zeros 32

/-- `copy8` with another OP and COUNT 1: as a GATHER, one element by the index at address 0. -/
def one8 (op : Nat) : Bytes := natLE 1 op ++ (copy8.take 56).drop 1 ++ natLE 4 1 ++ zeros 4

/-- A COPY of 8 bytes from one address to another. -/
def copyAt (src dst : Nat) : Bytes := zeros 4 ++ natLE 4 8 ++ natLE 8 src ++ natLE 8 dst ++ natLE 4 1 ++ natLE 4 1 ++ zeros 32

/-- Spire 0's mover runs a descriptor, as far as `w` says. -/
def walking (d : Bytes) (w : MvWalk) : State :=
  timed.setSp 0 { timed.sp 0 with mover := some ⟨d, none, false, 0, w⟩ }

/-- A run at its first row, with a row whose residue mismatched again. -/
def first (bad : Option Nat) : MvWalk := { MvWalk.init with started := true, bad := bad }

/-- Spire 0's mover holds a descriptor, in the Sealed profile. -/
def resealed (d : Bytes) : State :=
  (timed.wr F.NODE_PROFILE_ACTIVE 2).setSp 0 { timed.sp 0 with mover := some ⟨d, none, false, 0, MvWalk.init⟩ }

theorem witness_MoverDescriptorsRunAndComplete :
    (∀ op ∈ [0, 1, 2, 3], ∀ on ∈ [true, false], ∃ (n : Fin 288) (s : State) (r : DescRun), (s.sp n).mover = some r ∧
      r.worked = false ∧ r.walk.started = on ∧ mvOp r.desc = op) ∧
    (∃ (n : Fin 288) (s : State), (s.sp n).mover = none) ∧
    (∀ st ∈ [St.ok, St.targetDead], ∀ out ∈ [true, false], ∃ (n : Fin 288) (s : State) (r : DescRun), (s.sp n).mover = some r ∧
      r.worked = true ∧ s.unitOut n false = out ∧ (isSuccess r.outcome = true ↔ st = St.ok)) := by
  refine ⟨fun op h on h2 => ⟨0, walking (one8 op) { MvWalk.init with started := on }, _, rfl, ?_⟩, ⟨0, up, by decide +kernel⟩,
    fun st h out h2 => ⟨0, owing (moving 0 true st) (if out then [aReq Kind.write (.unit 0 false)] else []), _, rfl, ?_⟩⟩
  · revert op on; decide +kernel
  · revert st out; decide +kernel

theorem witness_MoverRowsMoveTheirBytes :
    (∀ op ∈ [0, 1, 2, 3], ∃ (s : State) (n : Nat) (r : DescRun) (a b : Nat) (ta tb : Target), (s.sp n).mover = some r ∧
      r.worked = false ∧ r.walk.started = true ∧ r.walk.acc = .none ∧ r.walk.off = 0 ∧ r.walk.row < mvItems r.desc ∧
      r.walk.bad ≠ some r.walk.row ∧ s.sealed = false ∧ s.check.twins = [] ∧ mvOp r.desc = op ∧ mvSrcHint r.desc ≠ 2 ∧
      (mvRowOp r.desc = false → s.poisoned (mvIdxWord r.desc r.walk.row) 4 = false) ∧
      (op ≠ 3 → s.mvAddr r.desc false r.walk.row = some a) ∧ s.mvAddr r.desc true r.walk.row = some b ∧ 0 < mvLen r.desc ∧
      (op ≠ 3 → s.coreTarget a (mvLen r.desc) false = (ta, St.ok)) ∧ s.coreTarget b (mvLen r.desc) true = (tb, St.ok) ∧
      ta.remote = false ∧ tb.remote = false) ∧
    (∃ (s : State) (n : Nat) (r : DescRun), (s.sp n).mover = some r ∧ r.worked = false ∧ r.walk.started = true ∧
      mvItems r.desc ≤ r.walk.row) ∧
    (∃ (s : State) (n : Nat) (r : DescRun), (s.sp n).mover = some r ∧ r.worked = false ∧ r.walk.started = true ∧
      r.walk.acc = .none ∧ r.walk.row < mvItems r.desc ∧ s.check.twins = [] ∧ mvRowOp r.desc = false ∧
      s.poisoned (mvIdxWord r.desc r.walk.row) 4 = true) ∧
    (∃ (s : State) (n : Nat) (r : DescRun), (s.sp n).mover = some r ∧ r.worked = false ∧ r.walk.started = true ∧
      r.walk.acc = .none ∧ r.walk.row < mvItems r.desc ∧ s.check.twins = [] ∧ mvRowOp r.desc = true ∧
      r.walk.bad = some r.walk.row ∧ r.walk.off = 0) ∧
    (∃ (s : State) (n : Nat) (r : DescRun), (s.sp n).mover = some r ∧ r.worked = false ∧ r.walk.started = true ∧
      r.walk.acc = .none ∧ r.walk.row < mvItems r.desc ∧ s.check.twins = [] ∧ mvOp r.desc = 1 ∧
      s.poisoned (mvIdxWord r.desc r.walk.row) 4 = false ∧ s.mvAddr r.desc false r.walk.row = none) ∧
    (∀ x ∈ [(0xFFFFFFFFFFF0, false), (fabricAddr 1 64, true)], ∃ (s : State) (n a p st : Nat) (t : Target) (r : DescRun),
      (s.sp n).mover = some r ∧ r.worked = false ∧ r.walk.started = true ∧
      r.walk.acc = .none ∧ r.walk.row < mvItems r.desc ∧ s.check.twins = [] ∧ mvRowOp r.desc = true ∧ r.walk.bad = none ∧
      mvOp r.desc ≠ 3 ∧ s.mvAddr r.desc false r.walk.row = some a ∧ a = x.1 ∧
      p = s.mvPiece r.desc (some a) (s.mvAddr r.desc true r.walk.row) r.walk.off 8 ∧
      s.coreTarget (a + r.walk.off) p false = (t, st) ∧ t.remote = x.2 ∧ (st = St.ok ↔ x.2 = true) ∧
      s.stalls (spireEngine n) t = false) ∧
    (∃ (s : State) (a : Nat), s.localOf a = none) ∧
    (∃ (n : Fin 288) (s : State) (r : DescRun) (src dst : Nat → Nat), (s.sp n).mover = some r ∧ r.worked = false ∧
      r.walk = MvWalk.init ∧ s.sealed = false ∧ s.check.twins = [] ∧ mvOp r.desc = 0 ∧ mvSrcHint r.desc ≠ 2 ∧ 0 < mvLen r.desc ∧
      (∀ k < mvItems r.desc, ∃ (a b : Nat) (ta tb : Target), s.mvAddr r.desc false k = some a ∧
        s.mvAddr r.desc true k = some b ∧ s.coreTarget a (mvLen r.desc) false = (ta, St.ok) ∧ ta.remote = false ∧
        s.coreTarget b (mvLen r.desc) true = (tb, St.ok) ∧ tb.remote = false ∧ ta.loc = src k ∧ tb.loc = dst k)) := by
  let far : State := walking (natLE 1 1 ++ zeros 7 ++ natLE 8 0xFFFFFFFFFFFC ++ natLE 8 64 ++ zeros 24 ++ natLE 8 128 ++ natLE 4 1 ++ zeros 4)
    (first none)
  refine ⟨fun op h => ⟨walking (one8 op) (first none), 0, _, 0, 64, .here 0, .here 64, rfl, ?_⟩,
    ⟨walking copy8 { first none with row := 1 }, 0, _, rfl, by decide +kernel⟩,
    ⟨{ walking (one8 1) (first none) with poison := [0] }, 0, _, rfl, by decide +kernel⟩,
    ⟨walking copy8 (first (some 0)), 0, _, rfl, by decide +kernel⟩,
    ⟨far.rawWrite 128 [1], 0, _, rfl, by decide +kernel⟩,
    fun x h => ⟨walking (copyAt x.1 64) (first none), 0, x.1, _, if x.2 then St.ok else St.addressRefused,
      if x.2 then .pond 1 64 else .here x.1, _, rfl, ?_, ?_, ?_, ?_, ?_, ?_, ?_, ?_, ?_, rfl, rfl, ?_⟩,
    ⟨timed, fabricAddr 1 64, by decide +kernel⟩,
    ⟨0, walking copy8 MvWalk.init, _, fun _ => 0, fun _ => 64, rfl, by decide +kernel, rfl, by decide +kernel, rfl,
      by decide +kernel, by decide +kernel, by decide +kernel, fun k hk => ⟨0, 64, .here 0, .here 64, ?_⟩⟩⟩
  · revert op; decide +kernel
  all_goals first
    | (revert x; decide +kernel)
    | (have h1 : mvItems copy8 = 1 := by decide +kernel
       have h0 : k = 0 := by have : k < 1 := h1 ▸ hk; omega
       subst h0; decide +kernel)

/-- A tensor descriptor of one element: M, N, K and BATCH 1. -/
def tile1 (op : Nat) : Bytes := natLE 1 op ++ zeros 7 ++ natLE 4 1 ++ natLE 4 1 ++ natLE 4 1 ++ natLE 4 1 ++ zeros 104

theorem witness_TensorDescriptorsRun :
    (∀ op ∈ [1, 2, 3, 4], ∃ (n : Fin 288) (s : State) (run : DescRun), (s.sp n).tens = some run ∧
      run.worked = false ∧ tnOp run.desc = op) ∧
    (∀ op ∈ [1, 2, 3], ∃ (n : Fin 288) (s : State) (run : DescRun), (s.sp n).tens = some run ∧ run.worked = false ∧
      tnOp run.desc = op ∧ s.tnChecked run.desc = true ∧ 0 < tnBatch run.desc * tnTilesM run.desc * tnTilesN run.desc) ∧
    (∃ (n : Fin 288) (s : State), (s.sp n).tens = none) ∧
    (∃ (n : Fin 288) (s : State) (run : DescRun), (s.sp n).tens = some run ∧ run.worked = true) ∧
    (∃ d : Bytes, tnN d - 64 * 0 ≠ 0 ∧ fmtWidth (tnOutFmt d) / 8 ≠ 0) := by
  refine ⟨fun op h => ⟨0, tensing (tile1 op) false 0, _, rfl, rfl, ?_⟩,
    fun op h => ⟨0, (tensing (tile1 op) false 0).wr F.NODE_PROFILE_ACTIVE 2, _, rfl, rfl, ?_⟩,
    ⟨0, up, by decide +kernel⟩, ⟨0, tensing (tile1 1) true 0, _, rfl, rfl⟩,
    ⟨zeros 2 ++ natLE 1 9 ++ zeros 9 ++ natLE 4 1 ++ zeros 112, by decide +kernel⟩⟩
  all_goals revert op; decide +kernel

theorem witness_TensorRunsWriteOnlyTheirOutput : ∃ (r : TnRun) (n : Nat) (d : Bytes) (a : Nat), r.s.ckpt.copying = false ∧
    0 < tnBatch d ∧ 0 < tnM d ∧ (∀ b < tnBatch d, ∀ i < tnM d, a < scratchAddr n (tnRow d 3 b i) ∨
      scratchAddr n (tnRow d 3 b i) + tnN d * (fmtWidth (tnOutFmt d) / 8) ≤ a) :=
  ⟨⟨timed, false, false⟩, 0, zeros 8 ++ natLE 4 1 ++ natLE 4 1 ++ natLE 4 1 ++ natLE 4 1 ++ zeros 104, 0, by decide +kernel⟩

/-- A CTX_SEAL over no bytes: their CRC-64 is that of the empty string. -/
def sealDesc (crc : Nat) : Bytes := natLE 1 5 ++ zeros 79 ++ natLE 8 crc ++ zeros 40

theorem witness_ContextsAndTensorCompletion :
    (∃ (n : Fin 288) (s : State) (run : DescRun), (s.sp n).tens = some run ∧ run.worked = false ∧ tnOp run.desc = 5 ∧
      s.poisoned (scratchAddr n (tnOff run.desc 3)) (fld run.desc 88 4) = false ∧
      crc64 (s.readBytes (scratchAddr n (tnOff run.desc 3)) (fld run.desc 88 4)) = fld run.desc 80 8) ∧
    (∃ (n : Fin 288) (s : State) (run : DescRun), (s.sp n).tens = some run ∧ run.worked = false ∧ tnOp run.desc = 5 ∧
      s.poisoned (scratchAddr n (tnOff run.desc 3)) (fld run.desc 88 4) = false ∧
      crc64 (s.readBytes (scratchAddr n (tnOff run.desc 3)) (fld run.desc 88 4)) ≠ fld run.desc 80 8) ∧
    (∃ (n : Fin 288) (s : State) (run : DescRun), (s.sp n).tens = some run ∧ run.worked = false ∧ tnOp run.desc = 5 ∧
      s.poisoned (scratchAddr n (tnOff run.desc 3)) (fld run.desc 88 4) = true) ∧
    (∃ (n : Fin 288) (s : State) (run : DescRun), (s.sp n).tens = some run ∧ run.worked = false ∧ tnOp run.desc = 6) ∧
    (∃ (n : Fin 288) (s : State) (r : DescRun), (s.sp n).tens = some r ∧ r.worked = true ∧ isSuccess r.status = true) ∧
    (∃ (n : Fin 288) (s : State) (r : DescRun), (s.sp n).tens = some r ∧ r.worked = true ∧ isSuccess r.status = false) :=
  ⟨⟨0, tensing (sealDesc (crc64 [])) false 0, _, rfl, by decide +kernel⟩,
   ⟨0, tensing (sealDesc (crc64 [] + 1)) false 0, _, rfl, by decide +kernel⟩,
   ⟨0, { tensing (natLE 1 5 ++ zeros 87 ++ natLE 4 64 ++ zeros 36) false 0 with poison := [scratchAddr 0 0 / 8] }, _, rfl,
    by decide +kernel⟩,
   ⟨0, tensing (natLE 1 6) false 0, _, rfl, by decide +kernel⟩,
   ⟨0, tensing [] true St.ok, _, rfl, by decide +kernel⟩,
   ⟨0, tensing [] true St.rangeExceeded, _, rfl, by decide +kernel⟩⟩

/-! ## Vectors -/

theorem witness_VectorElementsReadBack : ∃ w : Nat, 0 < w ∧ w ≤ 512 := ⟨512, by decide⟩

theorem wake_sp (s : State) (n k : Nat) : (s.svWake n).sp k = s.sp k := by
  have h : (s.svWake n).spires = s.spires := by
    unfold State.svWake State.inc State.incw
    dsimp only
    split <;> simp only [State.wr_spires]
  rw [State.sp, h, State.sp]

theorem rd_wr_other (s : State) {f g : Machine.Field} (v : Nat) (h : f.addr ≠ g.addr) : (s.wr g v).rd f = s.rd f := by
  rw [State.rd, State.rdReg_wr_ne _ _ h]; rfl

theorem wake_rd (s : State) (n : Nat) {f : Machine.Field} (h : f.addr ≠ R.VEC_BUSY n) (h2 : f.addr ≠ R.VEC_STATUS n)
    (h3 : f.addr ≠ R.VEC_COUNTS n) : (s.svWake n).rd f = s.rd f := by
  unfold State.svWake State.inc State.incw
  dsimp only
  split
  · exact rd_wr_other s _ h
  · rw [rd_wr_other _ _ h3, rd_wr_other _ _ h2, rd_wr_other _ _ h]

/-- Spire 0 runs with a short-vector configuration, x1 and x2; its unit is awake. -/
def vec (ew span vl : Nat) (a b : Word) : State :=
  ((core a b).wr (F.VEC_STATUS_POWER 0) 2).setSp 0 { (core a b).sp 0 with ew := ew, span := span, vl := vl }

/-- What the wake of a unit that is on does: its busy cycles count, and the register is listed unless it holds 0. -/
theorem wake_cases (s : State) (n : Nat) (h : s.rd (F.VEC_STATUS_POWER n) = 2) :
    s.svWake n = { s with regs := mdel s.regs (R.VEC_BUSY n) } ∨
    s.svWake n = { s with regs := mput s.regs (R.VEC_BUSY n) (BitVec.ofNat 64 (setBits (s.rdReg (R.VEC_BUSY n)) 0 64
      (s.rd (F.VEC_BUSY_CYCLES n) + (1 + s.free 0 (2 ^ 64))))) } := by
  have hp : ∀ v, (s.wr (F.VEC_BUSY_CYCLES n) v).rd (F.VEC_STATUS_POWER n) = 2 := fun v => by
    rw [rd_wr_other _ _ (show R.VEC_STATUS n ≠ R.VEC_BUSY n by simp only [R.VEC_STATUS, R.VEC_BUSY]; omega), h]
  unfold State.svWake State.incw
  simp only [hp, beq_self_eq_true, if_true]
  unfold State.wr State.wrReg
  by_cases hz : BitVec.ofNat 64 (setBits (s.rdReg (F.VEC_BUSY_CYCLES n).addr) (F.VEC_BUSY_CYCLES n).lo
      (F.VEC_BUSY_CYCLES n).width (s.rd (F.VEC_BUSY_CYCLES n) + (1 + s.free 0 (2 ^ 64)))) = 0#64
  · left; rw [if_pos hz]; rfl
  · right; rw [if_neg hz]; rfl

theorem vec_ready (ew span vl : Nat) (a b : Word) (h : (vec ew span vl a b).coreRuns 0 = true)
    (h2 : (vec ew span vl a b).rd (F.VEC_STATUS_POWER 0) = 2) :
    (vec ew span vl a b).vecReady 0 ((vec ew span vl a b).svWake 0) := ⟨h, rfl⟩

theorem witness_VectorArithmetic :
    (∃ (n : Fin 288) (wd ws1 r2 : Fin 32) (s u : State), s.vecReady n u ∧ groupOk wd (svSpan (u.sp n).span) = true ∧
      groupOk ws1 (svSpan (u.sp n).span) = true ∧ groupOk r2 (svSpan (u.sp n).span) = true ∧ (u.sp n).ew ≠ 0) ∧
    (∃ (n : Fin 288) (wd : Fin 32) (s u : State), s.vecReady n u ∧ groupOk wd (svSpan (u.sp n).span) = false) ∧
    (∃ (n : Fin 288) (s u : State), s.vecReady n u ∧ (u.sp n).ew = 0) ∧ (∃ (n : Fin 288) (s : State), s.coreRuns n = false) := by
  refine ⟨⟨0, 8, 16, 24, vec 3 3 64 0 0, _, vec_ready _ _ _ _ _ (by decide +kernel) (by decide +kernel), ?_⟩,
    ⟨0, 31, vec 3 3 64 0 0, _, vec_ready _ _ _ _ _ (by decide +kernel) (by decide +kernel), ?_⟩,
    ⟨0, vec 0 0 1 0 0, _, vec_ready _ _ _ _ _ (by decide +kernel) (by decide +kernel), ?_⟩, ⟨287, up, by decide +kernel⟩⟩
  all_goals rw [wake_sp]; decide +kernel

/-- As `vec`, with element 1 of w0 poisoned, and element 0 the address of element 1 as an index. -/
def vecHurt : State := (vec 3 0 2 0 0).setSp 0 (((vec 3 0 2 0 0).sp 0).setSlice 0 1 true)

theorem witness_VectorConfigurationMovesAndReductions :
    (∃ (s : State) (res : Nat), s.sealed = true ∧ res ≠ 0) ∧
    (∃ (n : Fin 288) (rs2 : Fin 32) (s u : State), s.vecReady n u ∧ ((u.sp n).xr rs2).toNat < 32) ∧
    (∃ (n : Fin 288) (rs2 : Fin 32) (s u : State), s.vecReady n u ∧ 32 ≤ ((u.sp n).xr rs2).toNat) ∧
    (∃ (n : Fin 288) (wd : Fin 32) (s u : State), s.vecReady n u ∧ groupOk wd (svSpan (u.sp n).span) = true) ∧
    (∃ (n : Fin 288) (wd : Fin 32) (s u : State), s.vecReady n u ∧ groupOk wd (svSpan (u.sp n).span) = false) ∧
    (∃ (n : Fin 288) (wd ws1 ws2 : Fin 32) (s u : State) (k : Nat), s.vecReady n u ∧ k = svSpan (u.sp n).span ∧
      groupOk wd k = true ∧ groupOk ws1 k = true ∧ groupOk ws2 k = true ∧ groupsMeet wd k ws1 k = false ∧
      groupsMeet wd k ws2 k = false) ∧
    (∃ (n : Fin 288) (ws : Fin 32) (s u : State), s.vecReady n u ∧ groupOk ws (svSpan (u.sp n).span) = true ∧ (u.sp n).vl = 2 ∧
      (u.sp n).ew < 4 ∧ (∀ i < (u.sp n).vl, (u.sp n).elPoison ws (svBits (u.sp n).ew) i = false) ∧ (u.sp n).ew ≠ 0) ∧
    (∃ (n : Fin 288) (ws : Fin 32) (s u : State) (i : Nat), s.vecReady n u ∧ groupOk ws (svSpan (u.sp n).span) = true ∧
      i < (u.sp n).vl ∧ (u.sp n).elPoison ws (svBits (u.sp n).ew) i = true) := by
  have r := fun e p v a b h h2 => vec_ready e p v a b h h2
  refine ⟨⟨up.wr F.NODE_PROFILE_ACTIVE 2, 1, by decide +kernel⟩,
    ⟨0, 1, _, _, r 0 0 0 31 0 (by decide +kernel) (by decide +kernel), ?_⟩,
    ⟨0, 1, _, _, r 0 0 0 32 0 (by decide +kernel) (by decide +kernel), ?_⟩,
    ⟨0, 24, _, _, r 0 3 0 0 0 (by decide +kernel) (by decide +kernel), ?_⟩,
    ⟨0, 31, _, _, r 0 1 0 0 0 (by decide +kernel) (by decide +kernel), ?_⟩,
    ⟨0, 0, 8, 16, _, _, 8, r 0 3 0 0 0 (by decide +kernel) (by decide +kernel), ?_⟩,
    ⟨0, 0, _, _, r 3 0 2 0 0 (by decide +kernel) (by decide +kernel), ?_⟩,
    ⟨0, 0, vecHurt, _, 1, ⟨by decide +kernel, rfl⟩, ?_⟩⟩
  all_goals rw [wake_sp]; decide +kernel

/-- A run of a short-vector load or store of one field at element 0. -/
def svRun0 (store : Bool) (base : Nat) : SvRun := ⟨store, 8, 1, base, none, 0, 0, 0, 0, [], .none, [], []⟩

theorem witness_VectorMemoryAndConversions :
    (∃ (n : Fin 288) (s u : State), (s.sp n).wait ≠ .sv ∧ s.vecReady n u ∧ 2 ≤ (u.sp n).ew) ∧
    (∃ (n : Fin 288) (s : State), (s.sp n).wait = .sv) ∧
    (∀ w ∈ [true, false], ∃ (n : Fin 288) (wd : Fin 32) (s u : State) (loc : Nat → Nat), s.vecReady n u ∧
      u.sealed = false ∧ (u.sp n).wait = .none ∧ (u.sp n).sv = none ∧ u.check.twins = [] ∧ u.unitOut n true = false ∧
      groupOk wd (svSpan (u.sp n).span) = true ∧ wd.val + svSpan (u.sp n).span ≤ 32 ∧ u.lanes n = [0, 1] ∧
      (∀ i ∈ u.lanes n, ∃ (a : Nat) (t : Target), formAddr ((u.sp n).xr 1).toNat (i * (svBits (u.sp n).ew / 8) : Nat) = some a ∧
        a % 2 ^ 48 + svBits (u.sp n).ew / 8 ≤ 2 ^ 48 ∧ u.coreTarget a (svBits (u.sp n).ew / 8) w = (t, St.ok) ∧ t.remote = false ∧
        t.loc = loc i ∧ u.poisoned (loc i) (svBits (u.sp n).ew / 8) = false)) ∧
    (∀ st ∈ [true, false], ∀ b ∈ [0xFFFFFFFFFFF8, 0xFFFFFFFFFFFC, fabricAddr 1 64], ∃ (s : State) (n : Nat) (r : SvRun),
      (s.sp n).sv = some r ∧ r.elem < (s.sp n).vl ∧ r.acc = .none ∧ r.nf = 1 ∧ r.field = 0 ∧ r.off = 0 ∧ r.store = st ∧
      ((s.sp n).svAddr r r.elem 0 = none ↔ b = 0xFFFFFFFFFFFC) ∧
      (s.coreTarget b (s.sp n).svBytes r.store).1.remote = decide (b = fabricAddr 1 64) ∧ s.check.twins = [] ∧
      s.stalls (spireEngine n) (s.coreTarget b (s.sp n).svBytes r.store).1 = false) ∧
    (∃ (s : State) (n i : Nat), (s.sp n).mtvec ≠ 0 ∧ i < 1024) ∧
    (∃ (n : Fin 288) (s u : State) (cw : Nat), s.vecReady n u ∧ cw = ((u.sp n).xr 1).toNat ∧ cvtCwOk cw = true ∧ (u.sp n).vl = 1 ∧
      groupOk 0 (groupFor 1 (fmtWidth (cwSrc cw))) = true ∧ groupOk 4 (groupFor 1 (fmtWidth (cwDst cw))) = true) ∧
    (∃ (n : Fin 288) (s u : State), s.vecReady n u ∧ cvtCwOk ((u.sp n).xr 1).toNat = false) ∧
    (∀ x ∈ [(9, false), (0x90, true)], ∃ (n : Fin 288) (s u : State) (cw : Nat), s.vecReady n u ∧ cw = ((u.sp n).xr 1).toNat ∧
      mxCwOk cw x.2 = true ∧ (u.sp n).vl = 32 ∧ groupOk 0 (groupFor 32 (fmtWidth (cwSrc cw))) = true ∧
      groupOk 4 (groupFor 32 (fmtWidth (cwDst cw))) = true ∧ groupFor 32 (fmtWidth (cwSrc cw)) ≤ 8 ∧
      groupFor 32 (fmtWidth (cwDst cw)) ≤ 8) ∧
    (∃ (n : Fin 288) (s u : State), s.vecReady n u ∧ mxCwOk ((u.sp n).xr 1).toNat false = false) := by
  have r := fun e p v a b h h2 => vec_ready e p v a b h h2
  have hl : ∀ w ∈ [true, false], ∀ u : State, u = (vec 3 0 2 64 0).svWake 0 →
      u.sealed = false ∧ u.check.twins = [] ∧ u.unitOut 0 true = false ∧ u.lanes 0 = [0, 1] ∧
      (∀ i ∈ u.lanes 0, formAddr ((u.sp 0).xr 1).toNat (i * (svBits (u.sp 0).ew / 8) : Nat) = some (64 + 8 * i) ∧
        (64 + 8 * i) % 2 ^ 48 + svBits (u.sp 0).ew / 8 ≤ 2 ^ 48 ∧
        u.coreTarget (64 + 8 * i) (svBits (u.sp 0).ew / 8) w = (.here (64 + 8 * i), St.ok) ∧
        u.poisoned (64 + 8 * i) (svBits (u.sp 0).ew / 8) = false) := by
    intro w hw u hu
    rcases wake_cases (vec 3 0 2 64 0) 0 (by decide +kernel) with h | h <;> rw [hu, h] <;> clear hu h <;> revert w <;> decide +kernel
  refine ⟨⟨0, vec 3 0 2 64 0, _, by decide +kernel, r 3 0 2 64 0 (by decide +kernel) (by decide +kernel), ?_⟩,
    ⟨0, (core 0 0).setSp 0 { (core 0 0).sp 0 with wait := .sv }, by decide +kernel⟩, fun w hw => ?_,
    fun st hs b hb => ⟨(vec 3 0 2 0 0).setSp 0 { (vec 3 0 2 0 0).sp 0 with sv := some (svRun0 st b) }, 0, svRun0 st b, ?_⟩,
    ⟨core 0 0, 0, 1023, by decide +kernel⟩,
    ⟨0, _, _, 0x97, r 0 0 1 0x97 0 (by decide +kernel) (by decide +kernel), ?_⟩,
    ⟨0, _, _, r 0 0 1 0xFF 0 (by decide +kernel) (by decide +kernel), ?_⟩,
    fun x hx => ⟨0, vec 0 0 32 (BitVec.ofNat 64 x.1) 0, _, x.1, ⟨?_, rfl⟩, ?_⟩,
    ⟨0, _, _, r 0 0 0 0xFF 0 (by decide +kernel) (by decide +kernel), ?_⟩⟩
  · rw [wake_sp]; decide +kernel
  · obtain ⟨h1, h2, h3, h4, h5⟩ := hl w hw _ rfl
    refine ⟨0, 8, vec 3 0 2 64 0, _, fun i => 64 + 8 * i, r 3 0 2 64 0 (by decide +kernel) (by decide +kernel), h1, ?_, ?_, h2, h3,
      ?_, ?_, h4, fun i hi => ?_⟩
    · rw [wake_sp]; decide +kernel
    · rw [wake_sp]; decide +kernel
    · rw [wake_sp]; decide +kernel
    · rw [wake_sp]; decide +kernel
    · obtain ⟨k1, k2, k3, k4⟩ := h5 i hi
      exact ⟨_, _, k1, k2, k3, rfl, rfl, k4⟩
  · revert st b; decide +kernel
  · rw [wake_sp]; decide +kernel
  · rw [wake_sp]; decide +kernel
  · revert x; decide +kernel
  · rw [wake_sp]; revert x; decide +kernel
  · rw [wake_sp]; decide +kernel

/-! ## Dome harts and the Solver Engine -/

/-- Hart 0 of the running node with x1 = a and x2 = b, in the Rate profile. -/
def harted (a b : Word) : State :=
  (timed.setHart 0 { timed.hart 0 with x := [(1, a), (2, b)] }).wr F.NODE_PROFILE_ACTIVE 0

theorem witness_DomeInstructionsCompleteOrTrap : (∃ rd r : Nat, 0 < rd ∧ rd < 32 ∧ r ≠ rd) ∧ (∃ k h : Nat, k ≠ h) ∧
    (∃ (h : Fin 64) (s : State), s.hartRuns h = false) :=
  ⟨⟨31, 0, by decide⟩, ⟨1, 0, by decide⟩, ⟨63, State.reset, by decide +kernel⟩⟩

theorem witness_DomeFloatAndVectorInstructions :
    (∃ (h : Fin 64) (op : FloatOp) (fm : FFmt) (rm : Fin 8) (s : State), s.hartRuns h = true ∧ floatExists op fm = true ∧
      (floatHasRm op = false ∨ rm = 0 ∨ rm = 7)) ∧
    (∃ (h : Fin 64) (op : FloatOp) (fm : FFmt) (s : State), s.hartRuns h = true ∧ floatExists op fm = false) ∧
    (∃ (h : Fin 64) (op : FloatOp) (rm : Fin 8) (s : State), s.hartRuns h = true ∧ floatHasRm op = true ∧ rm ≠ 0 ∧ rm ≠ 7) ∧
    (∃ (h : Fin 64) (op : VecOp) (form : VForm) (vm : Bool) (vd vs1 vs2 : Fin 32) (s : State) (x : Hart), s.hartRuns h = true ∧
      (s.hart h).vector op form vm vd vs1 vs2 = some x) ∧
    (∃ (h : Fin 64) (op : VecOp) (form : VForm) (vm : Bool) (vd vs1 vs2 : Fin 32) (s : State), s.hartRuns h = true ∧
      (s.hart h).vector op form vm vd vs1 vs2 = none) :=
  ⟨⟨0, .add, .double, 7, harted 0 0, by decide +kernel⟩, ⟨0, .add, .bf16, harted 0 0, by decide +kernel⟩,
   ⟨0, .add, 1, harted 0 0, by decide +kernel⟩,
   ⟨0, .setvlReg, .vv, true, 3, 1, 2, harted 64 0, _, by decide +kernel, rfl⟩,
   ⟨0, .int .add, .vv, true, 3, 1, 2, harted 0 0, by decide +kernel⟩⟩

/-- Dome fabric slot 0 names node 1. -/
def slotted (a b : Word) : State := (((harted a b).wr (F.FAB_DOME_SLOT_VALID 0) 1).wr (F.FAB_DOME_SLOT_GLOBAL 0) 1).wr
  (F.FAB_DOME_SLOT_NODE_ID 0) 1

theorem witness_DomeMemoryInstructions :
    (∀ m ∈ [true, false], ∃ (h : Fin 64) (fp : Bool) (size : Fin 4) (rs1 : Fin 32) (imm : Fin 4096) (s : State) (a l n : Nat),
      s.hartRuns h = true ∧ a = ((s.hart h).xr rs1 + BitVec.ofNat 64 (sext64 12 imm)).toNat ∧ n = 2 ^ size.val ∧
      (fp = false ∨ size ≠ 0) ∧ s.domeTarget a = some (.here l) ∧ isCommandPort l = false ∧ isControl l = false ∧
      s.coreMay l n = true ∧ s.poisoned l n = m ∧ s.ctxHit l n = none) ∧
    (∃ (h : Fin 64) (s : State) (a l : Nat), s.hartRuns h = true ∧ a = ((s.hart h).xr 1).toNat ∧
      s.domeTarget a = some (.here l) ∧ isCommandPort l = false ∧ isControl l = true ∧ controlOk l 4 = true) ∧
    (∀ full ∈ [true, false], ∀ d ∈ [0, 1], ∃ (h : Fin 64) (s : State) (a : Nat) (t : Target), s.hartRuns h = true ∧
      a = ((s.hart h).xr 1).toNat ∧ s.domeTarget a = some t ∧ t.remote = true ∧ a % 8 = d ∧ s.stalls (hartEngine h) t = full ∧
      s.weirTraps t = false) ∧
    (∃ (h : Fin 64) (rs1 : Fin 32) (imm : Fin 4096) (s : State) (a : Nat), s.hartRuns h = true ∧
      a = ((s.hart h).xr rs1 + BitVec.ofNat 64 (sext64 12 imm)).toNat ∧ s.domeTarget a = none) ∧
    (∃ (h : Fin 64) (op : AmoOp) (wide : Bool) (rs1 : Fin 32) (s : State) (a l : Nat), s.hartRuns h = true ∧
      a = ((s.hart h).xr rs1).toNat ∧ a % (if wide then 8 else 4) = 0 ∧ s.domeTarget a = some (.here l) ∧
      isCommandPort l = false ∧ isControl l = false ∧ op ≠ .lr ∧ op ≠ .sc) ∧
    (∃ (s t : State) (l size : Nat), isCommandPort l = false ∧ isControl l = false ∧ s.coreMay l size = true ∧
      s.poisoned l size = false ∧ t = s.domeHold l size false ∧ t.coreMay l size = true ∧ t.ctxHit l size = none) ∧
    (∃ (h : Fin 64) (wide : Bool) (rs1 : Fin 32) (s : State), s.hartRuns h = true ∧
      ((s.hart h).xr rs1).toNat % (if wide then 8 else 4) ≠ 0 ∧
      ∀ l, s.domeTarget ((s.hart h).xr rs1).toNat = some (.here l) → isControl l = false ∧ isCommandPort l = false) ∧
    (∃ (h : Fin 64) (wide : Bool) (rs1 : Fin 32) (s : State) (l : Nat), s.hartRuns h = true ∧
      ((s.hart h).xr rs1).toNat % (if wide then 8 else 4) ≠ 0 ∧
      s.domeTarget ((s.hart h).xr rs1).toNat = some (.here l) ∧ isControl l = true) ∧
    (∃ (h : Fin 64) (addr : VAddr) (eew : Fin 4) (nf : Fin 8) (vm : Bool) (vd rs1 rs2 : Fin 32) (s t : State) (y : Hart)
      (acc : VecAccess), s.hartRuns h = true ∧ (s.hart h).access false addr eew nf vm vd rs2 = some acc ∧
      State.vecLoad h ((s.hart h).xr rs1).toNat vd acc ((List.range acc.count).drop (s.hart h).vstart) s (s.hart h)
        ⟨[], [], []⟩ = (t, y, none)) ∧
    (∃ (h : Fin 64) (addr : VAddr) (eew : Fin 4) (nf : Fin 8) (vm : Bool) (vd rs1 rs2 : Fin 32) (s t : State)
      (acc : VecAccess), s.hartRuns h = true ∧ (s.hart h).access true addr eew nf vm vd rs2 = some acc ∧
      State.vecStore h ((s.hart h).xr rs1).toNat vd acc (s.hart h) ((List.range acc.count).drop (s.hart h).vstart) s =
        (t, none)) ∧
    (∃ (h : Fin 64) (addr : VAddr) (s : State), s.hartRuns h = true ∧ (s.hart h).access false addr 3 7 true 1 2 = none) := by
  refine ⟨fun m hm => ⟨0, false, 3, 1, 0xFF8, { harted 72 0 with poison := if m then [8] else [] }, 64, 64, 8, ?_⟩,
   ⟨0, harted 0xF00000010004 0, 0xF00000010004, 0xF00000010004, by decide +kernel⟩,
   fun f hf d hd => ⟨0, owing (slotted (BitVec.ofNat 64 (2 ^ 55 + 64 + d)) 0) (if f then List.replicate 768
      { aReq Kind.read .gone with engine := hartEngine 0 } else []), 2 ^ 55 + 64 + d, .pond 1 (64 + d), ?_⟩,
   ⟨0, 1, 0, harted (2 ^ 56) 0, 2 ^ 56, by decide +kernel⟩, ⟨0, .add, true, 1, harted 64 0, 64, 64, by decide +kernel⟩,
   ⟨harted 64 0, _, 64, 8, by decide +kernel, by decide +kernel, by decide +kernel, by decide +kernel, rfl, by decide +kernel,
     by decide +kernel⟩,
   ⟨0, true, 1, harted 4 0, by decide +kernel, by decide +kernel, fun l hl => ?_⟩,
   ⟨0, true, 1, harted 0xF00000010004 0, 0xF00000010004, by decide +kernel⟩,
   ⟨0, .whole, 3, 0, true, 0, 1, 2, harted 64 0, _, _, _, by decide +kernel, rfl, Prod.ext rfl (Prod.ext rfl ?_)⟩,
   ⟨0, .whole, 3, 0, true, 0, 1, 2, harted 64 0, _, _, by decide +kernel, rfl, Prod.ext rfl ?_⟩,
   ⟨0, .unit, harted 64 0, by decide +kernel⟩⟩
  · revert m; decide +kernel
  · revert f d; decide +kernel
  · have h4 : (harted 4 0).domeTarget (((harted 4 0).hart 0).xr 1).toNat = some (.here 4) := by decide +kernel
    rw [show ((0 : Fin 64) : Nat) = 0 from rfl, show ((1 : Fin 32) : Nat) = 1 from rfl, h4] at hl
    cases hl
    decide +kernel
  all_goals decide +kernel

theorem witness_DomeTimeAndPacketStore :
    (∃ (h : Fin 64) (now : Nat) (s u : State), s.hartRuns h = true ∧ s.profile = 0 ∧ s.reach now = some u) ∧
    (∃ (h : Fin 64) (s : State), s.hartRuns h = true ∧ s.profile ≠ 0) ∧
    (∃ (h : Fin 64) (rs1 : Fin 32) (s : State), s.hartRuns h = true ∧ ((s.hart h).xr rs1).toNat ≤ s.now) ∧
    (∃ (h : Fin 64) (rs1 : Fin 32) (s : State), s.hartRuns h = true ∧ s.now < ((s.hart h).xr rs1).toNat) ∧
    (∃ (h : Fin 64) (t : Nat) (s u : State), (s.hart h).twait = some t ∧ s.reach t = some u) ∧
    (∃ (h : Fin 64) (s : State), (s.hart h).twait = none) ∧
    (∀ x ∈ [(0xF00000000001, 0, false), (0xF00000000000, 1, false), (64, 0, true)], ∃ (h : Fin 64) (s : State) (slot a : Nat),
      s.hartRuns h = true ∧ slot = ((s.hart h).xr 1).toNat ∧ a = ((s.hart h).xr 2).toNat ∧ slot = x.1 ∧ a = x.2.1 ∧
      (isCommandPort slot = false ↔ x.2.2 = true)) ∧
    (∃ (h : Fin 64) (s u : State) (slot a : Nat), s.hartRuns h = true ∧ slot = ((s.hart h).xr 1).toNat ∧
      a = ((s.hart h).xr 2).toNat ∧ u = s.flushOwned (· == .hartPost h) ∧ slot % 64 = 0 ∧ a % 64 = 0 ∧
      isCommandPort slot = true ∧ u.owes (· == .hartPost h) = true) ∧
    (∀ x ∈ [(2 ^ 56, none, false), (0xF00000010000, some (.here 0xF00000010000), false), (64, some (.here 64), false),
        (64, some (.here 64), true), (2 ^ 55 + 64, some (.pond 1 64), false)],
      ∃ (h : Fin 64) (s u : State) (slot a : Nat), s.hartRuns h = true ∧ slot = ((s.hart h).xr 1).toNat ∧
      a = ((s.hart h).xr 2).toNat ∧ a = x.1 ∧ u = s.flushOwned (· == .hartPost h) ∧ slot % 64 = 0 ∧ a % 64 = 0 ∧
      isCommandPort slot = true ∧ u.owes (· == .hartPost h) = false ∧ u.domeTarget a = x.2.1 ∧ u.poisoned 64 64 = x.2.2 ∧
      u.coreMay 64 64 = true) := by
  refine ⟨⟨0, 0, harted 0 0, _, by decide +kernel, by decide +kernel, if_pos (by decide +kernel)⟩,
   ⟨0, (harted 0 0).wr F.NODE_PROFILE_ACTIVE 1, by decide +kernel⟩, ⟨0, 1, harted 0 0, by decide +kernel⟩,
   ⟨0, 1, harted 1 0, by decide +kernel⟩,
   ⟨0, 0, (harted 0 0).setHart 0 { (harted 0 0).hart 0 with twait := some 0 }, _, by decide +kernel, if_pos (by decide +kernel)⟩,
   ⟨63, up, by decide +kernel⟩,
   fun x hx => ⟨0, harted (BitVec.ofNat 64 x.1) (BitVec.ofNat 64 x.2.1), x.1, x.2.1, ?_⟩,
   ⟨0, owing (harted 0xF0000000FFC0 64) [aReq Kind.write (.hartPost 0)], _, 0xF0000000FFC0, 64, by decide +kernel,
    by decide +kernel, by decide +kernel, rfl, by decide +kernel⟩,
   fun x hx => ⟨0, { slotted 0xF0000000FFC0 (BitVec.ofNat 64 x.1) with poison := if x.2.2 then [8] else [] }, _, 0xF0000000FFC0,
    x.1, ?_, ?_, ?_, ?_, rfl, ?_⟩⟩
  all_goals revert x; decide +kernel

/-- A solve descriptor over one element: its operation, A at 4096, B at 4104, X at 4352, the range table at 256. -/
def solveDesc (op nc : Nat) : Bytes :=
  natLE 1 op ++ zeros 7 ++ natLE 4 1 ++ natLE 4 nc ++ natLE 8 4096 ++ zeros 16 ++ natLE 8 4104 ++ natLE 8 4352 ++ zeros 16
    ++ natLE 8 256 ++ zeros 8 ++ natLE 8 4416 ++ zeros 8 ++ natLE 4 (if 3 ≤ op then 8 else 0) ++ zeros 20

/-- A solve of an operation as the engine of terrace 0 holds it. -/
def solveRun (op nc : Nat) (started : Bool) (st : Option Nat) (deadline : Nat) : SolveRun :=
  ⟨64, solveDesc op nc, List.replicate 32 0, [], 0, none, none, deadline, started, 0, 0, [0], [0], [0], [0], 0, [], [], [], [],
    0, 0, none, 0, 0, false, false, 0, st⟩

/-- Element A holds 2^62. -/
def solving (r : SolveRun) : State := ({ timed with solver := [(0, r)] } : State).rawWrite 4096 (natLE 8 (2 ^ 62))

theorem witness_SolverRunsItsOperation :
    (∀ op ∈ [1, 2, 3, 4, 5, 6, 7, 8, 9, 10, 11], ∃ (t : Fin 16) (s : State) (r : SolveRun), s.activeRun t op = some r) ∧
    (∃ (s : State) (r : SolveRun), (s.kernel r).1 = St.ok) ∧ (∃ (s : State) (r : SolveRun), (s.kernel r).1 = St.poisonConsumed) ∧
    (∃ (t : Fin 16) (s : State) (r : SolveRun) (f : FactSt) (c : SArith) (k : Nat),
      s.factorise { r with fp := s.fingerprint r } = (0, f, c, k) ∧ s.activeRun t 7 = some r) ∧
    (∃ (t : Fin 16) (n : Nat) (s u : State) (r r' : SolveRun), r.started = true ∧ iterRun t n s r = (u, r') ∧
      s.activeRun t 9 = some r) ∧
    (∀ op ∈ [1, 2, 3, 4, 5, 6, 7, 8, 9, 10, 11], ∃ (t : Fin 16) (s : State), s.activeRun t op = none) ∧
    (∃ (s : State) (r : SolveRun), svOp r.desc = 1 ∧ s.poisoned (svB r.desc) (8 * svN r.desc) = false ∧
      s.poisoned (svA r.desc) (8 * svN r.desc) = false) ∧
    (∃ (s : State) (r : SolveRun), svOp r.desc ≤ 2 ∧ s.poisoned (svA r.desc) (8 * svN r.desc) = true) := by
  refine ⟨fun op h => ⟨0, solving (solveRun op 1 false none 0), solveRun op 1 false none 0, ?_⟩,
   ⟨solving (solveRun 1 0 false none 0), solveRun 1 0 false none 0, by decide +kernel⟩,
   ⟨{ solving (solveRun 1 0 false none 0) with poison := [512] }, solveRun 1 0 false none 0, by decide +kernel⟩,
   ⟨0, solving (solveRun 7 1 false none 0), solveRun 7 1 false none 0, _, _, _,
      Prod.ext (by decide +kernel) (Prod.ext rfl (Prod.ext rfl rfl)), by decide +kernel⟩,
   ⟨0, 0, solving (solveRun 9 1 true none 0), _, solveRun 9 1 true none 0, _, rfl, rfl, by decide +kernel⟩,
   fun op h => ⟨15, up, ?_⟩, ⟨up, solveRun 1 0 false none 0, by decide +kernel⟩,
   ⟨{ up with poison := [512] }, solveRun 1 0 false none 0, by decide +kernel⟩⟩
  all_goals revert op; decide +kernel

/-- A SOLVE of terrace t of the descriptor at 1024, a DOT. -/
def solveCmd (t addr : Nat) : State :=
  gated ((timed.rawWrite 1024 (solveDesc 1 0)).rawWrite 256 ([0x54, 0x52, 1, 0, 7] ++ zeros 123))
    (sub0 Op.solve (natLE 1 t ++ zeros 7 ++ natLE 8 addr))

theorem witness_SolvesAcceptAndComplete :
    (∃ (s u v w : State) (q : Sub) (h : Nat), s.takes q Op.solve u ∧ q.p 0 1 ≤ 15 ∧ u.sealed = false ∧
      bit u.jobMask (q.p 0 1) = false ∧ u.rd (F.SOLV_STATUS_STATE (q.p 0 1)) = 0 ∧ u.rd F.NODE_PROFILE_SWITCHING = 0 ∧
      u.accept q = (w, h) ∧ w.sealed = false ∧ q.p 8 8 < 2 ^ 48 ∧ q.p 8 8 % 64 = 0 ∧ w.backed (q.p 8 8) 128 = true ∧
      (w.setPower (q.p 0 1) 2).solveStart (q.p 0 1) (q.p 8 8) (w.readBytes (q.p 8 8) 128) (w.poisoned (q.p 8 8) 128) none
        (some h) q.deadline = (v, 0)) ∧
    (∃ (s u : State) (q : Sub), s.takes q Op.solve u ∧ 15 < q.p 0 1) ∧
    (∃ (s u : State) (q : Sub), s.takes q Op.solve u ∧ q.p 0 1 ≤ 15 ∧ u.sealed = false ∧
      u.rd (F.SOLV_STATUS_STATE (q.p 0 1)) ≠ 0) ∧
    (∃ (s u w : State) (q : Sub) (h : Nat), s.takes q Op.solve u ∧ q.p 0 1 ≤ 15 ∧ u.sealed = false ∧
      bit u.jobMask (q.p 0 1) = false ∧ u.rd (F.SOLV_STATUS_STATE (q.p 0 1)) = 0 ∧ u.rd F.NODE_PROFILE_SWITCHING = 0 ∧
      u.accept q = (w, h) ∧ q.p 8 8 % 64 ≠ 0) ∧
    (∃ (t : Fin 16) (st : Nat) (s : State) (r : SolveRun), mfind s.solver t = some r ∧ r.status = some st ∧ st ≠ St.ok) ∧
    (∃ (t : Fin 16) (s : State) (r : SolveRun), mfind s.solver t = some r ∧ r.status = some St.ok ∧ svIter r.desc = false ∧
      svFact r.desc = true) ∧
    (∃ (t : Fin 16) (s : State) (r : SolveRun), mfind s.solver t = some r ∧ r.status = none) ∧
    (∃ (t : Fin 16) (warm : Bool) (st : Nat) (s u v : State) (r r' : SolveRun), mfind s.solver t = some r ∧
      r.deadline ≠ 0 ∧ s.reach r.deadline = some u ∧ u.deadlineRun t r warm = some (v, r', st)) ∧
    (∃ (t : Fin 16) (s : State) (r : SolveRun), mfind s.solver t = some r ∧ r.deadline = 0) :=
  let w := ((solveCmd 15 1024).taken []).accept (sub0 Op.solve (natLE 1 15 ++ zeros 7 ++ natLE 8 1024))
  have ⟨v, hv⟩ := pair_of ((w.1.setPower 15 2).solveStart 15 1024 (w.1.readBytes 1024 128) false none (some w.2) 0) 0
    (by decide +kernel)
  ⟨⟨solveCmd 15 1024, _, v, w.1, _, w.2, gated_takes _ _ _ rfl (by decide +kernel), by decide +kernel, by decide +kernel,
      by decide +kernel, by decide +kernel, by decide +kernel, rfl, by decide +kernel, by decide +kernel,
      by decide +kernel, by decide +kernel, hv⟩,
   ⟨solveCmd 16 1024, _, _, gated_takes _ _ _ rfl (by decide +kernel), by decide +kernel⟩,
   ⟨gated (timed.wr (F.SOLV_STATUS_STATE 0) 1) (sub0 Op.solve []), _, _,
     gated_takes (timed.wr (F.SOLV_STATUS_STATE 0) 1) _ _ rfl (by decide +kernel), by decide +kernel⟩,
   ⟨solveCmd 0 1025, _, _, _, _, gated_takes _ _ _ rfl (by decide +kernel), by decide +kernel, by decide +kernel,
      by decide +kernel, by decide +kernel, by decide +kernel, Prod.ext rfl rfl, by decide +kernel⟩,
   ⟨0, St.badParam, solving (solveRun 1 0 false (some St.badParam) 0), _, rfl, by decide +kernel⟩,
   ⟨0, solving (solveRun 7 1 false (some St.ok) 0), _, rfl, by decide +kernel⟩,
   ⟨0, solving (solveRun 7 1 false none 0), _, rfl, by decide +kernel⟩,
   ⟨0, false, _, (solving (solveRun 9 1 false none 5)).setNow 5 0, _, _, solveRun 9 1 false none 5, _, by decide +kernel,
     by decide +kernel, if_pos (by decide +kernel), rfl⟩,
   ⟨0, solving (solveRun 7 1 false none 0), _, rfl, by decide +kernel⟩⟩

/-! ## Memory and fabric -/

/-- A pinned list at address 0 of one extent. -/
def pins (base len : Nat) : State := timed.rawWrite 0 (natLE 8 base ++ natLE 4 len ++ natLE 4 0)

theorem witness_MemoryOperationsPinningAndScrub :
    (∃ (a m : Nat) (v : Bytes) (s u : State), mopAligned a m = true ∧ mopLine m = false ∧ mopOp m ≠ 7 ∧
      v.length = mopBytes m ∧ s.homeStatus a (mopBytes m) true = St.ok ∧ u = s.touch a (mopBytes m) ∧
      u.poisoned a (mopBytes m) = false) ∧
    (∃ (a m : Nat) (v : Bytes) (s u : State), mopAligned a m = true ∧ mopLine m = false ∧ mopOp m = 7 ∧
      v.length = 2 * mopBytes m ∧ s.homeStatus a (mopBytes m) true = St.ok ∧ u = s.touch a (mopBytes m) ∧
      u.poisoned a (mopBytes m) = false ∧ u.readNat a (mopBytes m) ≠ fld v 0 (2 * mopBytes m) % 2 ^ (8 * mopBytes m)) ∧
    (∃ (a m : Nat) (v : Bytes) (s u : State), mopAligned a m = true ∧ mopLine m = false ∧ mopOp m ≠ 6 ∧
      v.length = (if mopOp m = 7 then 2 * mopBytes m else mopBytes m) ∧ s.homeStatus a (mopBytes m) true = St.ok ∧
      u = s.touch a (mopBytes m) ∧ u.poisoned a (mopBytes m) = true) ∧
    (∃ (a m : Nat) (v : Bytes) (s : State), mopAdder m = true ∧ mopLine m = false ∧ (s.mopAt a m v).2.status = St.ok) ∧
    (∃ (a m : Nat) (s : State), mopAligned a m = false ∧ s.homeStatus a (if mopLine m then 64 else mopBytes m) true ≠ St.nodeResetting) ∧
    (∃ (a m : Nat) (s : State), s.homeStatus a (if mopLine m then 64 else mopBytes m) true = St.nodeResetting) ∧
    (∃ m : Nat, mopOp m = 0 ∧ mopFloat m = false) ∧
    (∃ (n : Nat) (s u : State), s.rd F.CIST_STATUS_ARMED = 0 ∧ u = s.wr F.CIST_PIN_CTRL_COUNT n ∧
      u.pinCheck (u.rd F.CIST_PIN_CTRL_COUNT) (u.rd F.CIST_PIN_LIST_BASE * 16) = 0 ∧ s.admitted = false) ∧
    (∃ (n : Nat) (s u : State), s.rd F.CIST_STATUS_ARMED = 0 ∧ u = s.wr F.CIST_PIN_CTRL_COUNT n ∧
      u.pinCheck (u.rd F.CIST_PIN_CTRL_COUNT) (u.rd F.CIST_PIN_LIST_BASE * 16) ≠ 0) ∧
    (∃ (n : Nat) (s u : State), s.rd F.CIST_STATUS_ARMED = 0 ∧ u = s.wr F.CIST_PIN_CTRL_COUNT n ∧
      u.pinCheck (u.rd F.CIST_PIN_CTRL_COUNT) (u.rd F.CIST_PIN_LIST_BASE * 16) = 0 ∧ s.admitted = true) ∧
    (∃ s : State, s.rd F.CIST_STATUS_ARMED = 1 ∧ s.tooLate (s.rd F.CIST_PIN_ARM_STEP_STEP) = false) ∧
    (∃ s : State, s.rd F.CIST_STATUS_ARMED = 1 ∧ s.tooLate (s.rd F.CIST_PIN_ARM_STEP_STEP) = true) ∧
    (∃ s : State, s.rd F.CIST_STATUS_FILLING = 1) ∧ (∃ s : State, s.rd F.CIST_STATUS_FILLING = 0) ∧
    (∃ (line : Nat) (s : State), s.rd F.MEM_SCRUB_ENABLE = 1 ∧ line % 64 = 0 ∧ inTiers line 64 = true) ∧
    (∃ s : State, s.rd F.MEM_SCRUB_ENABLE = 0) ∧ (∃ line : Nat, inTiers line 64 = false) ∧
    (∃ a : Nat, isScratch a = false) ∧ (∃ a : Nat, isScratch a = true) :=
  ⟨⟨64, mopCode 0 1 true false, zeros 8, timed, _, by decide +kernel, by decide +kernel, by decide +kernel, by decide +kernel,
      by decide +kernel, rfl, by decide +kernel⟩,
   ⟨64, mopCode 7 1 true false, natLE 16 5, timed, _, by decide +kernel, by decide +kernel, by decide +kernel,
      by decide +kernel, by decide +kernel, rfl, by decide +kernel⟩,
   ⟨64, mopCode 0 1 true false, zeros 8, { timed with poison := [8] }, _, by decide +kernel, by decide +kernel,
      by decide +kernel, by decide +kernel, by decide +kernel, rfl, by decide +kernel⟩,
   ⟨64, mopCode 0 1 true false, zeros 8, timed, by decide +kernel⟩,
   ⟨1, mopCode 0 1 true false, timed, by decide +kernel⟩,
   ⟨64, mopCode 0 1 true false, timed.wr F.NODE_PROFILE_SWITCHING 1, by decide +kernel⟩, ⟨0, by decide⟩,
   ⟨1, pins 4096 4096, _, by decide +kernel, rfl, by decide +kernel⟩,
   ⟨257, pins 4096 4096, _, by decide +kernel, rfl, by decide +kernel⟩,
   ⟨1, { pins 4096 4096 with job := (jobbed (ent 1 []) .waiting).job }, _, by decide +kernel, rfl, by decide +kernel⟩,
   ⟨(timed.wr F.CIST_STATUS_ARMED 1).wr F.CIST_PIN_ARM_STEP_STEP 9, by decide +kernel⟩,
   ⟨timed.wr F.CIST_STATUS_ARMED 1, by decide +kernel⟩, ⟨timed.wr F.CIST_STATUS_FILLING 1, by decide +kernel⟩,
   ⟨timed, by decide +kernel⟩, ⟨64, timed, by decide +kernel⟩, ⟨timed.wr F.MEM_SCRUB_ENABLE 0, by decide +kernel⟩,
   ⟨scratchAddr 0 0, by decide +kernel⟩, ⟨4096, by decide +kernel⟩, ⟨scratchAddr 0 0, by decide +kernel⟩⟩

/-- A request of a kind with a size and an address, its CRC after it. -/
def reqBytes (kind sizeLog2 seq addr : Nat) (body : Bytes) : Bytes :=
  let p : Bytes := natLE 1 kind ++ zeros 4 ++ natLE 1 sizeLog2 ++ zeros 2 ++ natLE 6 addr ++ zeros 2 ++ natLE 4 0x20
    ++ natLE 4 seq ++ zeros 8 ++ body
  p ++ natLE 8 (crc64 p)

theorem natLE_length (n v : Nat) : (natLE n v).length = n := by
  induction n generalizing v with
  | zero => rfl
  | succ n ih => exact congrArg (· + 1) (ih _)

theorem leNat_natLE (n v : Nat) : leNat (natLE n v) = v % 256 ^ n := by
  induction n generalizing v with
  | zero => exact (Nat.mod_one v).symm
  | succ n ih =>
    have h : leNat (natLE (n + 1) v) = v % 256 + 256 * leNat (natLE n (v / 256)) := by
      simp [natLE, leNat, BitVec.toNat_ofNat]
    rw [h, ih, Nat.pow_succ', Nat.mod_mul]

theorem crc64Bit_lt {c : Nat} (h : c < 2 ^ 64) : crc64Bit c < 2 ^ 64 := by
  have hs : c >>> 1 < 2 ^ 64 := by rw [Nat.shiftRight_eq_div_pow]; omega
  unfold crc64Bit
  split
  · exact Nat.xor_lt_two_pow hs (by decide)
  · exact hs

theorem crc64_lt (bs : Bytes) : crc64 bs < 2 ^ 64 := by
  unfold crc64
  refine Nat.xor_lt_two_pow ?_ (by decide)
  suffices h : ∀ (l : Bytes) (c : Nat), c < 2 ^ 64 → List.foldl (fun (c : Nat) (b : Byte) =>
      crc64Bit (crc64Bit (crc64Bit (crc64Bit (crc64Bit (crc64Bit (crc64Bit (crc64Bit (c ^^^ b.toNat)))))))))
      c l < 2 ^ 64 from h bs _ (by decide)
  intro l
  induction l with
  | nil => exact fun _ h => h
  | cons b l ih =>
    intro c hc
    refine ih _ ?_
    iterate 8 apply crc64Bit_lt
    exact Nat.xor_lt_two_pow hc (b.isLt.trans (by decide))

/-- A byte string with its CRC-64 after it carries that CRC. -/
theorem crcHolds (q : Bytes) : fld (q ++ natLE 8 (crc64 q)) ((q ++ natLE 8 (crc64 q)).length - 8) 8 =
    crc64 ((q ++ natLE 8 (crc64 q)).take ((q ++ natLE 8 (crc64 q)).length - 8)) := by
  have hl : (q ++ natLE 8 (crc64 q)).length - 8 = q.length := by rw [List.length_append, natLE_length]; omega
  rw [hl, List.take_left' rfl, fld, List.drop_left' rfl, List.take_of_length_le (natLE_length _ _).le, leNat_natLE]
  exact Nat.mod_eq_of_lt (crc64_lt q)

theorem fld_head (h t : Bytes) (off n : Nat) (hl : off + n ≤ h.length) : fld (h ++ t) off n = fld h off n := by
  unfold fld
  rw [List.drop_append_of_le_length (by omega), List.take_append_of_le_length (by rw [List.length_drop]; omega)]

/-- A BULK_PUT of 4608 bytes is well formed. -/
theorem putOk : reqOk (reqBytes Kind.bulkPut 12 0 4096 (zeros 4608)) Kind.bulkPut = true := by
  have hh : reqBytes Kind.bulkPut 12 0 4096 (zeros 4608) =
      (natLE 1 Kind.bulkPut ++ zeros 4 ++ natLE 1 12 ++ zeros 2 ++ natLE 6 4096 ++ zeros 2 ++ natLE 4 0x20 ++ natLE 4 0
        ++ zeros 8 ++ zeros 4608) ++ natLE 8 (crc64 (natLE 1 Kind.bulkPut ++ zeros 4 ++ natLE 1 12 ++ zeros 2
        ++ natLE 6 4096 ++ zeros 2 ++ natLE 4 0x20 ++ natLE 4 0 ++ zeros 8 ++ zeros 4608)) := rfl
  rw [hh]
  generalize hz : zeros 4608 = z
  have hzl : z.length = 4608 := by rw [← hz]; exact List.length_replicate
  generalize hq : natLE 1 Kind.bulkPut ++ zeros 4 ++ natLE 1 12 ++ zeros 2 ++ natLE 6 4096 ++ zeros 2 ++ natLE 4 0x20
    ++ natLE 4 0 ++ zeros 8 ++ z = q
  have hql : q.length = 4640 := by rw [← hq]; simp [natLE_length, zeros, hzl]
  have hc := crcHolds q
  have hl : (q ++ natLE 8 (crc64 q)).length = 4648 := by rw [List.length_append, natLE_length, hql]
  have hk : fld (q ++ natLE 8 (crc64 q)) 0 1 = Kind.bulkPut := by
    rw [fld_head _ _ 0 1 (by omega), ← hq, fld_head _ z 0 1 (by simp [natLE_length, zeros])]
    decide
  rw [hl] at hc
  simp only [reqOk, hl, hk, hc, beq_self_eq_true]
  rfl

/-- Source 1 may send its request 5 next, and its request 4 was performed. -/
def heard (next : Nat) : State :=
  { timed with fab := { timed.fab with recs := [(0x20, ⟨next, 0, [⟨4, St.ok, [], 0⟩]⟩)] } }

/-- A request of a kind with a hint, a size and an address, its CRC after it. -/
def hintBytes (kind hint sizeLog2 seq addr : Nat) (body : Bytes) : Bytes :=
  let p : Bytes := natLE 1 kind ++ natLE 1 hint ++ zeros 3 ++ natLE 1 sizeLog2 ++ zeros 2 ++ natLE 6 addr ++ zeros 2
    ++ natLE 4 0x20 ++ natLE 4 seq ++ zeros 8 ++ body
  p ++ natLE 8 (crc64 p)

/-- Source 1 with as many kept results as the home has for one source. -/
def crowded : State :=
  { timed with fab := { timed.fab with recs := [(0x20, ⟨5, 0, List.replicate 1024 ⟨4, St.ok, [], 0⟩⟩)] } }

/-- Every record of the home is taken by other sources. -/
def recsFull : State :=
  { timed with fab := { timed.fab with recs := List.replicate 65535 (0, ⟨0, 0, []⟩) } }

theorem mfind_replicate {α : Type} (n k j : Nat) (a : α) (h : j ≠ k) : mfind (List.replicate n (j, a)) k = none := by
  induction n with
  | zero => rfl
  | succ n ih => simp [List.replicate_succ, mfind, h.symm, ih]

theorem filter_replicate_len {α : Type} (n : Nat) (a : α) (p : α → Bool) (h : p a = true) :
    ((List.replicate n a).filter p).length = n := by
  rw [List.filter_replicate_of_pos h, List.length_replicate]

theorem witness_FabricRequestsAtTheHome :
    (∀ hint ∈ [0, 2], ∃ (p : Bytes) (v : State), v = (timed.homeSeen p 0).eccAll [] ∧
      v.homeStatus (fld p 8 6) 8 false = St.ok ∧ bits (fld p 1 1) 0 2 = hint ∧ fld p 5 1 = 3 ∧ reqOk p Kind.read = true) ∧
    (∃ (p : Bytes) (v : State), v = (timed.homeSeen p 0).eccAll [] ∧ v.homeStatus (fld p 8 6) 8 false ≠ St.ok ∧
      fld p 5 1 = 3 ∧ reqOk p Kind.read = true) ∧
    (∃ p : Bytes, fld p 5 1 = 6 ∧ reqOk p Kind.read = true) ∧ (∃ p : Bytes, fld p 5 1 = 12 ∧ reqOk p Kind.bulkGet = true) ∧
    (∃ p : Bytes, fld p 5 1 = 4 ∧ reqOk p Kind.read = true) ∧ (∃ p : Bytes, fld p 5 1 = 11 ∧ reqOk p Kind.bulkGet = true) ∧
    (∀ k ∈ [Kind.write, Kind.mop, Kind.ack], ∃ p : Bytes, reqOk p k = true) ∧
    (∃ p : Bytes, reqOk p Kind.bulkPut = true) ∧
    (∀ k ∈ [Kind.read, Kind.write, Kind.mop, Kind.bulkGet, Kind.bulkPut, Kind.ack], ∃ p : Bytes, reqOk p k = false) ∧
    (∃ (p : Bytes) (src : Nat) (r : SrcRec), src = fld p 16 3 % 2 ^ 20 ∧ mfind (heard 5).fab.recs src = some r ∧
      (fld p 20 4 + 2 ^ 32 - r.next) % 2 ^ 32 = 0) ∧
    (∃ (p : Bytes) (src : Nat), src = fld p 16 3 % 2 ^ 20 ∧ mfind timed.fab.recs src = none ∧ timed.fab.recs.length < 65535) ∧
    (∀ seq ∈ [3, 4], ∃ (p : Bytes) (src d : Nat) (r r' : SrcRec), src = fld p 16 3 % 2 ^ 20 ∧ seq = fld p 20 4 ∧
      mfind (heard 5).fab.recs src = some r ∧
      r' = { r with last := 0, entries := r.entries.filter (fun e => (e.seq + 2 ^ 32 - fld p 24 4) % 2 ^ 32 < 2 ^ 31) } ∧
      d = (seq + 2 ^ 32 - r.next) % 2 ^ 32 ∧ 2 ^ 31 ≤ d ∧ (r'.entries.find? (fun e => e.seq == seq)).isSome = (seq == 4)) ∧
    (∃ (s : State) (src d : Nat) (r : SrcRec), mfind s.fab.recs src = some r ∧ d = (6 + 2 ^ 32 - r.next) % 2 ^ 32 ∧
      d < 2 ^ 31 ∧ d ≠ 0) ∧
    (∃ (v : State) (line src seq at10 w : Nat), (v.lineAdmit line src seq at10).2 = some w) ∧
    (∃ (v : State) (line src seq at10 : Nat), (v.lineAdmit line src seq at10).2 = none) ∧
    (∃ (v : State) (r : SrcRec), mfind v.fab.recs 0x20 = some r ∧ 1024 ≤ r.entries.length ∧
      1024 ≤ (r.entries.filter (fun e => (e.seq + 2 ^ 32 - 0) % 2 ^ 32 < 2 ^ 31)).length) ∧
    (∃ v : State, 65536 ≤ v.rd F.FAB_REPLAY_ENTRIES) ∧
    (∃ v : State, v.rd F.FAB_REPLAY_ENTRIES < 65536) ∧
    (∀ a ∈ [64, 0xEFFFFFFFFFF8], ∃ (p : Bytes) (m : MopResult), fld p 8 6 = a ∧ (timed.performReq p 0).2 = m ∧
      (m.status = St.ok ↔ a = 64)) ∧
    (∃ s : State, mfind s.fab.recs 0x20 = none ∧ 65535 ≤ s.fab.recs.length) ∧
    (∀ ok ∈ [true, false], ∃ (p : Bytes) (s : State), fld p 0 1 % 16 = Kind.write ∧
      (s.homeStatus (fld p 8 6) ((p.take (p.length - 8)).drop 32).length true == St.ok) = ok) ∧
    (∀ ok ∈ [true, false], ∃ (p : Bytes) (s : State), fld p 0 1 % 16 = Kind.bulkPut ∧
      (s.homeStatus (fld p 8 6) 4096 true == St.ok) = ok) ∧
    (∃ p : Bytes, fld p 0 1 % 16 = Kind.mop) ∧
    (∃ (src : Fin 1048576) (at10 : Nat) (s : State) (r : SrcRec), mfind s.fab.recs src = some r ∧ 10000000 + r.last ≤ at10) ∧
    (∃ (src : Fin 1048576) (at10 : Nat) (s : State) (r : SrcRec), mfind s.fab.recs src = some r ∧ at10 < 10000000 + r.last) ∧
    (∃ (src : Fin 1048576) (s : State), mfind s.fab.recs src = none) ∧
    (∃ (line : Nat) (s : State) (q : LineQueue), mfind s.fab.lines line = some q) ∧
    (∃ (line : Nat) (s : State), mfind s.fab.lines line = none) := by
  refine ⟨fun h hh => ⟨hintBytes Kind.read h 3 0 64 [], _, rfl, ?_⟩,
   ⟨reqBytes Kind.read 3 0 0xEFFFFFFFFFF8 [], _, rfl, by decide +kernel⟩,
   ⟨reqBytes Kind.read 6 0 64 [], by decide +kernel⟩, ⟨reqBytes Kind.bulkGet 12 0 4096 [], by decide +kernel⟩,
   ⟨reqBytes Kind.read 4 0 64 [], by decide +kernel⟩, ⟨reqBytes Kind.bulkGet 11 0 4096 [], by decide +kernel⟩,
   fun k hk => ⟨reqBytes k 3 0 64 (zeros (if k = Kind.ack then 0 else 8)), ?_⟩,
   ⟨_, putOk⟩, fun k hk => ⟨[], ?_⟩,
   ⟨reqBytes Kind.write 3 5 64 (zeros 8), _, _, rfl, rfl, by decide +kernel⟩,
   ⟨reqBytes Kind.write 3 5 64 (zeros 8), _, rfl, rfl, by decide +kernel⟩,
   fun q hq => ⟨reqBytes Kind.write 3 q 64 (zeros 8), _, _, ⟨5, 0, [⟨4, St.ok, [], 0⟩]⟩, _, rfl, ?_, ?_, rfl, rfl, ?_, ?_⟩,
   ⟨heard 5, 0x20, 1, _, rfl, rfl, by decide, by decide⟩,
   ⟨{ timed with fab := { timed.fab with lines := [(0, ⟨List.replicate 64 5, []⟩)] } }, 0, 1, 0, 0, 116, ?_⟩,
   ⟨timed, 0, 1, 0, 0, by decide +kernel⟩,
   ⟨crowded, ⟨5, 0, List.replicate 1024 ⟨4, St.ok, [], 0⟩⟩, rfl, (List.length_replicate).ge, (filter_replicate_len _ _ _ rfl).ge⟩,
   ⟨timed.wr F.FAB_REPLAY_ENTRIES 65536, by decide +kernel⟩, ⟨timed, by decide +kernel⟩,
   fun a ha => ⟨reqBytes Kind.write 3 0 a (zeros 8), _, ?_, rfl, ?_⟩,
   ⟨recsFull, mfind_replicate _ _ _ _ (by decide), (List.length_replicate).ge⟩,
   fun o ho => ⟨reqBytes Kind.write 3 0 (if o then 64 else 0xEFFFFFFFFFF8) (zeros 8), timed, ?_⟩,
   fun o ho => ⟨reqBytes Kind.bulkPut 12 0 (if o then 4096 else 0xEFFFFFFFF000) [], timed, ?_⟩,
   ⟨reqBytes Kind.mop 3 0 64 [], by decide +kernel⟩,
   ⟨0x20, 10000000, heard 5, _, rfl, by decide⟩, ⟨0x20, 9999999, heard 5, _, rfl, by decide⟩, ⟨0, timed, rfl⟩,
   ⟨0, { timed with fab := { timed.fab with lines := [(0, ⟨[], []⟩)] } }, _, rfl⟩, ⟨0, timed, rfl⟩⟩
  · revert h; decide +kernel
  · revert k; decide +kernel
  · revert k; decide +kernel
  iterate 4 (revert q; decide +kernel)
  · decide +kernel
  · revert a; decide +kernel
  · revert a; decide +kernel
  · revert o; decide +kernel
  · revert o; decide +kernel

/-- Request 9 of an engine to node 1, of a kind, sent k times. -/
def outReq (engine kind k : Nat) (w : Waiter) : Req :=
  ⟨engine, 1, kind, 0, 0, 0, 3, fabricAddr 1 64, 2, 9, [], 0, k, false, 24, w, []⟩

/-- One request of an engine to node 1 with tag 9, sent k times. -/
def askedBy (engine kind k : Nat) (w : Waiter) : State :=
  { timed with fab := { timed.fab with reqs := [outReq engine kind k w] } }

/-- One request of engine 0 to node 1 with tag 9, sent k times. -/
def asked (kind k : Nat) (w : Waiter) : State := askedBy 0 kind k w

/-- A reply of a status to tag 9 of engine 0. -/
def replyBytes (status tag : Nat) : Bytes :=
  let p : Bytes := natLE 2 8 ++ natLE 2 status ++ zeros 4 ++ natLE 4 tag ++ zeros 4
  p ++ natLE 8 (crc64 p)

theorem witness_FabricRequestsAtTheSource :
    (∀ g ∈ [0, 20], ∀ k ∈ [Kind.write, Kind.read], ∀ n ∈ [1, 3], ∃ (s : State) (r : Req),
      s.fab.reqs.find? (fun r => r.tag == 9) = some r ∧ r.sends = n ∧ r.kind = k ∧ r.engine = g) ∧
    (∀ n ∈ [0, 4], ∃ (s : State) (r : Req), s.fab.reqs.find? (fun r => r.tag == 9) = some r ∧ r.sends = n) ∧
    (∀ k ∈ [Kind.mop, Kind.read], ∃ (tag : Nat) (s : State) (r : Req), s.fab.reqs.find? (fun r => r.tag == tag) = some r ∧
      r.kind = k) ∧
    (∃ (tag : Nat) (s : State), s.fab.reqs.find? (fun r => r.tag == tag) = none) ∧
    (∀ st ∈ [St.ok, St.backoff], ∃ (p : Bytes) (s : State) (r : Req), 24 ≤ p.length ∧ fld p 0 1 = 8 ∧
      fld p (p.length - 8) 8 = crc64 (p.take (p.length - 8)) ∧ fld p 4 3 / 32 = s.nodeId ∧
      s.fab.reqs.find? (fun r => r.tag == fld p 8 4 && r.engine == fld p 4 3 % 32) = some r ∧ fld p 2 2 = st) ∧
    (∃ (p : Bytes) (s : State), 24 ≤ p.length ∧ fld p 0 1 = 8 ∧
      fld p (p.length - 8) 8 = crc64 (p.take (p.length - 8)) ∧ fld p 4 3 / 32 = s.nodeId ∧
      s.fab.reqs.find? (fun r => r.tag == fld p 8 4 && r.engine == fld p 4 3 % 32) = none) ∧
    (∃ p : Bytes, p.length < 24) ∧
    (∀ at10 ∈ [4, 5], ∃ (g : Fin 24) (d : Fin 32768) (s : State) (e' d' seq due : Nat),
      s.fab.holds.find? (fun h => h.1 == g.val && h.2.1 == d.val) = some (e', d', seq, due) ∧ (due ≤ at10 ↔ at10 = 5)) ∧
    (∃ (g : Fin 24) (d : Fin 32768) (s : State), s.fab.holds.find? (fun h => h.1 == g.val && h.2.1 == d.val) = none) ∧
    (∃ (g : Fin 24) (d : Fin 32768) (s : State), s.fab.owed.contains (seqKey g d) = true) ∧
    (∃ (g : Fin 24) (d : Fin 32768) (s : State), s.fab.owed.contains (seqKey g d) = false) ∧
    (∃ (r : Req) (n rd size : Nat) (sgn amo : Bool), r.waiter = .core n rd size sgn amo ∧ r.carry = []) ∧
    (∃ (r : Req) (n : Nat) (e : Option Nat), r.waiter = .corePost n e ∧ r.carry = []) ∧ isSuccess St.targetDead = false := by
  refine ⟨fun g hg k hk n hn => ⟨askedBy g k n .gone, outReq g k n .gone, ?_⟩,
   fun n hn => ⟨asked Kind.read n .gone, outReq 0 Kind.read n .gone, rfl, rfl⟩,
   fun k hk => ⟨9, asked k 1 .gone, outReq 0 k 1 .gone, rfl, rfl⟩, ⟨9, timed, rfl⟩,
   fun st h => ⟨replyBytes st 9, asked Kind.read 1 .gone, outReq 0 Kind.read 1 .gone, ?_⟩,
   ⟨replyBytes 0 9, timed, by decide +kernel⟩, ⟨[], by decide⟩,
   fun t ht => ⟨23, 7, { timed with fab := { timed.fab with holds := [(23, 7, 0, 5)] } }, 23, 7, 0, 5, rfl, ?_⟩,
   ⟨0, 0, timed, rfl⟩,
   ⟨23, 7, { timed with fab := { timed.fab with owed := [seqKey 23 7] } }, by decide +kernel⟩, ⟨0, 0, timed, rfl⟩,
   ⟨outReq 0 Kind.read 1 (.core 0 1 8 true false), 0, 1, 8, true, false, rfl, rfl⟩,
   ⟨outReq 0 Kind.write 1 (.corePost 0 none), 0, none, rfl, rfl⟩, by decide⟩
  · revert n k g; decide +kernel
  · revert st; decide +kernel
  · revert t; decide

/-! ## Ports, plans and cables -/

/-- Ports 0 to 4 are UP. -/
def linked5 : State := (List.range 5).foldl (fun s p => s.setPort p Port.up) timed

/-- A PORT_CONTROL of an operation on a port. -/
def portCtl (s : State) (p op : Nat) : State := gated s (sub0 Op.portControl (natLE 1 p ++ natLE 1 op ++ zeros 2))

/-- Port 9 in a state, enabled or not, its cable present or not, its lanes trained or not. -/
def port9 (st on cable lanes : Nat) : State :=
  (((timed.wr (F.PORT_STATUS_ENABLED 9) on).wr (F.PORT_CABLE_PRESENT 9) cable).setPort 9 st).wr (F.PORT_STATUS_LANES_TRAINED 9) lanes

theorem witness_PortCommands :
    (∀ on ∈ [0, 1], ∃ (s u : State) (q : Sub) (p : Nat), s.takes q Op.portControl u ∧ p = q.p 0 1 ∧ portBad q = false ∧
      u.portBusy p = false ∧ q.p 1 1 = 0 ∧ u.rd (F.PORT_STATUS_ENABLED p) = on) ∧
    (∀ x ∈ [Port.up, Port.train, Port.wait], ∃ (s u : State) (q : Sub) (p : Nat), s.takes q Op.portControl u ∧ p = q.p 0 1 ∧
      portBad q = false ∧ u.portBusy p = false ∧ q.p 1 1 = 1 ∧ u.drainRefused p = false ∧
      (u.wr (F.PORT_STATUS_ENABLED p) 0).portState p = x) ∧
    (∀ x ∈ [Port.up, Port.train, Port.wait, Port.off], ∃ (s u : State) (q : Sub) (p : Nat), s.takes q Op.portControl u ∧
      p = q.p 0 1 ∧ portBad q = false ∧ u.portBusy p = false ∧ q.p 1 1 = 2 ∧ u.drainRefused p = false ∧ u.portState p = x) ∧
    (∀ x ∈ [(Port.drained, 15, 1), (Port.drained, 0, 1), (Port.drained, 0, 0), (Port.up, 15, 1)],
      ∃ (s u : State) (q : Sub) (p : Nat), s.takes q Op.portControl u ∧ p = q.p 0 1 ∧ portBad q = false ∧
      u.portBusy p = false ∧ q.p 1 1 = 3 ∧ u.portState p = x.1 ∧ u.rd (F.PORT_STATUS_LANES_TRAINED p) = x.2.1 ∧
      u.rd (F.PORT_CABLE_PRESENT p) = x.2.2) ∧
    (∃ (s u : State) (q : Sub) (p : Nat), s.takes q Op.portControl u ∧ p = q.p 0 1 ∧ portBad q = false ∧
      u.portBusy p = false ∧ q.p 1 1 = 4) ∧
    (∃ (s u : State) (q : Sub), s.takes q Op.portControl u ∧ 4 < q.p 1 1) ∧
    (∀ k ∈ [0, 1, 2, 3, 4], (∃ (s u : State) (q : Sub), s.takes q Op.portControl u ∧ q.p 1 1 = k ∧ portBad q = true) ∧
      (∃ (s u : State) (q : Sub), s.takes q Op.portControl u ∧ q.p 1 1 = k ∧ portBad q = false ∧
        u.portBusy (q.p 0 1) = true)) ∧
    (∀ k ∈ [1, 2], ∃ (s u : State) (q : Sub), s.takes q Op.portControl u ∧ q.p 1 1 = k ∧ portBad q = false ∧
      u.portBusy (q.p 0 1) = false ∧ u.drainRefused (q.p 0 1) = true) ∧
    (∀ x ∈ [(Port.up, 1), (Port.wait, 0), (Port.wait, 1)], ∃ (s u v : State) (q : Sub) (p h : Nat),
      s.takes q Op.portRetrain u ∧ p = q.p 0 1 ∧ p ≤ 9 ∧ u.portBusy p = false ∧ u.drainRefused p = false ∧
      u.accept q = (v, h) ∧ v.portState p = x.1 ∧ v.rd (F.PORT_STATUS_ENABLED p) = x.2) ∧
    (∀ x ∈ [Port.up, Port.drained, Port.off, Port.down, Port.held, Port.train, Port.wait], ∃ (s u v : State) (q : Sub) (p h : Nat),
      s.takes q Op.portRelease u ∧ p = q.p 0 1 ∧ p ≤ 9 ∧ u.portBusy p = false ∧ u.drainRefused p = false ∧
      u.accept q = (v, h) ∧ v.portState p = x) ∧
    (∀ op ∈ [Op.portRetrain, Op.portRelease], ∃ (s u : State) (q : Sub), s.takes q op u ∧ 9 < q.p 0 1) ∧
    (∀ op ∈ [Op.portRetrain, Op.portRelease], ∃ (s u : State) (q : Sub), s.takes q op u ∧ q.p 0 1 ≤ 9 ∧
      u.portBusy (q.p 0 1) = true) ∧
    (∀ op ∈ [Op.portRetrain, Op.portRelease], ∃ (s u : State) (q : Sub), s.takes q op u ∧ q.p 0 1 ≤ 9 ∧
      u.portBusy (q.p 0 1) = false ∧ u.drainRefused (q.p 0 1) = true) := by
  refine ⟨fun on h => ⟨portCtl (port9 Port.wait on 0 0) 9 0, _, _, _, gated_takes _ _ _ rfl (by decide +kernel), rfl, ?_⟩,
    fun x h => ⟨portCtl (port9 x 1 1 0) 9 1, _, _, _, gated_takes _ _ _ rfl (by decide +kernel), rfl, ?_⟩,
    fun x h => ⟨portCtl (port9 x 1 1 0) 9 2, _, _, _, gated_takes _ _ _ rfl (by decide +kernel), rfl, ?_⟩,
    fun x h => ⟨portCtl (port9 x.1 1 x.2.2 x.2.1) 9 3, _, _, _, gated_takes _ _ _ rfl (by decide +kernel), rfl, ?_⟩,
    ⟨portCtl timed 9 4, _, _, 9, gated_takes _ _ _ rfl (by decide +kernel), by decide +kernel⟩,
    ⟨portCtl timed 0 5, _, _, gated_takes _ _ _ rfl (by decide +kernel), by decide +kernel⟩,
    fun k h => ⟨⟨portCtl timed 10 k, _, _, gated_takes _ _ _ rfl ?_, ?_⟩,
      ⟨portCtl (port9 Port.draining 1 1 15) 9 k, _, _, gated_takes _ _ _ rfl ?_, ?_⟩⟩,
    fun k h => ⟨portCtl timed 3 k, _, _, gated_takes _ _ _ rfl ?_, ?_⟩,
    fun x h => ⟨gated (port9 x.1 x.2 1 0) (sub0 Op.portRetrain [9]), _, _, _, 9, _, gated_takes _ _ _ rfl (by decide +kernel),
      by decide +kernel, by decide, ?_, ?_, rfl, ?_⟩,
    fun x h => ⟨gated (port9 x 1 1 0) (sub0 Op.portRelease [9]), _, _, _, 9, _, gated_takes _ _ _ rfl (by decide +kernel),
      by decide +kernel, by decide, ?_, ?_, rfl, ?_⟩,
    fun op h => ⟨gated timed (sub0 op [10]), _, _, gated_takes _ _ _ rfl ?_, ?_⟩,
    fun op h => ⟨gated (port9 Port.draining 1 1 15) (sub0 op [9]), _, _, gated_takes _ _ _ rfl ?_, ?_⟩,
    fun op h => ⟨gated timed (sub0 op [5]), _, _, gated_takes _ _ _ rfl ?_, ?_⟩⟩
  · revert on; decide +kernel
  iterate 3 (revert x; decide +kernel)
  iterate 6 (revert k; decide +kernel)
  iterate 6 (revert x; decide +kernel)
  all_goals revert op; decide +kernel

/-- Port 0 is UP with one unacknowledged frame, replayed k times. -/
def resending (k : Nat) : State := linked.setPt 0 { linked.pt 0 with replay := [(4, [])], replays := k, txSeq := 5 }

theorem witness_LinksDeliverAndRecover :
    (∀ x ∈ [Port.up, Port.draining, Port.drained, Port.held], ∃ (p : Fin 10) (s : State), s.portState p = x) ∧
    (∃ (p : Fin 10) (seq ack : Fin 4096) (crc : Nat) (data : Bytes) (s v : State), s.portState p = Port.up ∧
      v = s.incw (F.PORT_FEC_CORRECTED p) 2 ∧ crc = frameCrc seq ack data ∧ seq.val = (v.pt p).rxSeq) ∧
    (∃ (p : Fin 10) (seq ack : Fin 4096) (crc : Nat) (data : Bytes) (s v : State), s.portState p = Port.up ∧
      v = s.incw (F.PORT_FEC_CORRECTED p) 2 ∧ crc = frameCrc seq ack data ∧ seqBefore seq (v.pt p).rxSeq = true) ∧
    (∀ a ∈ [true, false], ∃ (p : Fin 10) (seq ack : Fin 4096) (crc : Nat) (data : Bytes) (s v : State), s.portState p = Port.up ∧
      v = s.incw (F.PORT_FEC_CORRECTED p) 2 ∧ crc = frameCrc seq ack data ∧ seq.val ≠ (v.pt p).rxSeq ∧
      seqBefore seq (v.pt p).rxSeq = false ∧ (v.pt p).asked = a) ∧
    (∀ k ∈ [0, 1], ∀ a ∈ [true, false], ∃ (p : Fin 10) (seq ack : Fin 4096) (crc : Nat) (data : Bytes) (s v : State),
      s.portState p = Port.up ∧ v = s.incw (F.PORT_FEC_CORRECTED p) 2 ∧ crc ≠ frameCrc seq ack data ∧
      (v.pt p).asked = a ∧ (seq.val = (v.pt p).rxSeq ↔ k = 0)) ∧
    (∃ (p : Fin 10) (seq : Fin 4096) (s u : State), s.portState p = Port.up ∧ u = s.frameAck p seq ∧ (u.pt p).replay ≠ [] ∧
      (u.pt p).replays < 8) ∧
    (∃ (p : Fin 10) (seq : Fin 4096) (s u : State), s.portState p = Port.up ∧ u = s.frameAck p seq ∧ (u.pt p).replay ≠ [] ∧
      8 ≤ (u.pt p).replays) ∧
    (∃ (p : Fin 10) (seq : Fin 4096) (s u : State), s.portState p = Port.up ∧ u = s.frameAck p seq ∧ (u.pt p).replay = []) ∧
    (∃ (p : Fin 10) (s : State), s.portState p ∉ [Port.up, Port.draining, Port.drained, Port.held]) ∧
    (∀ d ∈ [DrainFor.none, .disable, .retrain, .latch, .removal], ∃ (p : Fin 10) (s : State), s.portState p = Port.draining ∧
      (s.pt p).replay = [] ∧ (s.pt p).queue = [] ∧ s.storeWaits p = false ∧ (s.pt p).drain = d) ∧
    (∃ (p : Fin 10) (s : State), s.portState p = Port.draining ∧ s.storeWaits p = true) ∧
    (∃ (p : Fin 10) (s : State), s.portState p = Port.draining ∧ (s.pt p).queue ≠ []) ∧
    (∃ (p : Fin 10) (s : State), s.portState p = Port.draining ∧ (s.pt p).replay ≠ []) ∧
    (∃ (p : Fin 10) (s : State), s.portState p = Port.wait ∧ s.rd (F.PORT_STATUS_ENABLED p) = 1 ∧
      s.rd (F.PORT_CABLE_PRESENT p) = 1 ∧ s.panel.unpowered.contains p.val = false ∧ s.removable = false) ∧
    (∃ (p : Fin 10) (s : State), s.portState p = Port.wait ∧ s.rd (F.PORT_STATUS_ENABLED p) = 0) ∧
    (∃ (p : Fin 10) (s : State), s.portState p = Port.wait ∧ s.rd (F.PORT_CABLE_PRESENT p) = 0) ∧
    (∃ (p : Fin 10) (s : State), s.portState p = Port.wait ∧ s.panel.unpowered.contains p.val = true) ∧
    (∃ s : State, s.removable = true) ∧
    (∀ t ∈ [(0 : Fin 256), 0xC0], ∃ (p : Fin 10) (s : State), s.portState p = Port.train ∧
      s.trainMode p [0, 0, 0, t] = if t = 0 then none else some (3, 0xC0)) ∧
    (∃ (p : Fin 10) (s : State), s.portState p = Port.train ∧ s.shortReach p = true) ∧
    (∃ (p : Fin 10) (s : State), s.portState p = Port.train ∧ s.shortReach p = false) ∧
    (∃ (p : Fin 10) (m g : Nat) (s : State), m ≤ s.rd (F.PORT_STATUS_MODE_FLOOR p) ∧ g ∈ laneGroups p m ∧
      ∀ x : Nat, x = (([255] : List (Fin 256)).getD m 0).val &&& (255 - s.rd (F.PORT_STATUS_LANES_OOS p)) → g &&& x = g) ∧
    (∃ (p : Fin 10) (s : State), s.portState p ≠ Port.train) := by
  refine ⟨fun x h => ⟨9, timed.setPort 9 x, ?_⟩, ⟨0, 0, 0, _, [], linked, _, by decide +kernel, rfl, rfl, by decide +kernel⟩,
    ⟨0, 4095, 0, _, [], linked, _, by decide +kernel, rfl, rfl, by decide +kernel⟩,
    fun a h => ⟨0, 1, 0, _, [], linked.setPt 0 { linked.pt 0 with asked := a }, _, ?_, rfl, rfl, ?_⟩,
    fun q hq a h => ⟨0, Fin.ofNat 4096 q, 0, _, [], linked.setPt 0 { linked.pt 0 with asked := a }, _, ?_, rfl, Nat.succ_ne_self _, ?_⟩,
    ⟨0, 4, resending 7, _, by decide +kernel, rfl, by decide +kernel⟩,
    ⟨0, 4, resending 8, _, by decide +kernel, rfl, by decide +kernel⟩,
    ⟨0, 5, resending 8, _, by decide +kernel, rfl, by decide +kernel⟩, ⟨0, timed, by decide +kernel⟩,
    fun d h => ⟨0, (timed.setPort 0 Port.draining).setPt 0 { timed.pt 0 with drain := d }, ?_⟩,
    ⟨8, { timed.setPort 8 Port.draining with ckpt := { timed.ckpt with
      drain := some ⟨3, 0, 0, 0, 0, [], [], [], [], [(0, 8)], [], 0, none⟩ } }, by decide +kernel⟩,
    ⟨0, (timed.setPort 0 Port.draining).setPt 0 { timed.pt 0 with queue := [(⟨0, false⟩, ⟨0, [], []⟩)] }, by decide +kernel⟩,
    ⟨0, (timed.setPort 0 Port.draining).setPt 0 { timed.pt 0 with replay := [(0, [])] }, by decide +kernel⟩,
    ⟨9, port9 Port.wait 1 1 0, by decide +kernel⟩, ⟨9, port9 Port.wait 0 1 0, by decide +kernel⟩,
    ⟨9, port9 Port.wait 1 0 0, by decide +kernel⟩,
    ⟨9, { port9 Port.wait 1 1 0 with panel := { timed.panel with unpowered := [9] } }, by decide +kernel⟩,
    ⟨timed.wr F.PANEL_STATUS_REQUEST 2, by decide +kernel⟩,
    fun t h => ⟨0, (timed.setPort 0 Port.train).wr (F.PORT_STATUS_MODE_FLOOR 0) 5, ?_⟩,
    ⟨0, { ((timed.setPort 0 Port.train).wr (F.PORT_CABLE_TYPE 0) 1).wr (F.PORT_CABLE_LENGTH_DM 0) 15 with
      panel := { timed.panel with short := [0] } }, by decide +kernel⟩,
    ⟨9, timed.setPort 9 Port.train, by decide +kernel⟩,
    ⟨0, 0, 255, timed, by decide +kernel, by decide +kernel, fun x hx => by rw [hx]; decide +kernel⟩, ⟨0, timed, by decide +kernel⟩⟩
  · revert x; decide +kernel
  iterate 3 (revert a; decide +kernel)
  · revert a q; decide +kernel
  · revert d; decide +kernel
  · revert t; decide +kernel

/-! A fabric plan whose digest holds, without its digest being computed. -/

theorem sub_head (h t : Bytes) (off n : Nat) (hl : off + n ≤ h.length) : Machine.sub (h ++ t) off n = Machine.sub h off n := by
  unfold Machine.sub
  rw [List.drop_append_of_le_length (by omega), List.take_append_of_le_length (by rw [List.length_drop]; omega)]

theorem fld_zeros (m off n : Nat) : fld (zeros m) off n = 0 := by
  have h : ∀ k, leNat (List.replicate k 0#8) = 0 := by
    intro k
    induction k with
    | zero => rfl
    | succ k ih => rw [List.replicate_succ]; show 0 + 256 * leNat _ = 0; rw [ih]
  unfold fld zeros
  rw [List.drop_replicate, List.take_replicate]
  exact h _

theorem drop_after (h t : Bytes) (off : Nat) (hl : h.length ≤ off) : (h ++ t).drop off = t.drop (off - h.length) := by
  rw [List.drop_append, List.drop_eq_nil_of_le hl, List.nil_append]

theorem sub_zeros (m off n : Nat) : Machine.sub (zeros m) off n = zeros n := by
  unfold Machine.sub zeros
  rw [List.drop_replicate, List.take_replicate]
  simp only [List.length_replicate, List.replicate_append_replicate]
  congr 1
  omega

theorem readBytes_rawWrite (s : State) (a n : Nat) (bs : Bytes) (hm : Memory.wf s.mem = true) (hu : s.undef = [])
    (hn : n ≤ bs.length) : (s.rawWrite a bs).readBytes a n = bs.take n := by
  refine List.ext_getElem (by simp [State.readBytes, hn]) (fun i h1 h2 => ?_)
  have hi : i < n := by simpa [State.readBytes] using h1
  rw [List.getElem_take]
  simp only [State.readBytes, List.getElem_map, List.getElem_range]
  rw [State.readByte_rawWrite_in s a bs i hm (by omega) (by rw [hu]; rfl)]
  rw [List.getD_eq_getElem?_getD, List.getElem?_eq_getElem (by omega)]
  rfl

/-- A plan of job tag 7 with one route set, version 0, every place of which is reached by port 0, and a digest. -/
def planHead : Bytes := [0x50, 0x46, 1, 0, 7, 0, 0, 0, 1, 0, 0, 0] ++ zeros 20
def planOf (d : Bytes) : Bytes := planHead ++ (d ++ zeros 1216)
def planBytes : Bytes := planOf (sha3_256 (planOf (zeros 32)))

theorem planOf_length (d : Bytes) (h : d.length = 32) : (planOf d).length = 1280 := by
  rw [planOf, List.length_append, List.length_append, h, zeros, List.length_replicate]
  decide

theorem planHead_fld (t : Bytes) (off n : Nat) (h : off + n ≤ 32) : fld (planHead ++ t) off n = fld planHead off n :=
  fld_head planHead t off n h

theorem planHead_ok (t : Bytes) : planHeaderOk (planHead ++ t) = true := by
  have h : planHeaderOk (planHead ++ t) = planHeaderOk planHead := by
    simp (disch := decide) only [planHeaderOk, planHead_fld, sub_head planHead t 12 20 (by decide)]
  rw [h]
  decide +kernel

theorem planTail (d : Bytes) (h : d.length = 32) (off n : Nat) (hl : 64 ≤ off) : Machine.sub (planOf d) off n = zeros n ∧
    fld (planOf d) off n = 0 := by
  have hp : planHead.length = 32 := by decide
  have hd : (planOf d).drop off = (zeros 1216).drop (off - 64) := by
    rw [planOf, drop_after _ _ _ (by rw [hp]; omega), drop_after _ _ _ (by rw [h, hp]; omega), hp, h]
    rw [Nat.sub_sub]
  refine ⟨?_, ?_⟩
  · rw [Machine.sub, hd]; exact sub_zeros 1216 (off - 64) n
  · rw [fld, hd]; exact fld_zeros 1216 (off - 64) n

theorem entry_zero (own : Bool) : entryOk own 0 = true := by cases own <;> decide +kernel

theorem getD_zero (n k : Nat) (f : Nat → Nat) (hf : ∀ i, f i = 0) : ((List.range n).map f).getD k 0 = 0 := by
  rw [List.getD_eq_getElem?_getD, List.getElem?_map]
  cases (List.range n)[k]? with
  | none => rfl
  | some i => exact hf i

theorem planOf_contents (d : Bytes) (h : d.length = 32) : planContentsOk (planOf d) = true := by
  have hf : ∀ off n, off + n ≤ 32 → fld (planOf d) off n = fld planHead off n := fun off n hl => fld_head planHead _ off n hl
  have h8 : fld (planOf d) 8 1 = 1 := by rw [hf _ _ (by decide)]; decide +kernel
  have h9 : fld (planOf d) 9 1 = 0 := by rw [hf _ _ (by decide)]; decide +kernel
  have h10 : fld (planOf d) 10 1 = 0 := by rw [hf _ _ (by decide)]; decide +kernel
  have h11 : fld (planOf d) 11 1 = 0 := by rw [hf _ _ (by decide)]; decide +kernel
  have hz : ∀ n off k, fld (zeros n) off k = 0 := fld_zeros
  have ht := planTail d h
  have h64 : Machine.sub (planOf d) 64 1216 = zeros 1216 := (ht 64 1216 (by decide)).1
  have hc : ∀ n k : Nat, ((List.range n).map (fun _ => 0)).getD k 0 = 0 := fun n k => getD_zero n k _ (fun _ => rfl)
  have hu : List.range 1 = [0] := rfl
  have hv : List.range 0 = [] := rfl
  simp only [planContentsOk, parsePlan, h8, h9, h10, h11, hu, hv, List.map_cons, List.map_nil, Nat.mul_zero, Nat.add_zero, h64,
    List.all_cons, List.all_nil, Bool.and_true, (ht 64 1 (by decide)).2, (ht 65 63 (by decide)).1,
    List.any_cons, List.any_nil, hz]
  simp only [List.all_eq_true, Bool.and_eq_true, hc, entry_zero, implies_true, and_true, List.length_cons, List.length_nil]
  decide +kernel

theorem plan_patch (d : Bytes) (h : d.length = 32) : Machine.sub (planOf d) 32 32 = d ∧
    patch (planOf d) 32 (zeros 32) = planOf (zeros 32) := by
  have hp : planHead.length = 32 := by decide
  have hz : (zeros 32).length = 32 := by decide
  have hs : Machine.sub planHead 0 32 = planHead := by decide +kernel
  constructor
  · rw [Machine.sub, planOf, drop_after _ _ _ (by omega), hp, Nat.sub_self, List.drop_zero,
      List.take_append_of_le_length (by omega), List.take_of_length_le (by omega)]
    show d ++ List.replicate (32 - d.length) 0 = d
    rw [h]
    exact List.append_nil d
  · rw [patch, planOf, sub_head _ _ _ _ (by omega), hs, drop_after _ _ _ (by omega), hp, hz,
      drop_after d (zeros 1216) _ (by omega), h, List.append_assoc]
    rfl

theorem planBytes_digest : digestOf planBytes 32 = Machine.sub planBytes 32 32 := by
  have h := plan_patch _ (sha3_length (planOf (zeros 32)))
  rw [planBytes, h.1, digestOf, h.2]

theorem planBytes_length : planBytes.length = 1280 := planOf_length _ (sha3_length _)
theorem planRead_plan (s u : State) (hu : u.mem = (s.rawWrite 4096 planBytes).mem) (hd : u.undef = s.undef) (hm : Memory.wf s.mem = true) (he : s.undef = [])
    (hp : u.poison = []) (hb : u.backed 4096 64 = true) (hc : u.backed 4096 1280 = true) (hn : u.nodeId = 0) :
    u.planRead 4096 = (St.ok, some (parsePlan planBytes)) := by
  have hr : ∀ n, n ≤ 1280 → u.readBytes 4096 n = planBytes.take n := by
    intro n h
    rw [← readBytes_rawWrite s 4096 n planBytes hm he (by rw [planBytes_length]; exact h)]
    simp only [State.readBytes, State.readByte, State.rawWrite, hu, hd, he]
    rfl
  have ha : planBytes.take 64 = planHead ++ ((sha3_256 (planOf (zeros 32)) ++ zeros 1216).take 32) := by
    unfold planBytes
    rw [planOf, List.take_append]
    rfl
  have hq : ∀ n, u.poisoned 4096 n = false := fun n => by rw [State.poisoned, hp]; rfl
  have hw : planBytes.take 1280 = planBytes := List.take_of_length_le (by rw [planBytes_length])
  have hk : ∀ t, planLength (planHead ++ t) = 1280 := by
    intro t
    have h : planLength (planHead ++ t) = planLength planHead := by
      simp (disch := decide) only [planLength, planHead_fld]
    rw [h]
    decide +kernel
  have hi : ∀ t, fld (planHead ++ t) 6 2 = 0 := fun t => by rw [fld_head planHead t _ _ (by decide)]; decide +kernel
  have hs : u.structFault 4096 planLength = 0 := by
    simp [State.structFault, hb, hc, hq, hr 64 (by decide), ha, hk]
  unfold State.planRead
  rw [hs]
  simp only [hr 64 (by decide), ha, planHead_ok, hi, hn, hk, hr 1280 (by decide), hw,
    show planContentsOk planBytes = true from planOf_contents _ (sha3_length _), planBytes_digest]
  simp

/-! A schedule image whose digest holds, likewise. -/

/-- A schedule image of one END_STEP for a terrace, without its digest. -/
def imgHead (t : Fin 16) : Bytes :=
  natLE 2 0x5345 ++ [1, 1] ++ natLE 2 1100 ++ zeros 2 ++ natLE 8 1000000 ++ [6, 0] ++ natLE 1 t ++ [0] ++ natLE 2 1 ++ zeros 10
def imgRest : Bytes := zeros 1024 ++ ([0x0F] ++ zeros 7 ++ [0xFF, 0xFF, 0xFF] ++ zeros 21)
def imgOf (t : Fin 16) (d : Bytes) : Bytes := imgHead t ++ (d ++ imgRest)
@[irreducible] def imgBytes (t : Fin 16) : Bytes := imgOf t (sha3_256 (imgOf t (zeros 32)))

theorem imgHead_length (t : Fin 16) : (imgHead t).length = 32 := by
  revert t; decide +kernel

theorem imgOf_length (t : Fin 16) (d : Bytes) (h : d.length = 32) : (imgOf t d).length = 1120 := by
  rw [imgOf, List.length_append, List.length_append, h, imgHead_length]
  decide +kernel

theorem imgHead_fld (t : Fin 16) (x : Bytes) (off n : Nat) (h : off + n ≤ 32) : fld (imgHead t ++ x) off n = fld (imgHead t) off n :=
  fld_head (imgHead t) x off n (by rw [imgHead_length]; exact h)

theorem imgTail (t : Fin 16) (d : Bytes) (h : d.length = 32) (off n : Nat) (hl : 64 ≤ off) :
    Machine.sub (imgOf t d) off n = Machine.sub imgRest (off - 64) n := by
  have hp := imgHead_length t
  rw [Machine.sub, imgOf, drop_after _ _ _ (by rw [hp]; omega), drop_after _ _ _ (by rw [h, hp]; omega), hp, h, Nat.sub_sub]
  rfl

theorem img_patch (t : Fin 16) (d : Bytes) (h : d.length = 32) : Machine.sub (imgOf t d) 32 32 = d ∧
    patch (imgOf t d) 32 (zeros 32) = imgOf t (zeros 32) := by
  have hp := imgHead_length t
  have hz : (zeros 32).length = 32 := by decide
  have hs : Machine.sub (imgHead t) 0 32 = imgHead t := by revert t; decide +kernel
  constructor
  · rw [Machine.sub, imgOf, drop_after _ _ _ (by omega), hp, Nat.sub_self, List.drop_zero,
      List.take_append_of_le_length (by omega), List.take_of_length_le (by omega)]
    show d ++ List.replicate (32 - d.length) 0 = d
    rw [h]
    exact List.append_nil d
  · rw [patch, imgOf, sub_head _ _ _ _ (by omega), hs, drop_after _ _ _ (by omega), hp, hz,
      drop_after d imgRest _ (by omega), h, List.append_assoc]
    rfl

theorem imgBytes_digest (t : Fin 16) : digestOf (imgBytes t) 32 = Machine.sub (imgBytes t) 32 32 := by
  have h := img_patch t _ (sha3_length (imgOf t (zeros 32)))
  rw [imgBytes, h.1, digestOf, h.2]

/-- A SCHEDULE_LOAD of the image at 0 for terrace 0. -/
def imaged : State := gated (timed.rawWrite 0 (imgBytes 0)) (sub0 Op.scheduleLoad (natLE 2 1 ++ zeros 6 ++ natLE 8 8192))

theorem imgBytes_fld (t : Fin 16) (off n : Nat) (h : off + n ≤ 32) : fld (imgBytes t) off n = fld (imgHead t) off n := by
  rw [imgBytes, imgOf, imgHead_fld _ _ _ _ h]

theorem imaged_entries (t : Fin 16) : (parseBank (imgBytes t)).entries = [parseEntry (Machine.sub imgRest 1024 32)] ∧
    (parseBank (imgBytes t)).header.profile = 1 ∧ (parseBank (imgBytes t)).header.towerMhz = 1100 ∧
    (parseBank (imgBytes t)).header.tbId = 0 ∧ (parseBank (imgBytes t)).header.tickLog2 = 6 ∧
    (parseBank (imgBytes t)).header.periodNs = 1000000 := by
  have h := sha3_length (imgOf t (zeros 32))
  have h1 : fld (imgBytes t) 20 2 = 1 := by rw [imgBytes_fld _ _ _ (by decide)]; revert t; decide +kernel
  refine ⟨?_, ?_⟩
  · simp only [parseBank, h1, List.range_one, List.map_cons, List.map_nil]
    rw [imgBytes, imgTail _ _ h _ _ (by decide)]
  · simp (disch := decide) only [parseBank, parseHeader, imgBytes_fld]
    revert t; decide +kernel

theorem imgCheck_image (u : State) (t : Fin 16) (a : Nat) (binding : Bool)
    (hr : ∀ n, n ≤ 1120 → u.readBytes a n = (imgBytes t).take n) (hb : u.backed a 64 = true) (hc : u.backed a 1120 = true)
    (hq : ∀ n, u.poisoned a n = false) (hp : u.profile = 1) (hm : u.rd F.NODE_PROFILE_TOWER_MHZ = 1100)
    (hd : u.bindingIs 0 6 1000000 = true) : u.imgCheck t a binding = Sum.inr (parseBank (imgBytes t)) := by
  have h := sha3_length (imgOf t (zeros 32))
  have ha : (imgBytes t).take 64 = imgHead t ++ ((sha3_256 (imgOf t (zeros 32)) ++ imgRest).take 32) := by
    unfold imgBytes
    rw [imgOf, List.take_append, imgHead_length, List.take_of_length_le (by rw [imgHead_length]; decide)]
  have hw : (imgBytes t).take 1120 = imgBytes t := List.take_of_length_le (by rw [imgBytes, imgOf_length _ _ h])
  have hl : ∀ x, imageLength (fld (imgHead t ++ x) 20 2) = 1120 := fun x => by
    rw [imgHead_fld _ _ _ _ (by decide)]; exact (by decide +kernel : ∀ t, imageLength (fld (imgHead t) 20 2) = 1120) t
  have hk : ∀ x, imageHeaderOk (imgHead t ++ x) t = true := fun x => by
    have h : imageHeaderOk (imgHead t ++ x) t = imageHeaderOk (imgHead t) t := by
      simp (disch := decide) only [imageHeaderOk, imgHead_fld]
    rw [h]; exact (by decide +kernel : ∀ t : Fin 16, imageHeaderOk (imgHead t) t = true) t
  have hsub : ∀ off n, 64 ≤ off → Machine.sub (imgBytes t) off n = Machine.sub imgRest (off - 64) n := fun off n h2 => by
    rw [imgBytes]; exact imgTail _ _ h off n h2
  obtain ⟨he, hpr, hmz, h0, h1, h2⟩ := imaged_entries t
  have hf : firstBad 64 (fun f => u.fieldMapOk (Machine.sub (imgBytes t) (64 + 16 * f) 16)) = none := by
    rw [firstBad, List.find?_eq_none]
    intro f hf
    have hf := List.mem_range.1 hf
    rw [hsub _ _ (by omega), show 64 + 16 * f - 64 = 16 * f from by omega]
    have hz : Machine.sub imgRest (16 * f) 16 = zeros 16 := by
      rw [imgRest, sub_head _ _ _ _ (by rw [zeros, List.length_replicate]; omega), sub_zeros]
    rw [hz]
    have : u.fieldMapOk (zeros 16) = true := by
      have hv : (parseFieldMap (zeros 16)).valid = false := by decide +kernel
      simp [State.fieldMapOk, hv, fld_zeros]
    simp [this]
  have hs2 : Machine.sub (imgBytes t) 1088 32 = Machine.sub imgRest 1024 32 := hsub _ _ (by decide)
  unfold State.imgCheck
  simp only [hb, hc, hq, hr 64 (by decide), ha, hl, hk, hr 1120 (by decide), hw, imgBytes_digest, hpr, hmz, hp, hm, h0, h1, h2, hd, hf, he]
  have e1 : firstBad 1 (fun i => entryCodesOk (Machine.sub (imgBytes t) (1088 + 32 * i) 32) &&
      u.entryRulesOk (parseBank (imgBytes t)) i (parseEntry (Machine.sub (imgBytes t) (1088 + 32 * i) 32))) = none := by
    have hx : u.entryRulesOk (parseBank (imgBytes t)) 0 (parseEntry (Machine.sub imgRest 1024 32)) = true := by
      have ha : parseEntry (Machine.sub imgRest 1024 32) = ⟨Act.endStep, false, false, false, 0, 0, 0, 0xFFFFFF, 0, 0, 0, zeros 16⟩ := by
        decide +kernel
      simp only [State.entryRulesOk, he, ha]
      cases u.sealed <;> simp [Act.endStep, Act.reflect, Act.quiet, Act.fieldSend, Act.tensorRun, Act.vectorProgram, Act.solve,
        Act.move, Act.collective, Act.digest, Act.barrier]
    rw [firstBad, List.range_one, List.find?_cons, List.find?_nil]
    simp only [Nat.mul_zero, Nat.add_zero, hs2, hx]
    have : entryCodesOk (Machine.sub imgRest 1024 32) = true := by decide +kernel
    simp [this]
  have e2 : firstBad 1 (fun i => !(u.refusesV && (parseEntry (Machine.sub (imgBytes t) (1088 + 32 * i) 32)).action == Act.collective &&
      (parseEntry (Machine.sub (imgBytes t) (1088 + 32 * i) 32)).op 17 1 == 2)) = none := by
    have ha : (parseEntry (Machine.sub imgRest 1024 32)).action = Act.endStep := by decide +kernel
    rw [firstBad, List.range_one, List.find?_cons, List.find?_nil]
    simp only [Nat.mul_zero, Nat.add_zero, hs2, ha]
    cases u.refusesV <;> decide +kernel
  simp only [List.length_cons, List.length_nil, Nat.zero_add, e1, e2]
  simp

theorem witness_SchedulesLoadImages : ∃ (s u : State) (q : Sub) (banks : List Bank), s.takes q Op.scheduleLoad u ∧ q.p 0 2 ≠ 0 ∧
    (u.sealed = true → q.p 0 2 < 256) ∧ u.rd F.NODE_PROFILE_SWITCHING = 0 ∧ u.armedIn (q.p 0 2) = false ∧
    u.ckpt.shrink = none ∧ u.backed (q.p 8 8) 128 = true ∧ u.poisoned (q.p 8 8) 128 = false ∧
    (terraces (q.p 0 2)).map (fun t => u.imgCheck t (u.readNat (q.p 8 8 + 8 * t) 8) u.admitted) = banks.map Sum.inr := by
  refine ⟨imaged, _, _, [parseBank (imgBytes 0)], gated_takes _ _ _ rfl (by decide +kernel), by decide +kernel, by decide +kernel,
    by decide +kernel, by decide +kernel, rfl, by decide +kernel, by decide +kernel, ?_⟩
  have ht : terraces ((sub0 Op.scheduleLoad (natLE 2 1 ++ zeros 6 ++ natLE 8 8192)).p 0 2) = [0] := by decide +kernel
  have hz : (imaged.taken []).readNat ((sub0 Op.scheduleLoad (natLE 2 1 ++ zeros 6 ++ natLE 8 8192)).p 8 8 + 8 * 0) 8 = 0 := by
    have hp : (sub0 Op.scheduleLoad (natLE 2 1 ++ zeros 6 ++ natLE 8 8192)).p 8 8 = 8192 := by decide +kernel
    rw [hp]
    have hl : (imgBytes 0).length = 1120 := by rw [imgBytes]; exact imgOf_length _ _ (sha3_length _)
    have hb : ∀ i, i < 8 → (timed.rawWrite 0 (imgBytes 0)).readByte (8192 + i) = 0 := fun i hi => by
      rw [State.readByte_rawWrite_out _ _ _ _ (by rw [hl]; omega)]
      match i, hi with
      | 0, _ | 1, _ | 2, _ | 3, _ | 4, _ | 5, _ | 6, _ | 7, _ => rfl
    have hx : ∀ k, (imaged.taken []).readByte k = (timed.rawWrite 0 (imgBytes 0)).readByte k := fun k => rfl
    have hy : (List.range 8).map (fun i => (imaged.taken []).readByte (8192 + i)) = (List.range 8).map (fun _ => 0#8) :=
      List.map_congr_left (fun i hi => by rw [hx]; exact hb i (List.mem_range.1 hi))
    rw [State.readNat, State.readBytes, hy]
    decide
  rw [ht]
  rw [List.map_cons, List.map_nil, List.map_cons, List.map_nil]
  unfold imaged at hz
  rw [hz]
  congr 1
  refine imgCheck_image _ 0 0 _ (fun n hn => ?_) (by decide +kernel) (by decide +kernel) (fun n => rfl) (by decide +kernel)
    (by decide +kernel) (by decide +kernel)
  show (timed.rawWrite 0 (imgBytes 0)).readBytes 0 n = _
  exact readBytes_rawWrite timed 0 n (imgBytes 0) (by decide +kernel) rfl (by rw [imgBytes, imgOf_length _ _ (sha3_length _)]; exact hn)

/-- A FABRIC_PLAN_LOAD of a tag for the image at 4096. -/
def planLoadOn (s : State) (op tag : Nat) (image : Bytes) : State :=
  gated (s.rawWrite 4096 image) (sub0 Op.fabricPlanLoad (natLE 1 op ++ zeros 1 ++ natLE 2 tag ++ zeros 4 ++ natLE 8 4096))

/-- The same on the running node. -/
def planLoad (op tag : Nat) (image : Bytes) : State := planLoadOn timed op tag image

/-- A plan's route set of a tag and version. -/
def setOf (tag ver : Nat) : RouteSet := ⟨tag, ver, List.replicate 512 0xF0, List.replicate 64 0xF0⟩

/-- A job of tag 7 runs with versions 0 and 1 stored. -/
def swapping (armed : Nat) : State :=
  gated ({ (timed.wr F.FAB_ROUTE_LIVE_JOB_TAG 7).wr F.FAB_ROUTE_LIVE_ARMED armed with
    job := some ⟨7, 1, 0, 0, 1, 0, [], none, none, none, true⟩, net := { timed.net with sets := [setOf 7 0, setOf 7 1] } })
    (sub0 Op.routeSwap (natLE 2 7 ++ natLE 1 1))

/-- Port 0 in a state, with one frame waiting and a number of frames unacknowledged. -/
def queued (st n : Nat) : State :=
  (timed.setPort 0 st).setPt 0 { timed.pt 0 with queue := [(⟨0, false⟩, ⟨0, [[1]], []⟩)], replay := List.replicate n (0, []) }

/-- A JOB_ADMIT is in progress. -/
def admittingNow : State := { timed with job := some ⟨7, 1, 0, 0, 1, 0, [], none, none, some (0, false, []), true⟩ }

/-- The route store is full. -/
def setsFull : State := { timed with net := { timed.net with sets := (List.range 256).map (setOf 8) } }

theorem queued_state (n : Nat) : ∀ x ∈ [Port.up, Port.draining], (queued x n).portState 0 = x := by
  have h : ∀ x, (queued x n).portState 0 = (timed.setPort 0 x).portState 0 := fun x => rfl
  simp only [h]
  decide +kernel

theorem queued_room (x n : Nat) : ((queued x n).pt 0).room [(1 : Byte)].length = decide (n < 2047) := by
  have h : ((queued x n).pt 0).replay = List.replicate n (0, []) :=
    congrArg PortState.replay (mget_mput_same _ _ _ _)
  simp [PortState.room, h]

theorem witness_PlansAndRoutes :
    (∃ (tag : Fin 65536) (ver : Fin 16) (dest : Fin 32768) (s : State), (s.routeTo tag ver dest).2 = .port 0) ∧
    (∃ (tag : Fin 65536) (ver : Fin 16) (dest : Fin 32768) (s : State), (s.routeTo tag ver dest).2 = .here) ∧
    (∃ (tag : Fin 65536) (ver : Fin 16) (dest : Fin 32768) (s : State), (s.routeTo tag ver dest).2 = .absent) ∧
    (∃ (tag : Fin 65536) (ver : Fin 16) (dest : Fin 32768) (s : State), (s.routeTo tag ver dest).2 = .unreachable) ∧
    (∃ data : Bytes, chunkOk data = true) ∧ (∃ data : Bytes, chunkOk data = false) ∧
    (∃ (p : Nat) (s : State), s.portState p ≠ Port.up ∧ s.portState p ≠ Port.draining) ∧
    (∃ (p : Nat) (s : State), (s.pt p).queue = []) ∧
    (∀ x ∈ [Port.up, Port.draining], ∀ n ∈ [2046, 2047], ∃ (p : Nat) (s : State) (f : Bytes) (t : Turn) (q : PortQueue),
      s.portState p = x ∧ (s.pt p).queue = [(t, q)] ∧ t.on = false ∧ q.frames = [f] ∧ q.chunks = [] ∧ f.length ≤ 4608 ∧
      (s.pt p).room f.length = decide (n = 2046)) ∧
    (∃ (x y : PortQueue) (f f' g g' : Bytes), x.frames = [f, f'] ∧ y.frames = [g, g'] ∧ f.length = 4608 ∧ f'.length = 4608 ∧
      g.length = 4608 ∧ g'.length = 4608 ∧ x.chunks = [] ∧ y.chunks = []) ∧
    (∃ (q : PortQueue) (m : Bytes), fld m 0 1 ∉ [0, 1, 2] ∧ q.frames ≠ [] ∧ ∀ f ∈ q.frames, f = []) ∧
    (∃ (s u : State) (q : Sub) (st : Nat) (pl : Plan), s.takes q Op.fabricPlanLoad u ∧ q.p 0 1 = 0 ∧ q.p 2 2 ≠ 0 ∧
      u.planRead (q.p 8 8) = (st, some pl) ∧ pl.jobTag = q.p 2 2 ∧ u.storeFull pl = false ∧ u.jobChanging = false ∧
      pl.sets.any (fun x => u.setInUse x.jobTag x.ver) = false) ∧
    (∃ (s u : State) (q : Sub) (st : Nat) (pl : Plan), s.takes q Op.fabricPlanLoad u ∧ q.p 0 1 = 0 ∧ q.p 2 2 ≠ 0 ∧
      u.planRead (q.p 8 8) = (st, some pl) ∧ pl.jobTag ≠ q.p 2 2) ∧
    (∃ (s u : State) (q : Sub) (st : Nat) (pl : Plan), s.takes q Op.fabricPlanLoad u ∧ q.p 0 1 = 0 ∧ q.p 2 2 ≠ 0 ∧
      u.planRead (q.p 8 8) = (st, some pl) ∧ pl.jobTag = q.p 2 2 ∧ u.storeFull pl = true) ∧
    (∃ (s u : State) (q : Sub) (st : Nat) (pl : Plan), s.takes q Op.fabricPlanLoad u ∧ q.p 0 1 = 0 ∧ q.p 2 2 ≠ 0 ∧
      u.planRead (q.p 8 8) = (st, some pl) ∧ pl.jobTag = q.p 2 2 ∧ u.storeFull pl = false ∧ u.jobChanging = true) ∧
    (∃ (s u : State) (q : Sub) (st : Nat), s.takes q Op.fabricPlanLoad u ∧ q.p 0 1 = 0 ∧ q.p 2 2 ≠ 0 ∧
      u.planRead (q.p 8 8) = (st, none)) ∧
    (∃ (s u : State) (q : Sub), s.takes q Op.fabricPlanLoad u ∧ q.p 0 1 = 0 ∧ q.p 2 2 = 0) ∧
    (∃ (s u : State) (q : Sub), s.takes q Op.fabricPlanLoad u ∧ 1 < q.p 0 1) ∧
    (∃ (s u : State) (q : Sub), s.takes q Op.fabricPlanLoad u ∧ q.p 0 1 = 1 ∧ q.p 2 2 ≠ 0 ∧ u.jobChanging = false ∧
      u.net.sets.any (fun x => x.jobTag == q.p 2 2 && u.setInUse (q.p 2 2) x.ver) = false) ∧
    (∃ (s u : State) (q : Sub), s.takes q Op.fabricPlanLoad u ∧ q.p 0 1 = 1 ∧ q.p 2 2 = 0) ∧
    (∃ (s u : State) (q : Sub), s.takes q Op.fabricPlanLoad u ∧ q.p 0 1 = 1 ∧ q.p 2 2 ≠ 0 ∧ u.jobChanging = true) ∧
    (∀ armed ∈ [0, 1], ∃ (s u : State) (q : Sub), s.takes q Op.routeSwap u ∧ u.admitted = true ∧ u.liveTag = q.p 0 2 ∧
      u.net.sets.any (fun x => x.jobTag == q.p 0 2 && x.ver == q.p 2 1) = true ∧ u.rd F.FAB_ROUTE_LIVE_ARMED = armed) ∧
    (∃ (s u : State) (q : Sub), s.takes q Op.routeSwap u ∧ u.admitted = false) ∧
    (∃ (s u : State) (q : Sub), s.takes q Op.routeSwap u ∧ u.admitted = true ∧ u.liveTag ≠ q.p 0 2) ∧
    (∃ (s u : State) (q : Sub), s.takes q Op.routeSwap u ∧ u.admitted = true ∧ u.liveTag = q.p 0 2 ∧
      u.net.sets.any (fun x => x.jobTag == q.p 0 2 && x.ver == q.p 2 1) = false) ∧
    (∀ k ∈ [0, 1, 4, 5, 7], ∃ here there : Nat, here < 8 ∧ there < 8 ∧ (there + 8 - here) % 8 = k) := by
  refine ⟨⟨0, 0, 64, linked, by decide +kernel⟩, ⟨0, 0, 0, linked, by decide +kernel⟩, ⟨7, 0, 1, linked, by decide +kernel⟩,
    ⟨0, 0, 64, timed, by decide +kernel⟩,
    ⟨chunkMsg 0 0 0 0 0 0 0 0 0 0 [], by decide +kernel⟩, ⟨[], by decide +kernel⟩, ⟨0, timed, by decide +kernel⟩,
    ⟨0, timed, rfl⟩, fun x hx n hn => ⟨0, queued x n, [1], ⟨0, false⟩, ⟨0, [[1]], []⟩, ?_,
      congrArg PortState.queue (mget_mput_same _ _ _ _), rfl, rfl, rfl, by decide, ?_⟩,
    ⟨⟨0, [zeros 4608, zeros 4608], []⟩, ⟨1, [zeros 4608, zeros 4608], []⟩, _, _, _, _, rfl, rfl, List.length_replicate,
      List.length_replicate, List.length_replicate, List.length_replicate, rfl, rfl⟩,
    ⟨⟨0, [[]], []⟩, [3], by decide, by decide, by decide⟩,
    ⟨planLoad 0 7 planBytes, _, _, St.ok, parsePlan planBytes, gated_takes _ _ _ rfl (by decide +kernel), by decide +kernel,
      by decide +kernel,
      planRead_plan timed _ (gated_mem (State.rawWrite timed 4096 planBytes) _) rfl (by decide +kernel) rfl rfl (by decide +kernel)
        (by decide +kernel) (by decide +kernel),
      by decide +kernel⟩,
    ⟨planLoad 0 8 planBytes, _, _, St.ok, parsePlan planBytes, gated_takes _ _ _ rfl (by decide +kernel), by decide +kernel,
      by decide +kernel,
      planRead_plan timed _ (gated_mem (State.rawWrite timed 4096 planBytes) _) rfl (by decide +kernel) rfl rfl (by decide +kernel)
        (by decide +kernel) (by decide +kernel),
      by decide +kernel⟩,
    ⟨planLoadOn setsFull 0 7 planBytes, _, _, St.ok, parsePlan planBytes, gated_takes _ _ _ rfl (by decide +kernel),
      by decide +kernel, by decide +kernel,
      planRead_plan setsFull _ (gated_mem (State.rawWrite setsFull 4096 planBytes) _) rfl (by decide +kernel) rfl rfl (by decide +kernel)
        (by decide +kernel) (by decide +kernel),
      by decide +kernel⟩,
    ⟨planLoadOn admittingNow 0 7 planBytes, _, _, St.ok, parsePlan planBytes, gated_takes _ _ _ rfl (by decide +kernel),
      by decide +kernel, by decide +kernel,
      planRead_plan admittingNow _ (gated_mem (State.rawWrite admittingNow 4096 planBytes) _) rfl (by decide +kernel) rfl rfl (by decide +kernel)
        (by decide +kernel) (by decide +kernel),
      by decide +kernel⟩,
    ⟨planLoad 0 7 [], _, _, St.badParam, gated_takes _ _ _ rfl (by decide +kernel), by decide +kernel⟩,
    ⟨planLoad 0 0 [], _, _, gated_takes _ _ _ rfl (by decide +kernel), by decide +kernel⟩,
    ⟨planLoad 2 7 [], _, _, gated_takes _ _ _ rfl (by decide +kernel), by decide +kernel⟩,
    ⟨planLoad 1 7 [], _, _, gated_takes _ _ _ rfl (by decide +kernel), by decide +kernel⟩,
    ⟨planLoad 1 0 [], _, _, gated_takes _ _ _ rfl (by decide +kernel), by decide +kernel⟩,
    ⟨planLoadOn admittingNow 1 7 [], _, _, gated_takes _ _ _ rfl (by decide +kernel), by decide +kernel⟩,
    fun a h => ⟨swapping a, _, _, gated_takes _ _ _ rfl (by decide +kernel), ?_⟩,
    ⟨gated timed (sub0 Op.routeSwap (natLE 2 7 ++ natLE 1 1)), _, _, gated_takes _ _ _ rfl (by decide +kernel), by decide +kernel⟩,
    ⟨gated (swapping 0) (sub0 Op.routeSwap (natLE 2 8 ++ natLE 1 1)), _, _, gated_takes _ _ _ rfl (by decide +kernel), by decide +kernel⟩,
    ⟨gated (swapping 0) (sub0 Op.routeSwap (natLE 2 7 ++ natLE 1 2)), _, _, gated_takes _ _ _ rfl (by decide +kernel), by decide +kernel⟩,
    fun k h => ⟨0, k, ?_⟩⟩
  · revert x; exact queued_state n
  · have hn : n = 2046 ∨ n = 2047 := by simpa using hn
    rw [queued_room]
    rcases hn with rfl | rfl <;> rfl
  all_goals first | decide +kernel | (revert a; decide +kernel) | (revert k; decide +kernel)

/-- A cable in receptacle 0, its latch depressed or not, warned of or not. -/
def cabled (latch warned : Bool) : State := ((timed.setPresent 0 true).setLatch 0 latch).setWarned 0 warned

/-- What the insertion of a cable in receptacle 9 does before its port acts. -/
def insertedAt9 (s : State) (m : Bytes := []) : State :=
  let u := (s.setPresent 9 true).readCable 9 m
  ((({ u with keep := { u.keep with insertions := mput u.keep.insertions 9 ((mget u.keep.insertions 9 0 + 1) % 2 ^ 32) } }
    : State).showCounters.ev F.PANEL_EVENTS_CABLE_IN).ev (F.PORT_EVENTS_CABLE_IN 9))

theorem witness_CablesLatchesAndTheButton :
    (∃ s : State, s.cablePresent 9 = false ∧ s.boot.failed = false ∧ (insertedAt9 s).removalPending = true ∧ (insertedAt9 s).admitted = false) ∧
    (∃ s : State, s.cablePresent 9 = false ∧ s.boot.failed = false ∧ (insertedAt9 s).removalPending = false ∧
      (insertedAt9 s).panel.unpowered.contains 9 = false) ∧
    (∃ s : State, s.cablePresent 9 = false ∧ s.boot.failed = false ∧ (insertedAt9 s).removalPending = true ∧ (insertedAt9 s).admitted = true) ∧
    (∀ x ∈ [Port.down, Port.off], ∃ (s : State) (m : Bytes), s.cablePresent 9 = false ∧ s.boot.failed = false ∧
      (insertedAt9 s m).removalPending = false ∧ (insertedAt9 s m).panel.unpowered.contains 9 = true ∧
      (insertedAt9 s m).portState 9 = x) ∧
    (∀ x ∈ [Port.up, Port.train, Port.draining], ∃ (p : Fin 10) (s : State), s.cablePresent p = true ∧
      s.boot.failed = false ∧ bit (s.rd F.PANEL_CABLES_WARNED) p = false ∧ s.portState p = x) ∧
    (∀ x ∈ [Port.up, Port.off], ∃ (p : Fin 10) (s : State), s.cablePresent p = true ∧
      s.boot.failed = false ∧ bit (s.rd F.PANEL_CABLES_WARNED) p = true ∧ s.portState p = x) ∧
    (∀ x ∈ [Port.wait, Port.off], ∃ (p : Fin 10) (s : State), s.cablePresent p = true ∧
      s.boot.failed = false ∧ bit (s.rd F.PANEL_CABLES_WARNED) p = false ∧ s.portState p = x) ∧
    (∃ (p : Fin 10) (s u : State), s.latched p = false ∧ s.boot.failed = false ∧ u = s.setLatch p true ∧ u.cablePresent p = true) ∧
    (∃ (p : Fin 10) (s u : State), s.latched p = false ∧ s.boot.failed = false ∧ u = s.setLatch p true ∧ u.cablePresent p = false) ∧
    (∃ (p : Fin 10) (s : State), s.latched p = true) ∧
    (∃ (p : Fin 10) (s u : State), bit (s.rd F.PANEL_CABLES_WARNED) p = true ∧ s.latched p = false ∧
      s.cablePresent p = true ∧ s.boot.failed = false ∧ u = s.setWarned p false ∧ u.removalPending = true ∧ u.admitted = false) ∧
    (∃ (p : Fin 10) (s u : State), bit (s.rd F.PANEL_CABLES_WARNED) p = true ∧ s.latched p = false ∧
      s.cablePresent p = true ∧ s.boot.failed = false ∧ u = s.setWarned p false ∧ u.removalPending = false ∧ u.portState p = Port.draining ∧
      (u.pt p).drain = .latch) ∧
    (∃ (p : Fin 10) (s u : State), bit (s.rd F.PANEL_CABLES_WARNED) p = true ∧ s.latched p = false ∧
      s.cablePresent p = true ∧ s.boot.failed = false ∧ u = s.setWarned p false ∧ u.removalPending = false ∧
      u.portState p ≠ Port.draining) ∧
    (∃ (p : Fin 10) (s : State), bit (s.rd F.PANEL_CABLES_WARNED) p = false) ∧
    (∀ x ∈ [0, 2], ∃ s : State, s.boot.failed = false ∧ s.rd F.PANEL_STATUS_REQUEST = x) ∧
    (∀ x ∈ [true, false], ∃ (p : Fin 10) (s : State), s.boot.failed = true ∧ s.cablePresent p = x ∧ s.latched p = x) ∧
    (∃ (p : Nat) (s : State), s.portState p ≠ Port.draining) ∧ (∃ (p : Nat) (s : State) (d : DrainFor), (s.pt p).drain ≠ d) ∧
    (∃ s : State, s.rd F.PANEL_STATUS_REQUEST = 1 ∧ s.admitted = false ∧
      (∀ p < 10, s.portState p ∉ [Port.up, Port.train, Port.draining]) ∧ s.removalReady = true) :=
  ⟨⟨timed.wr F.PANEL_STATUS_REQUEST 1, by decide +kernel⟩, ⟨timed, by decide +kernel⟩,
   ⟨{ timed.wr F.PANEL_STATUS_REQUEST 1 with job := admittingNow.job }, by decide +kernel⟩,
   fun x h => ⟨timed.setPort 9 x, [0x43, 0x4C, 0, 0, 0, 51], by revert x; decide +kernel⟩,
   fun x h => ⟨0, (cabled false false).setPort 0 x, by revert x; decide +kernel⟩,
   fun x h => ⟨0, (cabled true true).setPort 0 x, by revert x; decide +kernel⟩,
   fun x h => ⟨0, (cabled false false).setPort 0 x, by revert x; decide +kernel⟩,
   ⟨0, cabled false false, _, by decide +kernel, by decide +kernel, rfl, by decide +kernel⟩,
   ⟨9, timed, _, by decide +kernel, by decide +kernel, rfl, by decide +kernel⟩, ⟨0, cabled true true, by decide +kernel⟩,
   ⟨0, (cabled false true).wr F.PANEL_STATUS_REQUEST 1, _, by decide +kernel, by decide +kernel, by decide +kernel, by decide +kernel, rfl,
     by decide +kernel⟩,
   ⟨0, ((cabled false true).setPort 0 Port.draining).setPt 0 { timed.pt 0 with drain := .latch }, _, by decide +kernel,
     by decide +kernel, by decide +kernel, by decide +kernel, rfl, by decide +kernel⟩,
   ⟨0, (cabled false true).setPort 0 Port.drained, _, by decide +kernel, by decide +kernel, by decide +kernel, by decide +kernel, rfl,
     by decide +kernel⟩, ⟨0, timed, by decide +kernel⟩,
   fun x h => ⟨timed.wr F.PANEL_STATUS_REQUEST x, by revert x; decide +kernel⟩,
   fun x h => ⟨0, { (timed.setPresent 0 x).setLatch 0 x with boot := { timed.boot with failed := true } }, by revert x; decide +kernel⟩,
   ⟨0, timed, by decide +kernel⟩, ⟨0, timed, .latch, by decide +kernel⟩,
   ⟨timed.wr F.PANEL_STATUS_REQUEST 1, by decide +kernel⟩⟩

/-! ## Collectives -/

/-- The group plan of a tree of two members at its root (me = 0), or at its leaf, with a digest. -/
def treeOf (me : Nat) (digest : Bytes) : Bytes :=
  let r := 2 ^ 63 + 2 ^ 32 * (1 - me) + 1
  [0x50, 0x47, 1, 1, 7, 0, 0, 1] ++ natLE 4 2 ++ natLE 4 me ++ [0] ++ natLE 1 (1 - me) ++ zeros 14
    ++ natLE 8 (if me = 0 then 0 else r) ++ zeros 8 ++ natLE 8 (if me = 0 then r else 0) ++ zeros 168 ++ digest

/-- The root's plan, with the SHA3-256 of its first 224 bytes and 32 zeros as another program computes it. -/
def rootPlan : Bytes := treeOf 0 [0x85, 0xE8, 0x40, 0x5B, 0xE5, 0x7C, 0x8A, 0xEF, 0x98, 0xFB, 0x8C, 0xB0, 0x9B, 0x41, 0x85, 0xBC,
  0x80, 0xC1, 0x48, 0x6B, 0xE4, 0x2B, 0x34, 0x4B, 0x89, 0x5E, 0x53, 0x3F, 0x51, 0x32, 0x25, 0xC2]

theorem test_group_plan_digest_holds : digestOf rootPlan 224 = Machine.sub rootPlan 224 32 := by decide +kernel

/-- Slot 0 holds a plan and an invocation. -/
def grouped (b : Bytes) (i : CInv) : State :=
  { timed with coll := { timed.coll with slots := [(0, { CSlot.init with live := some b, cur := some i })] } }

/-- Invocation 2 of step 3, of an operation over 64 bytes to address 4096, with chunks in flight on its link. -/
def invOf (me op : Nat) (running : Bool) (out : List CChunk) (c : Option CBcast) : CInv :=
  let b := treeOf me (zeros 32)
  let i := CInv.fresh 3 2 0 [] (natLE 1 op ++ zeros 3 ++ [12] ++ zeros 27 ++ natLE 8 4096 ++ natLE 8 64 ++ zeros 16) b c
  { i with running := running, links := i.links.map (fun l => (l.1, { l.2 with out := out })) }

/-- A chunk in flight, fetched again k times and sent again as often. -/
def chunkAt (key k : Nat) : CChunk := ⟨key, [], none, k, k⟩

/-- The root with an invocation. -/
def rooted (op : Nat) (out : List CChunk) (c : Option CBcast) : State := grouped (treeOf 0 (zeros 32)) (invOf 0 op true out c)
def leafed (op : Nat) (out : List CChunk) (c : Option CBcast) : State := grouped (treeOf 1 (zeros 32)) (invOf 1 op true out c)

/-- A message of a kind from member 1 about chunk k of the invocation; a broadcast of JOB_BROADCAST. -/
def msg (kind k : Nat) : Bytes := chunkMsg kind 0 0 0 2 3 0 k 0 1 []
def bcast0 : CBcast := ⟨5, 200, 9, 0, [], 0⟩

/-- Slot 0 holds a plan, armed or not, and an invocation or none. -/
def slot0 (s : State) (b : Option Bytes) (armed : Option (Bytes × Nat)) (i : Option CInv) : State :=
  { s with coll := { s.coll with slots := [(0, { CSlot.init with live := b, armed := armed, cur := i })] } }

/-- A job of tag 7 on terrace 0. -/
def withJob (s : State) : State := { s with job := some ⟨7, 1, 0, 0, 1, 0, [], none, none, none, false⟩ }

/-- The root's plan with one member. -/
def alonePlan : Bytes := patch (treeOf 0 (zeros 32)) 8 (natLE 4 1)

/-- Both members of a pair have joined the invocation. -/
def pairInv (i : CInv) : CInv := { i with entries := [(0, 0), (8, 0)] }

theorem witness_CollectiveInvocationsRun :
    (∀ e ∈ [true, false], ∃ (g op : Nat) (i : CInv) (b : Bytes) (s u : State), (s.cslot g).cur = some i ∧
      (s.cslot g).live = some b ∧ i.running = false ∧ cdOp i.desc = op ∧
      (i.bcast.isSome = true ∨ s.sealed = false ∨ i.entries.length = 2) ∧ u = (bitList (cdMask i.desc) 18).foldl
        (fun s n => s.scramble (scratchAddr (18 * i.terr + n) (cdOff i.desc)) (cdLen i.desc)) s ∧ u.sealed = e) ∧
    (∃ (i : CInv), i.bcast.isSome = true) ∧
    (∃ (g : Nat) (s : State), (s.cslot g).cur = none) ∧ (∃ (g : Nat) (s : State), (s.cslot g).live = none) ∧
    (∃ (g : Nat) (s : State) (i : CInv), (s.cslot g).cur = some i ∧ i.running = true) ∧
    (∃ (g : Nat) (s : State) (i : CInv), (s.cslot g).cur = some i ∧ cdOp i.desc ≠ 2) ∧
    (∃ (g : Nat) (s : State) (i : CInv), (s.cslot g).cur = some i ∧ i.bcast = none ∧ s.sealed = true ∧ i.entries.length ≠ 2) ∧
    (∀ m ∈ [1, 2], ∃ (g : Fin 16) (i : CInv) (b : Bytes) (s u : State), u = s.collRun g 6 0 ∧ (u.cslot g).cur = some i ∧
      (u.cslot g).live = some b ∧ cdOp i.desc = 6 ∧ i.running = true ∧ gpMembers b = m) ∧
    (∃ (g : Fin 16) (s u : State), u = s.collRun g 6 0 ∧ (u.cslot g).cur = none) ∧
    (∃ (g : Fin 16) (i : CInv) (s u : State), u = s.collRun g 6 0 ∧ (u.cslot g).cur = some i ∧ i.running = false) ∧
    (∃ (slot : Fin 16) (addr : Fin 281474976710656) (code : Nat) (b : Bytes) (s u : State),
      u = (s.wr F.COLL_INSTALL_SLOT slot).wr F.COLL_INSTALL_ADDR (addr.val / 64) ∧
      u.groupCheck (addr.val / 64 * 64) (some slot.val) (match u.job with | some j => some j.jobTag | none => none) = (code, b) ∧
      code ≠ 0) ∧
    (∀ adm ∈ [true, false], ∃ (slot : Fin 16) (addr : Fin 281474976710656) (s u : State),
      u = (s.wr F.COLL_INSTALL_SLOT slot).wr F.COLL_INSTALL_ADDR (addr.val / 64) ∧
      (u.groupCheck (addr.val / 64 * 64) (some slot.val) (match u.job with | some j => some j.jobTag | none => none)).1 = 0 ∧
      (u.cslot slot).armed = none ∧ (u.cslot slot).cur = none ∧ (u.wr F.COLL_INSTALL_ERROR 0).admitted = adm) ∧
    (∃ (slot : Fin 16) (addr : Fin 281474976710656) (s u : State),
      u = (s.wr F.COLL_INSTALL_SLOT slot).wr F.COLL_INSTALL_ADDR (addr.val / 64) ∧
      (u.groupCheck (addr.val / 64 * 64) (some slot.val) (match u.job with | some j => some j.jobTag | none => none)).1 = 0 ∧
      (u.cslot slot).armed ≠ none) ∧
    (∃ (s u : State) (q : Sub), s.takes q Op.jobBroadcast u ∧ u.bcastCheck q = St.busy) ∧
    (∃ (s u : State) (q : Sub), s.takes q Op.jobBroadcast u ∧ u.bcastCheck q ≠ St.busy ∧ u.bcastCheck q ≠ 0) ∧
    (∃ (s u v : State) (q : Sub) (h : Nat) (b : Bytes), s.takes q Op.jobBroadcast u ∧ u.bcastCheck q = 0 ∧
      (u.cslot (q.p 0 1)).live = some b ∧ u.accept q = (v, h)) ∧
    (∃ (x y : CPart), x.data ≠ [] ∧ y.data ≠ []) := by
  have hb : treeOf 0 (zeros 32) = treeOf 0 (zeros 32) := rfl
  refine ⟨fun e h => ⟨0, 1, pairInv (invOf 0 1 false [] none), treeOf 0 (zeros 32),
      (grouped (treeOf 0 (zeros 32)) (pairInv (invOf 0 1 false [] none))).wr F.NODE_PROFILE_ACTIVE (if e then 2 else 0), _, rfl,
      rfl, rfl, by decide +kernel, .inr (.inr rfl), rfl, ?_⟩, ⟨invOf 0 1 false [] (some bcast0), rfl⟩, ⟨0, timed, rfl⟩,
    ⟨0, timed, rfl⟩, ⟨0, rooted 1 [] none, _, rfl, rfl⟩, ⟨0, rooted 1 [] none, _, rfl, by decide +kernel⟩,
    ⟨0, (rooted 1 [] none).wr F.NODE_PROFILE_ACTIVE 2, _, rfl, rfl, by decide +kernel, by decide +kernel⟩,
    fun m h => ⟨0, invOf 0 6 true [] none, if m = 1 then alonePlan else treeOf 0 (zeros 32),
      grouped (if m = 1 then alonePlan else treeOf 0 (zeros 32)) (invOf 0 6 true [] none), _, rfl, ?_⟩,
    ⟨0, timed, _, rfl, by decide +kernel⟩,
    ⟨0, invOf 0 6 false [] none, (grouped (treeOf 0 (zeros 32)) (invOf 0 6 false [] none)).wr F.NODE_PROFILE_ACTIVE 2, _, rfl,
      by decide +kernel⟩, ⟨0, 0, 2, [], timed, _, rfl, by decide +kernel⟩,
    fun a h => ⟨0, 4096, (if a then withJob timed else timed).rawWrite 4096 rootPlan, _, rfl, ?_⟩,
    ⟨0, 4096, slot0 (timed.rawWrite 4096 rootPlan) none (some ([], 5)) none, _, rfl, by decide +kernel⟩,
    ⟨gated (rooted 1 [] none) (sub0 Op.jobBroadcast []), _, _, gated_takes _ _ _ rfl (by decide +kernel), by decide +kernel⟩,
    ⟨gated timed (sub0 Op.jobBroadcast []), _, _, gated_takes _ _ _ rfl (by decide +kernel), by decide +kernel⟩, ?_,
    ⟨⟨0, [1], [], 1⟩, ⟨0, [2], [], 1⟩, by decide⟩⟩
  · revert e; decide +kernel
  · revert m; decide +kernel
  · revert a; decide +kernel
  · exact ⟨gated (slot0 timed (some (treeOf 1 (zeros 32))) none none)
      (sub0 Op.jobBroadcast ([0, 12] ++ zeros 2 ++ natLE 4 1 ++ natLE 4 0 ++ natLE 4 0x80000 ++ zeros 8 ++ natLE 8 4096 ++ natLE 8 64
        ++ zeros 16)), _, _, _, _, treeOf 1 (zeros 32), gated_takes _ _ _ rfl (by decide +kernel), by decide +kernel, rfl, rfl⟩

/-- A DATA chunk 0 of the invocation from member 1 with its 64 bytes and contributions. -/
def data0 (final contrib : Nat) : Bytes := chunkMsg 0 0 0 final 2 3 contrib 0 64 1 (zeros 72)

/-- A message of a kind about chunk 4 of the field of entry 0 of terrace 0, that field, and the sender with it. -/
def fieldMsg (kind : Nat) : Bytes := chunkMsg kind 0 0 0 2 3 0 4 0 0 []

def fieldWith (chunks : Nat) (out : List CChunk) : FieldSend := ⟨0, 0, 1, 0, 2, 3, 0, chunks, out, [], []⟩

def fieldsWith (chunks : Nat) (out : List CChunk) : State :=
  { timed with coll := { timed.coll with sends := [fieldWith chunks out] } }

/-- The leaf's plan with one spare and one child to adopt, member 1. -/
def sparePlan : Bytes := patch (patch (treeOf 1 (zeros 32)) 18 [1, 1]) 128 (natLE 8 (2 ^ 63 + 2 ^ 32 + 1))

/-- The leaf's broadcast with that plan, its chunk committed or not, a link 9 or none, after a number of spares. -/
def sparedInv (done : Bool) (links : List (Nat × CLink)) (tried : Nat) : CInv :=
  { invOf 1 1 true [] (some { bcast0 with tried := tried }) with
    committed := if done then [0] else [], links := (invOf 1 1 true [] none).links ++ links }

def spared (done : Bool) (links : List (Nat × CLink)) (tried : Nat) : State := grouped sparePlan (sparedInv done links tried)

/-- The root's broadcast with a deadline, its chunk committed or not. -/
def endingInv (done : Bool) (deadline : Nat) : CInv :=
  { invOf 0 1 true [] (some { bcast0 with deadline := deadline }) with committed := if done then [0] else [] }

theorem witness_CollectiveMessagesAndJobBroadcast :
    ((∀ kind ∈ [0, 2, 6], ∀ ok ∈ [true, false], ∃ p : Bytes, fld p 0 1 = kind ∧ chunkOk p = ok) ∧
    (∀ kind ∈ [0, 2, 6], ∃ (p b : Bytes) (g : Nat) (i : CInv) (s : State), g = fld p 1 1 % 16 ∧ (s.cslot g).live = some b ∧
      s.stampOf g p = 0 ∧ (s.cslot g).cur = some i ∧ i.running = true ∧ fld p 0 1 = kind) ∧
    (∃ (p b : Bytes) (g : Nat) (i : CInv) (s : State), g = fld p 1 1 % 16 ∧ (s.cslot g).live = some b ∧
      s.stampOf g p = 0 ∧ (s.cslot g).cur = some i ∧ i.running = false) ∧
    (∃ (p b : Bytes) (g : Nat) (s : State), g = fld p 1 1 % 16 ∧ (s.cslot g).live = some b ∧ s.stampOf g p = 1) ∧
    (∀ kind ∈ [0, 2, 6], ∃ (p b : Bytes) (g : Nat) (s : State), g = fld p 1 1 % 16 ∧ (s.cslot g).live = some b ∧
      s.stampOf g p = 2 ∧ fld p 0 1 = kind) ∧
    (∀ c ∈ [true, false], ∃ (g : Nat) (p : Bytes) (s : State), g = fld p 1 1 % 16 ∧ fld p 0 1 = 0 ∧ chunkOk p = true ∧
      s.sealed = true ∧ s.combines g p = c) ∧ (∃ s : State, s.sealed = false) ∧
    (∃ (l k key : Nat) (b p : Bytes) (i : CInv), linkOf i.links (fld p 20 3 % 2 ^ 17) true (!gpTree b) = some l ∧
      k = fld p 12 4 ∧ key = 2 ^ 40 * l + k * 2 + b2n (bit (fld p 2 1) 1) ∧ i.used.contains key = true) ∧
    (∃ (l k n key : Nat) (b p : Bytes) (i : CInv), linkOf i.links (fld p 20 3 % 2 ^ 17) true (!gpTree b) = some l ∧
      k = fld p 12 4 ∧ n = fld p 16 4 % 2 ^ 19 ∧ key = 2 ^ 40 * l + k * 2 + b2n (bit (fld p 2 1) 1) ∧
      i.used.contains key = false ∧ n = (cChunkOf b i.desc k).2.2 ∧ n ≠ 0 ∧ 4 ≤ i.occupied l) ∧
    (∃ (l k n key : Nat) (b p : Bytes) (i : CInv), linkOf i.links (fld p 20 3 % 2 ^ 17) true (!gpTree b) = some l ∧
      k = fld p 12 4 ∧ n = fld p 16 4 % 2 ^ 19 ∧ key = 2 ^ 40 * l + k * 2 + b2n (bit (fld p 2 1) 1) ∧
      i.used.contains key = false ∧ n = (cChunkOf b i.desc k).2.2 ∧ n ≠ 0 ∧ cdReduces i.desc = true ∧
      bit (fld p 2 1) 1 = true ∧ fld p 9 3 % 2 ^ 17 ≠ gpMembers b) ∧
    (∀ good ∈ [true, false], ∃ (k : Nat) (t : Bytes) (i : CInv) (x : CPart), mfind i.finals k = some x ∧
      mfind i.tokens k = some t ∧ (leNat t = crc64 (x.data ++ x.mask) ↔ good = true)) ∧
    (∀ kind ∈ [3, 4], ∃ (p b : Bytes) (g l : Nat) (i : CInv) (s : State), s.ctrlInv p = some (g, b, i) ∧
      linkOf i.links (fld p 20 3 % 2 ^ 17) false (!gpTree b) = some l ∧ fld p 0 1 = kind ∧ chunkOk p = true ∧
      (i.link l).out.any (fun c => c.key == ctrlKey p) = true) ∧
    (∃ (p b : Bytes) (g l : Nat) (i : CInv) (s : State), s.ctrlInv p = some (g, b, i) ∧
      linkOf i.links (fld p 20 3 % 2 ^ 17) false (!gpTree b) = some l ∧ fld p 0 1 = 3 ∧
      (i.link l).out.any (fun c => c.key == ctrlKey p) = false) ∧
    (∀ k ∈ [2, 3], ∃ (n : Fin 32768) (p b : Bytes) (g l : Nat) (i : CInv) (s : State) (c : CChunk),
      s.ctrlInv p = some (g, b, i) ∧ i.holder n (ctrlKey p) = some l ∧ fld p 0 1 = 5 ∧ chunkOk p = true ∧
      (i.link l).out.find? (fun c => c.key == ctrlKey p) = some c ∧ c.refetches = k) ∧
    (∃ (p : Bytes) (s : State), s.ctrlInv p = none) ∧ (∃ (n : Fin 32768) (p : Bytes) (s : State), s.fieldOf n p = none) ∧
    (∀ m ∈ [1, 5], ∃ (n : Fin 32768) (p : Bytes) (f : FieldSend) (s : State), s.fieldOf n p = some f ∧ chunkOk p = true ∧
      fld p 0 1 = 3 ∧ f.chunks = m ∧ sinsert f.acked (fld p 12 4) = [4]) ∧
    (∀ k ∈ [2, 3], ∃ (n : Fin 32768) (p : Bytes) (f : FieldSend) (c : CChunk) (s : State), s.fieldOf n p = some f ∧
      chunkOk p = true ∧ fld p 0 1 = 5 ∧ f.out.find? (fun c => c.key == fld p 12 4) = some c ∧ c.refetches = k)) ∧
    ((∀ r ∈ [2, 3], ∃ (g : Fin 16) (l : Fin 17) (k : Nat) (i : CInv) (c : CChunk) (s : State), (s.cslot g).cur = some i ∧
      (i.link l).out.find? (fun c => c.key == k) = some c ∧ c.resends = r) ∧
    (∃ (g : Fin 16) (l : Fin 17) (k : Nat) (i : CInv) (s : State), (s.cslot g).cur = some i ∧
      (i.link l).out.find? (fun c => c.key == k) = none) ∧
    (∃ (g : Fin 16) (s : State), (s.cslot g).cur = none) ∧
    (∀ r ∈ [2, 3], ∃ (g : Fin 16) (e : Fin 4096) (k : Nat) (f : FieldSend) (c : CChunk) (s : State),
      s.coll.sends.find? (fun f => f.terr == g.val && f.entry == e.val) = some f ∧
      f.out.find? (fun c => c.key == k) = some c ∧ c.resends = r) ∧
    (∃ (g : Fin 16) (e : Fin 4096) (k : Nat) (f : FieldSend) (s : State),
      s.coll.sends.find? (fun f => f.terr == g.val && f.entry == e.val) = some f ∧ f.out.find? (fun c => c.key == k) = none) ∧
    (∃ (g : Fin 16) (e : Fin 4096) (s : State), s.coll.sends.find? (fun f => f.terr == g.val && f.entry == e.val) = none) ∧
    (∀ out ∈ [[], [chunkAt 8 0]], ∃ (g : Fin 16) (l : Fin 17) (i : CInv) (b : Bytes) (s : State), (s.cslot g).cur = some i ∧
      (s.cslot g).live = some b ∧ (i.link l).out = out) ∧
    (∃ (g : Fin 16) (e : Fin 4096) (s : State) (f : FieldSend),
      s.coll.sends.find? (fun f => f.terr == g.val && f.entry == e.val && !f.out.isEmpty) = some f) ∧
    (∃ (g : Fin 16) (e : Fin 4096) (s : State),
      s.coll.sends.find? (fun f => f.terr == g.val && f.entry == e.val && !f.out.isEmpty) = none)) ∧
    (∀ kind ∈ [7, 9], ∃ (p b : Bytes) (g : Nat) (i : CInv) (c : CBcast) (s : State), s.bcastOf p = some (g, b, i, c) ∧
      fld p 0 1 = kind ∧ cdIsRoot b i.desc = true ∧ fld p 20 3 % 2 ^ 17 < gpMembers b) ∧
    (∃ (p b : Bytes) (g : Nat) (i : CInv) (c : CBcast) (s : State), s.bcastOf p = some (g, b, i, c) ∧
      fld p 0 1 = 7 ∧ cdIsRoot b i.desc = true ∧ gpMembers b ≤ fld p 20 3 % 2 ^ 17) ∧
    (∀ kind ∈ [7, 9], ∃ (p b : Bytes) (g : Nat) (i : CInv) (c : CBcast) (s : State), s.bcastOf p = some (g, b, i, c) ∧
      fld p 0 1 = kind ∧ cdIsRoot b i.desc = false) ∧
    (∃ (p b : Bytes) (g : Nat) (i : CInv) (c : CBcast) (s : State), s.bcastOf p = some (g, b, i, c) ∧ fld p 0 1 = 8 ∧
      (List.range (gpAdopt b)).find? (fun a => nbIndex (gpAdoptee b a) == fld p 20 3 % 2 ^ 17) = none) ∧
    (∀ have9 ∈ [true, false], ∃ (p b : Bytes) (g : Nat) (i : CInv) (c : CBcast) (s : State) (a : Nat),
      s.bcastOf p = some (g, b, i, c) ∧ fld p 0 1 = 8 ∧
      (List.range (gpAdopt b)).find? (fun a => nbIndex (gpAdoptee b a) == fld p 20 3 % 2 ^ 17) = some a ∧
      (i.links.map (·.1)).contains (9 + a) = have9) ∧
    (∀ kind ∈ [7, 8, 9], ∃ (p : Bytes) (s : State), s.bcastOf p = none ∧ fld p 0 1 = kind) ∧
    (∀ done ∈ [true, false], ∀ d ∈ [0, 9], ∃ (g : Fin 16) (i : CInv) (b : Bytes) (c : CBcast) (s : State),
      (s.cslot g).cur = some i ∧ (s.cslot g).live = some b ∧ i.bcast = some c ∧ cdIsRoot b i.desc = true ∧
      (cCommits b i.desc).all i.committed.contains = done ∧ c.deadline = d ∧ (s.reach c.deadline).isSome = true) ∧
    (∃ (g : Fin 16) (i : CInv) (b : Bytes) (c : CBcast) (s : State),
      (s.cslot g).cur = some i ∧ (s.cslot g).live = some b ∧ i.bcast = some c ∧ cdIsRoot b i.desc = true ∧
      c.deadline ≠ 0 ∧ s.reach c.deadline = none) ∧
    (∀ done ∈ [true, false], ∀ tried ∈ [0, 1], ∃ (g : Fin 16) (i : CInv) (b : Bytes) (c : CBcast) (s : State),
      (s.cslot g).cur = some i ∧ (s.cslot g).live = some b ∧ i.bcast = some c ∧ cdIsRoot b i.desc = false ∧
      (cCommits b i.desc).all i.committed.contains = done ∧ (gpSpares b ≤ c.tried ↔ tried = 1)) ∧
    (∀ me ∈ [0, 1], ∀ out ∈ [[], [chunkAt 8 0]], ∃ (g : Fin 16) (i : CInv) (b : Bytes) (c : CBcast) (s : State) (l : Fin 17),
      (s.cslot g).cur = some i ∧ (s.cslot g).live = some b ∧ i.bcast = some c ∧ l.val ≠ 0 ∧ (i.link l).out = out ∧
      cdIsRoot b i.desc = decide (me = 0)) := by
  refine ⟨⟨fun kind h ok ho => ⟨if ok then msg kind 0 else natLE 1 kind ++ zeros 31, ?_⟩,
    fun kind h => ⟨msg kind 0, treeOf 0 (zeros 32), 0, invOf 0 1 true [] none, rooted 1 [] none, ?_⟩,
    ⟨msg 0 0, treeOf 0 (zeros 32), 0, invOf 0 1 false [] none, grouped (treeOf 0 (zeros 32)) (invOf 0 1 false [] none), by decide +kernel⟩,
    ⟨chunkMsg 0 0 0 0 3 3 0 0 0 1 [], treeOf 0 (zeros 32), 0, rooted 1 [] none, by decide +kernel⟩,
    fun kind h => ⟨chunkMsg kind 0 0 0 9 9 0 0 0 1 [], treeOf 0 (zeros 32), 0, rooted 1 [] none, ?_⟩,
    fun c h => ⟨0, data0 0 2, (rooted (if c then 3 else 1) [] none).wr F.NODE_PROFILE_ACTIVE 2, ?_⟩, ⟨timed, by decide +kernel⟩,
    ⟨1, 0, _, treeOf 0 (zeros 32), data0 0 2, { invOf 0 1 true [] none with used := [2 ^ 40] }, by decide +kernel, by decide +kernel,
      rfl, by decide +kernel⟩,
    ⟨1, 0, 64, _, treeOf 0 (zeros 32), data0 0 2, { invOf 0 3 true [] none with parts := [(1, List.replicate 4 ⟨1, [], [], 1⟩)] },
      by decide +kernel, by decide +kernel, by decide +kernel, rfl, by decide +kernel⟩,
    ⟨1, 0, 64, _, treeOf 0 (zeros 32), data0 1 1, invOf 0 3 true [] none, by decide +kernel, by decide +kernel, by decide +kernel,
      rfl, by decide +kernel⟩,
    fun good h => ⟨0, if good then [] else [1], { invOf 0 3 true [] none with
      finals := [(0, ⟨1, [], [], 2⟩)], tokens := [(0, if good then [] else [1])] }, ⟨1, [], [], 2⟩, rfl, rfl, ?_⟩,
    fun kind h => ⟨msg kind 4, treeOf 0 (zeros 32), 0, 1, invOf 0 1 true [chunkAt 8 0] none, rooted 1 [chunkAt 8 0] none, ?_⟩,
    ⟨msg 3 4, treeOf 0 (zeros 32), 0, 1, invOf 0 1 true [] none, rooted 1 [] none, by decide +kernel⟩,
    fun k h => ⟨1, msg 5 4, treeOf 0 (zeros 32), 0, 1, invOf 0 1 true [chunkAt 8 k] none, rooted 1 [chunkAt 8 k] none, chunkAt 8 k, ?_⟩,
    ⟨[], timed, rfl⟩, ⟨0, [], timed, rfl⟩, fun m h => ⟨1, fieldMsg 3, fieldWith m [chunkAt 4 0], fieldsWith m [chunkAt 4 0], ?_⟩,
    fun k h => ⟨1, fieldMsg 5, fieldWith 5 [chunkAt 4 k], chunkAt 4 k, fieldsWith 5 [chunkAt 4 k], ?_⟩⟩,
    ⟨fun r h => ⟨0, 1, 8, invOf 0 1 true [chunkAt 8 r] none, chunkAt 8 r, rooted 1 [chunkAt 8 r] none, ?_⟩,
    ⟨0, 1, 8, invOf 0 1 true [] none, rooted 1 [] none, by decide +kernel⟩, ⟨0, timed, rfl⟩,
    fun r h => ⟨0, 0, 4, fieldWith 5 [chunkAt 4 r], chunkAt 4 r, fieldsWith 5 [chunkAt 4 r], ?_⟩,
    ⟨0, 0, 4, fieldWith 5 [], fieldsWith 5 [], by decide +kernel⟩, ⟨0, 0, timed, rfl⟩,
    fun out h => ⟨0, 1, invOf 0 1 true out none, _, rooted 1 out none, rfl, rfl, ?_⟩,
    ⟨0, 0, fieldsWith 5 [chunkAt 4 3], fieldWith 5 [chunkAt 4 3], rfl⟩, ⟨0, 0, timed, rfl⟩⟩,
    fun kind h => ⟨msg kind 0, treeOf 0 (zeros 32), 0, invOf 0 1 true [] (some bcast0), bcast0, rooted 1 [] (some bcast0), ?_⟩,
    ⟨chunkMsg 7 0 0 0 2 3 0 0 0 2 [], treeOf 0 (zeros 32), 0, invOf 0 1 true [] (some bcast0), bcast0, rooted 1 [] (some bcast0),
      by decide +kernel⟩,
    fun kind h => ⟨msg kind 0, treeOf 1 (zeros 32), 0, invOf 1 1 true [] (some bcast0), bcast0, leafed 1 [] (some bcast0), ?_⟩,
    ⟨msg 8 0, treeOf 1 (zeros 32), 0, invOf 1 1 true [] (some bcast0), bcast0, leafed 1 [] (some bcast0), by decide +kernel⟩,
    fun x h => ⟨msg 8 0, sparePlan, 0, sparedInv false (if x then [(9, ⟨0, 4, [], []⟩)] else []) 0, bcast0,
      spared false (if x then [(9, ⟨0, 4, [], []⟩)] else []) 0, 0, ?_⟩,
    fun kind h => ⟨msg kind 0, timed, ?_⟩,
    fun done h d hd => ⟨0, endingInv done d, treeOf 0 (zeros 32), { bcast0 with deadline := d },
      grouped (treeOf 0 (zeros 32)) (endingInv done d), rfl, rfl, rfl, ?_⟩,
    ⟨0, endingInv false (2 ^ 24), treeOf 0 (zeros 32), { bcast0 with deadline := 2 ^ 24 },
      grouped (treeOf 0 (zeros 32)) (endingInv false (2 ^ 24)), rfl, rfl, rfl, by decide +kernel, by decide +kernel,
      by decide +kernel⟩,
    fun done h t ht => ⟨0, sparedInv done [] t, sparePlan, { bcast0 with tried := t }, spared done [] t, rfl, rfl, rfl, ?_⟩,
    fun me h out ho => ⟨0, invOf me 1 true out (some bcast0) |> fun i => { i with links := [(1, ⟨0, 4, out, []⟩)] },
      treeOf me (zeros 32), bcast0, grouped (treeOf me (zeros 32)) (invOf me 1 true out (some bcast0) |> fun i =>
        { i with links := [(1, ⟨0, 4, out, []⟩)] }), 1, rfl, rfl, rfl, by decide, rfl, ?_⟩⟩
  · revert ok kind; decide +kernel
  · revert kind; decide +kernel
  · revert kind; decide +kernel
  · revert c; decide +kernel
  · revert good; decide +kernel
  · revert kind; decide +kernel
  · revert k; decide +kernel
  · revert m; decide +kernel
  · revert k; decide +kernel
  · revert r; decide +kernel
  · revert r; decide +kernel
  · revert out; decide +kernel
  · revert kind; decide +kernel
  · revert kind; decide +kernel
  · revert x; decide +kernel
  · revert kind; decide +kernel
  · revert d done; decide +kernel
  · revert t done; decide +kernel
  · revert out me; decide +kernel

/-! ## Checkpoints, jobs, the Keep -/

/-- A policy with a 1 GB reflection region at the start of Deep memory. -/
def policy0 : Policy := ⟨0, 0, 0, 0x10000000000, 2 ^ 30, 8192, 0, 100⟩

/-- A store descriptor of one target at 8192, and an extent list of one unaligned extent at 12288. -/
def stored : State := ((withJob timed).rawWrite 8192 ([0x44, 0x53, 1, 1] ++ zeros 80 ++ [9] ++ zeros 299)).rawWrite 12288
  ([0x4C, 0x45, 1] ++ zeros 5 ++ natLE 4 1 ++ zeros 52 ++ natLE 8 1 ++ natLE 8 1)

/-- CKPT_POLICY with its drain bound in ms, interval, base step, the size of its reflection region, and where its store descriptor
and extent list lie. -/
def policyWith (s : State) (drainMs interval base len store list : Nat) : State :=
  gated s (sub0 Op.ckptPolicy (zeros 4 ++ natLE 4 drainMs ++ natLE 8 interval ++ natLE 8 base ++ natLE 8 0x10000000000 ++ natLE 8 len
    ++ natLE 8 store ++ natLE 8 list))

/-- CKPT_POLICY of policy0 with its drain bound in ms. -/
def policyCmd (s : State) (drainMs : Nat) : State := policyWith s drainMs 0 0 (2 ^ 30) 8192 0

/-- A RESTORE of one source, at 16384, whose store descriptor is at 8192, with trusted keys at an address. -/
def restoreFrom (s : State) (keys : Nat) : State :=
  gated (s.rawWrite 16384 (natLE 8 8192 ++ zeros 24)) (sub0 Op.restore ([1, 1] ++ zeros 6 ++ natLE 8 16384 ++ natLE 8 keys))

def drain0 (order : Nat) : Drain := ⟨order, 0, 0, 0, 0, [], [], [], [], [2], [], 0, none⟩
def restore0 (stage : Nat) : Restore := ⟨none, [], [], stage, [], [(0, ⟨4096, 8, 0, 0, []⟩, 0)], [], [2]⟩
/-- A drain or restore runs. -/
def draining (order : Nat) : State := { timed with ckpt := { timed.ckpt with drain := some (drain0 order), copying := true } }
def restoring (stage : Nat) : State := { timed with ckpt := { timed.ckpt with restore := some (restore0 stage), policy := some policy0 } }

def restoreCmd : State := restoreFrom stored 32768

/-- The state in which a drain runs and a checkpoint was asked for. -/
def copyingOf (s : State) : State := { s with ckpt := { s.ckpt with drain := some (drain0 2), now := some (5, 0), policy := some policy0 } }

/-- What CKPT_POLICY tests before its structures' contents. -/
abbrev policyFair (u : State) (p : Policy) : Prop :=
  u.admitted = true ∧ p.baseStep < 2 ^ 40 ∧ 100 ≤ p.drainMs ∧ p.drainMs ≤ 600000 ∧ (p.intervalNs = 0 ∨ u.periodNs ≤ p.intervalNs) ∧
    p.reflBase % granuleBytes = 0 ∧ p.reflLen % granuleBytes = 0 ∧ 2 ^ 30 ≤ p.reflLen ∧ inDeep p.reflBase p.reflLen = true

theorem witness_CheckpointsAndRestores :
    (∀ busy ∈ [true, false], ∃ (s u : State) (q : Sub) (p : Policy) (d : Bytes), s.takes q Op.ckptPolicy u ∧ p = ckptParams q ∧
      policyFair u p ∧ p.domeList = 0 ∧ u.readStore p.storeAddr = (0, d) ∧ reflRules [] p.reflBase p.reflLen = true ∧
      u.ckptBusy = busy) ∧
    (∃ (s u : State) (q : Sub) (p : Policy) (es : List (Nat × Nat)) (d : Bytes), s.takes q Op.ckptPolicy u ∧ p = ckptParams q ∧
      policyFair u p ∧ p.domeList ≠ 0 ∧ u.readExtents p.domeList = (0, es) ∧ u.readStore p.storeAddr = (0, d) ∧
      reflRules es p.reflBase p.reflLen = false) ∧
    (∀ st ∈ [St.badParam, St.poisonConsumed], ∃ (s u : State) (q : Sub) (p : Policy), s.takes q Op.ckptPolicy u ∧ p = ckptParams q ∧
      policyFair u p ∧ p.domeList = 0 ∧ u.structFault p.storeAddr storeLength = st) ∧
    (∀ st ∈ [St.badParam, St.poisonConsumed], ∃ (s u : State) (q : Sub) (p : Policy), s.takes q Op.ckptPolicy u ∧ p = ckptParams q ∧
      policyFair u p ∧ p.domeList ≠ 0 ∧ u.structFault p.storeAddr storeLength = 0 ∧
      u.structFault p.domeList extentsLength = st) ∧
    (∃ (s u : State) (q : Sub) (p : Policy), s.takes q Op.ckptPolicy u ∧ p = ckptParams q ∧ policyFair u p ∧ p.domeList ≠ 0 ∧
      u.structFault p.storeAddr storeLength = 0 ∧ u.structFault p.domeList extentsLength = 0 ∧ (u.readExtents p.domeList).1 ≠ 0) ∧
    (∃ (s u : State) (q : Sub) (p : Policy), s.takes q Op.ckptPolicy u ∧ p = ckptParams q ∧ u.admitted = false) ∧
    (∃ (s u : State) (q : Sub) (p : Policy), s.takes q Op.ckptPolicy u ∧ p = ckptParams q ∧ 2 ^ 40 ≤ p.baseStep) ∧
    (∃ (s u : State) (q : Sub) (p : Policy), s.takes q Op.ckptPolicy u ∧ p = ckptParams q ∧ p.drainMs < 100) ∧
    (∃ (s u : State) (q : Sub) (p : Policy), s.takes q Op.ckptPolicy u ∧ p = ckptParams q ∧ 600000 < p.drainMs) ∧
    (∃ (s u : State) (q : Sub) (p : Policy), s.takes q Op.ckptPolicy u ∧ p = ckptParams q ∧ p.intervalNs ≠ 0 ∧
      p.intervalNs < u.periodNs) ∧
    (∃ (s u : State) (q : Sub) (p : Policy), s.takes q Op.ckptPolicy u ∧ p = ckptParams q ∧ p.reflLen < 2 ^ 30 ∧
      p.reflLen % granuleBytes ≠ 0) ∧
    (∃ (s u : State) (q : Sub) (p : Policy), s.takes q Op.ckptPolicy u ∧ p = ckptParams q ∧ inDeep p.reflBase p.reflLen = false) ∧
    (∀ busy ∈ [true, false], ∃ (s u v : State) (q : Sub) (h : Nat), s.takes q Op.ckptNow u ∧ u.ckpt.policy ≠ none ∧
      q.p 0 8 < 2 ^ 40 ∧ q.p 0 8 = 0 ∧ u.ckpt.now.isSome = busy ∧ u.accept q = (v, h)) ∧
    (∃ (s u : State) (q : Sub), s.takes q Op.ckptNow u ∧ u.ckpt.policy = none) ∧
    (∃ (s u : State) (q : Sub), s.takes q Op.ckptNow u ∧ u.ckpt.policy ≠ none ∧ 2 ^ 40 ≤ q.p 0 8) ∧
    (∃ (s u : State) (q : Sub), s.takes q Op.ckptStatus u) ∧
    (∃ s : State, s.ckpt.copying = false) ∧ (∃ s : State, s.ckpt.copying = true) ∧
    (∀ bad ∈ [true, false], ∀ st ∈ [2, 3], ∃ (item : Nat) (s : State) (r : Restore), s.ckpt.restore = some r ∧
      r.inFlight.any (·.1 == item) = true ∧ r.stage = st ∧
      r.shards.any (fun x => s.poisoned (s.reflBase + x.2.2) x.2.1.length) = bad) ∧
    (∃ (item : Nat) (s : State) (r : Restore), s.ckpt.restore = some r ∧ r.inFlight.any (·.1 == item) = false) ∧
    (∀ o ∈ [2, 3, 7], ∃ (item : Nat) (s : State) (d : Drain), s.ckpt.restore = none ∧ s.ckpt.drain = some d ∧
      d.inFlight.any (·.1 == item) = true ∧ d.order = o) ∧
    (∃ (item : Nat) (s : State) (d : Drain), s.ckpt.restore = none ∧ s.ckpt.drain = some d ∧ d.inFlight.any (·.1 == item) = false) ∧
    (∃ s : State, s.ckpt.restore = none ∧ s.ckpt.drain = none) ∧
    (∀ good ∈ [true, false], ∃ (s u : State) (q : Sub) (j : Job) (st : Nat) (srcs : List RestoreSource) (trust : List Bytes),
      s.takes q Op.restore u ∧ u.job = some j ∧ j.anyStep = false ∧ u.ckptBusy = false ∧ u.rd F.NODE_PROFILE_SWITCHING = 0 ∧
      u.readSources (q.p 0 1) (q.p 8 8) (q.p 1 1) (q.p 16 8) = (st, srcs, trust) ∧ (st = 0 ↔ good = true)) ∧
    (∃ (s u : State) (q : Sub), s.takes q Op.restore u ∧ u.job = none) ∧
    (∃ (s u : State) (q : Sub), s.takes q Op.restore u ∧ u.ckptBusy = true) := by
  have ⟨d, hs⟩ := pair_fst (((policyCmd stored 100).taken []).readStore 8192) 0 (by decide +kernel)
  have ⟨d2, hs2⟩ := pair_fst (((policyCmd (copyingOf stored) 100).taken []).readStore 8192) 0 (by decide +kernel)
  have ⟨es, he⟩ : ∃ es, ((policyWith stored 100 0 0 (2 ^ 30) 8192 12288).taken []).readExtents 12288 = (0, es) ∧
      reflRules es 0x10000000000 (2 ^ 30) = false := by
    refine ⟨[(1, 1)], ?_, ?_⟩ <;> decide +kernel
  have ⟨⟨src, trust⟩, hr⟩ := pair_fst ((restoreCmd.taken []).readSources 1 16384 1 32768) 0 (by decide +kernel)
  have ⟨⟨src2, trust2⟩, hq⟩ := pair_fst (((restoreFrom stored 0xE00000000000).taken []).readSources 1 16384 1 0xE00000000000)
    St.badParam (by decide +kernel)
  refine ⟨fun x h => ⟨policyCmd (if x then copyingOf stored else stored) 100, _, _, _, if x then d2 else d,
    gated_takes _ _ _ rfl (by decide +kernel), rfl, ?_, rfl, ?_,
      by decide +kernel, ?_⟩,
    ⟨policyWith stored 100 0 0 (2 ^ 30) 8192 12288, _, _, _, es, d, gated_takes _ _ _ rfl (by decide +kernel), rfl,
      by decide +kernel, by decide +kernel, he.1, hs, he.2⟩,
    fun st h => ⟨policyWith { stored with poison := [1024] } 100 0 0 (2 ^ 30) (if st = St.badParam then 0xE00000000000 else 8192) 0,
      _, _, _, gated_takes _ _ _ rfl ?_, rfl, ?_⟩,
    fun st h => ⟨policyWith { stored with poison := [1536] } 100 0 0 (2 ^ 30) 8192 (if st = St.badParam then 0xE00000000000 else 12288),
      _, _, _, gated_takes _ _ _ rfl ?_, rfl, ?_⟩,
    ⟨policyWith stored 100 0 0 (2 ^ 30) 8192 20480, _, _, _, gated_takes _ _ _ rfl (by decide +kernel), rfl, by decide +kernel⟩,
    ⟨policyCmd timed 100, _, _, _, gated_takes _ _ _ rfl (by decide +kernel), rfl, by decide +kernel⟩,
    ⟨policyWith stored 100 0 (2 ^ 40) (2 ^ 30) 8192 0, _, _, _, gated_takes _ _ _ rfl (by decide +kernel), rfl, by decide +kernel⟩,
    ⟨policyCmd stored 99, _, _, _, gated_takes _ _ _ rfl (by decide +kernel), rfl, by decide +kernel⟩, ⟨policyCmd stored 600001,
      _, _, _, gated_takes _ _ _ rfl (by decide +kernel), rfl, by decide +kernel⟩,
    ⟨policyWith stored 100 1 0 (2 ^ 30) 8192 0, _, _, _, gated_takes _ _ _ rfl (by decide +kernel), rfl, by decide +kernel⟩,
    ⟨policyWith stored 100 0 0 1 8192 0, _, _, _, gated_takes _ _ _ rfl (by decide +kernel), rfl, by decide +kernel⟩,
    ⟨policyWith stored 100 0 0 (2 ^ 42) 8192 0, _, _, _, gated_takes _ _ _ rfl (by decide +kernel), rfl, by decide +kernel⟩,
    fun x h => ⟨gated (if x then copyingOf timed else restoring 0) (sub0 Op.ckptNow (zeros 8)), _, _, _, _, gated_takes _ _ _ rfl
      (by decide +kernel), ?_, by decide +kernel, by decide +kernel, ?_, rfl⟩,
    ⟨gated timed (sub0 Op.ckptNow (zeros 8)), _, _, gated_takes _ _ _ rfl (by decide +kernel), by decide +kernel⟩,
    ⟨gated (restoring 0) (sub0 Op.ckptNow (natLE 8 (2 ^ 40))), _, _, gated_takes _ _ _ rfl (by decide +kernel), by decide +kernel⟩,
    ⟨gated timed (sub0 Op.ckptStatus []), _, _, gated_takes _ _ _ rfl (by decide +kernel)⟩, ⟨timed, rfl⟩, ⟨draining 2, rfl⟩,
    fun x hx st h => ⟨2, { restoring st with poison := if x then [0x10000000000 / 8] else [] }, restore0 st, ?_⟩,
    ⟨3, restoring 2, restore0 2, by decide +kernel⟩, fun o h => ⟨2, draining o, drain0 o, ?_⟩, ⟨3, draining 2, drain0 2,
      by decide +kernel⟩, ⟨timed, rfl, rfl⟩,
    fun x h => ⟨restoreFrom stored (if x then 32768 else 0xE00000000000), _, _, _, if x then 0 else St.badParam,
      if x then src else src2, if x then trust else trust2, gated_takes _ _ _ rfl ?_, rfl, rfl, ?_, ?_, ?_, ?_⟩,
    ⟨gated timed (sub0 Op.restore []), _, _, gated_takes _ _ _ rfl (by decide +kernel), rfl⟩,
      ⟨gated (draining 2) (sub0 Op.restore []), _, _, gated_takes _ _ _ rfl (by decide +kernel), by decide +kernel⟩⟩
  · revert x; decide +kernel
  · cases x
    · exact hs
    · exact hs2
  · revert x; decide +kernel
  iterate 4 (revert st; decide +kernel)
  · revert x; decide +kernel
  · revert x; decide +kernel
  · revert st x; decide +kernel
  · revert o; decide +kernel
  iterate 3 (revert x; decide +kernel)
  · cases x
    · exact hq
    · exact hr
  · revert x; decide +kernel

/-- A JOB_ADMIT of tag 7 on terrace 0, with the plan at 4096 whose digest is given, in the node's profile and binding. -/
def admitSub (digest : Bytes) : Sub :=
  sub0 Op.jobAdmit (natLE 2 7 ++ natLE 2 1 ++ zeros 20 ++ natLE 4 1 ++ natLE 4 0 ++ natLE 8 4096 ++ digest ++ zeros 16
    ++ [1, 6] ++ natLE 2 1100 ++ zeros 4 ++ natLE 8 1000000)
def admitCmd (s : State) (digest : Bytes) : State := gated s (admitSub digest)

/-- Step time is locked. -/
def locked : State := timed.wr F.TB_STATUS_STATE Tb.locked

/-- The Keep's cache has the plan whose digest field is zero. -/
def cached : State := { locked with net := { locked.net with cache := [planOf (zeros 32)] } }

/-- A job that is being released, with a put block not yet written. -/
def releasing : State :=
  let s : State := { timed with job := some ⟨7, 1, 0, 0, 1, 0, [], none, some (5, true), none, false⟩ }
  { s with fab := { s.fab with blocks := [⟨1, 0, true, false, zeros 64, 1, 0, [], false, 0, false⟩] } }

/-- A running job with one variant; a JOB_SHRINK to it with n restore sources. -/
def varied : State := { timed with job := some ⟨7, 1, 0, 0, 1, 0, [(List.replicate 16 0, [])], none, none, none, false⟩ }
def shrinkSub (v n : Nat) : Sub := sub0 Op.jobShrink (natLE 1 v ++ natLE 1 n ++ zeros 6 ++ natLE 8 9 ++ zeros 16)
def shrinkCmd (s : State) (v : Nat) (n : Nat := 0) : State := gated s (shrinkSub v n)

/-- The state a JOB_SHRINK reads its images in. -/
def shrunk (s : State) (n : Nat := 0) : State :=
  forEach (List.range 16) (forEach [0] ((s.taken []).accept (shrinkSub 1 n)).1.ckptCancel
    (fun t x => x.setTr t { x.tr t with haltPending := true, resumeStep := none })) (fun t x => x.wr (F.SCHED_STATUS_ARMED t) 0)

/-- The images of the first n terraces lie 2,048 bytes apart. -/
def withImages : Nat → State
  | 0 => timed
  | n + 1 => (withImages n).rawWrite (2048 * n) (imgBytes (Fin.ofNat 16 n))

theorem imgBytes_length (t : Fin 16) : (imgBytes t).length = 1120 := by rw [imgBytes]; exact imgOf_length _ _ (sha3_length _)

theorem withImages_reads (k : Nat) (hk : k ≤ 16) : Memory.wf (withImages k).mem = true ∧ (withImages k).undef = [] ∧
    ∀ t : Fin 16, t < k → ∀ n, n ≤ 1120 → (withImages k).readBytes (2048 * t) n = (imgBytes t).take n := by
  induction k with
  | zero => exact ⟨by decide +kernel, rfl, fun t h => absurd h (Nat.not_lt_zero _)⟩
  | succ k ih =>
    obtain ⟨hm, hu, hr⟩ := ih (by omega)
    have hl := imgBytes_length (Fin.ofNat 16 k)
    refine ⟨State.rawWrite_wf _ _ _ hm, by simp [withImages, State.rawWrite, hu], fun t ht n hn => ?_⟩
    by_cases h : t.val = k
    · have e : Fin.ofNat 16 k = t := Fin.ext (by show k % 16 = t.val; omega)
      show ((withImages k).rawWrite (2048 * k) (imgBytes (Fin.ofNat 16 k))).readBytes (2048 * t) n = _
      rw [e, h]
      exact readBytes_rawWrite _ _ _ _ hm hu (by rw [imgBytes_length]; exact hn)
    · rw [← hr t (by omega) n hn]
      refine List.map_congr_left (fun i hi => ?_)
      have hi := List.mem_range.1 hi
      exact State.readByte_rawWrite_out _ _ _ _ (by omega)

/-- Where those images lie, and their digests. -/
def imageAddrs : List Nat := (List.range 16).map (2048 * ·)
def imageDigests : List Bytes := (List.range 16).map (fun t => (parseBank (imgBytes (Fin.ofNat 16 t))).header.digest)

/-- A running job whose variant 1 names those images, over a memory. -/
def shrinkable (m : List Host.Cell) (ds : List Bytes) : State :=
  { timed with mem := m, job := some ⟨7, 1, 0, 0, 1, 0, [(imageAddrs, ds)], none, none, none, false⟩ }

theorem images_banks (u : State) (hm : u.mem = (withImages 16).mem) (hu : u.undef = []) (hq : u.poison = [])
    (hb : ∀ t : Fin 16, u.backed (2048 * t) 64 = true ∧ u.backed (2048 * t) 1120 = true) (hs : u.sealed = false)
    (hp : u.profile = 1) (hz : u.rd F.NODE_PROFILE_TOWER_MHZ = 1100) (hd : u.bindingIs 0 6 1000000 = true) :
    ∃ bs : List Bank, u.variantBanks imageAddrs imageDigests = Sum.inr bs := by
  obtain ⟨-, hx, hw⟩ := withImages_reads 16 (Nat.le_refl _)
  have hr : ∀ t : Fin 16, ∀ n, n ≤ 1120 → u.readBytes (2048 * t) n = (imgBytes t).take n := fun t n hn => by
    rw [← hw t t.isLt n hn]
    refine List.map_congr_left (fun i _ => ?_)
    rw [State.readByte, State.readByte, hm, hu, hx]
    rfl
  have hi : ∀ t ∈ List.range 16, (t, u.imgCheck t (imageAddrs.getD t 0) true) =
      (t, Sum.inr (parseBank (imgBytes (Fin.ofNat 16 t)))) := fun t ht => by
    have ht := List.mem_range.1 ht
    have ha : imageAddrs.getD t 0 = 2048 * t := by simp [imageAddrs, List.getD_eq_getElem?_getD, List.getElem?_range ht]
    have hc := imgCheck_image u ⟨t, ht⟩ (2048 * t) true (hr ⟨t, ht⟩) (hb ⟨t, ht⟩).1 (hb ⟨t, ht⟩).2
      (fun n => by rw [State.poisoned, hq]; rfl) hp hz hd
    rw [ha, show Fin.ofNat 16 t = ⟨t, ht⟩ from Fin.ext (Nat.mod_eq_of_lt ht)]
    exact congrArg (Prod.mk t) hc
  refine ⟨(List.range 16).map (fun t => parseBank (imgBytes (Fin.ofNat 16 t))), ?_⟩
  unfold State.variantBanks
  simp only [State.imageTerraces, hs, Bool.false_eq_true, if_false, List.map_congr_left hi]
  rw [if_neg (by simp), if_neg]
  · rw [List.filterMap_map]
    exact congrArg Sum.inr (List.filterMap_eq_map ▸ rfl)
  simp only [List.any_eq_true, List.mem_map, List.mem_range, not_exists, not_and]
  rintro _ ⟨t, ht, rfl⟩
  simp [imageDigests, List.getD_eq_getElem?_getD, List.getElem?_range ht]

theorem shrinkable_mem (m : List Host.Cell) (ds : List Bytes) (n : Nat) : (shrunk (shrinkCmd (shrinkable m ds) 1 n) n).mem = m := rfl

theorem shrinkable_banks (n : Nat) (h : n ∈ [0, 1]) : ∃ bs : List Bank,
    (shrunk (shrinkCmd (shrinkable (withImages 16).mem imageDigests) 1 n) n).variantBanks imageAddrs imageDigests = Sum.inr bs := by
  refine images_banks _ (shrinkable_mem _ _ _) rfl rfl ?_ ?_ ?_ ?_ ?_ <;> (revert n; decide +kernel)

theorem shrinkSub_p (n : Nat) (h : n ∈ [0, 1]) : (shrinkSub 1 n).p 0 1 = 1 := by
  revert n; decide +kernel

theorem witness_JobsAdmitReleaseAndShrink :
    (∃ (s u : State) (q : Sub), s.takes q Op.jobAdmit u ∧ u.admitBusy (q.p 2 2) = true) ∧
    (∃ (s u : State) (q : Sub), s.takes q Op.jobAdmit u ∧ u.admitBusy (q.p 2 2) = false ∧ u.admitBad q = true) ∧
    (∃ (s u : State) (q : Sub), s.takes q Op.jobAdmit u ∧ u.admitBusy (q.p 2 2) = false ∧ u.admitBad q = false ∧
      q.p 88 1 ≠ u.profile) ∧
    (∃ (s u : State) (q : Sub), s.takes q Op.jobAdmit u ∧ u.admitBusy (q.p 2 2) = false ∧ u.admitBad q = false ∧
      q.p 90 2 ≠ u.rd F.NODE_PROFILE_TOWER_MHZ) ∧
    (∃ (s u : State) (q : Sub), s.takes q Op.jobAdmit u ∧ u.admitBusy (q.p 2 2) = false ∧ u.admitBad q = false ∧
      q.p 88 1 = u.profile ∧ q.p 90 2 = u.rd F.NODE_PROFILE_TOWER_MHZ ∧ u.rd F.TB_STATUS_STATE = 0) ∧
    (∃ (s u : State) (q : Sub), s.takes q Op.jobAdmit u ∧ u.admitBusy (q.p 2 2) = false ∧ u.admitBad q = false ∧
      q.p 88 1 = u.profile ∧ q.p 90 2 = u.rd F.NODE_PROFILE_TOWER_MHZ ∧ u.rd F.TB_STATUS_STATE = 5 ∧
      u.bindingIs (q.p 92 2) (q.p 89 1) (q.p 96 8) = false) ∧
    (∃ (s u : State) (q : Sub) (st : Nat), s.takes q Op.jobAdmit u ∧ u.admitBusy (q.p 2 2) = false ∧ u.admitBad q = false ∧
      q.p 88 1 = u.profile ∧ q.p 90 2 = u.rd F.NODE_PROFILE_TOWER_MHZ ∧ u.rd F.TB_STATUS_STATE = 2 ∧
      u.bindingIs (q.p 92 2) (q.p 89 1) (q.p 96 8) = true ∧ u.admitCheck q = Sum.inl st) ∧
    (∃ (s u v : State) (q : Sub) (h : Nat) (c : Plan × Bool × List Bytes × List (List Nat × List Bytes)),
      s.takes q Op.jobAdmit u ∧ u.admitBusy (q.p 2 2) = false ∧ u.admitBad q = false ∧ q.p 88 1 = u.profile ∧
      q.p 90 2 = u.rd F.NODE_PROFILE_TOWER_MHZ ∧ u.rd F.TB_STATUS_STATE = 2 ∧
      u.bindingIs (q.p 92 2) (q.p 89 1) (q.p 96 8) = true ∧ u.admitCheck q = Sum.inr c ∧ u.accept q = (v, h)) ∧
    (∃ (s u v : State) (q : Sub) (j : Job) (h : Nat), s.takes q Op.jobRelease u ∧ u.job = some j ∧ j.jobTag = q.p 0 2 ∧
      u.jobChanging = false ∧ u.ckpt.shrink = none ∧ u.accept q = (v, h)) ∧
    (∃ (s u : State) (q : Sub), s.takes q Op.jobRelease u ∧ u.job = none) ∧
    (∃ (s u : State) (q : Sub) (j : Job), s.takes q Op.jobRelease u ∧ u.job = some j ∧ j.jobTag = q.p 0 2 ∧
      u.jobChanging = true) ∧
    (∃ (s u : State) (q : Sub) (j : Job), s.takes q Op.jobRelease u ∧ u.job = some j ∧ j.jobTag ≠ q.p 0 2) ∧
    (∃ (s : State) (j : Job) (h : Nat), s.job = some j ∧ j.releasing = some (h, true) ∧ s.putsOut = true) ∧
    (∃ (s u v w : State) (q : Sub) (j : Job) (addrs : List Nat) (ds : List Bytes) (h st : Nat), s.takes q Op.jobShrink u ∧
      u.job = some j ∧ q.p 0 1 ≠ 0 ∧ j.variants[q.p 0 1 - 1]? = some (addrs, ds) ∧ q.p 8 8 < 2 ^ 40 ∧ q.p 1 1 ≤ 64 ∧
      q.p 2 1 ≤ 64 ∧ u.jobChanging = false ∧ u.ckpt.shrink = none ∧ u.ckpt.restore = none ∧ u.accept q = (v, h) ∧
      w.variantBanks addrs ds = Sum.inl st) ∧
    (∀ n ∈ [0, 1], ∃ (s u v w : State) (q : Sub) (j : Job) (addrs : List Nat) (ds : List Bytes) (h : Nat) (bs : List Bank),
      s.takes q Op.jobShrink u ∧ u.job = some j ∧ q.p 0 1 ≠ 0 ∧ j.variants[q.p 0 1 - 1]? = some (addrs, ds) ∧ q.p 8 8 < 2 ^ 40 ∧
      q.p 1 1 = n ∧ q.p 2 1 ≤ 64 ∧ u.jobChanging = false ∧ u.ckpt.shrink = none ∧ u.ckpt.restore = none ∧ u.accept q = (v, h) ∧
      w = forEach (List.range 16) (forEach (terraces j.mask) v.ckptCancel
        (fun t x => x.setTr t { x.tr t with haltPending := true, resumeStep := none }))
        (fun t x => x.wr (F.SCHED_STATUS_ARMED t) 0) ∧ w.variantBanks addrs ds = Sum.inr bs) ∧
    (∃ (s u : State) (q : Sub) (j : Job) (addrs : List Nat) (ds : List Bytes), s.takes q Op.jobShrink u ∧
      u.job = some j ∧ q.p 0 1 ≠ 0 ∧ j.variants[q.p 0 1 - 1]? = some (addrs, ds) ∧ q.p 8 8 < 2 ^ 40 ∧ q.p 1 1 ≤ 64 ∧
      q.p 2 1 ≤ 64 ∧ u.ckpt.restore ≠ none) ∧
    (∃ (s u : State) (q : Sub), s.takes q Op.jobShrink u ∧ q.p 0 1 = 0) ∧
    (∃ (s u : State) (q : Sub), s.takes q Op.jobShrink u ∧ u.job = none) ∧
    (∃ (s u : State) (q : Sub) (j : Job), s.takes q Op.jobShrink u ∧ u.job = some j ∧ j.variants.length < q.p 0 1) ∧
    (∃ (s u : State) (k : Shrink), s.ckpt.shrink = some k ∧ k.withRestore = true ∧
      s.reach (2 ^ 24 * k.effStep - s.nsToPhase 10000) = some u) ∧
    (∃ (s : State) (k : Shrink), s.ckpt.shrink = some k ∧ k.withRestore = true ∧
      s.reach (2 ^ 24 * k.effStep - s.nsToPhase 10000) = none) ∧
    (∃ (s : State) (k : Shrink), s.ckpt.shrink = some k ∧ k.withRestore = false) ∧
    (∃ s : State, s.ckpt.shrink = none) := by
  have ⟨st, hl⟩ := inl_of (((admitCmd locked (zeros 32)).taken []).admitCheck (admitSub (zeros 32))) (by decide +kernel)
  have ⟨c, hr⟩ := inr_of (((admitCmd cached (zeros 32)).taken []).admitCheck (admitSub (zeros 32))) (by decide +kernel)
  have ⟨st2, hv⟩ := inl_of ((shrunk (shrinkCmd varied 1)).variantBanks (List.replicate 16 0) []) (by decide +kernel)
  refine ⟨⟨admitCmd (withJob locked) (zeros 32), _, _, gated_takes _ _ _ rfl (by decide +kernel), by decide +kernel⟩,
    ⟨gated locked (sub0 Op.jobAdmit []), _, _, gated_takes _ _ _ rfl (by decide +kernel), by decide +kernel⟩,
    ⟨admitCmd (locked.wr F.NODE_PROFILE_ACTIVE 0) (zeros 32), _, _, gated_takes _ _ _ rfl (by decide +kernel), by decide +kernel⟩,
    ⟨admitCmd (locked.wr F.NODE_PROFILE_TOWER_MHZ 1000) (zeros 32), _, _, gated_takes _ _ _ rfl (by decide +kernel), by decide +kernel⟩,
    ⟨admitCmd (locked.wr F.TB_STATUS_STATE 0) (zeros 32), _, _, gated_takes _ _ _ rfl (by decide +kernel), by decide +kernel⟩,
    ⟨admitCmd ((locked.wr F.TB_STATUS_STATE 5).wr F.TB_STATUS_TB_ID 9) (zeros 32), _, _,
      gated_takes _ _ _ rfl (by decide +kernel), by decide +kernel⟩,
    ⟨admitCmd locked (zeros 32), _, _, st, gated_takes _ _ _ rfl (by decide +kernel), by decide +kernel, by decide +kernel,
      by decide +kernel, by decide +kernel, by decide +kernel, by decide +kernel, hl⟩,
    ⟨admitCmd cached (zeros 32), _, _, _, _, c, gated_takes _ _ _ rfl (by decide +kernel), by decide +kernel, by decide +kernel,
      by decide +kernel, by decide +kernel, by decide +kernel, by decide +kernel, hr, rfl⟩,
    ⟨gated (withJob timed) (sub0 Op.jobRelease (natLE 2 7)), _, _, _, _, _, gated_takes _ _ _ rfl (by decide +kernel), rfl,
      by decide +kernel, by decide +kernel, rfl, rfl⟩,
    ⟨gated timed (sub0 Op.jobRelease (natLE 2 7)), _, _, gated_takes _ _ _ rfl (by decide +kernel), rfl⟩,
    ⟨gated admittingNow (sub0 Op.jobRelease (natLE 2 7)), _, _, _, gated_takes _ _ _ rfl (by decide +kernel), rfl, by decide +kernel⟩,
    ⟨gated (withJob timed) (sub0 Op.jobRelease (natLE 2 8)), _, _, _, gated_takes _ _ _ rfl (by decide +kernel), rfl, by decide +kernel⟩,
    ⟨releasing, _, 5, rfl, rfl, by decide +kernel⟩,
    ⟨shrinkCmd varied 1, _, _, shrunk (shrinkCmd varied 1), _, _, _, _, _, st2, gated_takes _ _ _ rfl (by decide +kernel), rfl,
      by decide +kernel,
      rfl, by decide +kernel, by decide +kernel, by decide +kernel, by decide +kernel, rfl, rfl, rfl, hv⟩,
    fun n hn => ⟨shrinkCmd (shrinkable (withImages 16).mem imageDigests) 1 n, _, _,
      shrunk (shrinkCmd (shrinkable (withImages 16).mem imageDigests) 1 n) n, shrinkSub 1 n, _, imageAddrs, imageDigests, _,
      (shrinkable_banks n hn).choose, gated_takes _ _ _ rfl ?_, rfl, ?_, by rw [shrinkSub_p n hn]; rfl, ?_, ?_, ?_, ?_, rfl, rfl, rfl, ?_,
      (shrinkable_banks n hn).choose_spec⟩,
    ⟨shrinkCmd { restoring 2 with job := varied.job } 1, _, _, _, _, _, gated_takes _ _ _ rfl (by decide +kernel), rfl,
      by decide +kernel, rfl, by decide +kernel, by decide +kernel, by decide +kernel, by decide +kernel⟩,
    ⟨shrinkCmd varied 0, _, _, gated_takes _ _ _ rfl (by decide +kernel), by decide +kernel⟩,
    ⟨shrinkCmd timed 1, _, _, gated_takes _ _ _ rfl (by decide +kernel), rfl⟩, ⟨shrinkCmd varied 2, _, _, _,
      gated_takes _ _ _ rfl (by decide +kernel), rfl, by decide +kernel⟩,
    ⟨{ timed with ckpt := { timed.ckpt with shrink := some ⟨5, 1, 0, true, []⟩ } }, _, _, rfl, rfl, if_pos (by decide +kernel)⟩,
    ⟨{ timed with ckpt := { timed.ckpt with shrink := some ⟨5, 1, 9, true, []⟩ } }, _, rfl, rfl, by decide +kernel⟩,
    ⟨{ timed with ckpt := { timed.ckpt with shrink := some ⟨5, 1, 9, false, []⟩ } }, _, rfl, rfl⟩,
    ⟨timed, rfl⟩⟩
  all_goals first | rfl | (revert n; decide +kernel)

/-! ## The Keep, ageing, security and the panel -/

/-- An update of region 1 in a phase. -/
def updating (phase : Nat) : State := { timed with keep := { timed.keep with updates := [⟨1, [1], phase, .none⟩] } }

/-- A region of the Keep is worn. -/
def wornOut (g : Nat) : State := { timed with keep := { timed.keep with worn := [g] } }

/-- A survey or self-test with a part on terrace 0. -/
def surveying (test : Bool) (left : List Nat) (deadline : Nat) : State :=
  { timed with age := { timed.age with queue := [⟨some 5, test, 1, 0, left, [0], 1, deadline, [], 0, 0, false⟩] } }

def keepPkt (g off n : Nat) : Bytes := natLE 4 g ++ natLE 4 off ++ natLE 2 n ++ zeros 6 ++ zeros n

theorem witness_KeepAndAgeing :
    (∃ (s u : State) (q : Sub), s.takes q Op.keepRead u ∧ q.p 0 1 ≤ 9 ∧ 1 ≤ q.p 8 1 ∧ q.p 8 1 ≤ 48 ∧
      q.p 4 4 + q.p 8 1 ≤ keepLimit (q.p 0 1) ∧ u.keep.damaged.contains (q.p 0 1) = false) ∧
    (∃ (s u : State) (q : Sub), s.takes q Op.keepRead u ∧ 9 < q.p 0 1) ∧
    (∃ (s u : State) (q : Sub), s.takes q Op.keepRead u ∧ q.p 0 1 ≤ 9 ∧ 1 ≤ q.p 8 1 ∧ q.p 8 1 ≤ 48 ∧
      q.p 4 4 + q.p 8 1 ≤ keepLimit (q.p 0 1) ∧ u.keep.damaged.contains (q.p 0 1) = true) ∧
    (∃ (s u : State) (q : Sub), s.takes q Op.keepRead u ∧ q.p 8 1 = 0) ∧
    (∃ (s u : State) (q : Sub), s.takes q Op.keepRead u ∧ 48 < q.p 8 1) ∧
    (∃ (s u : State) (q : Sub), s.takes q Op.keepRead u ∧ q.p 8 1 = 48 ∧ keepLimit (q.p 0 1) < q.p 4 4 + q.p 8 1) ∧
    (∃ (s u : State) (q : Sub) (g off n : Nat), s.takes q Op.keepWrite u ∧ g = q.p 0 1 ∧ off = q.p 4 4 ∧ n = q.p 8 2 ∧
      (g = 1 ∨ g = 9) ∧ 1 ≤ n ∧ n ≤ 4080 ∧ off + n ≤ keepLimit g ∧ 16 + n ≤ q.params.length ∧
      (g = 9 → overlaps off n 4096 4096 = false) ∧ u.keep.damaged.contains g = false ∧ u.removable = false ∧
      u.keep.erasing.contains g = false ∧ u.keep.updates.any (·.region == g) = false ∧ u.isWorn g = false) ∧
    (∀ busy ∈ [true, false], ∃ (s u : State) (q : Sub) (g off n : Nat), s.takes q Op.keepWrite u ∧ g = q.p 0 1 ∧ off = q.p 4 4 ∧
      n = q.p 8 2 ∧ g = 1 ∧ 1 ≤ n ∧ n ≤ 4080 ∧ off + n ≤ keepLimit g ∧ 16 + n ≤ q.params.length ∧
      u.keep.damaged.contains g = false ∧ u.removable = false ∧ u.keep.updates.any (·.region == g) = busy ∧
      u.isWorn g = !busy) ∧
    (∀ off ∈ [0, 1], ∃ (s u : State) (q : Sub) (g n : Nat), s.takes q Op.keepWrite u ∧ g = q.p 0 1 ∧ off = q.p 4 4 ∧
      n = q.p 8 2 ∧ g = 1 ∧ 1 ≤ n ∧ n ≤ 4080 ∧ off + n ≤ keepLimit g ∧ 16 + n ≤ q.params.length ∧
      u.keep.damaged.contains g = true ∧ (off = 0 → (u.region g).data.length ≤ n)) ∧
    (∃ (s u : State) (q : Sub), s.takes q Op.keepWrite u ∧ q.p 0 1 = 1 ∧ q.p 8 2 = 0) ∧
    (∃ (s u : State) (q : Sub), s.takes q Op.keepWrite u ∧ q.p 0 1 = 1 ∧ 4080 < q.p 8 2) ∧
    (∃ (s u : State) (q : Sub), s.takes q Op.keepWrite u ∧ q.p 0 1 = 1 ∧ keepLimit (q.p 0 1) < q.p 4 4 + q.p 8 2) ∧
    (∃ (s u : State) (q : Sub), s.takes q Op.keepWrite u ∧ q.p 0 1 = 1 ∧ q.params.length < 16 + q.p 8 2) ∧
    (∃ (s u : State) (q : Sub), s.takes q Op.keepWrite u ∧ q.p 0 1 = 9 ∧ overlaps (q.p 4 4) (q.p 8 2) 4096 4096 = true) ∧
    (∃ s : State, s.removable = true) ∧ (∃ (s u : State) (k : KeepThen), s.norUpdate true = (u, k)) ∧
    (∃ (s u : State) (q : Sub), s.takes q Op.keepWrite u ∧ q.p 0 1 ≠ 1 ∧ q.p 0 1 ≠ 9) ∧
    (∃ s : State, s.alive = true) ∧ (∃ s : State, s.alive = false) ∧
    (∀ ph ∈ [1, 2], ∃ (s : State) (x : KUpdate), s.keep.updates = [x] ∧ x.phase = ph) ∧
    (∃ (sec : BitVec 32) (s : State), 900 + s.keep.lastCounter ≤ sec.toNat) ∧
    (∃ (sec : BitVec 32) (s : State), sec.toNat < 900 + s.keep.lastCounter) ∧
    (∃ (sec : BitVec 32) (s : State), 3600000 + s.keep.lastFold ≤ sec.toNat) ∧
    (∃ (sec : BitVec 32) (s : State), sec.toNat < 3600000 + s.keep.lastFold) ∧
    (∃ (s u : State) (q : Sub), s.takes q Op.readAgeingLog u ∧ u.keep.damaged.contains 3 = true) ∧
    (∃ (s u : State) (q : Sub) (i : Nat) (r : Bytes), s.takes q Op.readAgeingLog u ∧ u.keep.damaged.contains 3 = false ∧ (u.region 3).recs[q.p 0 4]? = some (i, r)) ∧
    (∃ (s u : State) (q : Sub), s.takes q Op.readAgeingLog u ∧ u.keep.damaged.contains 3 = false ∧ (u.region 3).recs[q.p 0 4]? = none) ∧
    (∃ (s u : State) (q : Sub), s.takes q Op.marginSurvey u ∧ q.p 2 1 ≤ 7 ∧ bit (q.p 2 1) 0 = true) ∧
    (∃ (s u : State) (q : Sub), s.takes q Op.marginSurvey u ∧ q.p 2 1 ≤ 7 ∧ bit (q.p 2 1) 0 = false) ∧
    (∃ (s u : State) (q : Sub), s.takes q Op.marginSurvey u ∧ 7 < q.p 2 1) ∧
    (∃ (s u : State) (q : Sub), s.takes q Op.selfTest u ∧ q.p 2 1 ≤ 1) ∧
    (∃ (s u : State) (q : Sub), s.takes q Op.selfTest u ∧ 1 < q.p 2 1) ∧
    (∃ s : State, 64 ≤ (s.age.queue.filter (·.handle.isSome)).length) ∧
    (∃ (s u v : State) (q : Sub) (h : Nat), s.takes q Op.marginReplan u ∧ u.age.replan = none ∧ u.removable = false ∧
      u.accept q = (v, h) ∧ v.isWorn 2 = false) ∧
    (∃ (s u v : State) (q : Sub) (h : Nat), s.takes q Op.marginReplan u ∧ u.age.replan = none ∧ u.removable = false ∧
      u.accept q = (v, h) ∧ v.isWorn 2 = true) ∧
    (∃ (s u : State) (q : Sub), s.takes q Op.marginReplan u ∧ u.removable = true) ∧
    (∃ m : Int, m = 0) ∧ (∃ m : Int, m = -30) ∧ (∃ m : Int, m = 40) ∧
    (∃ (t : Fin 16) (s : State), s.age.queue.find? (·.running.contains t.val) = none) ∧
    (∀ b ∈ [true, false], ∃ (t : Fin 16) (s : State) (r : AgeReq), s.age.queue.find? (·.running.contains t.val) = some r ∧
      r.selfTest = b ∧ r.calibration = false) ∧
    (∃ (t : Fin 16) (s : State) (r : AgeReq), s.age.queue.find? (·.running.contains t.val) = some r ∧ r.calibration = true) ∧
    (∃ (h : Nat) (s u : State) (r : AgeReq), s.age.queue.find? (fun r => r.handle == some h) = some r ∧ r.deadline ≠ 0 ∧
      r.left ≠ [] ∧ s.reach r.deadline = some u) ∧
    (∃ (h : Nat) (s : State) (r : AgeReq), s.age.queue.find? (fun r => r.handle == some h) = some r ∧ r.deadline = 0) ∧
    (∃ (h : Nat) (s : State) (r : AgeReq), s.age.queue.find? (fun r => r.handle == some h) = some r ∧ r.left = []) ∧
    (∃ (h : Nat) (s : State) (r : AgeReq), s.age.queue.find? (fun r => r.handle == some h) = some r ∧
      s.reach r.deadline = none) ∧
    (∃ (h : Nat) (s : State), s.age.queue.find? (fun r => r.handle == some h) = none) ∧
    (∃ (p : Fin 10) (s : State), s.portState p = Port.up ∧ bitList (s.rd (F.PORT_STATUS_LANES_TRAINED p)) 8 = []) ∧
    (∃ (p : Fin 10) (s : State), s.portState p ≠ Port.up) ∧
    (∃ (p : Fin 10) (s : State) (l0 : Nat) (ls : List Nat), s.portState p = Port.up ∧
      bitList (s.rd (F.PORT_STATUS_LANES_TRAINED p)) 8 = l0 :: ls) := by
  refine ⟨⟨gated timed (sub0 Op.keepRead (natLE 4 9 ++ natLE 4 65424 ++ [48])), _, _, gated_takes _ _ _ rfl (by decide +kernel),
      by decide +kernel⟩,
    ⟨gated timed (sub0 Op.keepRead [10]), _, _, gated_takes _ _ _ rfl (by decide +kernel), by decide +kernel⟩,
    ⟨gated { timed with keep := { timed.keep with damaged := [9] } } (sub0 Op.keepRead (natLE 4 9 ++ natLE 4 65424 ++ [48])), _, _,
      gated_takes _ _ _ rfl (by decide +kernel), by decide +kernel⟩,
    ⟨gated timed (sub0 Op.keepRead (zeros 9)), _, _, gated_takes _ _ _ rfl (by decide +kernel), by decide +kernel⟩,
    ⟨gated timed (sub0 Op.keepRead (zeros 8 ++ [49])), _, _, gated_takes _ _ _ rfl (by decide +kernel), by decide +kernel⟩,
    ⟨gated timed (sub0 Op.keepRead (natLE 4 9 ++ natLE 4 (2 ^ 31) ++ [48])), _, _, gated_takes _ _ _ rfl (by decide +kernel),
      by decide +kernel⟩,
    ⟨gated timed (sub0 Op.keepWrite (keepPkt 9 4000 96)), _, _, 9, 4000, 96, gated_takes _ _ _ rfl (by decide +kernel), by decide +kernel⟩,
    fun b h => ⟨gated (if b then updating 1 else wornOut 1) (sub0 Op.keepWrite (keepPkt 1 4000 96)), _, _, 1, 4000, 96,
      gated_takes _ _ _ rfl (by decide +kernel), by revert b; decide +kernel⟩,
    fun o h => ⟨gated { timed with keep := { timed.keep with damaged := [1] } } (sub0 Op.keepWrite (keepPkt 1 o 96)), _, _, 1, 96,
      gated_takes _ _ _ rfl (by revert o; decide +kernel), by revert o; decide +kernel⟩,
    ⟨gated timed (sub0 Op.keepWrite (keepPkt 1 0 0)), _, _, gated_takes _ _ _ rfl (by decide +kernel), by decide +kernel⟩,
    ⟨gated timed (sub0 Op.keepWrite (natLE 4 1 ++ natLE 4 0 ++ natLE 2 4081)), _, _, gated_takes _ _ _ rfl (by decide +kernel),
      by decide +kernel⟩,
    ⟨gated timed (sub0 Op.keepWrite (keepPkt 1 (2 ^ 31) 1)), _, _, gated_takes _ _ _ rfl (by decide +kernel), by decide +kernel⟩,
    ⟨gated timed (sub0 Op.keepWrite (natLE 4 1 ++ natLE 4 0 ++ natLE 2 1)), _, _, gated_takes _ _ _ rfl (by decide +kernel),
      by decide +kernel⟩,
    ⟨gated timed (sub0 Op.keepWrite (keepPkt 9 4000 97)), _, _, gated_takes _ _ _ rfl (by decide +kernel), by decide +kernel⟩,
    ⟨timed.wr F.PANEL_STATUS_REQUEST 2, by decide +kernel⟩, ⟨updating 1, _, _, rfl⟩,
    ⟨gated timed (sub0 Op.keepWrite []), _, _, gated_takes _ _ _ rfl (by decide +kernel), by decide +kernel⟩,
    ⟨timed, rfl⟩, ⟨{ timed with boot := { timed.boot with failed := true } }, rfl⟩,
    fun ph h => ⟨updating ph, _, rfl, rfl⟩, ⟨900, timed, by decide⟩, ⟨899, timed, by decide⟩, ⟨3600000, timed, by decide⟩,
      ⟨3599999, timed, by decide⟩,
    ⟨gated { timed with keep := { timed.keep with damaged := [3] } } (sub0 Op.readAgeingLog []), _, _,
      gated_takes _ _ _ rfl (by decide +kernel), rfl⟩,
    ⟨gated { timed with keep := { timed.keep with regions := [(3, ⟨[], 0, 0, [(0, [7])], 1⟩)] } } (sub0 Op.readAgeingLog []), _, _, 0,
      [7], gated_takes _ _ _ rfl (by decide +kernel), rfl, rfl⟩,
    ⟨gated timed (sub0 Op.readAgeingLog []), _, _, gated_takes _ _ _ rfl (by decide +kernel), rfl, rfl⟩,
    ⟨gated timed (sub0 Op.marginSurvey [1, 0, 7]), _, _, gated_takes _ _ _ rfl (by decide +kernel), by decide +kernel⟩,
    ⟨gated timed (sub0 Op.marginSurvey [1, 0, 6]), _, _, gated_takes _ _ _ rfl (by decide +kernel), by decide +kernel⟩,
    ⟨gated timed (sub0 Op.marginSurvey [1, 0, 8]), _, _, gated_takes _ _ _ rfl (by decide +kernel), by decide +kernel⟩,
    ⟨gated timed (sub0 Op.selfTest [1, 0, 1]), _, _, gated_takes _ _ _ rfl (by decide +kernel), by decide +kernel⟩,
    ⟨gated timed (sub0 Op.selfTest [1, 0, 2]), _, _, gated_takes _ _ _ rfl (by decide +kernel), by decide +kernel⟩,
    ⟨{ timed with age := { timed.age with queue := List.replicate 64 ⟨some 5, false, 1, 0, [], [0], 1, 0, [], 0, 0, false⟩ } },
      by decide +kernel⟩,
    ⟨gated timed (sub0 Op.marginReplan []), _, _, _, _, gated_takes _ _ _ rfl (by decide +kernel), rfl, by decide +kernel, rfl,
      by decide +kernel⟩,
    ⟨gated (wornOut 2) (sub0 Op.marginReplan []), _, _, _, _, gated_takes _ _ _ rfl (by decide +kernel), rfl, by decide +kernel,
      rfl, by decide +kernel⟩,
    ⟨gated (timed.wr F.PANEL_STATUS_REQUEST 2) (sub0 Op.marginReplan []), _, _, gated_takes _ _ _ rfl (by decide +kernel),
      by decide +kernel⟩, ⟨0, rfl⟩, ⟨-30, rfl⟩, ⟨40, rfl⟩,
    ⟨0, timed, rfl⟩, fun b h => ⟨0, surveying b [] 0, _, rfl, rfl, rfl⟩,
    ⟨0, { timed with age := { timed.age with queue := [⟨some 5, false, 1, 0, [], [0], 1, 0, [], 0, 0, true⟩] } }, _, rfl, rfl⟩,
    ⟨5, surveying false [1] 9 |>.setNow 9 0, _, ⟨some 5, false, 1, 0, [1], [0], 1, 9, [], 0, 0, false⟩, by decide +kernel,
      by decide, by decide, if_pos (by decide +kernel)⟩,
    ⟨5, surveying false [1] 0, _, rfl, rfl⟩, ⟨5, surveying false [] 9, _, rfl, rfl⟩,
    ⟨5, surveying false [1] (2 ^ 24), _, rfl, by decide +kernel⟩, ⟨5, timed, rfl⟩, ⟨0,
      linked.wr (F.PORT_STATUS_LANES_TRAINED 0) 0, by decide +kernel⟩, ⟨0, timed, by decide +kernel⟩,
    ⟨0, linked.wr (F.PORT_STATUS_LANES_TRAINED 0) 0xFE, 1, [2, 3, 4, 5, 6, 7], by decide +kernel⟩⟩

/-- A local FW_STAGE of n bytes at 4096, and a piece from the tray. -/
def stageCmd (n : Nat) : State := gated timed (sub0 Op.fwStage (zeros 8 ++ natLE 8 4096 ++ natLE 8 n))
def trayPiece (offset : Nat) (last : Nat) (body : Bytes) : Sub :=
  ⟨.tray, 0, Op.fwStage, false, 7, 0, [1, BitVec.ofNat 8 last, 0, 0] ++ natLE 4 offset ++ zeros 24 ++ body, false⟩

/-- An image of 8192 bytes of which the first 4096 have been staged from the tray. -/
def pieceHead : Bytes := zeros 16 ++ natLE 4 4096 ++ zeros 4076
def staged : State := { timed with sec := { timed.sec with staging := some ⟨.tray, none, false, 1, pieceHead, 0⟩ } }

/-- A CLIENT_HELLO of a key of zeros. -/
def hello : Bytes := zeros 4948
/-- OPERATOR_KEYS begins with a digest, and its session key is made. -/
def knowing (d : Bytes) : State :=
  { timed with sec := { timed.sec with sessKey := some [] }, keep := { timed.keep with
    regions := [(9, ⟨d, 0, 0, [], 0⟩)] } }

/-- An open session. -/
def session0 : Session := ⟨5, some 1024, [1024], 0, 0, 0⟩
def inSession : State := { timed with cmd := { timed.cmd with sessions := [session0] } }

theorem sub_self (d : Bytes) (h : d.length = 32) : Machine.sub d 0 32 = d := by
  unfold Machine.sub
  rw [List.drop_zero, List.take_of_length_le (by omega)]
  simp [h]

/-- A local FW_STAGE of 4097 bytes of an image that says it has 4096 and k more. -/
def lengthCmd (k : Nat) : State :=
  gated (timed.rawWrite 4112 (natLE 1 k)) (sub0 Op.fwStage (zeros 8 ++ natLE 8 4096 ++ natLE 8 4097))

/-- A staging is under way: of the tray or another channel, with region 6 worn or not, with a command or none. -/
def restaged (x : Bool × Bool × Bool) : State :=
  let g : Staging := ⟨if x.1 then .tray else .loc 1, if x.2.2 then some 3 else none, false, 1, [], 0⟩
  { timed with sec := { timed.sec with staging := some g }, keep := { timed.keep with worn := if x.2.1 then [6] else [] } }

/-- Bring-up is in stage k. -/
def inStage (k : Nat) : State :=
  ({ State.reset with boot := { State.reset.boot with standby := false } } : State).wr F.NODE_STAGE_STAGE k

theorem witness_FirmwareIdentityAndSessions :
    (∃ (s u : State) (q : Sub) (a n : Nat), s.takes q Op.fwStage u ∧ q.p 0 1 = 0 ∧ a = q.p 8 8 ∧ n = q.p 16 8 ∧
      fwParamsBad q 0 = false ∧ 4097 ≤ n ∧ n ≤ 33554368 ∧ u.backed a n = true ∧ fwLength (u.readBytes a n) = n ∧ u.sec.staging = none ∧
      u.removable = false ∧ u.isWorn 6 = false) ∧
    (∃ (s u : State) (q : Sub) (a n : Nat), s.takes q Op.fwStage u ∧ q.p 0 1 = 0 ∧ a = q.p 8 8 ∧ n = q.p 16 8 ∧
      fwParamsBad q 0 = false ∧ 4097 ≤ n ∧ n ≤ 33554368 ∧ u.backed a n = true ∧ fwLength (u.readBytes a n) = n ∧
      u.sec.staging ≠ none) ∧
    (∃ (s u : State) (q : Sub) (a n : Nat), s.takes q Op.fwStage u ∧ q.p 0 1 = 0 ∧ a = q.p 8 8 ∧ n = q.p 16 8 ∧
      fwParamsBad q 0 = false ∧ 4097 ≤ n ∧ n ≤ 33554368 ∧ u.backed a n = true ∧ fwLength (u.readBytes a n) = n ∧
      u.removable = true) ∧
    (∃ (s u : State) (q : Sub) (a n : Nat), s.takes q Op.fwStage u ∧ q.p 0 1 = 0 ∧ a = q.p 8 8 ∧ n = q.p 16 8 ∧
      fwParamsBad q 0 = false ∧ 4097 ≤ n ∧ n ≤ 33554368 ∧ u.backed a n = true ∧ fwLength (u.readBytes a n) = n ∧
      u.sec.staging = none ∧ u.removable = false ∧ u.isWorn 6 = true) ∧
    (∃ (s u v : State) (q : Sub) (a n h : Nat), s.takes q Op.fwStage u ∧ q.p 0 1 = 0 ∧ a = q.p 8 8 ∧ n = q.p 16 8 ∧
      fwParamsBad q 0 = false ∧ 4097 ≤ n ∧ n ≤ 33554368 ∧ u.backed a n = true ∧ u.sec.staging = none ∧ u.removable = false ∧ u.isWorn 6 = false ∧
      u.poisoned a n = true ∧ u.accept q = (v, h)) ∧
    (∀ k ∈ [0, 1], ∃ (s u : State) (q : Sub) (a n : Nat), s.takes q Op.fwStage u ∧ q.p 0 1 = 0 ∧ a = q.p 8 8 ∧ n = q.p 16 8 ∧
      fwParamsBad q 0 = false ∧ 4097 ≤ n ∧ n ≤ 33554368 ∧ u.backed a n = true ∧ u.sec.staging = none ∧ u.removable = false ∧
      u.isWorn 6 = false ∧ u.poisoned a n = false ∧ fwHeaderOk (u.readBytes a n) = false ∧
      (fwLength (u.readBytes a n) = n ↔ k = 1)) ∧
    (∃ (s u : State) (q : Sub), s.takes q Op.fwStage u ∧ 1 < q.p 0 1) ∧
    (∃ (s u : State) (q : Sub), s.takes q Op.fwStage u ∧ q.p 0 1 = 0 ∧ fwParamsBad q 0 = true) ∧
    (∃ (s u : State) (q : Sub), s.takes q Op.fwStage u ∧ q.p 0 1 = 0 ∧ q.p 16 8 < 4097) ∧
    (∃ (s u : State) (q : Sub), s.takes q Op.fwStage u ∧ q.p 0 1 = 0 ∧ 33554368 < q.p 16 8) ∧
    (∃ (s u : State) (q : Sub), s.takes q Op.fwStage u ∧ q.p 0 1 = 0 ∧ u.backed (q.p 8 8) (q.p 16 8) = false) ∧
    (∃ (s v : State) (q : Sub) (h : Nat) (image : Bytes), s.accept q = (v, h) ∧ fwHeaderOk image = false) ∧
    (∀ f ∈ [0, 1], ∃ (s v : State) (q : Sub) (h : Nat) (image : Bytes), s.accept q = (v, h) ∧
      (fwSvn image < v.sec.fuses ↔ f = 1)) ∧
    (∀ last ∈ [0, 1], ∃ (s u : State) (q : Sub), s.takes q Op.fwStage u ∧ q.p 0 1 = 1 ∧ fwParamsBad q 1 = false ∧
      u.removable = false ∧ u.isWorn 6 = false ∧ u.sec.staging = none ∧ q.p 4 4 = 0 ∧ 3860 ≤ (q.params.drop 32).length ∧
      (q.params.drop 32).length ≤ fwLength (q.params.drop 32) ∧ q.p 1 1 = last ∧
      (q.p 1 1 = 1 → (q.params.drop 32).length = fwLength (q.params.drop 32))) ∧
    (∃ (s u : State) (q : Sub), s.takes q Op.fwStage u ∧ q.p 0 1 = 1 ∧ fwParamsBad q 1 = true) ∧
    (∃ (s u : State) (q : Sub), s.takes q Op.fwStage u ∧ q.p 0 1 = 1 ∧ q.params.drop 32 = []) ∧
    (∃ (s u : State) (q : Sub), s.takes q Op.fwStage u ∧ q.p 0 1 = 1 ∧ q.p 4 4 = 0 ∧ (q.params.drop 32).length < 3860) ∧
    (∀ x ∈ [(false, false, false), (true, true, false), (true, false, true), (true, false, false)],
      ∃ (s u : State) (q : Sub) (g : Staging) (piece : Bytes), s.takes q Op.fwStage u ∧ q.p 0 1 = 1 ∧ fwParamsBad q 1 = false ∧
      u.sec.staging = some g ∧ piece = q.params.drop 32 ∧ q.p 4 4 = 0 ∧ 3860 ≤ piece.length ∧ piece.length ≤ fwLength piece ∧
      q.p 1 1 = 0 ∧ (g.chan = q.chan ↔ x.1 = true) ∧ u.removable = false ∧ u.isWorn 6 = x.2.1 ∧ g.handle.isSome = x.2.2) ∧
    (∃ (s u : State) (q : Sub), s.takes q Op.fwStage u ∧ q.p 0 1 = 1 ∧ fwParamsBad q 1 = false ∧ u.removable = false ∧
      u.isWorn 6 = false ∧ u.sec.staging = none ∧ q.p 4 4 ≠ 0) ∧
    (∃ (s u v : State) (q : Sub) (h : Nat) (g : Staging) (im : Bytes), s.takes q Op.fwStage u ∧ q.p 0 1 = 1 ∧
      fwParamsBad q 1 = false ∧ u.removable = false ∧ u.isWorn 6 = false ∧ u.sec.staging = some g ∧ g.chan = q.chan ∧
      g.handle = none ∧ q.p 4 4 = g.received.length ∧ q.p 4 4 ≠ 0 ∧ im = g.received ++ q.params.drop 32 ∧
      1 ≤ (q.params.drop 32).length ∧ im.length ≤ fwLength im ∧ (q.p 1 1 = 1 → im.length = fwLength im) ∧ u.accept q = (v, h)) ∧
    (∀ ph ∈ [0, 1], ∃ (s : State) (g : Staging), s.sec.staging = some g ∧ g.phase = ph) ∧
    (∀ n ∈ [0, 106, 107, 127, 128, 186, 187], ∃ (s u : State) (q : Sub), s.takes q Op.identityRead u ∧ q.p 0 1 = n) ∧
    (∃ (s u : State) (q : Sub) (c : Nat), s.takes q Op.attest u ∧ q.chan = .loc c ∧ q.p 32 8 % 64 = 0 ∧
      u.backed (q.p 32 8) 2828 = true) ∧
    (∃ (s u : State) (q : Sub) (c : Nat), s.takes q Op.attest u ∧ q.chan = .loc c ∧ q.p 32 8 % 64 ≠ 0) ∧
    (∃ (s u : State) (q : Sub) (c : Nat), s.takes q Op.attest u ∧ q.chan = .loc c ∧ u.backed (q.p 32 8) 2828 = false) ∧
    (∀ a ∈ [0, 64], ∃ (s u : State) (q : Sub), s.takes q Op.attest u ∧ (∀ c : Nat, q.chan ≠ .loc c) ∧ q.p 32 8 = a) ∧
    (∀ w ∈ [0, 1], ∃ (s u : State) (q : Sub), s.takes q Op.keyRotate u ∧ u.removable = false ∧
      u.keep.updates.any (·.region == 9) = false ∧ u.isWorn 9 = true ∧ q.p 0 1 = w) ∧
    (∀ w ∈ [0, 1], (∃ (s u : State) (q : Sub), s.takes q Op.keyRotate u ∧ u.removable = true ∧ q.p 0 1 = w) ∧
      (∃ (s u : State) (q : Sub), s.takes q Op.keyRotate u ∧ u.keep.updates.any (·.region == 9) = true ∧ q.p 0 1 = w)) ∧
    (∀ w ∈ [0, 1, 2], ∃ (s u v : State) (q : Sub) (h : Nat), s.takes q Op.keyRotate u ∧ u.removable = false ∧
      u.keep.updates.any (·.region == 9) = false ∧ u.isWorn 9 = false ∧ u.accept q = (v, h) ∧ q.p 0 1 = w) ∧
    (allZero (sha3_256 (Machine.sub hello 1216 1312)) = false → ∀ b : Bool,
      Config.mldsaVerify (Machine.sub hello 1216 1312) (sha3_256 (Machine.sub hello 0 2528 ++ natLE 2 0)) (Machine.sub hello 2528 2420) = b →
      ∃ (msg pub : Bytes) (s : State), s.alive = true ∧ s.openFrom 2 = true ∧ s.sec.sessKey = some pub ∧ msg.length = 4948 ∧
        s.operatorKnown (Machine.sub msg 1216 1312) = true ∧ Config.mldsaVerify (Machine.sub msg 1216 1312) (sha3_256
          (Machine.sub msg 0 2528 ++ natLE 2 s.nodeId)) (Machine.sub msg 2528 2420) = b ∧ s.cmd.sessions.length < 8) ∧
    (∃ (msg : Bytes) (s : State), s.alive = true ∧ s.openFrom 2 = true ∧ msg.length ≠ 4948) ∧
    (∃ s : State, s.alive = true ∧ s.openFrom 2 = true ∧ s.sec.sessKey = none) ∧
    (∃ s : State, s.alive = true ∧ s.openFrom 2 = true ∧ 8 ≤ s.cmd.sessions.length) ∧
    (∃ s : State, s.alive = false) ∧ (∃ s : State, s.openFrom 2 = false) ∧
    (∀ r ∈ [2 ^ 32, 0], ∃ (sid : Nat) (s : State) (x : Session), s.cmd.sessions.find? (·.sid == sid) = some x ∧
      (2 ^ 32 ≤ x.received ∨ 2 ^ 32 ≤ x.sent)) ∧
    (∃ (sid : Nat) (s : State), s.cmd.sessions.find? (·.sid == sid) = none) ∧
    (∃ (sid counter client : Nat) (auth : Bool) (s u : State), s.datagram sid counter client auth = (u, true)) ∧
    (∃ (sid counter client : Nat) (auth : Bool) (s u : State), s.datagram sid counter client auth = (u, false)) ∧
    (∃ (sid counter : Nat) (s : State) (x : Session), s.cmd.sessions.find? (·.sid == sid) = some x ∧ x.received < 2 ^ 32 ∧
      x.sent < 2 ^ 32 ∧ s.alive = true ∧ x.admits counter = true) ∧
    (∃ (sid counter : Nat) (s : State) (x : Session), s.cmd.sessions.find? (·.sid == sid) = some x ∧ x.received < 2 ^ 32 ∧
      x.sent < 2 ^ 32 ∧ x.admits counter = false) ∧
    (∀ n ∈ [49, 50], ∃ (k : Nat) (s : State) (r : MgmtRecord), s.cmd.mgmt[k]? = some r ∧ r.sends = n) ∧
    (∃ (k : Nat) (s : State), s.cmd.mgmt[k]? = none) := by
  have ⟨u1, h1⟩ := pair_of ((inSession).datagram 5 1 0 true) true (by decide +kernel)
  have ⟨u2, h2⟩ := pair_of ((inSession).datagram 5 1024 0 true) false (by decide +kernel)
  refine ⟨⟨lengthCmd 1, _, _, 4096, 4097, gated_takes _ _ _ rfl (by decide +kernel), by decide +kernel⟩,
    ⟨{ lengthCmd 1 with sec := staged.sec }, _, _, 4096, 4097, ⟨_, ⟨rfl, rfl, by decide +kernel⟩, rfl⟩, by decide +kernel⟩,
    ⟨(lengthCmd 1).wr F.PANEL_STATUS_REQUEST 2, _, _, 4096, 4097, ⟨_, ⟨rfl, rfl, by decide +kernel⟩, rfl⟩, by decide +kernel⟩,
    ⟨{ lengthCmd 1 with keep := (wornOut 6).keep }, _, _, 4096, 4097, ⟨_, ⟨rfl, rfl, by decide +kernel⟩, rfl⟩, by decide +kernel⟩,
    ⟨{ stageCmd 33554368 with poison := [512] }, _, _, _, 4096, 33554368, _, ⟨_, ⟨rfl, rfl, by decide +kernel⟩, rfl⟩,
      by decide +kernel, by decide +kernel, by decide +kernel, by decide +kernel,
      by decide +kernel, by decide +kernel, by decide +kernel, rfl, by decide +kernel, by decide +kernel, by decide +kernel, rfl⟩,
    fun k h => ⟨lengthCmd k, _, _, 4096, 4097, ⟨_, ⟨rfl, rfl, by decide +kernel⟩, rfl⟩, by decide +kernel, by decide +kernel,
      by decide +kernel, by decide +kernel, by decide +kernel, by decide +kernel,
      ?_, rfl, ?_, ?_, ?_, ?_⟩,
    ⟨gated timed (sub0 Op.fwStage [2]), _, _, gated_takes _ _ _ rfl (by decide +kernel), by decide +kernel⟩, ⟨gated timed ⟨.tray,
      0, Op.fwStage, false, 7, 0, [0], false⟩, _, _, gated_takes _ _ _ rfl (by decide +kernel), by decide +kernel⟩,
    ⟨stageCmd 4096, _, _, gated_takes _ _ _ rfl (by decide +kernel), by decide +kernel⟩, ⟨stageCmd 33554369, _, _,
      gated_takes _ _ _ rfl (by decide +kernel), by decide +kernel⟩,
    ⟨gated timed (sub0 Op.fwStage (zeros 8 ++ natLE 8 0xE00000000000 ++ natLE 8 4097)), _, _,
      gated_takes _ _ _ rfl (by decide +kernel), by decide +kernel⟩,
    ⟨timed, _, sub0 Op.fwStage [], _, [], rfl, by decide +kernel⟩,
    fun f h => ⟨{ timed with sec := { timed.sec with fuses := f } }, _, sub0 Op.fwStage [], _, [], rfl, ?_⟩,
    fun l h => ⟨gated timed (trayPiece 0 l (zeros (if l = 0 then 3860 else 4096))), _, _, gated_takes _ _ _ rfl ?_, ?_⟩,
    ⟨gated timed (trayPiece 0 2 []), _, _, gated_takes _ _ _ rfl (by decide +kernel), by decide +kernel⟩,
      ⟨gated timed (trayPiece 0 0 []), _, _, gated_takes _ _ _ rfl (by decide +kernel), by decide +kernel⟩,
    ⟨gated timed (trayPiece 0 0 (zeros 3859)), _, _, gated_takes _ _ _ rfl (by decide +kernel), by decide +kernel⟩,
    fun x h => ⟨gated (restaged x) (trayPiece 0 0 (zeros 3860)), _, _, _, _, gated_takes _ _ _ rfl (by decide +kernel),
      by decide +kernel, by decide +kernel, rfl, rfl, by decide +kernel, by decide +kernel,
      by decide +kernel, by decide +kernel, ?_, ?_, ?_, ?_⟩,
    ⟨gated timed (trayPiece 4096 0 []), _, _, gated_takes _ _ _ rfl (by decide +kernel), by decide +kernel⟩,
    ⟨gated staged (trayPiece 4096 1 (zeros 4096)), _, _, _, _, _, _, gated_takes _ _ _ rfl (by decide +kernel), by decide +kernel,
      by decide +kernel, by decide +kernel, by decide +kernel, rfl, rfl, rfl, by decide +kernel, by decide +kernel, rfl,
      by decide +kernel, by decide +kernel, by decide +kernel, rfl⟩,
    fun ph h => ⟨{ timed with sec := { timed.sec with staging := some ⟨.tray, none, false, 1, [], ph⟩ } }, _, rfl, rfl⟩,
    fun n h => ⟨gated timed (sub0 Op.identityRead (natLE 1 n)), _, _, gated_takes _ _ _ rfl ?_, ?_⟩,
    ⟨gated timed (sub0 Op.attest (zeros 32 ++ natLE 8 4096)), _, _, 0, gated_takes _ _ _ rfl (by decide +kernel), rfl,
      by decide +kernel⟩,
    ⟨gated timed (sub0 Op.attest (zeros 32 ++ natLE 8 1)), _, _, 0, gated_takes _ _ _ rfl (by decide +kernel), rfl, by decide +kernel⟩,
    ⟨gated timed (sub0 Op.attest (zeros 32 ++ natLE 8 0xE00000000000)), _, _, 0, gated_takes _ _ _ rfl (by decide +kernel), rfl,
      by decide +kernel⟩,
    fun a h => ⟨gated timed ⟨.tray, 0, Op.attest, false, 7, 0, zeros 32 ++ natLE 8 a, false⟩, _, _, gated_takes _ _ _ rfl ?_,
      fun c h => Chan.noConfusion h, ?_⟩,
    fun w h => ⟨gated (wornOut 9) (sub0 Op.keyRotate (natLE 1 w)), _, _, gated_takes _ _ _ rfl ?_, ?_⟩,
    fun w h => ⟨⟨gated (timed.wr F.PANEL_STATUS_REQUEST 2) (sub0 Op.keyRotate (natLE 1 w)), _, _, gated_takes _ _ _ rfl ?_, ?_⟩,
      ⟨gated { timed with keep := { timed.keep with updates := [⟨9, [], 1, .none⟩] } } (sub0 Op.keyRotate (natLE 1 w)), _, _,
        gated_takes _ _ _ rfl ?_, ?_⟩⟩,
    fun w h => ⟨gated timed (sub0 Op.keyRotate (natLE 1 w)), _, _, _, _, gated_takes _ _ _ rfl ?_, ?_, ?_, ?_, rfl, ?_⟩,
    fun hz b hb => ⟨hello, [], knowing (sha3_256 (Machine.sub hello 1216 1312)), rfl, by decide +kernel, rfl, by decide +kernel,
      ?_, ?_, by decide +kernel⟩,
    ⟨[], timed, rfl, by decide +kernel, by decide⟩, ⟨timed, rfl, by decide +kernel, rfl⟩,
    ⟨{ timed with cmd := { timed.cmd with sessions := List.replicate 8 session0 } }, by decide +kernel⟩,
    ⟨{ timed with boot := { timed.boot with failed := true } }, rfl⟩, ⟨inStage 1, by decide +kernel⟩,
    fun r h => ⟨5, { timed with cmd := { timed.cmd with sessions := [⟨5, none, [], 0, r, 2 ^ 32 - r⟩] } }, _, rfl, by revert r; decide⟩,
    ⟨5, timed, rfl⟩,
    ⟨5, 1, 0, true, inSession, u1, h1⟩, ⟨5, 1024, 0, true, inSession, u2, h2⟩,
    ⟨5, 1, inSession, session0, by decide +kernel⟩, ⟨5, 0, inSession, session0, by decide +kernel⟩,
    fun n h => ⟨0, { timed with cmd := { timed.cmd with mgmt := [⟨5, [], n⟩] } }, _, rfl, rfl⟩, ⟨0, timed, rfl⟩⟩
  iterate 5 (revert k; decide +kernel)
  · revert f; decide +kernel
  · revert l; decide +kernel
  · revert l; decide +kernel
  iterate 4 (revert x; decide +kernel)
  · revert n; decide +kernel
  · revert n; decide +kernel
  · revert a; decide +kernel
  · revert a; decide +kernel
  all_goals try (revert w; decide +kernel)
  · have hd : ∀ d, (knowing d).keepData 9 = d := fun d => rfl
    refine List.any_eq_true.mpr ⟨0, by decide, ?_⟩
    have hs := sub_self _ (sha3_length (Machine.sub hello 1216 1312))
    show (Machine.sub ((knowing _).keepData 9) (32 * 0) 32 == sha3_256 _ && !allZero (sha3_256 _)) = true
    rw [hd, Nat.mul_zero, hs, hz]
    simp
  · have hn : ∀ d, (knowing d).nodeId = 0 := fun d => show timed.nodeId = 0 by decide +kernel
    rw [hn]
    exact hb

/-! ## The management port, the tray, bring-up and resets -/

/-- A state in which the Gatehouse has lost power, and one with the management link up. -/
def unpowered (s : State) : State := { s with boot := { s.boot with failed := true } }
def mgmtUp : State := timed.wr F.PANEL_MGMT_LINK_UP 1
/-- The tray target has its address, and a reply. -/
def traying (sel : Nat) (reply : Bytes) : State :=
  { timed.wr F.PANEL_TSB_ADDR_VALID 1 with cmd := { timed.cmd with traySelect := sel, trayReply := reply } }

theorem witness_ManagementPortAndTray :
    (∃ (pfx : Bytes) (len : Fin 129) (auto : Bool) (life : BitVec 32) (s : State), s.alive = true ∧
      s.rd F.PANEL_MGMT_LINK_UP = 1 ∧ s.rd F.PANEL_MGMT_STATIC = 0 ∧ s.rd F.PANEL_MGMT_ADDR_VALID = 0 ∧ auto = true ∧
      len.val = 64 ∧ life ≠ 0 ∧ (fld pfx 0 1 ≠ 0xFE ∨ fld pfx 1 1 / 64 ≠ 2)) ∧
    (∃ (len : Fin 129) (s : State), s.alive = true ∧ s.rd F.PANEL_MGMT_LINK_UP = 1 ∧ s.rd F.PANEL_MGMT_STATIC = 0 ∧
      s.rd F.PANEL_MGMT_ADDR_VALID = 0 ∧ len.val ≠ 64) ∧
    (∀ x ∈ [(false, 64, 1), (true, 64, 0)], ∃ (len : Fin 129) (life : BitVec 32) (s : State), s.alive = true ∧
      s.rd F.PANEL_MGMT_LINK_UP = 1 ∧ s.rd F.PANEL_MGMT_STATIC = 0 ∧ s.rd F.PANEL_MGMT_ADDR_VALID = 0 ∧ len.val = x.2.1 ∧
      life.toNat = x.2.2) ∧
    (∃ pfx : Bytes, fld pfx 0 1 = 0xFE ∧ fld pfx 1 1 / 64 = 2) ∧
    (∃ s : State, s.rd F.PANEL_MGMT_STATIC = 1) ∧ (∃ s : State, s.rd F.PANEL_MGMT_LINK_UP = 0) ∧
    (∃ s : State, s.rd F.PANEL_MGMT_ADDR_VALID = 1) ∧ (∃ (dst : Bytes) (s : State), s.ownAddr dst = false) ∧
    (∃ (st : Fin 128) (s : State), s.alive = true ∧ st.val ≠ 0x30 + s.panel.strap) ∧
    (∃ s : State, s.trayOpen = false) ∧
    (∃ s : State, s.alive = true ∧ s.rd F.PANEL_TSB_ADDR_VALID = 1 ∧ s.trayOpen = true ∧ s.cmd.traySelect = 1 ∧ s.cmd.trayReply = []) ∧
    (∃ s : State, s.alive = true ∧ s.rd F.PANEL_TSB_ADDR_VALID = 1 ∧ s.trayOpen = true ∧ s.cmd.traySelect ≠ 1 ∧
      s.cmd.traySelect ≠ 2) ∧
    (∃ (s : State) (r : Bytes), s.alive = true ∧ s.rd F.PANEL_TSB_ADDR_VALID = 1 ∧ s.trayOpen = true ∧ s.cmd.trayReply = [] ∧
      r = mkReply 0 0 0 0 0 0 []) ∧
    (∃ (dst : Bytes) (s : State), s.alive = true ∧ s.rd F.PANEL_MGMT_LINK_UP = 1 ∧ s.ownAddr dst = true) ∧
    (∃ s : State, s.alive = true ∧ s.rd F.PANEL_MGMT_LINK_UP = 0) ∧
    (∃ (st : Fin 128) (s : State), s.alive = true ∧ s.rd F.PANEL_TSB_ADDR_VALID = 0 ∧ st.val = 0x30 + s.panel.strap) ∧
    (∃ (e : Fin 256) (s : State), s.alive = true ∧ s.rd F.PANEL_TSB_ADDR_VALID = 1 ∧ bit e 0 = true ∧ s.trayOpen = true) ∧
    (∃ (e : Fin 256) (s : State), s.alive = true ∧ s.rd F.PANEL_TSB_ADDR_VALID = 1 ∧ bit e 0 = false) ∧
    (∃ s : State, s.alive = false) ∧
    (∃ s : State, s.alive = true ∧ s.rd F.PANEL_TSB_ADDR_VALID = 1 ∧ s.trayOpen = true ∧ s.cmd.traySelect = 1 ∧ s.cmd.trayReply ≠ []) ∧
    (∀ k ∈ [(63 : Fin 65), 64], ∃ s : State, s.alive = true ∧ s.rd F.PANEL_TSB_ADDR_VALID = 1 ∧ s.trayOpen = true ∧
      s.cmd.traySelect = 2 ∧ min k.val s.panel.mrl = k) ∧
    (∀ b ∈ [0, 1], ∃ (r : Bytes) (s : State), s.alive = true ∧ s.rd F.PANEL_TSB_ADDR_VALID = 1 ∧ s.trayOpen = true ∧
      s.cmd.trayReply ≠ [] ∧ r = s.cmd.trayReply ∧ fld r 3 1 = b) := by
  refine ⟨⟨zeros 16, 64, true, 1, mgmtUp, by decide +kernel⟩, ⟨63, mgmtUp, by decide +kernel⟩,
    fun x h => ⟨64, BitVec.ofNat 32 x.2.2, mgmtUp, by decide +kernel, by decide +kernel, by decide +kernel, by decide +kernel, ?_, ?_⟩,
    ⟨[0xFE, 0x80], by decide +kernel⟩,
    ⟨timed.wr F.PANEL_MGMT_STATIC 1, by decide +kernel⟩, ⟨timed, by decide +kernel⟩, ⟨timed.wr F.PANEL_MGMT_ADDR_VALID 1,
      by decide +kernel⟩, ⟨[], timed, by decide +kernel⟩,
    ⟨0, timed, by decide +kernel⟩, ⟨unpowered timed, rfl⟩, ⟨traying 1 [], by decide +kernel⟩, ⟨traying 0 [], by decide +kernel⟩,
    ⟨traying 0 [], _, by decide +kernel, by decide +kernel, by decide +kernel, rfl, rfl⟩, ⟨mgmtUp.getAddr R.PANEL_MGMT_LL, mgmtUp,
      rfl, by decide +kernel, ?_⟩,
    ⟨timed, by decide +kernel⟩, ⟨0x30, timed, by decide +kernel⟩, ⟨1, traying 0 [], by decide +kernel⟩,
    ⟨254, traying 0 [], by decide +kernel⟩, ⟨unpowered timed, rfl⟩, ⟨traying 1 [1], by decide +kernel⟩,
    fun k h => ⟨traying 2 [], ?_⟩, fun b h => ⟨_, traying 0 [0, 0, 0, BitVec.ofNat 8 b], ?_, ?_, ?_, ?_, rfl, ?_⟩⟩
  · revert x; decide
  · revert x; decide
  · simp [State.ownAddr]
  · revert k; decide +kernel
  all_goals revert b; decide +kernel

/-- READ_STAGE_REPORTS of the nth earlier bring-up's stage, with one record stored, of bring-up c. -/
def reportsOf (n stage c : Nat) : State :=
  gated { timed with boot := { timed.boot with appended := true }, keep := { timed.keep with
    regions := [(4, ⟨[], 0, 0, [(0, natLE 8 c ++ zeros 504)], 1⟩)], bringups := 2 } }
    (sub0 Op.readStageReports (natLE 1 n ++ natLE 1 stage))

theorem witness_BringUpStages :
    (∃ (k : Fin 11) (s : State), s.stageRuns k = false) ∧ (∀ k : Fin 11, ∃ s : State, s.stageRuns k = true) ∧
    (∃ s : State, s.stageRuns 7 = true ∧ ∀ p, p < 10 → s.portState p ≠ Port.train) ∧
    (∀ k : Fin 11, ∃ s : State, s.rd F.NODE_STAGE_STAGE = k ∧ s.stageRuns k = true) ∧
    (∃ s : State, s.stageRuns (s.rd F.NODE_STAGE_STAGE) = false) ∧
    (∀ b ∈ [false, true], ∃ (s v : State) (k st e d m : Nat), k = 5 ∧ v = (s.report k 2 st e d m).appendBringup ∧
      v.flag F.NODE_STAGE_RETRIED = b) ∧
    (∃ s : State, s.stageRuns 7 = true ∧ ∃ p, p < 10 ∧ s.portState p = Port.train) ∧
    (∃ (s : State) (f0 f1 g0 g1 : Nat), g0 = s.goodMask 0 f0 ∧ g1 = s.goodMask 1 f1 ∧ popcount g0 160 < 144) ∧
    (∃ (s : State) (f0 f1 g0 g1 : Nat), g0 = s.goodMask 0 f0 ∧ g1 = s.goodMask 1 f1 ∧ popcount g1 160 < 144 ∧
      144 ≤ popcount g0 160) ∧
    (∃ s : State, s.keep.damaged.contains 1 = true) ∧ (∃ s : State, (s.region 1).data = []) ∧
    (∃ (m : Nat), m % 2 ^ 24 = 0) ∧
    (∃ (s u : State) (q : Sub), s.takes q Op.readStageReports u ∧ 11 < q.p 1 1) ∧
    (∃ (s u : State) (q : Sub), s.takes q Op.readStageReports u ∧ q.p 1 1 ≤ 11 ∧ q.p 0 1 = 0) ∧
    (∀ c ∈ [1, 2], ∃ (s u : State) (q : Sub) (recs : List Bytes) (r0 : Bytes), s.takes q Op.readStageReports u ∧
      u.boot.appended = true ∧
      recs = (u.region 4).recs.map (·.2) ∧ q.p 1 1 ≤ 11 ∧ q.p 0 1 ≠ 0 ∧ u.keep.damaged.contains 4 = false ∧
      recs.head? = some r0 ∧ recs[(if u.boot.appended = true ∧ fld r0 0 8 = u.keep.bringups then q.p 0 1 else
        q.p 0 1 - 1)]? = (if c = 1 then some r0 else none)) ∧
    (∃ (s u : State) (q : Sub), s.takes q Op.readStageReports u ∧ q.p 1 1 ≤ 11 ∧ q.p 0 1 ≠ 0 ∧
      u.keep.damaged.contains 4 = false ∧ (u.region 4).recs = []) ∧
    (∃ (s u : State) (q : Sub), s.takes q Op.readStageReports u ∧ q.p 1 1 ≤ 11 ∧ q.p 0 1 ≠ 0 ∧
      u.keep.damaged.contains 4 = true) := by
  refine ⟨⟨0, up, by decide +kernel⟩, fun k => ⟨inStage k, ?_⟩, ⟨inStage 7, by decide +kernel⟩, fun k => ⟨inStage k, ?_⟩,
    ⟨up, by decide +kernel⟩, fun b h => ⟨(inStage 5).wr F.NODE_STAGE_RETRIED (b2n b), _, 5, 0, 0, 0, 0, rfl, rfl, ?_⟩,
    ⟨(inStage 7).setPort 9 Port.train, by decide +kernel, 9, by decide, by decide +kernel⟩,
    ⟨timed, 2 ^ 143 - 1, 2 ^ 160 - 1, _, _, rfl, rfl, by decide +kernel⟩, ⟨timed, 2 ^ 144 - 1, 2 ^ 143 - 1, _, _, rfl, rfl,
      by decide +kernel⟩,
    ⟨{ timed with keep := { timed.keep with damaged := [1] } }, rfl⟩, ⟨timed, rfl⟩,
    ⟨2 ^ 24, by decide⟩, ⟨reportsOf 0 12 1, _, _, gated_takes _ _ _ rfl (by decide +kernel), by decide +kernel⟩,
    ⟨reportsOf 0 11 1, _, _, gated_takes _ _ _ rfl (by decide +kernel), by decide +kernel⟩,
    fun c h => ⟨reportsOf 1 11 c, _, _, _, natLE 8 c ++ zeros 504, gated_takes _ _ _ rfl (by decide +kernel), rfl, rfl, ?_⟩,
    ⟨gated timed (sub0 Op.readStageReports [1]), _, _, gated_takes _ _ _ rfl (by decide +kernel), by decide +kernel, by decide +kernel, rfl,
      rfl⟩,
    ⟨gated { timed with keep := { timed.keep with damaged := [4] } } (sub0 Op.readStageReports [1]), _, _,
      gated_takes _ _ _ rfl (by decide +kernel), by decide +kernel, by decide +kernel, rfl⟩⟩
  · revert k; decide +kernel
  · revert k; decide +kernel
  · revert b; decide +kernel
  · revert c; decide +kernel

/-- RESET_SCOPE of a scope and index. -/
def resetCmd (s : State) (scope i : Nat) : State := gated s (sub0 Op.resetScope (natLE 1 scope ++ natLE 1 i))
/-- Terrace 15 is powered. -/
def powered15 : State := timed.wr F.NODE_TERRACE_PWR_POWERED 0x8000
def presetting (scope : Nat) : State := { timed with preset := some ⟨scope, 0, [0], [0]⟩ }

theorem witness_ResetsAndActivation :
    (∃ (s u : State) (q : Sub) (i : Nat), s.takes q Op.resetScope u ∧ i = q.p 1 1 ∧ u.ready = true ∧ u.preset = none ∧
      u.flag F.NODE_PROFILE_SWITCHING = false ∧ q.p 0 1 = 0 ∧ i ≤ 15 ∧ u.powered i = true ∧ bit (u.rd F.AGE_STATUS_RETIRED) i = false) ∧
    (∃ (s u : State) (q : Sub) (i : Nat), s.takes q Op.resetScope u ∧ i = q.p 1 1 ∧ u.ready = true ∧ u.preset = none ∧
      u.flag F.NODE_PROFILE_SWITCHING = false ∧ q.p 0 1 = 0 ∧ i ≤ 15 ∧ u.powered i = false) ∧
    (∃ (s u : State) (q : Sub) (i : Nat), s.takes q Op.resetScope u ∧ i = q.p 1 1 ∧ u.ready = true ∧ u.preset = none ∧
      u.flag F.NODE_PROFILE_SWITCHING = false ∧ q.p 0 1 = 0 ∧ i ≤ 15 ∧ bit (u.rd F.AGE_STATUS_RETIRED) i = true) ∧
    (∀ scope ∈ [0, 1, 2], (∃ (s u : State) (q : Sub), s.takes q Op.resetScope u ∧ u.ready = false ∧ q.p 0 1 = scope ∧ q.p 1 1 = 0) ∧
      (∃ (s u : State) (q : Sub), s.takes q Op.resetScope u ∧ u.flag F.NODE_PROFILE_SWITCHING = true ∧ q.p 0 1 = scope ∧
        q.p 1 1 = 0)) ∧
    (∃ s : State, s.sealed = true) ∧ (∃ s : State, s.sealed = false) ∧
    (∀ scope ∈ [1, 2], ∃ (s u : State) (q : Sub), s.takes q Op.resetScope u ∧ u.ready = true ∧ u.preset = none ∧
      u.flag F.NODE_PROFILE_SWITCHING = false ∧ q.p 0 1 = scope ∧ q.p 1 1 = 0 ∧ u.sealed = false) ∧
    (∃ (s u : State) (q : Sub), s.takes q Op.resetScope u ∧ u.ready = true ∧ u.preset = none ∧
      u.flag F.NODE_PROFILE_SWITCHING = false ∧ q.p 0 1 = 1 ∧ q.p 1 1 ≤ 1 ∧ u.sealed = true) ∧
    (∃ (s u : State) (q : Sub), s.takes q Op.resetScope u ∧ u.preset ≠ none ∧ q.p 0 1 = 0 ∧ q.p 1 1 ≤ 15) ∧
    (∀ x ∈ [(4, 0), (0, 16), (1, 2), (2, 1), (3, 0), (3, 1)], ∃ (s u : State) (q : Sub), s.takes q Op.resetScope u ∧
      q.p 0 1 = x.1 ∧ q.p 1 1 = x.2) ∧
    (∃ t : Nat, t < 16) ∧ (∃ s : State, s.preset = none) ∧
    (∀ sc ∈ [0, 2], ∃ (s : State) (p : PartialReset), s.preset = some p ∧ p.scope = sc) ∧
    (∀ w ∈ [0, 1], ∃ (s u : State) (q : Sub), s.takes q Op.fwActivate u ∧ u.fwActivateCheck (q.p 0 1) (q.p 1 1) = St.ok ∧ q.p 1 1 = w) ∧
    (∃ (s u : State) (q : Sub), s.takes q Op.fwActivate u ∧ u.fwActivateCheck (q.p 0 1) (q.p 1 1) ≠ St.ok) ∧
    (∃ s : State, s.alive = true) ∧ (∃ s : State, s.alive = false) := by
  refine ⟨⟨resetCmd powered15 0 15, _, _, 15, gated_takes _ _ _ rfl (by decide +kernel), by decide +kernel⟩,
    ⟨resetCmd timed 0 15, _, _, 15, gated_takes _ _ _ rfl (by decide +kernel), by decide +kernel⟩,
    ⟨resetCmd (timed.wr F.AGE_STATUS_RETIRED 0x8000) 0 15, _, _, 15, gated_takes _ _ _ rfl (by decide +kernel), by decide +kernel⟩,
    fun sc h => ⟨⟨resetCmd (inStage 3) sc 0, _, _, gated_takes _ _ _ rfl ?_, ?_⟩,
      ⟨resetCmd (timed.wr F.NODE_PROFILE_SWITCHING 1) sc 0, _, _, gated_takes _ _ _ rfl ?_, ?_⟩⟩,
    ⟨timed.wr F.NODE_PROFILE_ACTIVE 2, by decide +kernel⟩, ⟨timed, by decide +kernel⟩,
    fun sc h => ⟨resetCmd timed sc 0, _, _, gated_takes _ _ _ rfl ?_, ?_⟩,
    ⟨resetCmd (timed.wr F.NODE_PROFILE_ACTIVE 2) 1 1, _, _, gated_takes _ _ _ rfl (by decide +kernel), by decide +kernel⟩,
    ⟨resetCmd (presetting 0) 0 15, _, _, gated_takes _ _ _ rfl (by decide +kernel), by decide +kernel⟩,
    fun x h => ⟨resetCmd timed x.1 x.2, _, _, gated_takes _ _ _ rfl ?_, ?_⟩, ⟨15, by decide⟩, ⟨timed, rfl⟩,
    fun sc h => ⟨presetting sc, _, rfl, rfl⟩,
    fun w h => ⟨gated timed (sub0 Op.fwActivate (natLE 1 0 ++ natLE 1 w)), _, _, gated_takes _ _ _ rfl ?_, ?_⟩,
    ⟨gated timed (sub0 Op.fwActivate [2]), _, _, gated_takes _ _ _ rfl (by decide +kernel), by decide +kernel⟩,
    ⟨timed, rfl⟩, ⟨unpowered timed, rfl⟩⟩
  iterate 6 (revert sc; decide +kernel)
  · revert x; decide +kernel
  · revert x; decide +kernel
  all_goals revert w; decide +kernel

/-- Both feeds and MAIN_EN are up or down. -/
def fed (feeds main : Nat) : State :=
  ((timed.wr F.NODE_SUPPLY_FEED_A_OK feeds).wr F.NODE_SUPPLY_FEED_B_OK feeds).wr F.NODE_SUPPLY_MAIN_EN main

theorem witness_SupplyAndTemperature :
    (∃ s : State, s.alive = true ∧ s.flag F.NODE_SUPPLY_LOW = false) ∧ (∃ s : State, s.alive = true ∧ s.flag F.NODE_SUPPLY_LOW = true) ∧
    (∃ s : State, s.alive = true ∧ s.flag F.NODE_SUPPLY_FEED_A_OK = true ∧ s.flag F.NODE_SUPPLY_FEED_B_OK = true) ∧
    (∃ s : State, s.flag F.NODE_SUPPLY_FEED_A_OK = false ∧ s.flag F.NODE_SUPPLY_FEED_B_OK = false) ∧ (∃ s : State, s.alive = false) ∧
    (∃ s : State, s.boot.failed = true) ∧ (∃ s : State, s.boot.failed = false ∧ s.flag F.NODE_SUPPLY_FEED_B_OK = true) ∧
    (∃ s : State, s.flag F.NODE_SUPPLY_FEED_A_OK = false) ∧
    (∀ fell ∈ [true, false], ∃ s : State, s.alive = true ∧ s.flag F.NODE_SUPPLY_MAIN_EN = false ∧ s.boot.fell = fell) ∧
    (∀ sb ∈ [true, false], ∃ s : State, s.alive = true ∧ s.flag F.NODE_SUPPLY_MAIN_EN = true ∧ s.boot.standby = sb) ∧
    (∃ (t0 : BitVec 8) (s : State), s.alive = true ∧ s.boot.standby = false ∧ tripUnit (t0.toNat :: List.replicate 27 0) = some (0, 110)) ∧
    (∃ (t0 : BitVec 8) (s : State), s.alive = true ∧ s.boot.standby = false ∧ tripUnit (t0.toNat :: List.replicate 27 0) = none ∧
      100 < t0.toNat) ∧
    (∃ (t0 : BitVec 8) (s : State), s.alive = true ∧ s.boot.standby = false ∧ tripUnit (t0.toNat :: List.replicate 27 0) = none ∧
      t0.toNat ≤ 100) ∧
    (∃ s : State, s.boot.standby = true) ∧ 
    (∀ t ∈ [85, 86], ∀ old ∈ [85, 86], ∃ (s : State) (k : Nat), s.rd (F.MEM_STACK_TEMP_C k) = old ∧ s.age.plan = [] ∧ t ≤ 86) ∧
    (∃ s : State, s.age.plan ≠ []) ∧
    (∃ l : List Nat, tripUnit l = none) ∧ (∃ (l : List Nat) (u t : Nat), tripUnit l = some (u, t)) ∧
    (∃ s : State, s.flag F.NODE_THERMAL_BACKSTOP_ACTIVE = false) ∧
    (∃ s : State, s.flag F.NODE_THERMAL_BACKSTOP_ACTIVE = true ∧ s.rd F.NODE_THERMAL_TOWER0_C ≤ 97 ∧ s.rd F.NODE_THERMAL_TOWER1_C ≤ 97) ∧
    (∃ s : State, s.flag F.NODE_THERMAL_BACKSTOP_ACTIVE = true ∧ 97 < s.rd F.NODE_THERMAL_TOWER1_C) := by
  refine ⟨⟨timed, by decide +kernel⟩, ⟨timed.wr F.NODE_SUPPLY_LOW 1, by decide +kernel⟩, ⟨fed 1 1, by decide +kernel⟩,
    ⟨fed 0 0, by decide +kernel⟩, ⟨unpowered timed, rfl⟩, ⟨unpowered timed, rfl⟩, ⟨fed 1 1, by decide +kernel⟩, ⟨fed 0 0,
      by decide +kernel⟩,
    fun b h => ⟨{ fed 1 0 with boot := { timed.boot with fell := b } }, ?_⟩,
    fun b h => ⟨{ fed 1 1 with boot := { timed.boot with standby := b } }, ?_⟩, ⟨110, timed, by decide +kernel⟩,
    ⟨109, timed, by decide +kernel⟩, ⟨100, timed, by decide +kernel⟩, ⟨State.reset, rfl⟩, 
    fun t h o k => ⟨timed.wr (F.MEM_STACK_TEMP_C 7) o, 7, ?_⟩,
    ⟨{ timed with age := { timed.age with plan := [0] } }, by decide⟩, ⟨[], by decide +kernel⟩, ⟨[110], 0, 110,
      by decide +kernel⟩, ⟨timed, by decide +kernel⟩,
    ⟨(timed.wr F.NODE_THERMAL_BACKSTOP_ACTIVE 1).wr F.NODE_THERMAL_TOWER1_C 97, by decide +kernel⟩,
    ⟨(timed.wr F.NODE_THERMAL_BACKSTOP_ACTIVE 1).wr F.NODE_THERMAL_TOWER1_C 98, by decide +kernel⟩⟩
  · revert b; decide +kernel
  · revert b; decide +kernel
  · revert o t; decide +kernel

/-! ## Recording, replay, and the command channels -/

/-- RECORD_START of classes over a ring of n bytes at the start of Deep memory. -/
def recordCmd (s : State) (classes n : Nat) : State :=
  gated s (sub0 Op.recordStart (natLE 1 classes ++ zeros 7 ++ natLE 8 0x10000000000 ++ natLE 8 n))

/-- A ring whose first record is the STEP record of step 3. -/
def ringed : State := (withJob timed).rawWrite 0x10000000000 (zeros 8 ++ [1, 0, 8, 0] ++ zeros 4 ++ natLE 8 3 ++ zeros 8)
def replayCmd (s : State) (fromStep : Nat) : State :=
  gated s (sub0 Op.replay (natLE 8 fromStep ++ natLE 8 0x10000000000 ++ natLE 8 (2 ^ 24)))

/-- A replay from step 4 whose next record is a COMMAND of channel 0, a NODE_INFO, or of another opcode. -/
def cmdRecord (op : Nat) : Bytes :=
  natLE 8 (4 * 2 ^ 24) ++ [3, 0, 72, 0] ++ zeros 4 ++ zeros 8 ++ [0x53, 0x4C, 1, 0] ++ natLE 2 op ++ zeros 58 ++ zeros 8
def replaying (op : Nat) : State :=
  { timed.setNow (5 * 2 ^ 24) 0 with check := { timed.check with replay := some ⟨5, 4, some 4, [cmdRecord op], false, []⟩ } }

theorem witness_RecordingAndReplay :
    (∃ (s u : State) (q : Sub) (c base len : Nat), s.takes q Op.recordStart u ∧ c = q.p 0 1 ∧ base = q.p 8 8 ∧ len = q.p 16 8 ∧
      c = 0) ∧
    (∀ adm ∈ [true, false], ∃ (s u : State) (q : Sub) (c base len : Nat), s.takes q Op.recordStart u ∧ c = q.p 0 1 ∧ base = q.p 8 8 ∧
      len = q.p 16 8 ∧ 1 ≤ c ∧ c ≤ 7 ∧ base % 65536 = 0 ∧ len % 65536 = 0 ∧ 2 ^ 24 ≤ len ∧ len ≤ 2 ^ 36 ∧
      inDeep base len = true ∧ u.ringOverlaps base len = false ∧ u.rd F.NODE_REC_STATUS_STATE ≠ 1 ∧
      u.check.recorder.starting = none ∧ u.admitted = adm) ∧
    (∃ (s u : State) (q : Sub) (c : Nat), s.takes q Op.recordStart u ∧ c = q.p 0 1 ∧ 1 ≤ c ∧ c ≤ 7 ∧ q.p 16 8 = 2 ^ 36 ∧
      u.rd F.NODE_REC_STATUS_STATE = 1) ∧
    (∃ (s u : State) (q : Sub) (c : Nat), s.takes q Op.recordStart u ∧ c = q.p 0 1 ∧ 1 ≤ c ∧ c ≤ 7 ∧ q.p 16 8 = 2 ^ 36 ∧
      u.check.recorder.starting ≠ none) ∧
    (∀ x ∈ [(8, 2 ^ 24), (1, 2 ^ 24 + 1), (1, 2 ^ 24 - 65536), (1, 2 ^ 36 + 65536), (1, 2 ^ 42)], ∃ (s u : State) (q : Sub),
      s.takes q Op.recordStart u ∧ q.p 0 1 = x.1 ∧ q.p 16 8 = x.2) ∧
    (∃ c base len : Nat, c ≤ 7 ∧ base % 64 = 0 ∧ base < 2 ^ 46 ∧ len ≤ 2 ^ 36) ∧
    (∃ (s u : State) (q : Sub), s.takes q Op.recordStop u) ∧
    (∃ (s u : State) (q : Sub), s.takes q Op.replay u ∧ u.job = none) ∧
    (∃ (s u : State) (q : Sub), s.takes q Op.replay u ∧ u.ckptBusy = true) ∧
    (∃ (s u : State) (q : Sub), s.takes q Op.replay u ∧ u.check.replay ≠ none) ∧
    (∃ (s u : State) (q : Sub) (j : Job), s.takes q Op.replay u ∧ u.job = some j ∧ j.anyStep = true) ∧
    (∃ (s u : State) (q : Sub) (j : Job), s.takes q Op.replay u ∧ u.job = some j ∧ j.anyStep = false ∧ u.ckptBusy = false ∧
      u.check.replay = none ∧ q.p 16 8 < 2 ^ 24) ∧
    (∀ b ∈ [true, false], ∃ (s u : State) (q : Sub) (j : Job) (base len : Nat), s.takes q Op.replay u ∧ base = q.p 8 8 ∧
      len = q.p 16 8 ∧ u.job = some j ∧ j.anyStep = false ∧ u.ckptBusy = false ∧ u.check.replay = none ∧ base % 65536 = 0 ∧
      len % 65536 = 0 ∧ 2 ^ 24 ≤ len ∧ len ≤ 2 ^ 36 ∧ inDeep base len = true ∧ 1 ≤ q.p 0 8 ∧
      (u.recordsOf base len).any (fun r => isStepRec r (q.p 0 8 - 1)) = b ∧
      (((u.recordsOf base len).dropWhile (fun r => !isStepRec r (q.p 0 8 - 1))).drop 1).any
        (fun r => recKind r == 1 && q.p 0 8 ≤ fld r 16 8 && bit (recFlags r) 0) = false) ∧
    (∃ (s u : State) (q : Sub), s.takes q Op.replay u ∧ q.p 0 8 = 0) ∧
    (∃ (later : List Bytes) (n : Nat), later.any (fun r => recKind r == 1 && n ≤ fld r 16 8 && bit (recFlags r) 0) = true) ∧
    (∀ r ∈ [1, 2], ∃ w : State, w.rd F.NODE_REC_STATUS_STATE = r) ∧
    (∃ (s : State) (r : Replay), s.check.replay = some r ∧ r.liveStart = none) ∧
    (∃ (s : State) (r : Replay), s.check.replay = some r ∧
      r.records.find? (fun x => recKind x == 3 && r.fromStep ≤ recTime x / 2 ^ 24) = none) ∧
    (∃ (s : State) (r : Replay) (first : Nat) (x : Bytes), s.check.replay = some r ∧ r.liveStart = some first ∧
      r.records.find? (fun x => recKind x == 3 && r.fromStep ≤ recTime x / 2 ^ 24) = some x ∧
      s.reach (recTime x + 2 ^ 24 * (first - r.fromStep)) = none) ∧
    (∀ x ∈ [(Op.nodeInfo, St.ok), (0xFFFF, St.badOpcode)], ∃ (s u v : State) (r : Replay) (y p ps : Bytes) (first : Nat),
      s.check.replay = some r ∧ r.liveStart = some first ∧
      r.records.find? (fun x => recKind x == 3 && r.fromStep ≤ recTime x / 2 ^ 24) = some y ∧
      s.reach (recTime y + 2 ^ 24 * (first - r.fromStep)) = some u ∧
      v = { u with check := { u.check with replay := some { r with records := r.records.erase y } } } ∧
      p = Machine.sub (recBody y) 8 64 ∧ hdExt p = false ∧ ps = Machine.sub p 24 (hdLength p) ∧
      v.acceptCheck (chanOfCode (fld (recBody y) 0 1) v.nodeId) (match v.job with | some j => j.jobTag | none => 0) p ps false = x.2) ∧
    (∃ s : State, s.check.replay = none) ∧ (∃ (k : Nat) (s : State) (w : Twin), s.check.twins[k]? = some w) ∧
    (∃ (k : Nat) (s : State), s.check.twins[k]? = none) := by
  refine ⟨⟨recordCmd timed 0 (2 ^ 24), _, _, _, _, _, gated_takes _ _ _ rfl (by decide +kernel), rfl, rfl, rfl, by decide +kernel⟩,
    fun b h => ⟨recordCmd (if b then withJob timed else timed) 7 (2 ^ 36), _, _, _, _, _, gated_takes _ _ _ rfl ?_, rfl, rfl, rfl, ?_⟩,
    ⟨recordCmd (timed.wr F.NODE_REC_STATUS_STATE 1) 1 (2 ^ 36), _, _, _, gated_takes _ _ _ rfl (by decide +kernel), rfl, by decide +kernel⟩,
    ⟨recordCmd { timed with check := { timed.check with recorder := { timed.check.recorder with starting := some (1, 0, 0) } } } 1 (2 ^ 36),
      _, _, _, gated_takes _ _ _ rfl (by decide +kernel), rfl, by decide +kernel⟩,
    fun x h => ⟨recordCmd timed x.1 x.2, _, _, gated_takes _ _ _ rfl ?_, ?_⟩,
    ⟨7, 0, 2 ^ 36, by decide⟩, ⟨gated timed (sub0 Op.recordStop []), _, _, gated_takes _ _ _ rfl (by decide +kernel)⟩,
    ⟨replayCmd timed 4, _, _, gated_takes _ _ _ rfl (by decide +kernel), rfl⟩,
    ⟨replayCmd (draining 2) 4, _, _, gated_takes _ _ _ rfl (by decide +kernel), by decide +kernel⟩, ⟨replayCmd (replaying 0) 4, _,
      _, gated_takes _ _ _ rfl (by decide +kernel), by decide +kernel⟩,
    ⟨replayCmd admittingNow 4, _, _, _, gated_takes _ _ _ rfl (by decide +kernel), rfl, rfl⟩,
    ⟨gated ringed (sub0 Op.replay []), _, _, _, gated_takes _ _ _ rfl (by decide +kernel), rfl, rfl, by decide +kernel, rfl,
      by decide +kernel⟩,
    fun b h => ⟨replayCmd ringed (if b then 4 else 5), _, _, _, _, _, gated_takes _ _ _ rfl ?_, rfl, rfl, rfl, rfl, ?_⟩,
    ⟨replayCmd ringed 0, _, _, gated_takes _ _ _ rfl (by decide +kernel), by decide +kernel⟩, ⟨[zeros 8 ++ [1, 1] ++ zeros 14], 0,
      by decide +kernel⟩,
    fun r h => ⟨timed.wr F.NODE_REC_STATUS_STATE r, ?_⟩,
    ⟨{ timed with check := { timed.check with replay := some ⟨5, 4, none, [], false, []⟩ } }, _, rfl, rfl⟩,
    ⟨{ timed with check := { timed.check with replay := some ⟨5, 4, some 4, [], false, []⟩ } }, _, rfl, rfl⟩,
    ⟨{ timed with check := { timed.check with replay := some ⟨5, 4, some 4, [cmdRecord 0], false, []⟩ } }, _, 4, cmdRecord 0, rfl,
      rfl, by decide +kernel,
      by decide +kernel⟩,
    fun x h => ⟨replaying x.1, replaying x.1, _, _, cmdRecord x.1, _, _, 4, rfl, rfl, ?_, if_pos ?_, rfl, rfl, ?_, rfl, ?_⟩,
    ⟨timed, rfl⟩, ⟨0, { timed with check := { timed.check with twins := [⟨0, false, 0, 0, 0, 64, [1], 1, 0⟩] } }, _, rfl⟩,
    ⟨0, timed, rfl⟩⟩
  all_goals first | revert b | revert x | revert r
  all_goals decide +kernel

/-- A packet header: flags, opcode, parameter bytes inline, tag. -/
def pkt (flags op n tag : Nat) (ps : Bytes) : Bytes :=
  [0x53, 0x4C, 1] ++ natLE 1 flags ++ natLE 2 op ++ natLE 2 n ++ zeros 4 ++ natLE 4 tag ++ zeros 8 ++ ps ++ zeros (40 - ps.length)

/-- A long command that waits for its completion. -/
def longing : State := { timed with cmd := { timed.cmd with longs := [⟨5, .loc 0, Op.solve, 7, false, false⟩] } }
/-- Ring 0 has room for a record, or 256 records wait for it. -/
def roomy : State := (timed.wr (F.NODE_CMD_RING_CTRL_ENABLE 0) 1)
def fullRing : State := { timed with cmd := { timed.cmd with waiting := [(0, List.replicate 256 ([], false))] } }
/-- A session whose reply to tag 7 of a packet is kept. -/
def keptReply (r : Bytes) : State :=
  { inSession with cmd := { inSession.cmd with kept := [(5, 7, pkt 0 Op.nodeInfo 0 7 [], r)] } }

theorem witness_CommandsArriveAndReply :
    (∀ op ∈ [0xFFFF, Op.nodeInfo], ∃ p : Bytes, hdOpcode p = op ∧ Op.all.contains op = (op == Op.nodeInfo)) ∧
    (∃ (s : State) (chan : Chan) (tag : Nat) (p ps : Bytes), Op.all.contains (hdOpcode p) = true ∧
      s.channelCheck chan tag (hdOpcode p) (hdRemote p) ps ≠ St.ok) ∧
    (∀ b ∈ [true, false], ∃ (s : State) (chan : Chan) (tag : Nat) (p ps : Bytes), Op.all.contains (hdOpcode p) = true ∧
      s.channelCheck chan tag (hdOpcode p) (hdRemote p) ps = St.ok ∧ s.opcodeClosed (hdOpcode p) ps true = b ∧
      hdDeadline p = 0) ∧
    (∃ (s : State) (chan : Chan) (tag : Nat) (p ps : Bytes), Op.all.contains (hdOpcode p) = true ∧
      s.channelCheck chan tag (hdOpcode p) (hdRemote p) ps = St.ok ∧ s.opcodeClosed (hdOpcode p) ps true = false ∧
      hdDeadline p ≠ 0 ∧ usesDeadline (hdOpcode p) = false) ∧
    (∃ op : Nat, usesDeadline op = true) ∧
    (∃ (s : State) (chan : Chan) (p : Bytes) (st : Nat), (∀ c : Nat, chan ≠ .loc c) ∧ s.packetParams chan p = .inl st) ∧
    (∀ e ∈ [true, false], ∃ (s : State) (c : Nat) (p : Bytes), (s.packetParams (.loc c) p).isLeft = true ∧ hdExt p = e) ∧
    (∀ st ∈ [St.ok, St.notPrivileged, St.badOpcode], ∃ (s : State) (chan : Chan) (tag : Nat) (p ps : Bytes),
      s.packetParams chan p = .inr ps ∧ s.acceptCheck chan tag p ps true = st ∧ hdRemote p = false) ∧
    (∃ (s : State) (c tag : Nat) (p ps : Bytes), s.packetParams (.loc c) p = .inr ps ∧
      s.acceptCheck (.loc c) tag p ps true = St.ok ∧ hdRemote p = true) ∧
    (∃ (op : Nat) (ps : Bytes), privileged op ps = true) ∧
    (∀ op ∈ [Op.portRelease, Op.nodeInfo], ∃ (s : State) (q : Sub), s.cmd.gate = [q] ∧ q.opcode = op ∧
      reservedParams op q.params = true ∧ Op.longs.contains op = (op == Op.portRelease)) ∧
    (∃ q : Sub, q.silent = false) ∧ (∃ (s : State) (q : Sub), mget s.cmd.seqs q.chan.seqKey 0 = 0xFFFFFF) ∧
    (∃ (s : State) (q : Sub), mget s.cmd.seqs q.chan.seqKey 0 < 0xFFFFFF) ∧
    (∃ (s : State) (h : Nat) (l : LongCmd), s.cmd.longs.find? (fun l => l.handle == h) = some l ∧ l.silent = false) ∧
    (∃ (s : State) (h : Nat), s.cmd.longs.find? (fun l => l.handle == h) = none) ∧
    (∃ (s : State) (c : Nat), mget s.cmd.waiting c [] = [] ∧ s.ringRoom c = true) ∧
    (∃ (s : State) (c : Nat), mget s.cmd.waiting c [] = [] ∧ s.ringRoom c = false) ∧
    (∃ (s : State) (c : Nat), 256 ≤ (mget s.cmd.waiting c []).length) ∧
    (∀ r ∈ [[], [1]], ∃ (sid counter client : Nat) (auth : Bool) (p : Bytes) (s u : State),
      s.datagram sid counter client auth = (u, true) ∧ u.openFrom 2 = true ∧ u.boot.romHold = false ∧
      u.cmd.kept.find? (fun k => k.1 == sid && k.2.1 == hdTag p) = some (5, 7, p, r)) ∧
    (∃ (sid counter client : Nat) (auth : Bool) (p : Bytes) (s u : State), s.datagram sid counter client auth = (u, true) ∧
      u.openFrom 2 = true ∧ u.boot.romHold = false ∧ u.cmd.kept.find? (fun k => k.1 == sid && k.2.1 == hdTag p) = none) ∧
    (∃ (sid counter client : Nat) (auth : Bool) (p p' r : Bytes) (s u : State) (i t : Nat),
      s.datagram sid counter client auth = (u, true) ∧ u.openFrom 2 = true ∧ u.boot.romHold = false ∧
      u.cmd.kept.find? (fun k => k.1 == sid && k.2.1 == hdTag p) = some (i, t, p', r) ∧ p' ≠ p) ∧
    (∃ (sid counter client : Nat) (auth : Bool) (s u : State), s.datagram sid counter client auth = (u, false)) ∧
    (∃ u : State, u.openFrom 2 = false) ∧ (∃ u : State, u.boot.romHold = true) ∧
    (∃ s : State, s.alive = true ∧ s.ready = true) ∧ (∃ s : State, s.ready = false) ∧
    (∀ k ∈ [8, 9], ∃ (s u : State) (q : Sub), s.takes q Op.nodeInfo u ∧ q.p 0 1 = k) ∧
    (∃ (s u : State) (q : Sub), s.takes q Op.panelState u) := by
  have kr : ∀ r ∈ [[], [1]], ((keptReply r).datagram 5 1 0 true).2 = true := by decide +kernel
  have k2 : (inSession.datagram 5 1 0 true).2 = true := by decide +kernel
  have k3 : (inSession.datagram 5 1 0 false).2 = false := by decide +kernel
  refine ⟨fun op h => ⟨pkt 0 op 0 7 [], ?_⟩, ⟨timed, .loc 0, 0, pkt 0 Op.fwActivate 0 7 [], [], by decide +kernel⟩,
    fun b h => ⟨if b then inStage 3 else timed, .tray, 0, pkt 0 Op.setProfile 0 7 [], [], ?_⟩,
    ⟨timed, .tray, 0, [0x53, 0x4C, 1, 0] ++ natLE 2 Op.nodeInfo ++ zeros 10 ++ [1] ++ zeros 47, [], by decide +kernel⟩, ⟨Op.solve,
      by decide +kernel⟩,
    ⟨timed, .tray, [], St.badParam, fun c h => Chan.noConfusion h, rfl⟩,
    fun x h => ⟨timed, 0, zeros 3 ++ (if x then [1] else []), ?_⟩,
    fun st h => ⟨timed, .loc 0, 0, pkt 0 (if st = St.ok then Op.nodeInfo else if st = St.notPrivileged then Op.fwActivate else 0xFFFF) 0 7 [],
      [], ?_⟩,
    ⟨withJob roomy, 0, 0, [0x53, 0x4C, 1, 5] ++ natLE 2 0x0402 ++ zeros 58, [], by decide +kernel⟩,
    ⟨Op.fwActivate, [], by decide +kernel⟩,
    fun op h => ⟨gated timed (sub0 op [0, 0, 0, 0, 0, 0, 0, 0, 1]), _, rfl, rfl, ?_⟩, ⟨sub0 0 [], rfl⟩,
    ⟨{ timed with cmd := { timed.cmd with seqs := [(Chan.seqKey (.loc 0), 0xFFFFFF)] } }, sub0 0 [], by decide +kernel⟩,
    ⟨timed, sub0 0 [], by decide +kernel⟩, ⟨longing, 5, _, rfl, rfl⟩, ⟨timed, 5, rfl⟩, ⟨roomy, 0, by decide +kernel⟩,
    ⟨timed, 0, by decide +kernel⟩, ⟨fullRing, 0, by decide +kernel⟩,
    fun r h => ⟨5, 1, 0, true, pkt 0 Op.nodeInfo 0 7 [], keptReply r, ((keptReply r).datagram 5 1 0 true).1, Prod.ext rfl (kr r h), ?_⟩,
    ⟨5, 1, 0, true, pkt 0 Op.nodeInfo 0 7 [], inSession, (inSession.datagram 5 1 0 true).1, Prod.ext rfl k2,
      by decide +kernel⟩,
    ⟨5, 1, 0, true, pkt 0 Op.panelState 0 7 [], pkt 0 Op.nodeInfo 0 7 [], [], keptReply [], ((keptReply []).datagram 5 1 0 true).1, 5, 7,
      Prod.ext rfl (kr [] (by decide)), by decide +kernel, by decide +kernel, by decide +kernel, by decide +kernel⟩,
    ⟨5, 1, 0, false, inSession, (inSession.datagram 5 1 0 false).1, Prod.ext rfl k3⟩, ⟨inStage 1, by decide +kernel⟩,
    ⟨{ timed with boot := { timed.boot with romHold := true } }, rfl⟩,
    ⟨timed, by decide +kernel⟩, ⟨State.reset, by decide +kernel⟩,
    fun k h => ⟨gated timed (sub0 Op.nodeInfo (natLE 1 k)), _, _, gated_takes _ _ _ rfl ?_, ?_⟩,
    ⟨gated timed (sub0 Op.panelState []), _, _, gated_takes _ _ _ rfl (by decide +kernel)⟩⟩
  all_goals first | revert op | revert b | revert st | revert x | revert r | revert k
  all_goals decide +kernel

/-- A forwarded command awaits its reply from node 64, or its record. -/
def forwarded (h : Option Nat) : State := { linked with cmd := { linked.cmd with remotes := [⟨64, 0, 0, 7, Op.solve, false, h⟩] } }

/-- A header to node 64 is being forwarded. -/
def forwarding : State :=
  let p : Bytes := zeros 32 ++ natLE 2 64
  { linked with cmd := { linked.cmd with remotes := linked.cmd.remotes ++ [⟨64, 0, 0, hdTag p, hdOpcode p, hdMsi p, none⟩] } }

/-- Without a set of the live tag no destination has a route. -/
theorem absentRoute : ((timed.wr F.FAB_ROUTE_LIVE_JOB_TAG 7).routeTo (timed.wr F.FAB_ROUTE_LIVE_JOB_TAG 7).liveTag
    (timed.wr F.FAB_ROUTE_LIVE_JOB_TAG 7).liveVer 64).2 = .absent := by decide +kernel

theorem witness_ForwardedCommandsConclude :
    (∃ (s u v : State) (p : Bytes) (dest k : Nat), dest = fld p 32 2 ∧ u = { s with cmd := { s.cmd with
      remotes := s.cmd.remotes ++ [⟨dest, 0, 0, hdTag p, hdOpcode p, hdMsi p, none⟩] } } ∧ dest ≠ u.nodeId ∧
      u.routeTo s.liveTag u.liveVer dest = (v, .port k)) ∧
    (∃ (s : State) (p : Bytes), fld p 32 2 = s.nodeId) ∧
    (∃ (u : State) (dest : Nat), dest ≠ u.nodeId ∧ u.lookup u.liveTag u.liveVer dest = .unreachable) ∧
    (∃ (u : State) (dest : Nat), dest ≠ u.nodeId ∧ u.lookup u.liveTag u.liveVer dest ≠ .unreachable ∧
      ∀ k : Nat, (u.routeTo u.liveTag u.liveVer dest).2 ≠ .port k) ∧
    (∀ h ∈ [0, 9], ∃ (k : Fin 1024) (b : Vector (BitVec 8) 64) (s : State) (r : Remote), s.remoteAt k = some r ∧ fld b.toList 8 4 = h) ∧
    (∃ (k : Fin 1024) (s : State), s.remoteAt k = none) ∧
    (∃ (n : Fin 32768) (b : Vector (BitVec 8) 64) (s : State) (r : Remote),
      s.cmd.remotes.find? (fun r => r.target == n.val && r.handle == some (fld b.toList 8 4)) = some r) ∧
    (∃ s : State, s.cmd.remotes = []) ∧
    (∃ (s u : State) (r : Remote) (h : Nat), s.cmd.remotes = [r] ∧ r.handle = some h ∧ u = s.sendLive .probe r.target [] [] ∧
      u.lookup u.liveTag u.liveVer r.target ≠ .unreachable) ∧
    (∃ (dead : List (Fin 32768)) (s : State) (r : Remote), s.cmd.remotes = [r] ∧ dead.any (fun d => d.val == r.target) = true) := by
  have ⟨v, hv⟩ := pair_of ((forwarding.routeTo linked.liveTag forwarding.liveVer 64)) (.port 0) (by decide +kernel)
  refine ⟨⟨linked, forwarding, v, zeros 32 ++ natLE 2 64, 64, 0, by decide +kernel, rfl, by decide +kernel, hv⟩,
    ⟨timed, [], by decide +kernel⟩, ⟨timed, 64, by decide +kernel⟩,
    ⟨timed.wr F.FAB_ROUTE_LIVE_JOB_TAG 7, 64, by decide +kernel, by decide +kernel, fun k => absentRoute ▸ Route.noConfusion⟩,
    fun h m => ⟨0, Vector.ofFn (fun i => if i.val = 8 then BitVec.ofNat 8 h else 0), forwarded none, _, rfl, ?_⟩,
    ⟨0, timed, rfl⟩, ⟨64, Vector.replicate 64 0, forwarded (some 0), ⟨64, 0, 0, 7, Op.solve, false, some 0⟩, by decide +kernel⟩,
    ⟨timed, rfl⟩, ⟨forwarded (some 9), _, _, 9, rfl, rfl, rfl, by decide +kernel⟩, ⟨[64], forwarded (some 9), _, rfl, by decide +kernel⟩⟩
  revert h
  decide +kernel

/-! ## Well-formedness -/

/-! One ill-formed command for each check, and commands at the edge of what is well formed. -/

theorem test_ill_formed_commands_are_refused_1 : ∀ i ∈ ([.tickArrival 0 (zeros 15) 0 0 0 0, .fieldChunkArrival 0 0 true (zeros 31),
   .spTime 0 0 (2 ^ 64), .dTime 0 0 (2 ^ 64), .copy 0 0 none [(2 ^ 48, .clean)], .svLd 0 0 0 0 [(2 ^ 48, .clean)],
   .svGth 0 0 0 0 0 [(2 ^ 48, .clean)], .pinnedFillComplete [2 ^ 48], .pinnedFillComplete [63], .scrubAccess 63 .clean false,
     .domeVectorMemory 0 false .unit 0 0 true 0 0 0 [] [2048] [] [],
   .domeVectorMemory 0 false .unit 0 0 true 0 0 0 [] [] [2048] [],
   .mopAdd 0 (2 ^ 48) 0 true false [] 0 [] [], .mopMinMax 0 0 true 0 true false (zeros 129) 0 [] [],
   .mopMinuMaxu 0 (2 ^ 48) true 0 true false [] 0 [] []] : List Instr), i.wellFormed = false := by decide +kernel

theorem test_ill_formed_commands_are_refused_2 : ∀ i ∈ ([.mopAndOrXor 0 0 0 0 true false (zeros 129) [], .mopSwap 0 (2 ^ 48) 0 [] [],
   .mopCas 0 0 0 (zeros 129) [], .cistPinArm (2 ^ 32), .fabricRead (zeros 39) 0 [], .fabricWrite (zeros 105) 0 0,
   .fabricMop (zeros 169) 0 0 [] [], .fabricBulkGet (zeros 39) 0 [], .fabricBulkPut (zeros 4649) 0 0, .fabricAck (zeros 39) 0,
   .requestRetransmit (2 ^ 32), .deadTargetBound (2 ^ 32), .cableInsert 0 true (zeros 31),
   .portTrainingEnd 0 [] 0 true 0 0 false (zeros 65),
   .portTrainingEnd 0 [0, 0, 0, 0, 0, 0, 0] 0 true 0 0 false [], .linkFrameArrival 0 0 0 0 false (2 ^ 32) []] : List Instr),
     i.wellFormed = false := by decide +kernel

theorem test_ill_formed_commands_are_refused_3 : ∀ i ∈ ([.dataChunk 0 (zeros 31) 0, .token 0 (zeros 31),
    .chunkAck true 0 (zeros 31), .credit (zeros 31), .refetch true 0 (zeros 31),
   .abort 0 (zeros 31), .done (zeros 31), .adopt (zeros 31), .lost (zeros 31), .clientHello 0 (zeros 9217),
   .ack (2 ^ 64) 0 0 true 0 0 0, .keepalive 0 (2 ^ 64) 0 true, .sessionTimeout (2 ^ 64), .tsbCommand (zeros 4161)] : List Instr),
    i.wellFormed = false := by decide +kernel

theorem test_ill_formed_commands_are_refused_4 : ∀ i ∈ ([.routerAdvertisement (zeros 15) 0 true 0,
    .neighbourDiscovery (zeros 16) (zeros 15), .icmpv6Echo (zeros 15) (zeros 16) [],
   .eyeMonitorSample 0 (zeros 8) (zeros 7) 0, .mgmtCommand 0 0 0 true (zeros 4161), .fabricCommandPacket 0 0 (zeros 4161)] : List Instr),
    i.wellFormed = false := by decide +kernel

theorem test_commands_at_the_edge_are_well_formed_1 : ∀ i ∈ ([.tickArrival 0 (zeros 16) 0 0 0 0, .fieldChunkArrival 0 0 true (zeros 32),
   .spTime 0 0 (2 ^ 64 - 1), .svLd 0 0 0 0 [(2 ^ 48 - 1, .clean)], .domeVectorMemory 0 false .unit 0 0 true 0 0 0 [] [2047] [] [],
   .mopAdd 0 (2 ^ 48 - 1) 0 true false (zeros 128) 0 [] [], .cistPinArm (2 ^ 32 - 1), .fabricWrite (zeros 104) 0 0,
   .fabricMop (zeros 168) 0 0 [] [], .fabricBulkPut (zeros 4648) 0 0, .cableInsert 0 true (zeros 32),
   .portTrainingEnd 0 [0, 0, 0, 0, 0, 0] 0 true 0 0 false (zeros 64), .dataChunk 0 (zeros 32) 0,
   .clientHello 0 (zeros 9216), .keepalive (2 ^ 64 - 1) 0 0 true, .tsbCommand (zeros 4160)] : List Instr),
    i.wellFormed = true := by decide +kernel

theorem test_commands_at_the_edge_are_well_formed_2 : ∀ i ∈ ([.routerAdvertisement (zeros 16) 0 true 0,
    .eyeMonitorSample 0 (zeros 8) (zeros 8) 0, .stepBoundary, .solve] : List Instr),
    i.wellFormed = true := by decide +kernel

/-! ## Words and values the manual gives -/

theorem test_no_word_spells_a_command : decodeTableWord 16 0 = none ∧ decodeTableWord 64 (2 ^ 64 - 1) = none := ⟨rfl, rfl⟩

/-- The check value of the CRC-64 of R309 over the bytes of "123456789". -/
theorem test_crc64_check_value : crc64 [0x31, 0x32, 0x33, 0x34, 0x35, 0x36, 0x37, 0x38, 0x39] = 0x995DC9BBDF1939FA := by
  decide +kernel

/-- The check value of the CRC-8 of R47 over the same bytes. -/
theorem test_crc8_check_value : crc8 [0x31, 0x32, 0x33, 0x34, 0x35, 0x36, 0x37, 0x38, 0x39] = 0xF4 := by decide +kernel

/-- The port rule of R288: four hops go up, five go down. -/
theorem test_half_way_goes_up : dimPort 1 5 0 = some 0 ∧ dimPort 1 6 0 = some 1 := by decide +kernel

/-- After reset the node waits in standby for MAIN_EN, before B0, with no time base. -/
theorem test_reset_is_standby : State.reset.rd F.NODE_STAGE_STAGE = 0 ∧ State.reset.rd F.NODE_STAGE_STATE = 0 ∧
    State.reset.boot.standby = true ∧ State.reset.rd F.TB_STATUS_STATE = Tb.free := by decide +kernel

/-- The step takes the front command and leaves the rest. -/
theorem test_step_takes_the_front : ∃ t, step { up with pending := [.feedRestored false, .stepBoundary] } = .next t ∧
    t.pending = [.stepBoundary] ∧ t.rd F.NODE_SUPPLY_FEED_A_OK = 1 := ⟨_, rfl, rfl, by decide +kernel⟩

end Sys2Proof.Tests
end

section
/-! The state right after a full module reset (R9). Its register map is canonical, so a field of a listed register reads from
the listed word, and a field of any other register reads 0. -/

namespace Sys2Proof.Machine

open Sys2Proof

/-! ## Reading a keyed list in canonical form -/

theorem le_of_mem_risingFrom {α : Type} {k : Nat} {v : α} :
    ∀ {lo : Nat} {m : List (Nat × α)}, risingFrom lo m = true → (k, v) ∈ m → lo ≤ k
  | lo, (j, w) :: r, hm, h => by
    simp only [risingFrom, Bool.and_eq_true, decide_eq_true_eq] at hm
    obtain ⟨hj, hr⟩ := hm
    rcases List.mem_cons.1 h with heq | htail
    · exact (Prod.mk.inj heq).1 ▸ hj
    · have := le_of_mem_risingFrom hr htail
      omega

theorem mget_of_mem {α : Type} {k : Nat} {v : α} (d : α) :
    ∀ {lo : Nat} {m : List (Nat × α)}, risingFrom lo m = true → (k, v) ∈ m → mget m k d = v
  | lo, (j, w) :: r, hm, h => by
    simp only [risingFrom, Bool.and_eq_true, decide_eq_true_eq] at hm
    obtain ⟨-, hr⟩ := hm
    rcases List.mem_cons.1 h with heq | htail
    · obtain ⟨rfl, rfl⟩ := Prod.mk.inj heq
      simp [mget]
    · have := le_of_mem_risingFrom hr htail
      rw [mget, if_neg (by omega), mget_of_mem d hr htail]

theorem mget_of_not_mem {α : Type} {k : Nat} (d : α) : ∀ {m : List (Nat × α)}, k ∉ m.map Prod.fst → mget m k d = d
  | [], _ => rfl
  | (j, w) :: r, h => by
    obtain ⟨hj, hr⟩ := not_or.1 (List.mem_cons.not.1 h)
    rw [mget, if_neg hj, mget_of_not_mem d hr]

theorem State.rd_of_listed (s : State) {f : Field} {v : Word} (hw : Registers.wf s.regs = true) (h : (f.addr, v) ∈ s.regs) :
    s.rd f = bits v.toNat f.lo f.width := by
  rw [State.rd, State.rdReg, mget_of_mem 0 (Bool.and_eq_true_iff.1 hw).1 h]

theorem State.rdReg_of_unlisted (s : State) {a : Nat} (h : a ∉ s.regs.map Prod.fst) : s.rdReg a = 0 := by
  rw [State.rdReg, mget_of_not_mem 0 h]; rfl

theorem State.rd_of_unlisted (s : State) {f : Field} (h : f.addr ∉ s.regs.map Prod.fst) : s.rd f = 0 := by
  rw [State.rd, State.rdReg_of_unlisted s h, bits, Nat.zero_shiftRight, Nat.zero_mod]

/-! ## The register map after reset -/

theorem resetRegs_wf : Registers.wf resetRegs = true := by decide +kernel

/-- A field of a listed register reads, after reset, its bits of the listed word. -/
theorem State.reset_rd_of_listed {f : Field} {v : Word} {n : Nat} (h : (f.addr, v) ∈ resetRegs)
    (hn : bits v.toNat f.lo f.width = n) : State.reset.rd f = n :=
  (State.rd_of_listed State.reset resetRegs_wf h).trans hn

/-! The entries of the registers the statement names, with the words of
Tables 2.8, 2.11, 3.7, 3.8, 10.13, 11.8, 13.14 and 16.12. -/

theorem resetRegs_profile : (R.NODE_PROFILE, 1#64 ||| (1100#64 <<< 16) ||| (2600#64 <<< 32)) ∈ resetRegs := by simp [resetRegs]
theorem resetRegs_gate : (R.NODE_GATE, 64#64 ||| (64#64 <<< 8)) ∈ resetRegs := by simp [resetRegs]
theorem resetRegs_tbStatus : (R.TB_STATUS, (0xF#64 <<< 8) ||| (6#64 <<< 48)) ∈ resetRegs := by simp [resetRegs]
theorem resetRegs_tbPeriod : (R.TB_PERIOD, 1000000#64) ∈ resetRegs := by simp [resetRegs]
theorem resetRegs_memScrub : (R.MEM_SCRUB, 1#64 ||| (24#64 <<< 8)) ∈ resetRegs := by simp [resetRegs]
theorem resetRegs_deadBound : (R.FAB_DEAD_BOUND, 24#64) ∈ resetRegs := by simp [resetRegs]
theorem resetRegs_fieldWeight : (R.COLL_FIELD_WEIGHT, 1#64) ∈ resetRegs := by simp [resetRegs]
theorem resetRegs_cmdRing (c : Fin 16) : (R.NODE_CMD_RING_CTRL c, 4#64) ∈ resetRegs := by
  have h := List.mem_map_of_mem (f := fun c => (R.NODE_CMD_RING_CTRL c, 4#64)) (List.mem_range.2 c.isLt)
  simp only [resetRegs, List.mem_append, h, or_true, true_or]

/-- The registers that show counts, and those of step time and of a terrace's schedule, have Reset value 0. -/
theorem countRegs_unlisted_at_reset : ∀ a ∈ countRegs, a ∉ resetRegs.map Prod.fst := by decide +kernel
theorem tbNow_unlisted_at_reset : R.TB_NOW ∉ resetRegs.map Prod.fst := by decide +kernel
theorem schedStatus_unlisted_at_reset : ∀ t : Fin 16, R.SCHED_STATUS t ∉ resetRegs.map Prod.fst := by decide +kernel

/-! ## What reset leaves -/

/-- Nothing is outstanding, queued, open or held after reset, and the count registers read 0. -/
theorem State.reset_countsShown : State.reset.countsShown := by
  have h : ∀ f : Field, f.addr ∈ countRegs → State.reset.rd f = 0 :=
    fun f hf => State.rd_of_unlisted State.reset (countRegs_unlisted_at_reset f.addr hf)
  exact ⟨h _ (by decide), h _ (by decide), h _ (by decide), h _ (by decide), h _ (by decide)⟩

theorem State.reset_profile : State.reset.rd F.NODE_PROFILE_ACTIVE = 1 ∧ State.reset.rd F.NODE_PROFILE_TOWER_MHZ = 1100 ∧
    State.reset.rd F.NODE_PROFILE_SWITCHING = 0 :=
  ⟨State.reset_rd_of_listed resetRegs_profile rfl, State.reset_rd_of_listed resetRegs_profile rfl,
    State.reset_rd_of_listed resetRegs_profile rfl⟩

theorem State.reset_cmdRing (c : Fin 16) : State.reset.rd (F.NODE_CMD_RING_CTRL_LOG2_RECORDS c) = 4 ∧
    State.reset.rd (F.NODE_CMD_RING_CTRL_ENABLE c) = 0 :=
  ⟨State.reset_rd_of_listed (resetRegs_cmdRing c) rfl, State.reset_rd_of_listed (resetRegs_cmdRing c) rfl⟩

/-- Settles O4. Each field reads from its register's entry in the list of Reset values, or 0 where the register has none. -/
theorem resetLeavesTheSpecsValues : Obligations.ResetLeavesTheSpecsValues := by
  obtain ⟨hActive, hMhz, hSwitching⟩ := State.reset_profile
  exact ⟨⟨State.reset_countsShown, State.reset_mem_wf, resetRegs_wf, rfl⟩,
    State.reset_rd_of_listed resetRegs_tbStatus rfl, State.reset_rd_of_listed resetRegs_tbStatus rfl,
    State.reset_rd_of_listed resetRegs_tbPeriod rfl, State.rdReg_of_unlisted State.reset tbNow_unlisted_at_reset,
    hActive, hMhz, hSwitching,
    State.reset_rd_of_listed resetRegs_gate rfl, State.reset_rd_of_listed resetRegs_gate rfl, State.reset_cmdRing,
    State.reset_rd_of_listed resetRegs_deadBound rfl, State.reset_rd_of_listed resetRegs_fieldWeight rfl,
    State.reset_rd_of_listed resetRegs_memScrub rfl, State.reset_rd_of_listed resetRegs_memScrub rfl,
    fun t => State.rd_of_unlisted State.reset (schedStatus_unlisted_at_reset t), rfl⟩

end Sys2Proof.Machine
end

section
/-! Writes of control registers (R22, R96, R242, R260, R363): the access a register write makes, the whole-register store of the
registers whose writes act, and what the end of the command adds. -/

namespace Sys2Proof.Machine

open Sys2Proof

/-! ## The end of a command whose effect lies in registers -/

/-- A command that ends with `ok` does what every next state of that `ok` has. -/
theorem does_of_ok {c : Instr} {s u : State} {P : State → Prop} (h : exec c s = ok u) (hP : ∀ t, ok u = .next t → P t) :
    Does c s P :=
  ⟨_, h.trans (ok_eq u), hP _ (ok_eq u)⟩

theorem RegsFrame.eq_of_ok {s u t : State} (hu : RegsFrame s u) (h : ok u = .next t) :
    t = { s with regs := t.regs, fresh := s.fresh + 1 } := by
  have ht : t.fresh = u.fresh + 1 := by rw [ok_inj h]
  have hr := rest_of_ok h
  rw [ht] at hr
  unfold RegsFrame at hu
  rw [hu] at hr
  exact hr

theorem RegsFrame.keepsMem_of_ok {s u t : State} (hu : RegsFrame s u) (h : ok u = .next t) : s.keepsMem t := by
  rw [hu.eq_of_ok h]; exact ⟨rfl, rfl, rfl⟩

theorem keepsRegs_of_ok {s u t : State} {l : List Nat} (h : ok u = .next t) (hu : ∀ a, a ∉ l → u.rdReg a = s.rdReg a) :
    s.keepsRegs t l := by
  intro a hl hc
  rw [ok_inj h, State.rdReg_fresh, rdReg_showCounts u hc, hu a hl]

/-! ## A store to every bit of a register -/

theorem storeField_rw_whole (v old : Nat) {lo w : Nat} (h : lo + w ≤ 64) :
    storeField v (2 ^ 64 - 1) old (lo, w, .rw) = setBits old lo w (bits v lo w) := by
  have hmask : bits (2 ^ 64 - 1) lo w = 2 ^ w - 1 := by
    apply Nat.eq_of_testBit_eq
    intro j
    rw [testBit_bits, Nat.testBit_two_pow_sub_one, Nat.testBit_two_pow_sub_one]
    by_cases hj : j < w
    · simp [hj, show lo + j < 64 by omega]
    · simp [hj]
  have hv : bits v lo w % 2 ^ w = bits v lo w := Nat.mod_eq_of_lt (bits_lt v lo w)
  simp only [storeField, hmask, Nat.sub_self, Nat.and_zero, Nat.zero_or, Nat.and_two_pow_sub_one_eq_mod, hv]

theorem controlWrite_doubleword (s : State) {a v : Nat} (ha : a % 8 = 0) (hv : v < 2 ^ 64) :
    s.controlWrite a 8 v = s.regStore a v (2 ^ 64 - 1) := by
  have h8 : a / 8 * 8 = a := by omega
  simp only [State.controlWrite, ha, h8, Nat.mul_zero, pow_zero, Nat.mul_one, Nat.mod_eq_of_lt hv]

theorem bit_whole_mask {i : Nat} (v : Nat) (h : i < 64) : (bit v i && bit (2 ^ 64 - 1) i) = v.testBit i := by
  simp only [bit, Nat.testBit_two_pow_sub_one, h, decide_true, Bool.and_true]

/-- The registers outside the arrays of rings whose writes act. -/
def actingRegs : List Nat :=
  [R.NODE_POWER_CAP, R.NODE_TERRACE_PWR, R.MEM_SCRUB, R.COLL_FIELD_WEIGHT, R.FAB_DEAD_BOUND, R.CIST_PIN_CTRL, R.COLL_INSTALL]

theorem schedRingCtrl_not_acting : ∀ t : Fin 16, R.SCHED_RING_CTRL t ∉ actingRegs := by decide
theorem cmdRingCtrl_not_acting : ∀ c : Fin 16, R.NODE_CMD_RING_CTRL c ∉ actingRegs := by decide
theorem cmdRingTail_not_acting : ∀ c : Fin 16, R.NODE_CMD_RING_TAIL c ∉ actingRegs := by decide

theorem elemOf_schedRingCtrl : ∀ t : Fin 16, elemOf (R.SCHED_RING_CTRL t) (R.NODE_CMD_RING_BASE 0) 32 16 = none ∧
    elemOf (R.SCHED_RING_CTRL t) (R.NODE_CMD_RING_CTRL 0) 32 16 = none ∧
    elemOf (R.SCHED_RING_CTRL t) (R.NODE_CMD_RING_TAIL 0) 32 16 = none := by decide
theorem elemOf_cmdRingCtrl : ∀ c : Fin 16, elemOf (R.NODE_CMD_RING_CTRL c) (R.NODE_CMD_RING_BASE 0) 32 16 = none ∧
    elemOf (R.NODE_CMD_RING_CTRL c) (R.NODE_CMD_RING_CTRL 0) 32 16 = some c.val := by decide
theorem elemOf_cmdRingTail : ∀ c : Fin 16, elemOf (R.NODE_CMD_RING_TAIL c) (R.NODE_CMD_RING_BASE 0) 32 16 = none ∧
    elemOf (R.NODE_CMD_RING_TAIL c) (R.NODE_CMD_RING_CTRL 0) 32 16 = none ∧
    elemOf (R.NODE_CMD_RING_TAIL c) (R.NODE_CMD_RING_TAIL 0) 32 16 = some c.val := by decide

theorem regStore_schedRingCtrl (s : State) (t : Fin 16) (v m : Nat) : s.regStore (R.SCHED_RING_CTRL t) v m =
    (s.plainStore (R.SCHED_RING_CTRL t) v m).ringEnable (bit v 8 && bit m 8) (R.SCHED_RING_HEAD t) (R.SCHED_RING_TAIL t) := by
  have hacts := schedRingCtrl_not_acting t
  simp only [actingRegs, List.mem_cons, List.not_mem_nil, or_false, not_or] at hacts
  obtain ⟨hbase, hctrl, htail⟩ := elemOf_schedRingCtrl t
  have hblock : schedBlock 0 ≤ R.SCHED_RING_CTRL t := by simp only [schedBlock, R.SCHED_RING_CTRL]; omega
  have hindex : (R.SCHED_RING_CTRL t - schedBlock 0) / 0x10000 = t := by simp only [schedBlock, R.SCHED_RING_CTRL]; omega
  simp [State.regStore, hacts, hbase, hctrl, htail, hblock, hindex]

theorem regStore_cmdRingCtrl (s : State) (c : Fin 16) (v m : Nat) : s.regStore (R.NODE_CMD_RING_CTRL c) v m =
    ((s.plainStore (R.NODE_CMD_RING_CTRL c) v m).ringEnable (bit v 8 && bit m 8) (R.NODE_CMD_RING_HEAD c)
      (R.NODE_CMD_RING_TAIL c)).flushRing c := by
  have hacts := cmdRingCtrl_not_acting c
  simp only [actingRegs, List.mem_cons, List.not_mem_nil, or_false, not_or] at hacts
  obtain ⟨hbase, hctrl⟩ := elemOf_cmdRingCtrl c
  simp [State.regStore, hacts, hbase, hctrl]

theorem regStore_cmdRingTail (s : State) (c : Fin 16) (v m : Nat) :
    s.regStore (R.NODE_CMD_RING_TAIL c) v m = (s.plainStore (R.NODE_CMD_RING_TAIL c) v m).flushRing c := by
  have hacts := cmdRingTail_not_acting c
  simp only [actingRegs, List.mem_cons, List.not_mem_nil, or_false, not_or] at hacts
  obtain ⟨hbase, hctrl, htail⟩ := elemOf_cmdRingTail c
  simp [State.regStore, hacts, hbase, hctrl, htail]

/-! ## Which accesses a register write makes (R22) -/

theorem controlOk_width (a : Nat) (wide : Bool) :
    controlOk a (if wide then 8 else 4) = (a % (if wide then 8 else 4) == 0 && !reservedBlock a) := by
  cases wide <;> rfl

theorem exec_registerWrite_stores {a : BitVec 48} {wide : Bool} {s : State} (v : BitVec 64) (halive : s.alive = true)
    (hcontrol : isControl a.toNat = true) (halign : a.toNat % (if wide then 8 else 4) = 0) (hblock : reservedBlock a.toNat = false) :
    exec (.registerWrite a wide v) s = ok (s.controlWrite a.toNat (if wide then 8 else 4) v.toNat) := by
  show execRegisterWrite a wide v s = _
  rw [execRegisterWrite, if_pos]
  rw [halive, hcontrol, controlOk_width, halign, hblock]
  rfl

theorem exec_registerWrite_nothing {a : BitVec 48} {wide : Bool} {s : State} (v : BitVec 64)
    (h : s.alive = false ∨ isControl a.toNat = false ∨ a.toNat % (if wide then 8 else 4) ≠ 0 ∨ reservedBlock a.toNat = true) :
    exec (.registerWrite a wide v) s = ok s := by
  show execRegisterWrite a wide v s = _
  rw [execRegisterWrite, if_neg]
  rw [controlOk_width]
  rcases h with h | h | h | h <;> simp [h]

/-! ## The rings (R96, R363) -/

theorem regsFrame_plainStore (s : State) (a v m : Nat) : RegsFrame s (s.plainStore a v m) := rfl

theorem regsFrame_ringEnable (s : State) (on : Bool) (head tail : Nat) : RegsFrame s (s.ringEnable on head tail) := by
  cases on <;> rfl

theorem rdReg_ringEnable_ne (s : State) (on : Bool) {a head tail : Nat} (hh : a ≠ head) (ht : a ≠ tail) :
    (s.ringEnable on head tail).rdReg a = s.rdReg a := by
  cases on
  · rfl
  · exact (State.rdReg_wrReg_ne _ 0 ht).trans (State.rdReg_wrReg_ne s 0 hh)

theorem rdReg_ringEnable_head (s : State) (head tail : Nat) : (s.ringEnable true head tail).rdReg head = 0 := by
  by_cases h : head = tail
  · rw [h]; exact State.rdReg_wrReg_same _ _ 0
  · exact (State.rdReg_wrReg_ne _ 0 h).trans (State.rdReg_wrReg_same s head 0)

theorem rdReg_ringEnable_tail (s : State) (head tail : Nat) : (s.ringEnable true head tail).rdReg tail = 0 :=
  State.rdReg_wrReg_same _ tail 0

theorem fieldsAt_schedRingCtrl : ∀ t : Fin 16, fieldsAt (R.SCHED_RING_CTRL t) =
    [(0, 5, .rw), (8, 1, .rw), (9, 1, .rw), (16, 8, .rw), (32, 11, .rw)] := by decide

theorem storeReg_schedRingCtrl (t : Fin 16) (v old : Nat) : storeReg (R.SCHED_RING_CTRL t) v (2 ^ 64 - 1) old =
    setBits (setBits (setBits (setBits (setBits old 0 5 (bits v 0 5)) 8 1 (bits v 8 1)) 9 1 (bits v 9 1)) 16 8 (bits v 16 8))
      32 11 (bits v 32 11) := by
  rw [storeReg, fieldsAt_schedRingCtrl]
  simp only [List.foldl_cons, List.foldl_nil]
  iterate 5 rw [storeField_rw_whole _ _ (by decide)]

theorem rd_schedRingCtrl_enable (s : State) (t : Fin 16) (v : Nat) :
    (s.plainStore (R.SCHED_RING_CTRL t) v (2 ^ 64 - 1)).rd (F.SCHED_RING_CTRL_ENABLE t) = b2n (v.testBit 8) := by
  have hbit : bits v 8 1 = b2n (v.testBit 8) := by
    rw [bits_eq, pow_one, ← Nat.toNat_testBit]; cases v.testBit 8 <;> rfl
  refine (State.rd_wrReg_same (f := F.SCHED_RING_CTRL_ENABLE t) s _ rfl).trans ?_
  show bits _ 8 1 = _
  rw [storeReg_schedRingCtrl]
  iterate 3 rw [bits_setBits_apart _ _ (by decide)]
  rw [bits_setBits_same, Nat.mod_eq_of_lt (bits_lt v 8 1), hbit]

theorem rd_schedRingCtrl_log2Records (s : State) (t : Fin 16) (v : Nat) :
    (s.plainStore (R.SCHED_RING_CTRL t) v (2 ^ 64 - 1)).rd (F.SCHED_RING_CTRL_LOG2_RECORDS t) = v % 32 := by
  refine (State.rd_wrReg_same (f := F.SCHED_RING_CTRL_LOG2_RECORDS t) s _ rfl).trans ?_
  show bits _ 0 5 = _
  rw [storeReg_schedRingCtrl]
  iterate 4 rw [bits_setBits_apart _ _ (by decide)]
  rw [bits_setBits_same, Nat.mod_eq_of_lt (bits_lt v 0 5), bits_eq, pow_zero, Nat.div_one]
  norm_num

theorem exec_schedRingCtrlWrite {s : State} (t : Fin 16) (v : BitVec 64) (halive : s.alive = true) :
    exec (.schedRingCtrlWrite t v) s = ok ((s.plainStore (R.SCHED_RING_CTRL t) v.toNat (2 ^ 64 - 1)).ringEnable (v.toNat.testBit 8)
      (R.SCHED_RING_HEAD t) (R.SCHED_RING_TAIL t)) := by
  have haligned : ∀ t : Fin 16, R.SCHED_RING_CTRL t % 8 = 0 := by decide
  show execSchedRingCtrlWrite t v s = _
  rw [execSchedRingCtrlWrite, if_pos halive, controlWrite_doubleword s (haligned t) v.isLt, regStore_schedRingCtrl,
    bit_whole_mask _ (by decide)]

theorem exec_nodeCmdRingCtrlWrite {s : State} (c : Fin 16) (v : BitVec 64) (halive : s.alive = true) :
    exec (.nodeCmdRingCtrlWrite c v) s = ok (((s.plainStore (R.NODE_CMD_RING_CTRL c) v.toNat (2 ^ 64 - 1)).ringEnable
      (v.toNat.testBit 8) (R.NODE_CMD_RING_HEAD c) (R.NODE_CMD_RING_TAIL c)).flushRing c) := by
  have haligned : ∀ c : Fin 16, R.NODE_CMD_RING_CTRL c % 8 = 0 := by decide
  show execNodeCmdRingCtrlWrite c v s = _
  rw [execNodeCmdRingCtrlWrite, if_pos halive, controlWrite_doubleword s (haligned c) v.isLt, regStore_cmdRingCtrl,
    bit_whole_mask _ (by decide)]

theorem exec_nodeCmdRingTailWrite {s : State} (c : Fin 16) (tail : BitVec 32) (halive : s.alive = true) :
    exec (.nodeCmdRingTailWrite c tail) s =
      ok ((s.plainStore (R.NODE_CMD_RING_TAIL c) tail.toNat (2 ^ 64 - 1)).flushRing c) := by
  have haligned : ∀ c : Fin 16, R.NODE_CMD_RING_TAIL c % 8 = 0 := by decide
  have htail : tail.toNat < 2 ^ 64 := tail.isLt.trans (by decide)
  show execNodeCmdRingTailWrite c tail s = _
  rw [execNodeCmdRingTailWrite, if_pos halive, controlWrite_doubleword s (haligned c) htail, regStore_cmdRingTail]

theorem schedRingRegs_not_count : ∀ t : Fin 16, R.SCHED_RING_CTRL t ∉ countRegs ∧ R.SCHED_RING_HEAD t ∉ countRegs ∧
    R.SCHED_RING_TAIL t ∉ countRegs := by decide

theorem schedRingRegs_distinct : ∀ t : Fin 16, R.SCHED_RING_CTRL t ≠ R.SCHED_RING_HEAD t ∧
    R.SCHED_RING_CTRL t ≠ R.SCHED_RING_TAIL t := by decide

theorem schedRingCtrlWrite_enables {s : State} (t : Fin 16) (v : BitVec 64) (halive : s.alive = true)
    (hon : v.toNat.testBit 8 = true) : Does (.schedRingCtrlWrite t v) s (fun u =>
      u.rd (F.SCHED_RING_HEAD_INDEX t) = 0 ∧ u.rd (F.SCHED_RING_TAIL_INDEX t) = 0 ∧ u.rd (F.SCHED_RING_CTRL_ENABLE t) = 1 ∧
      u.rd (F.SCHED_RING_CTRL_LOG2_RECORDS t) = v.toNat % 32 ∧ s.keepsMem u ∧
      s.keepsRegs u [R.SCHED_RING_CTRL t, R.SCHED_RING_HEAD t, R.SCHED_RING_TAIL t]) := by
  obtain ⟨hctrl, hhead, htail⟩ := schedRingRegs_not_count t
  obtain ⟨hch, hct⟩ := schedRingRegs_distinct t
  refine does_of_ok (exec_schedRingCtrlWrite t v halive) fun u hu => ?_
  rw [hon] at hu
  have hstored := rdReg_ringEnable_ne (s.plainStore (R.SCHED_RING_CTRL t) v.toNat (2 ^ 64 - 1)) true hch hct
  refine ⟨?_, ?_, ?_, ?_, ?_, ?_⟩
  · rw [rd_of_ok (f := F.SCHED_RING_HEAD_INDEX t) hu hhead, State.rd]
    exact (congrArg (bits · 0 32) (rdReg_ringEnable_head _ _ _)).trans (bits_zero 0 32)
  · rw [rd_of_ok (f := F.SCHED_RING_TAIL_INDEX t) hu htail, State.rd]
    exact (congrArg (bits · 0 32) (rdReg_ringEnable_tail _ _ _)).trans (bits_zero 0 32)
  · rw [rd_of_ok (f := F.SCHED_RING_CTRL_ENABLE t) hu hctrl]
    exact (congrArg (bits · 8 1) hstored).trans ((rd_schedRingCtrl_enable s t v.toNat).trans (by rw [hon]; rfl))
  · rw [rd_of_ok (f := F.SCHED_RING_CTRL_LOG2_RECORDS t) hu hctrl]
    exact (congrArg (bits · 0 5) hstored).trans (rd_schedRingCtrl_log2Records s t v.toNat)
  · exact ((regsFrame_plainStore s _ _ _).trans (regsFrame_ringEnable _ _ _ _)).keepsMem_of_ok hu
  · refine keepsRegs_of_ok hu fun a ha => ?_
    simp only [List.mem_cons, List.not_mem_nil, or_false, not_or] at ha
    obtain ⟨hc, hh, ht⟩ := ha
    exact (rdReg_ringEnable_ne _ true hh ht).trans (State.rdReg_wrReg_ne s _ hc)

theorem schedRingCtrlWrite_disables {s : State} (t : Fin 16) (v : BitVec 64) (halive : s.alive = true)
    (hoff : v.toNat.testBit 8 = false) : Does (.schedRingCtrlWrite t v) s (fun u =>
      u.rd (F.SCHED_RING_CTRL_ENABLE t) = 0 ∧ s.keepsMem u ∧ s.keepsRegs u [R.SCHED_RING_CTRL t]) := by
  obtain ⟨hctrl, -, -⟩ := schedRingRegs_not_count t
  refine does_of_ok (exec_schedRingCtrlWrite t v halive) fun u hu => ?_
  rw [hoff] at hu
  refine ⟨?_, ?_, ?_⟩
  · rw [rd_of_ok (f := F.SCHED_RING_CTRL_ENABLE t) hu hctrl]
    exact (rd_schedRingCtrl_enable s t v.toNat).trans (by rw [hoff]; rfl)
  · exact (regsFrame_plainStore s _ _ _).keepsMem_of_ok hu
  · exact keepsRegs_of_ok hu fun a ha => State.rdReg_wrReg_ne s _ (List.ne_of_not_mem_cons ha)

/-! ## OFF_REQ, the dead bound and the scrub period (R99, R242, R260) -/

theorem offRequest_of_ready {s : State} (h : s.ready = true) : s.offRequest = forEach (List.range 16) s (fun t u =>
    if u.inUse t = true ∨ u.resetting t = true then u else u.settlePower t) := by
  simp only [State.offRequest, h, Bool.not_true, Bool.false_eq_true, if_false, Bool.or_eq_true]

theorem exec_nodeTerracePwrWrite {s : State} (off : BitVec 16) (halive : s.alive = true) :
    exec (.nodeTerracePwrWrite off) s = ok (s.wr F.NODE_TERRACE_PWR_OFF_REQ off.toNat).offRequest :=
  if_pos halive

theorem fabDeadBoundWrite_clamps (us : Fin 256) (s : State) : Does (.fabDeadBoundWrite us) s (fun u =>
    u.rd F.FAB_DEAD_BOUND_BOUND_US = min (max us.val 4) 250 ∧ s.keepsRegs u [R.FAB_DEAD_BOUND] ∧
    u = { s with regs := u.regs, fresh := s.fresh + 1 }) := by
  refine does_of_ok (u := s.wr F.FAB_DEAD_BOUND_BOUND_US (min (max us.val 4) 250)) rfl fun u hu => ⟨?_, ?_, ?_⟩
  · have hfits : min (max us.val 4) 250 < 2 ^ 8 := by omega
    rw [rd_of_ok hu (by decide), State.rd_wr_same _ _ _ (by decide)]
    exact Nat.mod_eq_of_lt hfits
  · exact keepsRegs_of_ok hu fun a ha => State.rdReg_wr_ne s _ (List.ne_of_not_mem_cons ha)
  · exact (regsFrame_wr _ _ _).eq_of_ok hu

theorem memScrubWrite_clamps (enable : Bool) (period : Fin 256) (s : State) : Does (.memScrubWrite enable period) s (fun u =>
    u.rd F.MEM_SCRUB_ENABLE = b2n enable ∧ u.rd F.MEM_SCRUB_PERIOD_H = max 1 period.val ∧ s.keepsRegs u [R.MEM_SCRUB] ∧
    u = { s with regs := u.regs, fresh := s.fresh + 1 }) := by
  refine does_of_ok (u := (s.wr F.MEM_SCRUB_ENABLE (b2n enable)).wr F.MEM_SCRUB_PERIOD_H (max 1 period.val)) rfl
    fun u hu => ⟨?_, ?_, ?_, ?_⟩
  · rw [rd_of_ok hu (by decide), State.rd_wr_apart _ _ (by decide) (by decide), State.rd_wr_same _ _ _ (by decide)]
    cases enable <;> rfl
  · have hfits : max 1 period.val < 2 ^ 8 := by omega
    rw [rd_of_ok hu (by decide), State.rd_wr_same _ _ _ (by decide)]
    exact Nat.mod_eq_of_lt hfits
  · refine keepsRegs_of_ok hu fun a ha => ?_
    have ha : a ≠ R.MEM_SCRUB := List.ne_of_not_mem_cons ha
    exact (State.rdReg_wr_ne (f := F.MEM_SCRUB_PERIOD_H) _ _ ha).trans (State.rdReg_wr_ne (f := F.MEM_SCRUB_ENABLE) s _ ha)
  · exact ((regsFrame_wr s _ _).trans (regsFrame_wr _ _ _)).eq_of_ok hu

/-- Settles O21. Each row comes down to its store and the action tied to it; what the end of the command adds is the same
for all. -/
theorem controlRegisterWrites : Obligations.ControlRegisterWrites :=
  ⟨fun _ _ v _ halive hcontrol halign hblock => exec_registerWrite_stores v halive hcontrol halign hblock,
    fun _ _ v _ h => exec_registerWrite_nothing v h,
    fun t v _ halive hon => schedRingCtrlWrite_enables t v halive hon,
    fun t v _ halive hoff => schedRingCtrlWrite_disables t v halive hoff,
    fun off _ halive => exec_nodeTerracePwrWrite off halive,
    fun _ hready => offRequest_of_ready hready,
    fun c v _ halive => exec_nodeCmdRingCtrlWrite c v halive,
    fun c tail _ halive => exec_nodeCmdRingTailWrite c tail halive,
    fabDeadBoundWrite_clamps, memScrubWrite_clamps⟩

end Sys2Proof.Machine
end

section
/-! Effects that lie in a list of registers: which registers an operation may write, and with it what a command leaves as
it was. -/

namespace Sys2Proof.Machine

open Sys2Proof

/-- t differs from s at most in the registers of a list. -/
structure WritesOnly (l : List Nat) (s t : State) : Prop where
  regsFrame : RegsFrame s t
  rdReg_eq : ∀ a, a ∉ l → t.rdReg a = s.rdReg a

variable {l : List Nat} {s t u : State}

theorem WritesOnly.refl (l : List Nat) (s : State) : WritesOnly l s s := ⟨.refl s, fun _ _ => rfl⟩

theorem WritesOnly.trans (h1 : WritesOnly l s t) (h2 : WritesOnly l t u) : WritesOnly l s u :=
  ⟨h1.regsFrame.trans h2.regsFrame, fun a ha => (h2.rdReg_eq a ha).trans (h1.rdReg_eq a ha)⟩

theorem writesOnly_wrReg {a : Nat} (s : State) (v : Nat) (h : a ∈ l) : WritesOnly l s (s.wrReg a v) :=
  ⟨regsFrame_wrReg s a v, fun _ hb => State.rdReg_wrReg_ne s v fun e => hb (e ▸ h)⟩

theorem writesOnly_wr {f : Field} (s : State) (v : Nat) (h : f.addr ∈ l) : WritesOnly l s (s.wr f v) := writesOnly_wrReg s _ h

theorem WritesOnly.wr {f : Field} (h : WritesOnly l s t) (v : Nat) (hf : f.addr ∈ l) : WritesOnly l s (t.wr f v) :=
  h.trans (writesOnly_wr t v hf)

theorem writesOnly_forEach (f : Nat → State → State) :
    ∀ (is : List Nat) (s : State), (∀ i ∈ is, ∀ t, WritesOnly l t (f i t)) → WritesOnly l s (forEach is s f)
  | [], s, _ => .refl l s
  | i :: is, s, hf => (hf i List.mem_cons_self s).trans
      (writesOnly_forEach f is (f i s) fun j hj => hf j (List.mem_cons_of_mem i hj))

/-- A field of no register in the list reads as before, -/
theorem WritesOnly.rd_eq (h : WritesOnly l s t) {f : Field} (hf : f.addr ∉ l) : t.rd f = s.rd f := by
  rw [State.rd, State.rd, h.rdReg_eq _ hf]

theorem WritesOnly.flag_eq (h : WritesOnly l s t) {f : Field} (hf : f.addr ∉ l) : t.flag f = s.flag f := by
  rw [State.flag, State.flag, h.rd_eq hf]

/-- and so it does after the command, if its register shows no count. -/
theorem WritesOnly.rd_of_ok (h : WritesOnly l s u) (hu : ok u = .next t) {f : Field} (hf : f.addr ∉ l)
    (hc : f.addr ∉ countRegs) : t.rd f = s.rd f :=
  (Machine.rd_of_ok hu hc).trans (h.rd_eq hf)

theorem WritesOnly.keepsRegs_of_ok (h : WritesOnly l s u) (hu : ok u = .next t) : s.keepsRegs t l :=
  Machine.keepsRegs_of_ok hu h.rdReg_eq

theorem State.flag_eq_false {f : Field} (h : s.rd f = 0) : s.flag f = false := by simp [State.flag, h]

theorem State.flag_eq_true {f : Field} (h : s.rd f = 1) : s.flag f = true := by simp [State.flag, h]

/-! ## Commands that also change the state of the power management -/

theorem RegsFrame.power_eq (h : RegsFrame s t) : t.power = s.power := by
  unfold RegsFrame at h
  rw [h]

theorem RegsFrame.withPower (h : RegsFrame s t) (p : Power) : RegsFrame { s with power := p } { t with power := p } := by
  unfold RegsFrame at *
  exact congrArg (fun x : State => { x with power := p }) h

theorem power_of_ok {p : Power} (h : RegsFrame { s with power := p } u) (hu : ok u = .next t) : t.power = p := by
  rw [h.eq_of_ok hu]

theorem eq_of_ok_power {p : Power} (h : RegsFrame { s with power := p } u) (hu : ok u = .next t) :
    t = { s with regs := t.regs, power := t.power, fresh := s.fresh + 1 } := by
  rw [power_of_ok h hu]
  exact h.eq_of_ok hu

end Sys2Proof.Machine
end

section
/-! SET_PROFILE and the end of the switch it starts (R32, R33). -/

namespace Sys2Proof.Machine

open Sys2Proof

/-! ## SET_PROFILE -/

/-- What makes SET_PROFILE reply BUSY: a job, a running switch, a SOLVE command, or a running part of a survey or self-test. -/
def State.switchBlocked (s : State) : Bool :=
  s.admitted || s.flag F.NODE_PROFILE_SWITCHING || s.solver.any (fun r => r.2.handle.isSome)
    || s.age.queue.any (fun r => !r.calibration && !r.running.isEmpty)

theorem switchBlocked_eq_false {s : State} (hjob : s.admitted = false) (hswitch : s.rd F.NODE_PROFILE_SWITCHING = 0)
    (hsolve : ∀ x ∈ s.solver, x.2.handle = none) (hpart : ∀ x ∈ s.age.queue, x.calibration = true ∨ x.running = []) :
    s.switchBlocked = false := by
  simp only [State.switchBlocked, hjob, State.flag_eq_false hswitch, Bool.false_or, Bool.or_eq_false_iff, List.any_eq_false]
  refine ⟨fun x hx => by simp [hsolve x hx], fun x hx => ?_⟩
  rcases hpart x hx with h | h <;> simp [h]

theorem switchBlocked_eq_true {s : State} (h : s.admitted = true ∨ s.rd F.NODE_PROFILE_SWITCHING = 1 ∨
    (∃ x ∈ s.solver, x.2.handle ≠ none) ∨ (∃ x ∈ s.age.queue, x.calibration = false ∧ x.running ≠ [])) :
    s.switchBlocked = true := by
  simp only [State.switchBlocked, Bool.or_eq_true, List.any_eq_true]
  rcases h with hjob | hswitch | ⟨x, hx, hsolve⟩ | ⟨x, hx, hcal, hrun⟩
  · exact .inl (.inl (.inl hjob))
  · exact .inl (.inl (.inr (State.flag_eq_true hswitch)))
  · exact .inl (.inr ⟨x, hx, Option.isSome_iff_ne_none.2 hsolve⟩)
  · exact .inr ⟨x, hx, by simp [hcal, hrun]⟩

section
variable {s : State} {q : Sub} {r : List Sub}

theorem switchBlocked_taken (s : State) (r : List Sub) : (s.taken r).switchBlocked = s.switchBlocked := rfl

theorem exec_setProfile_blocked (hq : s.front q r Op.setProfile) (hb : s.switchBlocked = true) :
    exec .setProfile s = ok ((s.taken r).short q St.busy []) := by
  rw [← switchBlocked_taken s r, State.switchBlocked] at hb
  show execSetProfile s = _
  rw [execSetProfile, withSub_front hq rfl, if_pos hb]

variable (hq : s.front q r Op.setProfile) (hb : s.switchBlocked = false)
include hq hb

theorem exec_setProfile_invalid (hclock : s.profileClock (q.p 0 1) (q.p 2 2) = none) :
    exec .setProfile s = ok ((s.taken r).short q St.badParam []) := by
  have hclock' : (s.taken r).profileClock (q.p 0 1) (q.p 2 2) = none := hclock
  rw [← switchBlocked_taken s r, State.switchBlocked] at hb
  show execSetProfile s = _
  rw [execSetProfile, withSub_front hq rfl, if_neg (ne_true_of_eq_false hb), hclock']

theorem exec_setProfile_inForce (hclock : s.profileClock (q.p 0 1) (q.p 2 2) = some (s.rd F.NODE_PROFILE_TOWER_MHZ))
    (hcode : q.p 0 1 = s.profile) : exec .setProfile s = ok ((s.taken r).short q St.ok []) := by
  have hclock' : (s.taken r).profileClock (q.p 0 1) (q.p 2 2) = some ((s.taken r).rd F.NODE_PROFILE_TOWER_MHZ) := hclock
  have hcode' : q.p 0 1 = (s.taken r).profile := hcode
  rw [← switchBlocked_taken s r, State.switchBlocked] at hb
  show execSetProfile s = _
  rw [execSetProfile, withSub_front hq rfl, if_neg (ne_true_of_eq_false hb), hclock']
  exact congrArg ok (if_pos (by simp [← hcode']))

theorem exec_setProfile_starts {mhz : Nat} (hclock : s.profileClock (q.p 0 1) (q.p 2 2) = some mhz)
    (hother : q.p 0 1 ≠ s.profile ∨ mhz ≠ s.rd F.NODE_PROFILE_TOWER_MHZ) :
    exec .setProfile s = ok (((({ s.taken r with power := { s.power with target := some (q.p 0 1, mhz) } } : State).wr
      F.NODE_PROFILE_SWITCHING 1).collReset (List.range 16)).short q St.ok []) := by
  have hclock' : (s.taken r).profileClock (q.p 0 1) (q.p 2 2) = some mhz := hclock
  have hother' : ¬(q.p 0 1 = (s.taken r).profile && mhz = (s.taken r).rd F.NODE_PROFILE_TOWER_MHZ) = true := by
    simp only [Bool.and_eq_true, decide_eq_true_eq, not_and_or]
    exact hother
  rw [← switchBlocked_taken s r, State.switchBlocked] at hb
  show execSetProfile s = _
  rw [execSetProfile, withSub_front hq rfl, if_neg (ne_true_of_eq_false hb), hclock']
  exact congrArg ok (if_neg hother')

end

/-! ## What a margin plan shows -/

/-- The registers that show a margin plan. -/
def planRegs : List Nat :=
  (List.range 16).map R.AGE_TERRACE ++ (List.range 8).map R.MEM_STACK ++ (List.range 16).map R.MEM_PKG ++
    (List.range 24).map R.AGE_MEM ++ [R.NODE_VARIANT, R.AGE_STATUS, R.AGE_PLAN] ++ [0, 1, 2, 3].map R.AGE_PLAN_DIGEST

theorem ageTerrace_mem_planRegs : ∀ t ∈ List.range 16, R.AGE_TERRACE t ∈ planRegs := by decide
theorem memStack_mem_planRegs : ∀ k ∈ List.range 8, R.MEM_STACK k ∈ planRegs := by decide
theorem memPkg_mem_planRegs : ∀ k ∈ List.range 16, R.MEM_PKG k ∈ planRegs := by decide
theorem ageMem_mem_planRegs : ∀ m ∈ List.range 24, R.AGE_MEM m ∈ planRegs := by decide
theorem agePlanDigest_mem_planRegs : ∀ w ∈ [0, 1, 2, 3], R.AGE_PLAN_DIGEST w ∈ planRegs := by decide

theorem writesOnly_showPlan (s : State) (p : Bytes) (hold : Nat → Option Nat) : WritesOnly planRegs s (s.showPlan p hold) := by
  unfold State.showPlan
  extract_lets prof s1 s2 s3 s4 live s5 s6
  have h1 : WritesOnly planRegs s s1 := writesOnly_forEach _ _ _ fun t ht u =>
    (writesOnly_wr (f := F.AGE_TERRACE_VOLT_MV t) u _ (ageTerrace_mem_planRegs t ht)).wr (f := F.AGE_TERRACE_MAX_MHZ t) _
      (ageTerrace_mem_planRegs t ht)
  have h2 : WritesOnly planRegs s1 s2 := writesOnly_forEach _ _ _ fun k hk u =>
    writesOnly_wr (f := F.MEM_STACK_REFRESH_NS k) u _ (memStack_mem_planRegs k hk)
  have h3 : WritesOnly planRegs s2 s3 := writesOnly_forEach _ _ _ fun k hk u =>
    writesOnly_wr (f := F.MEM_PKG_REFRESH_NS k) u _ (memPkg_mem_planRegs k hk)
  have h4 : WritesOnly planRegs s3 s4 := writesOnly_forEach _ _ _ fun m hm u =>
    writesOnly_wr (f := F.AGE_MEM_REFRESH_NS m) u _ (ageMem_mem_planRegs m hm)
  have h5 : WritesOnly planRegs s4 s5 := writesOnly_wr s4 _ (by decide)
  have h6 : WritesOnly planRegs s5 s6 := (writesOnly_wr (f := F.AGE_STATUS_RETIRED) s5 _ (by decide)).trans
    (writesOnly_wrReg _ _ (by decide))
  exact (((((h1.trans h2).trans h3).trans h4).trans h5).trans h6).trans
    (writesOnly_forEach _ _ _ fun w hw u => writesOnly_wrReg u _ (agePlanDigest_mem_planRegs w hw))

/-! ## PROFILE_SWITCH_COMPLETE -/

/-- What PROFILE_SWITCH_COMPLETE writes before the windows restart: the target's code and clock, and no switch. -/
def State.switchTo (s : State) (code mhz : Nat) : State :=
  ((({ s with power := { s.power with target := none } } : State).wr F.NODE_PROFILE_ACTIVE code).wr
    F.NODE_PROFILE_TOWER_MHZ mhz).wr F.NODE_PROFILE_SWITCHING 0

theorem rd_switchTo_active (s : State) {code : Nat} (mhz : Nat) (h : code < 4) :
    (s.switchTo code mhz).rd F.NODE_PROFILE_ACTIVE = code := by
  rw [State.switchTo, State.rd_wr_apart _ _ (by decide) (by decide), State.rd_wr_apart _ _ (by decide) (by decide),
    State.rd_wr_same _ _ _ (by decide)]
  exact Nat.mod_eq_of_lt h

theorem rd_switchTo_towerMhz (s : State) (code : Nat) {mhz : Nat} (h : mhz < 2 ^ 16) :
    (s.switchTo code mhz).rd F.NODE_PROFILE_TOWER_MHZ = mhz := by
  rw [State.switchTo, State.rd_wr_apart _ _ (by decide) (by decide), State.rd_wr_same _ _ _ (by decide)]
  exact Nat.mod_eq_of_lt h

theorem rd_switchTo_switching (s : State) (code mhz : Nat) : (s.switchTo code mhz).rd F.NODE_PROFILE_SWITCHING = 0 :=
  State.rd_wr_same _ _ _ (by decide)

theorem writesOnly_switchTo (s : State) (code mhz : Nat) :
    WritesOnly [R.NODE_PROFILE] { s with power := { s.power with target := none } } (s.switchTo code mhz) :=
  ((writesOnly_wr _ _ (by decide)).wr _ (by decide)).wr _ (by decide)

@[simp] theorem rd_beginWindow (s : State) (f : Field) : s.beginWindow.rd f = s.rd f := rfl

/-- Windows that begin under the same G differ as the states they begin in. -/
theorem WritesOnly.beginWindow {l : List Nat} {s t : State} (h : WritesOnly l s t) (hl : R.NODE_GATE ∉ l) :
    WritesOnly l s.beginWindow t.beginWindow := by
  have hframe := h.regsFrame
  have hG : t.rd F.NODE_GATE_SLOTS = s.rd F.NODE_GATE_SLOTS := h.rd_eq hl
  refine ⟨?_, h.rdReg_eq⟩
  unfold RegsFrame State.beginWindow at *
  rw [hG, hframe]

/-- The relock counts cycles at most, and begins a window with the G in force. -/
theorem writesOnly_restartWindow (s : State) : WritesOnly [R.NODE_GATE_CYCLES] s.beginWindow s.restartWindow := by
  unfold State.restartWindow
  extract_lets low
  split
  · exact (writesOnly_wr s _ (by decide)).beginWindow (by decide)
  · exact .refl _ _

theorem exec_profileSwitchComplete {s : State} {code mhz : Nat} (h : s.power.target = some (code, mhz)) :
    exec .profileSwitchComplete s = ok ((s.switchTo code mhz).restartWindow.showPlan s.age.plan (fun _ => none)) := by
  show execProfileSwitchComplete s = _
  rw [execProfileSwitchComplete, h]
  rfl

theorem exec_profileSwitchComplete_idle {s : State} (h : s.power.target = none) : exec .profileSwitchComplete s = ok s := by
  show execProfileSwitchComplete s = _
  rw [execProfileSwitchComplete, h]

theorem profileSwitchComplete_does {s : State} {code mhz : Nat} (h : s.power.target = some (code, mhz)) (hcode : code < 4)
    (hmhz : mhz < 2 ^ 16) :
    Does .profileSwitchComplete s (fun t => t.rd F.NODE_PROFILE_ACTIVE = code ∧ t.rd F.NODE_PROFILE_TOWER_MHZ = mhz ∧
      t.rd F.NODE_PROFILE_SWITCHING = 0 ∧ t.power.target = none ∧ t.power.windowG = s.rd F.NODE_GATE_SLOTS ∧ s.keepsMem t ∧
      t.cmd = s.cmd) := by
  refine does_of_ok (exec_profileSwitchComplete h) fun t ht => ?_
  have hrestart := writesOnly_restartWindow (s.switchTo code mhz)
  have hplan := writesOnly_showPlan (s.switchTo code mhz).restartWindow s.age.plan (fun _ => none)
  have hprofile : ∀ f : Field, f.addr = R.NODE_PROFILE → t.rd f = (s.switchTo code mhz).rd f := fun f hf =>
    (hplan.rd_of_ok ht (by rw [hf]; decide) (by rw [hf]; decide)).trans
      ((hrestart.rd_eq (by rw [hf]; decide)).trans (rd_beginWindow _ f))
  have hbegin := ((writesOnly_switchTo s code mhz).beginWindow (by decide)).regsFrame
  have ht' := ((hbegin.trans hrestart.regsFrame).trans hplan.regsFrame).eq_of_ok ht
  refine ⟨(hprofile _ rfl).trans (rd_switchTo_active s mhz hcode), (hprofile _ rfl).trans (rd_switchTo_towerMhz s code hmhz),
    (hprofile _ rfl).trans (rd_switchTo_switching s code mhz), ?_, ?_, ?_, ?_⟩
  · rw [ht']; rfl
  · rw [ht']; rfl
  · rw [ht']; exact ⟨rfl, rfl, rfl⟩
  · rw [ht']; rfl

/-- Settles O6. The replies follow what blocks a switch and the clock asked for; the end of a switch writes the pair, and what
follows it writes no field of NODE_PROFILE. -/
theorem profileSwitch : Obligations.ProfileSwitch := by
  refine ⟨fun s q r hq hjob hswitch hsolve hpart => ?_, fun s q r hq hblocked => ?_,
    fun s code mhz h hcode hmhz => profileSwitchComplete_does h hcode hmhz, fun s h => exec_profileSwitchComplete_idle h⟩
  · have hfree := switchBlocked_eq_false hjob hswitch hsolve hpart
    exact ⟨fun mhz hclock hother => exec_setProfile_starts hq hfree hclock hother,
      fun hclock hcode => exec_setProfile_inForce hq hfree hclock hcode,
      fun hclock => exec_setProfile_invalid hq hfree hclock⟩
  · exact exec_setProfile_blocked hq (switchBlocked_eq_true hblocked)

end Sys2Proof.Machine
end

section
/-! Issue gating, the power backstop and the power cap (R38 to R42). -/

namespace Sys2Proof.Machine

open Sys2Proof

/-! ## G -/

theorem rd_setG_slots (s : State) {g : Nat} (h : g ≤ 64) : (s.setG g).rd F.NODE_GATE_SLOTS = g := by
  rw [State.setG, State.rd_wr_apart _ _ (by decide) (by decide), State.rd_wr_same _ _ _ (by decide)]
  exact Nat.mod_eq_of_lt (lt_of_le_of_lt h (by decide))

theorem rd_setG_slotsMin_le (s : State) (g : Nat) : (s.setG g).rd F.NODE_GATE_SLOTS_MIN ≤ g := by
  rw [State.setG, State.rd_wr_same _ _ _ (by decide)]
  exact (Nat.mod_le _ _).trans (min_le_left _ _)

theorem rd_setG_backstopActive (s : State) (g : Nat) :
    (s.setG g).rd F.NODE_GATE_BACKSTOP_ACTIVE = s.rd F.NODE_GATE_BACKSTOP_ACTIVE := by
  rw [State.setG, State.rd_wr_apart _ _ (by decide) (by decide), State.rd_wr_apart _ _ (by decide) (by decide)]

theorem writesOnly_setG {l : List Nat} (s : State) (g : Nat) (h : R.NODE_GATE ∈ l) : WritesOnly l s (s.setG g) :=
  (writesOnly_wr (f := F.NODE_GATE_SLOTS) s _ h).wr (f := F.NODE_GATE_SLOTS_MIN) _ h

theorem writesOnly_lowerG {l : List Nat} (s : State) (h : R.NODE_GATE ∈ l) : WritesOnly l s s.lowerG := writesOnly_setG s _ h

theorem nextG_ge (gated fixed cap : Nat) : 8 ≤ nextG gated fixed cap := by
  unfold nextG
  split
  · decide
  · split
    · exact le_rfl
    · exact le_min (le_max_right _ _) (by decide)

theorem nextG_le (gated fixed cap : Nat) : nextG gated fixed cap ≤ 64 := by
  unfold nextG
  split
  · exact le_rfl
  · split
    · decide
    · exact min_le_right _ _

/-! ## The end of a window -/

/-- Gated demand at G = 64, from the counts of the window's gated events (R39). -/
def State.windowDemand (s : State) (gated : List (BitVec 32)) : Nat :=
  energy (plWeightG s.power.windowPlan) ((gated.take 32).map (·.toNat)) * s.rd F.NODE_PROFILE_TOWER_MHZ % 2 ^ 64 /
    (64 * s.rd F.NODE_GATE_SLOTS)

/-- The fixed draw of a window: the plan's static draw, and the ungated events (R39). -/
def State.windowFixed (s : State) (ungated : List (BitVec 32)) : Nat :=
  plStatic s.power.windowPlan s.profile ((s.rd F.NODE_PROFILE_TOWER_MHZ - 1100) / 10) +
    energy (plWeightU s.power.windowPlan) ((ungated.take 16).map (·.toNat)) * s.rd F.NODE_PROFILE_TOWER_MHZ % 2 ^ 64 / 4096

/-- The end of a window counts the cycles with G below 64 and shows the estimate. -/
def State.windowShown (s : State) (below est : Nat) : State :=
  (s.incw F.NODE_GATE_CYCLES_CYCLES below).wr F.NODE_POWER_EST_W est

theorem writesOnly_windowShown {l : List Nat} (s : State) (below est : Nat) (hc : R.NODE_GATE_CYCLES ∈ l) (hp : R.NODE_POWER ∈ l) :
    WritesOnly l s (s.windowShown below est) :=
  (writesOnly_wr (f := F.NODE_GATE_CYCLES_CYCLES) s _ hc).wr (f := F.NODE_POWER_EST_W) _ hp

theorem exec_gateWindowEnd (gated ungated : List (BitVec 32)) (s : State) : ∃ below est, exec (.gateWindowEnd gated ungated) s =
    ok (if (s.windowShown below est).flag F.NODE_GATE_BACKSTOP_ACTIVE ||
        (s.windowShown below est).flag F.NODE_THERMAL_BACKSTOP_ACTIVE then s.windowShown below est
      else (s.windowShown below est).setG (nextG (s.windowDemand gated) (s.windowFixed ungated)
        (1000000 * (s.windowShown below est).rd F.NODE_POWER_CAP_CAP_ACTIVE))).beginWindow :=
  ⟨_, _, rfl⟩

theorem exec_gateWindowEnd_sets (gated ungated : List (BitVec 32)) {s : State} (hpower : s.rd F.NODE_GATE_BACKSTOP_ACTIVE = 0)
    (hthermal : s.rd F.NODE_THERMAL_BACKSTOP_ACTIVE = 0) : ∃ below est, exec (.gateWindowEnd gated ungated) s =
      ok ((s.windowShown below est).setG (nextG (s.windowDemand gated) (s.windowFixed ungated)
        (1000000 * s.rd F.NODE_POWER_CAP_CAP_ACTIVE))).beginWindow := by
  obtain ⟨below, est, h⟩ := exec_gateWindowEnd gated ungated s
  have hw : WritesOnly [R.NODE_GATE_CYCLES, R.NODE_POWER] s (s.windowShown below est) :=
    writesOnly_windowShown s below est (by decide) (by decide)
  refine ⟨below, est, h.trans ?_⟩
  rw [hw.flag_eq (by decide), hw.flag_eq (by decide), hw.rd_eq (by decide), State.flag_eq_false hpower,
    State.flag_eq_false hthermal]
  rfl

theorem exec_gateWindowEnd_held (gated ungated : List (BitVec 32)) {s : State} (h : s.rd F.NODE_GATE_BACKSTOP_ACTIVE = 1 ∨
    s.rd F.NODE_THERMAL_BACKSTOP_ACTIVE = 1) : ∃ below est, exec (.gateWindowEnd gated ungated) s =
      ok (s.windowShown below est).beginWindow := by
  obtain ⟨below, est, he⟩ := exec_gateWindowEnd gated ungated s
  have hw : WritesOnly [R.NODE_GATE_CYCLES, R.NODE_POWER] s (s.windowShown below est) :=
    writesOnly_windowShown s below est (by decide) (by decide)
  have hheld : (s.flag F.NODE_GATE_BACKSTOP_ACTIVE || s.flag F.NODE_THERMAL_BACKSTOP_ACTIVE) = true :=
    Bool.or_eq_true_iff.2 (h.imp State.flag_eq_true State.flag_eq_true)
  refine ⟨below, est, he.trans ?_⟩
  rw [hw.flag_eq (by decide), hw.flag_eq (by decide), if_pos hheld]

theorem gateWindowEnd_sets (gated ungated : List (BitVec 32)) {s : State} (hpower : s.rd F.NODE_GATE_BACKSTOP_ACTIVE = 0)
    (hthermal : s.rd F.NODE_THERMAL_BACKSTOP_ACTIVE = 0) : Does (.gateWindowEnd gated ungated) s (fun t =>
      t.rd F.NODE_GATE_SLOTS = nextG (s.windowDemand gated) (s.windowFixed ungated) (1000000 * s.rd F.NODE_POWER_CAP_CAP_ACTIVE) ∧
      8 ≤ t.rd F.NODE_GATE_SLOTS ∧ t.rd F.NODE_GATE_SLOTS ≤ 64 ∧ t.rd F.NODE_GATE_SLOTS_MIN ≤ t.rd F.NODE_GATE_SLOTS ∧
      t.power.windowG = t.rd F.NODE_GATE_SLOTS ∧ t.power.windowPlan = s.age.plan ∧
      s.keepsRegs t [R.NODE_GATE, R.NODE_GATE_CYCLES, R.NODE_POWER] ∧
      t = { s with regs := t.regs, power := t.power, fresh := s.fresh + 1 }) := by
  obtain ⟨below, est, h⟩ := exec_gateWindowEnd_sets gated ungated hpower hthermal
  refine does_of_ok h fun t ht => ?_
  have hge := nextG_ge (s.windowDemand gated) (s.windowFixed ungated) (1000000 * s.rd F.NODE_POWER_CAP_CAP_ACTIVE)
  have hle := nextG_le (s.windowDemand gated) (s.windowFixed ungated) (1000000 * s.rd F.NODE_POWER_CAP_CAP_ACTIVE)
  generalize nextG _ _ _ = g at *
  have hshown : WritesOnly [R.NODE_GATE, R.NODE_GATE_CYCLES, R.NODE_POWER] s (s.windowShown below est) :=
    writesOnly_windowShown s below est (by decide) (by decide)
  have hset := hshown.trans (writesOnly_setG (s.windowShown below est) g (by decide))
  have hslots : ((s.windowShown below est).setG g).rd F.NODE_GATE_SLOTS = g := rd_setG_slots _ hle
  have hmin : ((s.windowShown below est).setG g).rd F.NODE_GATE_SLOTS_MIN ≤ g := rd_setG_slotsMin_le _ g
  generalize (s.windowShown below est).setG g = u at *
  have hG : t.rd F.NODE_GATE_SLOTS = g := (rd_of_ok ht (by decide)).trans hslots
  have hrest : t = { u.beginWindow with regs := t.regs, fresh := u.fresh + 1 } := (RegsFrame.refl _).eq_of_ok ht
  have hu := hset.regsFrame
  unfold RegsFrame at hu
  rw [hG]
  refine ⟨rfl, hge, hle, ?_, ?_, ?_, ?_, ?_⟩
  · exact ((rd_of_ok ht (by decide)).trans (rd_beginWindow u _)).trans_le hmin
  · rw [hrest]; exact hslots
  · rw [hrest]
    show u.age.plan = s.age.plan
    rw [hu]
  · exact keepsRegs_of_ok ht hset.rdReg_eq
  · exact eq_of_ok_power (hset.regsFrame.withPower _) ht

theorem gateWindowEnd_held (gated ungated : List (BitVec 32)) {s : State} (h : s.rd F.NODE_GATE_BACKSTOP_ACTIVE = 1 ∨
    s.rd F.NODE_THERMAL_BACKSTOP_ACTIVE = 1) : Does (.gateWindowEnd gated ungated) s (fun t =>
      t.rd F.NODE_GATE_SLOTS = s.rd F.NODE_GATE_SLOTS ∧ s.keepsRegs t [R.NODE_GATE_CYCLES, R.NODE_POWER]) := by
  obtain ⟨below, est, he⟩ := exec_gateWindowEnd_held gated ungated h
  refine does_of_ok he fun t ht => ?_
  have hw : WritesOnly [R.NODE_GATE_CYCLES, R.NODE_POWER] s (s.windowShown below est) :=
    writesOnly_windowShown s below est (by decide) (by decide)
  exact ⟨((rd_of_ok ht (by decide)).trans (rd_beginWindow _ _)).trans (hw.rd_eq (by decide)),
    keepsRegs_of_ok ht hw.rdReg_eq⟩

/-! ## The backstop -/

theorem rd_lowerG_slots (s : State) : s.lowerG.rd F.NODE_GATE_SLOTS = max (s.rd F.NODE_GATE_SLOTS - 8) 8 := by
  have hfits : s.rd F.NODE_GATE_SLOTS < 2 ^ 7 := State.rd_lt s _
  rw [State.lowerG, State.setG, State.rd_wr_apart _ _ (by decide) (by decide), State.rd_wr_same _ _ _ (by decide)]
  exact Nat.mod_eq_of_lt (show _ < 2 ^ 7 by omega)

theorem backstop_of_above {s : State} (h : 8 < s.rd F.NODE_GATE_SLOTS) : s.backstop = s.lowerG := if_neg (not_le.2 h)

theorem backstop_of_lowest {s : State} (h : s.rd F.NODE_GATE_SLOTS ≤ 8) : s.backstop = s.ev F.NODE_PROFILE_EVENTS_CAP_UNMET :=
  if_pos h

theorem exec_backstopStep_idle {s : State} (h : s.rd F.NODE_GATE_BACKSTOP_ACTIVE = 0) : exec .backstopStep s = ok s :=
  if_pos (by rw [State.flag_eq_false h]; rfl)

section
variable {s : State} (hactive : s.rd F.NODE_GATE_BACKSTOP_ACTIVE = 1)
include hactive

theorem exec_backstopStep_met (h : s.power.avgW ≤ s.rd F.NODE_POWER_CAP_CAP_ACTIVE) :
    exec .backstopStep s = ok (s.wr F.NODE_GATE_BACKSTOP_ACTIVE 0) :=
  (if_neg (by simp [State.flag_eq_true hactive])).trans (if_pos h)

theorem exec_backstopStep_unmet (h : s.rd F.NODE_POWER_CAP_CAP_ACTIVE < s.power.avgW) : exec .backstopStep s = ok s.backstop :=
  (if_neg (by simp [State.flag_eq_true hactive])).trans (if_neg (not_le.2 h))

theorem backstopStep_met (h : s.power.avgW ≤ s.rd F.NODE_POWER_CAP_CAP_ACTIVE) : Does .backstopStep s (fun t =>
    t.rd F.NODE_GATE_BACKSTOP_ACTIVE = 0 ∧ t.rd F.NODE_GATE_SLOTS = s.rd F.NODE_GATE_SLOTS ∧ s.keepsRegs t [R.NODE_GATE]) := by
  refine does_of_ok (exec_backstopStep_met hactive h) fun t ht => ⟨?_, ?_, ?_⟩
  · exact (rd_of_ok ht (by decide)).trans (State.rd_wr_same _ _ _ (by decide))
  · exact (rd_of_ok ht (by decide)).trans (State.rd_wr_apart _ _ (by decide) (by decide))
  · exact (writesOnly_wr s 0 (by decide)).keepsRegs_of_ok ht

theorem backstopStep_lowers (h : s.rd F.NODE_POWER_CAP_CAP_ACTIVE < s.power.avgW) (hG : 8 < s.rd F.NODE_GATE_SLOTS) :
    Does .backstopStep s (fun t => t.rd F.NODE_GATE_SLOTS = max (s.rd F.NODE_GATE_SLOTS - 8) 8 ∧
      t.rd F.NODE_GATE_BACKSTOP_ACTIVE = 1 ∧ s.keepsRegs t [R.NODE_GATE]) := by
  refine does_of_ok (exec_backstopStep_unmet hactive h) fun t ht => ?_
  rw [backstop_of_above hG] at ht
  refine ⟨?_, ?_, ?_⟩
  · exact (rd_of_ok ht (by decide)).trans (rd_lowerG_slots s)
  · exact ((rd_of_ok ht (by decide)).trans (rd_setG_backstopActive s _)).trans hactive
  · exact (writesOnly_lowerG s (by decide)).keepsRegs_of_ok ht

theorem backstopStep_lowest (h : s.rd F.NODE_POWER_CAP_CAP_ACTIVE < s.power.avgW) (hG : s.rd F.NODE_GATE_SLOTS ≤ 8) :
    Does .backstopStep s (fun t => t.rd F.NODE_PROFILE_EVENTS_CAP_UNMET = 1 ∧ s.keepsRegs t [R.NODE_PROFILE_EVENTS]) := by
  refine does_of_ok (exec_backstopStep_unmet hactive h) fun t ht => ?_
  rw [backstop_of_lowest hG] at ht
  exact ⟨(rd_of_ok ht (by decide)).trans (State.rd_wr_same _ _ _ (by decide)),
    (writesOnly_wr s 1 (by decide)).keepsRegs_of_ok ht⟩

end

/-! ## The power averages -/

/-- The averages of the input power kept and shown. -/
def State.averagesShown (s : State) (avg input : Nat) : State :=
  (({ s with power := { s.power with avgW := avg } } : State).wr F.NODE_POWER_INPUT_W input).wr F.NODE_POWER_PEAK_INPUT_W
    (max input (s.rd F.NODE_POWER_PEAK_INPUT_W))

theorem writesOnly_averagesShown {l : List Nat} (s : State) (avg input : Nat) (h : R.NODE_POWER ∈ l) :
    WritesOnly l { s with power := { s.power with avgW := avg } } (s.averagesShown avg input) :=
  (writesOnly_wr (f := F.NODE_POWER_INPUT_W) _ _ h).wr (f := F.NODE_POWER_PEAK_INPUT_W) _ h

theorem rd_averagesShown_input (s : State) (avg : Nat) (input : BitVec 16) :
    (s.averagesShown avg input.toNat).rd F.NODE_POWER_INPUT_W = input.toNat := by
  rw [State.averagesShown, State.rd_wr_apart _ _ (by decide) (by decide), State.rd_wr_same _ _ _ (by decide)]
  exact Nat.mod_eq_of_lt input.isLt

theorem rd_averagesShown_peak (s : State) (avg : Nat) (input : BitVec 16) :
    (s.averagesShown avg input.toNat).rd F.NODE_POWER_PEAK_INPUT_W = max input.toNat (s.rd F.NODE_POWER_PEAK_INPUT_W) := by
  rw [State.averagesShown, State.rd_wr_same _ _ _ (by decide)]
  exact Nat.mod_eq_of_lt (max_lt input.isLt (State.rd_lt s F.NODE_POWER_PEAK_INPUT_W))

theorem rd_averagesShown (s : State) (avg input : Nat) {f : Field} (hf : f.addr ∉ [R.NODE_POWER]) :
    (s.averagesShown avg input).rd f = s.rd f :=
  (writesOnly_averagesShown s avg input (by decide)).rd_eq hf

/-- The backstop engages: the flag and its event. -/
def State.engageBackstop (s : State) : State := (s.wr F.NODE_GATE_BACKSTOP_ACTIVE 1).ev F.NODE_PROFILE_EVENTS_BACKSTOP

theorem writesOnly_engageBackstop {l : List Nat} (s : State) (hg : R.NODE_GATE ∈ l) (he : R.NODE_PROFILE_EVENTS ∈ l) :
    WritesOnly l s s.engageBackstop :=
  (writesOnly_wr (f := F.NODE_GATE_BACKSTOP_ACTIVE) s 1 hg).wr (f := F.NODE_PROFILE_EVENTS_BACKSTOP) 1 he

theorem rd_engageBackstop_slots (s : State) : s.engageBackstop.rd F.NODE_GATE_SLOTS = s.rd F.NODE_GATE_SLOTS := by
  rw [State.engageBackstop, State.ev, State.rd_wr_apart _ _ (by decide) (by decide),
    State.rd_wr_apart _ _ (by decide) (by decide)]

theorem rd_engageBackstop_active (s : State) : s.engageBackstop.rd F.NODE_GATE_BACKSTOP_ACTIVE = 1 := by
  rw [State.engageBackstop, State.ev, State.rd_wr_apart _ _ (by decide) (by decide), State.rd_wr_same _ _ _ (by decide)]
  rfl

theorem rd_engageBackstop_event (s : State) : s.engageBackstop.rd F.NODE_PROFILE_EVENTS_BACKSTOP = 1 :=
  State.rd_wr_same _ _ _ (by decide)

theorem exec_powerAverageUpdate (avg input : BitVec 16) (s : State) : exec (.powerAverageUpdate avg input) s =
    if !(s.averagesShown avg.toNat input.toNat).flag F.NODE_GATE_BACKSTOP_ACTIVE &&
        105 * (s.averagesShown avg.toNat input.toNat).rd F.NODE_POWER_CAP_CAP_ACTIVE < 100 * avg.toNat then
      ok (s.averagesShown avg.toNat input.toNat).engageBackstop.backstop
    else ok (s.averagesShown avg.toNat input.toNat) := rfl

theorem exec_powerAverageUpdate_engages {avg : BitVec 16} (input : BitVec 16) {s : State}
    (hidle : s.rd F.NODE_GATE_BACKSTOP_ACTIVE = 0) (hcap : 105 * s.rd F.NODE_POWER_CAP_CAP_ACTIVE < 100 * avg.toNat)
    (hG : 8 < s.rd F.NODE_GATE_SLOTS) : exec (.powerAverageUpdate avg input) s =
      ok (s.averagesShown avg.toNat input.toNat).engageBackstop.lowerG := by
  rw [exec_powerAverageUpdate, if_pos, backstop_of_above]
  · rw [rd_engageBackstop_slots, rd_averagesShown _ _ _ (by decide)]
    exact hG
  · rw [State.flag, rd_averagesShown _ _ _ (by decide), rd_averagesShown _ _ _ (by decide), hidle]
    simpa using hcap

theorem exec_powerAverageUpdate_shows {avg : BitVec 16} (input : BitVec 16) {s : State}
    (h : s.rd F.NODE_GATE_BACKSTOP_ACTIVE = 1 ∨ 100 * avg.toNat ≤ 105 * s.rd F.NODE_POWER_CAP_CAP_ACTIVE) :
    exec (.powerAverageUpdate avg input) s = ok (s.averagesShown avg.toNat input.toNat) := by
  rw [exec_powerAverageUpdate, if_neg]
  rw [State.flag, rd_averagesShown _ _ _ (by decide), rd_averagesShown _ _ _ (by decide)]
  rcases h with h | h
  · simp [h]
  · simp [not_lt.2 h]

theorem powerAverageUpdate_engages {avg : BitVec 16} (input : BitVec 16) {s : State}
    (hidle : s.rd F.NODE_GATE_BACKSTOP_ACTIVE = 0) (hcap : 105 * s.rd F.NODE_POWER_CAP_CAP_ACTIVE < 100 * avg.toNat)
    (hG : 8 < s.rd F.NODE_GATE_SLOTS) : Does (.powerAverageUpdate avg input) s (fun t => t.rd F.NODE_GATE_BACKSTOP_ACTIVE = 1 ∧
      t.rd F.NODE_PROFILE_EVENTS_BACKSTOP = 1 ∧ t.rd F.NODE_GATE_SLOTS = max (s.rd F.NODE_GATE_SLOTS - 8) 8 ∧
      t.rd F.NODE_POWER_INPUT_W = input.toNat ∧ t.power.avgW = avg.toNat ∧
      s.keepsRegs t [R.NODE_GATE, R.NODE_POWER, R.NODE_PROFILE_EVENTS] ∧
      t = { s with regs := t.regs, power := t.power, fresh := s.fresh + 1 }) := by
  refine does_of_ok (exec_powerAverageUpdate_engages input hidle hcap hG) fun t ht => ?_
  have hshown : WritesOnly [R.NODE_GATE, R.NODE_POWER, R.NODE_PROFILE_EVENTS] { s with power := { s.power with avgW := avg.toNat } }
    (s.averagesShown avg.toNat input.toNat) := writesOnly_averagesShown s _ _ (by decide)
  have hslots : (s.averagesShown avg.toNat input.toNat).rd F.NODE_GATE_SLOTS = s.rd F.NODE_GATE_SLOTS :=
    rd_averagesShown s _ _ (by decide)
  have hinput := rd_averagesShown_input s avg.toNat input
  generalize s.averagesShown avg.toNat input.toNat = v at *
  have hengaged : WritesOnly [R.NODE_GATE, R.NODE_PROFILE_EVENTS] v v.engageBackstop :=
    writesOnly_engageBackstop v (by decide) (by decide)
  have hlowered : WritesOnly [R.NODE_GATE] v.engageBackstop v.engageBackstop.lowerG := writesOnly_lowerG _ (by decide)
  have hall := (hshown.trans (writesOnly_engageBackstop v (by decide) (by decide))).trans (writesOnly_lowerG _ (by decide))
  refine ⟨?_, ?_, ?_, ?_, ?_, keepsRegs_of_ok ht hall.rdReg_eq, eq_of_ok_power hall.regsFrame ht⟩
  · exact ((rd_of_ok ht (by decide)).trans (rd_setG_backstopActive _ _)).trans (rd_engageBackstop_active v)
  · exact (hlowered.rd_of_ok ht (by decide) (by decide)).trans (rd_engageBackstop_event v)
  · rw [rd_of_ok ht (by decide), rd_lowerG_slots, rd_engageBackstop_slots, hslots]
  · exact ((hlowered.rd_of_ok ht (by decide) (by decide)).trans (hengaged.rd_eq (by decide))).trans hinput
  · rw [power_of_ok hall.regsFrame ht]

theorem powerAverageUpdate_shows {avg : BitVec 16} (input : BitVec 16) {s : State}
    (h : s.rd F.NODE_GATE_BACKSTOP_ACTIVE = 1 ∨ 100 * avg.toNat ≤ 105 * s.rd F.NODE_POWER_CAP_CAP_ACTIVE) :
    Does (.powerAverageUpdate avg input) s (fun t => t.rd F.NODE_POWER_INPUT_W = input.toNat ∧
      t.rd F.NODE_POWER_PEAK_INPUT_W = max input.toNat (s.rd F.NODE_POWER_PEAK_INPUT_W) ∧ t.power.avgW = avg.toNat ∧
      s.keepsRegs t [R.NODE_POWER]) := by
  refine does_of_ok (exec_powerAverageUpdate_shows input h) fun t ht => ?_
  have hshown : WritesOnly [R.NODE_POWER] { s with power := { s.power with avgW := avg.toNat } }
    (s.averagesShown avg.toNat input.toNat) := writesOnly_averagesShown s _ _ (by decide)
  exact ⟨(rd_of_ok ht (by decide)).trans (rd_averagesShown_input s _ input),
    (rd_of_ok ht (by decide)).trans (rd_averagesShown_peak s _ input), congrArg Power.avgW (power_of_ok hshown.regsFrame ht),
    keepsRegs_of_ok ht hshown.rdReg_eq⟩

/-! ## The power cap -/

/-- The cap a write to CAP_W asks for, clamped to 1,200 W and LIMIT_W (R42). -/
def State.clampCap (s : State) (v : Nat) : Nat := min (max v 1200) (s.rd F.NODE_VARIANT_LIMIT_W)

theorem clampCap_lt (s : State) (v : Nat) : s.clampCap v < 2 ^ 16 :=
  lt_of_le_of_lt (min_le_right _ _) (State.rd_lt s F.NODE_VARIANT_LIMIT_W)

/-- A write to CAP_W as it is stored, with its event if it was clamped. -/
def State.capStored (s : State) (v : Nat) : State :=
  (if s.clampCap v = v then s else s.ev F.NODE_PROFILE_EVENTS_CAP_CLAMPED).wr F.NODE_POWER_CAP_CAP_W (s.clampCap v)

theorem writesOnly_capStored (s : State) (v : Nat) :
    WritesOnly [R.NODE_POWER_CAP, R.NODE_PROFILE_EVENTS] s (s.capStored v) := by
  unfold State.capStored
  split
  · exact writesOnly_wr s _ (by decide)
  · exact (writesOnly_wr (f := F.NODE_PROFILE_EVENTS_CAP_CLAMPED) s 1 (by decide)).wr _ (by decide)

theorem rd_capStored_cap (s : State) (v : Nat) : (s.capStored v).rd F.NODE_POWER_CAP_CAP_W = s.clampCap v :=
  (State.rd_wr_same _ _ _ (by decide)).trans (Nat.mod_eq_of_lt (clampCap_lt s v))

theorem rd_capStored_active (s : State) (v : Nat) :
    (s.capStored v).rd F.NODE_POWER_CAP_CAP_ACTIVE = s.rd F.NODE_POWER_CAP_CAP_ACTIVE := by
  refine (State.rd_wr_apart _ _ (by decide) (by decide)).trans ?_
  split
  · rfl
  · exact State.rd_wr_apart _ _ (by decide) (by decide)

theorem rd_capStored_clamped (s : State) (v : Nat) : (s.capStored v).rd F.NODE_PROFILE_EVENTS_CAP_CLAMPED =
    if s.clampCap v = v then s.rd F.NODE_PROFILE_EVENTS_CAP_CLAMPED else 1 := by
  refine (State.rd_wr_apart _ _ (by decide) (by decide)).trans ?_
  split
  · rfl
  · exact State.rd_wr_same _ _ _ (by decide)

theorem capWrite_eq (s : State) (v : Nat) : s.capWrite v = if (s.capStored v).admitted then
    { s.capStored v with power := { (s.capStored v).power with capWaiting := true } }
    else (s.capStored v).wr F.NODE_POWER_CAP_CAP_ACTIVE (s.clampCap v) := rfl

theorem capStored_admitted (s : State) (v : Nat) : (s.capStored v).admitted = s.admitted := by
  rw [State.admitted, (writesOnly_capStored s v).regsFrame]; rfl

theorem rd_capWrite_cap (s : State) (v : Nat) : (s.capWrite v).rd F.NODE_POWER_CAP_CAP_W = s.clampCap v := by
  rw [capWrite_eq]
  split
  · exact rd_capStored_cap s v
  · exact (State.rd_wr_apart _ _ (by decide) (by decide)).trans (rd_capStored_cap s v)

theorem rd_capWrite_clamped (s : State) (v : Nat) : (s.capWrite v).rd F.NODE_PROFILE_EVENTS_CAP_CLAMPED =
    if s.clampCap v = v then s.rd F.NODE_PROFILE_EVENTS_CAP_CLAMPED else 1 := by
  rw [capWrite_eq]
  split
  · exact rd_capStored_clamped s v
  · exact (State.rd_wr_apart _ _ (by decide) (by decide)).trans (rd_capStored_clamped s v)

theorem writesOnly_capWrite (s : State) (v : Nat) : WritesOnly [R.NODE_POWER_CAP, R.NODE_PROFILE_EVENTS]
    { s with power := (s.capWrite v).power } (s.capWrite v) := by
  have hstored := writesOnly_capStored s v
  rw [capWrite_eq]
  split
  · exact ⟨hstored.regsFrame.withPower _, hstored.rdReg_eq⟩
  · have hall := hstored.wr (f := F.NODE_POWER_CAP_CAP_ACTIVE) (s.clampCap v) (by decide)
    rw [hall.regsFrame.power_eq]
    exact hall

theorem capWrite_inForce {s : State} (v : Nat) (hjob : s.job = none) :
    (s.capWrite v).rd F.NODE_POWER_CAP_CAP_ACTIVE = s.clampCap v ∧ (s.capWrite v).power = s.power := by
  have hfree : ¬(s.capStored v).admitted = true := by rw [capStored_admitted, State.admitted, hjob]; decide
  rw [capWrite_eq, if_neg hfree]
  refine ⟨(State.rd_wr_same _ _ _ (by decide)).trans (Nat.mod_eq_of_lt (clampCap_lt s v)), ?_⟩
  exact (writesOnly_capStored s v).regsFrame.power_eq

theorem capWrite_waits {s : State} (v : Nat) (hjob : s.job ≠ none) :
    (s.capWrite v).rd F.NODE_POWER_CAP_CAP_ACTIVE = s.rd F.NODE_POWER_CAP_CAP_ACTIVE ∧
      (s.capWrite v).power.capWaiting = true := by
  have hadmitted : (s.capStored v).admitted = true := by
    rw [capStored_admitted]; exact Option.isSome_iff_ne_none.2 hjob
  rw [capWrite_eq, if_pos hadmitted]
  exact ⟨rd_capStored_active s v, rfl⟩

theorem nodePowerCapWrite_does (w : BitVec 16) (s : State) : Does (.nodePowerCapWrite w) s (fun t =>
    t.rd F.NODE_POWER_CAP_CAP_W = s.clampCap w.toNat ∧
    (s.job = none → t.rd F.NODE_POWER_CAP_CAP_ACTIVE = s.clampCap w.toNat ∧ t.power = s.power) ∧
    (s.job ≠ none → t.rd F.NODE_POWER_CAP_CAP_ACTIVE = s.rd F.NODE_POWER_CAP_CAP_ACTIVE ∧ t.power.capWaiting = true) ∧
    (s.clampCap w.toNat ≠ w.toNat → t.rd F.NODE_PROFILE_EVENTS_CAP_CLAMPED = 1) ∧
    (s.clampCap w.toNat = w.toNat → t.rd F.NODE_PROFILE_EVENTS_CAP_CLAMPED = s.rd F.NODE_PROFILE_EVENTS_CAP_CLAMPED) ∧
    s.keepsRegs t [R.NODE_POWER_CAP, R.NODE_PROFILE_EVENTS] ∧ t = { s with regs := t.regs, power := t.power, fresh := s.fresh + 1 }) := by
  refine does_of_ok (u := s.capWrite w.toNat) rfl fun t ht => ?_
  have hw := writesOnly_capWrite s w.toNat
  have hpower : t.power = (s.capWrite w.toNat).power := power_of_ok hw.regsFrame ht
  have hactive : t.rd F.NODE_POWER_CAP_CAP_ACTIVE = (s.capWrite w.toNat).rd F.NODE_POWER_CAP_CAP_ACTIVE :=
    rd_of_ok ht (by decide)
  have hclamped := (rd_of_ok ht (f := F.NODE_PROFILE_EVENTS_CAP_CLAMPED) (by decide)).trans (rd_capWrite_clamped s w.toNat)
  rw [hpower, hactive]
  exact ⟨(rd_of_ok ht (by decide)).trans (rd_capWrite_cap s w.toNat), capWrite_inForce w.toNat, capWrite_waits w.toNat,
    fun h => hclamped.trans (if_neg h), fun h => hclamped.trans (if_pos h), keepsRegs_of_ok ht hw.rdReg_eq,
    hw.regsFrame.eq_of_ok ht⟩

theorem capBoundary_inForce {s : State} (h : s.power.capWaiting = true) :
    s.capBoundary.rd F.NODE_POWER_CAP_CAP_ACTIVE = s.rd F.NODE_POWER_CAP_CAP_W ∧ s.capBoundary.power.capWaiting = false := by
  have hboundary : s.capBoundary = ({ s with power := { s.power with capWaiting := false } } : State).wr F.NODE_POWER_CAP_CAP_ACTIVE
      (s.rd F.NODE_POWER_CAP_CAP_W) := if_neg (by simp [h])
  rw [hboundary]
  exact ⟨(State.rd_wr_same _ _ _ (by decide)).trans (Nat.mod_eq_of_lt (State.rd_lt s F.NODE_POWER_CAP_CAP_W)), rfl⟩

/-- Settles O7. The end of a window, the averages, the backstop's steps, the write to CAP_W and the boundary, each by its cases. -/
theorem gateBackstopAndPowerCap : Obligations.GateBackstopAndPowerCap :=
  ⟨⟨fun gated ungated _ hpower hthermal => gateWindowEnd_sets gated ungated hpower hthermal,
      fun gated ungated _ h => gateWindowEnd_held gated ungated h,
      fun _ input _ hidle hcap hG => powerAverageUpdate_engages input hidle hcap hG,
      fun _ input _ h => powerAverageUpdate_shows input h,
      fun _ hactive h => backstopStep_met hactive h,
      fun _ hactive h hG => backstopStep_lowers hactive h hG,
      fun _ hactive h hG => backstopStep_lowest hactive h hG,
      fun _ h => exec_backstopStep_idle h⟩,
    nodePowerCapWrite_does, fun _ h => capBoundary_inForce h⟩

end Sys2Proof.Machine
end

section
/-! Partial resets, the full module reset and FW_ACTIVATE (R31, R100, R407, R409, R437). -/

namespace Sys2Proof.Machine

open Sys2Proof

/-! ## RESET_SCOPE -/

section
variable {u : State} {q : Sub} {ts : Nat → List Nat} {off : Nat → Bool}

theorem resetScope_busy (h : u.ready = false ∨ u.preset ≠ none ∨ u.flag F.NODE_PROFILE_SWITCHING = true) :
    u.resetScope q ts off = u.short q St.busy [] := by
  refine if_pos ?_
  simp only [Bool.or_eq_true, Bool.not_eq_true']
  rcases h with hready | hreset | hswitch
  · exact .inl (.inl hready)
  · exact .inl (.inr (Option.isSome_iff_ne_none.2 hreset))
  · exact .inr hswitch

variable (hready : u.ready = true) (hidle : u.preset = none) (hswitch : u.flag F.NODE_PROFILE_SWITCHING = false)
include hready hidle hswitch

theorem resetScope_free : u.resetScope q ts off =
    if off (q.p 1 1) then u.short q St.ok [] else (u.short q St.ok []).resetBegin (q.p 0 1) (q.p 1 1) (ts (q.p 1 1)) := by
  refine if_neg ?_
  simp [hready, hidle, hswitch]

theorem resetScope_off (hoff : off (q.p 1 1) = true) : u.resetScope q ts off = u.short q St.ok [] :=
  (resetScope_free hready hidle hswitch).trans (if_pos hoff)

theorem resetScope_begins (hoff : off (q.p 1 1) = false) :
    u.resetScope q ts off = (u.short q St.ok []).resetBegin (q.p 0 1) (q.p 1 1) (ts (q.p 1 1)) :=
  (resetScope_free hready hidle hswitch).trans (if_neg (ne_true_of_eq_false hoff))

end

/-- A terrace whose reset has nothing to do: without power, or retired. -/
def State.resetOff (s : State) (t : Nat) : Bool := !s.powered t || bit (s.rd F.AGE_STATUS_RETIRED) t

section
variable {s u : State} {q : Sub} (hq : s.takes q Op.resetScope u)
include hq

theorem exec_terraceComputeReset (hscope : q.p 0 1 = 0) (hindex : q.p 1 1 ≤ 15) :
    exec .terraceComputeReset s = ok (u.resetScope q u.members u.resetOff) := by
  show execTerraceComputeReset s = _
  rw [execTerraceComputeReset, withSub_takes hq (by simp [hscope]), if_neg (by simp [hscope, hindex])]
  rfl

theorem exec_terraceComputeReset_badParam (h : 3 < q.p 0 1 ∨ q.p 0 1 = 0 ∧ 15 < q.p 1 1) :
    exec .terraceComputeReset s = ok (u.short q St.badParam []) := by
  show execTerraceComputeReset s = _
  rw [execTerraceComputeReset, withSub_takes hq, if_pos]
  · simpa using h.imp_right And.right
  · simpa using h.symm.imp_left And.left

theorem exec_towerDieComputeReset (hscope : q.p 0 1 = 1) (hindex : q.p 1 1 ≤ 1) : exec .towerDieComputeReset s =
    ok (u.resetScope q (fun d => if u.sealed then List.range 16 else (List.range 8).map (fun k => 8 * d + k)) (fun _ => false)) := by
  show execTowerDieComputeReset s = _
  rw [execTowerDieComputeReset, withSub_takes hq (by simp [hscope]), if_neg (not_lt.2 hindex)]

theorem exec_towerDieComputeReset_badParam (hscope : q.p 0 1 = 1) (hindex : 1 < q.p 1 1) :
    exec .towerDieComputeReset s = ok (u.short q St.badParam []) := by
  show execTowerDieComputeReset s = _
  rw [execTowerDieComputeReset, withSub_takes hq (by simp [hscope]), if_pos hindex]

theorem exec_nodeComputeReset (hscope : q.p 0 1 = 2) (hindex : q.p 1 1 = 0) : exec .nodeComputeReset s =
    ok (u.resetScope q (fun _ => List.range 16) (fun _ => false)) := by
  show execNodeComputeReset s = _
  rw [execNodeComputeReset, withSub_takes hq (by simp [hscope]), if_neg (by simp [hindex])]

theorem exec_nodeComputeReset_badParam (hscope : q.p 0 1 = 2) (hindex : q.p 1 1 ≠ 0) :
    exec .nodeComputeReset s = ok (u.short q St.badParam []) := by
  show execNodeComputeReset s = _
  rw [execNodeComputeReset, withSub_takes hq (by simp [hscope]), if_pos (by simpa using hindex)]

theorem exec_fullModuleReset (hscope : q.p 0 1 = 3) (hindex : q.p 1 1 = 0) :
    exec .fullModuleReset s = ok ((u.short q St.ok []).fullReset 1) := by
  show execFullModuleReset s = _
  rw [execFullModuleReset, withSub_takes hq (by simp [hscope]), if_neg (by simp [hindex])]

theorem exec_fullModuleReset_badParam (hscope : q.p 0 1 = 3) (hindex : q.p 1 1 ≠ 0) :
    exec .fullModuleReset s = ok (u.short q St.badParam []) := by
  show execFullModuleReset s = _
  rw [execFullModuleReset, withSub_takes hq (by simp [hscope]), if_pos (by simpa using hindex)]

/-- What RESET_SCOPE comes to at a node that is at B11 and at work on no reset or switch. -/
theorem resetScope_starts (hready : u.ready = true) (hidle : u.preset = none) (hswitch : u.flag F.NODE_PROFILE_SWITCHING = false) :
    (q.p 0 1 = 0 → q.p 1 1 ≤ 15 → u.powered (q.p 1 1) = true → bit (u.rd F.AGE_STATUS_RETIRED) (q.p 1 1) = false →
      exec .terraceComputeReset s = ok ((u.short q St.ok []).resetBegin 0 (q.p 1 1) (u.members (q.p 1 1)))) ∧
    (q.p 0 1 = 0 → q.p 1 1 ≤ 15 → (u.powered (q.p 1 1) = false ∨ bit (u.rd F.AGE_STATUS_RETIRED) (q.p 1 1) = true) →
      exec .terraceComputeReset s = ok (u.short q St.ok [])) ∧
    (q.p 0 1 = 1 → q.p 1 1 ≤ 1 → u.sealed = false → exec .towerDieComputeReset s =
      ok ((u.short q St.ok []).resetBegin 1 (q.p 1 1) ((List.range 8).map (fun k => 8 * q.p 1 1 + k)))) ∧
    (q.p 0 1 = 1 → q.p 1 1 ≤ 1 → u.sealed = true →
      exec .towerDieComputeReset s = ok ((u.short q St.ok []).resetBegin 1 (q.p 1 1) (List.range 16))) ∧
    (q.p 0 1 = 2 → q.p 1 1 = 0 → exec .nodeComputeReset s = ok ((u.short q St.ok []).resetBegin 2 0 (List.range 16))) := by
  refine ⟨fun hscope hindex hpower hretired => ?_, fun hscope hindex hoff => ?_, fun hscope hindex hsealed => ?_,
    fun hscope hindex hsealed => ?_, fun hscope hindex => ?_⟩
  · rw [exec_terraceComputeReset hq hscope hindex, resetScope_begins hready hidle hswitch, hscope]
    rw [State.resetOff, hpower, hretired]
    rfl
  · rw [exec_terraceComputeReset hq hscope hindex, resetScope_off hready hidle hswitch]
    rcases hoff with h | h <;> simp [State.resetOff, h]
  · rw [exec_towerDieComputeReset hq hscope hindex, resetScope_begins hready hidle hswitch rfl, hscope, hsealed]
    rfl
  · rw [exec_towerDieComputeReset hq hscope hindex, resetScope_begins hready hidle hswitch rfl, hscope, hsealed]
    rfl
  · rw [exec_nodeComputeReset hq hscope hindex, resetScope_begins hready hidle hswitch rfl, hscope, hindex]

end

theorem preset_resetBegin (s : State) (scope i : Nat) (ts : List Nat) : (s.resetBegin scope i ts).preset =
    some ⟨scope, i, ts, ts.filter (fun t => s.rd (F.SCHED_STATUS_STATE t) == 2)⟩ := by
  unfold State.resetBegin
  rfl

/-! ## PARTIAL_RESET_END -/

/-- The masks of a partial reset cleared. -/
def State.resetMasksCleared (s : State) : State :=
  ((({ s with preset := none } : State).wr F.NODE_RESET_TERRACES 0).wr F.NODE_RESET_TOWERS 0).wr F.NODE_RESET_NODE 0

/-- A terrace whose partial reset ends: out of the job idle, else halted if it was, else waiting for the next boundary. -/
def releaseTerrace (p : PartialReset) (t : Nat) (x : State) : State :=
  ((x.wr (F.SCHED_STATUS_STATE t) (if bit x.jobMask t = false then 0 else if p.halted.contains t then 2 else 1)).settlePower
    t).startParts t

theorem exec_partialResetEnd {s : State} {p : PartialReset} (h : s.preset = some p) : exec .partialResetEnd s =
    ok (if p.scope = 2 then (forEach p.terraces s.resetMasksCleared (releaseTerrace p)).startHart0
      else forEach p.terraces s.resetMasksCleared (releaseTerrace p)) := by
  show execPartialResetEnd s = _
  rw [execPartialResetEnd, h]
  simp only [Bool.not_eq_true']
  rfl

theorem exec_partialResetEnd_idle {s : State} (h : s.preset = none) : exec .partialResetEnd s = ok s := by
  show execPartialResetEnd s = _
  rw [execPartialResetEnd, h]

/-! ## FW_ACTIVATE -/

section
variable {s u : State} {q : Sub} (hq : s.takes q Op.fwActivate u)
include hq

theorem exec_fwActivate_refused (h : u.fwActivateCheck (q.p 0 1) (q.p 1 1) ≠ St.ok) :
    exec .fwActivate s = ok (u.short q (u.fwActivateCheck (q.p 0 1) (q.p 1 1)) []) := by
  show execFwActivate s = _
  rw [execFwActivate, withSub_takes hq rfl]
  exact congrArg ok (if_pos (by simpa using h))

theorem exec_fwActivate_commits (h : u.fwActivateCheck (q.p 0 1) (q.p 1 1) = St.ok) : exec .fwActivate s =
    ok (if q.p 1 1 = 1 then ((u.fwCommit (q.p 0 1)).short q St.ok []).fullReset 3 else (u.fwCommit (q.p 0 1)).short q St.ok []) := by
  show execFwActivate s = _
  rw [execFwActivate, withSub_takes hq rfl]
  exact congrArg ok (if_neg (by simp [h]))

end

/-! ## The full module reset -/

theorem rd_fullReset_cause (s : State) {c : Nat} (h : c < 8) : (s.fullReset c).rd F.NODE_RESET_CAUSE = c :=
  (State.rd_wr_same _ _ _ (by decide)).trans (Nat.mod_eq_of_lt h)

/-- Settles O56. Each scope's row comes down to `State.resetScope` with its terraces; the other rows to their own cases. -/
theorem resetsAndActivation : Obligations.ResetsAndActivation := by
  refine ⟨?_, fun s u q hq hbusy => ⟨fun hscope hindex => ?_, fun hscope hindex => ?_, fun hscope hindex => ?_⟩,
    fun s u q hq => ⟨exec_terraceComputeReset_badParam hq, exec_towerDieComputeReset_badParam hq,
      exec_nodeComputeReset_badParam hq, exec_fullModuleReset hq, exec_fullModuleReset_badParam hq⟩,
    fun s t _ => ⟨fun h => if_pos h, fun h => if_neg (ne_true_of_eq_false h)⟩,
    preset_resetBegin, fun s h => exec_partialResetEnd_idle h, ?_, ?_, ?_, ?_⟩
  · rintro s u q _ hq rfl hready hidle hswitch
    exact resetScope_starts hq hready hidle hswitch
  · rw [exec_terraceComputeReset hq hscope hindex, resetScope_busy hbusy]
  · rw [exec_towerDieComputeReset hq hscope hindex, resetScope_busy hbusy]
  · rw [exec_nodeComputeReset hq hscope hindex, resetScope_busy hbusy]
  · rintro s _ _ p hp rfl rfl
    exact ⟨fun hscope => (exec_partialResetEnd hp).trans (congrArg ok (if_neg hscope)),
      fun hscope => (exec_partialResetEnd hp).trans (congrArg ok (if_pos hscope))⟩
  · rintro s u q _ hq rfl
    exact ⟨exec_fwActivate_refused hq,
      fun hst hnow => (exec_fwActivate_commits hq hst).trans (congrArg ok (if_neg (by rw [hnow]; decide))),
      fun hst hreset => (exec_fwActivate_commits hq hst).trans (congrArg ok (if_pos hreset))⟩
  · exact fun s => ⟨fun h => ⟨if_pos h, if_pos h⟩,
      fun h => ⟨if_neg (ne_true_of_eq_false h), if_neg (ne_true_of_eq_false h)⟩⟩
  · intro s c hc
    exact ⟨rd_fullReset_cause s hc, fullReset_cleared s c⟩

end Sys2Proof.Machine
end

section
/-! Step time (R43 to R46): how its step and phase are read, what moving it changes, and STEP_BOUNDARY. -/

namespace Sys2Proof.Machine

open Sys2Proof

/-! ## Step and phase of step time -/

theorem State.step_eq_now (s : State) : s.step = s.now / 2 ^ 24 := by
  have hlt : s.now < 2 ^ 64 := s.rdReg_lt R.TB_NOW
  show bits s.now 24 40 = s.now / 2 ^ 24
  rw [bits_eq]
  omega

theorem State.phase_eq_now (s : State) : s.phase = s.now % 2 ^ 24 := by
  show bits s.now 0 24 = s.now % 2 ^ 24
  rw [bits_eq, pow_zero, Nat.div_one]

theorem State.step_lt (s : State) : s.step < 2 ^ 40 := s.rd_lt F.TB_NOW_STEP

theorem State.now_setNow_of_lt (s : State) {t : Nat} (fine : Nat) (h : t < 2 ^ 64) : (s.setNow t fine).now = t :=
  (s.now_setNow t fine).trans (Nat.mod_eq_of_lt h)

/-- Moving step time writes TB_NOW alone, and FINE beside it. -/
theorem writesOnly_setNow (s : State) (t fine : Nat) :
    WritesOnly [R.TB_NOW] { s with tb := { s.tb with fine := fine } } (s.setNow t fine) :=
  writesOnly_wrReg (a := R.TB_NOW) { s with tb := { s.tb with fine := fine } } t (by decide)

theorem rd_setNow (s : State) (t fine : Nat) {f : Field} (h : f.addr ∉ [R.TB_NOW]) : (s.setNow t fine).rd f = s.rd f :=
  (writesOnly_setNow s t fine).rd_eq h

theorem ticking_setNow (s : State) (t fine : Nat) : (s.setNow t fine).ticking = s.ticking := rfl

/-- The first instant of the step that follows. -/
theorem setNow_nextStep (s : State) (fine : Nat) (h : s.step ≠ 2 ^ 40 - 1) :
    (s.setNow (2 ^ 24 * (s.step + 1)) fine).step = s.step + 1 ∧ (s.setNow (2 ^ 24 * (s.step + 1)) fine).phase = 0 := by
  have hlt := s.step_lt
  rw [State.step_eq_now (s.setNow _ _), State.phase_eq_now, s.now_setNow_of_lt fine (by omega)]
  omega

/-! ## Times that step time reaches -/

theorem eq_of_reach {s u : State} {t : Nat} (h : s.reach t = some u) : u = s ∨ u = s.setNow t 0 := by
  rcases reach_cases s t with ⟨-, hr⟩ | ⟨-, -, -, hr⟩ | ⟨-, -, hr⟩ <;> rw [hr] at h
  · exact .inl (Option.some.inj h).symm
  · exact .inr (Option.some.inj h).symm
  · exact nomatch h

theorem ticking_of_reach {s u : State} {t : Nat} (h : s.reach t = some u) : u.ticking = s.ticking := by
  rcases eq_of_reach h with rfl | rfl
  · rfl
  · exact ticking_setNow s t 0

theorem rd_of_reach {s u : State} {t : Nat} (h : s.reach t = some u) {f : Field} (hf : f.addr ∉ [R.TB_NOW]) :
    u.rd f = s.rd f := by
  rcases eq_of_reach h with rfl | rfl
  · rfl
  · exact rd_setNow s t 0 hf

/-- Reaching a time keeps step time or moves it forwards inside the running step (R45). -/
theorem reach_forwards {s u : State} {t : Nat} (ht : t < 2 ^ 64) (h : s.reach t = some u) :
    t ≤ u.now ∧ s.now ≤ u.now ∧ u.step = s.step ∧ s.keepsRegs u [R.TB_NOW] ∧ u = { s with regs := u.regs, tb := u.tb } := by
  rcases reach_cases s t with ⟨hpast, hr⟩ | ⟨hahead, -, hstep, hr⟩ | ⟨-, -, hr⟩ <;> rw [hr] at h
  · rw [← Option.some.inj h]
    exact ⟨hpast, le_rfl, rfl, fun _ _ _ => rfl, rfl⟩
  · have hnow := s.now_setNow_of_lt 0 ht
    rw [← Option.some.inj h, State.step_eq_now (s.setNow t 0), hnow]
    exact ⟨le_rfl, hahead.le, hstep, fun a ha _ => (writesOnly_setNow s t 0).rdReg_eq a ha, rfl⟩
  · exact nomatch h

/-! ## STEP_BOUNDARY -/

theorem exec_stepBoundary_still {s : State} (h : s.ticking = false) : exec .stepBoundary s = ok s :=
  if_pos (by rw [h]; rfl)

theorem exec_stepBoundary_next {s : State} (h : s.ticking = true) (hstep : s.step ≠ 2 ^ 40 - 1) : exec .stepBoundary s =
    ok ((s.setNow (2 ^ 24 * (s.step + 1)) 0).tbBoundary.boundary s.step (s.step + 1)) := by
  show execStepBoundary s = _
  rw [execStepBoundary, if_neg (by simp [h])]
  exact if_neg hstep

theorem exec_stepBoundary_last {s : State} (h : s.ticking = true) (hstep : s.step = 2 ^ 40 - 1) :
    exec .stepBoundary s = ok (s.lastBoundary (2 ^ 40 - 1)) := by
  show execStepBoundary s = _
  rw [execStepBoundary, if_neg (by simp [h])]
  exact (if_pos hstep).trans (by rw [hstep])

/-- Step time at its greatest value, with the binding's last step ended (R46). -/
def State.bindingEnded (s : State) : State :=
  ({ s with tb := { s.tb with ended := true } } : State).setNow (2 ^ 64 - 1) 65535

theorem now_bindingEnded (s : State) : s.bindingEnded.now = 2 ^ 64 - 1 := State.now_setNow_of_lt _ _ (by decide)

theorem tbState_bindingEnded (s : State) : s.bindingEnded.tbState = s.tbState :=
  rd_setNow ({ s with tb := { s.tb with ended := true } } : State) _ _ (by decide)

theorem lastBoundary_again {s : State} (ended : Nat) (h : s.tb.ended = true) : s.lastBoundary ended = s.bindingEnded :=
  if_pos (by rw [h]; rfl)

theorem lastBoundary_first {s : State} (ended : Nat) (h : s.tb.ended = false) : s.lastBoundary ended =
    (if s.bindingEnded.tbState == Tb.free || s.bindingEnded.tbState == Tb.lost then s.bindingEnded
      else s.bindingEnded.timebaseLost).boundary ended (2 ^ 40) :=
  if_neg (by rw [h]; decide)

theorem lastBoundary_lost {s : State} (ended : Nat) (h : s.tb.ended = false) (hst : s.tbState = Tb.free ∨ s.tbState = Tb.lost) :
    s.lastBoundary ended = s.bindingEnded.boundary ended (2 ^ 40) := by
  rw [lastBoundary_first ended h, tbState_bindingEnded, if_pos (by simpa using hst)]

theorem lastBoundary_loses {s : State} (ended : Nat) (h : s.tb.ended = false) (hfree : s.tbState ≠ Tb.free)
    (hlost : s.tbState ≠ Tb.lost) : s.lastBoundary ended = s.bindingEnded.timebaseLost.boundary ended (2 ^ 40) := by
  rw [lastBoundary_first ended h, tbState_bindingEnded, if_neg (by simp [hfree, hlost])]

/-- Settles O8. STEP_BOUNDARY by whether step time advances and whether the running step is the last; a time reached by the
cases of `reach_cases`. -/
theorem stepBoundariesAndStepTime : Obligations.StepBoundariesAndStepTime := by
  refine ⟨⟨fun s hticks hstep => ?_, ?_, fun s h => exec_stepBoundary_still h⟩, fun _ _ _ ht h => reach_forwards ht h⟩
  · obtain ⟨hnext, hphase⟩ := setNow_nextStep s 0 hstep
    exact ⟨hnext, hphase, exec_stepBoundary_next hticks hstep⟩
  · rintro s _ hticks hstep rfl
    rw [exec_stepBoundary_last hticks hstep]
    exact ⟨now_bindingEnded s, fun hended => congrArg ok (lastBoundary_again _ hended),
      fun hended hst => congrArg ok (lastBoundary_lost _ hended hst),
      fun hended hfree hlost => congrArg ok (lastBoundary_loses _ hended hfree hlost)⟩

end Sys2Proof.Machine
end

section
/-! Tick symbols (R47): fields of little-endian byte strings, and the CRC-8 that a tick ends with. -/

namespace Sys2Proof.Machine

open Sys2Proof

/-! ## Fields of a number's little-endian form -/

theorem length_natLE (n v : Nat) : (natLE n v).length = n := by
  induction n generalizing v with
  | zero => rfl
  | succ n ih => exact congrArg (· + 1) (ih _)

theorem drop_natLE (off n v : Nat) : (natLE (off + n) v).drop off = natLE n (v / 256 ^ off) := by
  induction off generalizing v with
  | zero => simp
  | succ off ih =>
    rw [Nat.succ_add, natLE, List.drop_succ_cons, ih, Nat.div_div_eq_div_mul, ← Nat.pow_succ']

theorem take_natLE (n m v : Nat) : (natLE (n + m) v).take n = natLE n v := by
  induction n generalizing v with
  | zero => rfl
  | succ n ih => rw [Nat.succ_add, natLE, natLE, List.take_succ_cons, ih]

theorem leNat_natLE_mod (n v : Nat) : leNat (natLE n v) = v % 256 ^ n := by
  induction n generalizing v with
  | zero => exact (Nat.mod_one v).symm
  | succ n ih =>
    rw [natLE, leNat, ih, BitVec.toNat_ofNat, pow_succ' 256 n, Nat.mod_mul (a := 256)]

/-- A field inside a number's little-endian form holds the bytes of the number there, whatever follows. -/
theorem fld_natLE (m v off n : Nat) (r : Bytes) (h : off + n ≤ m) :
    fld (natLE m v ++ r) off n = v / 256 ^ off % 256 ^ n := by
  obtain ⟨k, rfl⟩ := Nat.exists_eq_add_of_le h
  rw [fld, List.drop_append_of_le_length (by rw [length_natLE]; omega), Nat.add_assoc, drop_natLE,
    List.take_append_of_le_length (by rw [length_natLE]; omega), take_natLE, leNat_natLE_mod]

/-! ## CRC-8 -/

theorem crc8Bit_lt (c : Nat) (b : Bool) : crc8Bit c b < 2 ^ 8 := by
  have hshift : (c <<< 1) % 256 < 2 ^ 8 := Nat.mod_lt _ (by decide)
  unfold crc8Bit
  dsimp only
  split
  · exact Nat.xor_lt_two_pow hshift (by decide)
  · exact hshift

theorem crc8_concat (l : Bytes) (b : Byte) :
    crc8 (l ++ [b]) = [7, 6, 5, 4, 3, 2, 1, 0].foldl (fun c i => crc8Bit c (b.toNat.testBit i)) (crc8 l) := by
  simp only [crc8, List.foldl_append, List.foldl_cons, List.foldl_nil]

theorem crc8_lt (l : Bytes) : crc8 l < 2 ^ 8 := by
  induction l using List.reverseRecOn with
  | nil => decide
  | append_singleton l b _ =>
    rw [crc8_concat]
    exact crc8Bit_lt _ _

/-- Fed its own top bit, the register only shifts: after k shifts of c the top bit is bit i of c, where k + i = 7. -/
theorem crc8Bit_top (c : Nat) {k i : Nat} (h : k + i = 7) : crc8Bit (c <<< k % 2 ^ 8) (c.testBit i) = c <<< (k + 1) % 2 ^ 8 := by
  have htop : (c <<< k % 2 ^ 8).testBit 7 = c.testBit i := by
    have hi : 7 - k = i := by omega
    rw [Nat.testBit_mod_two_pow, Nat.testBit_shiftLeft, hi]
    simp [show k ≤ 7 by omega]
  rw [crc8Bit, htop, bne_self_eq_false, if_neg Bool.false_ne_true, Nat.shiftLeft_add, Nat.shiftLeft_eq _ 1, Nat.shiftLeft_eq _ 1]
  exact Nat.mod_mul_mod _ _ _

/-- A register that is fed the byte it holds ends at 0. -/
theorem crc8_own_byte {c : Nat} (h : c < 2 ^ 8) :
    [7, 6, 5, 4, 3, 2, 1, 0].foldl (fun c' i => crc8Bit c' (c.testBit i)) c = 0 := by
  have hfirst : crc8Bit c (c.testBit 7) = c <<< 1 % 2 ^ 8 := by
    have hstart : c <<< 0 % 2 ^ 8 = c := Nat.mod_eq_of_lt h
    rw [← crc8Bit_top c (k := 0) (i := 7) rfl, hstart]
  simp only [List.foldl_cons, List.foldl_nil]
  rw [hfirst, crc8Bit_top c (k := 1) rfl, crc8Bit_top c (k := 2) rfl, crc8Bit_top c (k := 3) rfl, crc8Bit_top c (k := 4) rfl,
    crc8Bit_top c (k := 5) rfl, crc8Bit_top c (k := 6) rfl, crc8Bit_top c (k := 7) rfl, Nat.shiftLeft_eq]
  exact Nat.mul_mod_left _ _

/-- Bytes followed by their CRC-8 verify. -/
theorem crc8_verifies (b : Bytes) : crc8 (b ++ natLE 1 (crc8 b)) = 0 := by
  have hbyte : (BitVec.ofNat 8 (crc8 b)).toNat = crc8 b := (BitVec.toNat_ofNat _ _).trans (Nat.mod_eq_of_lt (crc8_lt b))
  rw [show natLE 1 (crc8 b) = [BitVec.ofNat 8 (crc8 b)] from rfl, crc8_concat, hbyte]
  exact crc8_own_byte (crc8_lt b)

/-! ## Tick symbols -/

/-- Bits [119:0] of a tick symbol as a number (Table 3.1). -/
def tickWord (id src ref hops stamp corr : Nat) : Nat :=
  id % 2 ^ 16 + 2 ^ 16 * (src % 2) + 2 ^ 17 * (ref % 2) + 2 ^ 18 * (hops % 64) + 2 ^ 24 * (stamp % 2 ^ 64)
    + 2 ^ 88 * (corr % 2 ^ 32)

theorem mkTick_eq (id src ref hops stamp corr : Nat) : mkTick id src ref hops stamp corr =
    natLE 15 (tickWord id src ref hops stamp corr) ++ natLE 1 (crc8 (natLE 15 (tickWord id src ref hops stamp corr))) := rfl

theorem mkTick_length (id src ref hops stamp corr : Nat) : (mkTick id src ref hops stamp corr).length = 16 := by
  rw [mkTick_eq, List.length_append, length_natLE, length_natLE]

theorem mkTick_good (id src ref hops stamp corr : Nat) : tkGood (mkTick id src ref hops stamp corr) = true := by
  rw [tkGood, mkTick_length, mkTick_eq, crc8_verifies]
  rfl

theorem fld_mkTick (id src ref hops stamp corr : Nat) {off n : Nat} (h : off + n ≤ 15) :
    fld (mkTick id src ref hops stamp corr) off n = tickWord id src ref hops stamp corr / 256 ^ off % 256 ^ n := by
  rw [mkTick_eq, fld_natLE 15 _ off n _ h]

/-- Settles O9. Each field is a range of the bits of `tickWord`; the CRC-8 over bytes and their own CRC-8 is 0. -/
theorem tickSymbolRoundTrip : Obligations.TickSymbolRoundTrip := by
  intro id src ref hops stamp corr hid hsrc href hhops hstamp hcorr
  refine ⟨mkTick_length .., ?_, ?_, ?_, ?_, ?_, ?_, mkTick_good ..⟩
  · rw [tkId, fld_mkTick _ _ _ _ _ _ (by decide), tickWord]
    omega
  · rw [tkSrc, fld_mkTick _ _ _ _ _ _ (by decide), bits_eq, tickWord]
    omega
  · rw [tkRefLost, fld_mkTick _ _ _ _ _ _ (by decide), bits_eq, tickWord]
    omega
  · rw [tkHops, fld_mkTick _ _ _ _ _ _ (by decide), bits_eq, tickWord]
    omega
  · rw [tkStamp, fld_mkTick _ _ _ _ _ _ (by decide), tickWord]
    omega
  · rw [tkCorr, fld_mkTick _ _ _ _ _ _ (by decide), tickWord]
    omega

end Sys2Proof.Machine
end

section
/-! Ticks and link delays (R48 to R51): sending and relaying ticks, the delay exchange, and what an arriving tick does. -/

namespace Sys2Proof.Machine

open Sys2Proof

theorem rd_withTb (s : State) (b : TimeBase) (f : Field) : ({ s with tb := b } : State).rd f = s.rd f := rfl

theorem b2n_eq_ite {p : Prop} [Decidable p] {b : Bool} (h : b = true ↔ p) : b2n b = if p then 1 else 0 := by
  by_cases hp : p
  · rw [if_pos hp, h.2 hp]; rfl
  · rw [if_neg hp, eq_false_of_ne_true (mt h.1 hp)]; rfl

theorem b2n_not (b : Bool) : b2n (!b) = if b then 0 else 1 := by cases b <;> rfl

/-! ## Sending and relaying (R48, R49) -/

theorem sendTick_entry {s : State} {t : Bytes} {r : Relay} (h : s.tb.relays.find? (fun x => x.tbId == tkId t) = some r) :
    s.sendTick t = forEach ((bitList (if tkSrc t = 0 then r.childPrimary else r.childStandby) 8).filter s.tickPort) s
      (fun p v => v.send .tick p [] t) := by
  have hentry : s.relayOf (tkId t) = some r := h
  rw [State.sendTick, hentry]

theorem masterTick_eq (s : State) (stamp : Nat) : s.masterTick stamp =
    ({ s with tb := { s.tb with lastStamp := some stamp } } : State).sendTick (mkTick (s.rd F.TB_STATUS_TB_ID)
      (if s.tb.role = 3 then 1 else 0) (if s.tb.refPresent then 0 else 1) 0 stamp 0) := by
  rw [← b2n_eq_ite (beq_iff_eq (a := s.tb.role) (b := 3)), ← b2n_not]
  rfl

/-- A tick with a stamp has been sent, or one with a later stamp. -/
def State.tickSent (s : State) (t : Nat) : Bool :=
  match s.tb.lastStamp with | some l => t ≤ l | none => false

theorem tickSent_eq_true {s : State} {t l : Nat} (h : s.tb.lastStamp = some l) (hl : t ≤ l) : s.tickSent t = true := by
  rw [State.tickSent, h]
  exact decide_eq_true hl

theorem tickSent_eq_false {s : State} {t : Nat} (h : ∀ l, s.tb.lastStamp = some l → l < t) : s.tickSent t = false := by
  unfold State.tickSent
  split
  · exact decide_eq_false (not_le.2 (h _ ‹_›))
  · rfl

/-- What keeps a node from sending a tick with a stamp. -/
def State.tickBarred (s : State) (t : Nat) : Bool :=
  s.tbState != Tb.master || s.tickSent t || t < s.now || t % 2 ^ (24 - s.rd F.TB_STATUS_TICK_LOG2) != 0 || !s.ticking

theorem exec_tickSend_barred {stamp : BitVec 64} {s : State} (h : s.tickBarred stamp.toNat = true) :
    exec (.tickSend stamp) s = ok s := if_pos h

theorem exec_tickSend_sends {stamp : BitVec 64} {s u : State} (h : s.tickBarred stamp.toNat = false)
    (hreach : s.reach stamp.toNat = some u) : exec (.tickSend stamp) s = ok (u.masterTick stamp.toNat) := by
  refine (if_neg (ne_true_of_eq_false h)).trans ?_
  rw [hreach]

theorem tickBarred_eq_false {s : State} {t : Nat} (hmaster : s.tbState = Tb.master) (hticks : s.ticking = true)
    (hlater : ∀ l, s.tb.lastStamp = some l → l < t) (hnow : s.now ≤ t)
    (hpoint : t % 2 ^ (24 - s.rd F.TB_STATUS_TICK_LOG2) = 0) : s.tickBarred t = false := by
  simp [State.tickBarred, hmaster, hticks, tickSent_eq_false hlater, hnow, hpoint]

theorem tickBarred_eq_true {s : State} {t : Nat} (h : s.tbState ≠ Tb.master ∨ s.ticking = false ∨ t < s.now ∨
    (∃ l, s.tb.lastStamp = some l ∧ t ≤ l) ∨ t % 2 ^ (24 - s.rd F.TB_STATUS_TICK_LOG2) ≠ 0) : s.tickBarred t = true := by
  rcases h with h | h | h | ⟨l, hl, h⟩ | h
  · simp [State.tickBarred, h]
  · simp [State.tickBarred, h]
  · simp [State.tickBarred, h]
  · simp [State.tickBarred, tickSent_eq_true hl h]
  · simp [State.tickBarred, h]

theorem relayTick_dropped {t : Bytes} (p res : Nat) (s : State) (h : tkHops t = 63) : s.relayTick p res t = s := if_pos h

/-- The delay in units of 1/16 ns, by the model's quotient and by the nearest one. -/
theorem delay_rounded (d : Nat) : (2 * d + 62) / 125 = (16 * d + 500) / 1000 := by omega

theorem relayTick_forwards {t : Bytes} (p res : Nat) (s : State) (h : tkHops t ≠ 63) :
    s.relayTick p res t = s.sendTick (mkTick (tkId t) (tkSrc t) (tkRefLost t) (tkHops t + 1) (tkStamp t)
      (tkCorr t + (16 * s.rd (F.TB_PORT_DELAY_DELAY_PS p) + 500) / 1000 + res)) := by
  rw [← delay_rounded]
  exact if_neg h

/-! ## The delay exchange (R50) -/

section
variable {s : State} {p : Fin 8}

theorem delayPort_eq_true (h : s.portState p = Port.up ∨ s.portState p = Port.drained) : s.delayPort p = true := by
  rcases h with h | h <;> rw [State.delayPort, h] <;> rfl

theorem delayPort_eq_false (hup : s.portState p ≠ Port.up) (hdrained : s.portState p ≠ Port.drained) : s.delayPort p = false := by
  simp [State.delayPort, hup, hdrained]

theorem exec_delayRequest (h : s.delayPort p = true) : exec (.delayRequest p) s = ok (s.send .delayRequest p [] []) := if_pos h

theorem exec_delayRequestArrival (turn : Nat) (h : s.delayPort p = true) :
    exec (.delayRequestArrival p turn) s = ok (s.send .delayResponse p [turn] []) := if_pos h

/-- The measurements of a port with a new one, the newest 16. -/
def State.measured (s : State) (p round turn : Nat) : List Nat := ((round - turn) / 2 :: mget s.tb.meas p []).take 16

theorem exec_delayResponseArrival (round turn : Nat) (h : s.delayPort p = true) : exec (.delayResponseArrival p round turn) s =
    if (s.measured p round turn).length < 16 then
      ok { s with tb := { s.tb with meas := mput s.tb.meas p (s.measured p round turn) } }
    else ok ((({ s with tb := { s.tb with meas := mput s.tb.meas p (s.measured p round turn) } } : State).wr
      (F.TB_PORT_DELAY_DELAY_PS p) (min (median16 (s.measured p round turn)) (2 ^ 32 - 1))).wr (F.TB_PORT_DELAY_VALID p) 1) :=
  if_neg (by rw [h]; decide)

theorem exec_delayResponseArrival_publishes (round turn : Nat) (h : s.delayPort p = true)
    (hfull : 15 ≤ (mget s.tb.meas p []).length) : exec (.delayResponseArrival p round turn) s =
      ok ((({ s with tb := { s.tb with meas := mput s.tb.meas p (s.measured p round turn) } } : State).wr
        (F.TB_PORT_DELAY_DELAY_PS p) (min (median16 (s.measured p round turn)) (2 ^ 32 - 1))).wr (F.TB_PORT_DELAY_VALID p) 1) := by
  have hlength : ¬(s.measured p round turn).length < 16 := by
    rw [State.measured, List.length_take, List.length_cons]
    omega
  rw [exec_delayResponseArrival round turn h, if_neg hlength]

theorem exec_delayResponseArrival_collects (round turn : Nat) (h : s.delayPort p = true)
    (hfew : (mget s.tb.meas p []).length < 15) : exec (.delayResponseArrival p round turn) s =
      ok { s with tb := { s.tb with meas := mput s.tb.meas p ((round - turn) / 2 :: mget s.tb.meas p []) } } := by
  have hall : s.measured p round turn = (round - turn) / 2 :: mget s.tb.meas p [] :=
    List.take_of_length_le (by rw [List.length_cons]; omega)
  have hlength : (s.measured p round turn).length < 16 := by
    rw [hall, List.length_cons]
    omega
  rw [exec_delayResponseArrival round turn h, if_pos hlength, hall]

theorem exec_delay_closed (round turn : Nat) (h : s.delayPort p = false) : exec (.delayRequest p) s = ok s ∧
    exec (.delayRequestArrival p turn) s = ok s ∧ exec (.delayResponseArrival p round turn) s = ok s :=
  ⟨if_neg (ne_true_of_eq_false h), if_neg (ne_true_of_eq_false h), if_pos (by rw [h]; rfl)⟩

end

/-! ## Which ticks a node takes (R51) -/

section
variable {s : State} {p : Fin 8}

theorem carriesTicks_eq_true (h : s.portState p = Port.up ∨ s.portState p = Port.draining ∨ s.portState p = Port.drained) :
    s.carriesTicks p = true := by
  rcases h with h | h | h <;> rw [State.carriesTicks, h] <;> rfl

theorem carriesTicks_eq_false (hup : s.portState p ≠ Port.up) (hdraining : s.portState p ≠ Port.draining)
    (hdrained : s.portState p ≠ Port.drained) : s.carriesTicks p = false := by
  simp [State.carriesTicks, hup, hdraining, hdrained]

variable (tick : Bytes) (now : BitVec 64) (fine : BitVec 16) (clk res : Nat)

theorem exec_tickArrival_closed (h : s.carriesTicks p = false) : exec (.tickArrival p tick now fine clk res) s = ok s :=
  if_pos (by rw [h]; rfl)

/-- The node follows the ticks of the time base it is bound to. -/
def State.follows (s : State) : Bool := s.tb.role == 1 || (s.tb.role == 3 && s.tbState != Tb.master)

theorem follows_eq_true (h : s.tb.role = 1 ∨ (s.tb.role = 3 ∧ s.tbState ≠ Tb.master)) : s.follows = true := by
  rcases h with h | ⟨h, hst⟩
  · simp [State.follows, h]
  · simp [State.follows, h, hst]

variable {tick}

theorem exec_tickArrival_unbound (h : s.carriesTicks p = true) (hrole : s.tb.role = 0) (hgood : tkGood tick = true) :
    exec (.tickArrival p tick now fine clk res) s = ok (s.relayOther p res tick) := by
  refine (if_neg (by rw [h]; decide)).trans ((if_pos (by rw [hrole]; rfl)).trans ?_)
  rw [hgood, hrole]
  rfl

section
variable (h : s.carriesTicks p = true) (hfollows : s.follows = true)
  (hbound : tkGood tick = true → tkId tick = s.rd F.TB_STATUS_TB_ID)
include hfollows hbound

/-- A follower does not leave a tick to the relay alone: the tick is bad, or of the time base it is bound to. -/
theorem not_only_relayed : ¬(!s.follows || (tkGood tick && tkId tick != s.rd F.TB_STATUS_TB_ID)) = true := by
  cases hgood : tkGood tick
  · simp [hfollows]
  · simp [hfollows, hbound hgood]

include h

theorem exec_tickArrival_still (hticks : s.ticking = false) :
    exec (.tickArrival p tick now fine clk res) s = ok (s.followTick p clk res tick) := by
  refine (if_neg (by rw [h]; decide)).trans ((if_neg (not_only_relayed hfollows hbound)).trans ?_)
  rw [hticks]
  exact congrArg (fun v : State => ok (v.followTick p clk res tick)) (if_neg (by rw [hticks]; exact Bool.false_ne_true))

theorem exec_tickArrival_moves {u : State} (hticks : s.ticking = true) (hreach : s.reach now.toNat = some u) :
    exec (.tickArrival p tick now fine clk res) s = ok ((if u.ticking && u.now == now.toNat then
      { u with tb := { u.tb with fine := max u.tb.fine fine.toNat } } else u).followTick p clk res tick) := by
  refine (if_neg (by rw [h]; decide)).trans ((if_neg (not_only_relayed hfollows hbound)).trans ?_)
  rw [hticks, if_pos rfl, hreach]

theorem exec_tickArrival_ticking {u : State} (hticks : s.ticking = true) (hreach : s.reach now.toNat = some u) :
    (u.now = now.toNat → exec (.tickArrival p tick now fine clk res) s =
      ok (({ u with tb := { u.tb with fine := max u.tb.fine fine.toNat } } : State).followTick p clk res tick)) ∧
    (u.now ≠ now.toNat → exec (.tickArrival p tick now fine clk res) s = ok (u.followTick p clk res tick)) := by
  have hrun : u.ticking = true := (ticking_of_reach hreach).trans hticks
  rw [exec_tickArrival_moves now fine clk res h hfollows hbound hticks hreach]
  exact ⟨fun hnow => by rw [if_pos (by simp [hrun, hnow])], fun hnow => by rw [if_neg (by simp [hnow])]⟩

end

end

/-! ## Following (R51) -/

theorem followTick_bad {tick : Bytes} {p : Nat} (clk res : Nat) {s : State}
    (h : tkGood tick = false ∨ s.rd (F.TB_PORT_DELAY_VALID p) = 0) : s.followTick p clk res tick =
      if (s.parentList 0).contains p || (s.parentList 1).contains p then (s.inc F.TB_COUNTS_BAD_TICKS).ev F.TB_EVENTS_BAD_TICK
      else s := by
  have hform : (tkGood tick && s.flag (F.TB_PORT_DELAY_VALID p)) = false := by
    rcases h with h | h
    · rw [h, Bool.false_and]
    · rw [State.flag_eq_false h, Bool.and_false]
  simp only [State.followTick, hform, Bool.false_and, Bool.false_eq_true, if_false]

theorem followTick_valid {tick : Bytes} {p : Nat} (clk res : Nat) {s : State} (hgood : tkGood tick = true)
    (hdelay : s.rd (F.TB_PORT_DELAY_VALID p) = 1) (hsrc : tkSrc tick = s.rd F.TB_STATUS_SRC)
    (hparent : s.rd F.TB_STATUS_PARENT_PORT = p) (hp : p ≠ 15) (hlater : ∀ l, s.tb.lastStamp = some l → l < tkStamp tick)
    (hpoint : tkStamp tick % 2 ^ (24 - s.rd F.TB_STATUS_TICK_LOG2) = 0) : s.followTick p clk res tick =
      ({ s with tb := { s.tb with portTick := mput s.tb.portTick p clk } } : State).validTick p res tick := by
  have hform : (tkGood tick && s.flag (F.TB_PORT_DELAY_VALID p)) = true := by rw [hgood, State.flag_eq_true hdelay]; rfl
  unfold State.followTick
  extract_lets src inLists form tb1 s1 s2 followed s3 later
  have h1 : s1 = { s with tb := { s.tb with portTick := mput s.tb.portTick p clk } } := if_pos hform
  have hsrc1 : s1.rd F.TB_STATUS_SRC = src := by rw [h1]; exact hsrc.symm
  have hparent1 : s1.rd F.TB_STATUS_PARENT_PORT = p := by rw [h1]; exact hparent
  have hpoint1 : tkStamp tick % 2 ^ (24 - s1.rd F.TB_STATUS_TICK_LOG2) = 0 := by rw [h1]; exact hpoint
  have h2 : s2 = s1 := if_neg (by
    rw [hsrc1]
    cases form <;> simp +contextual)
  have hfollowed : followed = src := by rw [← hsrc1, ← h2]
  have h3 : s3 = s1 := by
    rw [← h2]
    refine if_neg ?_
    rw [h2, hparent1]
    simp [hp]
  have hlater1 : later = true := by
    have hlast : s3.tb.lastStamp = s.tb.lastStamp := by rw [h3, h1]
    show (match s3.tb.lastStamp with | some l => decide (l < tkStamp tick) | none => true) = true
    rw [hlast]
    split
    · exact decide_eq_true (hlater _ ‹_›)
    · rfl
  rw [h3, hparent1, hlater1, if_pos (by simp [show form = true from hform, hfollowed, hpoint1]), h1]

/-- A valid tick as it is noted and relayed (R49, R51). -/
def State.tickNoted (s : State) (p res : Nat) (t : Bytes) : State :=
  (({ s with tb := { s.tb with lastStamp := some (tkStamp t) } } : State).wr F.TB_STATUS_HOLD_STEPS 0).relayTick p res t

/-- The error of step time at a tick, in FINE units (R61). -/
def State.tickError (s : State) (p : Nat) (t : Bytes) : Int := ((2 ^ 16 * s.now + s.tb.fine : Nat) : Int) - (s.estimate p t : Int)

section
variable {p res : Nat} {t : Bytes} {s u v w : State} (hu : u = s.tickNoted p res t)
include hu

theorem validTick_lost (hlost : u.tbState = Tb.lost) : s.validTick p res t = u := by
  subst hu
  exact if_pos (beq_iff_eq.2 hlost)

variable (hlost : u.tbState ≠ Tb.lost) (hv : v = u.showError (u.tickError p t))
include hlost hv

theorem validTick_loads (hload : v.tb.loadPending = true) :
    s.validTick p res t = v.loadTime (u.estimate p t / 2 ^ 16) (u.estimate p t % 2 ^ 16) := by
  subst hu hv
  exact (if_neg (mt beq_iff_eq.1 hlost)).trans (if_pos hload)

variable (hload : v.tb.loadPending = false) (hw : w = v.correct (u.tickError p t) (u.estimate p t))
include hload hw

theorem validTick_corrects :
    s.validTick p res t = if w.tbState == Tb.lost then w else w.judge (u.tickError p t) := by
  subst hu hv hw
  exact (if_neg (mt beq_iff_eq.1 hlost)).trans (if_neg (ne_true_of_eq_false hload))

theorem validTick_loses (hlost' : w.tbState = Tb.lost) : s.validTick p res t = w := by
  rw [validTick_corrects hu hlost hv hload hw, if_pos (beq_iff_eq.2 hlost')]

theorem validTick_judges (hlost' : w.tbState ≠ Tb.lost) : s.validTick p res t = w.judge (u.tickError p t) := by
  rw [validTick_corrects hu hlost hv hload hw, if_neg (mt beq_iff_eq.1 hlost')]

end

/-! ## Ticks of other time bases (R49) -/

section
variable {p res key : Nat} {t : Bytes} {s u : State} {r : Relay} (hr : s.relayOf (tkId t) = some r)
include hr

theorem relayOther_unlisted (h : s.tickPort p = false ∨ (if tkSrc t = 0 then r.primary else r.standby).contains p = false) :
    s.relayOther p res t = s := by
  rw [State.relayOther, hr]
  refine if_pos ?_
  rcases h with h | h <;> simp only [h, Bool.not_false, Bool.true_or, Bool.or_true]

variable (hkey : key = tkId t * 2 + tkSrc t)
  (hu : u = ({ s with tb := { s.tb with relayed := mput s.tb.relayed key (p, tkStamp t) } } : State).relayTick p res t)
  (hport : s.tickPort p = true) (hlisted : (if tkSrc t = 0 then r.primary else r.standby).contains p = true)
include hkey hu hport hlisted

theorem relayOther_first (h : mfind s.tb.relayed key = none) : s.relayOther p res t = u := by
  subst hkey hu
  rw [State.relayOther, hr]
  refine (if_neg (by rw [hport, hlisted]; decide)).trans ?_
  rw [h]

theorem relayOther_again {q last : Nat} (h : mfind s.tb.relayed key = some (q, last)) :
    s.relayOther p res t = if last < tkStamp t ∧ (q = p ∨ s.tickPort q = false) then u else s := by
  subst hkey hu
  rw [State.relayOther, hr]
  refine (if_neg (by rw [hport, hlisted]; decide)).trans ?_
  rw [h]
  simp only [Bool.and_eq_true, Bool.or_eq_true, decide_eq_true_eq, Bool.not_eq_true']

end

/-- Settles O10. Sending, the delay exchange and the relay by their guards; an arriving tick by whether the node follows it. -/
theorem ticksDelaysAndArrivals : Obligations.TicksDelaysAndArrivals := by
  refine ⟨⟨fun stamp s u hmaster hticks hlater hnow hpoint hreach => ?_, fun stamp s h => exec_tickSend_barred (tickBarred_eq_true h),
      fun s t r h => sendTick_entry h, fun p s h => exec_delayRequest (delayPort_eq_true h),
      fun p turn s h => exec_delayRequestArrival turn (delayPort_eq_true h),
      fun p round turn s h => ⟨exec_delayResponseArrival_publishes round turn (delayPort_eq_true h),
        exec_delayResponseArrival_collects round turn (delayPort_eq_true h)⟩,
      fun p round turn s hup hdrained => exec_delay_closed round turn (delayPort_eq_false hup hdrained)⟩,
    fun p tick now fine clk res s h => ⟨fun u hrole hbound => ?_,
      exec_tickArrival_unbound now fine clk res (carriesTicks_eq_true h)⟩,
    fun p tick clk res s hgood hdelay hsrc hparent hp hlater hpoint =>
      followTick_valid clk res hgood hdelay hsrc hparent hp hlater hpoint,
    fun p tick clk res s h => ?_, fun p res est t e s u v w hu hest he hv hw => ?_,
    fun p res t s => ⟨relayTick_dropped p res s, relayTick_forwards p res s⟩, fun p res key t s u r hr hkey hu => ?_,
    fun p tick now fine clk res s hup hdraining hdrained =>
      exec_tickArrival_closed tick now fine clk res (carriesTicks_eq_false hup hdraining hdrained)⟩
  · rw [exec_tickSend_sends (tickBarred_eq_false hmaster hticks hlater hnow hpoint) hreach, masterTick_eq]
  · have hcarries := carriesTicks_eq_true h
    have hfollows := follows_eq_true hrole
    exact ⟨exec_tickArrival_still now fine clk res hcarries hfollows hbound,
      fun hticks hreach => exec_tickArrival_ticking now fine clk res hcarries hfollows hbound hticks hreach⟩
  · rw [followTick_bad clk res h]
    exact ⟨fun hlisted => if_pos (by simpa using hlisted), fun h0 h1 => if_neg (by rw [h0, h1]; decide)⟩
  · subst he hest
    exact ⟨validTick_lost hu, fun hlost hload => validTick_loads hu hlost hv hload,
      fun hlost hload => validTick_loses hu hlost hv hload hw,
      fun hlost hload => validTick_judges hu hlost hv hload hw⟩
  · refine ⟨relayOther_unlisted hr, fun hport hlisted => ⟨relayOther_first hr hkey hu hport hlisted, fun q last hlast => ?_⟩⟩
    rw [relayOther_again hr hkey hu hport hlisted hlast]
    refine ⟨fun hlater hport' => if_pos ⟨hlater, hport'⟩, fun hold => if_neg ?_⟩
    rintro ⟨hlater, hsame | hquiet⟩
    · rcases hold with hold | ⟨hne, -⟩
      · exact absurd hlater (not_lt.2 hold)
      · exact hne hsame
    · rcases hold with hold | ⟨-, hcarries⟩
      · exact absurd hlater (not_lt.2 hold)
      · exact absurd (hquiet.symm.trans hcarries) (by decide)

end Sys2Proof.Machine
end

section
/-! What the records and events of the time base leave: the registers of its block, and the time base itself. -/

namespace Sys2Proof.Machine

open Sys2Proof

/-- A register of the block of the time base (Table 1.6). -/
def inTbBlock (a : Nat) : Prop := tbBlock ≤ a ∧ a < memBlock

/-- t has the time base of s, beside its registers and in them. -/
structure TimeBaseKept (s t : State) : Prop where
  tb_eq : t.tb = s.tb
  rdReg_eq : ∀ a, inTbBlock a → t.rdReg a = s.rdReg a

theorem TimeBaseKept.refl (s : State) : TimeBaseKept s s := ⟨rfl, fun _ _ => rfl⟩

theorem TimeBaseKept.trans {s t u : State} (h1 : TimeBaseKept s t) (h2 : TimeBaseKept t u) : TimeBaseKept s u :=
  ⟨h2.tb_eq.trans h1.tb_eq, fun a ha => (h2.rdReg_eq a ha).trans (h1.rdReg_eq a ha)⟩

theorem TimeBaseKept.rd_eq {s t : State} (h : TimeBaseKept s t) {f : Field} (hf : inTbBlock f.addr) : t.rd f = s.rd f := by
  rw [State.rd, State.rd, h.rdReg_eq _ hf]

theorem timeBaseKept_of_eq {s t : State} (hregs : t.regs = s.regs) (htb : t.tb = s.tb) : TimeBaseKept s t :=
  ⟨htb, fun a _ => by rw [State.rdReg, State.rdReg, hregs]⟩

theorem timeBaseKept_wr (s : State) (f : Field) (v : Nat) (h : ¬inTbBlock f.addr) : TimeBaseKept s (s.wr f v) :=
  ⟨rfl, fun _ ha => State.rdReg_wr_ne s v fun e => h (e ▸ ha)⟩

theorem TimeBaseKept.wr {s t : State} (h : TimeBaseKept s t) (f : Field) (v : Nat) (hf : ¬inTbBlock f.addr) :
    TimeBaseKept s (t.wr f v) := h.trans (timeBaseKept_wr t f v hf)

theorem TimeBaseKept.check {s t : State} (h : TimeBaseKept s t) (c : Checking) : TimeBaseKept s { t with check := c } :=
  h.trans (timeBaseKept_of_eq rfl rfl)

theorem TimeBaseKept.ev {s t : State} (h : TimeBaseKept s t) (f : Field) (hf : ¬inTbBlock f.addr) : TimeBaseKept s (t.ev f) :=
  h.wr f 1 hf

theorem TimeBaseKept.inc {s t : State} (h : TimeBaseKept s t) (f : Field) (n : Nat) (hf : ¬inTbBlock f.addr) :
    TimeBaseKept s (t.inc f n) := h.wr f _ hf

theorem TimeBaseKept.incw {s t : State} (h : TimeBaseKept s t) (f : Field) (n : Nat) (hf : ¬inTbBlock f.addr) :
    TimeBaseKept s (t.incw f n) := h.wr f _ hf

theorem timeBaseKept_foldl {α : Type} (f : State → α → State) :
    ∀ (l : List α) (s : State), (∀ x ∈ l, ∀ t, TimeBaseKept t (f t x)) → TimeBaseKept s (l.foldl f s)
  | [], s, _ => .refl s
  | x :: l, s, hf => (hf x List.mem_cons_self s).trans
      (timeBaseKept_foldl f l (f s x) fun y hy => hf y (List.mem_cons_of_mem x hy))

theorem timeBaseKept_forEach (f : Nat → State → State) (l : List Nat) (s : State)
    (hf : ∀ i ∈ l, ∀ t, TimeBaseKept t (f i t)) : TimeBaseKept s (forEach l s f) :=
  timeBaseKept_foldl (fun t i => f i t) l s hf

/-! ## Memory -/

theorem ckptRegs_outside_tbBlock : ¬inTbBlock R.CKPT_GUARD ∧ ¬inTbBlock R.CKPT_COPIED := by unfold inTbBlock; decide

theorem timeBaseKept_copyAhead (s : State) (a n : Nat) : TimeBaseKept s (s.copyAhead a n) := by
  obtain ⟨hguard, hcopied⟩ := ckptRegs_outside_tbBlock
  unfold State.copyAhead
  split
  · exact .refl s
  · refine TimeBaseKept.trans ?_ (timeBaseKept_foldl _ _ _ fun g _ t => ?_)
    · exact timeBaseKept_of_eq rfl rfl
    · exact (((timeBaseKept_of_eq (s := t) (t := t.copyRange g.1 g.2 granuleBytes) rfl rfl).inc F.CKPT_GUARD_STALLS _ hguard).incw
        F.CKPT_COPIED_BYTES _ hcopied).wr F.CKPT_GUARD_MAX_STALL_NS _ hguard

theorem timeBaseKept_write (s : State) (a : Nat) (bs : Bytes) : TimeBaseKept s (s.write a bs) :=
  (timeBaseKept_copyAhead s a bs.length).trans (timeBaseKept_of_eq rfl rfl)

/-! ## Records and events -/

theorem timeBaseKept_msi (s : State) (hart eiid : Nat) : TimeBaseKept s (s.msi hart eiid) := by
  unfold State.msi
  split
  · exact .refl s
  · exact timeBaseKept_of_eq rfl rfl

theorem ringHead_outside_tbBlock {c : Nat} (h : c < 16) : ¬inTbBlock (R.NODE_CMD_RING_HEAD c) := by
  simp only [inTbBlock, R.NODE_CMD_RING_HEAD, nodeBlock, tbBlock]
  omega

theorem timeBaseKept_ringWrite (s : State) {c : Nat} (hc : c < 16) (r : Bytes) (m : Bool) :
    TimeBaseKept s (s.ringWrite c r m) := by
  unfold State.ringWrite
  extract_lets n i phase b0 s1 s2
  have h2 : TimeBaseKept s s2 := (timeBaseKept_write s _ _).wr (F.NODE_CMD_RING_HEAD_INDEX c) _ (ringHead_outside_tbBlock hc)
  split
  · exact h2.trans (timeBaseKept_msi s2 _ _)
  · exact h2

theorem cmdEvents_outside_tbBlock : ¬inTbBlock R.NODE_CMD_EVENTS := by unfold inTbBlock; decide

theorem timeBaseKept_toRing (s : State) {c : Nat} (hc : c < 16) (r : Bytes) (m e : Bool) :
    TimeBaseKept s (s.toRing c r m e) := by
  unfold State.toRing
  dsimp only
  split
  · exact timeBaseKept_ringWrite s hc r m
  · split
    · exact (TimeBaseKept.refl s).ev F.NODE_CMD_EVENTS_EVENT_DROPPED cmdEvents_outside_tbBlock
    · exact timeBaseKept_of_eq rfl rfl

theorem timeBaseKept_mgmtSend (s : State) (i k : Nat) (b : Bytes) : TimeBaseKept s (s.mgmtSend i k b) := by
  unfold State.mgmtSend
  split
  · exact .refl s
  · exact timeBaseKept_of_eq rfl rfl

theorem timeBaseKept_toMgmt (s : State) (i : Nat) (r : Bytes) : TimeBaseKept s (s.toMgmt i r) := by
  unfold State.toMgmt
  split
  · exact .refl s
  · refine TimeBaseKept.trans ?_ (timeBaseKept_mgmtSend _ _ _ _)
    exact timeBaseKept_of_eq rfl rfl

theorem timeBaseKept_ibi (s : State) : TimeBaseKept s s.ibi := by
  unfold State.ibi
  split
  · exact timeBaseKept_of_eq rfl rfl
  · exact .refl s

theorem panelEvents_outside_tbBlock : ¬inTbBlock R.PANEL_EVENTS := by unfold inTbBlock; decide

theorem timeBaseKept_toTray (s : State) (r : Bytes) : TimeBaseKept s (s.toTray r) := by
  unfold State.toTray
  extract_lets full q s1
  have h1 : TimeBaseKept s s1 := by
    show TimeBaseKept s (if full then _ else s)
    split
    · exact ((TimeBaseKept.refl s).ev F.NODE_CMD_EVENTS_EVENT_DROPPED cmdEvents_outside_tbBlock).ev F.PANEL_EVENTS_TSB_DROPPED
        panelEvents_outside_tbBlock
    · exact .refl s
  refine TimeBaseKept.trans ?_ (timeBaseKept_ibi _)
  exact h1.trans (timeBaseKept_of_eq rfl rfl)

/-- An event leaves the time base as it is. -/
theorem timeBaseKept_raiseEvent (s : State) (code st d : Nat) (r : Bytes) : TimeBaseKept s (s.raiseEvent code st d r) := by
  unfold State.raiseEvent
  extract_lets seq cmd1 s1 rcd s2 sessions s3
  have h1 : TimeBaseKept s s1 := timeBaseKept_of_eq rfl rfl
  have h2 : TimeBaseKept s1 s2 := timeBaseKept_forEach _ _ _ fun c hc t => by
    split
    · exact timeBaseKept_toRing t (List.mem_range.1 hc) _ _ _
    · exact .refl t
  have h3 : TimeBaseKept s2 s3 := timeBaseKept_forEach _ _ _ fun i _ t => timeBaseKept_toMgmt t i rcd
  exact ((h1.trans h2).trans h3).trans (timeBaseKept_toTray s3 rcd)

theorem recorderRegs_outside_tbBlock :
    ¬inTbBlock R.NODE_REC_COUNTS ∧ ¬inTbBlock R.NODE_REC_HEAD ∧ ¬inTbBlock R.NODE_REC_TAIL := by unfold inTbBlock; decide

/-- A record of the recorder leaves the time base as it is. -/
theorem timeBaseKept_recordPut (s : State) (cls : Option Nat) (k fl : Nat) (b : Bytes) :
    TimeBaseKept s (s.recordPut cls k fl b) := by
  obtain ⟨hcounts, hhead, htail⟩ := recorderRegs_outside_tbBlock
  have hring : ∀ base len off bytes, TimeBaseKept s (s.ringBytes base len off bytes) := fun base len off bytes =>
    (timeBaseKept_write s _ _).trans (timeBaseKept_write _ _ _)
  unfold State.recordPut
  split
  · exact .refl s
  · dsimp only
    split
    · exact ((TimeBaseKept.refl s).check _).inc F.NODE_REC_COUNTS_DROPPED 1 hcounts
    · exact ((((hring _ _ _ _).wr F.NODE_REC_HEAD_OFFSET _ hhead).wr F.NODE_REC_TAIL_OFFSET _ htail).incw
        F.NODE_REC_COUNTS_WRITTEN 1 hcounts).check _

theorem timeBaseKept_tickRecord (s : State) (kind : Nat) : TimeBaseKept s (s.tickRecord kind) := timeBaseKept_recordPut s _ _ _ _

theorem RecordFrame.tb_eq {s t : State} (h : RecordFrame s t) : t.tb = s.tb := by
  unfold RecordFrame at h
  rw [h]

/-- A reply leaves the time base as it is. -/
theorem timeBaseKept_short (s : State) (q : Sub) (st : Nat) (d : Bytes) : TimeBaseKept s (s.short q st d) := by
  have houtside : ¬inTbBlock R.NODE_CMD_COUNTS ∧ ¬inTbBlock R.FAB_ROUTE_MISSES ∧ ¬inTbBlock R.FAB_EVENTS := by
    unfold inTbBlock; decide
  obtain ⟨hcounts, hmisses, hevents⟩ := houtside
  have hcounted := (TimeBaseKept.refl s).inc F.NODE_CMD_COUNTS_ACCEPTED 1 hcounts
  refine ⟨(recordFrame_short s q st d).tb_eq, fun a ha => ?_⟩
  exact (State.reply_rdReg _ q st d (fun e => hmisses (e ▸ ha)) (fun e => hevents (e ▸ ha))).trans (hcounted.rdReg_eq a ha)

/-- The end of a command leaves the time base as it is. -/
theorem timeBaseKept_of_ok {s t : State} (h : ok s = .next t) : TimeBaseKept s t := by
  have houtside : ∀ a ∈ countRegs, ¬inTbBlock a := by unfold inTbBlock; decide
  have hregs := keepsRegs_of_ok (l := []) h fun _ _ => rfl
  exact ⟨by rw [rest_of_ok h], fun a ha => hregs a List.not_mem_nil fun hc => houtside a hc ha⟩

/-! ## States of the time base -/

/-- The time base as it was but for what a change of its state sets. -/
def StateFieldsOnly (b c : TimeBase) : Prop :=
  c = { b with good := c.good, bad := c.bad, acqSteps := c.acqSteps, restart := c.restart }

theorem setTb_tb (s : State) (st : Nat) : StateFieldsOnly s.tb (s.setTb st).tb := by
  unfold State.setTb
  split
  · rfl
  · rw [(timeBaseKept_tickRecord _ _).tb_eq]
    rfl

theorem rd_setTb_state (s : State) {st : Nat} (h : st < 8) : (s.setTb st).rd F.TB_STATUS_STATE = st := by
  unfold State.setTb
  split
  · exact beq_iff_eq.1 ‹_›
  · rw [(timeBaseKept_tickRecord _ _).rd_eq (by unfold inTbBlock; decide), State.rd_wr_same _ _ _ (by decide)]
    exact Nat.mod_eq_of_lt h

/-- A state entered changes no other field of the block. -/
theorem rd_setTb (s : State) (st : Nat) {f : Field} (hblock : inTbBlock f.addr) (hapart : f.apart F.TB_STATUS_STATE = true)
    (hfits : f.fits = true) : (s.setTb st).rd f = s.rd f := by
  unfold State.setTb
  split
  · rfl
  · rw [(timeBaseKept_tickRecord _ _).rd_eq hblock, State.rd_wr_apart _ _ hapart hfits, rd_withTb]

/-- After a loss the node is LOST, its sequencers are stopped, and no hold stops step time (R65). -/
theorem timebaseLost_lost (s : State) : s.timebaseLost.rd F.TB_STATUS_STATE = Tb.lost ∧ s.timebaseLost.tb.stopped = true ∧
    s.timebaseLost.tb.held = false := by
  unfold State.timebaseLost
  extract_lets b s1
  have hraised := timeBaseKept_raiseEvent ((s1.setTb Tb.lost).ev F.TB_EVENTS_LOST) Ev.timebase St.timebaseLost s1.step []
  have htb := setTb_tb s1 Tb.lost
  refine ⟨?_, ?_, ?_⟩
  · rw [hraised.rd_eq (by unfold inTbBlock; decide), State.ev, State.rd_wr_apart _ _ (by decide) (by decide)]
    exact rd_setTb_state s1 (by decide)
  · rw [hraised.tb_eq, State.ev_tb, htb]
  · rw [hraised.tb_eq, State.ev_tb, htb]

end Sys2Proof.Machine
end

section
/-! Holds, missed ticks, promotion and the rack reference (R56, R61 to R67). -/

namespace Sys2Proof.Machine

open Sys2Proof

/-! ## Holds -/

theorem exec_holdTimeout_held {s : State} (h : s.tb.held = true) : exec .holdTimeout s = ok s.timebaseLost := if_pos h

theorem exec_holdTimeout_idle {s : State} (h : s.tb.held = false) : exec .holdTimeout s = ok s := if_neg (ne_true_of_eq_false h)

/-! ## Ticks that stop (R60, R63) -/

/-- A port other than the parent, with a tick at most 4 intervals old. -/
def State.freshPort (s : State) (clk p : Nat) : Bool :=
  p != s.rd F.TB_STATUS_PARENT_PORT &&
    (match mfind s.tb.portTick p with | some c => clk ≤ c + s.intervals 4 | none => false)

theorem freshPort_iff (s : State) (clk p : Nat) : s.freshPort clk p = true ↔
    p ≠ s.rd F.TB_STATUS_PARENT_PORT ∧ ∃ c, mfind s.tb.portTick p = some c ∧ clk ≤ c + s.intervals 4 := by
  cases h : mfind s.tb.portTick p <;> simp [State.freshPort, h]

/-- Ticks can stop: a follower has had a valid tick, and its state is one of those that follow ticks. -/
def State.canMissTicks (s : State) : Bool :=
  ((s.tb.role == 1 || s.tb.role == 3) && s.tb.lastStamp.isSome) &&
    (s.tbState == Tb.acquiring || s.tbState == Tb.locked || s.tbState == Tb.holdover)

theorem canMissTicks_eq_true {s : State} (hrole : s.tb.role = 1 ∨ s.tb.role = 3) (hlast : s.tb.lastStamp ≠ none)
    (hst : s.tbState = Tb.acquiring ∨ s.tbState = Tb.locked ∨ s.tbState = Tb.holdover) : s.canMissTicks = true := by
  have hsome : s.tb.lastStamp.isSome = true := Option.isSome_iff_ne_none.2 hlast
  simpa [State.canMissTicks, hsome, hrole, or_assoc] using hst

theorem exec_ticksStop_ignored {s : State} (clk : Nat) (h : s.tb.role = 0 ∨ s.tb.role = 2 ∨ s.tb.lastStamp = none) :
    exec (.ticksStop clk) s = ok s := by
  refine if_pos ?_
  rcases h with h | h | h <;> rw [h] <;> simp

theorem exec_ticksStop_missed {s : State} (clk : Nat) (h : s.canMissTicks = true) : exec (.ticksStop clk) s =
    match (s.parentList (s.rd F.TB_STATUS_SRC)).find? (s.freshPort clk) with
    | some p => ok (s.setParent p)
    | none => if s.tbState == Tb.holdover then ok s else ok ((s.ev F.TB_EVENTS_HOLDOVER).setTb Tb.holdover) := by
  refine (if_neg ?_).trans rfl
  rw [State.canMissTicks, Bool.and_eq_true] at h
  obtain ⟨hfollower, hst⟩ := h
  simp only [hfollower, hst]
  decide

section
variable {s : State} (clk : Nat) (h : s.canMissTicks = true)
include h

theorem exec_ticksStop_switches {p : Nat} (hfresh : (s.parentList (s.rd F.TB_STATUS_SRC)).find? (s.freshPort clk) = some p) :
    exec (.ticksStop clk) s = ok (s.setParent p) := by
  rw [exec_ticksStop_missed clk h, hfresh]

variable (hnone : (s.parentList (s.rd F.TB_STATUS_SRC)).find? (s.freshPort clk) = none)
include hnone

theorem exec_ticksStop_holdover (hst : s.tbState ≠ Tb.holdover) :
    exec (.ticksStop clk) s = ok ((s.ev F.TB_EVENTS_HOLDOVER).setTb Tb.holdover) := by
  rw [exec_ticksStop_missed clk h, hnone]
  exact if_neg (mt beq_iff_eq.1 hst)

theorem exec_ticksStop_stays (hst : s.tbState = Tb.holdover) : exec (.ticksStop clk) s = ok s := by
  rw [exec_ticksStop_missed clk h, hnone]
  exact if_pos (beq_iff_eq.2 hst)

end

/-! ## Promotion and the rack inputs (R56, R67) -/

theorem exec_standbyPromotion_promotes {s : State} (hrole : s.tb.role = 3) (hst : s.tbState = Tb.holdover) :
    exec .standbyPromotion s = ok (((({ s with tb := { s.tb with held := false } } : State).wr F.TB_STATUS_REF_LOST
      (if s.tb.refPresent then 0 else 1)).ev F.TB_EVENTS_PROMOTED).setTb Tb.master) := by
  rw [← b2n_not]
  exact if_pos (by simp [hrole, hst])

theorem exec_standbyPromotion_idle {s : State} (h : s.tb.role ≠ 3 ∨ s.tbState ≠ Tb.holdover) :
    exec .standbyPromotion s = ok s :=
  if_neg (by simpa [imp_iff_not_or] using h)

theorem exec_rtbEpochEdge_begins {since t : Nat} {s : State} (h : s.tb.start = some t) (hsince : 1000000 ≤ since) :
    exec (.rtbEpochEdge since) s = ok ((s.loadTime t 0).masterTick t) := by
  show execRtbEpochEdge since s = _
  rw [execRtbEpochEdge, h]
  exact if_neg (not_lt.2 hsince)

theorem exec_rtbEpochEdge_ignored {since : Nat} {s : State} (h : since < 1000000 ∨ s.tb.start = none) :
    exec (.rtbEpochEdge since) s = ok s := by
  show execRtbEpochEdge since s = _
  unfold execRtbEpochEdge
  split
  · exact if_pos (h.resolve_right (by simp [*]))
  · rfl

theorem exec_rtbRefLoss_master {s : State} (h : s.tbState = Tb.master) : exec .rtbRefLoss s =
    ok ((({ s with tb := { s.tb with refPresent := false } } : State).wr F.TB_STATUS_REF_LOST 1).ev F.TB_EVENTS_REF_LOST) :=
  if_pos (beq_iff_eq.2 h)

theorem exec_rtbRefLoss_other {s : State} (h : s.tbState ≠ Tb.master) :
    exec .rtbRefLoss s = ok { s with tb := { s.tb with refPresent := false } } :=
  if_neg (mt beq_iff_eq.1 h)

/-- Settles O11. Each event by its guard; ports with a fresh tick are those of `State.freshPort`. -/
theorem holdoverAndReference : Obligations.HoldoverAndReference := by
  refine ⟨fun _ => rfl, fun _ h => exec_holdTimeout_held h, fun _ h => exec_holdTimeout_idle h, timebaseLost_lost,
    fun clk s fresh hfresh hrole hlast hst => ?_, fun clk s h => exec_ticksStop_ignored clk h,
    fun s hrole hst => exec_standbyPromotion_promotes hrole hst, fun s h => exec_standbyPromotion_idle h,
    fun since t s h hsince => exec_rtbEpochEdge_begins h hsince, fun since s h => exec_rtbEpochEdge_ignored h,
    fun s h => exec_rtbRefLoss_master h, fun s h => exec_rtbRefLoss_other h, fun _ => rfl⟩
  have hmissed := canMissTicks_eq_true hrole hlast hst
  obtain rfl : fresh = s.freshPort clk := funext fun p => Bool.eq_iff_iff.2 ((hfresh p).trans (freshPort_iff s clk p).symm)
  exact ⟨fun p hp => exec_ticksStop_switches clk hmissed hp, fun hnone hst => exec_ticksStop_holdover clk hmissed hnone hst,
    fun hnone hst => exec_ticksStop_stays clk hmissed hnone hst⟩

end Sys2Proof.Machine
end

section
/-! TIMEBASE_BIND (R54 to R57), the reads of TB_NOW and the alarms (R68, R70). -/

namespace Sys2Proof.Machine

open Sys2Proof

/-! ## A range of registers at its Reset values -/

theorem mget_filter_key {α : Type} (p : Nat → Bool) (k : Nat) (d : α) :
    ∀ m : List (Nat × α), mget (m.filter fun x => p x.1) k d = if p k then mget m k d else d
  | [] => by simp [mget]
  | (j, v) :: m => by
    rw [List.filter_cons]
    by_cases hjk : k = j
    · subst hjk
      cases hp : p k <;> simp [mget, mget_filter_key p k d m, hp]
    · cases hp : p j <;> simp [mget, hjk, mget_filter_key p k d m]

/-- A rising list put entry by entry into another: its entries read from it, the others as before. -/
theorem mget_foldl_mput {α : Type} (k : Nat) (d : α) : ∀ {lo : Nat} (l m : List (Nat × α)), risingFrom lo l = true →
    mget (l.foldl (fun m x => mput m x.1 x.2) m) k d = mget l k (mget m k d)
  | _, [], _, _ => rfl
  | _, (j, v) :: l, m, h => by
    simp only [risingFrom, Bool.and_eq_true] at h
    obtain ⟨-, hl⟩ := h
    rw [List.foldl_cons, mget_foldl_mput k d l _ hl, mget]
    by_cases hkj : k = j
    · rw [if_pos hkj, mget_below _ (by omega) hl, hkj, mget_mput_same]
    · rw [if_neg hkj, mget_mput_ne _ _ _ hkj]

/-- A register of the range reads its Reset value, any other what it held. -/
theorem rdReg_resetRange (s : State) (lo hi a : Nat) :
    (s.resetRange lo hi).rdReg a = if lo ≤ a ∧ a < hi then State.reset.rdReg a else s.rdReg a := by
  have hwf : risingFrom 0 resetRegs = true := (Bool.and_eq_true_iff.1 resetRegs_wf).1
  have hregs : mget (s.resetRange lo hi).regs a 0 = mget (resetRegs.filter fun r => lo ≤ r.1 && r.1 < hi) a
      (mget (s.regs.filter fun r => !(lo ≤ r.1 && r.1 < hi)) a 0) :=
    mget_foldl_mput a 0 _ _ (risingFrom_filter _ hwf)
  rw [State.rdReg, hregs, mget_filter_key (fun k => lo ≤ k && k < hi), mget_filter_key (fun k => !(lo ≤ k && k < hi))]
  by_cases h : lo ≤ a ∧ a < hi
  · have hb : (decide (lo ≤ a) && decide (a < hi)) = true := by simpa using h
    rw [if_pos h, if_pos hb, hb, if_neg (by decide)]
    rfl
  · have hb : (decide (lo ≤ a) && decide (a < hi)) = false := by rw [← Bool.decide_and]; exact decide_eq_false h
    rw [if_neg h, if_neg (ne_true_of_eq_false hb), hb, if_pos (by decide)]
    rfl

/-! ## What a bind asks for (Table 3.3) -/

theorem fld_lt (bs : Bytes) (off n : Nat) : fld bs off n < 256 ^ n := by
  have hle : ∀ l : Bytes, leNat l < 256 ^ l.length := fun l => by
    induction l with
    | nil => exact Nat.one_pos
    | cons b l ih =>
      have hb := b.isLt
      rw [leNat, List.length_cons, pow_succ]
      omega
  exact (hle _).trans_le (Nat.pow_le_pow_right (by decide) (List.length_take_le _ _))

/-- TB_ID, TICK_LOG2 or PERIOD_NS of a bind is out of range. -/
def Sub.bindRangeBad (q : Sub) : Bool :=
  q.p 2 2 = 0 || q.p 1 1 > 23 || q.p 8 8 < 50000 || 10 ^ 10 < q.p 8 8 || q.p 8 8 < 1000 * 2 ^ q.p 1 1 ||
    100000 * 2 ^ q.p 1 1 < q.p 8 8

/-- The first row of Table 3.3: a reserved ROLE, or a parameter that its ROLE does not allow. -/
def Sub.bindBad (q : Sub) : Bool :=
  q.p 0 1 > 3 || (q.p 0 1 = 0 && (q.p 2 2 != 0 || q.p 1 1 != 0 || q.p 8 8 != 0 || q.p 16 8 != 0)) ||
    (q.p 0 1 != 0 && q.bindRangeBad) || (q.p 0 1 != 2 && q.p 16 8 != 0) || q.p 16 8 % 2 ^ 24 != 0

theorem bindBad_of_unbind {q : Sub} (hrole : q.p 0 1 = 0) (hlog2 : q.p 1 1 = 0) (hid : q.p 2 2 = 0) (hperiod : q.p 8 8 = 0)
    (hstart : q.p 16 8 = 0) : q.bindBad = false := by
  simp [Sub.bindBad, hrole, hlog2, hid, hperiod, hstart]

theorem bindBad_eq_true {q : Sub} (hrole : q.p 0 1 ≠ 0) (h : q.p 2 2 = 0 ∨ 23 < q.p 1 1 ∨ q.p 8 8 < 50000 ∨ 10 ^ 10 < q.p 8 8 ∨
    q.p 8 8 < 1000 * 2 ^ q.p 1 1 ∨ 100000 * 2 ^ q.p 1 1 < q.p 8 8 ∨ (q.p 0 1 ≠ 2 ∧ q.p 16 8 ≠ 0) ∨ q.p 16 8 % 2 ^ 24 ≠ 0) :
    q.bindBad = true := by
  have hrange : q.bindRangeBad = true ∨ (q.p 0 1 ≠ 2 ∧ q.p 16 8 ≠ 0) ∨ q.p 16 8 % 2 ^ 24 ≠ 0 := by
    simpa only [Sub.bindRangeBad, Bool.or_eq_true, decide_eq_true_eq, or_assoc] using h
  simp only [Sub.bindBad, Bool.or_eq_true, Bool.and_eq_true, bne_iff_ne]
  rcases hrange with hrange | hstart | hphase
  · exact .inl (.inl (.inr ⟨hrole, hrange⟩))
  · exact .inl (.inr hstart)
  · exact .inr hphase

/-- The parameters of a bind with ROLE 1 to 3 are in range, and START stands only where it belongs. -/
structure Sub.BindGood (q : Sub) : Prop where
  role_ne : q.p 0 1 ≠ 0
  role_le : q.p 0 1 ≤ 3
  id_ne : q.p 2 2 ≠ 0
  log2_le : q.p 1 1 ≤ 23
  period_ge : 50000 ≤ q.p 8 8
  period_le : q.p 8 8 ≤ 10 ^ 10
  interval_ge : 1000 * 2 ^ q.p 1 1 ≤ q.p 8 8
  interval_le : q.p 8 8 ≤ 100000 * 2 ^ q.p 1 1
  start_other : q.p 0 1 ≠ 2 → q.p 16 8 = 0
  start_phase : q.p 16 8 % 2 ^ 24 = 0

theorem Sub.BindGood.bindBad_eq_false {q : Sub} (h : q.BindGood) : q.bindBad = false := by
  have hreserved : decide (q.p 0 1 > 3) = false := decide_eq_false (not_lt.2 h.role_le)
  have hrole : decide (q.p 0 1 = 0) = false := decide_eq_false h.role_ne
  have hrange : q.bindRangeBad = false := by
    simp only [Sub.bindRangeBad, Bool.or_eq_false_iff, decide_eq_false_iff_not, not_lt]
    exact ⟨⟨⟨⟨⟨h.id_ne, h.log2_le⟩, h.period_ge⟩, h.period_le⟩, h.interval_ge⟩, h.interval_le⟩
  have hstart : (q.p 0 1 != 2 && q.p 16 8 != 0) = false := by
    by_cases hk : q.p 0 1 = 2
    · simp [hk]
    · simp [h.start_other hk]
  have hphase : (q.p 16 8 % 2 ^ 24 != 0) = false := by rw [h.start_phase]; rfl
  simp only [Sub.bindBad, hreserved, hrole, hrange, hstart, hphase, Bool.false_and, Bool.and_false, Bool.or_false]

/-! ## The outcomes of a bind -/

/-- What the binding in force keeps beside its registers. -/
def State.bindTaken (s : State) (q : Sub) : State :=
  { s with tb := { s.tb with
    role := q.p 0 1, start := if q.p 0 1 = 2 then some (q.p 16 8) else none, loadPending := q.p 0 1 == 1 || q.p 0 1 == 3
    lastStamp := none, portTick := [], good := 0, bad := 0, acqSteps := 0, held := false, ended := false } }

/-- An accepted bind clears the counts and disables the alarms. -/
def State.bindCleared (s : State) (q : Sub) : State :=
  forEach (List.range 32) ((s.bindTaken q).wrReg R.TB_COUNTS 0) (fun a s => s.wr (F.TB_ALARM_CTRL_ENABLE a) 0)

/-- An unbound node is FREE under the Reset values. -/
def State.unbound (s : State) : State :=
  ((s.setTb Tb.free).resetRange R.TB_STATUS (R.TB_STATUS + 8)).resetRange R.TB_PERIOD (R.TB_PERIOD + 8)

/-- The registers of a binding. -/
def State.bindShown (s : State) (q : Sub) : State :=
  (((((s.wr F.TB_STATUS_TB_ID (q.p 2 2)).wr F.TB_STATUS_TICK_LOG2 (q.p 1 1)).wr F.TB_PERIOD_PERIOD_NS (q.p 8 8)).wr
    F.TB_STATUS_SRC 0).wr F.TB_STATUS_PARENT_PORT 0xF).wr F.TB_STATUS_HOLD_STEPS 0

/-- A bound node is MASTER with ROLE 2, and ACQUIRING with another. -/
def State.bindEntered (s : State) (q : Sub) : State :=
  if q.p 0 1 = 2 then (s.wr F.TB_STATUS_REF_LOST 0).setTb Tb.master else s.setTb Tb.acquiring

section
variable {s : State} {q : Sub}

theorem bind_malformed (h : q.bindBad = true) : s.bind q = s.short q St.badParam [] := if_pos h

theorem bind_reference (href : q.p 0 1 = 2 → s.tb.refPresent = true) : ¬(q.p 0 1 = 2 && !s.tb.refPresent) = true := by
  simpa using href

variable (hbad : q.bindBad = false)
include hbad

theorem bind_noReference (hrole : q.p 0 1 = 2) (href : s.tb.refPresent = false) :
    s.bind q = (s.wr F.TB_STATUS_REF_LOST 1).short q St.badParam [] :=
  (if_neg (ne_true_of_eq_false hbad)).trans (if_pos (by simp [hrole, href]))

variable (href : q.p 0 1 = 2 → s.tb.refPresent = true)
include href

theorem bind_busy (hjob : s.job ≠ none) (hst : s.tbState ≠ Tb.lost) : s.bind q = s.short q St.busy [] := by
  have hadmitted : s.admitted = true := Option.isSome_iff_ne_none.2 hjob
  exact (if_neg (ne_true_of_eq_false hbad)).trans ((if_neg (bind_reference href)).trans (if_pos (by simp [hadmitted, hst])))

theorem bind_accepted (hjob : s.job = none) : s.bind q =
    (if q.p 0 1 = 0 then (s.bindCleared q).unbound else ((s.bindCleared q).bindShown q).bindEntered q).short q St.ok [] := by
  have hadmitted : s.admitted = false := by rw [State.admitted, hjob]; rfl
  exact (if_neg (ne_true_of_eq_false hbad)).trans ((if_neg (bind_reference href)).trans
    ((if_neg (by simp [hadmitted])).trans (if_neg (by simp [hadmitted]))))

end

/-! ## What a binding leaves -/

theorem bindCleared_tb (s : State) (q : Sub) : (s.bindCleared q).tb = (s.bindTaken q).tb := by
  have h : RegsFrame ((s.bindTaken q).wrReg R.TB_COUNTS 0) (s.bindCleared q) :=
    regsFrame_forEach _ (fun a t => regsFrame_wr t _ _) _ _
  unfold RegsFrame at h
  rw [h]
  rfl

/-- A change of state leaves what a binding sets. -/
theorem StateFieldsOnly.binding_eq {b c : TimeBase} (h : StateFieldsOnly b c) : c.role = b.role ∧ c.lastStamp = b.lastStamp ∧
    c.held = b.held ∧ c.start = b.start ∧ c.loadPending = b.loadPending := by
  unfold StateFieldsOnly at h
  rw [h]
  exact ⟨rfl, rfl, rfl, rfl, rfl⟩

theorem unbound_tb (s : State) : StateFieldsOnly s.tb s.unbound.tb := setTb_tb s Tb.free

theorem rd_unbound_state (s : State) : s.unbound.rd F.TB_STATUS_STATE = Tb.free := by
  have hreset : State.reset.rd F.TB_STATUS_STATE = Tb.free := State.reset_rd_of_listed resetRegs_tbStatus rfl
  have hstatus : s.unbound.rdReg R.TB_STATUS = State.reset.rdReg R.TB_STATUS := by
    rw [State.unbound, rdReg_resetRange, if_neg (by decide), rdReg_resetRange, if_pos (by decide)]
  exact (congrArg (bits · 0 3) hstatus).trans hreset

theorem bindEntered_tb (s : State) (q : Sub) : StateFieldsOnly s.tb (s.bindEntered q).tb := by
  unfold State.bindEntered
  split
  · exact setTb_tb (s.wr F.TB_STATUS_REF_LOST 0) Tb.master
  · exact setTb_tb s Tb.acquiring

theorem rd_bindEntered_state (s : State) (q : Sub) :
    (s.bindEntered q).rd F.TB_STATUS_STATE = if q.p 0 1 = 2 then Tb.master else Tb.acquiring := by
  unfold State.bindEntered
  split
  · exact rd_setTb_state _ (by decide)
  · exact rd_setTb_state _ (by decide)

theorem rd_bindEntered (s : State) (q : Sub) {f : Field} (hblock : inTbBlock f.addr) (hstate : f.apart F.TB_STATUS_STATE = true)
    (hlost : f.apart F.TB_STATUS_REF_LOST = true) (hfits : f.fits = true) : (s.bindEntered q).rd f = s.rd f := by
  unfold State.bindEntered
  split
  · rw [rd_setTb _ _ hblock hstate hfits, State.rd_wr_apart _ _ hlost hfits]
  · exact rd_setTb _ _ hblock hstate hfits

theorem bindShown_tb (s : State) (q : Sub) : (s.bindShown q).tb = s.tb := by
  simp only [State.bindShown, State.wr_tb]

theorem rd_bindShown_id (s : State) (q : Sub) : (s.bindShown q).rd F.TB_STATUS_TB_ID = q.p 2 2 := by
  unfold State.bindShown
  iterate 5 rw [State.rd_wr_apart _ _ (by decide) (by decide)]
  rw [State.rd_wr_same _ _ _ (by decide)]
  exact Nat.mod_eq_of_lt (fld_lt q.params 2 2)

theorem rd_bindShown_log2 (s : State) {q : Sub} (h : q.p 1 1 ≤ 23) : (s.bindShown q).rd F.TB_STATUS_TICK_LOG2 = q.p 1 1 := by
  unfold State.bindShown
  iterate 4 rw [State.rd_wr_apart _ _ (by decide) (by decide)]
  rw [State.rd_wr_same _ _ _ (by decide)]
  exact Nat.mod_eq_of_lt (h.trans_lt (by decide))

theorem rd_bindShown_period (s : State) {q : Sub} (h : q.p 8 8 ≤ 10 ^ 10) :
    (s.bindShown q).rd F.TB_PERIOD_PERIOD_NS = q.p 8 8 := by
  unfold State.bindShown
  iterate 3 rw [State.rd_wr_apart _ _ (by decide) (by decide)]
  rw [State.rd_wr_same _ _ _ (by decide)]
  exact Nat.mod_eq_of_lt (h.trans_lt (by decide))

theorem inTbBlock_status : inTbBlock R.TB_STATUS := by unfold inTbBlock; decide
theorem inTbBlock_period : inTbBlock R.TB_PERIOD := by unfold inTbBlock; decide

/-- The end of an accepted bind leaves the binding as it is. -/
theorem timeBaseKept_bound {u t : State} {q : Sub} (h : ok (u.short q St.ok []) = .next t) : TimeBaseKept u t :=
  (timeBaseKept_short u q St.ok []).trans (timeBaseKept_of_ok h)

/-! ## The rows of TIMEBASE_BIND -/

/-- The rows that bind, each with its ROLE. -/
theorem exec_timebaseBind {s : State} {q : Sub} {r : List Sub} {c : Instr} {k : Nat} (hq : s.front q r Op.timebaseBind)
    (hrole : q.p 0 1 = k) (hrow : (c, k) ∈ [(Instr.timebaseBindFollower, 1), (.timebaseBindMaster, 2), (.timebaseBindStandby, 3)]) :
    exec c s = ok ((s.taken r).bind q) := by
  simp only [List.mem_cons, Prod.mk.injEq, List.not_mem_nil, or_false] at hrow
  rcases hrow with ⟨rfl, rfl⟩ | ⟨rfl, rfl⟩ | ⟨rfl, rfl⟩
  · show execTimebaseBindFollower s = _
    rw [execTimebaseBindFollower, withSub_front hq (decide_eq_true hrole)]
  · show execTimebaseBindMaster s = _
    rw [execTimebaseBindMaster, withSub_front hq (decide_eq_true hrole)]
  · show execTimebaseBindStandby s = _
    rw [execTimebaseBindStandby, withSub_front hq (decide_eq_true hrole)]

theorem exec_timebaseUnbind {s : State} {q : Sub} {r : List Sub} (hq : s.front q r Op.timebaseBind) (hrole : q.p 0 1 = 0) :
    exec .timebaseUnbind s = ok ((s.taken r).bind q) := by
  show execTimebaseUnbind s = _
  rw [execTimebaseUnbind, withSub_front hq (by simp [hrole])]

theorem role_of_row {c : Instr} {k : Nat}
    (hrow : (c, k) ∈ [(Instr.timebaseBindFollower, 1), (.timebaseBindMaster, 2), (.timebaseBindStandby, 3)]) : k ≠ 0 ∧ k ≤ 3 := by
  simp only [List.mem_cons, Prod.mk.injEq, List.not_mem_nil, or_false] at hrow
  omega

theorem timebaseUnbind_frees {s : State} {q : Sub} {r : List Sub} (hq : s.front q r Op.timebaseBind) (hjob : s.job = none)
    (hrole : q.p 0 1 = 0) (hlog2 : q.p 1 1 = 0) (hid : q.p 2 2 = 0) (hperiod : q.p 8 8 = 0) (hstart : q.p 16 8 = 0) :
    Does .timebaseUnbind s (fun t => t.tb.role = 0 ∧ t.tb.lastStamp = none ∧ t.tb.held = false ∧ t.tb.start = none ∧
      t.tb.loadPending = false ∧ t.rd F.TB_STATUS_STATE = Tb.free) := by
  have hbad := bindBad_of_unbind hrole hlog2 hid hperiod hstart
  have hno : q.p 0 1 ≠ 2 := by omega
  have hjob' : (s.taken r).job = none := hjob
  have hbind : (s.taken r).bind q = ((s.taken r).bindCleared q).unbound.short q St.ok [] := by
    rw [bind_accepted hbad (fun h => absurd h hno) hjob', if_pos hrole]
  refine does_of_ok ((exec_timebaseUnbind hq hrole).trans (congrArg ok hbind)) fun t ht => ?_
  have hkept := timeBaseKept_bound ht
  have hbinding := (unbound_tb ((s.taken r).bindCleared q)).binding_eq
  rw [bindCleared_tb] at hbinding
  obtain ⟨hrole', hlast, hheld, hstart', hpending⟩ := hbinding
  rw [hkept.tb_eq, hkept.rd_eq inTbBlock_status, rd_unbound_state, hrole', hlast, hheld, hstart', hpending]
  exact ⟨hrole, rfl, rfl, if_neg hno, by simp [State.bindTaken, hrole], rfl⟩

section
variable {s : State} {q : Sub} {r : List Sub} {c : Instr} {k : Nat} (hq : s.front q r Op.timebaseBind) (hrole : q.p 0 1 = k)
  (hrow : (c, k) ∈ [(Instr.timebaseBindFollower, 1), (.timebaseBindMaster, 2), (.timebaseBindStandby, 3)])
include hq hrole hrow

theorem timebaseBind_binds (hjob : s.job = none) (hgood : q.BindGood) (href : k = 2 → s.tb.refPresent = true) :
    Does c s (fun t => t.tb.role = k ∧ t.tb.lastStamp = none ∧ t.tb.held = false ∧
      t.tb.start = (if k = 2 then some (q.p 16 8) else none) ∧ t.tb.loadPending = decide (k ≠ 2) ∧
      t.rd F.TB_STATUS_STATE = (if k = 2 then Tb.master else Tb.acquiring) ∧ t.rd F.TB_STATUS_TB_ID = q.p 2 2 ∧
      t.rd F.TB_STATUS_TICK_LOG2 = q.p 1 1 ∧ t.periodNs = q.p 8 8) := by
  obtain ⟨hne, hle⟩ := role_of_row hrow
  subst hrole
  have hjob' : (s.taken r).job = none := hjob
  have hbind : (s.taken r).bind q = ((((s.taken r).bindCleared q).bindShown q).bindEntered q).short q St.ok [] := by
    rw [bind_accepted (s := s.taken r) hgood.bindBad_eq_false href hjob', if_neg hne]
  refine does_of_ok ((exec_timebaseBind hq rfl hrow).trans (congrArg ok hbind)) fun t ht => ?_
  have hkept := timeBaseKept_bound ht
  have hbinding := (bindEntered_tb (((s.taken r).bindCleared q).bindShown q) q).binding_eq
  rw [bindShown_tb, bindCleared_tb] at hbinding
  obtain ⟨hrole', hlast, hheld, hstart', hpending'⟩ := hbinding
  have hpending : (q.p 0 1 == 1 || q.p 0 1 == 3) = decide (q.p 0 1 ≠ 2) := by
    rw [Bool.eq_iff_iff]
    simp only [Bool.or_eq_true, beq_iff_eq, decide_eq_true_eq]
    omega
  rw [hkept.tb_eq, State.periodNs, hkept.rd_eq inTbBlock_status, hkept.rd_eq inTbBlock_status, hkept.rd_eq inTbBlock_status,
    hkept.rd_eq inTbBlock_period, rd_bindEntered_state, rd_bindEntered _ q inTbBlock_status (by decide) (by decide) (by decide),
    rd_bindEntered _ q inTbBlock_status (by decide) (by decide) (by decide),
    rd_bindEntered _ q inTbBlock_period (by decide) (by decide) (by decide), rd_bindShown_id, rd_bindShown_log2 _ hgood.log2_le,
    rd_bindShown_period _ hgood.period_le, hrole', hlast, hheld, hstart', hpending']
  exact ⟨rfl, rfl, rfl, rfl, hpending, rfl, rfl, rfl, rfl⟩

theorem timebaseBind_malformed (h : q.p 2 2 = 0 ∨ 23 < q.p 1 1 ∨ q.p 8 8 < 50000 ∨ 10 ^ 10 < q.p 8 8 ∨
    q.p 8 8 < 1000 * 2 ^ q.p 1 1 ∨ 100000 * 2 ^ q.p 1 1 < q.p 8 8 ∨ (k ≠ 2 ∧ q.p 16 8 ≠ 0) ∨ q.p 16 8 % 2 ^ 24 ≠ 0) :
    exec c s = ok ((s.taken r).short q St.badParam []) := by
  obtain ⟨hne, -⟩ := role_of_row hrow
  subst hrole
  rw [exec_timebaseBind hq rfl hrow, bind_malformed (bindBad_eq_true hne h)]

theorem timebaseBind_noReference (hgood : q.BindGood) (hk : k = 2) (href : s.tb.refPresent = false) :
    exec c s = ok (((s.taken r).wr F.TB_STATUS_REF_LOST 1).short q St.badParam []) := by
  rw [exec_timebaseBind hq hrole hrow, bind_noReference (s := s.taken r) hgood.bindBad_eq_false (hrole.trans hk) href]

theorem timebaseBind_busy (hgood : q.BindGood) (href : k = 2 → s.tb.refPresent = true) (hjob : s.job ≠ none)
    (hst : s.tbState ≠ Tb.lost) : exec c s = ok ((s.taken r).short q St.busy []) := by
  rw [exec_timebaseBind hq hrole hrow,
    bind_busy (s := s.taken r) hgood.bindBad_eq_false (fun h => href (hrole.symm.trans h)) hjob hst]

end

/-! ## Reads of TB_NOW (R68) -/

section
variable (h : Fin 64) (rd : Fin 32) (now : BitVec 64) (fine : BitVec 16) (s : State)

/-- A hart number of the Dome, as an agent that reads TB_NOW; the Gatehouse is agent 64. -/
def readerOf (h : Fin 64) : Fin 65 := ⟨h.val, by omega⟩

theorem exec_tbNowRead_reg (hrd : rd ≠ 0) : exec (.tbNowRead (readerOf h) rd now fine) s =
    ok (((s.at_ now.toNat fine.toNat).latchFine h).setHart h { (s.at_ now.toNat fine.toNat).hart h with
      x := mput ((s.at_ now.toNat fine.toNat).hart h).x rd (BitVec.ofNat 64 (s.at_ now.toNat fine.toNat).now) }) := by
  have hh : h.val ≠ 64 := h.isLt.ne
  have hrd' : rd.val ≠ 0 := fun e => hrd (Fin.ext e)
  exact if_neg (by simp [readerOf, hh, hrd'])

theorem exec_tbNowRead_noReg : exec (.tbNowRead (readerOf h) 0 now fine) s =
    ok ((s.at_ now.toNat fine.toNat).latchFine h) := if_pos (by simp)

theorem exec_tbNowRead_gatehouse : exec (.tbNowRead 64 rd now fine) s = ok ((s.at_ now.toNat fine.toNat).latchFine 64) := by
  have h64 : (64 : Fin 65).val = 64 := rfl
  show execTbNowRead 64 rd now fine s = _
  rw [execTbNowRead, if_pos (by rw [h64]; rfl), h64]

end

theorem at_unreached {s : State} {now : Nat} (fine : Nat) (h : s.reach now = none) : s.at_ now fine = s := by
  rw [State.at_, h]

theorem at_reached {s u : State} {now : Nat} (fine : Nat) (h : s.reach now = some u) : s.at_ now fine =
    if u.ticking && u.now == now then { u with tb := { u.tb with fine := max u.tb.fine fine } } else u := by
  rw [State.at_, h]

theorem at_stands {s u : State} {now : Nat} (fine : Nat) (h : s.reach now = some u) (hticks : u.ticking = true)
    (hnow : u.now = now) : s.at_ now fine = { u with tb := { u.tb with fine := max u.tb.fine fine } } := by
  rw [at_reached fine h, if_pos (by simp [hticks, hnow])]

theorem at_past {s u : State} {now : Nat} (fine : Nat) (h : s.reach now = some u) (hpast : u.ticking = false ∨ u.now ≠ now) :
    s.at_ now fine = u := by
  rw [at_reached fine h, if_neg (by simpa [imp_iff_not_or] using hpast)]

theorem hartFine_latchFine (s : State) (h : Nat) : mget (s.latchFine h).tb.hartFine h 0 = s.tb.fine := mget_mput_same _ _ _ _

/-! ## Alarms (R70) -/

theorem alarmTime_ne_tbNow (a : Fin 32) : R.TB_ALARM_TIME a ∉ [R.TB_NOW] ∧ R.TB_ALARM_CTRL a ∉ [R.TB_NOW] := by
  simp only [List.mem_singleton, R.TB_ALARM_TIME, R.TB_ALARM_CTRL, R.TB_NOW]
  omega

theorem fireAlarm_eq (s : State) (a : Nat) {v : State}
    (hv : v = (s.wr (F.TB_ALARM_CTRL_FIRED a) 1).wr (F.TB_ALARM_CTRL_ENABLE a) 0) : s.fireAlarm a =
      if v.rd (F.TB_ALARM_CTRL_MSI a) = 0 then v
      else v.msi (v.rd (F.TB_ALARM_CTRL_HART a)) (v.rd (F.TB_ALARM_CTRL_EIID a)) := by
  subst hv
  unfold State.fireAlarm State.flag
  simp only [bne_iff_ne, ite_not]

section
variable {s u : State} (a : Fin 32)

theorem exec_alarmFire_disabled (h : s.rd (F.TB_ALARM_CTRL_ENABLE a) = 0) : exec (.alarmFire a) s = ok s :=
  if_pos (by rw [State.flag_eq_false h]; rfl)

/-- An alarm whose target step time has reached is due. -/
theorem alarmDue_of_reach (h : s.rd (F.TB_ALARM_CTRL_ENABLE a) = 1) (hload : s.tb.loadPending = false) (hstart : s.tb.start = none)
    (hreach : s.reach (s.rd (F.TB_ALARM_TIME_TARGET a)) = some u) : u.alarmDue a = true := by
  obtain ⟨htime, hctrl⟩ := alarmTime_ne_tbNow a
  obtain ⟨htarget, -⟩ := reach_forwards (s.rd_lt (F.TB_ALARM_TIME_TARGET a)) hreach
  have htb : u.tb.loadPending = s.tb.loadPending ∧ u.tb.start = s.tb.start := by
    rcases eq_of_reach hreach with rfl | rfl
    · exact ⟨rfl, rfl⟩
    · exact ⟨rfl, rfl⟩
  obtain ⟨hload', hstart'⟩ := htb
  rw [State.alarmDue, State.flag, hload', hstart', hload, hstart, rd_of_reach (f := F.TB_ALARM_CTRL_ENABLE a) hreach hctrl,
    rd_of_reach (f := F.TB_ALARM_TIME_TARGET a) hreach htime, h, decide_eq_true htarget]
  rfl

theorem exec_alarmFire_fires (h : s.rd (F.TB_ALARM_CTRL_ENABLE a) = 1) (hload : s.tb.loadPending = false)
    (hstart : s.tb.start = none) (hreach : s.reach (s.rd (F.TB_ALARM_TIME_TARGET a)) = some u) :
    exec (.alarmFire a) s = ok (u.fireAlarm a) := by
  refine (if_neg (by rw [State.flag_eq_true h]; decide)).trans ?_
  rw [hreach]
  exact if_pos (alarmDue_of_reach a h hload hstart hreach)

end

/-- Settles O12. A bind by the rows of Table 3.3, a read by whether step time reaches the time, an alarm by whether it is due. -/
theorem timebaseBindingReadingTimeAndAlarms : Obligations.TimebaseBindingReadingTimeAndAlarms := by
  refine ⟨⟨fun s q r hq hjob hrole hlog2 hid hperiod hstart => timebaseUnbind_frees hq hjob hrole hlog2 hid hperiod hstart,
    fun s q r c k hq hjob hrole hrow hlog2 hid hge hle hige hile hmaster hother => ?_,
    fun s q r c k hq hrole hrow => ⟨timebaseBind_malformed hq hrole hrow,
      fun hid hlog2 hge hle hige hile hother hphase => ?_⟩⟩, ?_,
    fun s now fine => ⟨at_unreached fine, fun u hreach => ⟨at_stands fine hreach, at_past fine hreach⟩⟩, hartFine_latchFine,
    ?_, fun a s h => exec_alarmFire_disabled a h⟩
  · obtain ⟨hne, hle3⟩ := role_of_row hrow
    have hphase : q.p 16 8 % 2 ^ 24 = 0 := by
      by_cases hk : k = 2
      · exact (hmaster hk).2
      · rw [hother hk, Nat.zero_mod]
    exact timebaseBind_binds hq hrole hrow hjob
      ⟨hrole ▸ hne, hrole ▸ hle3, hid, hlog2, hge, hle, hige, hile, hrole ▸ hother, hphase⟩ fun hk => (hmaster hk).1
  · obtain ⟨hne, hle3⟩ := role_of_row hrow
    have hgood : q.BindGood := ⟨hrole ▸ hne, hrole ▸ hle3, hid, hlog2, hge, hle, hige, hile, hrole ▸ hother, hphase⟩
    exact ⟨fun hk href => timebaseBind_noReference hq hrole hrow hgood hk href,
      fun href hjob hst => timebaseBind_busy hq hrole hrow hgood href hjob hst⟩
  · rintro h rd now fine s _ rfl
    refine ⟨exec_tbNowRead_reg h rd now fine s, ?_, exec_tbNowRead_gatehouse rd now fine s⟩
    rintro rfl
    exact exec_tbNowRead_noReg h now fine s
  · intro a s u v h hload hstart hreach hv
    rw [exec_alarmFire_fires a h hload hstart hreach, fireAlarm_eq u a hv]

end Sys2Proof.Machine
end

section
/-! Schedule entries fire (R61, R76 to R78, R80): when ENTRY_FIRE fires the next entry of a terrace, and what the checks of the
entry then decide. -/

namespace Sys2Proof.Machine

open Sys2Proof

/-! ## ENTRY_FIRE -/

theorem exec_entryFire_fires (t : Fin 16) {s u : State} {e : Entry}
    (hentry : s.entry t (s.rd (F.SCHED_STATUS_NEXT_ENTRY t)) = some e) (hstep : (s.tr t).inStep = true)
    (hheld : s.tb.held = false)
    (hreach : s.reach (2 ^ 24 * s.rd (F.SCHED_STEP_STEP t) + e.firePhase) = some u) :
    exec (.entryFire t) s = ok (u.fireNext t) := by
  show execEntryFire t s = _
  rw [execEntryFire, hentry]
  dsimp only
  rw [hstep, hheld, hreach]
  rfl

theorem exec_entryFire_idle (t : Fin 16) {s : State} (h : (s.tr t).inStep = false ∨ s.tb.held = true ∨
    s.entry t (s.rd (F.SCHED_STATUS_NEXT_ENTRY t)) = none) : exec (.entryFire t) s = ok s := by
  show execEntryFire t s = _
  rw [execEntryFire]
  split
  next => rfl
  next e hentry =>
    refine if_pos ?_
    rcases h with hstep | hheld | hnone
    · rw [hstep]; rfl
    · rw [hheld, Bool.or_true]
    · rw [hnone] at hentry; cases hentry

/-! ## What the checks decide -/

/-- What is left of a firing once what entry i of a terrace reads has been checked, with status st. -/
def State.fireChecked (s : State) (t i st : Nat) (e : Entry) : State :=
  if st == St.ok then propagate 65536 s
  else
    let s := if st == St.exactViolation then s.ev F.NODE_PROFILE_EVENTS_EXACT_VIOL else s
    let s := if st == St.badParam then s.noteRefl e.addr 64 else s
    s.completeEntry t i st

section
variable (s : State) (t i : Nat) (e : Entry)

theorem fireChecked_ok : s.fireChecked t i St.ok e = propagate 65536 s := if_pos rfl

theorem fireChecked_badParam : s.fireChecked t i St.badParam e = (s.noteRefl e.addr 64).completeEntry t i St.badParam := by
  simp [State.fireChecked, St.badParam, St.ok, St.exactViolation]

theorem fireChecked_exactViolation : s.fireChecked t i St.exactViolation e =
    (s.ev F.NODE_PROFILE_EVENTS_EXACT_VIOL).completeEntry t i St.exactViolation := by
  simp [State.fireChecked, St.badParam, St.ok, St.exactViolation]

theorem fireChecked_poisonConsumed : s.fireChecked t i St.poisonConsumed e = s.completeEntry t i St.poisonConsumed := by
  simp [State.fireChecked, St.poisonConsumed, St.badParam, St.ok, St.exactViolation]

theorem fireChecked_other {st : Nat} (hok : st ≠ St.ok) (hbad : st ≠ St.badParam) (hexact : st ≠ St.exactViolation) :
    s.fireChecked t i st e = s.completeEntry t i st := by
  simp [State.fireChecked, hok, hbad, hexact]

end

/-- An entry that has fired is pending, with what it read. -/
def State.firedAs (s : State) (t i : Nat) (snap : List (Nat × Bytes)) : State :=
  s.setEs t i { EntryState.init with phase := .pending, source := i, snap := snap }

section
variable {s u : State} {t n : Nat} {e : Entry} (hn : n = s.rd (F.SCHED_STATUS_NEXT_ENTRY t))
  (hu : u = s.wr (F.SCHED_STATUS_NEXT_ENTRY t) (n + 1)) (hentry : s.entry t n = some e)
include hn hu hentry

theorem fireNext_unlisted {st : Nat} {snap : List (Nat × Bytes)} (hreflect : e.action ≠ Act.reflect)
    (hdigest : e.action ≠ Act.digest) (hcheck : u.fireCheck t e = (st, snap)) :
    s.fireNext t = (u.firedAs t n snap).fireChecked t n st e := by
  subst hn hu
  rw [State.fireNext, hentry]
  simp [hcheck, hreflect, hdigest, State.firedAs, State.fireChecked]

variable {ls : Nat} {es : List (Nat × Nat)} (hlist : u.readExtents e.addr = (ls, es))
include hlist

theorem fireNext_digest (hdigest : e.action = Act.digest) : s.fireNext t = (u.firedAs t n [(0, extentBytes es)]).fireChecked t n
    (if ls == St.ok && !u.digestOk es then St.badParam else ls) e := by
  subst hn hu
  have hcheck : (s.wr (F.SCHED_STATUS_NEXT_ENTRY t) (s.rd (F.SCHED_STATUS_NEXT_ENTRY t) + 1)).fireCheck t e = (ls, []) := by
    rw [State.fireCheck, hdigest, hlist]
    rfl
  rw [State.fireNext, hentry]
  simp [hcheck, hlist, hdigest, State.firedAs, State.fireChecked, Act.digest, Act.reflect]

theorem fireNext_reflect {v : State} (hreflect : e.action = Act.reflect) (hv : v = u.firedAs t n [(0, extentBytes es)]) :
    s.fireNext t = (v.setTr t { v.tr t with reflectList := some (ls, es) }).fireChecked t n ls e := by
  subst hn hu hv
  have hcheck : (s.wr (F.SCHED_STATUS_NEXT_ENTRY t) (s.rd (F.SCHED_STATUS_NEXT_ENTRY t) + 1)).fireCheck t e = (ls, []) := by
    rw [State.fireCheck, hreflect, hlist]
    rfl
  rw [State.fireNext, hentry]
  simp [hcheck, hlist, hreflect, State.firedAs, State.fireChecked, Act.digest, Act.reflect]

end

/-- Settles O13. ENTRY_FIRE by whether step time reaches the phase; the firing by the action of the entry and then by the
status of its checks. -/
theorem entriesFireInOrder : Obligations.EntriesFireInOrder := by
  refine ⟨fun t s u e => exec_entryFire_fires t, fun t s => exec_entryFire_idle t, ?_, ?_, fun s t i status => rfl⟩
  · rintro t st s u v e snap n hu hentry hreflect hdigest hcheck rfl
    rw [fireNext_unlisted rfl hu hentry hreflect hdigest hcheck]
    refine ⟨?_, ?_, ?_, fun hok hbad hexact => fireChecked_other _ _ _ _ hok hbad hexact⟩
    · rintro rfl; exact fireChecked_ok _ _ _ _
    · rintro rfl; exact fireChecked_badParam _ _ _ _
    · rintro rfl; exact fireChecked_exactViolation _ _ _ _
  · rintro t ls s u v e es n hu hentry hlist hv
    have hdigest := fireNext_digest rfl hu hentry hlist
    have hreflect := fun h => fireNext_reflect rfl hu hentry hlist h hv
    subst hv
    refine ⟨?_, ?_, ?_, ?_, ?_, ?_⟩
    · rintro hact rfl hgood
      rw [hdigest hact, hgood]
      exact fireChecked_ok _ _ _ _
    · intro hact hbad
      have hst : (if ls == St.ok && !u.digestOk es then St.badParam else ls) = St.badParam := by
        rcases hbad with rfl | ⟨rfl, hgood⟩
        · exact ite_self _
        · rw [hgood]; rfl
      rw [hdigest hact, hst]
      exact fireChecked_badParam _ _ _ _
    · rintro hact rfl
      exact (hdigest hact).trans (fireChecked_poisonConsumed _ _ _ _)
    · rintro hact rfl
      exact (hreflect hact).trans (fireChecked_ok _ _ _ _)
    · rintro hact rfl
      exact (hreflect hact).trans (fireChecked_badParam _ _ _ _)
    · rintro hact rfl
      exact (hreflect hact).trans (fireChecked_poisonConsumed _ _ _ _)

end Sys2Proof.Machine
end

section
/-! The end of schedule entries (R79, R81, R425): completion of a running entry whose work is done, with its twin in the Sealed
profile, and the deadline. -/

namespace Sys2Proof.Machine

open Sys2Proof

/-! ## Completion -/

section
variable (t : Fin 16) (i : Fin 4096) {s : State}

theorem exec_entryComplete_ends (hphase : (s.es t i).phase = .running) (hready : (s.es t i).ready = true) :
    exec (.entryComplete t i) s = ok ((s.finishEntry t i).afterEntry t) := by
  refine if_pos ?_
  rw [hphase, hready]
  rfl

theorem exec_entryComplete_stays (h : (s.es t i).phase ≠ .running ∨ (s.es t i).ready = false) :
    exec (.entryComplete t i) s = ok s := by
  refine if_neg ?_
  rcases h with hphase | hready
  · simp [hphase]
  · simp [hready]

end

section
variable {s : State} (t i : Nat)

theorem finishEntry_alone (h : s.sealed = false) : s.finishEntry t i = s.completeEntry t i (s.es t i).outcome :=
  if_pos (by rw [h]; rfl)

theorem finishEntry_pair (h : s.sealed = true) : s.finishEntry t i =
    if (s.es ((t + 8) % 16) i).phase == .done then
      if (s.es ((t + 8) % 16) i).status == (s.es t i).outcome then s.completeEntry t i (s.es t i).outcome
      else s.diverge (t % 8) 3 0 0
    else if (s.es ((t + 8) % 16) i).phase == .running && (s.es ((t + 8) % 16) i).ready then
      if (s.es ((t + 8) % 16) i).outcome == (s.es t i).outcome then
        propagate 65536
          ((s.endEntry (t % 8) i (s.es t i).outcome false i true).endEntry (t % 8 + 8) i (s.es t i).outcome false i false)
      else s.diverge (t % 8) 3 0 0
    else s := if_neg (by rw [h]; decide)

end

/-! ## Deadlines -/

/-- What a pair, or a terrace alone, has seen of an entry by its deadline: done, or ready to be. -/
def State.inTime (s : State) (i : Nat) (e : Entry) (k : Nat) : Bool :=
  (s.es k i).phase == .done || ((s.es k i).phase == .running && (s.es k i).ready && e.action != Act.digest)

theorem inTime_iff (s : State) (i : Nat) (e : Entry) (k : Nat) : s.inTime i e k = true ↔ (s.es k i).phase = .done ∨
    ((s.es k i).phase = .running ∧ (s.es k i).ready = true ∧ e.action ≠ Act.digest) := by
  simp [State.inTime, and_assoc]

theorem inTime_eq_false {s : State} {i : Nat} {e : Entry} {k : Nat} (hdone : (s.es k i).phase ≠ .done)
    (hready : (s.es k i).phase ≠ .running ∨ (s.es k i).ready = false ∨ e.action = Act.digest) : s.inTime i e k = false := by
  rw [← Bool.not_eq_true, inTime_iff]
  rintro (h | ⟨hrunning, hr, hact⟩)
  · exact hdone h
  · rcases hready with h | h | h
    · exact h hrunning
    · rw [h] at hr; cases hr
    · exact hact h

section
variable (t : Fin 16) (i : Fin 4096) {s u : State} {e : Entry}

theorem exec_entryDeadline_over (h : (s.es t i).phase ≠ .pending) (h2 : (s.es t i).phase ≠ .running) :
    exec (.entryDeadline t i) s = ok s := by
  show execEntryDeadline t i s = _
  rw [execEntryDeadline]
  split
  next => rfl
  next => exact if_pos (by simp [h, h2])

variable (hentry : s.entry t i = some e) (hact : e.action ≠ Act.endStep) (hstep : (s.tr t).inStep = true)
  (hphase : (s.es t i).phase = .pending ∨ (s.es t i).phase = .running)
  (hreach : s.reach (2 ^ 24 * s.rd (F.SCHED_STEP_STEP t) + e.deadline) = some u)
include hentry hact hstep hphase hreach

theorem exec_entryDeadline : exec (.entryDeadline t i) s =
    if (u.members t).all (u.inTime i e) then ok ((u.finishEntry t i).afterEntry t)
    else ok ((forEach (u.members t) u (fun k v => v.deadlineOne k i e (k == t % 8 || !v.sealed))).afterEntry t) := by
  show execEntryDeadline t i s = _
  rw [execEntryDeadline, hentry]
  refine (if_neg ?_).trans ?_
  · rcases hphase with h | h <;> simp [hstep, hact, h]
  · rw [hreach]
    rfl

theorem exec_entryDeadline_inTime (h : ∀ k ∈ u.members t, (u.es k i).phase = .done ∨
    ((u.es k i).phase = .running ∧ (u.es k i).ready = true ∧ e.action ≠ Act.digest)) :
    exec (.entryDeadline t i) s = ok ((u.finishEntry t i).afterEntry t) := by
  rw [exec_entryDeadline t i hentry hact hstep hphase hreach]
  exact if_pos (List.all_eq_true.2 fun k hk => (inTime_iff u i e k).2 (h k hk))

theorem exec_entryDeadline_missed (h : ∃ k ∈ u.members t, (u.es k i).phase ≠ .done ∧
    ((u.es k i).phase ≠ .running ∨ (u.es k i).ready = false ∨ e.action = Act.digest)) : exec (.entryDeadline t i) s =
    ok ((forEach (u.members t) u (fun k v => v.deadlineOne k i e (k == t % 8 || !v.sealed))).afterEntry t) := by
  obtain ⟨k, hk, hdone, hready⟩ := h
  rw [exec_entryDeadline t i hentry hact hstep hphase hreach]
  refine if_neg fun hall => ?_
  have hin := List.all_eq_true.1 hall k hk
  rw [inTime_eq_false hdone hready] at hin
  cases hin

end

theorem members_alone {s : State} (t : Nat) (h : s.sealed = false) : s.members t = [t] := if_neg (by rw [h]; decide)

theorem members_pair {s : State} (t : Nat) (h : s.sealed = true) : s.members t = [t % 8, t % 8 + 8] := if_pos h

theorem forEach_single (k : Nat) (s : State) (f : Nat → State → State) : forEach [k] s f = f k s := rfl

theorem forEach_two (k l : Nat) (s : State) (f : Nat → State → State) : forEach [k, l] s f = f l (f k s) := rfl

section
variable {s u : State} {t i st detail : Nat} {e : Entry} (sig : Bool)

theorem deadlineOne_pending (h : (s.es t i).phase = .pending) : s.deadlineOne t i e sig = s.completeEntry t i St.deadlineMissed :=
  if_pos (by rw [h]; rfl)

theorem deadlineOne_running (h : (s.es t i).phase = .running) (hstop : s.stopEntry t i e = (u, st, detail))
    (hstays : (u.es t i).phase = .running) : s.deadlineOne t i e sig =
      propagate 65536 ((u.setEs t i { u.es t i with detail := detail }).endEntry t i st false i sig) := by
  rw [State.deadlineOne, h, hstop]
  simp only [hstays, reduceCtorEq, beq_iff_eq, if_true, if_false]

end

/-- Settles O14. Completion and deadline by the phase of the entry, and of its twin in the Sealed profile. -/
theorem entriesEnd : Obligations.EntriesEnd := by
  refine ⟨fun t i s => exec_entryComplete_ends t i, fun t i s => exec_entryComplete_stays t i,
    fun t i s => finishEntry_alone t i, ?_, ?_, fun t i st detail e sig s u => ⟨deadlineOne_pending sig, deadlineOne_running sig⟩,
    fun t i s => exec_entryDeadline_over t i⟩
  · rintro t i s x y hsealed rfl rfl
    rw [finishEntry_pair t i hsealed]
    refine ⟨fun hphase hready hsame => ?_, fun hphase hready hdiffers => ?_, fun hphase hsame => ?_, fun hphase hdiffers => ?_,
      fun hdone hwork => ?_⟩
    · simp [hphase, hready, hsame]
    · simp [hphase, hready, hdiffers]
    · simp [hphase, hsame]
    · simp [hphase, hdiffers]
    · rcases hwork with h | h <;> simp [hdone, h]
  · intro t i s u e hentry hact hstep hphase hreach
    refine ⟨exec_entryDeadline_inTime t i hentry hact hstep hphase hreach, fun hsealed hdone hready => ?_,
      fun hsealed hmissed v hv => ?_⟩
    · have hmembers := members_alone t hsealed
      have hmem : t.val ∈ u.members t := by rw [hmembers]; exact List.mem_singleton_self _
      rw [exec_entryDeadline_missed t i hentry hact hstep hphase hreach ⟨t, hmem, hdone, hready⟩, hmembers, forEach_single,
        hsealed, Bool.not_false, Bool.or_true]
    · have htwin : (t.val % 8 + 8 == t.val % 8) = false := by simp
      rw [exec_entryDeadline_missed t i hentry hact hstep hphase hreach hmissed, members_pair t hsealed, forEach_two, htwin,
        beq_self_eq_true, Bool.true_or, Bool.false_or, hv]

end Sys2Proof.Machine
end

section
/-! Signals and the start of an entry (R75, R78 to R80): which signals count, when an entry may start, and what starting one
changes. -/

namespace Sys2Proof.Machine

open Sys2Proof

/-! ## Signals -/

/-- Whether a signal of the sender's step reaches a counter of a terrace (R79). -/
def State.takesSignal (s : State) (step t : Nat) : Bool :=
  bit s.jobMask t && s.rd (F.SCHED_STATUS_STATE t) == 1 && s.rd (F.SCHED_STEP_STEP t) == step &&
    ((s.tr t).inStep || (s.tr t).ranStep == some step)

section
variable {s : State} {step t ctr status source : Nat}

theorem takesSignal_iff : s.takesSignal step t = true ↔ bit s.jobMask t = true ∧ s.rd (F.SCHED_STATUS_STATE t) = 1 ∧
    s.rd (F.SCHED_STEP_STEP t) = step ∧ ((s.tr t).inStep = true ∨ (s.tr t).ranStep = some step) := by
  simp [State.takesSignal, and_assoc]

theorem signal_stale (h : s.takesSignal step t = false) :
    s.signal step t ctr status source = s.ev (F.SCHED_EVENTS_STALE_SIGNAL t) := if_pos (by rw [← State.takesSignal, h]; rfl)

theorem signal_taken (h : s.takesSignal step t = true) : s.signal step t ctr status source =
    if isSuccess status then s.inc (F.SCHED_CTR_VALUE t ctr)
    else if s.flag (F.SCHED_CTR_FAILED t ctr) then s
    else (s.ev (F.SCHED_CTR_FAILED t ctr)).setTr t
      { s.tr t with ctrSource := mput (s.tr t).ctrSource ctr (status, source) } :=
  if_neg (by rw [← State.takesSignal, h]; decide)

theorem signal_counts (h : s.takesSignal step t = true) (hst : isSuccess status = true) :
    s.signal step t ctr status source = s.inc (F.SCHED_CTR_VALUE t ctr) := (signal_taken h).trans (if_pos hst)

theorem signal_fails (h : s.takesSignal step t = true) (hst : isSuccess status = false)
    (hfailed : s.rd (F.SCHED_CTR_FAILED t ctr) = 0) :
    s.signal step t ctr status source = (s.ev (F.SCHED_CTR_FAILED t ctr)).setTr t
      { s.tr t with ctrSource := mput (s.tr t).ctrSource ctr (status, source) } := by
  rw [signal_taken h, hst, State.flag_eq_false hfailed]
  rfl

theorem signal_failed_before (h : s.takesSignal step t = true) (hst : isSuccess status = false)
    (hfailed : s.rd (F.SCHED_CTR_FAILED t ctr) = 1) : s.signal step t ctr status source = s := by
  rw [signal_taken h, hst, State.flag_eq_true hfailed]
  rfl

theorem takesSignal_eq_false (h : bit s.jobMask t = false ∨ s.rd (F.SCHED_STATUS_STATE t) ≠ 1 ∨
    s.rd (F.SCHED_STEP_STEP t) ≠ step ∨ ((s.tr t).inStep = false ∧ (s.tr t).ranStep ≠ some step)) :
    s.takesSignal step t = false := by
  rw [← Bool.not_eq_true, takesSignal_iff]
  rintro ⟨hjob, hstate, hstep, hrun⟩
  rcases h with h | h | h | ⟨h, h2⟩
  · rw [hjob] at h; cases h
  · exact h hstate
  · exact h hstep
  · rcases hrun with hin | hran
    · rw [hin] at h; cases h
    · exact h2 hran

end

/-! ## Entries that may start -/

/-- An entry that may start meets the conditions of R78. -/
theorem mayStart_conditions {s : State} {t i : Nat} (h : s.mayStart t i = true) : ∃ e, s.entry t i = some e ∧
    (s.tr t).inStep = true ∧ (s.es t i).phase = .pending ∧ s.waitMet t e = true ∧ (s.runningEntries t).length < 64 ∧
    ∀ u ∈ s.claims t i e, u ∉ s.heldUnits t ∧ s.unitBusy t u = false := by
  rw [State.mayStart] at h
  split at h
  next => cases h
  next e hentry =>
    simp only [Bool.and_eq_true, beq_iff_eq, decide_eq_true_eq, List.all_eq_true, Bool.not_eq_true', List.contains_eq_mem,
      decide_eq_false_iff_not] at h
    obtain ⟨⟨⟨⟨⟨hstep, hphase⟩, hwait⟩, hrunning⟩, hunits⟩, -⟩ := h
    exact ⟨e, hentry, hstep, hphase, hwait, hrunning, hunits⟩

theorem waitMet_of_waiting {s : State} {t : Nat} {e : Entry} (h : s.waitMet t e = true) (hen : e.waitEn = true) :
    e.waitVal ≤ s.rd (F.SCHED_CTR_VALUE t e.waitCtr) := by
  rw [State.waitMet, hen] at h
  simpa using h

theorem mayStart_of_startable {s : State} {t i : Nat} (h : s.startable t i = true) : s.mayStart t i = true :=
  (Bool.and_eq_true_iff.1 h).1

/-- No entry before a startable one is startable. -/
theorem not_startable_before {s : State} {t i j : Nat} (h : s.startable t i = true) (hj : j ∈ s.pendingEntries t)
    (hlt : j < i) : s.startable t j = false := by
  have hall := List.all_eq_true.1 (Bool.and_eq_true_iff.1 h).2 j hj
  rw [decide_eq_false (by omega), Bool.false_or, Bool.not_eq_true'] at hall
  rw [State.startable, hall, Bool.false_and]

theorem startable_conditions {s : State} {t i : Nat} (h : s.startable t i = true) : ∃ e, s.entry t i = some e ∧
    (s.tr t).inStep = true ∧ (s.es t i).phase = .pending ∧ (e.waitEn = true → e.waitVal ≤ s.rd (F.SCHED_CTR_VALUE t e.waitCtr)) ∧
    (s.runningEntries t).length < 64 ∧ (∀ u ∈ s.resources t i e, u ∉ s.heldUnits t ∧ s.unitBusy t u = false) ∧
    (∀ j ∈ s.pendingEntries t, j < i → s.startable t j = false) := by
  obtain ⟨e, hentry, hstep, hphase, hwait, hrunning, hunits⟩ := mayStart_conditions (mayStart_of_startable h)
  exact ⟨e, hentry, hstep, hphase, waitMet_of_waiting hwait, hrunning, fun u hu => hunits u (List.mem_append_left _ hu),
    fun j hj hlt => not_startable_before h hj hlt⟩

/-! ## The start of an entry -/

theorem mem_mput_same {α : Type} (k : Nat) (v : α) : ∀ m : List (Nat × α), (k, v) ∈ mput m k v
  | [] => List.mem_singleton_self _
  | (j, w) :: m => by
    rw [mput]
    split
    · exact List.mem_cons_self
    · split
      · exact List.mem_cons_self
      · exact List.mem_cons_of_mem _ (mem_mput_same k v m)

section
variable (s : State) (t i : Nat) (x : EntryState)

@[simp] theorem es_setEs_same : (s.setEs t i x).es t i = x := by
  rw [State.es, State.setEs, State.tr_setTr_same]
  exact mget_mput_same _ _ _ _

@[simp] theorem liveBank_setEs : (s.setEs t i x).liveBank t = s.liveBank t := by
  have htr : (s.setEs t i x).tr t = { s.tr t with entries := mput (s.tr t).entries i x } := State.tr_setTr_same _ _ _
  rw [State.liveBank, htr]
  rfl

theorem mem_runningEntries_setEs (h : x.phase = .running) : i ∈ (s.setEs t i x).runningEntries t := by
  rw [State.runningEntries, State.setEs, State.tr_setTr_same]
  exact List.mem_map.2 ⟨(i, x), List.mem_filter.2 ⟨mem_mput_same i x _, by rw [h]; rfl⟩, rfl⟩

end

section
variable (s : State) (t i : Nat)

/-- The state of an entry that starts. -/
def State.started (s : State) (t i : Nat) : EntryState := { s.es t i with phase := .running, started := true, source := i }

theorem startEntry_eq : s.startEntry t i = (s.setEs t i (s.started t i)).countRunning t := rfl

theorem writesOnly_startEntry : WritesOnly [R.SCHED_COUNTS t] (s.setEs t i (s.started t i)) (s.startEntry t i) :=
  writesOnly_wr _ _ (List.mem_singleton_self _)

@[simp] theorem terr_countRunning : (s.countRunning t).terr = s.terr := State.wr_terr _ _ _

theorem tr_startEntry (u : Nat) : (s.startEntry t i).tr u = (s.setEs t i (s.started t i)).tr u := by
  rw [startEntry_eq, State.tr, terr_countRunning]
  rfl

@[simp] theorem es_startEntry : (s.startEntry t i).es t i = s.started t i := by
  rw [State.es, tr_startEntry]
  exact es_setEs_same s t i _

@[simp] theorem entry_startEntry (j : Nat) : (s.startEntry t i).entry t j = s.entry t j := by
  have hflag : (s.startEntry t i).flag (F.SCHED_STATUS_LIVE_BANK t) =
      (s.setEs t i (s.started t i)).flag (F.SCHED_STATUS_LIVE_BANK t) :=
    (writesOnly_startEntry s t i).flag_eq (by simp [F.SCHED_STATUS_LIVE_BANK, R.SCHED_STATUS, R.SCHED_COUNTS])
  have hbank : (s.startEntry t i).liveBank t = (s.setEs t i (s.started t i)).liveBank t := by
    rw [State.liveBank, hflag, tr_startEntry]
    rfl
  rw [State.entry, hbank, liveBank_setEs]
  rfl

theorem resources_startEntry (e : Entry) : (s.startEntry t i).resources t i e = s.resources t i e := by
  have hmask : (s.startEntry t i).solveTensorMask t i = s.solveTensorMask t i := by
    rw [State.solveTensorMask, es_startEntry]
    rfl
  rw [State.resources, hmask]
  rfl

theorem mem_runningEntries_startEntry : i ∈ (s.startEntry t i).runningEntries t := by
  rw [State.runningEntries, tr_startEntry]
  exact mem_runningEntries_setEs s t i _ rfl

theorem mem_heldUnits {j : Nat} {e : Entry} {u : Unit3} (hj : j ∈ s.runningEntries t) (hentry : s.entry t j = some e)
    (hu : u ∈ s.resources t j e) : u ∈ s.heldUnits t :=
  List.mem_flatMap.2 ⟨j, hj, by rw [hentry]; exact hu⟩

theorem mem_heldUnits_startEntry {e : Entry} {u : Unit3} (hentry : s.entry t i = some e) (hu : u ∈ s.resources t i e) :
    u ∈ (s.startEntry t i).heldUnits t :=
  mem_heldUnits _ t (mem_runningEntries_startEntry s t i) ((entry_startEntry s t i i).trans hentry)
    (by rwa [resources_startEntry])

theorem keepsRegs_startEntry : s.keepsRegs (s.startEntry t i) [R.SCHED_COUNTS t] :=
  fun a ha _ => (writesOnly_startEntry s t i).rdReg_eq a ha

theorem keepsMem_startEntry : s.keepsMem (s.startEntry t i) := by
  rw [startEntry_eq, State.countRunning, State.setEs]
  exact ⟨State.wr_mem _ _ _, State.wr_poison _ _ _, State.wr_undef _ _ _⟩

end

/-- Settles O15. A signal by whether the terrace takes it; starting an entry through the entry's own state and the one register it
writes. -/
theorem signalsAndStarting : Obligations.SignalsAndStarting := by
  refine ⟨fun s step t ctr status source hjob hstate hstep hrun => ?_, fun s step t ctr status source h =>
    signal_stale (takesSignal_eq_false h), fun s t i => startable_conditions, fun s t i => ⟨?_, ?_, keepsRegs_startEntry s t i,
    keepsMem_startEntry s t i, fun e hentry u hu => mem_heldUnits_startEntry s t i hentry hu⟩⟩
  · have htaken := takesSignal_iff.2 ⟨hjob, hstate, hstep, hrun⟩
    exact ⟨signal_counts htaken, signal_fails htaken, signal_failed_before htaken⟩
  · rw [es_startEntry]; rfl
  · rw [es_startEntry]; rfl

end Sys2Proof.Machine
end

section
/-! BARRIER (R75, R89), and why the statement about startable entries fails: its clause on a BARRIER that starts ties the started
state u to the entry only inside a premise, so that another u leaves v free. -/

namespace Sys2Proof.Machine

open Sys2Proof

/-! ## The start of a BARRIER -/

/-- A BARRIER that has started waits for its group, if it names one. -/
def State.barrierStarted (s : State) (t i : Nat) (e : Entry) : State :=
  (s.startEntry t i).setEs t i { (s.startEntry t i).es t i with left := b2n (e.op 19 1 != 0xFF) }

/-- A BARRIER has its group part done once every member of a live group has reached it. -/
def State.barrierReached (s : State) (t i : Nat) (group : Bool) (e : Entry) : State :=
  if group && (s.cslot (e.op 19 1 % 16)).live.isSome then s.setEs t i { s.es t i with left := 0 } else s

theorem phase_barrierStarted (s : State) (t i : Nat) (e : Entry) : ((s.barrierStarted t i e).es t i).phase = .running := by
  rw [State.barrierStarted, es_setEs_same, es_startEntry]
  rfl

theorem exec_barrier_starts (t : Fin 16) (i : Fin 4096) (group : Bool) {s : State} {e : Entry} (hentry : s.entry t i = some e)
    (hact : e.action = Act.barrier) (hstart : s.startable t i = true) :
    exec (.barrier t i group) s = ok ((s.barrierStarted t i e).barrierReached t i group e).barriers := by
  have hphase := phase_barrierStarted s t i e
  show execBarrier t i group s = _
  rw [execBarrier, hentry]
  refine (if_neg (by rw [hact]; decide)).trans ?_
  rw [hstart]
  exact if_neg (by rw [if_pos rfl, ← State.barrierStarted, hphase]; decide)

/-! ## The counterexample -/

/-- A BARRIER that names no terrace and no group. -/
def loneBarrier : Entry := ⟨Act.barrier, false, false, false, 0, 0, 0, 0, 0, 0, 0, zeros 3 ++ [0xFF] ++ zeros 12⟩

/-- Terrace 0 in its step, with that BARRIER as its pending entry 0. -/
def atLoneBarrier : State := State.reset.setTr 0 { State.reset.tr 0 with
  inStep := true, bankA := { (State.reset.tr 0).bankA with entries := [loneBarrier] }
  entries := [(0, { EntryState.init with phase := .pending })] }

theorem atLoneBarrier_startable : atLoneBarrier.entry 0 0 = some loneBarrier ∧ atLoneBarrier.startable 0 0 = true := by
  decide +kernel

theorem phase_atLoneBarrier : (atLoneBarrier.es 0 0).phase = .pending ∧ (atLoneBarrier.barriers.es 0 0).phase = .pending ∧
    (((atLoneBarrier.barrierStarted 0 0 loneBarrier).barrierReached 0 0 false loneBarrier).barriers.es 0 0).phase = .running := by
  decide +kernel

/-- Starting the entry changes the state. -/
theorem atLoneBarrier_ne_startEntry : atLoneBarrier ≠ atLoneBarrier.startEntry 0 0 := by
  intro h
  obtain ⟨hpending, -⟩ := phase_atLoneBarrier
  rw [h, es_startEntry] at hpending
  cases hpending

/-- The end of a command leaves the entries' states. -/
theorem es_of_ok {s u : State} (h : ok s = .next u) (t i : Nat) : u.es t i = s.es t i := by
  rw [rest_of_ok h]
  rfl

theorem es_eq_of_ok_eq {s u : State} (h : ok s = ok u) (t i : Nat) : s.es t i = u.es t i :=
  (es_of_ok (h.trans (ok_eq u)) t i).symm.trans (es_of_ok (ok_eq u) t i)

/-- Refutes O16. The clause on a BARRIER takes every v where the entry may start and u is not the state in which it has started.
With u and v the state before, in which the entry is pending, it claims that the entry stays pending; the model starts it. -/
theorem not_startableEntriesStart : ¬ Obligations.StartableEntriesStart := by
  rintro ⟨-, hbarrier, -⟩
  obtain ⟨hentry, hstart⟩ := atLoneBarrier_startable
  obtain ⟨-, hpending, hrunning⟩ := phase_atLoneBarrier
  have hclaim := (hbarrier 0 0 false atLoneBarrier atLoneBarrier atLoneBarrier loneBarrier hentry rfl
    (fun _ h => absurd h atLoneBarrier_ne_startEntry) (fun h => absurd (hstart.symm.trans h) (by decide))).2 (Or.inl rfl)
  rw [exec_barrier_starts 0 0 false hentry rfl hstart] at hclaim
  have hsame := es_eq_of_ok_eq hclaim 0 0
  rw [← hsame] at hpending
  exact absurd (hrunning.symm.trans hpending) (by decide)

end Sys2Proof.Machine
end

section
/-! Fields (R86 to R88, R319): FIELD_SEND, the chunks of a field, and what an arriving chunk does. -/

namespace Sys2Proof.Machine

open Sys2Proof

/-! ## FIELD_SEND -/

/-- An entry that may start, of the action of the command, starts. -/
theorem starting_starts {s : State} {t i action : Nat} {e : Entry} (f : Entry → State → State) (hentry : s.entry t i = some e)
    (hstart : s.startable t i = true) (hact : e.action = action) : s.starting t i action f = ok (f e (s.startEntry t i)) := by
  rw [State.starting, hentry]
  exact if_pos (by rw [hact, hstart, beq_self_eq_true]; rfl)

/-- The node that holds the buffer of a field. -/
def State.fieldDest (s : State) (base : Nat) : Nat :=
  match s.target base with
  | .pond n _ => n
  | .weir n _ => n
  | _ => s.nodeId

/-- The copy that a FIELD_SEND starts, before any chunk of it is sent. -/
def State.fieldCopy (s : State) (t i : Nat) (e : Entry) (f : FieldMap) : FieldSend :=
  let st := s.rd (F.SCHED_STEP_STEP t)
  let base := f.dstBase + st % f.nbuf * f.bufStride
  let terr := if s.sealed then t % 8 else t
  let cs := s.fieldChunks f e.addr (e.op 20 4) st (fieldOrigin terr i)
  ⟨terr, i, s.fieldDest base, f.destTerrace, f.destSlot, st, base % 2 ^ 48, cs.length, [], cs, []⟩

/-- A copy sends its first chunks and is kept with the others. -/
def State.sendCopy (s : State) (c : FieldSend) : State :=
  let (c, v) := pumpField 8 c s
  v.setSends (v.coll.sends ++ [c])

theorem sendCopy_eq {s : State} {c : FieldSend} {p : FieldSend × State} (hp : p = pumpField 8 c s) :
    s.sendCopy c = p.2.setSends (p.2.coll.sends ++ [p.1]) := by
  rw [State.sendCopy, ← hp]

/-- Whether every member of an entry's pair runs it. -/
def State.membersRun (s : State) (t i : Nat) : Bool := (s.members t).all fun k => (s.es k i).phase == .running

theorem membersRun_iff {s : State} {t i : Nat} : s.membersRun t i = true ↔ ∀ k ∈ s.members t, (s.es k i).phase = .running := by
  simp [State.membersRun]

section
variable (t : Fin 16) (i : Fin 4096) {s u : State} {e : Entry} (hentry : s.entry t i = some e) (hstart : s.startable t i = true)
  (hact : e.action = Act.fieldSend) (hu : u = s.startEntry t i)
include hentry hstart hact hu

theorem exec_fieldSend_unmapped (hmap : (u.liveBank t).fields[e.op 16 1 % 64]? = none) :
    exec (.fieldSend t i) s = ok (u.entryReady t i St.badParam) := by
  subst hu
  show execFieldSend t i s = _
  rw [execFieldSend, starting_starts _ hentry hstart hact, hmap]

variable {f : FieldMap} (hmap : (u.liveBank t).fields[e.op 16 1 % 64]? = some f)
include hmap

theorem exec_fieldSend_waits (hwaits : ∃ k ∈ u.members t, (u.es k i).phase ≠ .running) : exec (.fieldSend t i) s = ok u := by
  subst hu
  have hready : (s.startEntry t i).membersRun t i = false := by
    rw [← Bool.not_eq_true, membersRun_iff]
    obtain ⟨k, hk, hphase⟩ := hwaits
    exact fun hall => hphase (hall k hk)
  show execFieldSend t i s = _
  rw [execFieldSend, starting_starts _ hentry hstart hact, hmap]
  exact congrArg ok (if_pos (by rw [← State.membersRun, hready]; rfl))

theorem exec_fieldSend_sends (hready : ∀ k ∈ u.members t, (u.es k i).phase = .running) :
    exec (.fieldSend t i) s = ok (u.sendCopy (u.fieldCopy t i e f)) := by
  have hrun := membersRun_iff.2 hready
  subst hu
  show execFieldSend t i s = _
  rw [execFieldSend, starting_starts _ hentry hstart hact, hmap]
  refine congrArg ok ((if_neg (by rw [← State.membersRun, hrun]; decide)).trans ?_)
  extract_lets st base terr cs dest copy
  have hcopy : (s.startEntry t i).fieldCopy t i e f = copy := rfl
  rw [hcopy, State.sendCopy]

end

/-! ## The chunks of a field -/

section
variable (s : State) (f : FieldMap) (src len stamp origin : Nat)

theorem length_fieldChunks : (s.fieldChunks f src len stamp origin).length = (len + 65535) / 65536 := by
  rw [State.fieldChunks, List.length_map, List.length_range]

theorem msg_fieldChunks {k : Nat} (h : k < (len + 65535) / 65536) :
    ((s.fieldChunks f src len stamp origin)[k]?).map (·.msg) = some (chunkMsg 1 f.destTerrace 0 0 f.destSlot stamp 0 k
      (min 65536 (len - 65536 * k)) origin (s.readBytes (src + 65536 * k) (min 65536 (len - 65536 * k)) ++
        natLE ((min 65536 (len - 65536 * k) + 63) / 64) (maskOf ((List.range (min 65536 (len - 65536 * k) / 8)).filter
          (fun j => s.poisonAt (src + 65536 * k + 8 * j)))))) := by
  rw [State.fieldChunks, List.getElem?_map, List.getElem?_range h]
  rfl

end

/-! ## Chunks that arrive -/

theorem exec_fieldChunkArrival_otherKind (node : Fin 32768) (addr : Fin 281474976710656) (last : Bool) {p : Bytes} (s : State)
    (h : fld p 0 1 ≠ 1) : exec (.fieldChunkArrival node addr last p) s = ok s := if_pos (by simpa using h)

/-- The node acknowledges a chunk of a field. -/
def State.fieldAck (s : State) (node t : Nat) (p : Bytes) : State :=
  s.sendLive .collective node [t] (chunkReply p 3 (fld p 20 3 % 2 ^ 17))

/-- The node asks for a chunk of a field again. -/
def State.fieldRefetch (s : State) (node t : Nat) (p : Bytes) : State :=
  s.sendLive .collective node [t] (chunkReply p 5 (fld p 20 3 % 2 ^ 17))

/-- The reception of a chunk with another chunk taken. -/
def FieldRx.took (rx : FieldRx) (k : Nat) (last : Bool) : FieldRx :=
  { rx with got := sinsert rx.got k, total := if last then some (k + 1) else rx.total }

/-- The reception of a chunk that failed once more. -/
def FieldRx.failedAgain (rx : FieldRx) (k : Nat) : FieldRx := { rx with fails := mput rx.fails k (mget rx.fails k 0 + 1) }

section
variable {node : Fin 32768} {addr : Fin 281474976710656} {last : Bool} {p : Bytes} {s v w : State} {t slot u k n key : Nat}
  {held : Bool} {kept : List FieldRx} {rx : FieldRx} (hkind : fld p 0 1 = 1) (ht : t = fld p 1 1 % 16)
  (hslot : slot = fld p 3 1 % 64) (hu : u = fld p 4 5) (hk : k = fld p 12 4) (hn : n = fld p 16 4 % 2 ^ 19)
include hkind ht hu

theorem exec_fieldChunkArrival_stale (h : u + 1 < s.rd (F.SCHED_STEP_STEP t) ∨ s.rd (F.SCHED_STEP_STEP t) + 1 < u) :
    exec (.fieldChunkArrival node addr last p) s =
      ok (forEach (s.members t) s (fun t x => x.ev (F.SCHED_EVENTS_FIELD_STALE t))) := by
  subst ht hu
  show execFieldChunkArrival node addr last p s = _
  rw [execFieldChunkArrival]
  refine (if_neg (by rw [hkind]; decide)).trans ?_
  exact if_pos (by simpa using h)

variable (hlow : s.rd (F.SCHED_STEP_STEP t) ≤ u + 1) (hhigh : u ≤ s.rd (F.SCHED_STEP_STEP t) + 1)
include hn hlow hhigh

theorem exec_fieldChunkArrival_refused (hhome : s.homeStatus addr n true ≠ St.ok) :
    exec (.fieldChunkArrival node addr last p) s = ok (s.noteCtx addr n) := by
  subst ht hu hn
  show execFieldChunkArrival node addr last p s = _
  rw [execFieldChunkArrival]
  refine (if_neg (by rw [hkind]; decide)).trans ?_
  refine (if_neg (by simpa using ⟨hlow, hhigh⟩)).trans ?_
  exact if_pos (by simpa using hhome)

variable (hhome : s.homeStatus addr n true = St.ok)
  (hheld : held = (s.flag (F.SCHED_FIELD_VALID t slot (u % 3)) && s.rd (F.SCHED_FIELD_STEP t slot (u % 3)) == u))
  (hkey : key = node.val + 2 ^ 15 * (addr - 0x10000 * k)) (hv : v = forEach (s.members t) s (fun t x => x.fieldEntry t slot u))
  (hkept : kept = v.coll.fields.filter (fun f => !(f.terr == t && (f.stamp + 3 ≤ u ||
    (f.slot == slot && f.stamp % 3 == u % 3 && (f.stamp != u || !held))))))
  (hrx : rx = ((kept.find? (fun f => f.terr == t && f.slot == slot && f.stamp == u && f.key == key)).getD
    ⟨t, slot, u, key, [], none, []⟩))
  (hw : w = v.writeCells addr ((List.range n).map (fun j =>
    ((sub p 32 n).getD j 0, bit (fld p (32 + n) ((n + 63) / 64)) (j / 8)))))
include hslot hk hhome hheld hkey hv hkept hrx hw

theorem exec_fieldChunkArrival_taken (others : List FieldRx)
    (hothers : others = kept.filter (fun f => !(f.terr == t && f.slot == slot && f.stamp == u && f.key == key))) :
    exec (.fieldChunkArrival node addr last p) s =
      if rx.got.contains k = true then ok (if chunkOk p = true then v.fieldAck node t p else v)
      else if !chunkOk p then
        if 4 ≤ mget rx.fails k 0 + 1 then
          ok (forEach (s.members t) ((forEach (s.members t)
            ((w.fieldRefetch node t p).setFields (others ++ [rx.failedAgain k]))
            (fun t x => x.ev (F.SCHED_FIELD_FAILED t slot (u % 3)))).ev F.COLL_EVENTS_UNRECOVERABLE) (fun t x => x.testFields t))
        else ok ((w.fieldRefetch node t p).setFields (others ++ [rx.failedAgain k]))
      else if (rx.took k last).total == some (rx.took k last).got.length then
        ok (forEach (s.members t) (forEach (s.members t)
          (((w.fieldAck node t p).noteArrival (chunkSource node) addr 0 (sub p 32 n)).setFields (others ++ [rx.took k last]))
          (fun t x => x.inc (F.SCHED_FIELD_COUNT t slot (u % 3)))) (fun t x => x.testFields t))
      else ok (((w.fieldAck node t p).noteArrival (chunkSource node) addr 0 (sub p 32 n)).setFields
        (others ++ [rx.took k last])) := by
  subst ht hslot hu hk hn
  show execFieldChunkArrival node addr last p s = _
  rw [execFieldChunkArrival]
  refine (if_neg (by rw [hkind]; decide)).trans ?_
  refine (if_neg (by simpa using ⟨hlow, hhigh⟩)).trans ?_
  refine (if_neg (by rw [hhome]; decide)).trans ?_
  extract_lets held' v' key' same kept' rx' others' ack
  obtain rfl : held = held' := hheld
  obtain rfl : v = v' := hv
  obtain rfl : key = key' := hkey
  obtain rfl : kept = kept' := hkept
  obtain rfl : others = others' := hothers
  have hreception : rx' = rx := by
    rw [hrx]
    show (match List.find? same kept' with | some f => f | none => _) = (List.find? same kept').getD _
    cases List.find? same kept' <;> rfl
  clear_value rx'
  subst hreception hw
  rfl

end

/-- Settles O17. A FIELD_SEND by the field map and the members that run it; an arriving chunk by its step, the home of its bytes,
whether it has come before and its check. -/
theorem fieldsAreSentAndReceived : Obligations.FieldsAreSentAndReceived := by
  refine ⟨fun t i s u e hentry hstart hact hu => ⟨exec_fieldSend_unmapped t i hentry hstart hact hu, fun f hmap =>
    ⟨exec_fieldSend_waits t i hentry hstart hact hu hmap, ?_⟩⟩, fun s f src len stamp origin k =>
    msg_fieldChunks s f src len stamp origin, length_fieldChunks, ?_, exec_fieldChunkArrival_otherKind⟩
  · rintro hready _ _ _ _ p rfl rfl rfl rfl hp
    rw [exec_fieldSend_sends t i hentry hstart hact hu hmap hready, sendCopy_eq (c := u.fieldCopy t i e f) hp]
  · intro node addr last p s v w t slot u k n key held kept rx rx' hkind ht hslot hu hk hn
    refine ⟨exec_fieldChunkArrival_stale hkind ht hu, exec_fieldChunkArrival_refused hkind ht hu hn,
      fun hlow hhigh hhome hheld hkey hv hkept hrx hw put hput ack hack => ?_⟩
    have htaken := exec_fieldChunkArrival_taken (last := last) hkind ht hslot hu hk hn hlow hhigh hhome hheld hkey hv hkept hrx hw
      _ rfl
    refine ⟨fun hgot hgood => ?_, fun hgot hbad => ?_, fun hgot hgood hrx' z hz => ?_, fun hgot hbad z hz => ?_⟩
    · rw [htaken, if_pos hgot, if_pos hgood, hack]
      rfl
    · rw [htaken, if_pos hgot, if_neg (ne_true_of_eq_false hbad)]
    · rw [htaken, if_neg (ne_true_of_eq_false hgot), if_neg (by rw [hgood]; decide)]
      obtain rfl : rx' = rx.took k last := hrx'
      rw [hput, hack] at hz
      subst hz
      exact ⟨fun hmore => if_neg (by simpa using hmore), fun hall => if_pos (by simpa using hall)⟩
    · rw [htaken, if_neg (ne_true_of_eq_false hgot), if_pos (by rw [hbad]; decide)]
      rw [hput] at hz
      subst hz
      exact ⟨fun hfew => if_neg (by omega), fun hmany => if_pos (by omega)⟩

end Sys2Proof.Machine
end

section
/-! END_STEP (R80, R82, R83, R418, R425): when a step ends, what END_STEP publishes, and what comes after. -/

namespace Sys2Proof.Machine

open Sys2Proof

/-! ## When a step ends -/

theorem done_of_stepDone {s : State} {t i : Nat} (h : s.stepDone t i = true) : ∀ j < i, (s.es t j).phase = .done := by
  intro j hj
  obtain ⟨-, hdone⟩ := Bool.and_eq_true_iff.1 h
  simpa using List.all_eq_true.1 hdone j (List.mem_range.2 hj)

/-- The statuses of the entries of a terrace before END_STEP, entry i. -/
def State.stepStatuses (s : State) (i k : Nat) : List Nat := (List.range i).map fun j => (s.es k j).status

/-- What END_STEP of a pair compares first (R425). -/
def State.endCompared (s : State) (i p : Nat) : State :=
  if !s.sealed then s
  else if s.stepStatuses i p != s.stepStatuses i (p + 8) then s.diverge p 3 0 0
  else if s.stepDigest p != s.stepDigest (p + 8) then s.diverge p 4 0 0
  else s

section
variable (t : Fin 16) (i : Fin 4096) {s : State}

theorem exec_endStep_waits (h : ∃ k ∈ s.members t, s.stepDone k i = false) : exec (.endStep t i) s = ok s := by
  obtain ⟨k, hk, hdone⟩ := h
  have hall : ((s.members t).all fun u => s.stepDone u i) = false := by
    rw [← Bool.not_eq_true, List.all_eq_true]
    exact fun hall => absurd ((hall k hk).symm.trans hdone) (by decide)
  exact if_pos (by rw [hall]; rfl)

theorem exec_endStep_ends (h : ∀ k ∈ s.members t, s.stepDone k i = true) : exec (.endStep t i) s =
    ok (forEach ((s.endCompared i (t.val % 8)).members t) (s.endCompared i (t.val % 8)) (fun k v => v.finishStep k i)) :=
  if_neg (by rw [List.all_eq_true.2 h]; decide)

theorem exec_endStep_alone (hsealed : s.sealed = false) (h : s.stepDone t i = true) :
    exec (.endStep t i) s = ok (s.finishStep t i) := by
  have hmembers := members_alone t hsealed
  have hcompared : s.endCompared i (t.val % 8) = s := if_pos (by rw [hsealed]; rfl)
  rw [exec_endStep_ends t i (by rw [hmembers]; simpa using h), hcompared, hmembers, forEach_single]

theorem exec_endStep_pair (hsealed : s.sealed = true) (h : s.stepDone (t.val % 8) i = true)
    (htwin : s.stepDone (t.val % 8 + 8) i = true) (hstays : (s.endCompared i (t.val % 8)).sealed = true) :
    exec (.endStep t i) s = ok (((s.endCompared i (t.val % 8)).finishStep (t.val % 8) i).finishStep (t.val % 8 + 8) i) := by
  rw [exec_endStep_ends t i (by rw [members_pair t hsealed]; simpa using ⟨h, htwin⟩), members_pair t hstays, forEach_two]

end

section
variable {s : State} {i p : Nat} (hsealed : s.sealed = true)
include hsealed

theorem endCompared_statuses (h : s.stepStatuses i p ≠ s.stepStatuses i (p + 8)) : s.endCompared i p = s.diverge p 3 0 0 :=
  (if_neg (by rw [hsealed]; decide)).trans (if_pos (bne_iff_ne.2 h))

variable (hsame : s.stepStatuses i p = s.stepStatuses i (p + 8))
include hsame

theorem endCompared_digests (h : s.stepDigest p ≠ s.stepDigest (p + 8)) : s.endCompared i p = s.diverge p 4 0 0 :=
  (if_neg (by rw [hsealed]; decide)).trans ((if_neg (by rw [hsame, bne_self_eq_false]; decide)).trans (if_pos (bne_iff_ne.2 h)))

theorem endCompared_equal (h : s.stepDigest p = s.stepDigest (p + 8)) : s.endCompared i p = s :=
  (if_neg (by rw [hsealed]; decide)).trans ((if_neg (by rw [hsame, bne_self_eq_false]; decide)).trans
    (if_neg (by rw [h, bne_self_eq_false]; decide)))

end

/-! ## What END_STEP publishes -/

section
variable {s : State} {t i : Nat} {e : Entry} (hentry : s.entry t i = some e)
include hentry

theorem endStep_failed (h : s.endFailed t i = true) : s.endStep t i = (propagate 65536 (s.endEntry t i (s.waitSource t i e).1 true
    (s.waitSource t i e).2 (decide (t < 8) || !s.sealed)), []) := by
  rw [State.endStep, h, hentry]

theorem endStep_publishes (h : s.endFailed t i = false) : s.endStep t i =
    (propagate 65536 ((forEach [0, 1, 2, 3] (s.startEntry t i) (fun w v =>
      v.wr (F.SCHED_LAST_DIGEST_BYTES t w) (fld (s.stepDigest t) (8 * w) 8))).endEntry t i St.ok false i
      (decide (t < 8) || !s.sealed)), s.stepDigest t) := by
  rw [State.endStep, h, hentry]

end

/-! ## After the step -/

/-- The step of a terrace has ended: its summary is written, and it runs no step. -/
def State.stepEnded (s : State) (t step : Nat) (d : Bytes) : State :=
  let v := s.outcome t 0xFFFF 0 1 (if (s.tr t).firstFail = 0 then St.ok else (s.tr t).firstFail) 0
    ((s.tr t).failCount % 2 ^ 16 + 2 ^ 16 * b2n (s.tr t).unusable + 2 ^ 17 * b2n (s.tr t).lateStart) d
  (v.setTr t { v.tr t with inStep := false, ranStep := some step }).wr (F.SCHED_STATUS_OVERRUNNING t) 0

section
variable {s u w : State} {t i step : Nat} {d : Bytes} (hend : s.endStep t i = (u, d)) (hstep : step = s.rd (F.SCHED_STEP_STEP t))
  (hw : w = u.stepEnded t step d)
include hend hstep hw

theorem finishStep_eq : s.finishStep t i =
    if w.step == step then w
    else if w.step == step + 1 then (w.startStep t (step + 1) true).firePassed t
    else forEach ((List.range (w.step - step)).map (fun k => step + 1 + k)) w (fun k x => x.skipStep t k St.deadlineMissed) := by
  have hfirst : (if (u.tr t).firstFail == 0 then St.ok else (u.tr t).firstFail) =
      if (u.tr t).firstFail = 0 then St.ok else (u.tr t).firstFail := by simp only [beq_iff_eq]
  subst hstep hw
  rw [State.finishStep, hend]
  simp only [hfirst]
  rfl

theorem finishStep_inTime (h : w.step = step) : s.finishStep t i = w :=
  (finishStep_eq hend hstep hw).trans (if_pos (beq_iff_eq.2 h))

theorem finishStep_late (h : w.step = step + 1) : s.finishStep t i = (w.startStep t (step + 1) true).firePassed t :=
  (finishStep_eq hend hstep hw).trans ((if_neg (by simp [h])).trans (if_pos (beq_iff_eq.2 h)))

theorem finishStep_skips (h : w.step ≠ step) (h2 : w.step ≠ step + 1) : s.finishStep t i =
    forEach ((List.range (w.step - step)).map (fun k => step + 1 + k)) w (fun k x => x.skipStep t k St.deadlineMissed) :=
  (finishStep_eq hend hstep hw).trans ((if_neg (by simpa using h)).trans (if_neg (by simpa using h2)))

end

/-- Settles O18. END_STEP by whether the step is done, what a pair compares, whether its counter has FAILED, and the step the node
is in by then. -/
theorem endOfStep : Obligations.EndOfStep := by
  refine ⟨fun t i s => exec_endStep_alone t i,
    fun t i s u statuses hsealed h htwin hstatuses hdiffer hdigests hequal hstays => ?_, fun t i s => exec_endStep_waits t i, fun s t i => done_of_stepDone, fun s t i e hentry =>
    ⟨endStep_failed hentry, endStep_publishes hentry⟩, ?_⟩
  · have hcompared : u = s.endCompared i (t.val % 8) := by
      obtain rfl : statuses = s.stepStatuses i := funext hstatuses
      by_cases hsame : s.stepStatuses i (t.val % 8) = s.stepStatuses i (t.val % 8 + 8)
      · by_cases hdigest : s.stepDigest (t.val % 8) = s.stepDigest (t.val % 8 + 8)
        · rw [hequal hsame hdigest, endCompared_equal hsealed hsame hdigest]
        · rw [hdigests hsame hdigest, endCompared_digests hsealed hsame hdigest]
      · rw [hdiffer hsame, endCompared_statuses hsealed hsame]
    subst hcompared
    exact exec_endStep_pair t i hsealed h htwin hstays
  · rintro s u v t i step d hend hstep rfl w hw
    exact ⟨finishStep_inTime hend hstep hw, finishStep_late hend hstep hw, finishStep_skips hend hstep hw⟩

end Sys2Proof.Machine
end

section
/-! SCHEDULE_LOAD and SCHEDULE_ARM (R90, R91, R93): the masks they take, the images a load checks, and what each operation of an
arming does. -/

namespace Sys2Proof.Machine

open Sys2Proof

/-! ## Masks of terraces -/

/-- The mask of a command names no terrace, or one that is no primary of a pair in the Sealed profile. -/
def State.maskBad (s : State) (mask : Nat) : Bool := decide (mask = 0) || (s.sealed && decide (256 ≤ mask))

theorem maskBad_eq_true {s : State} {mask : Nat} (h : mask = 0 ∨ (s.sealed = true ∧ 256 ≤ mask)) : s.maskBad mask = true := by
  simpa [State.maskBad] using h

theorem maskBad_eq_false {s : State} {mask : Nat} (h : mask ≠ 0) (hpair : s.sealed = true → mask < 256) :
    s.maskBad mask = false := by
  rw [State.maskBad, decide_eq_false h, Bool.false_or]
  cases hsealed : s.sealed
  · rfl
  · rw [decide_eq_false (Nat.not_le.2 (hpair hsealed))]
    rfl

/-- A nonzero mask of 16 bits names a terrace. -/
theorem terraces_ne_nil {mask : Nat} (h : mask ≠ 0) (hlt : mask < 2 ^ 16) : terraces mask ≠ [] := by
  obtain ⟨i, hi⟩ := Nat.exists_testBit_of_ne_zero h
  have hi16 : i < 16 := by
    by_contra hge
    have hbit : mask.testBit i = false := Nat.testBit_lt_two_pow (hlt.trans_le (Nat.pow_le_pow_right (by decide) (by omega)))
    rw [hi] at hbit
    cases hbit
  exact List.ne_nil_of_mem (List.mem_filter.2 ⟨List.mem_range.2 hi16, hi⟩)

theorem Sub.p_two_lt (q : Sub) (off : Nat) : q.p off 2 < 2 ^ 16 := fld_lt _ _ _

/-! ## The checks of a load -/

theorem worstFail_map_inl (f : ImgFail) : ∀ ts : List Nat, ts ≠ [] → worstFail (ts.map fun _ => Sum.inl f) = some f
  | [_], _ => rfl
  | _ :: t :: ts, _ => by
    rw [List.map_cons, worstFail, worstFail_map_inl f (t :: ts) (List.cons_ne_nil _ _)]
    exact if_neg (Nat.lt_irrefl _)

theorem worstFail_map_inr : ∀ banks : List Bank, worstFail (banks.map Sum.inr) = none
  | [] => rfl
  | _ :: banks => worstFail_map_inr banks

/-- The bank of an image that passed its checks. -/
def bankOf : ImgFail ⊕ Bank → Option Bank
  | .inr b => some b
  | .inl _ => none

theorem filterMap_bankOf_map_inr (banks : List Bank) : (banks.map Sum.inr).filterMap bankOf = banks := by
  rw [List.filterMap_map]
  exact List.filterMap_some

/-- What a load does once every image has been checked. -/
def State.loadChecked (s : State) (q : Sub) (checked : List (ImgFail ⊕ Bank)) : State :=
  match worstFail checked with
  | some f => (s.noteExact f.2.1).longNow q f.2.1 (failDetail f) []
  | none =>
    ((checked.filterMap bankOf).foldl (fun v b => forEach (v.members b.header.terrace) v (fun t x => x.writeInactive t b))
      s).longNow q St.ok 0 (sha3_256 ((checked.filterMap bankOf).flatMap (·.header.digest)))

theorem loadChecked_fails (s : State) (q : Sub) {checked : List (ImgFail ⊕ Bank)} {f : ImgFail}
    (h : worstFail checked = some f) : s.loadChecked q checked = (s.noteExact f.2.1).longNow q f.2.1 (failDetail f) [] := by
  rw [State.loadChecked, h]

/-- A load may not start while the profile switches, a named terrace is armed or a shrink runs. -/
def State.loadBusy (s : State) (mask : Nat) : Bool := s.flag F.NODE_PROFILE_SWITCHING || s.armedIn mask || s.ckpt.shrink.isSome

theorem loadBusy_eq_true {s : State} {mask : Nat} (h : s.rd F.NODE_PROFILE_SWITCHING = 1 ∨ s.armedIn mask = true ∨
    s.ckpt.shrink ≠ none) : s.loadBusy mask = true := by
  rw [State.loadBusy, Bool.or_eq_true, Bool.or_eq_true, Option.isSome_iff_ne_none, or_assoc]
  exact h.imp_left State.flag_eq_true

theorem loadBusy_eq_false {s : State} {mask : Nat} (hswitch : s.rd F.NODE_PROFILE_SWITCHING = 0) (harmed : s.armedIn mask = false)
    (hshrink : s.ckpt.shrink = none) : s.loadBusy mask = false := by
  rw [State.loadBusy, State.flag_eq_false hswitch, harmed, hshrink]
  rfl

/-! ## Banks that are written -/

theorem sealed_wr (s : State) {f : Field} (v : Nat) (h : R.NODE_PROFILE ≠ f.addr) : (s.wr f v).sealed = s.sealed :=
  congrArg (· == 2) (State.rd_wrReg_ne (f := F.NODE_PROFILE_ACTIVE) s _ h)

theorem nodeProfile_lt_schedBlock (t : Nat) : R.NODE_PROFILE < schedBlock t := by
  have hfirst : R.NODE_PROFILE < schedBlock 0 := by decide
  refine hfirst.trans_le ?_
  simp only [schedBlock]
  omega

theorem sealed_writeInactive (s : State) (t : Nat) (b : Bank) : (s.writeInactive t b).sealed = s.sealed := by
  have hne : ∀ off, R.NODE_PROFILE ≠ schedBlock t + off := fun off =>
    ((nodeProfile_lt_schedBlock t).trans_le (Nat.le_add_right _ _)).ne
  rw [State.writeInactive, sealed_wr _ _ (hne _), sealed_wr _ _ (hne _), sealed_wr _ _ (hne _), sealed_wr _ _ (hne _)]
  split <;> rfl

/-- The members of a terrace are those of the state before, whatever banks a load has written. -/
theorem foldl_writeInactive (u : State) : ∀ (banks : List Bank) (v : State), v.sealed = u.sealed →
    banks.foldl (fun v b => forEach (v.members b.header.terrace) v (fun t x => x.writeInactive t b)) v =
      banks.foldl (fun v b => forEach (u.members b.header.terrace) v (fun t x => x.writeInactive t b)) v
  | [], _, _ => rfl
  | b :: banks, v, h => by
    have hmembers : v.members b.header.terrace = u.members b.header.terrace := by rw [State.members, h]; rfl
    rw [List.foldl_cons, List.foldl_cons, hmembers]
    exact foldl_writeInactive u banks _ (forEach_keeps (fun x => x.sealed = u.sealed) _
      (fun t x hx => (sealed_writeInactive x t b).trans hx) _ _ h)

section
variable {s u : State} {q : Sub} (htakes : s.takes q Op.scheduleLoad u)
include htakes

theorem exec_scheduleLoad_badMask (h : u.maskBad (q.p 0 2) = true) : exec .scheduleLoad s = ok (u.refuse q St.badParam) := by
  show execScheduleLoad s = _
  rw [execScheduleLoad, withSub_takes htakes rfl]
  exact congrArg ok (if_pos h)

variable (hmask : u.maskBad (q.p 0 2) = false)
include hmask

theorem exec_scheduleLoad_busy (h : u.loadBusy (q.p 0 2) = true) : exec .scheduleLoad s = ok (u.refuse q St.busy) := by
  show execScheduleLoad s = _
  rw [execScheduleLoad, withSub_takes htakes rfl]
  exact congrArg ok ((if_neg (ne_true_of_eq_false hmask)).trans (if_pos h))

variable (hfree : u.loadBusy (q.p 0 2) = false)
include hfree

theorem exec_scheduleLoad_unbacked (h : u.backed (q.p 8 8) 128 = false) :
    exec .scheduleLoad s = ok (u.longNow q St.badParam ((terraces (q.p 0 2)).headD 0) []) := by
  show execScheduleLoad s = _
  rw [execScheduleLoad, withSub_takes htakes rfl]
  exact congrArg ok ((if_neg (ne_true_of_eq_false hmask)).trans ((if_neg (ne_true_of_eq_false hfree)).trans
    (if_pos (by rw [h]; rfl))))

theorem exec_scheduleLoad_checks (h : u.backed (q.p 8 8) 128 = true) : exec .scheduleLoad s =
    ok (u.loadChecked q ((terraces (q.p 0 2)).map (fun t =>
      if u.poisoned (q.p 8 8) 128 then Sum.inl (4, St.poisonConsumed, (terraces (q.p 0 2)).headD 0, 0, 0)
      else u.imgCheck t (u.readNat (q.p 8 8 + 8 * t) 8) u.admitted))) := by
  show execScheduleLoad s = _
  rw [execScheduleLoad, withSub_takes htakes rfl]
  exact congrArg ok ((if_neg (ne_true_of_eq_false hmask)).trans ((if_neg (ne_true_of_eq_false hfree)).trans
    (if_neg (by rw [h]; decide))))

variable (hbacked : u.backed (q.p 8 8) 128 = true)
include hbacked

theorem exec_scheduleLoad_poisoned (h : u.poisoned (q.p 8 8) 128 = true) (hts : terraces (q.p 0 2) ≠ []) :
    exec .scheduleLoad s = ok (u.longNow q St.poisonConsumed
      (failDetail (4, St.poisonConsumed, (terraces (q.p 0 2)).headD 0, 0, 0)) []) := by
  rw [exec_scheduleLoad_checks htakes hmask hfree hbacked]
  simp only [h, if_true]
  rw [loadChecked_fails u q (worstFail_map_inl _ _ hts)]
  rfl

variable (hclean : u.poisoned (q.p 8 8) 128 = false) {checked : List (ImgFail ⊕ Bank)}
  (hchecked : checked = (terraces (q.p 0 2)).map (fun t => u.imgCheck t (u.readNat (q.p 8 8 + 8 * t) 8) u.admitted))
include hclean hchecked

theorem exec_scheduleLoad_checked : exec .scheduleLoad s = ok (u.loadChecked q checked) := by
  rw [exec_scheduleLoad_checks htakes hmask hfree hbacked, hchecked]
  simp only [hclean, Bool.false_eq_true, if_false]

theorem exec_scheduleLoad_fails {f : ImgFail} (h : worstFail checked = some f) :
    exec .scheduleLoad s = ok ((u.noteExact f.2.1).longNow q f.2.1 (failDetail f) []) := by
  rw [exec_scheduleLoad_checked htakes hmask hfree hbacked hclean hchecked, loadChecked_fails u q h]

theorem exec_scheduleLoad_writes {banks : List Bank} (h : checked = banks.map Sum.inr) : exec .scheduleLoad s =
    ok ((banks.foldl (fun v b => forEach (u.members b.header.terrace) v (fun t x => x.writeInactive t b)) u).longNow q
      St.ok 0 (sha3_256 (banks.flatMap (·.header.digest)))) := by
  rw [exec_scheduleLoad_checked htakes hmask hfree hbacked hclean hchecked, h, State.loadChecked, worstFail_map_inr,
    filterMap_bankOf_map_inr, ← foldl_writeInactive u banks u rfl]

end

/-! ## SCHEDULE_ARM -/

section
variable {u : State} {q : Sub} (f : List Nat → State → State)

theorem armCommon_badMask (h : u.maskBad (q.p 0 2) = true) : u.armCommon q f = u.short q St.badParam [] := by
  refine if_pos ?_
  rw [Bool.or_right_comm, ← State.maskBad, h]
  rfl

variable (hmask : u.maskBad (q.p 0 2) = false) (hop : q.p 2 1 ≤ 2)
include hmask hop

theorem armCommon_known : u.armCommon q f =
    if u.ckpt.shrink.isSome then u.short q St.busy [] else f (u.named (q.p 0 2)) u := by
  refine if_neg ?_
  rw [Bool.or_right_comm, ← State.maskBad, hmask, decide_eq_false (by omega)]
  decide

theorem armCommon_busy (h : u.ckpt.shrink ≠ none) : u.armCommon q f = u.short q St.busy [] :=
  (armCommon_known f hmask hop).trans (if_pos (Option.isSome_iff_ne_none.2 h))

theorem armCommon_runs (h : u.ckpt.shrink = none) : u.armCommon q f = f (u.named (q.p 0 2)) u :=
  (armCommon_known f hmask hop).trans (if_neg (by rw [h]; decide))

end

/-- The rows of SCHEDULE_ARM, each with its operation, share the checks of the mask. -/
theorem exec_armRow {s u : State} {q : Sub} {c : Instr} {k : Nat} (htakes : s.takes q Op.scheduleArm u) (hop : q.p 2 1 = k)
    (hrow : (c, k) ∈ [(Instr.scheduleArm, 0), (.scheduleDisarm, 1), (.scheduleResume, 2)]) :
    k ≤ 2 ∧ ∃ f, exec c s = ok (u.armCommon q f) := by
  simp only [List.mem_cons, Prod.mk.injEq, List.not_mem_nil, or_false] at hrow
  rcases hrow with ⟨rfl, rfl⟩ | ⟨rfl, rfl⟩ | ⟨rfl, rfl⟩
  · refine ⟨by omega, ?_⟩
    show ∃ f, execScheduleArm s = ok (u.armCommon q f)
    exact ⟨_, by rw [execScheduleArm, withSub_takes htakes (by simp [hop])]⟩
  · refine ⟨by omega, ?_⟩
    show ∃ f, execScheduleDisarm s = ok (u.armCommon q f)
    exact ⟨_, by rw [execScheduleDisarm, withSub_takes htakes (by simp [hop])]⟩
  · refine ⟨by omega, ?_⟩
    show ∃ f, execScheduleResume s = ok (u.armCommon q f)
    exact ⟨_, by rw [execScheduleResume, withSub_takes htakes (by simp [hop])]⟩

section
variable {s u : State} {q : Sub} (htakes : s.takes q Op.scheduleArm u) (hmask : u.maskBad (q.p 0 2) = false)
  (hshrink : u.ckpt.shrink = none)
include htakes hmask hshrink

section
variable (hop : q.p 2 1 = 0)
include hop

theorem exec_scheduleArm_runs : exec .scheduleArm s = ok (
    if (u.named (q.p 0 2)).any (fun t => u.flag (F.SCHED_STATUS_ARMED t)) then u.short q St.busy []
    else if (u.named (q.p 0 2)).any (fun t => !u.flag (F.SCHED_STATUS_INACTIVE_VALID t)) then u.short q St.badParam []
    else (forEach (u.named (q.p 0 2)) u (fun t v => (v.wr (F.SCHED_STATUS_ARMED t) 1).wr
      (F.SCHED_ARM_STEP_STEP t) u.boundStep)).short q St.ok (natLE 8 u.boundStep)) := by
  show execScheduleArm s = _
  rw [execScheduleArm, withSub_takes htakes (by simp [hop]), armCommon_runs _ hmask (by omega) hshrink]

theorem exec_scheduleArm_armed (h : ∃ t ∈ u.named (q.p 0 2), u.rd (F.SCHED_STATUS_ARMED t) = 1) :
    exec .scheduleArm s = ok (u.short q St.busy []) := by
  obtain ⟨t, ht, harmed⟩ := h
  rw [exec_scheduleArm_runs htakes hmask hshrink hop, if_pos (List.any_eq_true.2 ⟨t, ht, State.flag_eq_true harmed⟩)]

variable (hfree : ∀ t ∈ u.named (q.p 0 2), u.rd (F.SCHED_STATUS_ARMED t) = 0)
include hfree

theorem exec_scheduleArm_unarmed : exec .scheduleArm s = ok (
    if (u.named (q.p 0 2)).any (fun t => !u.flag (F.SCHED_STATUS_INACTIVE_VALID t)) then u.short q St.badParam []
    else (forEach (u.named (q.p 0 2)) u (fun t v => (v.wr (F.SCHED_STATUS_ARMED t) 1).wr
      (F.SCHED_ARM_STEP_STEP t) u.boundStep)).short q St.ok (natLE 8 u.boundStep)) := by
  have hnone : ¬(u.named (q.p 0 2)).any (fun t => u.flag (F.SCHED_STATUS_ARMED t)) = true := by
    simpa [State.flag] using hfree
  rw [exec_scheduleArm_runs htakes hmask hshrink hop, if_neg hnone]

theorem exec_scheduleArm_invalid (h : ∃ t ∈ u.named (q.p 0 2), u.rd (F.SCHED_STATUS_INACTIVE_VALID t) = 0) :
    exec .scheduleArm s = ok (u.short q St.badParam []) := by
  obtain ⟨t, ht, hinvalid⟩ := h
  rw [exec_scheduleArm_unarmed htakes hmask hshrink hop hfree,
    if_pos (List.any_eq_true.2 ⟨t, ht, by rw [State.flag_eq_false hinvalid]; rfl⟩)]

theorem exec_scheduleArm_arms (h : ∀ t ∈ u.named (q.p 0 2), u.rd (F.SCHED_STATUS_INACTIVE_VALID t) = 1) :
    exec .scheduleArm s = ok ((forEach (u.named (q.p 0 2)) u (fun t v => (v.wr (F.SCHED_STATUS_ARMED t) 1).wr
      (F.SCHED_ARM_STEP_STEP t) u.boundStep)).short q St.ok (natLE 8 u.boundStep)) := by
  have hvalid : ¬(u.named (q.p 0 2)).any (fun t => !u.flag (F.SCHED_STATUS_INACTIVE_VALID t)) = true := by
    rw [List.any_eq_true]
    rintro ⟨t, ht, hflag⟩
    rw [State.flag_eq_true (h t ht)] at hflag
    cases hflag
  rw [exec_scheduleArm_unarmed htakes hmask hshrink hop hfree, if_neg hvalid]

end

section
variable (hop : q.p 2 1 = 1)
include hop

theorem exec_scheduleDisarm_runs : exec .scheduleDisarm s = ok (
    if (u.named (q.p 0 2)).any (fun t => u.flag (F.SCHED_STATUS_ARMED t) && u.tooLate (u.rd (F.SCHED_ARM_STEP_STEP t)))
    then u.short q St.busy []
    else (forEach (u.named (q.p 0 2)) u (fun t v => v.wr (F.SCHED_STATUS_ARMED t) 0)).short q St.ok (natLE 8 u.boundStep)) := by
  show execScheduleDisarm s = _
  rw [execScheduleDisarm, withSub_takes htakes (by simp [hop]), armCommon_runs _ hmask (by omega) hshrink]

theorem exec_scheduleDisarm_tooLate (h : ∃ t ∈ u.named (q.p 0 2), u.rd (F.SCHED_STATUS_ARMED t) = 1 ∧
    u.tooLate (u.rd (F.SCHED_ARM_STEP_STEP t)) = true) : exec .scheduleDisarm s = ok (u.short q St.busy []) := by
  obtain ⟨t, ht, harmed, hlate⟩ := h
  rw [exec_scheduleDisarm_runs htakes hmask hshrink hop,
    if_pos (List.any_eq_true.2 ⟨t, ht, by rw [State.flag_eq_true harmed, hlate]; rfl⟩)]

theorem exec_scheduleDisarm_disarms (h : ∀ t ∈ u.named (q.p 0 2), u.rd (F.SCHED_STATUS_ARMED t) = 0 ∨
    u.tooLate (u.rd (F.SCHED_ARM_STEP_STEP t)) = false) : exec .scheduleDisarm s =
    ok ((forEach (u.named (q.p 0 2)) u (fun t v => v.wr (F.SCHED_STATUS_ARMED t) 0)).short q St.ok (natLE 8 u.boundStep)) := by
  have hnone : ¬(u.named (q.p 0 2)).any (fun t => u.flag (F.SCHED_STATUS_ARMED t) &&
      u.tooLate (u.rd (F.SCHED_ARM_STEP_STEP t))) = true := by
    rw [List.any_eq_true]
    rintro ⟨t, ht, hlate⟩
    rcases h t ht with hfree | htime
    · rw [State.flag_eq_false hfree] at hlate
      cases hlate
    · rw [htime, Bool.and_false] at hlate
      cases hlate
  rw [exec_scheduleDisarm_runs htakes hmask hshrink hop, if_neg hnone]

end

theorem exec_scheduleResume_resumes (hop : q.p 2 1 = 2) : exec .scheduleResume s = ok ((forEach (u.named (q.p 0 2)) u (fun t v =>
    if v.rd (F.SCHED_STATUS_STATE t) == 2 then v.setTr t { v.tr t with resumeStep := some u.boundStep } else v)).short q
    St.ok (natLE 8 u.boundStep)) := by
  show execScheduleResume s = _
  rw [execScheduleResume, withSub_takes htakes (by simp [hop]), armCommon_runs _ hmask (by omega) hshrink]

end

/-- The bound step begins at the first boundary at least 10 µs away (R93). -/
theorem boundStep_first (s : State) : s.now + s.nsToPhase 10000 ≤ 2 ^ 24 * s.boundStep ∧
    2 ^ 24 * s.boundStep < s.now + s.nsToPhase 10000 + 2 ^ 24 := by
  rw [State.boundStep]
  omega

/-- Settles O19. A load by its mask, what holds it back and what its images' checks found; an arming by its operation and the
terraces it names. -/
theorem schedulesLoadAndArm : Obligations.SchedulesLoadAndArm := by
  refine ⟨fun s u q htakes => ⟨fun hbad => exec_scheduleLoad_badMask htakes (maskBad_eq_true hbad), fun hne hpair => ?_⟩,
    fun s u q c k htakes hop hrow => ?_, fun s u q htakes hne hpair hshrink => ?_, boundStep_first⟩
  · have hmask := maskBad_eq_false hne hpair
    refine ⟨fun hbusy => exec_scheduleLoad_busy htakes hmask (loadBusy_eq_true hbusy), fun hswitch harmed hshrink => ?_⟩
    have hfree := loadBusy_eq_false hswitch harmed hshrink
    exact ⟨exec_scheduleLoad_unbacked htakes hmask hfree,
      fun hbacked hpoison => exec_scheduleLoad_poisoned htakes hmask hfree hbacked hpoison (terraces_ne_nil hne (q.p_two_lt 0)),
      fun hbacked hclean checked hchecked => ⟨fun f => exec_scheduleLoad_fails htakes hmask hfree hbacked hclean hchecked,
        fun banks => exec_scheduleLoad_writes htakes hmask hfree hbacked hclean hchecked⟩⟩
  · obtain ⟨hk, f, hexec⟩ := exec_armRow htakes hop hrow
    rw [hexec]
    exact ⟨fun hbad => congrArg ok (armCommon_badMask f (maskBad_eq_true hbad)),
      fun hne hpair hshrink => congrArg ok (armCommon_busy f (maskBad_eq_false hne hpair) (hop.trans_le hk) hshrink)⟩
  · have hmask := maskBad_eq_false hne hpair
    exact ⟨exec_scheduleArm_armed htakes hmask hshrink, exec_scheduleArm_invalid htakes hmask hshrink,
      fun hop h => exec_scheduleArm_arms htakes hmask hshrink hop (fun t ht => (h t ht).1) (fun t ht => (h t ht).2),
      exec_scheduleDisarm_tooLate htakes hmask hshrink, exec_scheduleDisarm_disarms htakes hmask hshrink,
      exec_scheduleResume_resumes htakes hmask hshrink⟩

end Sys2Proof.Machine
end

section
/-! Jobs (R95, R349, R350, R369, R370): what refuses an admission, a release and a shrink, and what each does otherwise. -/

namespace Sys2Proof.Machine

open Sys2Proof

/-! ## JOB_ADMIT (Table 16.16) -/

section
variable {s u : State} {q : Sub} (htakes : s.takes q Op.jobAdmit u)
include htakes

theorem exec_jobAdmit_busy (h : u.admitBusy (q.p 2 2) = true) : exec .jobAdmit s = ok (u.refuse q St.busy) := by
  show execJobAdmit s = _
  rw [execJobAdmit, withSub_takes htakes rfl]
  exact congrArg ok (if_pos h)

variable (hfree : u.admitBusy (q.p 2 2) = false)
include hfree

theorem exec_jobAdmit_bad (h : u.admitBad q = true) : exec .jobAdmit s = ok (u.refuse q St.badParam) := by
  show execJobAdmit s = _
  rw [execJobAdmit, withSub_takes htakes rfl]
  exact congrArg ok ((if_neg (ne_true_of_eq_false hfree)).trans (if_pos h))

variable (hgood : u.admitBad q = false)
include hgood

/-- The rows of Table 16.16 from the profile on. -/
theorem exec_jobAdmit_formed : exec .jobAdmit s = ok (
    if q.p 88 1 != u.profile || q.p 90 2 != u.rd F.NODE_PROFILE_TOWER_MHZ then u.refuse q St.badParam
    else if u.rd F.TB_STATUS_STATE != 2 && u.rd F.TB_STATUS_STATE != 5 then u.refuse q St.timebaseLost
    else if !u.bindingIs (q.p 92 2) (q.p 89 1) (q.p 96 8) then u.refuse q St.badParam
    else match u.admitCheck q with
      | .inl st => (u.noteExact st).longNow q st 0 []
      | .inr (pl, cached, groups, variants) => (u.accept q).1.admitInstall q (u.accept q).2 pl cached groups variants) := by
  show execJobAdmit s = _
  rw [execJobAdmit, withSub_takes htakes rfl]
  refine congrArg ok ((if_neg (ne_true_of_eq_false hfree)).trans ((if_neg (ne_true_of_eq_false hgood)).trans ?_))
  rfl

theorem exec_jobAdmit_otherProfile (h : q.p 88 1 ≠ u.profile ∨ q.p 90 2 ≠ u.rd F.NODE_PROFILE_TOWER_MHZ) :
    exec .jobAdmit s = ok (u.refuse q St.badParam) := by
  rw [exec_jobAdmit_formed htakes hfree hgood, if_pos (by simpa using h)]

variable (hprofile : q.p 88 1 = u.profile) (hclock : q.p 90 2 = u.rd F.NODE_PROFILE_TOWER_MHZ)
include hprofile hclock

theorem exec_jobAdmit_unlocked (h : u.rd F.TB_STATUS_STATE ≠ 2) (h2 : u.rd F.TB_STATUS_STATE ≠ 5) :
    exec .jobAdmit s = ok (u.refuse q St.timebaseLost) := by
  rw [exec_jobAdmit_formed htakes hfree hgood, if_neg (by simp [hprofile, hclock]), if_pos (by simp [h, h2])]

variable (hstate : u.rd F.TB_STATUS_STATE = 2 ∨ u.rd F.TB_STATUS_STATE = 5)
include hstate

theorem exec_jobAdmit_otherBinding (h : u.bindingIs (q.p 92 2) (q.p 89 1) (q.p 96 8) = false) :
    exec .jobAdmit s = ok (u.refuse q St.badParam) := by
  rw [exec_jobAdmit_formed htakes hfree hgood, if_neg (by simp [hprofile, hclock]), if_neg (by simp; omega),
    if_pos (by rw [h]; rfl)]

variable (hbinding : u.bindingIs (q.p 92 2) (q.p 89 1) (q.p 96 8) = true)
include hbinding

theorem exec_jobAdmit_checked : exec .jobAdmit s = ok (match u.admitCheck q with
    | .inl st => (u.noteExact st).longNow q st 0 []
    | .inr (pl, cached, groups, variants) => (u.accept q).1.admitInstall q (u.accept q).2 pl cached groups variants) := by
  rw [exec_jobAdmit_formed htakes hfree hgood, if_neg (by simp [hprofile, hclock]), if_neg (by simp; omega),
    if_neg (by rw [hbinding]; decide)]

end

/-! ## JOB_RELEASE -/

section
variable {s u : State} {q : Sub} (htakes : s.takes q Op.jobRelease u)
include htakes

theorem exec_jobRelease_noJob (h : u.job = none) : exec .jobRelease s = ok (u.refuse q St.badParam) := by
  show execJobRelease s = _
  rw [execJobRelease, withSub_takes htakes rfl]
  simp only [h]

variable {j : Job} (hjob : u.job = some j)
include hjob

theorem exec_jobRelease_other (h : j.jobTag ≠ q.p 0 2) : exec .jobRelease s = ok (u.refuse q St.badParam) := by
  show execJobRelease s = _
  rw [execJobRelease, withSub_takes htakes rfl]
  simp only [hjob]
  exact congrArg ok (if_pos (bne_iff_ne.2 h))

variable (htag : j.jobTag = q.p 0 2)
include htag

theorem exec_jobRelease_tagged : exec .jobRelease s = ok (
    if u.jobChanging || u.ckpt.shrink.isSome then u.refuse q St.busy
    else { (u.accept q).1.ckptCancel.recordEnd with job := some { j with releasing := some ((u.accept q).2, false) } }) := by
  show execJobRelease s = _
  rw [execJobRelease, withSub_takes htakes rfl]
  simp only [hjob]
  exact congrArg ok (if_neg (by simp [htag]))

theorem exec_jobRelease_busy (h : u.jobChanging = true ∨ u.ckpt.shrink ≠ none) :
    exec .jobRelease s = ok (u.refuse q St.busy) := by
  rw [exec_jobRelease_tagged htakes hjob htag, if_pos (by rwa [Bool.or_eq_true, Option.isSome_iff_ne_none])]

theorem exec_jobRelease_begins {v : State} {h : Nat} (hidle : u.jobChanging = false) (hshrink : u.ckpt.shrink = none)
    (haccept : u.accept q = (v, h)) :
    exec .jobRelease s = ok { v.ckptCancel.recordEnd with job := some { j with releasing := some (h, false) } } := by
  rw [exec_jobRelease_tagged htakes hjob htag, if_neg (by rw [hidle, hshrink]; decide), haccept]

end

/-- A release waits for the puts of its job. -/
theorem releaseFinish_waits {s : State} {j : Job} {h : Nat} (hjob : s.job = some j) (hrel : j.releasing = some (h, true))
    (hputs : s.putsOut = true) : s.releaseFinish = s := by
  simp only [State.releaseFinish, hjob, hrel]
  exact if_pos hputs

/-! ## JOB_SHRINK -/

/-- The job's terraces halt at the next boundary, and no terrace is armed. -/
def State.shrinkHalted (s : State) (j : Job) : State :=
  forEach (List.range 16) (forEach (terraces j.mask) s.ckptCancel
    (fun t x => x.setTr t { x.tr t with haltPending := true, resumeStep := none })) (fun t x => x.wr (F.SCHED_STATUS_ARMED t) 0)

/-- The banks of variant v of the job are armed for step e. -/
def State.shrinkArmed (s : State) (j : Job) (bs : List Bank) (v e : Nat) : State :=
  (forEach (terraces j.mask) (bs.foldl (fun y b => forEach (y.members b.header.terrace) y (fun t y =>
    ((y.writeInactive t b).wr (F.SCHED_STATUS_ARMED t) 1).wr (F.SCHED_ARM_STEP_STEP t) e)) s)
    (fun t y => y.setTr t { y.tr t with resumeStep := some e })).armVariant j v e

/-- The node keeps the shrink until its step. -/
def State.shrinking (s : State) (k : Shrink) : State := { s with ckpt := { s.ckpt with shrink := some k } }

/-- The parameters of a JOB_SHRINK are out of range. -/
def Sub.shrinkBad (q : Sub) : Bool := q.p 8 8 / 2 ^ 40 != 0 || decide (q.p 1 1 > 64) || decide (q.p 2 1 > 64)

theorem shrinkBad_iff (q : Sub) : q.shrinkBad = true ↔ 2 ^ 40 ≤ q.p 8 8 ∨ 64 < q.p 1 1 ∨ 64 < q.p 2 1 := by
  have hdiv : q.p 8 8 / 2 ^ 40 ≠ 0 ↔ 2 ^ 40 ≤ q.p 8 8 := by omega
  rw [Sub.shrinkBad, Bool.or_eq_true, Bool.or_eq_true, bne_iff_ne, decide_eq_true_eq, decide_eq_true_eq, hdiv, or_assoc]

/-- Whether a shrink may not start now. -/
def State.shrinkBusy (s : State) : Bool := s.jobChanging || s.ckpt.shrink.isSome || s.ckpt.restore.isSome

theorem shrinkBusy_iff {s : State} :
    s.shrinkBusy = true ↔ s.jobChanging = true ∨ s.ckpt.shrink ≠ none ∨ s.ckpt.restore ≠ none := by
  rw [State.shrinkBusy, Bool.or_eq_true, Bool.or_eq_true, Option.isSome_iff_ne_none, Option.isSome_iff_ne_none, or_assoc]

/-- The variant a JOB_SHRINK names. -/
def Sub.shrinkVariant (q : Sub) (j : Job) : Option (List Nat × List Bytes) :=
  if q.p 0 1 = 0 then none else j.variants[q.p 0 1 - 1]?

section
variable {s u : State} {q : Sub} (htakes : s.takes q Op.jobShrink u)
include htakes

theorem exec_jobShrink_noJob (h : u.job = none) : exec .jobShrink s = ok (u.refuse q St.badParam) := by
  show execJobShrink s = _
  rw [execJobShrink, withSub_takes htakes rfl]
  simp only [h]

variable {j : Job} (hjob : u.job = some j)
include hjob

theorem exec_jobShrink_noVariant (h : q.shrinkVariant j = none) : exec .jobShrink s = ok (u.refuse q St.badParam) := by
  rw [Sub.shrinkVariant] at h
  show execJobShrink s = _
  rw [execJobShrink, withSub_takes htakes rfl]
  simp only [hjob, h]

variable {addrs : List Nat} {ds : List Bytes} (hvariant : q.shrinkVariant j = some (addrs, ds))
include hvariant

theorem exec_jobShrink_bad (h : q.shrinkBad = true) : exec .jobShrink s = ok (u.refuse q St.badParam) := by
  rw [Sub.shrinkVariant] at hvariant
  show execJobShrink s = _
  rw [execJobShrink, withSub_takes htakes rfl]
  simp only [hjob, hvariant]
  exact congrArg ok (if_pos h)

variable (hgood : q.shrinkBad = false)
include hgood

theorem exec_jobShrink_busy (h : u.shrinkBusy = true) : exec .jobShrink s = ok (u.refuse q St.busy) := by
  rw [Sub.shrinkVariant] at hvariant
  show execJobShrink s = _
  rw [execJobShrink, withSub_takes htakes rfl]
  simp only [hjob, hvariant]
  exact congrArg ok ((if_neg (ne_true_of_eq_false hgood)).trans (if_pos h))

variable (hfree : u.shrinkBusy = false) {v w : State} {h : Nat} (haccept : u.accept q = (v, h)) (hw : w = v.shrinkHalted j)
include hfree haccept hw

theorem exec_jobShrink_starts : exec .jobShrink s = ok (
    match w.variantBanks addrs ds with
    | .inl st => w.complete h st 0 []
    | .inr bs =>
      let y := (w.shrinkArmed j bs (q.p 0 1) (q.p 8 8)).shrinking ⟨h, q.p 0 1, q.p 8 8, q.p 1 1 != 0, []⟩
      if !(q.p 1 1 != 0) then y
      else
        let (st, srcs, trust) := y.readSources (q.p 1 1) (q.p 16 8) (q.p 2 1) (q.p 24 8)
        if st != 0 then y.shrinkFail st else y.restoreBegin none srcs trust) := by
  rw [Sub.shrinkVariant] at hvariant
  subst hw
  show execJobShrink s = _
  rw [execJobShrink, withSub_takes htakes rfl]
  simp only [hjob, hvariant]
  refine congrArg ok ((if_neg (ne_true_of_eq_false hgood)).trans ((if_neg (ne_true_of_eq_false hfree)).trans ?_))
  rw [haccept]
  rfl

theorem exec_jobShrink_unloaded {st : Nat} (hbanks : w.variantBanks addrs ds = Sum.inl st) :
    exec .jobShrink s = ok (w.complete h st 0 []) := by
  rw [exec_jobShrink_starts htakes hjob hvariant hgood hfree haccept hw, hbanks]

variable {bs : List Bank} (hbanks : w.variantBanks addrs ds = Sum.inr bs) {y : State}
  (hy : y = (w.shrinkArmed j bs (q.p 0 1) (q.p 8 8)).shrinking ⟨h, q.p 0 1, q.p 8 8, q.p 1 1 != 0, []⟩)
include hbanks hy

theorem exec_jobShrink_armed : exec .jobShrink s = ok (
    if !(q.p 1 1 != 0) then y
    else if (y.readSources (q.p 1 1) (q.p 16 8) (q.p 2 1) (q.p 24 8)).1 != 0 then
      y.shrinkFail (y.readSources (q.p 1 1) (q.p 16 8) (q.p 2 1) (q.p 24 8)).1
    else y.restoreBegin none (y.readSources (q.p 1 1) (q.p 16 8) (q.p 2 1) (q.p 24 8)).2.1
      (y.readSources (q.p 1 1) (q.p 16 8) (q.p 2 1) (q.p 24 8)).2.2) := by
  subst hy
  rw [exec_jobShrink_starts htakes hjob hvariant hgood hfree haccept hw, hbanks]

theorem exec_jobShrink_withoutRestore (hrestore : q.p 1 1 = 0) : exec .jobShrink s = ok y := by
  rw [exec_jobShrink_armed htakes hjob hvariant hgood hfree haccept hw hbanks hy, if_pos (by rw [hrestore]; rfl)]

variable (hrestore : q.p 1 1 ≠ 0) {st : Nat} {srcs : List RestoreSource} {trust : List Bytes}
  (hsources : y.readSources (q.p 1 1) (q.p 16 8) (q.p 2 1) (q.p 24 8) = (st, srcs, trust))
include hrestore hsources

theorem exec_jobShrink_sources : exec .jobShrink s =
    ok (if st != 0 then y.shrinkFail st else y.restoreBegin none srcs trust) := by
  rw [exec_jobShrink_armed htakes hjob hvariant hgood hfree haccept hw hbanks hy, if_neg (by simpa using hrestore), hsources]

theorem exec_jobShrink_badSources (h : st ≠ 0) : exec .jobShrink s = ok (y.shrinkFail st) := by
  rw [exec_jobShrink_sources htakes hjob hvariant hgood hfree haccept hw hbanks hy hrestore hsources, if_pos (bne_iff_ne.2 h)]

theorem exec_jobShrink_restores (h : st = 0) : exec .jobShrink s = ok (y.restoreBegin none srcs trust) := by
  rw [exec_jobShrink_sources htakes hjob hvariant hgood hfree haccept hw hbanks hy hrestore hsources, if_neg (by simp [h])]

end

theorem exec_jobShrink_malformed {s u : State} {q : Sub} (htakes : s.takes q Op.jobShrink u) (h : u.job = none ∨ q.p 0 1 = 0 ∨
    (∃ j, u.job = some j ∧ j.variants.length < q.p 0 1) ∨ 2 ^ 40 ≤ q.p 8 8 ∨ 64 < q.p 1 1 ∨ 64 < q.p 2 1) :
    exec .jobShrink s = ok (u.refuse q St.badParam) := by
  cases hjob : u.job with
  | none => exact exec_jobShrink_noJob htakes hjob
  | some j =>
    cases hvariant : q.shrinkVariant j with
    | none => exact exec_jobShrink_noVariant htakes hjob hvariant
    | some x =>
      refine exec_jobShrink_bad htakes hjob hvariant ((shrinkBad_iff q).2 ?_)
      rcases h with hnone | hzero | ⟨k, hk, hlen⟩ | hrange
      · rw [hnone] at hjob
        cases hjob
      · rw [Sub.shrinkVariant, if_pos hzero] at hvariant
        cases hvariant
      · obtain rfl : k = j := Option.some.inj (hk.symm.trans hjob)
        rw [Sub.shrinkVariant, if_neg (by omega), List.getElem?_eq_none (by omega)] at hvariant
        cases hvariant
      · exact hrange

/-! ## SHRINK_DEADLINE -/

section
variable {s u : State} {k : Shrink} (hshrink : s.ckpt.shrink = some k) (hrestore : k.withRestore = true)
include hshrink hrestore

theorem exec_shrinkDeadline_missed (h : s.reach (2 ^ 24 * k.effStep - s.nsToPhase 10000) = some u) :
    exec .shrinkDeadline s = ok (u.shrinkFail St.deadlineMissed) := by
  show execShrinkDeadline s = _
  simp only [execShrinkDeadline, hshrink, hrestore, h]
  rfl

theorem exec_shrinkDeadline_ahead (h : s.reach (2 ^ 24 * k.effStep - s.nsToPhase 10000) = none) :
    exec .shrinkDeadline s = ok s := by
  show execShrinkDeadline s = _
  simp only [execShrinkDeadline, hshrink, hrestore, h]
  rfl

end

theorem exec_shrinkDeadline_idle {s : State}
    (h : s.ckpt.shrink = none ∨ ∃ k, s.ckpt.shrink = some k ∧ k.withRestore = false) : exec .shrinkDeadline s = ok s := by
  show execShrinkDeadline s = _
  rcases h with hnone | ⟨k, hshrink, hrestore⟩
  · simp only [execShrinkDeadline, hnone]
  · simp only [execShrinkDeadline, hshrink, hrestore]
    rfl

/-- Settles O51. An admission by the rows of Table 16.16 in their order; a release and a shrink by the job, what it is doing and
the parameters; the deadline of a shrink by whether step time reaches it. -/
theorem jobsAdmitReleaseAndShrink : Obligations.JobsAdmitReleaseAndShrink := by
  refine ⟨fun s u q htakes => ⟨exec_jobAdmit_busy htakes, exec_jobAdmit_bad htakes, exec_jobAdmit_otherProfile htakes,
    fun hfree hgood hprofile hclock => ?_⟩, fun s u q htakes => ⟨fun j v h hjob htag hidle hshrink haccept =>
    exec_jobRelease_begins htakes hjob htag hidle hshrink haccept, fun j hjob htag => exec_jobRelease_busy htakes hjob htag,
    fun j hjob => exec_jobRelease_other htakes hjob, exec_jobRelease_noJob htakes⟩, fun s j h => releaseFinish_waits, ?_,
    fun s u q htakes => exec_jobShrink_malformed htakes, fun s u k hshrink hrestore =>
    ⟨exec_shrinkDeadline_missed hshrink hrestore, exec_shrinkDeadline_ahead hshrink hrestore⟩, fun s => exec_shrinkDeadline_idle⟩
  · refine ⟨exec_jobAdmit_unlocked htakes hfree hgood hprofile hclock,
      exec_jobAdmit_otherBinding htakes hfree hgood hprofile hclock, fun hstate hbinding =>
      ⟨fun st hcheck => ?_, fun pl cached gs vs v h hcheck haccept => ?_⟩⟩
    · rw [exec_jobAdmit_checked htakes hfree hgood hprofile hclock hstate hbinding, hcheck]
    · rw [exec_jobAdmit_checked htakes hfree hgood hprofile hclock hstate hbinding, hcheck, haccept]
  · intro s u v w q j addrs ds h htakes hjob hne hvariant hstep hsources htrust
    have hvariant' : q.shrinkVariant j = some (addrs, ds) := (if_neg hne).trans hvariant
    have hgood : q.shrinkBad = false := by
      rw [← Bool.not_eq_true, shrinkBad_iff]
      omega
    refine ⟨fun hbusy => exec_jobShrink_busy htakes hjob hvariant' hgood (shrinkBusy_iff.2 hbusy),
      fun hidle hshrink hrestore haccept hw => ?_⟩
    have hfree : u.shrinkBusy = false := by
      rw [State.shrinkBusy, hidle, hshrink, hrestore]
      rfl
    refine ⟨fun st => exec_jobShrink_unloaded htakes hjob hvariant' hgood hfree haccept hw, fun bs x y hbanks hx hy => ?_⟩
    subst hx
    exact ⟨exec_jobShrink_withoutRestore htakes hjob hvariant' hgood hfree haccept hw hbanks hy, fun st srcs trust hneeds hread =>
      ⟨exec_jobShrink_badSources htakes hjob hvariant' hgood hfree haccept hw hbanks hy hneeds hread,
        exec_jobShrink_restores htakes hjob hvariant' hgood hfree haccept hw hbanks hy hneeds hread⟩⟩

end Sys2Proof.Machine
end

section
/-! The core of a spire (chapter 5): its registers lie above those that show counts, and what the updates of a core that goes on
or waits leave as it was. -/

namespace Sys2Proof.Machine

open Sys2Proof

/-! ## The registers of a spire -/

theorem lt_spireReg {a : Nat} (n off : Nat) (h : a < spireBlock 0) : a < spireBlock n + off := by
  have hfirst : spireBlock n = spireBlock 0 + 0x10000 * n := by simp [spireBlock]
  omega

theorem ne_spireReg {a : Nat} (n off : Nat) (h : a < spireBlock 0) : spireBlock n + off ≠ a := (lt_spireReg n off h).ne'

theorem countRegs_below_spires : ∀ a ∈ countRegs, a < spireBlock 0 := by decide

theorem spireReg_not_count (n off : Nat) : spireBlock n + off ∉ countRegs :=
  fun h => (lt_spireReg n off (countRegs_below_spires _ h)).false

/-! ## Integer registers -/

theorem xr_zero (x : Spire) : x.xr 0 = 0 := if_pos rfl

theorem xr_setX_same {rd : Nat} (x : Spire) (v : Word) (h : rd ≠ 0) : (x.setX rd v).xr rd = v := by
  simp [Spire.xr, Spire.setX, h]

theorem xr_setX_ne {r rd : Nat} (x : Spire) (v : Word) (h : r ≠ rd) : (x.setX rd v).xr r = x.xr r := by
  unfold Spire.setX
  split
  · rfl
  · simp [Spire.xr, mget_mput_ne _ _ _ h]

@[simp] theorem setX_zero (x : Spire) (v : Word) : x.setX 0 v = x := if_pos rfl

/-! ## A core that goes on, and one that waits -/

theorem coreNext_frame (s : State) (n rd : Nat) (v : Word) :
    s.coreNext n rd v = { s with spires := (s.coreNext n rd v).spires } := rfl

theorem sp_coreNext (s : State) (n rd : Nat) (v : Word) :
    (s.coreNext n rd v).sp n = { (s.sp n).setX rd v with pc := (s.sp n).pc + 4 } := State.sp_setSp_same _ _ _

theorem sp_coreNext_ne (s : State) {n k : Nat} (rd : Nat) (v : Word) (h : k ≠ n) : (s.coreNext n rd v).sp k = s.sp k :=
  State.sp_setSp_ne _ _ h

theorem xr_coreNext (s : State) (n rd r : Nat) (v : Word) : ((s.coreNext n rd v).sp n).xr r = ((s.sp n).setX rd v).xr r := by
  rw [sp_coreNext]
  rfl

theorem coreRuns_iff {s : State} {n : Nat} : s.coreRuns n = true ↔ s.rd (F.SPIRE_STATUS_CORE n) = 1 := beq_iff_eq

/-- A core that runs has nothing flushed, -/
theorem coreDone_of_runs {s : State} {n : Nat} (h : s.coreRuns n = true) : s.coreDone n = s :=
  coreDone_of (by rw [coreRuns_iff.1 h])

/-- whatever it did that leaves the registers of the spire. -/
theorem coreDone_coreNext {s : State} {n rd : Nat} {v : Word} (h : s.coreRuns n = true) :
    (s.coreNext n rd v).coreDone n = s.coreNext n rd v := coreDone_of_runs (s := s.coreNext n rd v) h

theorem rd_setCore (s : State) (n : Nat) {v : Nat} (h : v < 4) : (s.setCore n v).rd (F.SPIRE_STATUS_CORE n) = v :=
  (State.rd_wr_same s _ v rfl).trans (Nat.mod_eq_of_lt h)

theorem coreDone_coreWait (s : State) (n : Nat) (w : CoreWait) : (s.coreWait n w).coreDone n = s.coreWait n w :=
  coreDone_of (by rw [State.coreWait, rd_setCore _ _ (by decide)])

/-! ## The rows of chapter 5's instructions -/

section Rows

variable (n : Fin 288) (rd rs1 rs2 : Fin 32) (s : State)

theorem exec_spTq : exec (.spTq n rs1) s = s.onCore n (fun s => s.coreIssue n false rs1) := rfl
theorem exec_spMq : exec (.spMq n rs1) s = s.onCore n (fun s => s.coreIssue n true rs1) := rfl
theorem exec_spWait (mover : Bool) : exec (.spWait n mover rd rs1) s =
    s.onCore n (fun s => (s.coreWait n (.wait mover ((s.sp n).xr rs1).toNat rd)).wakeWait n) := rfl
theorem exec_spTime (now : Nat) : exec (.spTime n rd now) s = execSpTime n rd now s := rfl
theorem exec_spTwait : exec (.spTwait n rs1) s = execSpTwait n rs1 s := rfl
theorem exec_spAmax : exec (.spAmax n rd rs1) s = execSpAmax n rd rs1 s := rfl
theorem exec_spAmaxx : exec (.spAmaxx n rd rs1) s = execSpAmaxx n rd rs1 s := rfl
theorem exec_spEnd : exec (.spEnd n rs1) s = execSpEnd n rs1 s := rfl
theorem exec_spireLoadStore (store : Bool) (size : Fin 4) (sgn : Bool) (imm : Fin 4096) (res : Fin 3) (ecc : EccFind) :
    exec (.spireLoadStore n store size sgn rd rs1 rs2 imm res ecc) s =
      execSpireLoadStore n store size sgn rd rs1 rs2 imm res ecc s := rfl
theorem exec_spireAmo (op : AmoOp) (wide : Bool) (res mres : Fin 3) (ecc : EccFind) :
    exec (.spireAmo n op wide rd rs1 rs2 res mres ecc) s = execSpireAmo n op wide rd rs1 rs2 res mres ecc s := rfl
theorem exec_spireFence (pred succ : Fin 16) : exec (.spireFence n pred succ) s = execSpireFence n pred succ s := rfl
theorem exec_spireFenceI : exec (.spireFenceI n) s = execSpireFenceI n s := rfl
theorem exec_spireCsrAccess (op : Fin 3) (imm : Bool) (csr : Fin 4096) :
    exec (.spireCsrAccess n op imm csr rd rs1) s = execSpireCsrAccess n op imm csr rd rs1 s := rfl

end Rows

/-! ## Instructions that complete, and a core that does not run -/

/-- Settles O22. What `coreNext` leaves, and that a core's rows act through `onCore`. -/
theorem spireInstructionsCompleteOrDoNothing : Obligations.SpireInstructionsCompleteOrDoNothing := by
  refine ⟨fun s n rd r v hrd hr => ⟨?_, ?_⟩, fun s n r v => ⟨?_, xr_zero _⟩, fun s n rd v =>
    ⟨?_, coreNext_frame s n rd v, fun k hk => sp_coreNext_ne s rd v hk⟩, fun n s _ _ _ _ _ _ _ _ _ _ _ _ _ _ _ _ _ _ _ h => ?_⟩
  · rw [xr_coreNext, xr_setX_same _ _ hrd]
  · rw [xr_coreNext, xr_setX_ne _ _ hr]
  · rw [xr_coreNext, setX_zero]
  · rw [sp_coreNext]
  · exact ⟨(exec_spTq ..).trans (onCore_not h _), (exec_spMq ..).trans (onCore_not h _),
      (exec_spWait ..).trans (onCore_not h _), (exec_spTime ..).trans (onCore_not h _),
      (exec_spTwait ..).trans (onCore_not h _), (exec_spAmax ..).trans (onCore_not h _),
      (exec_spAmaxx ..).trans (onCore_not h _), (exec_spEnd ..).trans (onCore_not h _),
      (exec_spireLoadStore ..).trans (onCore_not h _), (exec_spireAmo ..).trans (onCore_not h _),
      (exec_spireFence ..).trans (onCore_not h _), (exec_spireFenceI ..).trans (onCore_not h _),
      (exec_spireCsrAccess ..).trans (onCore_not h _)⟩

end Sys2Proof.Machine
end

section
/-! The vendor instructions of a spire core (Table 5.5): issuing descriptors, waiting for them, step time, amax slots and the end of
a part. -/

namespace Sys2Proof.Machine

open Sys2Proof

/-! ## The end of a command that changes a core -/

theorem sp_of_ok {s t : State} (h : ok s = .next t) (n : Nat) : t.sp n = s.sp n := by
  rw [rest_of_ok h]
  rfl

theorem coreRuns_of_ok {s t : State} (h : ok s = .next t) (n : Nat) : t.coreRuns n = s.coreRuns n :=
  congrArg (· == 1) (rd_of_ok (f := F.SPIRE_STATUS_CORE n) h (spireReg_not_count n _))

theorem keepsMem_of_ok {s u t : State} (h : ok u = .next t) (hu : s.keepsMem u) : s.keepsMem t := by
  rw [rest_of_ok h]
  exact hu

/-! ## Issuing descriptors (R110, R111) -/

/-- A core that stalled at a descriptor issues it once no entry holds the engine and its queue has room. -/
theorem retryIssue_stalled {s : State} {n a : Nat} {mover : Bool} (h : (s.sp n).wait = if mover then .mq a else .tq a) :
    s.retryIssue n = if s.engineHeld n mover || s.queueFull n mover then s
      else ((s.setSp n { s.sp n with wait := .none, pc := (s.sp n).pc + 4 }).setCore n 1).pushDesc n mover a none none := by
  cases mover <;> simp [State.retryIssue, h]

/-! ## Waiting for descriptors (R109) -/

section Wait

variable {s : State} {n : Fin 288} {mover : Bool} {rd rs1 : Fin 32}

/-- The core after an SP.WAIT that goes on: the first failure's status is in rd. -/
def State.spWaitDone (s : State) (n : Nat) (mover : Bool) (rd : Nat) : State :=
  (s.setSp n { (s.sp n).setX rd (BitVec.ofNat 64 (if mover then (s.sp n).failM else (s.sp n).failT)) with
    wait := .none, pc := (s.sp n).pc + 4 }).setCore n 1

theorem wakeWait_of_wait {n count rd : Nat} (h : (s.sp n).wait = .wait mover count rd) :
    s.wakeWait n = if count ≤ (if mover then (s.sp n).doneM else (s.sp n).doneT) then s.spWaitDone n mover rd else s := by
  simp only [State.wakeWait, h]
  rfl

theorem sp_setCore (s : State) (n v k : Nat) : (s.setCore n v).sp k = s.sp k := sp_wr s k v (F.SPIRE_STATUS_CORE n)

theorem sp_coreWait (s : State) (n : Nat) (w : CoreWait) : (s.coreWait n w).sp n = { s.sp n with wait := w } :=
  State.sp_setSp_same _ _ _

theorem coreRuns_setCore (s : State) (n : Nat) {v : Nat} (h : v < 4) : (s.setCore n v).coreRuns n = (v == 1) :=
  congrArg (· == 1) (rd_setCore s n h)

theorem rdReg_setCore_ne (s : State) {n a : Nat} (v : Nat) (h : a ≠ R.SPIRE_STATUS n) : (s.setCore n v).rdReg a = s.rdReg a :=
  State.rdReg_wr_ne (f := F.SPIRE_STATUS_CORE n) s v h

theorem rdReg_coreWait_ne (s : State) {n a : Nat} (w : CoreWait) (h : a ≠ R.SPIRE_STATUS n) :
    (s.coreWait n w).rdReg a = s.rdReg a := rdReg_setCore_ne (s.setSp n { s.sp n with wait := w }) 3 h

theorem rdReg_spWaitDone_ne (s : State) {n a : Nat} (mover : Bool) (rd : Nat) (h : a ≠ R.SPIRE_STATUS n) :
    (s.spWaitDone n mover rd).rdReg a = s.rdReg a := by
  rw [State.spWaitDone, rdReg_setCore_ne _ _ h]
  rfl

theorem sp_spWaitDone (s : State) (n : Nat) (mover : Bool) (rd : Nat) : (s.spWaitDone n mover rd).sp n =
    { (s.sp n).setX rd (BitVec.ofNat 64 (if mover then (s.sp n).failM else (s.sp n).failT)) with
      wait := .none, pc := (s.sp n).pc + 4 } := by
  rw [State.spWaitDone, sp_setCore, State.sp_setSp_same]

theorem keepsMem_coreWait (s : State) (n : Nat) (w : CoreWait) : s.keepsMem (s.coreWait n w) := ⟨rfl, rfl, rfl⟩

theorem keepsMem_spWaitDone (s : State) (n : Nat) (mover : Bool) (rd : Nat) : s.keepsMem (s.spWaitDone n mover rd) :=
  ⟨rfl, rfl, rfl⟩

theorem coreRuns_coreWait (s : State) (n : Nat) (w : CoreWait) : (s.coreWait n w).coreRuns n = false :=
  coreRuns_setCore _ _ (by decide)

theorem coreRuns_spWaitDone (s : State) (n : Nat) (mover : Bool) (rd : Nat) : (s.spWaitDone n mover rd).coreRuns n = true :=
  coreRuns_setCore _ _ (by decide)

variable (hrun : s.coreRuns n = true)
include hrun

theorem exec_spWait_done (h : ((s.sp n).xr rs1).toNat ≤ if mover then (s.sp n).doneM else (s.sp n).doneT) :
    exec (.spWait n mover rd rs1) s =
      ok ((s.coreWait n (.wait mover ((s.sp n).xr rs1).toNat rd)).spWaitDone n mover rd) := by
  rw [exec_spWait, onCore_does hrun, wakeWait_of_wait (by rw [sp_coreWait]), sp_coreWait, if_pos h,
    coreDone_of_runs (coreRuns_spWaitDone ..)]

theorem exec_spWait_waits (h : (if mover then (s.sp n).doneM else (s.sp n).doneT) < ((s.sp n).xr rs1).toNat) :
    exec (.spWait n mover rd rs1) s = ok (s.coreWait n (.wait mover ((s.sp n).xr rs1).toNat rd)) := by
  rw [exec_spWait, onCore_does hrun, wakeWait_of_wait (by rw [sp_coreWait]), sp_coreWait, if_neg (not_le.2 h), coreDone_coreWait]

theorem spWait_done (h : ((s.sp n).xr rs1).toNat ≤ if mover then (s.sp n).doneM else (s.sp n).doneT) :
    Does (.spWait n mover rd rs1) s (fun t => (rd ≠ 0 → (t.sp n).xr rd = BitVec.ofNat 64
      (if mover then (s.sp n).failM else (s.sp n).failT)) ∧ (t.sp n).pc = (s.sp n).pc + 4 ∧ (t.sp n).wait = .none ∧
      t.coreRuns n = true ∧ s.keepsMem t ∧ s.keepsRegs t [R.SPIRE_STATUS n]) := by
  refine does_of_ok (exec_spWait_done hrun h) fun t ht => ?_
  rw [sp_of_ok ht, sp_spWaitDone, sp_coreWait]
  refine ⟨fun hrd => xr_setX_same _ _ (Fin.val_ne_of_ne hrd), rfl, rfl, ?_,
    keepsMem_of_ok ht (keepsMem_spWaitDone (s.coreWait n _) n mover rd),
    keepsRegs_of_ok ht fun a ha => ?_⟩
  · rw [coreRuns_of_ok ht, coreRuns_spWaitDone]
  · have hne := mt List.mem_singleton.2 ha
    rw [rdReg_spWaitDone_ne _ _ _ hne, rdReg_coreWait_ne _ _ hne]

theorem spWait_waits (h : (if mover then (s.sp n).doneM else (s.sp n).doneT) < ((s.sp n).xr rs1).toNat) :
    Does (.spWait n mover rd rs1) s (fun t => (t.sp n).wait = .wait mover ((s.sp n).xr rs1).toNat rd ∧
      (t.sp n).pc = (s.sp n).pc ∧ t.coreRuns n = false ∧ s.keepsMem t ∧ s.keepsRegs t [R.SPIRE_STATUS n]) := by
  refine does_of_ok (exec_spWait_waits hrun h) fun t ht => ?_
  rw [sp_of_ok ht, sp_coreWait]
  exact ⟨rfl, rfl, (coreRuns_of_ok ht n).trans (coreRuns_coreWait ..), keepsMem_of_ok ht (keepsMem_coreWait ..),
    keepsRegs_of_ok ht fun a ha => rdReg_coreWait_ne s _ (mt List.mem_singleton.2 ha)⟩

end Wait

/-! ## The rows of a running core -/

section Run

variable {s : State} {n : Fin 288} {rd rs1 : Fin 32}

theorem amax_ne_spireStatus (n slot : Nat) : R.SPIRE_STATUS n ≠ R.SPIRE_AMAX n slot := by
  simp only [R.SPIRE_STATUS, R.SPIRE_AMAX]
  omega

theorem exec_spTwaitExpiry_reached {t : Nat} {u : State} (hwait : (s.sp n).wait = .twait t) (hreach : s.reach t = some u) :
    exec (.spTwaitExpiry n) s = ok (((u.setSp n { u.sp n with wait := .none }).setCore n 1).coreNext n 0 0) := by
  show execSpTwaitExpiry n s = _
  simp only [execSpTwaitExpiry, hwait, hreach]

theorem exec_spireAmaxWrite (n : Fin 288) (slot : Fin 64) (v : Word) (update : Option (BitVec 32 × Bool)) (s : State) :
    exec (.spireAmaxWrite n slot v update) s = ok (match update with
      | some (x, sat) => (s.wrReg (R.SPIRE_AMAX n slot) v.toNat).amaxUpdate n slot (some (fmtFP32.decode x.toNat)) sat
      | none => s.wrReg (R.SPIRE_AMAX n slot) v.toNat) := rfl

theorem spireAmaxWrite_replaces (n : Fin 288) (slot : Fin 64) (v : Word) (s : State) :
    Does (.spireAmaxWrite n slot v none) s (fun t =>
      t.rdReg (R.SPIRE_AMAX n slot) = v.toNat ∧ s.keepsRegs t [R.SPIRE_AMAX n slot] ∧ s.keepsMem t) := by
  refine does_of_ok (exec_spireAmaxWrite n slot v none s) fun t ht =>
    ⟨?_, keepsRegs_of_ok ht fun a ha => State.rdReg_wrReg_ne _ _ (mt List.mem_singleton.2 ha), keepsMem_of_ok ht ⟨rfl, rfl, rfl⟩⟩
  have hcount : R.SPIRE_AMAX n slot ∉ countRegs := by
    rw [R.SPIRE_AMAX, Nat.add_assoc]
    exact spireReg_not_count n _
  rw [ok_inj ht, State.rdReg_fresh, rdReg_showCounts _ hcount, State.rdReg_wrReg_same, Nat.mod_eq_of_lt v.isLt]

variable (hrun : s.coreRuns n = true)
include hrun

theorem exec_spTime_rate {now : Nat} {u : State} (hprofile : s.profile = 0) (hreach : s.reach now = some u) :
    exec (.spTime n rd now) s = ok (u.coreNext n rd (BitVec.ofNat 64 u.now)) := by
  have hrun' : u.coreRuns n = true := coreRuns_iff.2 ((rd_of_reach hreach
    (mt List.mem_singleton.1 (ne_spireReg n 8 (by decide)))).trans (coreRuns_iff.1 hrun))
  rw [exec_spTime, execSpTime, onCore_does hrun]
  simp only [State.refusesV, hprofile, hreach, bne_self_eq_false, Bool.false_eq_true, if_false, coreDone_coreNext hrun']

theorem exec_spTime_exact (now : Nat) (hprofile : s.profile ≠ 0) :
    exec (.spTime n rd now) s = ok ((s.exactRefused n).coreDone n) := by
  rw [exec_spTime, execSpTime, onCore_does hrun, State.refusesV, if_pos (bne_iff_ne.2 hprofile)]

theorem exec_spTwait_past (h : ((s.sp n).xr rs1).toNat ≤ s.now) : exec (.spTwait n rs1) s = ok (s.coreNext n 0 0) := by
  rw [exec_spTwait, execSpTwait, onCore_does hrun]
  simp only [h, if_true, coreDone_coreNext hrun]

theorem exec_spTwait_waits (h : s.now < ((s.sp n).xr rs1).toNat) :
    exec (.spTwait n rs1) s = ok (s.coreWait n (.twait ((s.sp n).xr rs1).toNat)) := by
  rw [exec_spTwait, execSpTwait, onCore_does hrun]
  simp only [not_le.2 h, if_false, coreDone_coreWait]

theorem exec_spAmax_reads : exec (.spAmax n rd rs1) s = ok (s.coreNext n rd (BitVec.ofNat 64
    (s.rdReg (R.SPIRE_AMAX n (((s.sp n).xr rs1).toNat % 64))))) := by
  rw [exec_spAmax, execSpAmax, onCore_does hrun, coreDone_coreNext hrun]
  rfl

theorem exec_spAmaxx_clears : exec (.spAmaxx n rd rs1) s =
    ok ((s.wrReg (R.SPIRE_AMAX n (((s.sp n).xr rs1).toNat % 64)) 0).coreNext n rd
      (BitVec.ofNat 64 (s.rdReg (R.SPIRE_AMAX n (((s.sp n).xr rs1).toNat % 64))))) := by
  have hrun' (slot : Nat) : (s.wrReg (R.SPIRE_AMAX n slot) 0).coreRuns n = true :=
    coreRuns_iff.2 ((State.rd_wrReg_ne (f := F.SPIRE_STATUS_CORE n) s 0 (amax_ne_spireStatus n slot)).trans (coreRuns_iff.1 hrun))
  rw [exec_spAmaxx, execSpAmaxx, onCore_does hrun, coreDone_coreNext (hrun' _)]
  rfl

theorem exec_spEnd_succeeds (h : (s.sp n).xr rs1 = 0) : exec (.spEnd n rs1) s =
    ok ((((s.setSp n { s.sp n with ended := true }).setCore n 0).corePart n).coreDone n) := by
  rw [exec_spEnd, execSpEnd, onCore_does hrun]
  simp only [h, if_true]

theorem exec_spEnd_fails {u v : State} (h : (s.sp n).xr rs1 ≠ 0)
    (hu : u = (s.wr (F.SPIRE_FAULT_INFO_CAUSE n) 0xFF).partFails n 0 St.spireFault)
    (hv : v = ((u.wr (F.SPIRE_FAULT_INFO_STATUS n) (u.sp n).partStatus).wrReg (R.SPIRE_FAULT_PC n) (s.sp n).pc.toNat).wrReg
      (R.SPIRE_FAULT_TVAL n) ((s.sp n).xr rs1).toNat) :
    exec (.spEnd n rs1) s = ok ((((v.setSp n { v.sp n with ended := true }).setCore n 0).corePart n).coreDone n) := by
  subst hu
  subst hv
  rw [exec_spEnd, execSpEnd, onCore_does hrun]
  simp only [h, if_false]

end Run

/-- Settles O23. Each row of a running core by its cases; what waits by what it waits for. -/
theorem spireVendorInstructions : Obligations.SpireVendorInstructions := by
  refine ⟨fun n rs1 s u hrun hu => ?_, fun n rs1 s u hrun hu => ?_, fun s n a mover hwait => ⟨fun hfree hroom => ?_, fun h => ?_⟩,
    fun _ _ _ _ _ hrun => spWait_done hrun, fun _ _ _ _ _ hrun => spWait_waits hrun,
    fun _ _ _ _ _ hrun => exec_spTime_rate hrun, fun _ _ now _ hrun => exec_spTime_exact hrun now,
    fun _ _ _ hrun => exec_spTwait_past hrun, fun _ _ _ hrun => exec_spTwait_waits hrun,
    fun _ _ _ _ => exec_spTwaitExpiry_reached, fun _ _ _ _ hrun => exec_spAmax_reads hrun,
    fun _ _ _ _ hrun => exec_spAmaxx_clears hrun, fun _ _ _ hrun => exec_spEnd_succeeds hrun,
    fun _ _ _ _ _ hrun => exec_spEnd_fails hrun, spireAmaxWrite_replaces, fun _ _ _ _ _ _ => exec_spireAmaxWrite ..⟩
  · rw [exec_spTq, onCore_does hrun, hu]
    simp only [State.coreIssue, Bool.false_eq_true, if_false]
  · rw [exec_spMq, onCore_does hrun, hu]
    simp only [State.coreIssue, if_true]
  · rw [retryIssue_stalled hwait, hfree, hroom]
    rfl
  · rw [retryIssue_stalled hwait, if_pos (by simpa using h)]

end Sys2Proof.Machine
end

section
/-! Writes at home: beside memory, its marks and what watches them, a write can change the list of granules still to copy and the
registers of the guard (R335); nothing that decides where an access goes. -/

namespace Sys2Proof.Machine

open Sys2Proof

/-- The registers in which the guard counts what it copies ahead (R335). -/
def guardRegs : List Nat := [R.CKPT_GUARD, R.CKPT_COPIED]

/-- t differs from s at most as a write at home can make it. -/
structure HomeWrite (s t : State) : Prop where
  frame : MemFrame s t
  policy_eq : t.ckpt.policy = s.ckpt.policy
  rdReg_eq : ∀ a, a ∉ guardRegs → t.rdReg a = s.rdReg a

variable {s t : State}

theorem HomeWrite.refl (s : State) : HomeWrite s s := ⟨.refl s, rfl, fun _ _ => rfl⟩

theorem HomeWrite.trans {u : State} (h1 : HomeWrite s t) (h2 : HomeWrite t u) : HomeWrite s u :=
  ⟨h1.frame.trans h2.frame, h2.policy_eq.trans h1.policy_eq, fun a ha => (h2.rdReg_eq a ha).trans (h1.rdReg_eq a ha)⟩

theorem homeWrite_of_regs (hframe : MemFrame s t) (hpolicy : t.ckpt.policy = s.ckpt.policy) (hregs : t.regs = s.regs) :
    HomeWrite s t := ⟨hframe, hpolicy, fun a _ => by rw [State.rdReg, State.rdReg, hregs]⟩

theorem homeWrite_wr (s : State) {f : Field} (v : Nat) (h : f.addr ∈ guardRegs) : HomeWrite s (s.wr f v) :=
  ⟨memFrame_wr s f v, rfl, fun _ ha => State.rdReg_wr_ne s v fun e => ha (e ▸ h)⟩

theorem homeWrite_foldl {α : Type} (f : State → α → State) (hf : ∀ s x, HomeWrite s (f s x)) :
    ∀ (l : List α) (s : State), HomeWrite s (l.foldl f s)
  | [], s => .refl s
  | x :: l, s => (hf s x).trans (homeWrite_foldl f hf l (f s x))

/-- One granule copied ahead, and counted. -/
def State.granuleAhead (s : State) (g : Nat × Nat) : State :=
  (((s.copyRange g.1 g.2 granuleBytes).inc F.CKPT_GUARD_STALLS).incw F.CKPT_COPIED_BYTES granuleBytes).wr
    F.CKPT_GUARD_MAX_STALL_NS (max (s.rd F.CKPT_GUARD_MAX_STALL_NS) (s.free g.1 6001))

/-- The granules that a write at a place would meet are no longer to be copied. -/
def State.granulesApart (s : State) (a n : Nat) : State :=
  { s with ckpt := { s.ckpt with granules := s.ckpt.granules.filter (fun g => !overlaps a n g.1 granuleBytes) } }

theorem copyAhead_eq (s : State) (a n : Nat) : s.copyAhead a n = if !s.ckpt.copying then s else
    (s.ckpt.granules.filter (fun g => overlaps a n g.1 granuleBytes)).foldl State.granuleAhead (s.granulesApart a n) := rfl

theorem homeWrite_granuleAhead (s : State) (g : Nat × Nat) : HomeWrite s (s.granuleAhead g) :=
  HomeWrite.trans (t := s.copyRange g.1 g.2 granuleBytes) (homeWrite_of_regs rfl rfl rfl)
    ((homeWrite_wr _ _ (by decide)).trans ((homeWrite_wr _ _ (by decide)).trans (homeWrite_wr _ _ (by decide))))

theorem homeWrite_copyAhead (s : State) (a n : Nat) : HomeWrite s (s.copyAhead a n) := by
  rw [copyAhead_eq]
  split
  · exact .refl s
  · refine HomeWrite.trans ?_ (homeWrite_foldl _ homeWrite_granuleAhead _ _)
    exact homeWrite_of_regs rfl rfl rfl

theorem homeWrite_rawWrite (s : State) (a : Nat) (bs : Bytes) : HomeWrite s (s.rawWrite a bs) := homeWrite_of_regs rfl rfl rfl

theorem homeWrite_setPoison (s : State) (ws : List Nat) : HomeWrite s (s.setPoison ws) := homeWrite_of_regs rfl rfl rfl

theorem homeWrite_touch (s : State) (a n : Nat) : HomeWrite s (s.touch a n) := by
  refine (homeWrite_copyAhead s a n).trans ?_
  rw [State.touch]
  generalize s.copyAhead a n = t
  exact homeWrite_of_regs rfl rfl rfl

theorem homeWrite_write (s : State) (a : Nat) (bs : Bytes) : HomeWrite s (s.write a bs) :=
  (homeWrite_touch s a bs.length).trans (homeWrite_rawWrite _ a bs)

theorem homeWrite_writeCells (s : State) (a : Nat) (cs : List (Byte × Bool)) : HomeWrite s (s.writeCells a cs) := by
  refine (homeWrite_write s a (cs.map (·.1))).trans ?_
  simp only [State.writeCells]
  exact homeWrite_setPoison _ _

/-! ## What a write at home leaves -/

theorem HomeWrite.spires_eq (h : HomeWrite s t) : t.spires = s.spires := by
  have e := h.frame
  unfold MemFrame at e
  rw [e]

theorem HomeWrite.check_eq (h : HomeWrite s t) : t.check = s.check := by
  have e := h.frame
  unfold MemFrame at e
  rw [e]

theorem HomeWrite.sp_eq (h : HomeWrite s t) (n : Nat) : t.sp n = s.sp n := congrArg (fun m => mget m n Spire.init) h.spires_eq

/-- s and t agree in all that decides where an access goes: the registers outside the guard's, the region of the checkpoint policy
and the partial reset that runs. -/
structure SameHome (s t : State) : Prop where
  preset_eq : t.preset = s.preset
  policy_eq : t.ckpt.policy = s.ckpt.policy
  rdReg_eq : ∀ a, a ∉ guardRegs → t.rdReg a = s.rdReg a

theorem HomeWrite.sameHome (h : HomeWrite s t) : SameHome s t := by
  refine ⟨?_, h.policy_eq, h.rdReg_eq⟩
  have e := h.frame
  unfold MemFrame at e
  rw [e]

theorem SameHome.rd_eq (h : SameHome s t) {f : Field} (hf : f.addr ∉ guardRegs) : t.rd f = s.rd f := by
  rw [State.rd, State.rd, h.rdReg_eq _ hf]

theorem SameHome.flag_eq (h : SameHome s t) {f : Field} (hf : f.addr ∉ guardRegs) : t.flag f = s.flag f := by
  rw [State.flag, State.flag, h.rd_eq hf]

theorem guardRegs_below_spires : ∀ a ∈ guardRegs, a < spireBlock 0 := by decide

theorem spireReg_not_guard (n off : Nat) : spireBlock n + off ∉ guardRegs :=
  fun h => (lt_spireReg n off (guardRegs_below_spires _ h)).false

theorem HomeWrite.coreRuns_eq (h : HomeWrite s t) (n : Nat) : t.coreRuns n = s.coreRuns n :=
  congrArg (· == 1) (h.sameHome.rd_eq (f := F.SPIRE_STATUS_CORE n) (spireReg_not_guard n _))

theorem HomeWrite.sealed_eq (h : HomeWrite s t) : t.sealed = s.sealed :=
  congrArg (· == 2) (h.sameHome.rd_eq (f := F.NODE_PROFILE_ACTIVE) (by decide))

/-! ## Where an access goes -/

theorem SameHome.target_eq (h : SameHome s t) (a : Nat) : t.target a = s.target a := by
  have hnode : t.nodeId = s.nodeId := h.rd_eq (by decide)
  rw [State.target, State.target, hnode]

theorem SameHome.backed_eq (h : SameHome s t) (a n : Nat) : t.backed a n = s.backed a n := by
  have hreserved : t.reserved a n = s.reserved a n := by
    rw [State.reserved, State.reserved, h.policy_eq, h.rd_eq (f := F.NODE_REC_STATUS_STATE) (by decide),
      h.rd_eq (f := F.NODE_REC_STATUS_BASE) (by decide), h.rd_eq (f := F.NODE_REC_LENGTH_BYTES) (by decide)]
  have hscratch : t.scratchBacked a n = s.scratchBacked a n := by
    simp only [State.scratchBacked, State.powered, h.rd_eq (f := F.NODE_TERRACE_PWR_POWERED) (by decide)]
  rw [State.backed, State.backed, hreserved, hscratch]

theorem SameHome.inReset_eq (h : SameHome s t) (k : Nat) : t.inReset k = s.inReset k := by
  rw [State.inReset, State.inReset, h.preset_eq]

theorem tensCtx_not_guard (n c : Nat) : (F.TENS_CTX_SEALED n c).addr ∉ guardRegs ∧ (F.TENS_CTX_BASE n c).addr ∉ guardRegs ∧
    (F.TENS_CTX_LENGTH n c).addr ∉ guardRegs := by
  have h : R.TENS_CTX n c ∉ guardRegs := by
    rw [R.TENS_CTX, Nat.add_assoc]
    exact spireReg_not_guard n _
  exact ⟨h, h, h⟩

theorem SameHome.ctxHit_eq (h : SameHome s t) (a n : Nat) : t.ctxHit a n = s.ctxHit a n := by
  have hflag (k c : Nat) := h.flag_eq (tensCtx_not_guard k c).1
  have hbase (k c : Nat) := h.rd_eq (tensCtx_not_guard k c).2.1
  have hlen (k c : Nat) := h.rd_eq (tensCtx_not_guard k c).2.2
  simp only [State.ctxHit, hflag, hbase, hlen]

theorem SameHome.homeStatus_eq (h : SameHome s t) (a n : Nat) (w : Bool) : t.homeStatus a n w = s.homeStatus a n w := by
  simp only [State.homeStatus, h.preset_eq, h.flag_eq (f := F.NODE_PROFILE_SWITCHING) (by decide), h.inReset_eq, h.backed_eq,
    h.ctxHit_eq]

theorem SameHome.coreTarget_eq (h : SameHome s t) (a n : Nat) (w : Bool) : t.coreTarget a n w = s.coreTarget a n w := by
  have hmay (l : Nat) : t.coreMay l n = s.coreMay l n := by simp only [State.coreMay, h.backed_eq, h.inReset_eq]
  rw [State.coreTarget, State.coreTarget, h.target_eq]
  cases s.target a with
  | here l => simp only [hmay, h.ctxHit_eq]
  | self l => simp only [h.homeStatus_eq]
  | pond node l => rfl
  | weir node l => rfl
  | bad => rfl

end Sys2Proof.Machine
end

section
/-! Loads, stores and atomics of a spire core (R105, R239): where the access goes decides what it does. -/

namespace Sys2Proof.Machine

open Sys2Proof

/-! ## Residues, the ECC and the engine -/

section Access

variable {s : State} {n a size : Nat} {t : Target} {st : Nat}

theorem coreResidue_runs {res : Fin 3} (run : State → State) (h : s.sealed = false ∨ res = 0) :
    s.coreResidue n res run = run s := by
  rw [State.coreResidue, if_pos]
  rcases h with h | h <;> simp [h]

theorem coreEcc_clean (store : Bool) : s.coreEcc n a size store .clean = s := by
  unfold State.coreEcc
  split
  split <;> rfl

/-- The ECC finds nothing where the access does not come to memory of this node. -/
theorem coreEcc_elsewhere {store : Bool} (htarget : s.coreTarget a size store = (t, st)) (h : t.remote = true ∨ st ≠ St.ok)
    (ecc : EccFind) : s.coreEcc n a size store ecc = s := by
  simp only [State.coreEcc, htarget]
  rw [if_pos]
  rcases h with h | h <;> simp [h]

theorem stalls_here (e : Nat) (h : t.remote = false) : s.stalls e t = false := by
  cases t with
  | here l => rfl
  | self l => rfl
  | pond node l => nomatch h
  | weir node l => nomatch h
  | bad => rfl

theorem weirTraps_here (h : t.remote = false) : s.weirTraps t = false := by
  cases t with
  | here l => rfl
  | self l => rfl
  | pond node l => rfl
  | weir node l => nomatch h
  | bad => rfl

theorem twinHeld_nil (h : s.check.twins = []) (k a n : Nat) : s.twinHeld k a n = false := by
  rw [State.twinHeld, h]
  rfl

theorem paired_unsealed (h : s.sealed = false) : (s.coreNext n 0 0).paired n = s.coreNext n 0 0 :=
  if_neg (ne_true_of_eq_false h)

/-! ## A load -/

section Load

variable {rd : Nat} {sgn : Bool} (htarget : s.coreTarget a size false = (t, st))
include htarget

theorem coreLoad_misaligned (hremote : t.remote = true) (h : a % size ≠ 0) :
    s.coreLoad n rd a size sgn = s.coreTrap n Cause.loadMisaligned 0 a := by
  simp [State.coreLoad, htarget, hremote, h]

theorem coreLoad_stalls (h : a % size = 0) (hstall : s.stalls (spireEngine n) t = true) :
    s.coreLoad n rd a size sgn = s := by
  simp [State.coreLoad, htarget, h, hstall]

theorem coreLoad_remote (hremote : t.remote = true) (h : a % size = 0) (hstall : s.stalls (spireEngine n) t = false) :
    s.coreLoad n rd a size sgn =
      (s.coreWait n .remote).remoteLoad (spireEngine n) size t 0 (.core n rd size sgn false) := by
  simp [State.coreLoad, htarget, hremote, h, hstall]

theorem coreLoad_refused (hremote : t.remote = false) (h : st ≠ St.ok) :
    s.coreLoad n rd a size sgn = s.coreRefuse n a size t st false (.core n rd size sgn false) := by
  simp [State.coreLoad, htarget, hremote, h, stalls_here]

theorem coreLoad_here (hremote : t.remote = false) (h : st = St.ok) (htwins : s.check.twins = []) :
    s.coreLoad n rd a size sgn = if s.poisoned t.loc size then s.coreTrap n Cause.hardware 0 a
      else s.coreNext n rd (loadValue size sgn (s.readNat t.loc size)) := by
  simp [State.coreLoad, htarget, hremote, h, stalls_here, twinHeld_nil htwins]

end Load

/-! ## A store -/

section Store

variable {v : Word} (htarget : s.coreTarget a size true = (t, st))
include htarget

theorem coreStore_misaligned (hremote : t.remote = true) (h : a % size ≠ 0) :
    s.coreStore n a size v = s.coreTrap n Cause.storeMisaligned 0 a := by
  simp [State.coreStore, htarget, hremote, h]

theorem coreStore_stalls (h : a % size = 0) (hstall : s.stalls (spireEngine n) t = true) :
    s.coreStore n a size v = s := by
  simp [State.coreStore, htarget, h, hstall]

theorem coreStore_remote (hremote : t.remote = true) (h : a % size = 0) (hstall : s.stalls (spireEngine n) t = false)
    (htrap : s.weirTraps t = false) : s.coreStore n a size v = (s.coreNext n 0 0).remoteStore (spireEngine n) t 0
      ((natLE size v.toNat).map (fun b => (b, false))) (.corePost n (s.sp n).entry) := by
  simp [State.coreStore, htarget, hremote, h, hstall, htrap]

theorem coreStore_refused {l : Nat} (ht : t = .here l) (h : st ≠ St.ok) :
    s.coreStore n a size v = (s.noteCtx l size).coreTrap n Cause.store 0 a := by
  subst ht
  simp [State.coreStore, htarget, h, State.stalls, State.weirTraps, Target.remote, State.coreRefuse, State.noteRefusal]

theorem coreStore_here (hremote : t.remote = false) (h : st = St.ok) (hsealed : s.sealed = false) :
    s.coreStore n a size v = (s.writeCells t.loc ((natLE size v.toNat).map (fun b => (b, false)))).coreNext n 0 0 := by
  simp only [State.coreStore, htarget, hremote, h, stalls_here _ hremote, weirTraps_here hremote, State.unitWrite, hsealed,
    Bool.false_and, Bool.not_false, Bool.false_eq_true, bne_self_eq_false, if_false, if_true]
  exact paired_unsealed ((homeWrite_writeCells s _ _).sealed_eq.trans hsealed)

end Store

end Access

/-! ## The instructions -/

section LoadStore

variable {s : State} {n : Fin 288} {size : Fin 4} {sgn : Bool} {rd rs1 rs2 : Fin 32} {imm : Fin 4096} {res : Fin 3} {a : Nat}
  {t : Target} {st : Nat} (hrun : s.coreRuns n = true) (hres : s.sealed = false ∨ res = 0)
  (ha : a = ((s.sp n).xr rs1 + BitVec.ofNat 64 (sext64 12 imm)).toNat)
include hrun hres ha

theorem exec_load (ecc : EccFind) : exec (.spireLoadStore n false size sgn rd rs1 rs2 imm res ecc) s =
    ok (((s.coreEcc n a (2 ^ size.val) false ecc).coreLoad n rd a (2 ^ size.val) sgn).coreDone n) := by
  rw [exec_spireLoadStore, execSpireLoadStore, onCore_does hrun, coreResidue_runs _ hres, ha]
  rfl

theorem exec_store (ecc : EccFind) : exec (.spireLoadStore n true size sgn rd rs1 rs2 imm res ecc) s =
    ok (((s.coreEcc n a (2 ^ size.val) true ecc).coreStore n a (2 ^ size.val) ((s.sp n).xr rs2)).coreDone n) := by
  rw [exec_spireLoadStore, execSpireLoadStore, onCore_does hrun, coreResidue_runs _ hres, ha]
  rfl

/-- A load or store of another node's memory waits, without a trace, while the core's engine has no room. -/
theorem exec_loadStore_stalls (store : Bool) (htarget : s.target a = t) (hremote : t.remote = true) (halign : a % 2 ^ size.val = 0)
    (hstall : s.stalls (spireEngine n) t = true) (ecc : EccFind) :
    exec (.spireLoadStore n store size sgn rd rs1 rs2 imm res ecc) s = ok s := by
  have hfst : s.coreTarget a (2 ^ size.val) store = (t, (s.coreTarget a (2 ^ size.val) store).2) := by rw [← htarget]; rfl
  cases store
  · rw [exec_load hrun hres ha, coreEcc_elsewhere hfst (.inl hremote), coreLoad_stalls hfst halign hstall, coreDone_of_runs hrun]
  · rw [exec_store hrun hres ha, coreEcc_elsewhere hfst (.inl hremote), coreStore_stalls hfst halign hstall, coreDone_of_runs hrun]

section Load

variable (htarget : s.coreTarget a (2 ^ size.val) false = (t, st))
include htarget

theorem exec_load_here (hremote : t.remote = false) (h : st = St.ok) (htwins : s.check.twins = []) :
    exec (.spireLoadStore n false size sgn rd rs1 rs2 imm res .clean) s =
      ok ((if s.poisoned t.loc (2 ^ size.val) then s.coreTrap n Cause.hardware 0 a
        else s.coreNext n rd (loadValue (2 ^ size.val) sgn (s.readNat t.loc (2 ^ size.val)))).coreDone n) := by
  rw [exec_load hrun hres ha, coreEcc_clean, coreLoad_here htarget hremote h htwins]

theorem exec_load_refused (hremote : t.remote = false) (h : st ≠ St.ok) (ecc : EccFind) :
    exec (.spireLoadStore n false size sgn rd rs1 rs2 imm res ecc) s =
      ok ((s.coreRefuse n a (2 ^ size.val) t st false (.core n rd (2 ^ size.val) sgn false)).coreDone n) := by
  rw [exec_load hrun hres ha, coreEcc_elsewhere htarget (.inr h), coreLoad_refused htarget hremote h]

theorem exec_load_remote (hremote : t.remote = true) (halign : a % 2 ^ size.val = 0)
    (hstall : s.stalls (spireEngine n) t = false) (ecc : EccFind) :
    exec (.spireLoadStore n false size sgn rd rs1 rs2 imm res ecc) s = ok (((s.coreWait n .remote).remoteLoad
      (spireEngine n) (2 ^ size.val) t 0 (.core n rd (2 ^ size.val) sgn false)).coreDone n) := by
  rw [exec_load hrun hres ha, coreEcc_elsewhere htarget (.inl hremote), coreLoad_remote htarget hremote halign hstall]

theorem exec_load_misaligned (hremote : t.remote = true) (halign : a % 2 ^ size.val ≠ 0) (ecc : EccFind) :
    exec (.spireLoadStore n false size sgn rd rs1 rs2 imm res ecc) s = ok ((s.coreTrap n Cause.loadMisaligned 0 a).coreDone n) := by
  rw [exec_load hrun hres ha, coreEcc_elsewhere htarget (.inl hremote), coreLoad_misaligned htarget hremote halign]

end Load

section Store

variable {cs : List (Byte × Bool)} (htarget : s.coreTarget a (2 ^ size.val) true = (t, st))
  (hcs : cs = (natLE (2 ^ size.val) ((s.sp n).xr rs2).toNat).map (fun b => (b, false)))
include htarget

include hcs in
theorem exec_store_here (hremote : t.remote = false) (h : st = St.ok) (hsealed : s.sealed = false) :
    exec (.spireLoadStore n true size sgn rd rs1 rs2 imm res .clean) s = ok ((s.writeCells t.loc cs).coreNext n 0 0) := by
  rw [exec_store hrun hres ha, coreEcc_clean, coreStore_here htarget hremote h hsealed, ← hcs,
    coreDone_coreNext (((homeWrite_writeCells s t.loc cs).coreRuns_eq n).trans hrun)]

theorem exec_store_refused {l : Nat} (ht : t = .here l) (h : st ≠ St.ok) (ecc : EccFind) :
    exec (.spireLoadStore n true size sgn rd rs1 rs2 imm res ecc) s =
      ok (((s.noteCtx l (2 ^ size.val)).coreTrap n Cause.store 0 a).coreDone n) := by
  rw [exec_store hrun hres ha, coreEcc_elsewhere htarget (.inr h), coreStore_refused htarget ht h]

include hcs in
theorem exec_store_remote (hremote : t.remote = true) (halign : a % 2 ^ size.val = 0)
    (hstall : s.stalls (spireEngine n) t = false) (htrap : s.weirTraps t = false) (ecc : EccFind) :
    exec (.spireLoadStore n true size sgn rd rs1 rs2 imm res ecc) s = ok (((s.coreNext n 0 0).remoteStore
      (spireEngine n) t 0 cs (.corePost n (s.sp n).entry)).coreDone n) := by
  rw [exec_store hrun hres ha, coreEcc_elsewhere htarget (.inl hremote), coreStore_remote htarget hremote halign hstall htrap, hcs]

theorem exec_store_misaligned (hremote : t.remote = true) (halign : a % 2 ^ size.val ≠ 0) (ecc : EccFind) :
    exec (.spireLoadStore n true size sgn rd rs1 rs2 imm res ecc) s = ok ((s.coreTrap n Cause.storeMisaligned 0 a).coreDone n) := by
  rw [exec_store hrun hres ha, coreEcc_elsewhere htarget (.inl hremote), coreStore_misaligned htarget hremote halign]

end Store

end LoadStore

/-! ## Store-conditional -/

theorem coreSc_held {s : State} {n : Nat} {t : Target} (rd size : Nat) (v : Word) (h : mfind s.resv n = some (t.loc / 64 * 64)) :
    s.coreSc n rd size v t = (({ s with resv := mdel s.resv n } : State).write t.loc (natLE size v.toNat)).coreNext n rd 0 :=
  if_pos (beq_iff_eq.2 h)

theorem coreSc_lost {s : State} {n : Nat} {t : Target} (rd size : Nat) (v : Word) (h : mfind s.resv n ≠ some (t.loc / 64 * 64)) :
    s.coreSc n rd size v t = ({ s with resv := mdel s.resv n } : State).coreNext n rd 1 :=
  if_neg (mt beq_iff_eq.1 h)

theorem coreRuns_coreSc (s : State) (n rd size : Nat) (v : Word) (t : Target) :
    (s.coreSc n rd size v t).coreRuns n = s.coreRuns n := by
  by_cases h : mfind s.resv n = some (t.loc / 64 * 64)
  · rw [coreSc_held rd size v h]
    exact (homeWrite_write { s with resv := mdel s.resv n } t.loc (natLE size v.toNat)).coreRuns_eq n
  · rw [coreSc_lost rd size v h]
    rfl

section Amo

variable {s : State} {n : Fin 288} {op : AmoOp} {wide : Bool} {rd rs1 rs2 : Fin 32} {res mres : Fin 3} {ecc : EccFind}
  {a size : Nat} {t : Target} {st : Nat} (hrun : s.coreRuns n = true) (hres : s.sealed = false ∨ res = 0)
include hrun hres

theorem exec_amo_exact (hprofile : s.profile ≠ 0) (hv : amoV op rd = true) :
    exec (.spireAmo n op wide rd rs1 rs2 res mres ecc) s = ok ((s.exactRefused n).coreDone n) := by
  have hrefused : (amoV op rd && s.refusesV) = true := by rw [hv, State.refusesV, bne_iff_ne.2 hprofile]; rfl
  rw [exec_spireAmo, execSpireAmo, onCore_does hrun, coreResidue_runs _ hres]
  simp only [hrefused, if_true]

omit hrun hres in
theorem amo_legal (h : s.profile = 0 ∨ amoV op rd = false) : (amoV op rd && s.refusesV) = false := by
  rcases h with h | h <;> simp [State.refusesV, h]

variable (hv : s.profile = 0 ∨ amoV op rd = false) (ha : a = ((s.sp n).xr rs1).toNat) (hsize : size = if wide then 8 else 4)
  (htarget : s.coreTarget a size (!(op == .lr)) = (t, st))
include hv ha hsize htarget

theorem exec_amo_misaligned (halign : a % size ≠ 0) : exec (.spireAmo n op wide rd rs1 rs2 res mres ecc) s =
    ok ((s.coreTrap n (if !t.remote && (isControl t.loc || isCommandPort t.loc) then
      (if op = .lr then Cause.load else Cause.store)
      else if op = .lr then Cause.loadMisaligned else Cause.storeMisaligned) 0 a).coreDone n) := by
  rw [exec_spireAmo, execSpireAmo, onCore_does hrun, coreResidue_runs _ hres]
  simp only [← ha, ← hsize, amo_legal hv, htarget, bne_iff_ne, halign, beq_iff_eq, ne_eq, not_false_eq_true, Bool.false_eq_true,
    if_false, if_true]

theorem exec_amo_control (halign : a % size ≠ 0) (hremote : t.remote = false)
    (h : isControl t.loc = true ∨ isCommandPort t.loc = true) : exec (.spireAmo n op wide rd rs1 rs2 res mres ecc) s =
      ok ((s.coreTrap n (if op = .lr then Cause.load else Cause.store) 0 a).coreDone n) := by
  rw [exec_amo_misaligned hrun hres hv ha hsize htarget halign, if_pos]
  rw [hremote, Bool.not_false, Bool.true_and, Bool.or_eq_true]
  exact h

theorem exec_amo_memory_misaligned (halign : a % size ≠ 0)
    (h : t.remote = true ∨ isControl t.loc = false ∧ isCommandPort t.loc = false) :
    exec (.spireAmo n op wide rd rs1 rs2 res mres ecc) s =
      ok ((s.coreTrap n (if op = .lr then Cause.loadMisaligned else Cause.storeMisaligned) 0 a).coreDone n) := by
  rw [exec_amo_misaligned hrun hres hv ha hsize htarget halign, if_neg]
  rcases h with h | ⟨hcontrol, hport⟩
  · simp [h]
  · simp [hcontrol, hport]

section Aligned

variable (halign : a % size = 0)
include halign

/-- No reservation crosses the fabric. -/
theorem exec_amo_remote_reservation (hremote : t.remote = true) (hop : op = .lr ∨ op = .sc) :
    exec (.spireAmo n op wide rd rs1 rs2 res mres ecc) s =
      ok ((s.coreTrap n (if op = .lr then Cause.load else Cause.store) 0 a).coreDone n) := by
  rw [exec_spireAmo, execSpireAmo, onCore_does hrun, coreResidue_runs _ hres]
  simp only [← ha, ← hsize, amo_legal hv, htarget, halign, bne_self_eq_false, Bool.false_eq_true, if_false]
  rcases hop with hop | hop <;> simp [hremote, hop]

theorem exec_amo_remote_fetch (hremote : t.remote = true) (hlr : op ≠ .lr) (hsc : op ≠ .sc) (hrd : rd ≠ 0)
    (hstall : s.stalls (spireEngine n) t = false) : exec (.spireAmo n op wide rd rs1 rs2 res mres ecc) s =
      ok (((s.coreWait n .remote).remoteMop (spireEngine n) t (mopCode (amoMop op) (b2n wide) true false)
        (natLE size ((s.sp n).xr rs2).toNat) (.core n rd size true true)).coreDone n) := by
  rw [exec_spireAmo, execSpireAmo, onCore_does hrun, coreResidue_runs _ hres]
  have hfetch : (rd.val != 0) = true := bne_iff_ne.2 (Fin.val_ne_of_ne hrd)
  simp only [← ha, ← hsize, amo_legal hv, htarget, halign, bne_self_eq_false, Bool.false_eq_true, if_false]
  simp [hremote, hlr, hsc, hrd, hstall, hfetch]

theorem exec_amo_swapStore (hop : op = .swap) (hrd : rd = 0) (hecc : ecc = .clean) :
    exec (.spireAmo n op wide rd rs1 rs2 res mres ecc) s = ok ((s.coreStore n a size ((s.sp n).xr rs2)).coreDone n) := by
  rw [exec_spireAmo, execSpireAmo, onCore_does hrun, coreResidue_runs _ hres]
  simp only [← ha, ← hsize, amo_legal hv, htarget, halign, bne_self_eq_false, Bool.false_eq_true, if_false]
  simp [hop, hrd, hecc, coreEcc_clean]

section Here

variable (hremote : t.remote = false) (hst : st = St.ok) (hecc : ecc = .clean)
include hremote hst hecc

theorem exec_amo_here (hlr : op ≠ .lr) (hsc : op ≠ .sc) (hswap : ¬(op = .swap ∧ rd = 0))
    (hpair : s.sealed = false ∨ isScratch t.loc = true) : exec (.spireAmo n op wide rd rs1 rs2 res mres ecc) s =
      ok ((s.coreMop n rd a size (mopCode (amoMop op) (b2n wide) (rd.val != 0) false) ((s.sp n).xr rs2).toNat t
        (if mres.val = 1 then 1 else 0) (if mres.val = 2 then [0] else [])).coreDone n) := by
  have hstore : (op == .swap && rd.val == 0) = false := by
    rw [← Bool.not_eq_true, Bool.and_eq_true, beq_iff_eq, beq_iff_eq, Fin.val_eq_zero_iff]
    exact hswap
  have halone : (s.sealed && !isScratch t.loc) = false := by rcases hpair with h | h <;> simp [h]
  rw [exec_spireAmo, execSpireAmo, onCore_does hrun, coreResidue_runs _ hres]
  simp only [← ha, ← hsize, amo_legal hv, htarget, halign, bne_self_eq_false, Bool.false_eq_true, if_false]
  simp only [hremote, hstore, stalls_here _ hremote, hst, hecc, coreEcc_clean, halone, Bool.false_and, bne_self_eq_false,
    Bool.false_eq_true, if_false]

theorem exec_amo_lr (hop : op = .lr) : exec (.spireAmo n op wide rd rs1 rs2 res mres ecc) s =
    ok ((s.coreLr n rd a size t).coreDone n) := by
  rw [exec_spireAmo, execSpireAmo, onCore_does hrun, coreResidue_runs _ hres]
  simp only [← ha, ← hsize, amo_legal hv, htarget, halign, bne_self_eq_false, Bool.false_eq_true, if_false]
  simp [hop, hremote, stalls_here, hst, hecc, coreEcc_clean]

theorem exec_amo_sc (hop : op = .sc) : exec (.spireAmo n op wide rd rs1 rs2 res mres ecc) s =
    ok (s.coreSc n rd size ((s.sp n).xr rs2) t) := by
  have hdone : (s.coreSc n rd size ((s.sp n).xr rs2) t).coreRuns n = true := (coreRuns_coreSc ..).trans hrun
  rw [exec_spireAmo, execSpireAmo, onCore_does hrun, coreResidue_runs _ hres]
  simp only [← ha, ← hsize, amo_legal hv, htarget, halign, bne_self_eq_false, Bool.false_eq_true, if_false]
  simp [hop, hremote, stalls_here, hst, hecc, coreEcc_clean, coreDone_of_runs hdone]

end Here

end Aligned

end Amo

/-! ## Residues of the Sealed profile (R422) -/

theorem writesOnly_residue {l : List Nat} (s : State) {event : Field} (retries fails : Nat) (hcounts : R.NODE_CHECK_COUNTS ∈ l)
    (hevent : event.addr ∈ l) : WritesOnly l s (s.residue event retries fails) := by
  have hretried : WritesOnly l s (if retries = 0 then s else s.inc F.NODE_CHECK_COUNTS_RETRIES retries) := by
    split
    · exact .refl l s
    · exact writesOnly_wr s _ hcounts
  by_cases hfails : fails = 0
  · simp only [State.residue, hfails, if_true]
    exact hretried
  · simp only [State.residue, hfails, if_false]
    exact hretried.trans ((writesOnly_wr (f := F.NODE_CHECK_COUNTS_FAILS) _ _ hcounts).wr 1 hevent)

theorem coreRuns_residue (s : State) (n retries fails : Nat) :
    (s.residue F.NODE_CHECK_EVENTS_CORE_RESIDUE retries fails).coreRuns n = s.coreRuns n := by
  have hbelow : ∀ a ∈ [R.NODE_CHECK_COUNTS, R.NODE_CHECK_EVENTS], a < spireBlock 0 := by decide
  refine congrArg (· == 1) ((writesOnly_residue (l := [R.NODE_CHECK_COUNTS, R.NODE_CHECK_EVENTS]) s retries fails
    List.mem_cons_self (List.mem_cons_of_mem _ List.mem_cons_self)).rd_eq (f := F.SPIRE_STATUS_CORE n) ?_)
  exact fun h => (lt_spireReg n 8 (hbelow _ h)).false

section Residue

variable {s : State} {n : Nat} {res : Fin 3} (run : State → State) (hsealed : s.sealed = true)
include hsealed

theorem coreResidue_fails (h : res = 2) : s.coreResidue n res run =
    (s.residue F.NODE_CHECK_EVENTS_CORE_RESIDUE 0 1).coreTrap n Cause.hardware 0 (s.free 0 (2 ^ 64)) := by
  subst h
  rw [State.coreResidue, hsealed]
  rfl

theorem coreResidue_matches (h : res = 1) : s.coreResidue n res run = run (s.residue F.NODE_CHECK_EVENTS_CORE_RESIDUE 1 0) := by
  subst h
  rw [State.coreResidue, hsealed]
  rfl

end Residue

/-- Settles O24. A load, a store and an atomic by where the access goes; a store-conditional by the core's reservation; a residue by
what the recompute gives. -/
theorem spireMemoryInstructions : Obligations.SpireMemoryInstructions := by
  refine ⟨fun n size sgn rd rs1 rs2 imm res s a t st hrun hres ha ht => ⟨exec_load_here hrun hres ha ht,
      exec_load_refused hrun hres ha ht, exec_load_remote hrun hres ha ht, exec_load_misaligned hrun hres ha ht⟩,
    fun n size sgn rd rs1 rs2 imm res s a t st cs hrun hres ha ht hcs => ⟨exec_store_here hrun hres ha ht hcs,
      fun l => exec_store_refused hrun hres ha ht, exec_store_remote hrun hres ha ht hcs, exec_store_misaligned hrun hres ha ht,
      fun hremote halign hstall store => exec_loadStore_stalls hrun hres ha store (congrArg Prod.fst ht) hremote halign hstall⟩,
    fun s n a l size st w => rfl,
    fun n op wide rd rs1 rs2 res mres ecc s a size t st hrun hres hv ha hsize ht => ⟨exec_amo_control hrun hres hv ha hsize ht,
      exec_amo_memory_misaligned hrun hres hv ha hsize ht, exec_amo_remote_reservation hrun hres hv ha hsize ht,
      exec_amo_remote_fetch hrun hres hv ha hsize ht,
      fun halign hremote hst hlr hsc hswap hpair hecc =>
        exec_amo_here hrun hres hv ha hsize ht halign hremote hst hecc hlr hsc hswap hpair,
      exec_amo_swapStore hrun hres hv ha hsize ht,
      fun halign hremote hst hop hecc => exec_amo_lr hrun hres hv ha hsize ht halign hremote hst hecc hop,
      fun halign hremote hst hop hecc => exec_amo_sc hrun hres hv ha hsize ht halign hremote hst hecc hop⟩,
    fun s n rd size v t => coreSc_held rd size v, fun s n rd size v t => coreSc_lost rd size v,
    fun n op wide rd rs1 rs2 res mres ecc s hrun hprofile hres => exec_amo_exact hrun hres hprofile,
    fun n store wide sgn size op rd rs1 rs2 imm mres ecc s u hrun hsealed hu => ?_⟩
  have hrun' := (coreRuns_residue s n 1 0).trans hrun
  refine ⟨?_, ?_, ?_, ?_⟩
  · rw [exec_spireLoadStore, execSpireLoadStore, onCore_does hrun, coreResidue_fails _ hsealed rfl, hu]
  · rw [exec_spireAmo, execSpireAmo, onCore_does hrun, coreResidue_fails _ hsealed rfl, hu]
  · rw [exec_spireLoadStore, execSpireLoadStore, onCore_does hrun, coreResidue_matches _ hsealed rfl, exec_spireLoadStore,
      execSpireLoadStore, onCore_does hrun', coreResidue_runs _ (.inr rfl)]
  · rw [exec_spireAmo, execSpireAmo, onCore_does hrun, coreResidue_matches _ hsealed rfl, exec_spireAmo, execSpireAmo,
      onCore_does hrun', coreResidue_runs _ (.inr rfl)]

end Sys2Proof.Machine
end

section
/-! Contexts and the completion of tensor descriptors (R113, R142–R144). -/

namespace Sys2Proof.Machine

open Sys2Proof

section Rows

variable {n : Fin 288} {s u : State} {run : DescRun}

theorem exec_ctxSeal (ecc : EccFinds) : exec (.ctxSeal n ecc) s = execCtxSeal n ecc s := rfl
theorem exec_ctxDrop : exec (.ctxDrop n) s = execCtxDrop n s := rfl
theorem exec_tensorDescriptorComplete (cycles : Nat) :
    exec (.tensorDescriptorComplete n cycles) s = execTensorDescriptorComplete n cycles s := rfl

variable (htens : (s.sp n).tens = some run)
include htens

/-! ## Sealing (R142, R143) -/

section Seal

variable {ecc : EccFinds} (hworked : run.worked = false) (hop : tnOp run.desc = 5) (hu : u = s.eccAll ecc)
include hworked hop hu

/-- A context holding poison is refused, whatever its CRC. -/
theorem exec_ctxSeal_poisoned (h : u.poisoned (scratchAddr n (tnOff run.desc 3)) (fld run.desc 88 4) = true) :
    exec (.ctxSeal n ecc) s = ok ((u.ev (F.TENS_EVENTS_SEAL_FAIL n)).tensorWorked n St.poisonConsumed) := by
  rw [exec_ctxSeal]
  simp [execCtxSeal, htens, hworked, hop, ← hu, h]

variable (hclean : u.poisoned (scratchAddr n (tnOff run.desc 3)) (fld run.desc 88 4) = false)
include hclean

theorem exec_ctxSeal_mismatch
    (h : crc64 (u.readBytes (scratchAddr n (tnOff run.desc 3)) (fld run.desc 88 4)) ≠ fld run.desc 80 8) :
    exec (.ctxSeal n ecc) s = ok ((u.ev (F.TENS_EVENTS_SEAL_FAIL n)).tensorWorked n St.digestMismatch) := by
  rw [exec_ctxSeal]
  simp [execCtxSeal, htens, hworked, hop, ← hu, hclean, h]

theorem exec_ctxSeal_seals
    (h : crc64 (u.readBytes (scratchAddr n (tnOff run.desc 3)) (fld run.desc 88 4)) = fld run.desc 80 8) :
    exec (.ctxSeal n ecc) s = ok ((((((u.wr (F.TENS_CTX_BASE n (tnCtx run.desc)) (tnOff run.desc 3)).wr
      (F.TENS_CTX_LENGTH n (tnCtx run.desc)) (fld run.desc 88 4)).wr (F.TENS_CTX_SEALED n (tnCtx run.desc)) 1).wr
      (F.TENS_CTX_CRC_CRC n (tnCtx run.desc)) (fld run.desc 80 8)).showSealed n).tensorWorked n St.ok) := by
  rw [exec_ctxSeal]
  simp [execCtxSeal, htens, hworked, hop, ← hu, hclean, h]

end Seal

/-! ## Completion (R113) -/

section Complete

variable (hworked : run.worked = true) (cycles : Nat)
include hworked

theorem exec_tensorDescriptorComplete_succeeds (h : isSuccess run.status = true) : exec (.tensorDescriptorComplete n cycles) s =
    ok ((((((s.setSp n { s.sp n with tens := none }).wr (F.TENS_STATUS_OP n) 0).incw (F.TENS_BUSY_VALUE n) cycles).countDesc
      n false run.owner run.status).retryIssue n).takeTensors n) := by
  rw [exec_tensorDescriptorComplete]
  simp only [execTensorDescriptorComplete, htens, hworked, h, Bool.not_true, Bool.false_eq_true, if_false, if_true]

theorem exec_tensorDescriptorComplete_fails (h : isSuccess run.status = false) : exec (.tensorDescriptorComplete n cycles) s =
    ok (((((((s.setSp n { s.sp n with tens := none }).wr (F.TENS_STATUS_OP n) 0).incw (F.TENS_BUSY_VALUE n)
      cycles).countDesc n false run.owner run.status).discardQueue n false run.status).retryIssue n).takeTensors n) := by
  rw [exec_tensorDescriptorComplete]
  simp only [execTensorDescriptorComplete, htens, hworked, h, Bool.not_true, Bool.false_eq_true, if_false]

end Complete

/-! ## Dropping (R144) -/

theorem tensorWorked_eq (status : Nat) : s.tensorWorked n status =
    s.setSp n { s.sp n with tens := some { run with worked := true, status := status } } := by
  simp only [State.tensorWorked, htens]

theorem exec_ctxDrop_drops (hworked : run.worked = false) (hop : tnOp run.desc = 6) :
    exec (.ctxDrop n) s = ok ((s.dropCtx n (tnCtx run.desc)).tensorWorked n St.ok) := by
  rw [exec_ctxDrop]
  simp [execCtxDrop, htens, hworked, hop]

end Rows

theorem RegsFrame.keepsMem {s t : State} (h : RegsFrame s t) : s.keepsMem t := by
  unfold RegsFrame at h
  rw [h]
  exact ⟨rfl, rfl, rfl⟩

theorem RegsFrame.sp_eq {s t : State} (h : RegsFrame s t) (n : Nat) : t.sp n = s.sp n := by
  unfold RegsFrame at h
  rw [h]
  rfl

theorem rdReg_setSp (s : State) (n : Nat) (x : Spire) (a : Nat) : (s.setSp n x).rdReg a = s.rdReg a := rfl

theorem keepsMem_setSp {s t : State} (n : Nat) (x : Spire) (h : s.keepsMem t) : s.keepsMem (t.setSp n x) := h

/-- A dropped context's registers are cleared, and the mask of sealed contexts is shown again. -/
theorem writesOnly_dropCtx (s : State) (n c : Nat) :
    WritesOnly [R.TENS_CTX n c, R.TENS_CTX_CRC n c, R.TENS_STATUS n] s (s.dropCtx n c) := by
  rw [State.dropCtx, State.showSealed]
  refine WritesOnly.wr (f := F.TENS_STATUS_SEALED n) ?_ _ (List.mem_cons_of_mem _ (List.mem_cons_of_mem _ List.mem_cons_self))
  exact (writesOnly_wrReg s 0 (by simp)).trans (writesOnly_wrReg _ 0 (by simp))

theorem tensCtx_apart (n c : Nat) : R.TENS_CTX n c ≠ R.TENS_CTX_CRC n c ∧ R.TENS_CTX n c ≠ R.TENS_STATUS n := by
  simp only [R.TENS_CTX, R.TENS_CTX_CRC, R.TENS_STATUS]
  omega

theorem rd_dropCtx_sealed (s : State) (n c : Nat) : (s.dropCtx n c).rd (F.TENS_CTX_SEALED n c) = 0 := by
  obtain ⟨hcrc, hstatus⟩ := tensCtx_apart n c
  have haddr : (F.TENS_CTX_SEALED n c).addr = R.TENS_CTX n c := rfl
  rw [State.dropCtx, State.showSealed, State.rd, haddr, State.rdReg_wr_ne (f := F.TENS_STATUS_SEALED n) _ _ hstatus,
    State.rdReg_wrReg_ne _ _ hcrc, State.rdReg_wrReg_same]
  exact bits_zero _ _

theorem sp_dropCtx (s : State) (n c : Nat) : (s.dropCtx n c).sp n = s.sp n := (writesOnly_dropCtx s n c).regsFrame.sp_eq n

/-- The row's effect: the context is released, its bytes stay, and the descriptor is worked. -/
theorem ctxDrop_releases {n : Fin 288} {s : State} {run : DescRun} (htens : (s.sp n).tens = some run) (hworked : run.worked = false)
    (hop : tnOp run.desc = 6) : Does (.ctxDrop n) s (fun t => t.rd (F.TENS_CTX_SEALED n (tnCtx run.desc)) = 0 ∧ s.keepsMem t ∧
      (t.sp n).tens = some { run with worked := true, status := St.ok } ∧
      s.keepsRegs t [R.TENS_CTX n (tnCtx run.desc), R.TENS_CTX_CRC n (tnCtx run.desc), R.TENS_STATUS n]) := by
  have hdrop := writesOnly_dropCtx s n (tnCtx run.desc)
  have htens' : ((s.dropCtx n (tnCtx run.desc)).sp n).tens = some run := by rw [sp_dropCtx, htens]
  have hcount : (F.TENS_CTX_SEALED n (tnCtx run.desc)).addr ∉ countRegs := by
    show R.TENS_CTX n _ ∉ _
    rw [R.TENS_CTX, Nat.add_assoc]
    exact spireReg_not_count _ _
  refine does_of_ok (exec_ctxDrop_drops htens hworked hop) fun t ht => ?_
  rw [tensorWorked_eq htens'] at ht
  refine ⟨?_, ?_, ?_, ?_⟩
  · rw [rd_of_ok ht hcount, rd_setSp, rd_dropCtx_sealed]
  · exact keepsMem_of_ok ht (keepsMem_setSp n _ hdrop.regsFrame.keepsMem)
  · rw [sp_of_ok ht, State.sp_setSp_same]
  · exact keepsRegs_of_ok ht fun a ha => (rdReg_setSp _ n _ a).trans (hdrop.rdReg_eq a ha)

/-- Settles O30. A seal by poison, then by the CRC; a completion by the descriptor's status. -/
theorem contextsAndTensorCompletion : Obligations.ContextsAndTensorCompletion :=
  ⟨fun _ _ _ _ _ htens hworked hop hu => ⟨exec_ctxSeal_poisoned htens hworked hop hu, exec_ctxSeal_mismatch htens hworked hop hu,
      exec_ctxSeal_seals htens hworked hop hu⟩,
    fun _ _ _ htens hworked hop => ctxDrop_releases htens hworked hop,
    fun _ cycles _ _ htens hworked => exec_tensorDescriptorComplete_succeeds htens hworked cycles,
    fun _ cycles _ _ htens hworked => exec_tensorDescriptorComplete_fails htens hworked cycles⟩

end Sys2Proof.Machine
end

section
/-! Data-mover descriptors (R110, R113, R118–R122): a command runs the descriptor of its kind, and a worked one completes. -/

namespace Sys2Proof.Machine

open Sys2Proof

/-! ## What the ECC finds leaves the profile -/

theorem sealed_wrReg (s : State) {a : Nat} (v : Nat) (h : R.NODE_PROFILE ≠ a) : (s.wrReg a v).sealed = s.sealed :=
  congrArg (· == 2) (State.rd_wrReg_ne (f := F.NODE_PROFILE_ACTIVE) s v h)

theorem sealed_wr_spireReg (s : State) {f : Field} (v : Nat) {n off : Nat} (h : f.addr = spireBlock n + off) :
    (s.wr f v).sealed = s.sealed := sealed_wr s v (h ▸ (ne_spireReg n off (by decide)).symm)

theorem sealed_setPoison (s : State) (ws : List Nat) : (s.setPoison ws).sealed = s.sealed :=
  (homeWrite_setPoison s ws).sealed_eq

theorem sealed_eccCount (s : State) (bad : Bool) : (s.eccCount bad).sealed = s.sealed := by
  unfold State.eccCount
  split <;> rw [State.ev, sealed_wr _ _ (by decide), State.inc, sealed_wr _ _ (by decide)]

theorem sealed_memError (s : State) (line die : Nat) (bad : Bool) : (s.memError line die bad).sealed = s.sealed := by
  rw [State.memError, sealed_wrReg _ _ (by decide), sealed_wrReg _ _ (by decide)]

theorem sealed_eccNote (s : State) (line : Nat) (bad : Bool) : (s.eccNote line bad).sealed = s.sealed := rfl

theorem sealed_scratchError (s : State) (a : Nat) (bad : Bool) : (s.scratchError a bad).sealed = s.sealed := by
  simp only [State.scratchError]
  split
  · rw [sealed_setPoison, State.ev, sealed_wr_spireReg _ _ rfl, State.inc, sealed_wr_spireReg _ _ rfl, sealed_wr_spireReg _ _ rfl]
  · rw [State.ev, sealed_wr_spireReg _ _ rfl, State.inc, sealed_wr_spireReg _ _ rfl, sealed_wr_spireReg _ _ rfl]

theorem sealed_eccFound (s : State) (a n : Nat) (f : EccFind) : (s.eccFound a n f).sealed = s.sealed := by
  cases f with
  | clean => rfl
  | tier bad last die =>
    have h (line : Nat) : (((s.eccCount bad).memError line die bad).eccNote line bad).sealed = s.sealed := by
      rw [sealed_eccNote, sealed_memError, sealed_eccCount]
    simp only [State.eccFound]
    split
    · rfl
    · split
      · rw [sealed_setPoison, h]
      · exact h _
  | sram bad last dome =>
    have h (v w : Nat) : (((s.eccCount bad).wrReg R.MEM_ECC_LAST_ADDR v).wrReg R.MEM_ECC_LAST_INFO w).sealed = s.sealed := by
      rw [sealed_wrReg _ _ (by decide), sealed_wrReg _ _ (by decide), sealed_eccCount]
    simp only [State.eccFound]
    split
    · exact sealed_scratchError _ _ _
    · split
      · rw [sealed_setPoison, h]
      · exact h _ _

theorem sealed_eccAll (ecc : EccFinds) : ∀ s : State, (s.eccAll ecc).sealed = s.sealed := by
  induction ecc with
  | nil => exact fun _ => rfl
  | cons e ecc ih => exact fun s => (ih (s.eccFound e.1 1 e.2)).trans (sealed_eccFound s _ _ _)

/-! ## A command runs the descriptor of its kind -/

theorem setWalk_eq {s : State} {n : Nat} {r : DescRun} (h : (s.sp n).mover = some r) (f : MvWalk → MvWalk) :
    s.setWalk n f = s.setSp n { s.sp n with mover := some { r with walk := f r.walk } } := by
  simp only [State.setWalk, h]

theorem setWalk_idle {s : State} {n : Nat} (h : (s.sp n).mover = none) (f : MvWalk → MvWalk) : s.setWalk n f = s := by
  simp only [State.setWalk, h]

theorem sealed_setWalk (s : State) (n : Nat) (f : MvWalk → MvWalk) : (s.setWalk n f).sealed = s.sealed := by
  cases h : (s.sp n).mover with
  | none => rw [setWalk_idle h]
  | some r => rw [setWalk_eq h]; rfl

section Rows

variable {s : State} {n : Fin 288} (retries : Nat) (stop : Option Nat) (ecc : EccFinds)

theorem exec_copy : exec (.copy n retries stop ecc) s = ok (s.runMover n 0 retries stop ecc) := rfl
theorem exec_fill : exec (.fill n retries stop) s = ok (s.runMover n 3 retries stop []) := rfl
theorem exec_gather : exec (.gather n retries stop ecc) s = ok (s.runMover n 1 retries stop ecc) := rfl
theorem exec_scatter : exec (.scatter n retries stop ecc) s = ok (s.runMover n 2 retries stop ecc) := rfl
theorem exec_moverDescriptorComplete : exec (.moverDescriptorComplete n) s = execMoverDescriptorComplete n s := rfl

end Rows

section Run

variable {s : State} {n op : Nat} {r : DescRun} (retries : Nat) (stop : Option Nat) (ecc : EccFinds)

theorem runMover_idle (h : (s.sp n).mover = none) : s.runMover n op retries stop ecc = s := by
  simp only [State.runMover, h]

section Held

variable (hmover : (s.sp n).mover = some r)
include hmover

theorem runMover_other (h : r.worked = true ∨ mvOp r.desc ≠ op) : s.runMover n op retries stop ecc = s := by
  simp only [State.runMover, hmover]
  exact if_pos (by simpa using h)

variable (hworked : r.worked = false)
include hworked

theorem runMover_goesOn (hstarted : r.walk.started = true) (hop : mvOp r.desc = op) :
    s.runMover n op retries stop ecc = (s.eccAll ecc).mvGo n := by
  simp [State.runMover, hmover, hworked, hstarted, hop]

/-- The first command of its kind starts the run, with what the residues of the Sealed profile found (R422). -/
theorem runMover_starts (hstarted : r.walk.started = false) (hop : mvOp r.desc = op) {u : State}
    (hu : u = (s.eccAll ecc).setWalk n (fun w => { w with started := true, bad := if s.sealed then stop else none })) :
    s.runMover n op retries stop ecc =
      (if s.sealed then u.residue F.NODE_CHECK_EVENTS_MOVER_RESIDUE retries 0 else u).mvGo n := by
  subst hu
  simp [State.runMover, hmover, hworked, hstarted, hop, sealed_setWalk, sealed_eccAll]

end Held

end Run

/-! ## Completion (R112, R113) -/

section Complete

variable {s : State} {n : Fin 288} {r : DescRun}

theorem exec_moverComplete_idle (h : (s.sp n).mover = none) : exec (.moverDescriptorComplete n) s = ok s := by
  rw [exec_moverDescriptorComplete]
  simp only [execMoverDescriptorComplete, h]

variable (hmover : (s.sp n).mover = some r)
include hmover

theorem exec_moverComplete_waits (h : r.worked = false ∨ s.unitOut n false = true) :
    exec (.moverDescriptorComplete n) s = ok s := by
  rw [exec_moverDescriptorComplete]
  simp only [execMoverDescriptorComplete, hmover]
  exact if_pos (by simpa using h)

variable (hworked : r.worked = true) (hout : s.unitOut n false = false)
include hworked hout

theorem exec_moverComplete_succeeds (h : isSuccess r.outcome = true) : exec (.moverDescriptorComplete n) s =
    ok ((((s.setSp n { s.sp n with mover := none }).countDesc n true r.owner r.outcome).retryIssue n).takeMovers n) := by
  rw [exec_moverDescriptorComplete]
  simp only [execMoverDescriptorComplete, hmover, hworked, hout, h, Bool.not_true, Bool.or_self, Bool.false_eq_true, if_false,
    if_true]

theorem exec_moverComplete_fails (h : isSuccess r.outcome = false) : exec (.moverDescriptorComplete n) s =
    ok (((((s.setSp n { s.sp n with mover := none }).countDesc n true r.owner r.outcome).discardQueue n true
      r.outcome).retryIssue n).takeMovers n) := by
  rw [exec_moverDescriptorComplete]
  simp only [execMoverDescriptorComplete, hmover, hworked, hout, h, Bool.not_true, Bool.or_self, Bool.false_eq_true, if_false]

end Complete

/-- Settles O26. A command by whether the mover holds a descriptor of its kind and whether the run has started; a completion by
whether the descriptor is worked, its writes are performed and it succeeded. -/
theorem moverDescriptorsRunAndComplete : Obligations.MoverDescriptorsRunAndComplete := by
  refine ⟨fun n retries stop ecc s u r hmover hworked hstarted hu => ?_, fun n retries stop ecc s r hmover hworked hstarted => ?_,
    fun n retries stop ecc s hidle => ?_, fun n retries stop ecc s r hmover => ?_, fun n s r hmover hworked hout =>
    ⟨exec_moverComplete_succeeds hmover hworked hout, exec_moverComplete_fails hmover hworked hout⟩⟩
  · have hstarts := fun op (hop : mvOp r.desc = op) => runMover_starts retries stop ecc hmover hworked hstarted hop hu
    refine ⟨fun hop => ?_, fun hop hecc => ?_, fun hop => ?_, fun hop => ?_⟩
    · rw [exec_copy, hstarts 0 hop]
    · rw [exec_fill, ← hecc, hstarts 3 hop]
    · rw [exec_gather, hstarts 1 hop]
    · rw [exec_scatter, hstarts 2 hop]
  · have hgoes := fun op ecc (hop : mvOp r.desc = op) => runMover_goesOn retries stop ecc hmover hworked hstarted hop
    refine ⟨fun hop => ?_, fun hop => ?_, fun hop => ?_, fun hop => ?_⟩
    · rw [exec_copy, hgoes 0 ecc hop]
    · rw [exec_fill, hgoes 3 [] hop]
      rfl
    · rw [exec_gather, hgoes 1 ecc hop]
    · rw [exec_scatter, hgoes 2 ecc hop]
  · rw [exec_copy, exec_fill, exec_gather, exec_scatter]
    simp only [runMover_idle retries stop _ hidle, exec_moverComplete_idle hidle, and_self]
  · refine ⟨fun h => ?_, fun h => ?_, fun h => ?_, fun h => ?_, exec_moverComplete_waits hmover⟩
    · rw [exec_copy, runMover_other retries stop ecc hmover h]
    · rw [exec_fill, runMover_other retries stop [] hmover h]
    · rw [exec_gather, runMover_other retries stop ecc hmover h]
    · rw [exec_scatter, runMover_other retries stop ecc hmover h]

end Sys2Proof.Machine
end

section
/-! The pieces of a mover's run (R119–R122, R143): where a row's or element's bytes come from and go decides what a piece does. -/

namespace Sys2Proof.Machine

open Sys2Proof

/-! ## A piece of the run -/

section Step

variable {s : State} {n lim : Nat} {r : DescRun} (hmover : (s.sp n).mover = some r) (hworked : r.worked = false)
  (hstarted : r.walk.started = true)
include hmover

theorem mvWhole_eq : s.mvWhole n = mvLen r.desc := by simp only [State.mvWhole, hmover]

theorem mvFuel_eq : s.mvFuel n = 3 * (mvItems r.desc * mvLen r.desc) + 3 := by simp only [State.mvFuel, hmover]

/-- The fuel of a run is enough for a step of each row or element and one more. -/
theorem mvItems_lt_mvFuel (hlen : 0 < mvLen r.desc) : mvItems r.desc < s.mvFuel n := by
  have hitems : mvItems r.desc ≤ mvItems r.desc * mvLen r.desc := Nat.le_mul_of_pos_right _ hlen
  rw [mvFuel_eq hmover]
  omega

include hworked hstarted

theorem mvStep_ends (h : mvItems r.desc ≤ r.walk.row) : s.mvStep n lim = some (s.moverWorked n St.ok) := by
  simp [State.mvStep, hmover, hworked, hstarted, h]

theorem mvStep_begins (hacc : r.walk.acc = .none) (h : r.walk.row < mvItems r.desc) :
    s.mvStep n lim = s.mvBegin n r.desc r.walk lim := by
  simp [State.mvStep, hmover, hworked, hstarted, hacc, not_le.2 h]

end Step

/-! ## A piece begins -/

section Begin

variable {s : State} {n lim : Nat} {d : Bytes} {w : MvWalk}

/-- The index word of a row or element, if it has one, can be read: no twin holds it and it carries no poison. -/
def State.indexReads (s : State) (n : Nat) (d : Bytes) (k : Nat) : Prop :=
  (!mvRowOp d && s.twinHeld (n / 18) (mvIdxWord d k) 4) = false ∧ (!mvRowOp d && s.poisoned (mvIdxWord d k) 4) = false

theorem indexReads_of_clean {k : Nat} (htwins : s.check.twins = [])
    (h : mvRowOp d = false → s.poisoned (mvIdxWord d k) 4 = false) : s.indexReads n d k := by
  refine ⟨by rw [twinHeld_nil htwins, Bool.and_false], ?_⟩
  cases hrow : mvRowOp d with
  | true => rfl
  | false => exact h hrow

theorem mvBegin_poisoned (htwins : s.check.twins = []) (hrow : mvRowOp d = false) (h : s.poisoned (mvIdxWord d w.row) 4 = true) :
    s.mvBegin n d w lim = some (s.mvStop n St.poisonConsumed w.row (mvIdxWord d w.row)) := by
  simp [State.mvBegin, hrow, twinHeld_nil htwins, h]

variable (hindex : s.indexReads n d w.row)
include hindex

theorem mvBegin_residue (hbad : w.bad = some w.row) (hoff : w.off = 0) : s.mvBegin n d w lim =
    some ((s.residue F.NODE_CHECK_EVENTS_MOVER_RESIDUE 0 1).mvStop n St.residueMismatch w.row
      (s.mvIssued d (mvRowOp d || mvOp d == 2) w.row)) := by
  obtain ⟨htwin, hclean⟩ := hindex
  simp [State.mvBegin, htwin, hclean, hbad, hoff]

variable (hgood : w.bad ≠ some w.row ∨ w.off ≠ 0)
include hgood

omit hindex in
theorem residueStops_eq_false : (w.bad == some w.row && w.off == 0) = false := by
  rcases hgood with h | h <;> simp [h]

theorem mvBegin_fill (hop : mvOp d = 3) : s.mvBegin n d w lim =
    s.mvWrite n d w none (mvPattern d w.off (s.mvPiece d none (s.mvAddr d true w.row) w.off lim)) 0 := by
  obtain ⟨htwin, hclean⟩ := hindex
  simp [State.mvBegin, htwin, hclean, residueStops_eq_false hgood, hop]

theorem mvBegin_noAddress (hop : mvOp d ≠ 3) (haddr : s.mvAddr d false w.row = none) : s.mvBegin n d w lim =
    some (s.mvStop n St.spireFault w.row (s.mvIssued d false w.row)) := by
  obtain ⟨htwin, hclean⟩ := hindex
  simp [State.mvBegin, htwin, hclean, residueStops_eq_false hgood, hop, haddr]

theorem mvBegin_reads {a : Nat} (hop : mvOp d ≠ 3) (haddr : s.mvAddr d false w.row = some a) : s.mvBegin n d w lim =
    s.mvRead n d w a (s.mvPiece d (some a) (s.mvAddr d true w.row) w.off lim) := by
  obtain ⟨htwin, hclean⟩ := hindex
  simp [State.mvBegin, htwin, hclean, residueStops_eq_false hgood, hop, haddr]

end Begin

/-! ## Reading -/

section Read

variable {s : State} {n a p : Nat} {d : Bytes} {w : MvWalk} {t : Target} {st : Nat}
  (htarget : s.coreTarget (a + w.off) p false = (t, st))
include htarget

theorem mvRead_refused (hremote : t.remote = false) (h : st ≠ St.ok) :
    s.mvRead n d w a p = some ((s.noteRefusal t p st false).mvStop n St.spireFault w.row a) := by
  simp [State.mvRead, htarget, hremote, h]

theorem mvRead_stalls (hremote : t.remote = true) (h : s.stalls (spireEngine n) t = true) : s.mvRead n d w a p = none := by
  simp [State.mvRead, htarget, hremote, h]

theorem mvRead_remote (hremote : t.remote = true) (h : s.stalls (spireEngine n) t = false) : s.mvRead n d w a p =
    some ((s.setWalk n (fun _ => { w with acc := .out })).remoteLoad (spireEngine n) p t (mvSrcHint d) (.unit n false)) := by
  simp [State.mvRead, htarget, hremote, h]

theorem mvRead_here (hremote : t.remote = false) (h : st = St.ok) (htwins : s.check.twins = []) :
    s.mvRead n d w a p = s.mvWrite n d w (some a) (s.readCells t.loc p) 0 := by
  simp [State.mvRead, htarget, hremote, h, twinHeld_nil htwins]

end Read

/-! ## Writing -/

section Write

variable {s : State} {n b : Nat} {d : Bytes} {w : MvWalk} {src : Option Nat} {cs : List (Byte × Bool)} {t : Target}

/-- The walk after the last bytes of a row or element. -/
def MvWalk.nextRow (w : MvWalk) : MvWalk := { w with writing := false, row := w.row + 1, off := 0 }

/-- The last bytes of a row or element of which none waits take the walk to the next. -/
theorem mvAdvance_row {p : Nat} (hacc : w.acc = .none) (hhint : mvSrcHint d ≠ 2) (hp : mvLen d ≤ w.off + p) :
    s.mvAdvance n d w src p 0 = s.setWalk n (fun _ => w.nextRow) := by
  have hdead : (if w.dead = 0 then 0 else w.dead) = w.dead := by split <;> simp_all
  have hkept : (match src.bind s.localOf with
      | some l => if mvSrcHint d == 2 then s.discard l (mvLen d) else s
      | none => s) = s := by
    split
    · exact if_neg (mt beq_iff_eq.1 hhint)
    · rfl
  simp only [State.mvAdvance, hdead, not_lt.2 hp, if_false, MvWalk.nextRow, hacc]
  exact congrArg (fun u : State => u.setWalk n _) hkept

theorem mvWrite_here (haddr : s.mvAddr d true w.row = some b) (htarget : s.coreTarget (b + w.off) cs.length true = (t, St.ok))
    (hremote : t.remote = false) (hsealed : s.sealed = false) :
    s.mvWrite n d w src cs 0 = some ((s.writeCells t.loc cs).mvAdvance n d w src cs.length 0) := by
  simp [State.mvWrite, haddr, htarget, hremote, State.unitWrite, hsealed]

end Write

/-! ## The bytes moved at once -/

section Piece

variable {s : State} {d : Bytes}

/-- Every address of an access that this node answers lies at this node. -/
theorem isNone_localOf {a m : Nat} {w : Bool} {t : Target} (htarget : s.coreTarget a m w = (t, St.ok))
    (hremote : t.remote = false) : (s.localOf a).isNone = false := by
  have ht : s.target a = t := congrArg Prod.fst htarget
  rw [State.localOf, ht]
  cases t with
  | here l => rfl
  | self l => rfl
  | pond node l => nomatch hremote
  | weir node l => nomatch hremote
  | bad =>
    rw [State.coreTarget, ht] at htarget
    nomatch htarget

/-- Of this node, a whole row or element is moved at once. -/
theorem mvPiece_here {src dst : Option Nat} (h : ∀ a ∈ [src, dst].filterMap id, (s.localOf a).isNone = false) :
    s.mvPiece d src dst 0 (mvLen d) = mvLen d := by
  have hfar : ([src, dst].filterMap id).filter (fun a => (s.localOf a).isNone) = [] :=
    List.filter_eq_nil_iff.2 fun a ha => ne_true_of_eq_false (h a ha)
  simp only [State.mvPiece, hfar, List.isEmpty_nil, if_true, Nat.sub_zero, min_self, ite_self]

/-- Of another node, an aligned 64, 8, 4, 2 or 1 bytes are (R248). -/
theorem mvPiece_remote (a off lim : Nat) (dst : Option Nat) (h : s.localOf a = none) :
    s.mvPiece d (some a) dst off lim ∈ [64, 8, 4, 2, 1] ∧ (a + off) % s.mvPiece d (some a) dst off lim = 0 := by
  have ha : a ∈ ([some a, dst].filterMap id).filter (fun a => (s.localOf a).isNone) := by simp [h]
  simp only [State.mvPiece]
  generalize hfar : ([some a, dst].filterMap id).filter (fun a => (s.localOf a).isNone) = far at ha
  rw [if_neg (by simpa using List.ne_nil_of_mem ha)]
  generalize hfind : [64, 8, 4, 2].find? _ = found
  cases found with
  | none => simp [Nat.mod_one]
  | some p =>
    have hp := List.find?_some hfind
    simp only [Bool.and_eq_true, List.all_eq_true, beq_iff_eq] at hp
    have hmem : p ∈ [64, 8, 4, 2] := List.mem_of_find?_eq_some hfind
    exact ⟨by simp only [Option.getD_some, List.mem_cons, List.not_mem_nil, or_false] at hmem ⊢; omega, hp.2 a ha⟩

end Piece

/-! ## A row or element of this node -/

section Row

variable {s : State} {n : Nat} {r : DescRun} {b : Nat} {tb : Target} (hmover : (s.sp n).mover = some r) (hworked : r.worked = false)
  (hstarted : r.walk.started = true) (hacc : r.walk.acc = .none) (hoff : r.walk.off = 0) (hrow : r.walk.row < mvItems r.desc)
  (hbad : r.walk.bad ≠ some r.walk.row) (hsealed : s.sealed = false) (hhint : mvSrcHint r.desc ≠ 2)
  (hdst : s.mvAddr r.desc true r.walk.row = some b) (hb : s.coreTarget b (mvLen r.desc) true = (tb, St.ok))
  (htb : tb.remote = false)
include hmover hworked hstarted hacc hoff hrow hbad hsealed hhint hdst hb htb

omit hmover hworked hstarted hrow hbad in
/-- A whole row written, the walk goes to the next. -/
theorem mvWrite_row {src : Option Nat} {cs : List (Byte × Bool)} (hcs : cs.length = mvLen r.desc) :
    s.mvWrite n r.desc r.walk src cs 0 = some ((s.writeCells tb.loc cs).setWalk n (fun _ => r.walk.nextRow)) := by
  rw [mvWrite_here hdst (by rw [hoff, Nat.add_zero, hcs, hb]) htb hsealed,
    mvAdvance_row hacc hhint (by rw [hoff, hcs, Nat.zero_add])]

theorem mvStep_movesRow {a : Nat} {ta : Target} (htwins : s.check.twins = []) (hop : mvOp r.desc < 3)
    (hclean : mvRowOp r.desc = false → s.poisoned (mvIdxWord r.desc r.walk.row) 4 = false)
    (hsrc : s.mvAddr r.desc false r.walk.row = some a) (ha : s.coreTarget a (mvLen r.desc) false = (ta, St.ok))
    (hta : ta.remote = false) : s.mvStep n (s.mvWhole n) =
      some ((s.writeCells tb.loc (s.readCells ta.loc (mvLen r.desc))).setWalk n (fun _ => r.walk.nextRow)) := by
  have hpiece : s.mvPiece r.desc (some a) (s.mvAddr r.desc true r.walk.row) r.walk.off (mvLen r.desc) = mvLen r.desc := by
    rw [hoff, hdst]
    refine mvPiece_here fun x hx => ?_
    rcases (by simpa using hx : x = a ∨ x = b) with rfl | rfl
    · exact isNone_localOf ha hta
    · exact isNone_localOf hb htb
  rw [mvStep_begins hmover hworked hstarted hacc hrow, mvWhole_eq hmover,
    mvBegin_reads (indexReads_of_clean htwins hclean) (.inl hbad) hop.ne hsrc, hpiece,
    mvRead_here (by rw [hoff, Nat.add_zero, ha]) hta rfl htwins,
    mvWrite_row hacc hoff hsealed hhint hdst hb htb (by simp [State.readCells])]

theorem mvStep_fillsRow (hop : mvOp r.desc = 3) : s.mvStep n (s.mvWhole n) =
    some ((s.writeCells tb.loc ((List.range (mvLen r.desc)).map (fun j =>
      (BitVec.ofNat 8 (mvIndex r.desc >>> (8 * (j % 8))), false)))).setWalk n (fun _ => r.walk.nextRow)) := by
  have hrowOp : mvRowOp r.desc = true := by simp [mvRowOp, hop]
  have hindex : s.indexReads n r.desc r.walk.row := by rw [State.indexReads, hrowOp]; exact ⟨rfl, rfl⟩
  have hpiece : s.mvPiece r.desc none (s.mvAddr r.desc true r.walk.row) r.walk.off (mvLen r.desc) = mvLen r.desc := by
    rw [hoff, hdst]
    refine mvPiece_here fun x hx => ?_
    rw [(by simpa using hx : x = b)]
    exact isNone_localOf hb htb
  rw [mvStep_begins hmover hworked hstarted hacc hrow, mvWhole_eq hmover, mvBegin_fill hindex (.inl hbad) hop, hpiece,
    mvWrite_row hacc hoff hsealed hhint hdst hb htb (by simp [mvPattern]), hoff, mvPattern]
  simp only [Nat.zero_add]

end Row

end Sys2Proof.Machine
end

section
/-! A COPY of this node's rows within its command (R119): every row is moved, in order, and the descriptor is worked. -/

namespace Sys2Proof.Machine

open Sys2Proof

/-! ## Memory does not see the spires -/

theorem mput_mput {α : Type} (k : Nat) (v w : α) : ∀ m : List (Nat × α), mput (mput m k v) k w = mput m k w
  | [] => by simp [mput]
  | (j, u) :: m => by
    rcases Nat.lt_trichotomy k j with h | rfl | h
    · simp [mput, h]
    · simp [mput]
    · simp [mput, h.not_gt, h.ne', mput_mput k v w m]

theorem setSp_setSp (s : State) (n : Nat) (x y : Spire) : (s.setSp n x).setSp n y = s.setSp n y := by
  simp only [State.setSp, mput_mput]

section SetSp

variable (s : State) (n : Nat) (x : Spire)

theorem wr_setSp (f : Field) (v : Nat) : (s.setSp n x).wr f v = (s.wr f v).setSp n x := rfl

theorem inc_setSp (f : Field) (k : Nat) : (s.setSp n x).inc f k = (s.inc f k).setSp n x := rfl

theorem incw_setSp (f : Field) (k : Nat) : (s.setSp n x).incw f k = (s.incw f k).setSp n x := rfl

theorem copyRange_setSp (src dst m : Nat) : (s.setSp n x).copyRange src dst m = (s.copyRange src dst m).setSp n x := rfl

theorem free_setSp (i m : Nat) : (s.setSp n x).free i m = s.free i m := rfl

theorem granulesApart_setSp (a m : Nat) : (s.setSp n x).granulesApart a m = (s.granulesApart a m).setSp n x := rfl

theorem granuleAhead_setSp (g : Nat × Nat) : (s.setSp n x).granuleAhead g = (s.granuleAhead g).setSp n x := by
  rw [State.granuleAhead, State.granuleAhead, copyRange_setSp, inc_setSp, incw_setSp, wr_setSp, rd_setSp, free_setSp]

theorem copyAhead_setSp (a m : Nat) : (s.setSp n x).copyAhead a m = (s.copyAhead a m).setSp n x := by
  rw [copyAhead_eq, copyAhead_eq, State.setSp_ckpt]
  split
  · rfl
  · rw [granulesApart_setSp]
    exact List.foldl_hom (fun t : State => t.setSp n x) (fun t g => granuleAhead_setSp t n x g)

theorem touch_setSp (a m : Nat) : (s.setSp n x).touch a m = (s.touch a m).setSp n x := by
  rw [State.touch, State.touch, copyAhead_setSp]
  generalize s.copyAhead a m = t
  rfl

theorem rawWrite_setSp (a : Nat) (bs : Bytes) : (s.setSp n x).rawWrite a bs = (s.rawWrite a bs).setSp n x := rfl

theorem setPoison_setSp (ws : List Nat) : (s.setSp n x).setPoison ws = (s.setPoison ws).setSp n x := rfl

theorem write_setSp (a : Nat) (bs : Bytes) : (s.setSp n x).write a bs = (s.write a bs).setSp n x := by
  rw [State.write, State.write, touch_setSp, rawWrite_setSp]

theorem writeCells_setSp (a : Nat) (cs : List (Byte × Bool)) : (s.setSp n x).writeCells a cs = (s.writeCells a cs).setSp n x := by
  simp only [State.writeCells, write_setSp, setPoison_setSp]

theorem readCells_setSp (a m : Nat) : (s.setSp n x).readCells a m = s.readCells a m := rfl

end SetSp

/-! ## Runs -/

/-- Steps of one mover after each other, as far as a run has steps. -/
theorem mvRun_steps {n : Nat} (m j : Nat) : ∀ f : Nat → State,
    (∀ k < m, (f k).mvStep n ((f k).mvWhole n) = some (f (k + 1))) → mvRun n (m + j) (f 0) = mvRun n j (f m) := by
  induction m with
  | zero => exact fun f _ => by rw [Nat.zero_add]
  | succ m ih =>
    intro f h
    rw [Nat.add_right_comm, mvRun, h 0 m.succ_pos]
    exact ih (fun k => f (k + 1)) fun k hk => h (k + 1) (Nat.succ_lt_succ hk)

theorem mvRun_stops {s : State} {n : Nat} (h : s.mvStep n (s.mvWhole n) = none) (hsealed : s.sealed = false) :
    ∀ j, mvRun n j s = s
  | 0 => rfl
  | j + 1 => by simp [mvRun, h, hsealed]

end Sys2Proof.Machine
end

section
/-! What flushing the Weir's puts leaves (R268): whether a mover's descriptor is worked, and the profile. A put whose home is dead
concludes at once, which may complete a part or record a failure, but no descriptor is taken or worked by it. -/

namespace Sys2Proof.Machine

open Sys2Proof

/-- The mover holds a descriptor that is worked. -/
def Spire.moverDone (x : Spire) : Bool :=
  match x.mover with
  | some r => r.worked
  | none => false

/-- t differs from s neither in the profile nor in which movers hold a worked descriptor. -/
structure WorkKept (s t : State) : Prop where
  profile_eq : t.rdReg R.NODE_PROFILE = s.rdReg R.NODE_PROFILE
  moverDone_eq : ∀ n, (t.sp n).moverDone = (s.sp n).moverDone

variable {s t : State}

theorem WorkKept.refl (s : State) : WorkKept s s := ⟨rfl, fun _ => rfl⟩

theorem WorkKept.trans {u : State} (h1 : WorkKept s t) (h2 : WorkKept t u) : WorkKept s u :=
  ⟨h2.profile_eq.trans h1.profile_eq, fun n => (h2.moverDone_eq n).trans (h1.moverDone_eq n)⟩

theorem WorkKept.sealed_eq (h : WorkKept s t) : t.sealed = s.sealed := by
  rw [State.sealed, State.sealed, State.profile, State.profile, State.rd, State.rd,
    show F.NODE_PROFILE_ACTIVE.addr = R.NODE_PROFILE from rfl, h.profile_eq]

theorem workKept_of_eq (hregs : t.regs = s.regs) (hspires : t.spires = s.spires) : WorkKept s t :=
  ⟨by rw [State.rdReg, State.rdReg, hregs], fun n => by rw [State.sp, State.sp, hspires]⟩

theorem workKept_wrReg (s : State) {a : Nat} (v : Nat) (h : R.NODE_PROFILE ≠ a) : WorkKept s (s.wrReg a v) :=
  ⟨State.rdReg_wrReg_ne s v h, fun _ => rfl⟩

theorem workKept_wr (s : State) {f : Field} (v : Nat) (h : R.NODE_PROFILE ≠ f.addr) : WorkKept s (s.wr f v) := workKept_wrReg s _ h

theorem workKept_wr_spireReg (s : State) {f : Field} (v : Nat) {n off : Nat} (h : f.addr = spireBlock n + off) :
    WorkKept s (s.wr f v) := workKept_wr s v (h ▸ (ne_spireReg n off (by decide)).symm)

theorem workKept_setSp (s : State) (n : Nat) {x : Spire} (h : x.moverDone = (s.sp n).moverDone) : WorkKept s (s.setSp n x) := by
  refine ⟨rfl, fun k => ?_⟩
  by_cases hk : k = n
  · rw [hk, State.sp_setSp_same, h]
  · rw [State.sp_setSp_ne _ _ hk]

theorem workKept_ite {p : Prop} [Decidable p] {u : State} (h1 : WorkKept s t) (h2 : WorkKept s u) :
    WorkKept s (if p then t else u) := by
  split
  · exact h1
  · exact h2

theorem workKept_foldl {α : Type} (f : State → α → State) (hf : ∀ s x, WorkKept s (f s x)) :
    ∀ (l : List α) (s : State), WorkKept s (l.foldl f s)
  | [], s => .refl s
  | x :: l, s => (hf s x).trans (workKept_foldl f hf l (f s x))

/-! ## The end of a store -/

theorem workKept_wakeFence (s : State) (n : Nat) : WorkKept s (s.wakeFence n) := by
  simp only [State.wakeFence]
  split
  · refine WorkKept.trans ?_ (workKept_wr_spireReg (f := F.SPIRE_STATUS_CORE n) _ 1 rfl)
    exact workKept_setSp s n rfl
  · exact .refl s

theorem workKept_partDone (s : State) (t i spire status : Nat) : WorkKept s (s.partDone t i spire status) := by
  simp only [State.partDone]
  split
  · exact .refl s
  · exact workKept_of_eq rfl rfl

theorem workKept_corePart (s : State) (n : Nat) : WorkKept s (s.corePart n) := by
  refine (workKept_wakeFence s n).trans ?_
  simp only [State.corePart]
  generalize s.wakeFence n = u
  split
  · split
    · refine WorkKept.trans ?_ (workKept_partDone _ _ _ _ _)
      have hunit : WorkKept u (if isSuccess (u.sp n).partStatus then u.wr (F.SPIRE_FAULT_INFO_UNIT n) 0 else u) :=
        workKept_ite (workKept_wr_spireReg u 0 rfl) (.refl u)
      have hinfo := hunit.trans (workKept_wr_spireReg (f := F.SPIRE_FAULT_INFO_STATUS n) _ (u.sp n).partStatus rfl)
      exact hinfo.trans (workKept_setSp _ n (hinfo.moverDone_eq n).symm)
    · exact .refl u
  · exact .refl u

theorem workKept_partFails (s : State) (n unit status : Nat) : WorkKept s (s.partFails n unit status) := by
  simp only [State.partFails]
  split
  · exact .refl s
  · refine WorkKept.trans ?_ (workKept_wr_spireReg (f := F.SPIRE_FAULT_INFO_UNIT n) _ unit rfl)
    exact workKept_setSp s n rfl

theorem workKept_postToEntry (s : State) (n : Nat) (entry : Option Nat) (status : Nat) :
    WorkKept s (s.postToEntry n entry status) := by
  unfold State.postToEntry
  split
  · exact workKept_partFails s n 0 status
  · exact .refl s

theorem workKept_semMsi (s : State) : WorkKept s s.semMsi := by
  unfold State.semMsi State.msi
  split
  · split
    · exact .refl s
    · exact workKept_of_eq rfl rfl
  · exact .refl s

theorem workKept_unitGot (s : State) (n : Nat) (vec : Bool) (status : Nat) (cells : List (Byte × Bool)) :
    WorkKept s (s.unitGot n vec status cells) := by
  cases vec with
  | true =>
    simp only [State.unitGot, if_true]
    split
    · split
      · exact workKept_setSp s n rfl
      · exact .refl s
    · exact .refl s
  | false =>
    simp only [State.unitGot, Bool.false_eq_true, if_false]
    split
    next r hmover =>
      have hdone (w : MvWalk) : ({ s.sp n with mover := some { r with walk := w } } : Spire).moverDone = (s.sp n).moverDone := by
        simp only [Spire.moverDone, hmover]
      split
      · exact workKept_setSp s n (hdone _)
      · split
        · exact .refl s
        · exact workKept_setSp s n (hdone _)
    next => exact .refl s

theorem workKept_storeEnd (s : State) (status : Nat) (w : Waiter) : WorkKept s (s.storeEnd status w) := by
  cases w with
  | corePost n entry =>
    have hpost : WorkKept s (if isSuccess status then s else s.postToEntry n entry status) :=
      workKept_ite (.refl s) (workKept_postToEntry s n entry status)
    exact hpost.trans (workKept_corePart _ n)
  | hartPost h => exact workKept_ite (.refl s) (workKept_semMsi s)
  | unit n vec => exact workKept_unitGot s n vec status []
  | core n rd size sgn amo => exact .refl s
  | hart h rd size sgn amo => exact .refl s
  | weir node base => exact .refl s
  | gone => exact .refl s

/-! ## A put leaves the Weir -/

theorem workKept_postedFail (s : State) (engine dest addr status : Nat) : WorkKept s (s.postedFail engine dest addr status) :=
  ((workKept_wrReg s _ (by decide)).trans (workKept_wrReg _ _ (by decide))).trans (workKept_wr _ 1 (by decide))

theorem workKept_semEvent (s : State) (status : Nat) : WorkKept s (s.semEvent status) := by
  have hev (f : Field) (hf : R.NODE_PROFILE ≠ f.addr) : WorkKept s (s.ev f) := workKept_wr s 1 hf
  exact workKept_ite (hev _ (by decide)) (workKept_ite (hev _ (by decide)) (workKept_ite (hev _ (by decide))
    (workKept_ite (hev _ (by decide)) (workKept_ite (hev _ (by decide)) (.refl s)))))

theorem workKept_putEnd (s : State) (engine dest addr status : Nat) (owners : List (Waiter × Nat × Nat)) :
    WorkKept s (s.putEnd engine dest addr status owners) := by
  have hfail : WorkKept s (if isSuccess status then s else s.postedFail engine dest addr status) :=
    workKept_ite (.refl s) (workKept_postedFail s engine dest addr status)
  exact hfail.trans (workKept_foldl _ (fun u c => workKept_storeEnd u status c.1) owners _)

theorem workKept_showRae (s : State) (e : Nat) : WorkKept s (s.showRae e) := by
  have hne : R.NODE_PROFILE ≠ R.FAB_RAE_OUT e := by
    have hfirst : R.NODE_PROFILE < R.FAB_RAE_OUT 0 := by decide
    have hstep : R.FAB_RAE_OUT 0 ≤ R.FAB_RAE_OUT e := by simp [R.FAB_RAE_OUT]
    omega
  simp only [State.showRae]
  split
  · exact .refl s
  · exact (workKept_wr (f := F.FAB_RAE_OUT_OUTSTANDING e) s _ hne).trans (workKept_wr (f := F.FAB_RAE_OUT_PEAK e) _ _ hne)

theorem RouterFrame.workKept (h : RouterFrame s t) : WorkKept s t := by
  refine ⟨h.2 _ (by decide) (by decide), fun n => ?_⟩
  have hspires : t.spires = s.spires := by rw [h.1]
  rw [State.sp, State.sp, hspires]

theorem workKept_table (s : State) (engine dest ver addr kind hint mop sizeLog2 : Nat) (data : Bytes) (poison : Nat) (w : Waiter)
    (carry : List (Waiter × Nat × Nat)) :
    WorkKept s (s.table engine dest ver addr kind hint mop sizeLog2 data poison w carry) := by
  simp only [State.table]
  generalize hu : ({ s with fab := _ } : State) = u
  have hs : WorkKept s (u.showRae engine) := (workKept_of_eq (by rw [← hu]) (by rw [← hu])).trans (workKept_showRae u engine)
  refine workKept_ite hs (hs.trans ?_)
  exact (routerFrame_sendPacket _ _ _ _ _ _ _).workKept

theorem workKept_issuePut (s : State) (b : WeirBlock) : WorkKept s (s.issuePut b) := by
  have hdrop : WorkKept s (s.dropBlock b.node b.base true) := workKept_of_eq rfl rfl
  refine hdrop.trans ?_
  simp only [State.issuePut]
  generalize s.dropBlock b.node b.base true = u
  split
  · exact (workKept_semEvent u _).trans (workKept_putEnd _ _ _ _ _ _)
  · exact workKept_table u _ _ _ _ _ _ _ _ _ _ _ _

theorem workKept_flushBlock (s : State) (b : WeirBlock) : WorkKept s (s.flushBlock b) := by
  refine workKept_ite ?_ (workKept_issuePut s b)
  exact workKept_of_eq rfl rfl

theorem workKept_flushOwned (s : State) (mine : Waiter → Bool) : WorkKept s (s.flushOwned mine) :=
  workKept_foldl _ workKept_flushBlock _ s

end Sys2Proof.Machine
end

section
/-! A COPY whose rows all lie at this node, within its command (R119): the states of the run, one after each row, and its end. -/

namespace Sys2Proof.Machine

open Sys2Proof

/-- The first k of a list of rows moved, in order. -/
def State.rowsMoved (s : State) (len : Nat) (src dst : Nat → Nat) (k : Nat) : State :=
  (List.range k).foldl (fun v j => v.writeCells (dst j) (v.readCells (src j) len)) s

/-- A run about to begin row k. -/
def MvWalk.atRow (k : Nat) : MvWalk := { MvWalk.init with started := true, row := k }

/-- Row k of the descriptor goes from one place of this node to another. -/
def State.rowHere (s : State) (d : Bytes) (k ls ld : Nat) : Prop :=
  ∃ (a b : Nat) (ta tb : Target), s.mvAddr d false k = some a ∧ s.mvAddr d true k = some b ∧
    s.coreTarget a (mvLen d) false = (ta, St.ok) ∧ ta.remote = false ∧ s.coreTarget b (mvLen d) true = (tb, St.ok) ∧
    tb.remote = false ∧ ta.loc = ls ∧ tb.loc = ld

theorem rowsMoved_succ (s : State) (len : Nat) (src dst : Nat → Nat) (k : Nat) : s.rowsMoved len src dst (k + 1) =
    (s.rowsMoved len src dst k).writeCells (dst k) ((s.rowsMoved len src dst k).readCells (src k) len) := by
  rw [State.rowsMoved, List.range_succ, List.foldl_append, List.foldl_cons, List.foldl_nil, State.rowsMoved]

theorem homeWrite_rowsMoved (s : State) (len : Nat) (src dst : Nat → Nat) (k : Nat) : HomeWrite s (s.rowsMoved len src dst k) :=
  homeWrite_foldl _ (fun _ _ => homeWrite_writeCells _ _ _) _ s

theorem setWalk_setSp {s : State} {n : Nat} {x : Spire} {r : DescRun} (h : x.mover = some r) (f : MvWalk → MvWalk) :
    (s.setSp n x).setWalk n f = s.setSp n { x with mover := some { r with walk := f r.walk } } := by
  rw [setWalk_eq (r := r) (by rw [State.sp_setSp_same, h]), State.sp_setSp_same, setSp_setSp]

theorem sameHome_setSp (s : State) (n : Nat) (x : Spire) : SameHome s (s.setSp n x) := ⟨rfl, rfl, fun _ _ => rfl⟩

/-- Where a row lies does not depend on what memory holds, as the place of an element named by an index word does. -/
theorem rowHere_of_sameHome {s t : State} {d : Bytes} {k ls ld : Nat} (hrow : mvRowOp d = true) (h : SameHome s t)
    (hhere : s.rowHere d k ls ld) : t.rowHere d k ls ld := by
  have haddr (dst : Bool) : t.mvAddr d dst k = s.mvAddr d dst k := by
    rw [State.mvAddr, State.mvAddr, State.mvOff, State.mvOff, if_pos hrow, if_pos hrow]
  simpa only [State.rowHere, haddr, h.coreTarget_eq] using hhere

/-- A mover with a worked descriptor has nothing to do. -/
theorem mvStep_of_moverDone {s : State} {n lim : Nat} (h : (s.sp n).moverDone = true) : s.mvStep n lim = none := by
  unfold Spire.moverDone at h
  split at h
  next r hmover => simp [State.mvStep, hmover, h]
  next => nomatch h

section Copy

variable {s : State} {n : Nat} {r : DescRun} (hmover : (s.sp n).mover = some r)
include hmover

theorem moverWorked_eq (status : Nat) : s.moverWorked n status =
    (s.setSp n { s.sp n with mover := some { r with worked := true, status := status } }).flushOwned (· == .unit n false) := by
  simp only [State.moverWorked, hmover]

/-- Once its descriptor is worked, a mover's run is at its end. -/
theorem mvRun_moverWorked (status : Nat) (hsealed : s.sealed = false) (j : Nat) :
    mvRun n j (s.moverWorked n status) = s.moverWorked n status := by
  rw [moverWorked_eq hmover]
  have hkept := workKept_flushOwned (s.setSp n { s.sp n with mover := some { r with worked := true, status := status } })
    (· == .unit n false)
  refine mvRun_stops (mvStep_of_moverDone ?_) (hkept.sealed_eq.trans hsealed) j
  rw [hkept.moverDone_eq, State.sp_setSp_same]
  rfl

variable (src dst : Nat → Nat)

/-- The run after its first k rows. -/
theorem rowsMoved_setWalk (k : Nat) (w : MvWalk) :
    (s.rowsMoved (mvLen r.desc) src dst k).setWalk n (fun _ => w) =
      (s.rowsMoved (mvLen r.desc) src dst k).setSp n { s.sp n with mover := some { r with walk := w } } := by
  have hsp := (homeWrite_rowsMoved s (mvLen r.desc) src dst k).sp_eq n
  rw [setWalk_eq (hsp ▸ hmover), hsp]

variable (hworked : r.worked = false) (hsealed : s.sealed = false) (hop : mvOp r.desc = 0)
include hworked hsealed hop

theorem mvStep_rowsMoved {k : Nat} (htwins : s.check.twins = []) (hhint : mvSrcHint r.desc ≠ 2) (hk : k < mvItems r.desc)
    (hhere : s.rowHere r.desc k (src k) (dst k)) {u : State}
    (hu : u = (s.rowsMoved (mvLen r.desc) src dst k).setWalk n (fun _ => .atRow k)) : u.mvStep n (u.mvWhole n) =
      some ((s.rowsMoved (mvLen r.desc) src dst (k + 1)).setWalk n (fun _ => .atRow (k + 1))) := by
  have hrow : mvRowOp r.desc = true := by simp [mvRowOp, hop]
  have hkept := homeWrite_rowsMoved s (mvLen r.desc) src dst k
  rw [rowsMoved_setWalk hmover] at hu ⊢
  rw [rowsMoved_succ]
  generalize s.rowsMoved (mvLen r.desc) src dst k = v at hkept hu ⊢
  have hhere' : u.rowHere r.desc k (src k) (dst k) := by
    rw [hu]
    exact rowHere_of_sameHome hrow (sameHome_setSp v n _) (rowHere_of_sameHome hrow hkept.sameHome hhere)
  obtain ⟨a, b, ta, tb, hsrc, hdst, ha, hta, hb, htb, hls, hld⟩ := hhere'
  have hmover' : (u.sp n).mover = some { r with walk := .atRow k } := by rw [hu, State.sp_setSp_same]
  have hsealed' : u.sealed = false := by rw [hu]; exact hkept.sealed_eq.trans hsealed
  have htwins' : u.check.twins = [] := by rw [hu]; exact (congrArg (·.twins) hkept.check_eq).trans htwins
  rw [mvStep_movesRow hmover' hworked rfl rfl rfl hk (nomatch ·) hsealed' hhint hdst hb htb htwins' (hop.symm ▸ three_pos)
    (fun h => absurd (hrow.symm.trans h) (by decide)) hsrc ha hta, hls, hld, hu, readCells_setSp, writeCells_setSp,
    setWalk_setSp rfl]
  rfl

variable (hwalk : r.walk = MvWalk.init)
include hwalk

/-- The command starts the run at row 0. -/
theorem runMover_copy (retries : Nat) (stop : Option Nat) :
    s.runMover n 0 retries stop [] = (s.setWalk n (fun _ => .atRow 0)).mvGo n := by
  have hstart : s.setWalk n (fun _ => .atRow 0) =
      (s.eccAll []).setWalk n (fun w => { w with started := true, bad := if s.sealed then stop else none }) := by
    rw [hsealed, show s.eccAll [] = s from rfl, setWalk_eq hmover, setWalk_eq hmover, hwalk]
    rfl
  rw [runMover_starts retries stop [] hmover hworked (by rw [hwalk]; rfl) hop hstart, hsealed]
  rfl

theorem runMover_copiesRows (retries : Nat) (stop : Option Nat) (htwins : s.check.twins = []) (hhint : mvSrcHint r.desc ≠ 2)
    (hlen : 0 < mvLen r.desc) (hhere : ∀ k < mvItems r.desc, s.rowHere r.desc k (src k) (dst k)) :
    s.runMover n 0 retries stop [] = ((s.rowsMoved (mvLen r.desc) src dst (mvItems r.desc)).setWalk n
      (fun _ => .atRow (mvItems r.desc))).moverWorked n St.ok := by
  have hsteps (j : Nat) := mvRun_steps (mvItems r.desc) j
    (fun k => (s.rowsMoved (mvLen r.desc) src dst k).setWalk n (fun _ => .atRow k))
    fun k hk => mvStep_rowsMoved hmover src dst hworked hsealed hop htwins hhint hk (hhere k hk) rfl
  have hsp (k : Nat) : (((s.rowsMoved (mvLen r.desc) src dst k).setWalk n (fun _ => .atRow k)).sp n).mover =
      some { r with walk := .atRow k } := by rw [rowsMoved_setWalk hmover, State.sp_setSp_same]
  have hfuel : mvItems r.desc < (s.setWalk n (fun _ => .atRow 0)).mvFuel n :=
    mvItems_lt_mvFuel (r := { r with walk := .atRow 0 }) (hsp 0) hlen
  obtain ⟨j, hj⟩ := Nat.exists_eq_add_of_lt (Nat.lt_add_right _ hfuel)
  rw [runMover_copy hmover hworked hsealed hop hwalk, State.mvGo, hj]
  refine (hsteps (j + 1)).trans ?_
  have hend := (homeWrite_rowsMoved s (mvLen r.desc) src dst (mvItems r.desc)).sealed_eq.trans hsealed
  rw [← sealed_setWalk _ n (fun _ => .atRow (mvItems r.desc))] at hend
  rw [mvRun, mvStep_ends (hsp _) hworked rfl le_rfl]
  exact mvRun_moverWorked (hsp _) St.ok hend j

end Copy

/-- Settles O27. A piece of the run by where its bytes come from and go; a COPY by its steps, one for each row. -/
theorem moverRowsMoveTheirBytes : Obligations.MoverRowsMoveTheirBytes := by
  refine ⟨fun s n r a b ls ld ta tb hmover hworked hstarted hacc hoff hrow hbad hsealed htwins hop hhint hclean hsrc hdst _ ha hb
      hta htb hls hld => ?_,
    fun s n r b tb hmover hworked hstarted hacc hoff hrow hbad hsealed hop hhint _ hdst hb htb =>
      mvStep_fillsRow hmover hworked hstarted hacc hoff hrow hbad hsealed hhint hdst hb htb hop,
    fun s n lim r hmover hworked hstarted => mvStep_ends hmover hworked hstarted,
    fun s n lim k r hmover hworked hstarted hacc hk hrow htwins => ?_,
    fun s d a off lim dst => mvPiece_remote a off lim dst,
    fun n retries stop s u r src dst hmover hworked hwalk hsealed htwins hop hhint hlen hhere hu => ?_⟩
  · subst hls hld
    exact mvStep_movesRow hmover hworked hstarted hacc hoff hrow hbad hsealed hhint hdst hb htb htwins hop hclean hsrc ha hta
  · subst hk
    rw [mvStep_begins hmover hworked hstarted hacc hrow]
    refine ⟨mvBegin_poisoned htwins, fun hclean => ?_⟩
    have hindex : s.indexReads n r.desc r.walk.row := indexReads_of_clean htwins hclean
    refine ⟨mvBegin_residue hindex, mvBegin_noAddress hindex, fun a p st t hgood hop hsrc hp htarget => ?_⟩
    subst hp
    rw [mvBegin_reads hindex hgood hop hsrc]
    exact ⟨mvRead_refused htarget, mvRead_stalls htarget, mvRead_remote htarget⟩
  · subst hu
    rw [exec_copy, runMover_copiesRows hmover src dst hworked hsealed hop hwalk retries stop htwins hhint hlen hhere]
    rfl

end Sys2Proof.Machine
end

section
/-! Lists of marks: what a rising list holds after insertions, and what a write with poison marks leaves at home (R122, R241). -/

namespace Sys2Proof.Machine

open Sys2Proof

theorem mem_sinsert {k x : Nat} : ∀ {l : List Nat}, x ∈ sinsert l k ↔ x = k ∨ x ∈ l
  | [] => by simp [sinsert]
  | j :: l => by
    rw [sinsert]
    split
    · exact List.mem_cons
    · split
      next hk => simp [hk]
      next => simp [mem_sinsert, or_left_comm]

theorem mem_foldl_sinsert {x : Nat} : ∀ {ws l : List Nat}, x ∈ ws.foldl sinsert l ↔ x ∈ ws ∨ x ∈ l
  | [], _ => by simp
  | w :: ws, l => by rw [List.foldl_cons, mem_foldl_sinsert, mem_sinsert, List.mem_cons, or_left_comm, or_assoc]

/-- The word that receives a marked byte is poisoned. -/
theorem poisonAt_writeCells (s : State) (a : Nat) {cs : List (Byte × Bool)} {i : Nat} (hi : i < cs.length)
    (hmark : (cs.getD i (0, false)).2 = true) : (s.writeCells a cs).poisonAt (a + i) = true := by
  have hword : (a + i) / 8 ∈ ((List.range cs.length).filter (fun i => (cs.getD i (0, false)).2)).map (fun i => (a + i) / 8) :=
    List.mem_map_of_mem (List.mem_filter.2 ⟨List.mem_range.2 hi, hmark⟩)
  rw [State.poisonAt, List.contains_iff_mem]
  exact mem_foldl_sinsert.2 (.inl hword)

section NotCopying

variable {s : State} (hcopying : s.ckpt.copying = false)
include hcopying

theorem touch_of_not_copying (a n : Nat) : (s.touch a n).mem = s.mem ∧ (s.touch a n).ckpt = s.ckpt := by
  rw [State.touch, copyAhead_eq, hcopying]
  exact ⟨rfl, rfl⟩

theorem ckpt_writeCells (a : Nat) (cs : List (Byte × Bool)) : (s.writeCells a cs).ckpt = s.ckpt := by
  simp only [State.writeCells, State.write, State.setPoison_ckpt, State.rawWrite_ckpt, touch_of_not_copying hcopying]

/-- A byte outside the cells of a write keeps its value. -/
theorem mget_writeCells_out {a k : Nat} {cs : List (Byte × Bool)} (h : k < a ∨ a + cs.length ≤ k) :
    mget (s.writeCells a cs).mem k 0 = mget s.mem k 0 := by
  simp only [State.writeCells, State.write, State.setPoison_mem, State.rawWrite, touch_of_not_copying hcopying]
  exact mget_memWrite_out _ _ _ _ (by rwa [List.length_map])

end NotCopying

end Sys2Proof.Machine
end

section
/-! What the run of a tensor descriptor writes (R128, R131, R133, R146): every part of an output row is one write at home inside
that row, and its other effects lie in registers. -/

namespace Sys2Proof.Machine

open Sys2Proof

/-! ## One part of an output row -/

/-- The elements of output row i that tile column tj holds, as the engine computes them. -/
def TnRun.colElems (r : TnRun) (n : Nat) (d : Bytes) (b i tj : Nat) : List TElem :=
  ((List.range (min 64 (tnN d - 64 * tj))).map (fun c => 64 * tj + c)).map (fun nn => r.s.tnElem n d b i nn)

/-- Their bytes, with the marks of poisoned elements, or all marked when the tile failed its recompute. -/
def TnRun.colCells (r : TnRun) (n : Nat) (d : Bytes) (b i tj : Nat) (bad : Bool) : List (Byte × Bool) :=
  (r.colElems n d b i tj).flatMap (fun e => (natLE (fmtWidth (tnOutFmt d) / 8) e.code).map (fun x => (x, bad || e.poison)))

/-- Where these bytes go. -/
def tnColAddr (n : Nat) (d : Bytes) (b i tj : Nat) : Nat :=
  scratchAddr n (tnRow d 3 b i + 64 * tj * (fmtWidth (tnOutFmt d) / 8))

/-- The state once they are written. -/
def TnRun.colWritten (r : TnRun) (n : Nat) (d : Bytes) (b i tj : Nat) (bad : Bool) : State :=
  r.s.writeCells (tnColAddr n d b i tj) (r.colCells n d b i tj bad)

section Parts

variable (r : TnRun) (n : Nat) (d : Bytes) (b i tj : Nat)

theorem length_colCells (bad : Bool) :
    (r.colCells n d b i tj bad).length = min 64 (tnN d - 64 * tj) * (fmtWidth (tnOutFmt d) / 8) := by
  simp [TnRun.colCells, TnRun.colElems, List.length_flatMap, length_natLE, Function.comp_def]

theorem marked_of_mem_colCells {c : Byte × Bool} (h : c ∈ r.colCells n d b i tj true) : c.2 = true := by
  obtain ⟨e, -, hc⟩ := List.mem_flatMap.1 h
  obtain ⟨x, -, rfl⟩ := List.mem_map.1 hc
  rfl

/-- A part of a tile that failed its recompute does no more than its write. -/
theorem segment_failed : r.segment n d b i tj true = { r with s := r.colWritten n d b i tj true } := rfl

theorem regsFrame_amaxUpdate (s : State) (slot : Nat) (v : Option FVal) (sat : Bool) :
    RegsFrame s (s.amaxUpdate n slot v sat) := by
  have hsat (t : State) : RegsFrame t (if sat then t.inc (F.SPIRE_AMAX_SAT_COUNT n slot) else t) := by
    split
    · exact regsFrame_wr _ _ _
    · exact .refl t
  refine RegsFrame.trans ?_ (hsat _)
  cases v with
  | none => exact .refl s
  | some v =>
    dsimp only
    split
    · exact regsFrame_wr _ _ _
    · exact .refl s

theorem regsFrame_segment (bad : Bool) : RegsFrame (r.colWritten n d b i tj bad) (r.segment n d b i tj bad).s := by
  cases bad with
  | true => exact .refl _
  | false =>
    refine (regsFrame_foldl _ (fun s e => ?_) (r.colElems n d b i tj) _).trans
      (regsFrame_foldl _ (fun s e => ?_) (r.colElems n d b i tj) _)
    · split
      · exact .refl s
      · exact regsFrame_amaxUpdate n s _ _ _
    · split
      · exact (regsFrame_wr _ _ _).trans (regsFrame_wr _ _ _)
      · exact .refl s

/-- The first word of a failed tile's part is poisoned. -/
theorem poisonAt_segment_failed (hcols : tnN d - 64 * tj ≠ 0) (hwidth : fmtWidth (tnOutFmt d) / 8 ≠ 0) :
    (r.segment n d b i tj true).s.poisonAt (tnColAddr n d b i tj) = true := by
  have hlen : 0 < (r.colCells n d b i tj true).length := by
    rw [length_colCells]
    exact Nat.mul_pos (by omega) (Nat.pos_of_ne_zero hwidth)
  refine poisonAt_writeCells r.s (tnColAddr n d b i tj) hlen ?_
  rw [List.getD_eq_getElem _ _ hlen]
  exact marked_of_mem_colCells r n d b i tj (List.getElem_mem hlen)

/-! ## All tiles -/

/-- What holds before the run, and is kept by each part it writes, holds after it. -/
theorem tiles_induction {P : TnRun → Prop} (sel : Nat → Bool) (bad : List Nat) (hstart : P r)
    (hkeep : ∀ (u : TnRun) (b i tj : Nat) (failed : Bool), b < tnBatch d → i < tnM d → tj < tnTilesN d → P u →
      P (u.segment n d b i tj failed)) : P (r.tiles n d sel bad) := by
  refine List.foldlRecOn (motive := P) _ _ hstart fun u hu b hb => ?_
  refine List.foldlRecOn (motive := P) _ _ hu fun u hu i hi => ?_
  refine List.foldlRecOn (motive := P) _ _ hu fun u hu tj htj => ?_
  dsimp only
  split
  · exact hkeep u b i tj _ (List.mem_range.1 hb) (List.mem_range.1 hi) (List.mem_range.1 htj) hu
  · exact hu

/-- The part of a row that a tile column holds lies in the row. -/
theorem colCells_in_row (bad : Bool) (htj : tj < tnTilesN d) : tnColAddr n d b i tj + (r.colCells n d b i tj bad).length ≤
    scratchAddr n (tnRow d 3 b i) + tnN d * (fmtWidth (tnOutFmt d) / 8) := by
  have hcols : 64 * tj + min 64 (tnN d - 64 * tj) ≤ tnN d := by
    unfold tnTilesN at htj
    omega
  have hbytes := Nat.mul_le_mul_right (fmtWidth (tnOutFmt d) / 8) hcols
  rw [Nat.add_mul] at hbytes
  rw [length_colCells, tnColAddr, scratchAddr, scratchAddr]
  omega

/-- No reflection copies, and the byte at a place is v. -/
def State.holdsByte (s : State) (a : Nat) (v : Byte) : Prop := s.ckpt.copying = false ∧ mget s.mem a 0 = v

theorem RegsFrame.holdsByte {s t : State} {a : Nat} {v : Byte} (h : RegsFrame s t) (hs : s.holdsByte a v) : t.holdsByte a v := by
  unfold RegsFrame at h
  rw [h]
  exact hs

theorem holdsByte_segment {a : Nat} {v : Byte} (bad : Bool) (htj : tj < tnTilesN d) (hout : a < scratchAddr n (tnRow d 3 b i) ∨
    scratchAddr n (tnRow d 3 b i) + tnN d * (fmtWidth (tnOutFmt d) / 8) ≤ a) (h : r.s.holdsByte a v) :
    (r.segment n d b i tj bad).s.holdsByte a v := by
  obtain ⟨hcopying, hbyte⟩ := h
  have hstart : scratchAddr n (tnRow d 3 b i) ≤ tnColAddr n d b i tj := Nat.add_le_add_left (Nat.le_add_right _ _) _
  have hend := colCells_in_row r n d b i tj bad htj
  refine (regsFrame_segment r n d b i tj bad).holdsByte ⟨?_, ?_⟩
  · rw [TnRun.colWritten, ckpt_writeCells hcopying, hcopying]
  · rw [TnRun.colWritten, mget_writeCells_out hcopying (by omega), hbyte]

end Parts

/-- Settles O29. Each part written lies in its output row; all else of it lies in registers. -/
theorem tensorRunsWriteOnlyTheirOutput : Obligations.TensorRunsWriteOnlyTheirOutput := by
  intro r n d sel bad a hcopying hout
  have hrun : (r.tiles n d sel bad).s.holdsByte a (mget r.s.mem a 0) :=
    tiles_induction r n d (P := fun u => u.s.holdsByte a (mget r.s.mem a 0)) sel bad ⟨hcopying, rfl⟩
      fun u b i tj failed hb hi htj hu => holdsByte_segment u n d b i tj failed htj (hout b hb i hi) hu
  exact hrun.2

end Sys2Proof.Machine
end

section
/-! Tensor descriptors (R133–R148): a command runs the descriptor of its kind over every tile, counts its work and marks it worked. -/

namespace Sys2Proof.Machine

open Sys2Proof

/-! ## The end of a run -/

/-- The tiles of a descriptor, over all batches. -/
def tnTotal (d : Bytes) : Nat := tnBatch d * tnTilesM d * tnTilesN d

/-- The tiles that fail their recompute, of those the command names (R146). -/
def State.tnFails (s : State) (d : Bytes) (bad : List Nat) : List Nat :=
  if s.tnChecked d then (bad.filter (· < tnTotal d)).foldl sinsert [] else []

/-- The tiles that are recomputed. -/
def State.tnAgain (s : State) (d : Bytes) (retries : Nat) (fails : List Nat) : Nat :=
  if s.tnChecked d then min retries (tnTotal d - fails.length) + fails.length else 0

/-- A count of recomputes or of failed tiles, with its event, when there are any. -/
def State.tnNote (s : State) (count event : Field) (k : Nat) : State := if k = 0 then s else (s.inc count k).ev event

/-- The residues and the poison a run met, noted. -/
def TnRun.noted (r : TnRun) (n again fails : Nat) : State :=
  let s := (r.s.tnNote (F.TENS_COUNTS_RESIDUE_RETRIES n) (F.TENS_EVENTS_RESIDUE_RETRY n) again).tnNote
    (F.TENS_COUNTS_RESIDUE_FAILS n) (F.TENS_EVENTS_RESIDUE_FAIL n) fails
  if r.poison then s.ev (F.TENS_EVENTS_POISON n) else s

/-- The work of a descriptor, shown and counted (R150). -/
def State.tnCounted (s : State) (n : Nat) (d : Bytes) : State :=
  ((s.wr (F.TENS_PROGRESS_TILES n) (tnTotal d)).wr (F.TENS_PROGRESS_BATCH n) (tnBatch d - 1)).incw (F.TENS_MACS_VALUE n)
    (tnBatch d * tnM d * tnN d * tnK d)

/-- The status of a run (R148). -/
def TnRun.status (r : TnRun) (fails : List Nat) : Nat :=
  if !fails.isEmpty then St.residueMismatch else if r.poison then St.poisonConsumed
  else if r.range then St.rangeExceeded else St.ok

/-- The engine's descriptor, worked with a status. -/
def State.tnWorkedAs (s : State) (n : Nat) (run : DescRun) (status : Nat) : State :=
  s.setSp n { s.sp n with tens := some { run with worked := true, status := status } }

section Run

variable {s : State} {n op : Nat} {run : DescRun} {bad : List Nat} (retries : Nat) (ecc : EccFinds)

theorem runTensor_idle (h : (s.sp n).tens = none) : s.runTensor n op retries bad ecc = s := by
  simp only [State.runTensor, h]

section Held

variable (htens : (s.sp n).tens = some run)
include htens

theorem runTensor_other (h : run.worked = true ∨ tnOp run.desc ≠ op) : s.runTensor n op retries bad ecc = s := by
  simp only [State.runTensor, htens]
  exact if_pos (by simpa using h)

variable (hworked : run.worked = false) (hop : tnOp run.desc = op)
include hworked hop

theorem runTensor_runs {r : TnRun} {fails : List Nat} (hfails : fails = s.tnFails run.desc bad)
    (hr : r = (TnRun.mk (s.eccAll ecc) false false).tiles n run.desc (fun _ => true) fails) :
    s.runTensor n op retries bad ecc = ((r.noted n (s.tnAgain run.desc retries fails) fails.length).tnCounted n
      run.desc).tnWorkedAs n run (r.status fails) := by
  subst hfails hr
  simp only [State.runTensor, htens, hworked, hop, bne_self_eq_false, Bool.or_false, Bool.false_eq_true, if_false]
  simp only [TnRun.noted, State.tnNote, List.length_eq_zero_iff, ← List.isEmpty_iff]
  rfl

/-- A run in which every recompute matched. -/
theorem runTensor_matches {r : TnRun} {again : Nat}
    (hr : r = (TnRun.mk (s.eccAll ecc) false false).tiles n run.desc (fun _ => true) [])
    (hagain : again = if s.tnChecked run.desc then min retries (tnTotal run.desc) else 0) :
    s.runTensor n op retries [] ecc = ((r.noted n again 0).tnCounted n run.desc).tnWorkedAs n run (r.status []) := by
  have hfails : [] = s.tnFails run.desc [] := (ite_self _).symm
  rw [runTensor_runs retries ecc htens hworked hop hfails hr, hagain]
  rfl

end Held

end Run

/-! ## A tile that fails its recompute (R146) -/

theorem tnFails_ne_nil {s : State} {d : Bytes} {bad : List Nat} {k : Nat} (hchecked : s.tnChecked d = true) (hk : k ∈ bad)
    (htotal : k < tnTotal d) : s.tnFails d bad ≠ [] := by
  rw [State.tnFails, if_pos hchecked]
  exact List.ne_nil_of_mem (mem_foldl_sinsert.2 (.inl (List.mem_filter.2 ⟨hk, decide_eq_true htotal⟩)))

theorem status_of_fails (r : TnRun) {fails : List Nat} (h : fails ≠ []) : r.status fails = St.residueMismatch :=
  if_pos (by simpa using h)

/-- The event stays through the POISON event, which lies in the same register. -/
theorem rd_noted_residueFail (r : TnRun) (n again : Nat) {fails : Nat} (h : fails ≠ 0) :
    (r.noted n again fails).rd (F.TENS_EVENTS_RESIDUE_FAIL n) = 1 := by
  have hpoison : (F.TENS_EVENTS_RESIDUE_FAIL n).apart (F.TENS_EVENTS_POISON n) = true := by
    simp [Field.apart, F.TENS_EVENTS_RESIDUE_FAIL, F.TENS_EVENTS_POISON]
  have hnoted (s : State) :
      (s.tnNote (F.TENS_COUNTS_RESIDUE_FAILS n) (F.TENS_EVENTS_RESIDUE_FAIL n) fails).rd (F.TENS_EVENTS_RESIDUE_FAIL n) = 1 := by
    rw [State.tnNote, if_neg h]
    exact State.rd_wr_same _ _ 1 rfl
  simp only [TnRun.noted]
  split
  · exact (State.rd_wr_apart _ 1 hpoison rfl).trans (hnoted _)
  · exact hnoted _

theorem writesOnly_tnCounted (s : State) (n : Nat) (d : Bytes) :
    WritesOnly [R.TENS_PROGRESS n, R.TENS_MACS n] s (s.tnCounted n d) :=
  (((WritesOnly.refl _ s).wr (f := F.TENS_PROGRESS_TILES n) _ List.mem_cons_self).wr (f := F.TENS_PROGRESS_BATCH n) _
    List.mem_cons_self).wr (f := F.TENS_MACS_VALUE n) _ (List.mem_cons_of_mem _ List.mem_cons_self)

theorem tensEvents_not_counted (n : Nat) : R.TENS_EVENTS n ∉ [R.TENS_PROGRESS n, R.TENS_MACS n] := by
  simp [R.TENS_EVENTS, R.TENS_PROGRESS, R.TENS_MACS]

/-- Whichever command runs the descriptor, the failed tile ends it with RESIDUE_MISMATCH and sets the event. -/
theorem runTensor_fails {c : Instr} {s : State} {n op retries : Nat} {run : DescRun} {bad : List Nat} {ecc : EccFinds} {k : Nat}
    (hc : exec c s = ok (s.runTensor n op retries bad ecc)) (htens : (s.sp n).tens = some run) (hworked : run.worked = false)
    (hop : tnOp run.desc = op) (hchecked : s.tnChecked run.desc = true) (hk : k ∈ bad) (htotal : k < tnTotal run.desc) :
    Does c s (fun t => (t.sp n).tens = some { run with worked := true, status := St.residueMismatch } ∧
      t.rd (F.TENS_EVENTS_RESIDUE_FAIL n) = 1) := by
  have hfails := tnFails_ne_nil hchecked hk htotal
  refine does_of_ok hc fun t ht => ?_
  rw [runTensor_runs retries ecc htens hworked hop rfl rfl, status_of_fails _ hfails] at ht
  refine ⟨?_, ?_⟩
  · rw [sp_of_ok ht, State.tnWorkedAs, State.sp_setSp_same]
  · rw [rd_of_ok ht (spireReg_not_count n _), State.tnWorkedAs, rd_setSp,
      (writesOnly_tnCounted _ n run.desc).rd_eq (tensEvents_not_counted n)]
    exact rd_noted_residueFail _ n _ (List.length_pos_of_ne_nil hfails).ne'

/-! ## The commands -/

section Commands

variable {n : Fin 288} {s : State} (retries cycles : Nat) (bad : List Nat) (ecc : EccFinds)

theorem exec_gemm : exec (.gemm n retries bad ecc) s = ok (s.runTensor n 1 retries bad ecc) := rfl
theorem exec_stencil : exec (.stencil n retries bad ecc) s = ok (s.runTensor n 2 retries bad ecc) := rfl
theorem exec_q64Gemm : exec (.q64Gemm n retries bad ecc) s = ok (s.runTensor n 3 retries bad ecc) := rfl
theorem exec_round : exec (.round n ecc) s = ok (s.runTensor n 4 0 [] ecc) := rfl

theorem exec_tensor_idle (h : (s.sp n).tens = none) : exec (.ctxSeal n ecc) s = ok s ∧ exec (.ctxDrop n) s = ok s ∧
    exec (.tensorDescriptorComplete n cycles) s = ok s := by
  rw [exec_ctxSeal, exec_ctxDrop, exec_tensorDescriptorComplete]
  simp only [execCtxSeal, execCtxDrop, execTensorDescriptorComplete, h, and_self]

variable {run : DescRun} (htens : (s.sp n).tens = some run)
include htens

theorem exec_ctxSeal_other (h : run.worked = true ∨ tnOp run.desc ≠ 5) : exec (.ctxSeal n ecc) s = ok s := by
  rw [exec_ctxSeal]
  simp only [execCtxSeal, htens]
  exact if_pos (by simpa using h)

theorem exec_ctxDrop_other (h : run.worked = true ∨ tnOp run.desc ≠ 6) : exec (.ctxDrop n) s = ok s := by
  rw [exec_ctxDrop]
  simp only [execCtxDrop, htens]
  exact if_pos (by simpa using h)

theorem exec_tensorDescriptorComplete_unworked (h : run.worked = false) :
    exec (.tensorDescriptorComplete n cycles) s = ok s := by
  rw [exec_tensorDescriptorComplete]
  simp only [execTensorDescriptorComplete, htens, h, Bool.not_false, if_true]

end Commands

/-- Settles O28. Every command of a kind is one run of its descriptor; ROUND is one without recomputes. -/
theorem tensorDescriptorsRun : Obligations.TensorDescriptorsRun := by
  refine ⟨fun n s run r retries total again ecc htens hworked htotal hr w u v hagain hround hw hu hv => ?_,
    fun n s run retries k bad ecc c htens hworked hchecked hk htotal hc => ?_,
    fun n k bad ecc s hidle => ?_, fun n k bad ecc s run htens => ?_,
    fun r n d b i tj a => ⟨rfl, fun hcols hwidth ha => ?_⟩⟩
  · subst htotal
    have hends {op k : Nat} (hop : tnOp run.desc = op)
        (hk : again = if s.tnChecked run.desc then min k (tnTotal run.desc) else 0) : s.runTensor n op k [] ecc = v := by
      rw [runTensor_matches k ecc htens hworked hop hr hk, hv, hu, hw]
      rfl
    refine ⟨fun hop => ?_, fun hop => ?_, fun hop => ?_, fun hop => ?_⟩
    · rw [exec_gemm, hends hop (hagain (by omega))]
    · rw [exec_stencil, hends hop (hagain (by omega))]
    · rw [exec_q64Gemm, hends hop (hagain (by omega))]
    · rw [exec_round, hends hop (by rw [hround hop, Nat.zero_min, ite_self])]
  · obtain ⟨hop, rfl⟩ | ⟨hop, rfl⟩ | ⟨hop, rfl⟩ := hc
    · exact runTensor_fails (exec_gemm retries bad ecc) htens hworked hop hchecked hk htotal
    · exact runTensor_fails (exec_stencil retries bad ecc) htens hworked hop hchecked hk htotal
    · exact runTensor_fails (exec_q64Gemm retries bad ecc) htens hworked hop hchecked hk htotal
  · rw [exec_gemm, exec_stencil, exec_q64Gemm, exec_round]
    simp only [runTensor_idle _ _ hidle, true_and]
    exact exec_tensor_idle k ecc hidle
  · rw [exec_gemm, exec_stencil, exec_q64Gemm, exec_round]
    have hother {op j : Nat} {l : List Nat} (h : run.worked = true ∨ tnOp run.desc ≠ op) : ok (s.runTensor n op j l ecc) = ok s := by
      rw [runTensor_other j ecc htens h]
    exact ⟨hother, hother, hother, hother, exec_ctxSeal_other ecc htens, exec_ctxDrop_other htens,
      exec_tensorDescriptorComplete_unworked k htens⟩
  · rw [ha]
    exact poisonAt_segment_failed r n d b i tj hcols hwidth

end Sys2Proof.Machine
end

section
/-! Vector groups as streams of bits (R173, R174): what an element reads after bits of its group are stored, and after marks are
set; what elements put into a group leave as it was. -/

namespace Sys2Proof.Machine

open Sys2Proof

/-! ## Bits of a group -/

/-- Bit p of the stream of the group that begins at a register. -/
def Spire.streamBit (x : Spire) (first p : Nat) : Bool := (x.vreg (first + p / 512)).val.toNat.testBit (p % 512)

theorem testBit_add_two_pow_mul {a k : Nat} (b j : Nat) (ha : a < 2 ^ k) :
    (a + 2 ^ k * b).testBit j = if j < k then a.testBit j else b.testBit (j - k) := by
  rw [Nat.add_comm, Nat.testBit_two_pow_mul_add b ha]

theorem testBit_bitsAt (x : Spire) (first lo : Nat) {w j : Nat} (hw : w ≤ 512) :
    (x.bitsAt first lo w).testBit j = (decide (j < w) && x.streamBit first (lo + j)) := by
  by_cases hj : j < w
  · simp only [Spire.bitsAt, testBit_bits, hj, decide_true, Bool.true_and, Spire.streamBit]
    refine (testBit_add_two_pow_mul _ _ (BitVec.isLt _)).trans ?_
    split
    · rw [show (lo + j) / 512 = lo / 512 by omega, show (lo + j) % 512 = lo % 512 + j by omega]
    · rw [show (lo + j) / 512 = lo / 512 + 1 by omega, show (lo + j) % 512 = lo % 512 + j - 512 by omega, Nat.add_assoc]
  · simp only [Spire.bitsAt, testBit_bits, hj, decide_false, Bool.false_and]

/-- n bits of register r from a position on, replaced. -/
def Spire.setRegBits (x : Spire) (r pos n v : Nat) : Spire :=
  { x with v := mput x.v r { x.vreg r with val := BitVec.ofNat 512 (setBits (x.vreg r).val.toNat pos n v) } }

theorem setBitsAt_eq (x : Spire) (first lo w v : Nat) : x.setBitsAt first lo w v =
    if min w (512 - lo % 512) < w then
      (x.setRegBits (first + lo / 512) (lo % 512) (min w (512 - lo % 512)) v).setRegBits (first + lo / 512 + 1) 0
        (w - min w (512 - lo % 512)) (v >>> min w (512 - lo % 512))
    else x.setRegBits (first + lo / 512) (lo % 512) (min w (512 - lo % 512)) v := rfl

theorem toNat_ofNat_setBits {n lo w : Nat} (x : BitVec n) (v : Nat) (h : lo + w ≤ n) :
    (BitVec.ofNat n (setBits x.toNat lo w v)).toNat = setBits x.toNat lo w v :=
  (BitVec.toNat_ofNat _ _).trans (Nat.mod_eq_of_lt (setBits_lt v x.isLt h))

theorem testBit_setRegBits (x : Spire) (r v : Nat) {pos n k i : Nat} (h : pos + n ≤ 512) :
    ((x.setRegBits r pos n v).vreg k).val.toNat.testBit i =
      if k = r ∧ pos ≤ i ∧ i < pos + n then v.testBit (i - pos) else (x.vreg k).val.toNat.testBit i := by
  by_cases hk : k = r
  · subst hk
    simp only [Spire.setRegBits, Spire.vreg, mget_mput_same, true_and]
    rw [toNat_ofNat_setBits _ v h, testBit_setBits]
  · simp only [Spire.setRegBits, Spire.vreg, mget_mput_ne _ _ _ hk, hk, false_and, if_false]

/-- Stored bits of a stream read back, and every other bit keeps its value. -/
theorem streamBit_setBitsAt (x : Spire) (first lo v p : Nat) {w : Nat} (hw : w ≤ 512) :
    (x.setBitsAt first lo w v).streamBit first p =
      if lo ≤ p ∧ p < lo + w then v.testBit (p - lo) else x.streamBit first p := by
  rw [setBitsAt_eq]
  by_cases hone : lo % 512 + w ≤ 512
  · rw [if_neg (by omega), Spire.streamBit, testBit_setRegBits _ _ _ (by omega), Nat.min_eq_left (by omega)]
    by_cases hp : lo ≤ p ∧ p < lo + w
    · rw [if_pos hp, if_pos (by omega)]
      congr 1
      omega
    · rw [if_neg hp, if_neg (by omega), Spire.streamBit]
  · rw [if_pos (by omega), Nat.min_eq_right (by omega), Spire.streamBit, testBit_setRegBits _ _ _ (by omega),
      testBit_setRegBits _ _ _ (by omega), Nat.testBit_shiftRight]
    by_cases hp : lo ≤ p ∧ p < lo + w
    · rw [if_pos hp]
      by_cases hsnd : p / 512 = lo / 512 + 1
      · rw [if_pos (by omega)]
        congr 1
        omega
      · rw [if_neg (by omega), if_pos (by omega)]
        congr 1
        omega
    · rw [if_neg hp, if_neg (by omega), if_neg (by omega), Spire.streamBit]

/-! ## Elements -/

theorem testBit_el (x : Spire) (first i : Nat) {w j : Nat} (hw : w ≤ 512) :
    (x.el first w i).testBit j = (decide (j < w) && x.streamBit first (i * w + j)) := testBit_bitsAt x first (i * w) hw

/-- An element stored reads back, and every other element of the group keeps its value. -/
theorem el_setBitsAt (x : Spire) (first k v i : Nat) {w : Nat} (hw : w ≤ 512) :
    (x.setBitsAt first (k * w) w v).el first w i = if i = k then v % 2 ^ w else x.el first w i := by
  apply Nat.eq_of_testBit_eq
  intro j
  rw [testBit_el _ _ _ hw, streamBit_setBitsAt _ _ _ _ _ hw]
  by_cases hj : j < w
  · by_cases hik : i = k
    · subst hik
      rw [if_pos (by omega), if_pos rfl, Nat.testBit_mod_two_pow, Nat.add_sub_cancel_left]
    · have hapart : ¬(k * w ≤ i * w + j ∧ i * w + j < k * w + w) := by
        rcases Nat.lt_or_gt_of_ne hik with h | h
        · have := Nat.mul_le_mul_right w h
          rw [Nat.succ_mul] at this
          omega
        · have := Nat.mul_le_mul_right w h
          rw [Nat.succ_mul] at this
          omega
      rw [if_neg hapart, if_neg hik, testBit_el _ _ _ hw]
  · simp only [hj, decide_false, Bool.false_and]
    split <;> simp [hj, testBit_el _ _ _ hw]

theorem el_setBitsAt_range (x : Spire) (first start : Nat) (f : Nat → Nat) (i : Nat) {w : Nat} (hw : w ≤ 512) : ∀ n : Nat,
    ((List.range n).foldl (fun x j => x.setBitsAt first ((start + j) * w) w (f j)) x).el first w i =
      if start ≤ i ∧ i < start + n then f (i - start) % 2 ^ w else x.el first w i
  | 0 => (if_neg (by omega)).symm
  | n + 1 => by
    rw [List.range_succ, List.foldl_append, List.foldl_cons, List.foldl_nil, el_setBitsAt _ _ _ _ _ hw,
      el_setBitsAt_range x first start f i hw n]
    by_cases hi : i = start + n
    · rw [if_pos hi, if_pos (by omega), hi, Nat.add_sub_cancel_left]
    · rw [if_neg hi]
      by_cases hin : start ≤ i ∧ i < start + n
      · rw [if_pos hin, if_pos (by omega)]
      · rw [if_neg hin, if_neg (by omega)]

/-- A mark changes no value. -/
theorem val_vreg_setSlice (x : Spire) (first i r : Nat) (b : Bool) :
    ((x.setSlice first i b).vreg r).val = (x.vreg r).val := by
  by_cases h : r = first + i / 8
  · subst h
    simp only [Spire.setSlice, Spire.vreg, mget_mput_same]
  · simp only [Spire.setSlice, Spire.vreg, mget_mput_ne _ _ _ h]

theorem el_setSlice (x : Spire) (g k : Nat) (b : Bool) (first w i : Nat) :
    (x.setSlice g k b).el first w i = x.el first w i := by
  simp only [Spire.el, Spire.bitsAt, val_vreg_setSlice]

theorem el_foldl_setSlice (g first w i : Nat) (b : Nat → Bool) : ∀ (l : List Nat) (x : Spire),
    (l.foldl (fun x k => x.setSlice g k (b k)) x).el first w i = x.el first w i
  | [], _ => rfl
  | k :: l, x => (el_foldl_setSlice g first w i b l (x.setSlice g k (b k))).trans (el_setSlice x g k (b k) first w i)

theorem el_putEls (x : Spire) (first start : Nat) (vals : List (Nat × Bool)) (i : Nat) {w : Nat} (hw : w ≤ 512) :
    (x.putEls first w start vals).el first w i =
      if start ≤ i ∧ i < start + vals.length then (vals.getD (i - start) (0, false)).1 % 2 ^ w else x.el first w i := by
  rw [Spire.putEls]
  exact (el_foldl_setSlice first first w i _ _ _).trans
    (el_setBitsAt_range x first start (fun j => (vals.getD j (0, false)).1) i hw vals.length)

/-! ## What is no part of the vector registers -/

/-- y differs from x at most in its vector registers. -/
def VecFrame (x y : Spire) : Prop := y = { x with v := y.v }

theorem VecFrame.trans {x y z : Spire} (h1 : VecFrame x y) (h2 : VecFrame y z) : VecFrame x z := by
  unfold VecFrame at *
  rw [h1] at h2
  exact h2

theorem vecFrame_foldl {α : Type} (f : Spire → α → Spire) (hf : ∀ x a, VecFrame x (f x a)) :
    ∀ (l : List α) (x : Spire), VecFrame x (l.foldl f x)
  | [], _ => rfl
  | a :: l, x => (hf x a).trans (vecFrame_foldl f hf l (f x a))

theorem vecFrame_setBitsAt (x : Spire) (first lo w v : Nat) : VecFrame x (x.setBitsAt first lo w v) := by
  rw [setBitsAt_eq]
  split <;> rfl

theorem vecFrame_setSlice (x : Spire) (first i : Nat) (b : Bool) : VecFrame x (x.setSlice first i b) := rfl

theorem vecFrame_putEls (x : Spire) (first w start : Nat) (vals : List (Nat × Bool)) :
    VecFrame x (x.putEls first w start vals) :=
  (vecFrame_foldl _ (fun x _ => vecFrame_setBitsAt x _ _ _ _) _ x).trans (vecFrame_foldl _ (fun x _ => vecFrame_setSlice x _ _ _) _ _)

/-- Settles O31. Element i of the group is the last one stored at its place; the marks change no value. -/
theorem vectorElementsReadBack : Obligations.VectorElementsReadBack := by
  intro x first w start vals _ hw
  refine ⟨fun j hj => ?_, fun i hi => ?_, vecFrame_putEls x first w start vals⟩
  · rw [el_putEls _ _ _ _ _ hw, if_pos (by omega), Nat.add_sub_cancel_left]
  · rw [el_putEls _ _ _ _ _ hw, if_neg (by omega)]

end Sys2Proof.Machine
end

section
/-! Arithmetic on vectors (R173, R174, R183): an instruction of a running core is illegal with no effect, or gives each lane its
operation's value. -/

namespace Sys2Proof.Machine

open Sys2Proof

/-! ## Running an instruction -/

section Run

variable {s u : State} {n : Nat} (hready : s.vecReady n u)
include hready

theorem svArith_legal {res dst : Nat} {legal : Spire → Bool} {compute : Spire → Nat → Nat × Bool}
    (hdst : groupOk dst (svSpan (u.sp n).span) = true) (hlegal : legal (u.sp n) = true) :
    s.svArith n res dst legal compute = ok (((u.putLanes n dst (svBits (u.sp n).ew) ((u.lanes n).map (compute (u.sp n)))).svEnd n
      res dst (svSpan (u.sp n).span) 0 0).coreDone n) := by
  rw [State.svArith, svRun_legal hready _ _ (by rw [hdst, hlegal, Bool.and_self]), State.putLanes, State.lanes, List.map_map]
  rfl

theorem svArith_illegal {res dst : Nat} {legal : Spire → Bool} {compute : Spire → Nat → Nat × Bool}
    (h : groupOk dst (svSpan (u.sp n).span) = false ∨ legal (u.sp n) = false) :
    s.svArith n res dst legal compute = ok ((u.illegal n).coreDone n) := by
  rw [State.svArith, svRun_illegal hready]
  rcases h with h | h <;> simp [h]

end Run

theorem svRun_idle {s : State} {n : Nat} (h : s.coreRuns n = false) (legal : Spire → Bool) (f : State → Spire → State) :
    s.svRun n legal f = ok s := by
  rw [State.svRun, h]
  rfl

theorem svArith_idle {s : State} {n : Nat} (h : s.coreRuns n = false) (res dst : Nat) (legal : Spire → Bool)
    (compute : Spire → Nat → Nat × Bool) : s.svArith n res dst legal compute = ok s := svRun_idle h _ _

theorem svBin_idle {s : State} {n : Nat} (h : s.coreRuns n = false) (res : Nat) (scalar : Bool) (wd ws1 r2 : Nat) (isFloat : Bool)
    (f : Spire → Nat → Nat → Nat) : s.svBin n res scalar wd ws1 r2 isFloat f = ok s := svArith_idle h _ _ _ _

/-! ## Two operands -/

/-- Whether the sources of a two-operand instruction are groups that are legal for the span. -/
def Spire.sourcesOk (x : Spire) (scalar : Bool) (ws1 r2 : Nat) : Bool := x.groups (if scalar then [ws1] else [ws1, r2])

theorem sourcesOk_iff {x : Spire} {scalar : Bool} {ws1 r2 : Nat} : x.sourcesOk scalar ws1 r2 = true ↔
    groupOk ws1 (svSpan x.span) = true ∧ (scalar = true ∨ groupOk r2 (svSpan x.span) = true) := by
  cases scalar <;> simp [Spire.sourcesOk, Spire.groups]

theorem sourcesOk_eq_false {x : Spire} {scalar : Bool} {ws1 r2 : Nat} : x.sourcesOk scalar ws1 r2 = false ↔
    groupOk ws1 (svSpan x.span) = false ∨ scalar = false ∧ groupOk r2 (svSpan x.span) = false := by
  rw [← Bool.not_eq_true, sourcesOk_iff, not_and_or, not_or, Bool.not_eq_true, Bool.not_eq_true, Bool.not_eq_true]

/-- The operands of lane i poisoned. -/
def Spire.binPoison (x : Spire) (scalar : Bool) (ws1 r2 i : Nat) : Bool :=
  x.elPoison ws1 (svBits x.ew) i || (x.opB scalar r2 i).2

section Binary

variable {s u : State} {n : Nat} {scalar : Bool} {wd ws1 r2 : Nat} {isFloat : Bool} {f : Spire → Nat → Nat → Nat}
  (hready : s.vecReady n u)
include hready

theorem svBin_legal (res : Nat) (hdst : groupOk wd (svSpan (u.sp n).span) = true)
    (hsrc : (u.sp n).sourcesOk scalar ws1 r2 = true) (hfloat : isFloat = false ∨ (u.sp n).ew ≠ 0) :
    s.svBin n res scalar wd ws1 r2 isFloat f = ok (((u.putLanes n wd (svBits (u.sp n).ew) ((u.lanes n).map (fun i =>
      (f (u.sp n) ((u.sp n).el ws1 (svBits (u.sp n).ew) i) ((u.sp n).opB scalar r2 i).1,
        (u.sp n).binPoison scalar ws1 r2 i)))).svEnd n res wd (svSpan (u.sp n).span) 0 0).coreDone n) := by
  refine svArith_legal hready hdst ?_
  rw [Spire.sourcesOk] at hsrc
  rw [hsrc]
  rcases hfloat with h | h <;> simp [h]

theorem svBin_illegal (res : Nat) (h : groupOk wd (svSpan (u.sp n).span) = false ∨ (u.sp n).sourcesOk scalar ws1 r2 = false ∨
    isFloat = true ∧ (u.sp n).ew = 0) : s.svBin n res scalar wd ws1 r2 isFloat f = ok ((u.illegal n).coreDone n) := by
  refine svArith_illegal hready (h.imp_right fun h => ?_)
  rw [Spire.sourcesOk] at h
  rcases h with h | ⟨h, hew⟩
  · simp only [h, Bool.false_and]
  · simp [h, hew]

end Binary

/-! ## The rows -/

section Rows

variable (n : Fin 288) (k res : Fin 3) (mx sgn scalar : Bool) (wd ws1 r2 : Fin 32) (s : State)

theorem exec_svAddSubMul : exec (.svAddSubMul n k res scalar wd ws1 r2) s = execSvAddSubMul n k res scalar wd ws1 r2 s := rfl
theorem exec_svMinMax : exec (.svMinMax n mx sgn res scalar wd ws1 r2) s = execSvMinMax n mx sgn res scalar wd ws1 r2 s := rfl
theorem exec_svAndOrXor : exec (.svAndOrXor n k res scalar wd ws1 r2) s = execSvAndOrXor n k res scalar wd ws1 r2 s := rfl
theorem exec_svSllSrlSra : exec (.svSllSrlSra n k res scalar wd ws1 r2) s = execSvSllSrlSra n k res scalar wd ws1 r2 s := rfl
theorem exec_svFaddFsubFmul : exec (.svFaddFsubFmul n k res scalar wd ws1 r2) s =
    execSvFaddFsubFmul n k res scalar wd ws1 r2 s := rfl
theorem exec_svFminFmax : exec (.svFminFmax n mx res scalar wd ws1 r2) s = execSvFminFmax n mx res scalar wd ws1 r2 s := rfl
theorem exec_svFmacc : exec (.svFmacc n res scalar wd ws1 r2) s = execSvFmacc n res scalar wd ws1 r2 s := rfl

end Rows

/-- Settles O32. Every row is one two-operand instruction, SV.FMACC one with its destination as third; a row's function is read off. -/
theorem vectorArithmetic : Obligations.VectorArithmetic := by
  refine ⟨fun n res scalar wd ws1 r2 s u hready hwd hws1 hr2 w hw a b ha hb put hput => ?_,
    fun n k res mx sgn scalar wd ws1 r2 s u bad hready hbad => ?_, fun n k res mx sgn scalar wd ws1 r2 s hidle => ?_⟩
  · subst hw
    have hsrc : (u.sp n).sourcesOk scalar ws1 r2 = true := sourcesOk_iff.2 ⟨hws1, hr2⟩
    have hint (f : Spire → Nat → Nat → Nat) :
        s.svBin n res scalar wd ws1 r2 false f = put (fun i => f (u.sp n) (a i) (b i)) := by
      rw [svBin_legal hready res hwd hsrc (.inl rfl), hput]
      simp only [ha, hb]
      rfl
    have hfloat (hew : (u.sp n).ew ≠ 0) (f : Spire → Nat → Nat → Nat) :
        s.svBin n res scalar wd ws1 r2 true f = put (fun i => f (u.sp n) (a i) (b i)) := by
      rw [svBin_legal hready res hwd hsrc (.inr hew), hput]
      simp only [ha, hb]
      rfl
    refine ⟨(exec_svAddSubMul ..).trans (hint _), (exec_svAddSubMul ..).trans (hint _), (exec_svAddSubMul ..).trans (hint _),
      fun _ _ => (exec_svMinMax ..).trans (hint _), (exec_svAndOrXor ..).trans (hint _), (exec_svAndOrXor ..).trans (hint _),
      (exec_svAndOrXor ..).trans (hint _), (exec_svSllSrlSra ..).trans (hint _), (exec_svSllSrlSra ..).trans (hint _),
      (exec_svSllSrlSra ..).trans (hint _), fun hew f hf => ?_⟩
    subst hf
    refine ⟨(exec_svFaddFsubFmul ..).trans (hfloat hew _), (exec_svFaddFsubFmul ..).trans (hfloat hew _),
      (exec_svFaddFsubFmul ..).trans (hfloat hew _), fun _ => (exec_svFminFmax ..).trans (hfloat hew _), ?_⟩
    rw [exec_svFmacc, execSvFmacc, svArith_legal hready hwd]
    · simp only [ha, hb]
    · rw [Spire.sourcesOk] at hsrc
      rw [hsrc]
      simp [hew]
  · have hgroups (h : bad) : groupOk wd (svSpan (u.sp n).span) = false ∨ (u.sp n).sourcesOk scalar ws1 r2 = false := by
      rw [sourcesOk_eq_false]
      exact hbad.mp h
    have hint (h : bad) (f : Spire → Nat → Nat → Nat) :
        s.svBin n res scalar wd ws1 r2 false f = ok ((u.illegal n).coreDone n) :=
      svBin_illegal hready res ((hgroups h).imp_right .inl)
    have hfloat (h : bad ∨ (u.sp n).ew = 0) (f : Spire → Nat → Nat → Nat) :
        s.svBin n res scalar wd ws1 r2 true f = ok ((u.illegal n).coreDone n) :=
      svBin_illegal hready res (h.elim (fun h => (hgroups h).imp_right .inl) fun h => .inr (.inr ⟨rfl, h⟩))
    refine ⟨fun h => ⟨(exec_svAddSubMul ..).trans (hint h _), (exec_svMinMax ..).trans (hint h _),
        (exec_svAndOrXor ..).trans (hint h _), (exec_svSllSrlSra ..).trans (hint h _)⟩,
      fun h => ⟨(exec_svFaddFsubFmul ..).trans (hfloat h _), (exec_svFminFmax ..).trans (hfloat h _), ?_⟩⟩
    rw [exec_svFmacc, execSvFmacc]
    refine svArith_illegal hready ?_
    rcases h with h | h
    · refine (hgroups h).imp_right fun hsrc => ?_
      rw [Spire.sourcesOk] at hsrc
      rw [hsrc, Bool.false_and]
    · exact .inr (by simp [h])
  · exact ⟨(exec_svAddSubMul ..).trans (svBin_idle hidle ..), (exec_svMinMax ..).trans (svBin_idle hidle ..),
      (exec_svAndOrXor ..).trans (svBin_idle hidle ..), (exec_svSllSrlSra ..).trans (svBin_idle hidle ..),
      (exec_svFaddFsubFmul ..).trans (svBin_idle hidle ..), (exec_svFminFmax ..).trans (svBin_idle hidle ..),
      (exec_svFmacc ..).trans (svArith_idle hidle ..)⟩

end Sys2Proof.Machine
end

section
/-! The short-vector unit's configuration, moves and power (R172, R173, R175, R189), and how an instruction ends (R187). -/

namespace Sys2Proof.Machine

open Sys2Proof

/-! ## The unit's registers -/

/-- The registers of a spire's short-vector unit (Table 8.6). -/
def vecRegs (n : Nat) : List Nat :=
  [R.VEC_STATUS n, R.VEC_FAULT_IDX n, R.VEC_FAULT_ADDR n, R.VEC_SCALE n, R.VEC_EVENTS n, R.VEC_COUNTS n, R.VEC_BUSY n]

theorem vecStatus_mem (n : Nat) : R.VEC_STATUS n ∈ vecRegs n := by simp [vecRegs]
theorem vecFaultIdx_mem (n : Nat) : R.VEC_FAULT_IDX n ∈ vecRegs n := by simp [vecRegs]
theorem vecCounts_mem (n : Nat) : R.VEC_COUNTS n ∈ vecRegs n := by simp [vecRegs]
theorem vecBusy_mem (n : Nat) : R.VEC_BUSY n ∈ vecRegs n := by simp [vecRegs]

theorem spireStatus_not_vecReg (n : Nat) : R.SPIRE_STATUS n ∉ vecRegs n := by
  simp only [vecRegs, R.SPIRE_STATUS, R.VEC_STATUS, R.VEC_FAULT_IDX, R.VEC_FAULT_ADDR, R.VEC_SCALE, R.VEC_EVENTS, R.VEC_COUNTS,
    R.VEC_BUSY, List.mem_cons, List.not_mem_nil, or_false, Nat.add_left_cancel_iff]
  decide

/-- What the unit writes of its own registers leaves CORE. -/
theorem WritesOnly.coreRuns_eq {s t : State} {n : Nat} (h : WritesOnly (vecRegs n) s t) : t.coreRuns n = s.coreRuns n :=
  congrArg (· == 1) (h.rd_eq (f := F.SPIRE_STATUS_CORE n) (spireStatus_not_vecReg n))

theorem writesOnly_svWake (s : State) (n : Nat) : WritesOnly (vecRegs n) s (s.svWake n) := by
  have hbusy : WritesOnly (vecRegs n) s (s.incw (F.VEC_BUSY_CYCLES n) (1 + s.free 0 (2 ^ 64))) :=
    writesOnly_wr s _ (vecBusy_mem n)
  simp only [State.svWake]
  split
  · exact hbusy
  · exact (hbusy.wr (f := F.VEC_STATUS_POWER n) 2 (vecStatus_mem n)).wr (f := F.VEC_COUNTS_WAKES n) _ (vecCounts_mem n)

theorem coreRuns_of_vecReady {s u : State} {n : Nat} (h : s.vecReady n u) : u.coreRuns n = true := by
  obtain ⟨hrun, rfl⟩ := h
  exact (writesOnly_svWake s n).coreRuns_eq.trans hrun

theorem sp_of_vecReady {s u : State} {n : Nat} (h : s.vecReady n u) (k : Nat) : u.sp k = s.sp k := by
  obtain ⟨-, rfl⟩ := h
  exact (writesOnly_svWake s n).regsFrame.sp_eq k

/-! ## The end of an instruction -/

theorem coreRuns_vecDone (s : State) (n rd : Nat) (v : Word) : (s.vecDone n rd v).coreRuns n = s.coreRuns n :=
  (writesOnly_wrReg s 0 (vecFaultIdx_mem n)).coreRuns_eq

theorem coreRuns_setSp (s : State) (n k : Nat) (x : Spire) : (s.setSp n x).coreRuns k = s.coreRuns k := rfl

theorem coreRuns_showVec (s : State) (n : Nat) : (s.showVec n).coreRuns n = s.coreRuns n :=
  ((writesOnly_wr (f := F.VEC_STATUS_CFG n) s _ (vecStatus_mem n)).wr (f := F.VEC_STATUS_VL n) _ (vecStatus_mem n)).coreRuns_eq

/-- A core whose short-vector instruction completes goes on. -/
theorem coreDone_vecDone {s : State} {n rd : Nat} {v : Word} (h : s.coreRuns n = true) :
    (s.vecDone n rd v).coreDone n = s.vecDone n rd v := coreDone_of_runs ((coreRuns_vecDone s n rd v).trans h)

section End

variable {s : State} {n res dst k rd : Nat} {v : Word}

theorem svEnd_completes (h : s.sealed = false ∨ res = 0) : s.svEnd n res dst k rd v = s.vecDone n rd v := by
  rw [State.svEnd, if_pos]
  rcases h with h | h <;> simp [h]

variable (hsealed : s.sealed = true) {u : State}
  (hu : u = (s.inc (F.VEC_COUNTS_RESIDUE_RETRIES n)).ev (F.VEC_EVENTS_RESIDUE_RETRY n))
include hsealed hu

theorem svEnd_matches (h : res = 1) : s.svEnd n res dst k rd v = u.vecDone n rd v := by
  simp [State.svEnd, hsealed, h, hu]

theorem svEnd_fails (h : res = 2) : s.svEnd n res dst k rd v = (((u.setSp n ((List.range (8 * k)).foldl
    (fun x i => x.setSlice dst i true) (u.sp n))).inc (F.VEC_COUNTS_RESIDUE_FAILS n)).ev (F.VEC_EVENTS_RESIDUE_FAIL n)).coreTrap n
      Cause.hardware 3 0 := by
  simp only [State.svEnd, hsealed, h, hu, Bool.not_true, Bool.false_or, OfNat.ofNat_ne_zero, OfNat.ofNat_ne_one, decide_false,
    Bool.false_eq_true, if_false]

end End

/-! ## Configuration and moves -/

section Move

theorem groups_singleton (x : Spire) (r : Nat) : x.groups [r] = groupOk r (svSpan x.span) := Bool.and_true _

variable {n : Fin 288} {rd rs1 rs2 wd ws ws1 ws2 : Fin 32}

theorem exec_svCfg (s : State) : exec (.svCfg n rd rs1 rs2) s = execSvCfg n rd rs1 rs2 s := rfl
theorem exec_svBcast (s : State) : exec (.svBcast n wd rs1) s = execSvBcast n wd rs1 s := rfl
theorem exec_svExt (s : State) : exec (.svExt n rd ws rs2) s = execSvExt n rd ws rs2 s := rfl
theorem exec_svPerm (s : State) : exec (.svPerm n wd ws1 ws2) s = execSvPerm n wd ws1 ws2 s := rfl

variable {s u : State} (hready : s.vecReady n u)
include hready

theorem exec_svCfg_legal {c vl : Nat} (hlegal : ((u.sp n).xr rs2).toNat < 32) (hc : c = ((u.sp n).xr rs2).toNat)
    (hvl : vl = min ((u.sp n).xr rs1).toNat (svVlmax (bits c 0 2) (bits c 2 2))) :
    exec (.svCfg n rd rs1 rs2) s = ok (((u.setSp n { u.sp n with
      ew := bits c 0 2, span := bits c 2 2, f16 := bits c 4 1, vl := vl }).showVec n).vecDone n rd (BitVec.ofNat 64 vl)) := by
  subst hc
  subst hvl
  rw [exec_svCfg, execSvCfg, svRun_legal hready _ _ (decide_eq_true hlegal)]
  exact congrArg ok (coreDone_vecDone ((coreRuns_showVec _ n).trans
    ((coreRuns_setSp u n n _).trans (coreRuns_of_vecReady hready))))

theorem exec_svCfg_illegal (h : 32 ≤ ((u.sp n).xr rs2).toNat) : exec (.svCfg n rd rs1 rs2) s = ok ((u.illegal n).coreDone n) := by
  rw [exec_svCfg, execSvCfg, svRun_illegal hready _ _ (decide_eq_false (not_lt.2 h))]

/-- A move without residues completes. -/
theorem svArith_moves {dst : Nat} {legal : Spire → Bool} {compute : Spire → Nat → Nat × Bool}
    (hdst : groupOk dst (svSpan (u.sp n).span) = true) (hlegal : legal (u.sp n) = true) :
    s.svArith n 0 dst legal compute = ok ((u.putLanes n dst (svBits (u.sp n).ew)
      ((u.lanes n).map (compute (u.sp n)))).vecDone n 0 0) := by
  rw [svArith_legal hready hdst hlegal, svEnd_completes (.inr rfl), coreDone_vecDone]
  exact (coreRuns_setSp u n n _).trans (coreRuns_of_vecReady hready)

theorem exec_svBcast_legal (hwd : groupOk wd (svSpan (u.sp n).span) = true) :
    exec (.svBcast n wd rs1) s = ok ((u.putLanes n wd (svBits (u.sp n).ew) ((u.lanes n).map (fun _ =>
      (((u.sp n).xr rs1).toNat % 2 ^ svBits (u.sp n).ew, false)))).vecDone n 0 0) :=
  (exec_svBcast s).trans (svArith_moves hready hwd rfl)

theorem exec_svExt_legal {i w : Nat} (hws : groupOk ws (svSpan (u.sp n).span) = true) (hi : i = ((u.sp n).xr rs2).toNat)
    (hw : w = svBits (u.sp n).ew) : exec (.svExt n rd ws rs2) s = ok ((if (u.sp n).vl ≤ u.vecIdx n then u.vecDone n 0 0
      else if svVlmax (u.sp n).ew (u.sp n).span ≤ i then u.vecDone n rd 0
      else if (u.sp n).elPoison ws w i then u.coreTrap n Cause.hardware 3 0
      else u.vecDone n rd (BitVec.ofNat 64 (sext64 w ((u.sp n).el ws w i)))).coreDone n) := by
  subst hi
  subst hw
  exact (exec_svExt s).trans (svRun_legal hready _ _ ((groups_singleton _ _).trans hws))

theorem exec_svPerm_legal {k w : Nat} (hk : k = svSpan (u.sp n).span) (hw : w = svBits (u.sp n).ew)
    (hwd : groupOk wd k = true) (hws1 : groupOk ws1 k = true) (hws2 : groupOk ws2 k = true)
    (hmeet1 : groupsMeet wd k ws1 k = false) (hmeet2 : groupsMeet wd k ws2 k = false) :
    exec (.svPerm n wd ws1 ws2) s = ok ((u.putLanes n wd w ((u.lanes n).map (fun i =>
      if (u.sp n).el ws2 w i < (u.sp n).vl then ((u.sp n).el ws1 w ((u.sp n).el ws2 w i),
        (u.sp n).elPoison ws2 w i || (u.sp n).elPoison ws1 w ((u.sp n).el ws2 w i))
      else (0, (u.sp n).elPoison ws2 w i)))).vecDone n 0 0) := by
  subst hk
  subst hw
  refine (exec_svPerm s).trans (svArith_moves hready hwd ?_)
  simp [Spire.groups, hws1, hws2, hmeet1, hmeet2]

/-- A move whose source, or whose destination, is no group that is legal for the span. -/
theorem exec_svMove_illegal (hws : groupOk ws (svSpan (u.sp n).span) = false) :
    exec (.svBcast n ws rs1) s = ok ((u.illegal n).coreDone n) ∧ exec (.svExt n rd ws rs2) s = ok ((u.illegal n).coreDone n) ∧
    exec (.svPerm n wd ws ws2) s = ok ((u.illegal n).coreDone n) := by
  refine ⟨(exec_svBcast s).trans (svArith_illegal hready (.inl hws)),
    (exec_svExt s).trans (svRun_illegal hready _ _ ((groups_singleton _ _).trans hws)),
    (exec_svPerm s).trans (svArith_illegal hready (.inr ?_))⟩
  simp [Spire.groups, hws]

end Move

/-! ## Power -/

theorem exec_svPowerDown (n : Fin 288) (s : State) : exec (.svPowerDown n) s = ok (s.wr (F.VEC_STATUS_POWER n) 0) := rfl

theorem svPowerDown_clears (n : Fin 288) (s : State) : Does (.svPowerDown n) s (fun t => t.rd (F.VEC_STATUS_POWER n) = 0 ∧
    s.keepsMem t ∧ s.keepsRegs t [R.VEC_STATUS n] ∧ t.spires = s.spires) := by
  refine does_of_ok (exec_svPowerDown n s) fun t ht => ⟨?_, keepsMem_of_ok ht ⟨rfl, rfl, rfl⟩,
    (writesOnly_wr s 0 (List.mem_singleton_self _)).keepsRegs_of_ok ht, ?_⟩
  · rw [rd_of_ok (f := F.VEC_STATUS_POWER n) ht (spireReg_not_count n _), State.rd_wr_same s _ 0 (by rfl), Nat.zero_mod]
  · rw [rest_of_ok ht]
    rfl

end Sys2Proof.Machine
end

section
/-! Reductions of the short-vector unit (R184): elements combined pairwise, and what the sum, the minimum and the maximum come to. -/

namespace Sys2Proof.Machine

open Sys2Proof

/-! ## Pairwise combination -/

/-- One level of the tree: neighbours combined. -/
def pairLevel (f : Nat → Nat → Nat) : List Nat → List Nat
  | [] => []
  | [_] => []
  | a :: b :: l => f a b :: pairLevel f l

theorem pairLevel_eq (f : Nat → Nat → Nat) : ∀ l : List Nat,
    (List.range (l.length / 2)).map (fun i => f (l.getD (2 * i) 0) (l.getD (2 * i + 1) 0)) = pairLevel f l
  | [] => rfl
  | [_] => by simp [pairLevel]
  | a :: b :: l => by
    rw [pairLevel, ← pairLevel_eq f l, List.length_cons, List.length_cons, show (l.length + 1 + 1) / 2 = l.length / 2 + 1 by omega,
      List.range_succ_eq_map, List.map_cons, List.map_map]
    rfl

theorem pairwise_succ (f : Nat → Nat → Nat) (k : Nat) (l : List Nat) : pairwise f (k + 1) l = pairwise f k (pairLevel f l) := by
  rw [pairwise, pairLevel_eq]

theorem length_pairLevel (f : Nat → Nat → Nat) : ∀ l : List Nat, (pairLevel f l).length = l.length / 2
  | [] => rfl
  | [_] => by simp [pairLevel]
  | a :: b :: l => by
    rw [pairLevel, List.length_cons, length_pairLevel f l, List.length_cons, List.length_cons]
    omega

section Fold

variable {M : Type} {φ : Nat → M} {op : M → M → M} {f : Nat → Nat → Nat} (hf : ∀ a b, φ (f a b) = op (φ a) (φ b))
  (hassoc : ∀ x y z, op (op x y) z = op x (op y z))
include hf hassoc

theorem foldl_pairLevel : ∀ (l : List Nat) (e : M), l.length % 2 = 0 →
    ((pairLevel f l).map φ).foldl op e = (l.map φ).foldl op e
  | [], _, _ => rfl
  | a :: b :: l, e, h => by
    rw [pairLevel, List.map_cons, List.foldl_cons, foldl_pairLevel l _ (by simp only [List.length_cons] at h; omega), hf, ← hassoc]
    rfl

/-- Of 2^k elements the pairwise combination is their fold. -/
theorem foldl_pairwise : ∀ (k : Nat) (l : List Nat) (e : M), l.length = 2 ^ k →
    op e (φ (pairwise f k l)) = (l.map φ).foldl op e
  | 0, l, e, h => by
    obtain ⟨a, rfl⟩ := List.length_eq_one_iff.1 h
    rfl
  | k + 1, l, e, h => by
    rw [pow_succ] at h
    rw [pairwise_succ, foldl_pairwise k _ e (by rw [length_pairLevel]; omega), foldl_pairLevel hf hassoc l e (by omega)]

omit hf hassoc in
theorem foldl_replicate_of_absorbed {a e : M} (h : op a e = a) : ∀ m : Nat, (List.replicate m e).foldl op a = a
  | 0 => rfl
  | m + 1 => by rw [List.replicate_succ, List.foldl_cons, h, foldl_replicate_of_absorbed h m]

/-- Padding with an element that folds to no change makes any number of elements 2^k. -/
theorem foldl_pairwise_padded {e : M} {pad k : Nat} {xs : List Nat} (hpad : φ pad = e)
    (habsorb : ∀ l : List M, op (l.foldl op e) e = l.foldl op e) (hlen : xs.length ≤ 2 ^ k) :
    op e (φ (pairwise f k (xs ++ List.replicate (2 ^ k - xs.length) pad))) = (xs.map φ).foldl op e := by
  rw [foldl_pairwise hf hassoc k _ e (by rw [List.length_append, List.length_replicate]; omega), List.map_append,
    List.foldl_append, List.map_replicate, hpad, foldl_replicate_of_absorbed (habsorb _)]

end Fold

theorem foldl_min_le : ∀ (l : List Int) (a : Int), l.foldl min a ≤ a
  | [], _ => le_rfl
  | b :: l, a => (foldl_min_le l (min a b)).trans (min_le_left a b)

theorem le_foldl_max : ∀ (l : List Int) (a : Int), a ≤ l.foldl max a
  | [], _ => le_rfl
  | b :: l, a => (le_max_left a b).trans (le_foldl_max l (max a b))

theorem le_two_pow_ceilLog2 (k : Nat) : k ≤ 2 ^ ceilLog2 k := by
  unfold ceilLog2
  split
  · simpa
  · have := Nat.lt_log2_self (n := k - 1)
    omega

/-! ## Two's complement -/

theorem signed_mod (w v : Nat) : signed w (v % 2 ^ w) = signed w v := by simp only [signed, Nat.mod_mod]

theorem sext64_mod (w v : Nat) : sext64 w (v % 2 ^ w) = sext64 w v := by rw [sext64, sext64, signed_mod]

theorem ofNat_sext64 (w v : Nat) : BitVec.ofNat 64 (sext64 w v) = BitVec.ofInt 64 (signed w v) := by
  apply BitVec.eq_of_toNat_eq
  rw [BitVec.toNat_ofNat, BitVec.toNat_ofInt, sext64, unsigned]
  have := Int.emod_lt_of_pos (signed w v) (show (0 : Int) < ((2 ^ 64 : Nat) : Int) by decide)
  have := Int.emod_nonneg (signed w v) (show ((2 ^ 64 : Nat) : Int) ≠ 0 by decide)
  omega

section Signed

variable {w : Nat} (hw : 0 < w)
include hw

theorem two_pow_pred : 2 ^ w = 2 * 2 ^ (w - 1) := by rw [← pow_succ', Nat.sub_add_cancel hw]

theorem signed_le (v : Nat) : signed w v ≤ 2 ^ (w - 1) - 1 := by
  have hv : v % 2 ^ w < 2 ^ w := Nat.mod_lt _ (by positivity)
  have hpow := two_pow_pred hw
  have hcast : ((2 ^ (w - 1) : Nat) : Int) = 2 ^ (w - 1) := by push_cast; rfl
  simp only [signed]
  rw [← hcast]
  split <;> omega

theorem le_signed (v : Nat) : -2 ^ (w - 1) ≤ signed w v := by
  have hpow := two_pow_pred hw
  have hcast : ((2 ^ (w - 1) : Nat) : Int) = 2 ^ (w - 1) := by push_cast; rfl
  simp only [signed]
  rw [← hcast]
  split <;> omega

theorem signed_greatest : signed w (2 ^ (w - 1) - 1) = 2 ^ (w - 1) - 1 := by
  have hpow := two_pow_pred hw
  have hpos : 0 < 2 ^ (w - 1) := by positivity
  have hcast : ((2 ^ (w - 1) : Nat) : Int) = 2 ^ (w - 1) := by push_cast; rfl
  simp only [signed]
  rw [Nat.mod_eq_of_lt (by omega), if_pos (by omega), ← hcast]
  omega

theorem signed_least : signed w (2 ^ (w - 1)) = -2 ^ (w - 1) := by
  have hpow := two_pow_pred hw
  have hpos : 0 < 2 ^ (w - 1) := by positivity
  have hcast : ((2 ^ (w - 1) : Nat) : Int) = 2 ^ (w - 1) := by push_cast; rfl
  simp only [signed]
  rw [Nat.mod_eq_of_lt (by omega), if_neg (by omega), ← hcast]
  omega

end Signed

theorem signed_iminMax (w : Nat) (mx : Bool) (a b : Nat) : signed w (iminMax w mx true a b) =
    if mx then max (signed w a) (signed w b) else min (signed w a) (signed w b) := by
  cases mx <;> by_cases h : signed w a < signed w b <;> simp [iminMax, h] <;> omega

/-! ## What the reductions come to -/

section Reductions

variable {w k : Nat} {xs : List Nat} (hlen : xs.length ≤ 2 ^ k)
include hlen

theorem pairwise_sum : pairwise (fun a b => (a + b) % 2 ^ w) k (xs ++ List.replicate (2 ^ k - xs.length) 0) % 2 ^ w =
    xs.sum % 2 ^ w := by
  have h := foldl_pairwise_padded (M := ZMod (2 ^ w)) (φ := (↑·)) (op := (· + ·)) (f := fun a b => (a + b) % 2 ^ w) (e := 0)
    (fun a b => by rw [ZMod.natCast_mod, Nat.cast_add]) add_assoc Nat.cast_zero (fun _ => add_zero _) hlen
  rw [zero_add, ← List.sum_eq_foldl, ← Nat.cast_list_sum] at h
  exact (ZMod.natCast_eq_natCast_iff' _ _ _).1 h

variable (hw : 0 < w)
include hw

theorem pairwise_minimum :
    signed w (pairwise (iminMax w false true) k (xs ++ List.replicate (2 ^ k - xs.length) (2 ^ (w - 1) - 1))) =
      (xs.map (signed w)).foldl min (2 ^ (w - 1) - 1) := by
  rw [← foldl_pairwise_padded (φ := signed w) (signed_iminMax w false) min_assoc (signed_greatest hw)
    (fun l => min_eq_left (foldl_min_le l _)) hlen]
  exact (min_eq_right (signed_le hw _)).symm

theorem pairwise_maximum :
    signed w (pairwise (iminMax w true true) k (xs ++ List.replicate (2 ^ k - xs.length) (2 ^ (w - 1)))) =
      (xs.map (signed w)).foldl max (-2 ^ (w - 1)) := by
  rw [← foldl_pairwise_padded (φ := signed w) (signed_iminMax w true) max_assoc (signed_least hw)
    (fun l => max_eq_left (le_foldl_max l _)) hlen]
  exact (max_eq_right (le_signed hw _)).symm

end Reductions

/-! ## The rows -/

theorem exec_svRsumRminRmax (n : Fin 288) (k res : Fin 3) (rd ws : Fin 32) (s : State) :
    exec (.svRsumRminRmax n k res rd ws) s = execSvRsumRminRmax n k res rd ws s := rfl
theorem exec_svFrsumFrminFrmax (n : Fin 288) (k res : Fin 3) (rd ws : Fin 32) (s : State) :
    exec (.svFrsumFrminFrmax n k res rd ws) s = execSvFrsumFrminFrmax n k res rd ws s := rfl

section Reduce

variable {s u : State} {n rd ws : Nat} {isFloat : Bool} {ident : Spire → Nat} {f : Spire → Nat → Nat → Nat}
  {out : Spire → Nat → Nat} (res : Nat) (hready : s.vecReady n u)
include hready

theorem svReduce_illegal (hws : groupOk ws (svSpan (u.sp n).span) = false) :
    s.svReduce n res rd ws isFloat ident f out = ok ((u.illegal n).coreDone n) := by
  rw [State.svReduce, svRun_illegal hready]
  rw [groups_singleton, hws, Bool.false_and]

variable (hws : groupOk ws (svSpan (u.sp n).span) = true) (hfloat : isFloat = false ∨ (u.sp n).ew ≠ 0)
include hws hfloat

theorem svReduce_runs : s.svReduce n res rd ws isFloat ident f out =
    ok ((if (List.range (u.sp n).vl).any (fun i => (u.sp n).elPoison ws (svBits (u.sp n).ew) i) then
        u.coreTrap n Cause.hardware 3 0
      else u.svEnd n res 0 0 rd (BitVec.ofNat 64 (out (u.sp n) (pairwise (f (u.sp n)) (ceilLog2 (u.sp n).vl)
        ((List.range (u.sp n).vl).map (fun i => (u.sp n).el ws (svBits (u.sp n).ew) i) ++
          List.replicate (2 ^ ceilLog2 (u.sp n).vl - (u.sp n).vl) (ident (u.sp n))))))).coreDone n) := by
  refine svRun_legal hready _ _ ?_
  rw [groups_singleton, hws]
  rcases hfloat with h | h <;> simp [h]

theorem svReduce_poisoned {i : Nat} (hi : i < (u.sp n).vl) (hpoison : (u.sp n).elPoison ws (svBits (u.sp n).ew) i = true) :
    s.svReduce n res rd ws isFloat ident f out = ok ((u.coreTrap n Cause.hardware 3 0).coreDone n) := by
  rw [svReduce_runs res hready hws hfloat, if_pos (List.any_eq_true.2 ⟨i, List.mem_range.2 hi, hpoison⟩)]

theorem svReduce_clean (hclean : ∀ i < (u.sp n).vl, (u.sp n).elPoison ws (svBits (u.sp n).ew) i = false) :
    s.svReduce n res rd ws isFloat ident f out = ok ((u.svEnd n res 0 0 rd (BitVec.ofNat 64 (out (u.sp n)
      (pairwise (f (u.sp n)) (ceilLog2 (u.sp n).vl) ((List.range (u.sp n).vl).map (fun i => (u.sp n).el ws (svBits (u.sp n).ew) i) ++
        List.replicate (2 ^ ceilLog2 (u.sp n).vl - (u.sp n).vl) (ident (u.sp n))))))).coreDone n) := by
  have hnone : (List.range (u.sp n).vl).any (fun i => (u.sp n).elPoison ws (svBits (u.sp n).ew) i) = false :=
    List.any_eq_false.2 fun i hi => ne_true_of_eq_false (hclean i (List.mem_range.1 hi))
  rw [svReduce_runs res hready hws hfloat, if_neg (ne_true_of_eq_false hnone)]

end Reduce

/-- Settles O33. Configuration, moves and power by their rows; a reduction by what its pairwise combination comes to. -/
theorem vectorConfigurationMovesAndReductions : Obligations.VectorConfigurationMovesAndReductions := by
  refine ⟨fun ew k => rfl, fun s n res dst k rd v h => svEnd_completes h,
    fun s u n res dst k rd v hsealed _ hu => ⟨svEnd_matches hsealed hu, svEnd_fails hsealed hu⟩,
    fun n rd rs1 rs2 s u hready hlegal c vl hc hvl => exec_svCfg_legal hready hlegal hc hvl,
    fun n rd rs1 rs2 s u hready h => exec_svCfg_illegal hready h, fun n wd rs1 s u hready hwd => exec_svBcast_legal hready hwd,
    fun n k res rd wd ws ws2 s u hready hws => ?_,
    fun n rd ws rs2 s u i w hready hws hi hw => exec_svExt_legal hready hws hi hw,
    fun n wd ws1 ws2 s u k w hready hk hw hwd hws1 hws2 hmeet1 hmeet2 =>
      exec_svPerm_legal hready hk hw hwd hws1 hws2 hmeet1 hmeet2,
    fun n res rd ws s u w xs give hready _ hws hw hxs hclean hgive => ?_,
    fun n k res rd ws s u i hready hws hi hpoison => ⟨?_, fun hew => ?_⟩,
    svPowerDown_clears, fun h s => rfl⟩
  · obtain ⟨hbcast, hext, hperm⟩ := exec_svMove_illegal (rd := rd) (rs1 := rd) (rs2 := wd) (wd := wd) (ws2 := ws2) hready hws
    refine ⟨hbcast, hext, hperm, ?_, ?_⟩
    · rw [exec_svRsumRminRmax, execSvRsumRminRmax, svReduce_illegal res hready hws]
    · rw [exec_svFrsumFrminFrmax, execSvFrsumFrminFrmax, svReduce_illegal res hready hws]
  · subst hw
    have hlen : xs.length = (u.sp n).vl := by rw [hxs, List.length_map, List.length_range]
    have hfits : xs.length ≤ 2 ^ ceilLog2 (u.sp n).vl := hlen ▸ le_two_pow_ceilLog2 _
    have hpos : 0 < svBits (u.sp n).ew := by unfold svBits; positivity
    have hsum : sext64 (svBits (u.sp n).ew) (pairwise (fun a b => (a + b) % 2 ^ svBits (u.sp n).ew) (ceilLog2 (u.sp n).vl)
        (xs ++ List.replicate (2 ^ ceilLog2 (u.sp n).vl - (u.sp n).vl) 0)) =
        sext64 (svBits (u.sp n).ew) (xs.sum % 2 ^ svBits (u.sp n).ew) := by
      have h := pairwise_sum (w := svBits (u.sp n).ew) hfits
      rw [hlen] at h
      exact (sext64_mod _ _).symm.trans (congrArg _ h)
    refine ⟨?_, ?_, ?_, fun hew f lv pad hf hlv hpad => ?_⟩
    · rw [exec_svRsumRminRmax, execSvRsumRminRmax, svReduce_clean res hready hws (.inl rfl) hclean, ← hgive, ← hxs]
      exact congrArg (fun v => give (BitVec.ofNat 64 v)) hsum
    · rw [exec_svRsumRminRmax, execSvRsumRminRmax, svReduce_clean res hready hws (.inl rfl) hclean, ← hgive, ← hxs, ofNat_sext64,
        ← pairwise_minimum hfits hpos, hlen]
      rfl
    · rw [exec_svRsumRminRmax, execSvRsumRminRmax, svReduce_clean res hready hws (.inl rfl) hclean, ← hgive, ← hxs, ofNat_sext64,
        ← pairwise_maximum hfits hpos, hlen]
      rfl
    · subst hf
      subst hlv
      simp only [exec_svFrsumFrminFrmax, execSvFrsumFrminFrmax, svReduce_clean res hready hws (.inr hew) hclean, ← hgive, ← hxs,
        hpad]
      exact ⟨rfl, rfl, rfl⟩
  · rw [exec_svRsumRminRmax, execSvRsumRminRmax, svReduce_poisoned res hready hws (.inl rfl) hi hpoison]
  · rw [exec_svFrsumFrminFrmax, execSvFrsumFrminFrmax, svReduce_poisoned res hready hws (.inr hew) hi hpoison]

end Sys2Proof.Machine
end

section
/-! The Dome harts: what a completed instruction and a trap leave, and the floating-point and vector instructions
(R159, R190, R247). -/

namespace Sys2Proof.Machine

open Sys2Proof

/-! ## A hart that runs, and one that does not -/

theorem onHart_does {s : State} {h : Nat} (hrun : s.hartRuns h = true) (f : State → State) : s.onHart h f = ok (f s) := if_pos hrun

theorem onHart_idle {s : State} {h : Nat} (hidle : s.hartRuns h = false) (f : State → State) : s.onHart h f = ok s :=
  if_neg (ne_true_of_eq_false hidle)

/-! ## Integer registers of a hart -/

@[simp] theorem hartSetX_zero (x : Hart) (v : Word) : x.setX 0 v = x := if_pos rfl

theorem hartSetX_integer {rd : Nat} (x : Hart) (v : Word) (hrd : 0 < rd) (hrd' : rd < 32) :
    x.setX rd v = { x with x := mput x.x rd v } := by
  rw [Hart.setX, if_neg hrd.ne', if_pos hrd']

theorem hartXr_setX_same {rd : Nat} (x : Hart) (v : Word) (hrd : 0 < rd) (hrd' : rd < 32) : (x.setX rd v).xr rd = v := by
  rw [hartSetX_integer x v hrd hrd', Hart.xr, if_neg hrd.ne']
  exact mget_mput_same _ _ _ _

theorem hartXr_setX_ne {r rd : Nat} (x : Hart) (v : Word) (hrd : 0 < rd) (hrd' : rd < 32) (h : r ≠ rd) :
    (x.setX rd v).xr r = x.xr r := by
  rw [hartSetX_integer x v hrd hrd', Hart.xr, Hart.xr]
  exact congrArg _ (mget_mput_ne _ _ _ h)

/-! ## Completion and traps -/

theorem hart_hartNext (s : State) (h rd : Nat) (v : Word) :
    (s.hartNext h rd v).hart h = { (s.hart h).setX rd v with pc := (s.hart h).pc + 4, trapped := false } :=
  State.hart_setHart_same _ _ _

theorem xr_hartNext (s : State) (h rd r : Nat) (v : Word) : ((s.hartNext h rd v).hart h).xr r = ((s.hart h).setX rd v).xr r := by
  rw [hart_hartNext]
  rfl

theorem hart_hartNext_ne (s : State) {h k : Nat} (rd : Nat) (v : Word) (hk : k ≠ h) : (s.hartNext h rd v).hart k = s.hart k :=
  State.hart_setHart_ne _ _ hk

theorem hart_hartTrap (s : State) (h cause tval : Nat) : (s.hartTrap h cause tval).hart h =
    { s.hart h with cause := cause, epc := (s.hart h).pc, tval := tval, trapped := true, remote := none } :=
  State.hart_setHart_same _ _ _

/-! ## The rows of the harts' instructions -/

section Rows

variable (h : Fin 64) (s : State) (rd rs1 rs2 rs3 : Fin 32)

theorem exec_domeLoadStore (store fp : Bool) (size : Fin 4) (sgn : Bool) (imm : Fin 4096) (ecc : EccFind) :
    exec (.domeLoadStore h store fp size sgn rd rs1 rs2 imm ecc) s =
      execDomeLoadStore h store fp size sgn rd rs1 rs2 imm ecc s := rfl
theorem exec_domeAmo (op : AmoOp) (wide : Bool) (mres : Fin 3) (ecc : EccFind) :
    exec (.domeAmo h op wide rd rs1 rs2 mres ecc) s = execDomeAmo h op wide rd rs1 rs2 mres ecc s := rfl
theorem exec_domeFloatInstruction (op : FloatOp) (fm : FFmt) (rm : Fin 8) :
    exec (.domeFloatInstruction h op fm rm rd rs1 rs2 rs3) s = execDomeFloatInstruction h op fm rm rd rs1 rs2 rs3 s := rfl
theorem exec_domeVectorInstruction (op : VecOp) (form : VForm) (vm : Bool) :
    exec (.domeVectorInstruction h op form vm rd rs1 rs2) s = execDomeVectorInstruction h op form vm rd rs1 rs2 s := rfl
theorem exec_domeVectorMemory (store : Bool) (addr : VAddr) (eew : Fin 4) (nf : Fin 8) (vm : Bool) (data : List (Byte × Bool))
    (dead refused : List Nat) (ecc : EccFinds) : exec (.domeVectorMemory h store addr eew nf vm rd rs1 rs2 data dead refused ecc) s =
      execDomeVectorMemory h store addr eew nf vm rd rs1 rs2 data dead refused ecc s := rfl
theorem exec_dTwait : exec (.dTwait h rs1) s = execDTwait h rs1 s := rfl
theorem exec_dTwaitExpiry : exec (.dTwaitExpiry h) s = execDTwaitExpiry h s := rfl
theorem exec_dTime (now : Nat) : exec (.dTime h rd now) s = execDTime h rd now s := rfl
theorem exec_pkst (far : Vector (BitVec 8) 64) (mark dead refused : Bool) :
    exec (.pkst h rs1 rs2 far mark dead refused) s = execPkst h rs1 rs2 far mark dead refused s := rfl

end Rows

/-- Settles O35. What `hartNext` and `hartTrap` leave, and that a hart's rows act through `onHart`. -/
theorem domeInstructionsCompleteOrTrap : Obligations.DomeInstructionsCompleteOrTrap := by
  refine ⟨fun s h rd v hrd hrd' => ⟨?_, ?_, fun r hr => ?_⟩, fun s h v => ?_,
    fun s h rd v => ⟨rfl, fun k hk => hart_hartNext_ne s rd v hk⟩, fun s h cause tval => ?_,
    fun h s _ _ _ _ _ _ _ _ _ _ _ _ _ _ _ _ _ _ _ _ _ _ _ _ _ _ hidle => ?_⟩
  · rw [xr_hartNext, hartXr_setX_same _ _ hrd hrd']
  · rw [hart_hartNext]
  · rw [xr_hartNext, hartXr_setX_ne _ _ hrd hrd' hr]
  · rw [hart_hartNext, hartSetX_zero]
  · rw [hart_hartTrap]
    exact ⟨rfl, rfl, rfl, rfl, rfl, rfl⟩
  · exact ⟨(exec_domeLoadStore ..).trans (onHart_idle hidle _), (exec_domeAmo ..).trans (onHart_idle hidle _),
      (exec_domeFloatInstruction ..).trans (onHart_idle hidle _), (exec_domeVectorInstruction ..).trans (onHart_idle hidle _),
      (exec_domeVectorMemory ..).trans (onHart_idle hidle _), (exec_dTwait ..).trans (onHart_idle hidle _),
      (exec_dTime ..).trans (onHart_idle hidle _), (exec_pkst ..).trans (onHart_idle hidle _)⟩

/-- Settles O36. A floating-point instruction is illegal by its operation, format and rm field; a vector one where it has no result. -/
theorem domeFloatAndVectorInstructions : Obligations.DomeFloatAndVectorInstructions := by
  refine ⟨fun h op fm rm rd rs1 rs2 rs3 s hrun hexists hrm => ?_, fun h op fm rm rd rs1 rs2 rs3 s hrun hillegal => ?_,
    fun h op form vm vd vs1 vs2 s x hrun hx => ?_, fun h op form vm vd vs1 vs2 s hrun hnone => ?_⟩
  · rw [exec_domeFloatInstruction, execDomeFloatInstruction, onHart_does hrun, if_neg]
    rcases hrm with hrm | rfl | rfl
    · simp [hexists, hrm]
    · simp [hexists]
    · simp [hexists]
  · rw [exec_domeFloatInstruction, execDomeFloatInstruction, onHart_does hrun, if_pos, State.hartIllegal]
    rcases hillegal with hnone | ⟨hrm, h0, h7⟩
    · simp [hnone]
    · have h7' : rm.val ≠ 7 := Fin.val_ne_of_ne h7
      simp [hrm, h0, h7']
  · rw [exec_domeVectorInstruction, execDomeVectorInstruction, onHart_does hrun]
    simp only [hx]
  · rw [exec_domeVectorInstruction, execDomeVectorInstruction, onHart_does hrun]
    simp only [hnone, State.hartIllegal]

end Sys2Proof.Machine
end

section
/-! Loads, stores and AMOs of the Dome harts (R22, R191, R247, R248): where the address leads decides what an access does. -/

namespace Sys2Proof.Machine

open Sys2Proof

/-! ## The control region, and what the ECC finds -/

/-- The control region is no memory: it lies above the tiers and the scratchpads. -/
theorem coreMay_control {l : Nat} (s : State) (n : Nat) (h : isControl l = true) : s.coreMay l n = false := by
  simp only [isControl, Bool.and_eq_true, decide_eq_true_eq] at h
  have htier : inTiers l n = false := by
    simp only [inTiers, inNear, inDeep, Bool.or_eq_false_iff, Bool.and_eq_false_iff, decide_eq_false_iff_not]
    omega
  have hscratch : isScratch l = false := by
    refine Bool.eq_false_iff.2 fun hs => ?_
    simp only [isScratch, Bool.and_eq_true, decide_eq_true_eq] at hs
    unfold scratchBase at hs
    omega
  rw [State.coreMay, State.backed, State.scratchBacked, htier, hscratch]
  rfl

section Ecc

variable {s : State} {a : Nat} (n : Nat) (store : Bool)

theorem domeEcc_clean : s.domeEcc a n store .clean = s := by
  simp only [State.domeEcc, State.eccFound, ite_self]
  split <;> rfl

/-- The ECC finds nothing at an address that names no memory of this node, -/
theorem domeEcc_elsewhere (h : ∀ t, s.domeTarget a = some t → t.remote = true) (ecc : EccFind) :
    s.domeEcc a n store ecc = s := by
  unfold State.domeEcc
  split
  next l hl => exact nomatch h _ hl
  next l hl => exact nomatch h _ hl
  next => rfl

/-- nor at a control register. -/
theorem domeEcc_control {l : Nat} (hl : s.domeTarget a = some (.here l)) (hcontrol : isControl l = true) (ecc : EccFind) :
    s.domeEcc a n store ecc = s := by
  simp [State.domeEcc, hl, coreMay_control s n hcontrol]

end Ecc

/-! ## Bytes of this node -/

section Here

variable {s : State} {h a l n : Nat} (hport : isCommandPort l = false)
include hport

theorem domeRead_control (hcontrol : isControl l = true) (hok : controlOk l n = true) {u : State}
    (hu : u = s.counted (l / 8 * 8)) : s.domeRead h (.here l) n = (if l / 8 * 8 = R.TB_NOW then u.latchFine h else u,
      .inr (natLE n (u.regRead (l / 8 * 8) h >>> (8 * (l % 8))))) := by
  simp [State.domeRead, hport, hcontrol, hok, hu]

theorem domeWrite_control {bs : Bytes} (hcontrol : isControl l = true) (hok : controlOk l bs.length = true) :
    s.domeWrite h a (.here l) bs = (s.controlWrite l bs.length (leNat bs), 0) := by
  simp [State.domeWrite, hport, hcontrol, hok]

variable (hcontrol : isControl l = false)
include hcontrol

theorem domeRead_memory (hmay : s.coreMay l n = true) : s.domeRead h (.here l) n =
    if s.poisoned l n then (s, .inl Cause.hardware) else (s.domeHold l n false, .inr (s.readBytes l n)) := by
  simp [State.domeRead, hport, hcontrol, hmay]

theorem domeWrite_memory {bs : Bytes} (hmay : s.coreMay l bs.length = true) (hctx : s.ctxHit l bs.length = none) :
    s.domeWrite h a (.here l) bs = (s.domePut h l bs, 0) := by
  simp [State.domeWrite, hport, hcontrol, hmay, hctx]

end Here

/-! ## A load -/

section Load

variable {s : State} {h rd a size : Nat} {sgn : Bool} {t : Target}

theorem domeLoad_nowhere (ht : s.domeTarget a = none) : s.domeLoad h rd a size sgn = s.hartTrap h Cause.load a := by
  simp only [State.domeLoad, ht]

variable (ht : s.domeTarget a = some t)
include ht

theorem domeLoad_misaligned (hremote : t.remote = true) (h0 : a % size ≠ 0) :
    s.domeLoad h rd a size sgn = s.hartTrap h Cause.loadMisaligned a := by
  simp [State.domeLoad, ht, hremote, h0]

theorem domeLoad_stalls (hremote : t.remote = true) (h0 : a % size = 0) (hstall : s.stalls (hartEngine h) t = true) :
    s.domeLoad h rd a size sgn = s := by
  simp [State.domeLoad, ht, hremote, h0, hstall]

theorem domeLoad_remote (hremote : t.remote = true) (h0 : a % size = 0) (hstall : s.stalls (hartEngine h) t = false) :
    s.domeLoad h rd a size sgn = (s.setHart h { s.hart h with remote := some (rd, size, sgn) }).remoteLoad (hartEngine h) size t 0
      (.hart h rd size sgn false) := by
  simp [State.domeLoad, ht, hremote, h0, hstall]

theorem domeLoad_reads (hremote : t.remote = false) {v : State} {bs : Bytes} (hread : s.domeRead h t size = (v, .inr bs)) :
    s.domeLoad h rd a size sgn = v.hartNext h rd (domeValue rd size sgn (leNat bs)) := by
  simp [State.domeLoad, ht, hremote, hread]

theorem domeLoad_faults (hremote : t.remote = false) {v : State} {c : Nat} (hread : s.domeRead h t size = (v, .inl c)) :
    s.domeLoad h rd a size sgn = v.hartTrap h c a := by
  simp [State.domeLoad, ht, hremote, hread]

end Load

/-! ## A store -/

section Store

variable {s : State} {h a : Nat} {bs : Bytes} {t : Target}

theorem domeStore_nowhere (ht : s.domeTarget a = none) : s.domeStore h a bs = s.hartTrap h Cause.store a := by
  simp only [State.domeStore, ht]

variable (ht : s.domeTarget a = some t)
include ht

theorem domeStore_misaligned (hremote : t.remote = true) (h0 : a % bs.length ≠ 0) :
    s.domeStore h a bs = s.hartTrap h Cause.storeMisaligned a := by
  simp [State.domeStore, ht, hremote, h0]

theorem domeStore_stalls (hremote : t.remote = true) (h0 : a % bs.length = 0) (hstall : s.stalls (hartEngine h) t = true) :
    s.domeStore h a bs = s := by
  simp [State.domeStore, ht, hremote, h0, hstall]

theorem domeStore_remote (hremote : t.remote = true) (h0 : a % bs.length = 0) (hstall : s.stalls (hartEngine h) t = false)
    (htrap : s.weirTraps t = false) :
    s.domeStore h a bs = (s.hartNext h 0 0).remoteStore (hartEngine h) t 0 (clean bs) (.hartPost h) := by
  simp [State.domeStore, ht, hremote, h0, hstall, htrap]

theorem domeStore_writes (hremote : t.remote = false) {v : State} (hwrite : s.domeWrite h a t bs = (v, 0)) :
    s.domeStore h a bs = v.hartNext h 0 0 := by
  simp [State.domeStore, ht, hremote, hwrite]

end Store

/-! ## DOME_LOAD_STORE -/

section LoadStore

variable {s : State} {h : Fin 64} {fp sgn : Bool} {size : Fin 4} {rd rs1 rs2 : Fin 32} {imm : Fin 4096} {a n : Nat}
  (hrun : s.hartRuns h = true)
include hrun

theorem exec_domeLoadStore_half (store : Bool) (ecc : EccFind) :
    exec (.domeLoadStore h store true 0 sgn rd rs1 rs2 imm ecc) s = ok (s.hartTrap h Cause.illegal 0) := by
  rw [exec_domeLoadStore, execDomeLoadStore, onHart_does hrun]
  rfl

variable (ha : a = ((s.hart h).xr rs1 + BitVec.ofNat 64 (sext64 12 imm)).toNat) (hfp : fp = false ∨ size ≠ 0)
include ha hfp

theorem exec_domeLoadStore_does (store : Bool) (ecc : EccFind) : exec (.domeLoadStore h store fp size sgn rd rs1 rs2 imm ecc) s =
    ok (if store then (s.domeEcc a (2 ^ size.val) store ecc).domeStore h a (natLE (2 ^ size.val)
        (if fp then (s.hart h).fr rs2 else (s.hart h).xr rs2).toNat)
      else (s.domeEcc a (2 ^ size.val) store ecc).domeLoad h (if fp then 32 + rd.val else rd.val) a (2 ^ size.val) sgn) := by
  have hlegal : ¬(fp && decide (size.val = 0)) = true := by
    rcases hfp with hfp | hfp <;> simp [hfp]
  rw [exec_domeLoadStore, execDomeLoadStore, onHart_does hrun, ha]
  exact congrArg ok (if_neg hlegal)

theorem exec_domeLoadStore_nowhere (store : Bool) (ecc : EccFind) (ht : s.domeTarget a = none) :
    exec (.domeLoadStore h store fp size sgn rd rs1 rs2 imm ecc) s =
      ok (s.hartTrap h (if store then Cause.store else Cause.load) a) := by
  rw [exec_domeLoadStore_does hrun ha hfp, domeEcc_elsewhere _ _ (by rw [ht]; exact fun _ h => nomatch h), domeStore_nowhere ht,
    domeLoad_nowhere ht, apply_ite (fun c => s.hartTrap h c a)]

variable (hn : n = 2 ^ size.val)
include hn

section Load

variable {r : Nat} (hr : r = if fp then 32 + rd.val else rd.val)
include hr

theorem exec_domeLoad (ecc : EccFind) : exec (.domeLoadStore h false fp size sgn rd rs1 rs2 imm ecc) s =
    ok ((s.domeEcc a n false ecc).domeLoad h r a n sgn) := by
  rw [exec_domeLoadStore_does hrun ha hfp, hn, hr]
  rfl

theorem exec_domeLoad_memory {l : Nat} (hl : s.domeTarget a = some (.here l)) (hport : isCommandPort l = false)
    (hcontrol : isControl l = false) (hmay : s.coreMay l n = true) :
    (s.poisoned l n = false → exec (.domeLoadStore h false fp size sgn rd rs1 rs2 imm .clean) s =
      ok ((s.domeHold l n false).hartNext h r (domeValue r n sgn (leNat (s.readBytes l n))))) ∧
    (s.poisoned l n = true → exec (.domeLoadStore h false fp size sgn rd rs1 rs2 imm .clean) s =
      ok (s.hartTrap h Cause.hardware a)) := by
  have hread := domeRead_memory (h := h) hport hcontrol hmay
  rw [exec_domeLoad hrun ha hfp hn hr, domeEcc_clean]
  constructor
  · intro hclean
    rw [if_neg (ne_true_of_eq_false hclean)] at hread
    rw [domeLoad_reads hl rfl hread]
  · intro hpoisoned
    rw [if_pos hpoisoned] at hread
    rw [domeLoad_faults hl rfl hread]

theorem exec_domeLoad_control {l : Nat} (ecc : EccFind) (hl : s.domeTarget a = some (.here l)) (hport : isCommandPort l = false)
    (hcontrol : isControl l = true) (hok : controlOk l n = true) {u : State} (hu : u = s.counted (l / 8 * 8)) :
    exec (.domeLoadStore h false fp size sgn rd rs1 rs2 imm ecc) s = ok ((if l / 8 * 8 = R.TB_NOW then u.latchFine h
      else u).hartNext h r (domeValue r n sgn (leNat (natLE n (u.regRead (l / 8 * 8) h >>> (8 * (l % 8))))))) := by
  rw [exec_domeLoad hrun ha hfp hn hr, domeEcc_control _ _ hl hcontrol, domeLoad_reads hl rfl (domeRead_control hport hcontrol hok hu)]

variable {t : Target} (ht : s.domeTarget a = some t) (hremote : t.remote = true) (ecc : EccFind)
include ht hremote

theorem exec_domeLoad_misaligned (h0 : a % n ≠ 0) : exec (.domeLoadStore h false fp size sgn rd rs1 rs2 imm ecc) s =
    ok (s.hartTrap h Cause.loadMisaligned a) := by
  rw [exec_domeLoad hrun ha hfp hn hr, domeEcc_elsewhere _ _ (by rw [ht]; rintro _ ⟨⟩; exact hremote),
    domeLoad_misaligned ht hremote h0]

theorem exec_domeLoad_remote (h0 : a % n = 0) (hstall : s.stalls (hartEngine h) t = false) :
    exec (.domeLoadStore h false fp size sgn rd rs1 rs2 imm ecc) s =
      ok ((s.setHart h { s.hart h with remote := some (r, n, sgn) }).remoteLoad (hartEngine h) n t 0
        (.hart h r n sgn false)) := by
  rw [exec_domeLoad hrun ha hfp hn hr, domeEcc_elsewhere _ _ (by rw [ht]; rintro _ ⟨⟩; exact hremote),
    domeLoad_remote ht hremote h0 hstall]

end Load

theorem exec_domeLoadStore_stalls {t : Target} (ht : s.domeTarget a = some t) (hremote : t.remote = true) (ecc : EccFind)
    (h0 : a % n = 0) (hstall : s.stalls (hartEngine h) t = true) (store : Bool) :
    exec (.domeLoadStore h store fp size sgn rd rs1 rs2 imm ecc) s = ok s := by
  subst hn
  rw [exec_domeLoadStore_does hrun ha hfp, domeEcc_elsewhere _ _ (by rw [ht]; rintro _ ⟨⟩; exact hremote),
    domeLoad_stalls ht hremote h0 hstall, domeStore_stalls ht hremote (by rwa [length_natLE]) hstall, ite_self]

section Store

variable {bs : Bytes} (hbs : bs = natLE n (if fp then (s.hart h).fr rs2 else (s.hart h).xr rs2).toNat)
include hbs

omit hrun ha hfp hn in
theorem length_stored : bs.length = n := by rw [hbs, length_natLE]

theorem exec_domeStore (ecc : EccFind) : exec (.domeLoadStore h true fp size sgn rd rs1 rs2 imm ecc) s =
    ok ((s.domeEcc a n true ecc).domeStore h a bs) := by
  rw [exec_domeLoadStore_does hrun ha hfp, hbs, hn]
  rfl

theorem exec_domeStore_memory {l : Nat} (hl : s.domeTarget a = some (.here l)) (hport : isCommandPort l = false)
    (hcontrol : isControl l = false) (hmay : s.coreMay l n = true) (hctx : s.ctxHit l n = none) :
    exec (.domeLoadStore h true fp size sgn rd rs1 rs2 imm .clean) s = ok ((s.domePut h l bs).hartNext h 0 0) := by
  have hlen := length_stored hbs
  rw [exec_domeStore hrun ha hfp hn hbs, domeEcc_clean,
    domeStore_writes hl rfl (domeWrite_memory hport hcontrol (by rwa [hlen]) (by rwa [hlen]))]

theorem exec_domeStore_control {l : Nat} (ecc : EccFind) (hl : s.domeTarget a = some (.here l)) (hport : isCommandPort l = false)
    (hcontrol : isControl l = true) (hok : controlOk l n = true) :
    exec (.domeLoadStore h true fp size sgn rd rs1 rs2 imm ecc) s = ok ((s.controlWrite l n (leNat bs)).hartNext h 0 0) := by
  have hlen := length_stored hbs
  rw [exec_domeStore hrun ha hfp hn hbs, domeEcc_control _ _ hl hcontrol,
    domeStore_writes hl rfl (domeWrite_control hport hcontrol (by rwa [hlen])), hlen]

variable {t : Target} (ht : s.domeTarget a = some t) (hremote : t.remote = true) (ecc : EccFind)
include ht hremote

theorem exec_domeStore_misaligned (h0 : a % n ≠ 0) : exec (.domeLoadStore h true fp size sgn rd rs1 rs2 imm ecc) s =
    ok (s.hartTrap h Cause.storeMisaligned a) := by
  rw [exec_domeStore hrun ha hfp hn hbs, domeEcc_elsewhere _ _ (by rw [ht]; rintro _ ⟨⟩; exact hremote),
    domeStore_misaligned ht hremote (by rwa [length_stored hbs])]

theorem exec_domeStore_remote (h0 : a % n = 0) (hstall : s.stalls (hartEngine h) t = false) (htrap : s.weirTraps t = false) :
    exec (.domeLoadStore h true fp size sgn rd rs1 rs2 imm ecc) s =
      ok ((s.hartNext h 0 0).remoteStore (hartEngine h) t 0 (clean bs) (.hartPost h)) := by
  rw [exec_domeStore hrun ha hfp hn hbs, domeEcc_elsewhere _ _ (by rw [ht]; rintro _ ⟨⟩; exact hremote),
    domeStore_remote ht hremote (by rwa [length_stored hbs]) hstall htrap]

end Store

end LoadStore

/-! ## DOME_AMO -/

/-- Whether an address names the control region or a command slot of this node. -/
def State.atDevice (s : State) (a : Nat) : Bool :=
  match s.domeTarget a with
  | some (.here l) => isControl l || isCommandPort l
  | _ => false

theorem atDevice_here {s : State} {a l : Nat} (hl : s.domeTarget a = some (.here l)) :
    s.atDevice a = (isControl l || isCommandPort l) := by simp only [State.atDevice, hl]

theorem atDevice_memory {s : State} {a : Nat}
    (h : ∀ l, s.domeTarget a = some (.here l) → isControl l = false ∧ isCommandPort l = false) : s.atDevice a = false := by
  unfold State.atDevice
  split
  next l hl => simp [h l hl]
  next => rfl

section Amo

variable {s : State}

/-- An AMO in memory of this node reads the bytes, then writes the operation's result in their place. -/
theorem domeAmo_memory {h rd a l size mop v : Nat} (hport : isCommandPort l = false) (hcontrol : isControl l = false)
    (hmay : s.coreMay l size = true) (hclean : s.poisoned l size = false) {t : State} (ht : t = s.domeHold l size false)
    (hmay' : t.coreMay l size = true) (hctx : t.ctxHit l size = none) : s.domeAmo h rd a l size mop v =
      (t.domePut h l (natLE size (mopElem mop (leNat (s.readBytes l size)) (v % 2 ^ (8 * size))))).hartNext h rd
        (loadValue size true (leNat (s.readBytes l size))) := by
  have hread := domeRead_memory (h := h) hport hcontrol hmay
  rw [if_neg (ne_true_of_eq_false hclean), ← ht] at hread
  have hwrite (w : Nat) : t.domeWrite h a (.here l) (natLE size w) = (t.domePut h l (natLE size w), 0) :=
    domeWrite_memory hport hcontrol (by rwa [length_natLE]) (by rwa [length_natLE])
  simp only [State.domeAmo, hread, hwrite]

variable {h : Fin 64} {op : AmoOp} {wide : Bool} {rd rs1 rs2 : Fin 32} {mres : Fin 3} {a : Nat} (hrun : s.hartRuns h = true)
  (ha : a = ((s.hart h).xr rs1).toNat)
include hrun ha

theorem exec_domeAmo_here {l : Nat} (halign : a % (if wide then 8 else 4) = 0) (hl : s.domeTarget a = some (.here l))
    (hport : isCommandPort l = false) (hlr : op ≠ .lr) (hsc : op ≠ .sc) :
    exec (.domeAmo h op wide rd rs1 rs2 mres .clean) s = ok (s.domeAmo h rd a l (if wide then 8 else 4)
      (mopCode (amoMop op) (b2n wide) (rd.val != 0) false) ((s.hart h).xr rs2).toNat) := by
  rw [exec_domeAmo, execDomeAmo, onHart_does hrun]
  simp only [← ha, domeEcc_clean, halign, bne_self_eq_false, Bool.false_eq_true, if_false, if_true, hl, hport]

variable (ecc : EccFind) (halign : a % (if wide then 8 else 4) ≠ 0)
include halign

theorem exec_domeAmo_misaligned : exec (.domeAmo h op wide rd rs1 rs2 mres ecc) s =
    ok (s.hartTrap h (if s.atDevice a then (if op = .lr then Cause.load else Cause.store)
      else if op = .lr then Cause.loadMisaligned else Cause.storeMisaligned) a) := by
  rw [exec_domeAmo, execDomeAmo, onHart_does hrun]
  simp only [← ha, halign, bne_iff_ne, ne_eq, not_false_eq_true, if_false, if_true, beq_iff_eq]
  rfl

theorem exec_domeAmo_device {l : Nat} (hl : s.domeTarget a = some (.here l)) (hdevice : isControl l = true ∨ isCommandPort l = true) :
    exec (.domeAmo h op wide rd rs1 rs2 mres ecc) s = ok (s.hartTrap h (if op = .lr then Cause.load else Cause.store) a) := by
  rw [exec_domeAmo_misaligned hrun ha ecc halign, if_pos (by rwa [atDevice_here hl, Bool.or_eq_true])]

theorem exec_domeAmo_memory_misaligned
    (hmemory : ∀ l, s.domeTarget a = some (.here l) → isControl l = false ∧ isCommandPort l = false) :
    exec (.domeAmo h op wide rd rs1 rs2 mres ecc) s =
      ok (s.hartTrap h (if op = .lr then Cause.loadMisaligned else Cause.storeMisaligned) a) := by
  rw [exec_domeAmo_misaligned hrun ha ecc halign, if_neg (ne_true_of_eq_false (atDevice_memory hmemory))]

end Amo

/-! ## Vector memory -/

section VectorMemory

variable {h : Fin 64} {addr : VAddr} {eew : Fin 4} {nf : Fin 8} {vm : Bool} {vd rs1 rs2 : Fin 32}
  (data : List (Byte × Bool)) (dead refused : List Nat) (ecc : EccFinds) {s : State} (hrun : s.hartRuns h = true)
include hrun

theorem exec_domeVectorMemory_illegal (store : Bool) (haccess : (s.hart h).access store addr eew nf vm vd rs2 = none) :
    exec (.domeVectorMemory h store addr eew nf vm vd rs1 rs2 data dead refused ecc) s =
      ok ((s.eccAll ecc).hartTrap h Cause.illegal 0) := by
  rw [exec_domeVectorMemory, execDomeVectorMemory, onHart_does hrun]
  simp only [haccess, State.hartIllegal]

theorem exec_domeVectorMemory_load {acc : VecAccess} {t : State} {y : Hart} {f : Option (Nat × Nat × Nat)}
    (haccess : (s.hart h).access false addr eew nf vm vd rs2 = some acc)
    (hload : State.vecLoad h ((s.hart h).xr rs1).toNat vd acc ((List.range acc.count).drop (s.hart h).vstart) (s.eccAll ecc)
      (s.hart h) ⟨data, dead, refused⟩ = (t, y, f)) :
    exec (.domeVectorMemory h false addr eew nf vm vd rs1 rs2 data dead refused ecc) s =
      ok (t.vecEnd h y (addr == .faultFirst) f) := by
  rw [exec_domeVectorMemory, execDomeVectorMemory, onHart_does hrun]
  simp only [haccess, hload, Bool.false_eq_true, if_false]

theorem exec_domeVectorMemory_store {acc : VecAccess} {t : State} {f : Option (Nat × Nat × Nat)}
    (haccess : (s.hart h).access true addr eew nf vm vd rs2 = some acc)
    (hstore : State.vecStore h ((s.hart h).xr rs1).toNat vd acc (s.hart h) ((List.range acc.count).drop (s.hart h).vstart)
      (s.eccAll ecc) = (t, f)) :
    exec (.domeVectorMemory h true addr eew nf vm vd rs1 rs2 data dead refused ecc) s = ok (t.vecEnd h (t.hart h) false f) := by
  rw [exec_domeVectorMemory, execDomeVectorMemory, onHart_does hrun]
  simp only [haccess, hstore, if_true]

end VectorMemory

/-- At a fault the hart traps with vstart at the element; a fault-only-first load goes on past its first element instead. -/
theorem vecEnd_traps {h i c : Nat} (s : State) (a : Nat) (y : Hart) {first : Bool} (hc : c ≠ 1)
    (hfirst : first = false ∨ i = 0 ∨ c ≠ Cause.load) : s.vecEnd h y first (some (i, c, a)) =
      (s.setHart h { y with vstart := i, vecOn := true }).hartTrap h c a := by
  have hgoes : ¬(first && decide (0 < i) && decide (c = Cause.load)) = true := by
    rcases hfirst with hf | hf | hf <;> simp [hf]
  rw [State.vecEnd]
  exact (if_neg hc).trans (if_neg hgoes)

/-- Settles O37. A load, a store and an AMO by where the address leads; vector memory by its run over the elements. -/
theorem domeMemoryInstructions : Obligations.DomeMemoryInstructions := by
  refine ⟨fun h fp sgn size rd rs1 rs2 imm s a n r hrun ha hn hfp hr =>
      ⟨fun l hl hport hcontrol hmay => exec_domeLoad_memory hrun ha hfp hn hr hl hport hcontrol hmay,
        fun l ecc hl hport hcontrol hok u hu => exec_domeLoad_control hrun ha hfp hn hr ecc hl hport hcontrol hok hu,
        fun t ecc ht hremote => ⟨exec_domeLoad_misaligned hrun ha hfp hn hr ht hremote ecc,
          exec_domeLoadStore_stalls hrun ha hfp hn ht hremote ecc, exec_domeLoad_remote hrun ha hfp hn hr ht hremote ecc⟩⟩,
    fun h fp sgn size rd rs1 rs2 imm s a n bs hrun ha hn hfp hbs =>
      ⟨fun l hl hport hcontrol hmay hctx => exec_domeStore_memory hrun ha hfp hn hbs hl hport hcontrol hmay hctx,
        fun l ecc hl hport hcontrol hok => exec_domeStore_control hrun ha hfp hn hbs ecc hl hport hcontrol hok,
        fun t ecc ht hremote => ⟨exec_domeStore_misaligned hrun ha hfp hn hbs ht hremote ecc,
          exec_domeStore_remote hrun ha hfp hn hbs ht hremote ecc⟩⟩,
    fun h store fp sgn size rd rs1 rs2 imm ecc s a hrun ha hfp ht => exec_domeLoadStore_nowhere hrun ha hfp store ecc ht,
    fun h store sgn rd rs1 rs2 imm ecc s hrun => exec_domeLoadStore_half hrun store ecc,
    fun h op wide rd rs1 rs2 mres s a l hrun ha halign hl hport hlr hsc => exec_domeAmo_here hrun ha halign hl hport hlr hsc,
    fun s h rd a l size mop v hport hcontrol hmay hclean t ht hmay' hctx =>
      domeAmo_memory hport hcontrol hmay hclean ht hmay' hctx,
    fun h op wide rd rs1 rs2 mres ecc s a hrun ha halign => ⟨fun l hl hdevice => exec_domeAmo_device hrun ha ecc halign hl hdevice,
      exec_domeAmo_memory_misaligned hrun ha ecc halign⟩,
    fun h addr eew nf vm vd rs1 rs2 data dead refused ecc s hrun =>
      ⟨fun store haccess => exec_domeVectorMemory_illegal data dead refused ecc hrun store haccess,
        fun acc t y f haccess hload => exec_domeVectorMemory_load data dead refused ecc hrun haccess hload,
        fun acc t f haccess hstore => exec_domeVectorMemory_store data dead refused ecc hrun haccess hstore⟩,
    fun s h i c a y first => ⟨rfl, vecEnd_traps s a y⟩⟩

end Sys2Proof.Machine
end

section
/-! The vendor instructions of the Dome harts (R192, R193, R355): step time, and a packet taken from memory and submitted at a
slot. -/

namespace Sys2Proof.Machine

open Sys2Proof

/-! ## D.TIME and D.TWAIT -/

section Time

variable {s : State} {h : Fin 64} {rd rs1 : Fin 32}

theorem exec_dTwaitExpiry_reached {t : Nat} {u : State} (hwait : (s.hart h).twait = some t) (hreach : s.reach t = some u) :
    exec (.dTwaitExpiry h) s = ok ((u.setHart h { u.hart h with twait := none }).hartNext h 0 0) := by
  rw [exec_dTwaitExpiry, execDTwaitExpiry]
  simp only [hwait, hreach]

theorem exec_dTwaitExpiry_idle (hwait : (s.hart h).twait = none) : exec (.dTwaitExpiry h) s = ok s := by
  rw [exec_dTwaitExpiry, execDTwaitExpiry]
  simp only [hwait]

variable (hrun : s.hartRuns h = true)
include hrun

theorem exec_dTime_rate {now : Nat} {u : State} (hprofile : s.profile = 0) (hreach : s.reach now = some u) :
    exec (.dTime h rd now) s = ok (u.hartNext h rd (BitVec.ofNat 64 u.now)) := by
  rw [exec_dTime, execDTime, onHart_does hrun]
  simp only [State.refusesV, hprofile, hreach, bne_self_eq_false, Bool.false_eq_true, if_false]

theorem exec_dTime_exact (now : Nat) (hprofile : s.profile ≠ 0) :
    exec (.dTime h rd now) s = ok ((s.ev F.NODE_PROFILE_EVENTS_EXACT_VIOL).hartTrap h Cause.illegal 0) := by
  rw [exec_dTime, execDTime, onHart_does hrun, State.refusesV, if_pos (bne_iff_ne.2 hprofile)]
  rfl

theorem exec_dTwait_past (hpast : ((s.hart h).xr rs1).toNat ≤ s.now) : exec (.dTwait h rs1) s = ok (s.hartNext h 0 0) := by
  rw [exec_dTwait, execDTwait, onHart_does hrun]
  simp only [hpast, if_true]

theorem exec_dTwait_waits (hahead : s.now < ((s.hart h).xr rs1).toNat) :
    exec (.dTwait h rs1) s = ok (s.setHart h { s.hart h with twait := some ((s.hart h).xr rs1).toNat }) := by
  rw [exec_dTwait, execDTwait, onHart_does hrun]
  simp only [not_le.2 hahead, if_false]

end Time

/-! ## Bytes of a packet -/

/-- A byte string is the little-endian form of its value. -/
theorem natLE_leNat : ∀ bs : Bytes, natLE bs.length (leNat bs) = bs
  | [] => rfl
  | b :: bs => by
    have hb := b.isLt
    rw [List.length_cons, natLE, leNat, show (b.toNat + 256 * leNat bs) / 256 = leNat bs by omega, natLE_leNat bs]
    congr 1
    apply BitVec.eq_of_toNat_eq
    rw [BitVec.toNat_ofNat]
    omega

/-! ## A line of another node of the pond -/

section Far

variable {s : State} {h a node l : Nat} (far : FarData) (ht : s.domeTarget a = some (.pond node l)) (halign : a % 64 = 0)
include ht halign

theorem vecLoadOne_refused (hrefused : far.refused = [0]) :
    s.vecLoadOne h a 64 0 far = (s.semEvent St.addressRefused, .inl Cause.load) := by
  simp [State.vecLoadOne, ht, Target.remote, halign, hrefused]

theorem vecLoadOne_dead (hrefused : far.refused = []) (hdead : far.dead = [0]) :
    s.vecLoadOne h a 64 0 far = (s.semEvent St.targetDead, .inr (leNat (deadBytes a 64), far)) := by
  simp [State.vecLoadOne, ht, Target.remote, halign, hrefused, hdead]

theorem vecLoadOne_far (hrefused : far.refused = []) (hdead : far.dead = []) : s.vecLoadOne h a 64 0 far =
    if (far.data.take 64).any (·.2) then (s, .inl Cause.hardware)
    else (s, .inr (leNat ((far.data.take 64).map (·.1)), { far with data := far.data.drop 64 })) := by
  simp [State.vecLoadOne, ht, Target.remote, halign, hrefused, hdead]

end Far

/-! ## PKST -/

/-- The line that a PKST takes: of memory of this node, or one of another node, that `far` gives. -/
def State.packetLine (s : State) (h a : Nat) (far : FarData) : State × (Nat ⊕ Bytes) :=
  match s.domeTarget a with
  | none => (s, .inl Cause.load)
  | some t =>
    if !t.remote then (if !isControl t.loc && !isCommandPort t.loc then s.domeRead h t 64 else (s, .inl Cause.load))
    else match s.vecLoadOne h a 64 0 far with
      | (s, .inl c) => (s, .inl c)
      | (s, .inr (v, _)) => (s, .inr (natLE 64 v))

/-- The end of a PKST at slot k: a trap, or the packet submitted. -/
def State.packetEnd (h k a : Nat) (r : State × (Nat ⊕ Bytes)) : State :=
  match r.2 with
  | .inl c => r.1.hartTrap h c a
  | .inr bs => (r.1.slotSubmit k bs).hartNext h 0 0

/-- What a PKST meets at another node. -/
def farLine (far : Vector (BitVec 8) 64) (mark dead refused : Bool) : FarData :=
  ⟨far.toList.map (fun b => (b, mark)), if dead then [0] else [], if refused then [0] else []⟩

section Line

variable {s : State} {h a : Nat}

theorem packetLine_nowhere (far : FarData) (ht : s.domeTarget a = none) : s.packetLine h a far = (s, .inl Cause.load) := by
  simp only [State.packetLine, ht]

section Here

variable {l : Nat} (far : FarData) (ht : s.domeTarget a = some (.here l))
include ht

theorem packetLine_device (hdevice : isControl l = true ∨ isCommandPort l = true) :
    s.packetLine h a far = (s, .inl Cause.load) := by
  rcases hdevice with hdevice | hdevice <;> simp [State.packetLine, ht, Target.remote, Target.loc, hdevice]

theorem packetLine_memory (hcontrol : isControl l = false) (hport : isCommandPort l = false) (hmay : s.coreMay l 64 = true) :
    s.packetLine h a far =
      if s.poisoned l 64 then (s, .inl Cause.hardware) else (s.domeHold l 64 false, .inr (s.readBytes l 64)) := by
  rw [← domeRead_memory (h := h) hport hcontrol hmay]
  simp [State.packetLine, ht, Target.remote, Target.loc, hcontrol, hport]

end Here

section Far

variable {node l : Nat} (far : Vector (BitVec 8) 64) (mark dead : Bool) (ht : s.domeTarget a = some (.pond node l))
  (halign : a % 64 = 0)
include ht halign

theorem packetLine_refused :
    s.packetLine h a (farLine far mark dead true) = (s.semEvent St.addressRefused, .inl Cause.load) := by
  have hone := vecLoadOne_refused (h := h) (farLine far mark dead true) ht halign rfl
  simp only [State.packetLine, ht, Target.remote, hone, Bool.not_true, Bool.false_eq_true, if_false]

theorem packetLine_dead : s.packetLine h a (farLine far mark true false) =
    (s.semEvent St.targetDead, .inr (natLE 64 (leNat (deadBytes a 64)))) := by
  have hone := vecLoadOne_dead (h := h) (farLine far mark true false) ht halign rfl rfl
  simp only [State.packetLine, ht, Target.remote, hone, Bool.not_true, Bool.false_eq_true, if_false]

/-- A line of a live node is poisoned as its mark says; its bytes are those given. -/
theorem packetLine_far : s.packetLine h a (farLine far mark false false) =
    if mark then (s, .inl Cause.hardware) else (s, .inr far.toList) := by
  have hlen : far.toList.length = 64 := Vector.length_toList
  have htake : (farLine far mark false false).data.take 64 = far.toList.map (fun b => (b, mark)) :=
    List.take_of_length_le (by rw [farLine, List.length_map, hlen])
  have hmark : (far.toList.map (fun b => (b, mark))).any (·.2) = mark := by
    rw [List.any_map]
    cases mark
    · exact List.any_eq_false.2 fun _ _ => Bool.false_ne_true
    · exact List.any_eq_true.2 ⟨_, List.getElem_mem (by rw [hlen]; decide : 0 < far.toList.length), rfl⟩
  have hbytes : (far.toList.map (fun b => (b, mark))).map (·.1) = far.toList := by
    rw [List.map_map]
    exact List.map_id _
  have hvalue := natLE_leNat far.toList
  rw [hlen] at hvalue
  have hone := vecLoadOne_far (h := h) (farLine far mark false false) ht halign rfl rfl
  rw [htake, hmark, hbytes] at hone
  cases mark <;> simp [State.packetLine, ht, Target.remote, hone, hvalue]

end Far

end Line

section Pkst

variable {s : State} {h : Fin 64} {rs1 rs2 : Fin 32} (far : Vector (BitVec 8) 64) (mark dead refused : Bool) {slot a : Nat}
  (hrun : s.hartRuns h = true) (hslot : slot = ((s.hart h).xr rs1).toNat)
include hrun hslot

theorem exec_pkst_slotMisaligned (h64 : slot % 64 ≠ 0) :
    exec (.pkst h rs1 rs2 far mark dead refused) s = ok (s.hartTrap h Cause.storeMisaligned slot) := by
  rw [exec_pkst, execPkst, onHart_does hrun]
  simp only [← hslot, bne_iff_ne.2 h64, if_true]

variable (ha : a = ((s.hart h).xr rs2).toNat) (h64 : slot % 64 = 0)
include ha h64

theorem exec_pkst_misaligned (ha64 : a % 64 ≠ 0) :
    exec (.pkst h rs1 rs2 far mark dead refused) s = ok (s.hartTrap h Cause.storeMisaligned a) := by
  rw [exec_pkst, execPkst, onHart_does hrun]
  simp only [← hslot, ← ha, h64, bne_self_eq_false, Bool.false_eq_true, if_false, bne_iff_ne.2 ha64, if_true]

variable (ha64 : a % 64 = 0)
include ha64

theorem exec_pkst_noSlot (hport : isCommandPort slot = false) :
    exec (.pkst h rs1 rs2 far mark dead refused) s = ok (s.hartTrap h Cause.store slot) := by
  rw [exec_pkst, execPkst, onHart_does hrun]
  simp only [← hslot, ← ha, h64, ha64, bne_self_eq_false, Bool.false_eq_true, if_false, hport, Bool.not_false, if_true]

variable (hport : isCommandPort slot = true) {u : State} (hu : u = s.flushOwned (· == .hartPost h))
include hport hu

theorem exec_pkst_waits (howes : u.owes (· == .hartPost h) = true) : exec (.pkst h rs1 rs2 far mark dead refused) s = ok u := by
  rw [exec_pkst, execPkst, onHart_does hrun]
  simp only [← hslot, ← ha, h64, ha64, bne_self_eq_false, Bool.false_eq_true, if_false, hport, Bool.not_true, ← hu, howes, if_true]

theorem exec_pkst_takes (howes : u.owes (· == .hartPost h) = false) : exec (.pkst h rs1 rs2 far mark dead refused) s =
    ok (State.packetEnd h ((slot - 0xF00000000000) / 64) a (u.packetLine h a (farLine far mark dead refused))) := by
  rw [exec_pkst, execPkst, onHart_does hrun]
  simp only [← hslot, ← ha, h64, ha64, bne_self_eq_false, Bool.false_eq_true, if_false, hport, Bool.not_true, ← hu, howes]
  rw [State.packetLine, farLine]
  rfl

end Pkst

/-- Settles O38. Step time by the profile and the target; a PKST by the checks in order, then by the line it takes. -/
theorem domeTimeAndPacketStore : Obligations.DomeTimeAndPacketStore := by
  refine ⟨fun h rd now s u hrun hprofile hreach => exec_dTime_rate hrun hprofile hreach,
    fun h rd now s hrun hprofile => exec_dTime_exact hrun now hprofile, fun h rs1 s hrun hpast => exec_dTwait_past hrun hpast,
    fun h rs1 s hrun hahead => exec_dTwait_waits hrun hahead, fun h t s u hwait hreach => exec_dTwaitExpiry_reached hwait hreach,
    fun h s hwait => exec_dTwaitExpiry_idle hwait, fun h rs1 rs2 far mark dead refused s u slot a k hrun hslot ha hk hu =>
      ⟨exec_pkst_slotMisaligned far mark dead refused hrun hslot, exec_pkst_misaligned far mark dead refused hrun hslot ha,
        exec_pkst_noSlot far mark dead refused hrun hslot ha,
        fun h64 ha64 hport => exec_pkst_waits far mark dead refused hrun hslot ha h64 ha64 hport hu,
        fun h64 ha64 hport howes => ?_⟩⟩
  rw [exec_pkst_takes far mark dead refused hrun hslot ha h64 ha64 hport hu howes, ← hk]
  refine ⟨fun ht => ?_, fun l ht hdevice => ?_, fun l ht hcontrol hcommand hmay => ⟨fun hpoisoned => ?_, fun hclean => ?_⟩,
    fun node l ht => ⟨fun hrefused => ?_, fun hrefused hdead => ?_, fun hrefused hdead hmark => ?_, fun hrefused hdead hmark => ?_⟩⟩
  · rw [packetLine_nowhere _ ht, State.packetEnd]
  · rw [packetLine_device _ ht hdevice, State.packetEnd]
  · rw [packetLine_memory _ ht hcontrol hcommand hmay, if_pos hpoisoned, State.packetEnd]
  · rw [packetLine_memory _ ht hcontrol hcommand hmay, if_neg (ne_true_of_eq_false hclean), State.packetEnd]
  · rw [hrefused, packetLine_refused far mark dead ht ha64, State.packetEnd]
  · rw [hrefused, hdead, packetLine_dead far mark ht ha64, State.packetEnd]
  · rw [hrefused, hdead, packetLine_far far mark ht ha64, hmark, if_pos rfl, State.packetEnd]
  · rw [hrefused, hdead, packetLine_far far mark ht ha64, hmark, if_neg Bool.false_ne_true, State.packetEnd]

end Sys2Proof.Machine
end

section
/-! Short-vector memory (R173, R176–R182): what an instruction begins, where its elements lie, and how it stops at one that is
refused or lies at another node. -/

namespace Sys2Proof.Machine

open Sys2Proof

/-! ## The rows -/

section Rows

variable (n : Fin 288) (res nf : Fin 3) (w rs1 wi : Fin 32) (ecc : EccFinds) (s : State)

theorem exec_svLd : exec (.svLd n res w rs1 ecc) s = s.svMove n res false w rs1 1 none (fun _ => true) ecc := rfl
theorem exec_svSt : exec (.svSt n res w rs1) s = s.svMove n res true w rs1 1 none (fun _ => true) [] := rfl
theorem exec_svLseg : exec (.svLseg n nf res w rs1 ecc) s = s.svMove n res false w rs1 (nf + 2) none (fun _ => true) ecc := rfl
theorem exec_svSseg : exec (.svSseg n nf res w rs1) s = s.svMove n res true w rs1 (nf + 2) none (fun _ => true) [] := rfl
theorem exec_svGth : exec (.svGth n res w rs1 wi ecc) s = s.svMove n res false w rs1 1 (some wi) (fun x =>
    2 ≤ x.ew && groupOk wi (svSpan x.span) && !groupsMeet w (svSpan x.span) wi (svSpan x.span)) ecc := rfl
theorem exec_svSct : exec (.svSct n res w rs1 wi) s =
    s.svMove n res true w rs1 1 (some wi) (fun x => 2 ≤ x.ew && groupOk wi (svSpan x.span)) [] := rfl

end Rows

/-- A short-vector memory instruction at its start. -/
def State.svStart (u : State) (n res : Nat) (store : Bool) (w rs1 nf : Nat) (index : Option Nat) : SvRun :=
  { store := store, group := w, nf := nf, base := ((u.sp n).xr rs1).toNat, index := index, res := res, elem := u.vecIdx n,
    field := 0, off := 0, part := [], acc := .none, fields := [], done := [] }

section Move

variable {s : State} {n : Nat} {ecc : EccFinds} {res w rs1 nf : Nat} {store : Bool} {index : Option Nat} {legal : Spire → Bool}

/-- While the core waits in its instruction, a row looks again. -/
theorem svMove_waiting (h : (s.sp n).wait = .sv) :
    s.svMove n res store w rs1 nf index legal ecc = ok ((s.eccAll ecc).svGo n) :=
  if_pos (beq_iff_eq.2 h)

variable {u : State} (hwait : (s.sp n).wait ≠ .sv) (hready : s.vecReady n u)
include hwait hready

theorem svMove_begins : s.svMove n res store w rs1 nf index legal ecc =
    if groupOk w (svSpan (u.sp n).span) && w + nf * svSpan (u.sp n).span ≤ 32 && legal (u.sp n) then
      ok (((((u.eccAll ecc).setSv n (u.svStart n res store w rs1 nf index)).coreWait n .sv).svGo n).coreDone n)
    else ok ((u.illegal n).coreDone n) := by
  rw [State.svMove, State.svMem, if_neg (mt beq_iff_eq.1 hwait)]
  split
  next h => exact svRun_legal hready _ _ h
  next h => exact svRun_illegal hready _ _ (Bool.eq_false_iff.2 h)

end Move

/-! ## Where an element lies -/

section Begin

variable {s : State} {n : Nat} {r : SvRun}

theorem svStep_begins (hsv : (s.sp n).sv = some r) (helem : r.elem < (s.sp n).vl) (hacc : r.acc = .none) :
    s.svStep n = s.svBegin n r := by
  simp [State.svStep, hsv, hacc, helem.not_ge]

section Field

variable (hnf : r.nf = 1) (hfield : r.field = 0) (hoff : r.off = 0)
include hnf hfield hoff

theorem svBegin_refused {t : State} (h : s.svRefused ((s.sp n).svAddr r r.elem 0) (s.sp n).svBytes r.store = some t) :
    s.svBegin n r = some (t.svFault n r 0) := by
  simp [State.svBegin, hnf, hfield, hoff, h]

theorem svBegin_accepted (h : s.svRefused ((s.sp n).svAddr r r.elem 0) (s.sp n).svBytes r.store = none)
    (hheld : r.store = true ∨ s.check.twins = []) : s.svBegin n r = s.svField n r := by
  have hfree : s.svHeld n r = false := by
    rcases hheld with h | h <;> simp [State.svHeld, h]
  simp [State.svBegin, hnf, hfield, hoff, h, hfree]

end Field

section Refused

variable {a m st : Nat} {store : Bool} {t : Target}

theorem svRefused_nowhere : s.svRefused none m store = some s := rfl

variable (htarget : s.coreTarget a m store = (t, st))
include htarget

theorem svRefused_here (hremote : t.remote = false) : s.svRefused (some a) m store =
    if st ≠ St.ok then some (s.noteRefusal t m st store) else none := by
  simp only [State.svRefused, htarget]
  cases t with
  | here l => simp
  | self l => simp
  | pond node l => nomatch hremote
  | weir node l => nomatch hremote
  | bad => simp

omit htarget in
theorem svRefused_pond {node l : Nat} (htarget : s.coreTarget a m store = (.pond node l, st)) :
    s.svRefused (some a) m store = none := by
  simp only [State.svRefused, htarget]

end Refused

/-! ## The field at hand -/

section Field

variable {a st : Nat} {t : Target} (haddr : (s.sp n).svAddr r r.elem r.field = some a)
  (htarget : s.coreTarget a (s.sp n).svBytes r.store = (t, st))
include haddr htarget

/-- A field whose address and target are known. The definition is unfolded before it is applied: unfolded at its arguments, the
bounds of the address would be evaluated, bit 48 in unary. -/
theorem svField_at : s.svField n r =
    if t.remote then
      if s.stalls (spireEngine n) (s.target (a + r.off)) then none
      else some (if r.store then
        (s.setSv n { r with acc := .out }).remoteStore (spireEngine n) (s.target (a + r.off)) 0
          ((((s.sp n).svCells r).drop r.off).take (svPiece a r.off ((s.sp n).svBytes - r.off))) (.unit n true)
      else (s.setSv n { r with acc := .out }).remoteLoad (spireEngine n) (svPiece a r.off ((s.sp n).svBytes - r.off))
        (s.target (a + r.off)) 0 (.unit n true))
    else if r.store then
      some ((s.unitWrite (n / 18) PairUnit.vector (n % 18) t.loc ((s.sp n).svCells r)).svNext n r (0, false))
    else some (s.svTake n r (s.readCells t.loc (s.sp n).svBytes)) := by
  have hdef : State.svField = State.svField := rfl
  conv at hdef => rhs; delta State.svField
  rw [hdef]
  beta_reduce
  extract_lets -underBinder x
  rw [show x.svAddr r r.elem r.field = some a from haddr]
  dsimp only
  rw [htarget]
  rfl

theorem svField_load (hremote : t.remote = false) (hstore : r.store = false) :
    s.svField n r = some (s.svTake n r (s.readCells t.loc (s.sp n).svBytes)) := by
  rw [svField_at haddr htarget, if_neg (ne_true_of_eq_false hremote), if_neg (ne_true_of_eq_false hstore)]

theorem svField_store (hremote : t.remote = false) (hstore : r.store = true) (hsealed : s.sealed = false) :
    s.svField n r = some ((s.writeCells t.loc ((s.sp n).svCells r)).svNext n r (0, false)) := by
  rw [svField_at haddr htarget, if_neg (ne_true_of_eq_false hremote), if_pos hstore, State.unitWrite, hsealed]
  rfl

omit htarget in
/-- A whole field of another node of the pond, or its first piece, is a request, once its engine has room. -/
theorem svField_pond {node l : Nat} (htarget : s.coreTarget a (s.sp n).svBytes r.store = (.pond node l, st)) (hoff : r.off = 0) :
    s.svField n r = if s.stalls (spireEngine n) (.pond node l) then none else some (if r.store then
      (s.setSv n { r with acc := .out }).remoteStore (spireEngine n) (.pond node l) 0
        (((s.sp n).svCells r).take (svPiece a 0 (s.sp n).svBytes)) (.unit n true)
      else (s.setSv n { r with acc := .out }).remoteLoad (spireEngine n) (svPiece a 0 (s.sp n).svBytes) (.pond node l) 0
        (.unit n true)) := by
  have hpond : s.target a = .pond node l := congrArg Prod.fst htarget
  rw [svField_at haddr htarget, if_pos (show (Target.pond node l).remote = true from rfl), hoff, Nat.add_zero, hpond,
    List.drop_zero, Nat.sub_zero]

end Field

end Begin

/-! ## An instruction that stops (R180) -/

section Fault

variable (s : State) (n i addr : Nat) (store : Bool)

/-- A core that traps to its vector. -/
def Spire.trapped (x : Spire) (cause tval : Nat) : Spire :=
  { x with
    mepc := x.pc, mcause := BitVec.ofNat 64 cause, mtval := BitVec.ofNat 64 tval, wait := .none, sv := none
    pc := x.mtvec &&& ~~~3#64, mstatus := BitVec.ofNat 64 (trapStatus x.mstatus.toNat) }

theorem coreTrap_vectored {cause unit tval : Nat} (h : (s.sp n).mtvec ≠ 0) :
    s.coreTrap n cause unit tval = (s.setSp n ((s.sp n).trapped cause tval)).setCore n 1 := if_neg h

theorem rd_setCore_ne {f : Field} (v : Nat) (h : f.addr ≠ R.SPIRE_STATUS n) : (s.setCore n v).rd f = s.rd f := by
  rw [State.rd, State.rd, rdReg_setCore_ne s v h]

theorem keepsMem_setCore {s t : State} (n v : Nat) (h : s.keepsMem t) : s.keepsMem (t.setCore n v) := h

/-- What a stopped instruction leaves in the unit's registers: the element, its address and the event. -/
def State.vecStopped (s : State) (n i addr : Nat) : State :=
  ((s.wrReg (R.VEC_FAULT_IDX n) i).wrReg (R.VEC_FAULT_ADDR n) addr).ev (F.VEC_EVENTS_FAULT n)

theorem vecFault_eq : s.vecFault n i addr store =
    (s.vecStopped n i addr).coreTrap n (if store then Cause.store else Cause.load) 3 addr := rfl

theorem vecRegs_apart (n : Nat) : R.VEC_FAULT_IDX n ≠ R.VEC_FAULT_ADDR n ∧ R.VEC_FAULT_IDX n ≠ R.VEC_EVENTS n ∧
    R.VEC_FAULT_ADDR n ≠ R.VEC_EVENTS n ∧ R.VEC_FAULT_IDX n ≠ R.SPIRE_STATUS n ∧ R.VEC_FAULT_ADDR n ≠ R.SPIRE_STATUS n ∧
    R.VEC_EVENTS n ≠ R.SPIRE_STATUS n := by
  unfold R.VEC_FAULT_IDX R.VEC_FAULT_ADDR R.VEC_EVENTS R.SPIRE_STATUS
  omega

theorem rdReg_vecStopped_idx : (s.vecStopped n i addr).rdReg (R.VEC_FAULT_IDX n) = i % 2 ^ 64 := by
  obtain ⟨haddr, hevents, -⟩ := vecRegs_apart n
  rw [State.vecStopped, State.ev, State.rdReg_wr_ne (f := F.VEC_EVENTS_FAULT n) _ _ hevents, State.rdReg_wrReg_ne _ _ haddr,
    State.rdReg_wrReg_same]

theorem rdReg_vecStopped_addr : (s.vecStopped n i addr).rdReg (R.VEC_FAULT_ADDR n) = addr % 2 ^ 64 := by
  obtain ⟨-, -, hevents, -⟩ := vecRegs_apart n
  rw [State.vecStopped, State.ev, State.rdReg_wr_ne (f := F.VEC_EVENTS_FAULT n) _ _ hevents, State.rdReg_wrReg_same]

theorem rd_vecStopped_event : (s.vecStopped n i addr).rd (F.VEC_EVENTS_FAULT n) = 1 := State.rd_wr_same _ _ 1 rfl

theorem keepsMem_vecStopped : s.keepsMem (s.vecStopped n i addr) := ⟨rfl, rfl, rfl⟩

theorem vecFault_records (hmtvec : (s.sp n).mtvec ≠ 0) (hi : i < 1024) : let t := s.vecFault n i addr store
    t.vecIdx n = i ∧ t.rdReg (R.VEC_FAULT_ADDR n) = addr % 2 ^ 64 ∧ t.rd (F.VEC_EVENTS_FAULT n) = 1 ∧
    (t.sp n).mcause = BitVec.ofNat 64 (if store then Cause.store else Cause.load) ∧ (t.sp n).mepc = (s.sp n).pc ∧
    s.keepsMem t := by
  obtain ⟨-, -, -, hidx, haddr, hevents⟩ := vecRegs_apart n
  intro t
  have ht : t = _ := (vecFault_eq s n i addr store).trans (coreTrap_vectored _ n hmtvec)
  refine ⟨?_, ?_, ?_, ?_, ?_, ?_⟩
  · rw [State.vecIdx, ht, rdReg_setCore_ne _ _ hidx]
    refine (congrArg (bits · 0 10) (rdReg_vecStopped_idx s n i addr)).trans ?_
    rw [bits_mod _ (by decide), bits_eq, Nat.pow_zero, Nat.div_one, Nat.mod_eq_of_lt (show i < 2 ^ 10 from hi)]
  · rw [ht, rdReg_setCore_ne _ _ haddr]
    exact rdReg_vecStopped_addr s n i addr
  · rw [ht, rd_setCore_ne (f := F.VEC_EVENTS_FAULT n) _ n 1 hevents, rd_setSp, rd_vecStopped_event]
  · rw [ht, sp_setCore, State.sp_setSp_same]
    rfl
  · rw [ht, sp_setCore, State.sp_setSp_same]
    rfl
  · rw [ht]
    exact keepsMem_setCore n 1 (keepsMem_setSp n _ (keepsMem_vecStopped s n i addr))

end Fault

end Sys2Proof.Machine
end

section
/-! Conversions and block conversions of the short-vector unit (R185, R186). -/

namespace Sys2Proof.Machine

open Sys2Proof

/-- The value of a block element: the scale's power of two times the element. -/
def mxValue (scale : Nat) (v : FVal) : FVal :=
  if scale = 0xFF then .nan else
    match v with
    | .fin neg m y => .fin (neg && m != 0) m (y + (scale : Int) - 127)
    | x => x

section Convert

variable {n : Fin 288} {res : Fin 3} {wd ws rs2 : Fin 32}

theorem exec_svCvt (s : State) : exec (.svCvt n res wd ws rs2) s = execSvCvt n res wd ws rs2 s := rfl
theorem exec_svMxcvt (s : State) : exec (.svMxcvt n res wd ws rs2) s = execSvMxcvt n res wd ws rs2 s := rfl
theorem exec_svMxexp (s : State) : exec (.svMxexp n res wd ws rs2) s = execSvMxexp n res wd ws rs2 s := rfl

variable {s u : State} (hready : s.vecReady n u) {cw sw dw ks kd vl : Nat} (hcw : cw = ((u.sp n).xr rs2).toNat)
  (hsw : sw = fmtWidth (cwSrc cw)) (hdw : dw = fmtWidth (cwDst cw)) (hvl : vl = (u.sp n).vl) (hks : ks = groupFor vl sw)
  (hkd : kd = groupFor vl dw)
include hready hcw hsw hdw hvl hks hkd

/-! ## SV.CVT -/

theorem exec_svCvt_illegal
    (h : cvtCwOk cw = false ∨ 8 < ks ∨ 8 < kd ∨ groupOk ws ks = false ∨ groupOk wd kd = false) :
    exec (.svCvt n res wd ws rs2) s = ok ((u.illegal n).coreDone n) := by
  subst hcw hsw hdw hvl hks hkd
  rw [exec_svCvt, execSvCvt, ← sp_of_vecReady hready n]
  refine svRun_illegal hready _ _ ?_
  rcases h with h | h | h | h | h <;> simp [h]

theorem exec_svCvt_legal (hlegal : cvtCwOk cw = true) (hks8 : ks ≤ 8) (hkd8 : kd ≤ 8) (hws : groupOk ws ks = true)
    (hwd : groupOk wd kd = true) {v : Nat → FVal} {e : Nat → Nat × Bool} {p : Nat → Bool}
    (hv : ∀ i, v i = cvtDecode (cwSrc cw) (cwQexp cw) ((u.sp n).el ws sw i))
    (he : ∀ i, e i = cvtEncode (cwDst cw) (cwQexp cw) (cwOvf cw) (v i)) (hp : ∀ i, p i = (u.sp n).elPoison ws sw i) :
    exec (.svCvt n res wd ws rs2) s = ok ((((u.lanes n).foldl (fun t i => if p i then t else
      t.amaxUpdate n (cwSlot cw) (if (v i).isNan then none else some (v i)) (e i).2)
      (u.putLanes n wd dw ((u.lanes n).map (fun i => ((e i).1, p i))))).svEnd n res wd kd 0 0).coreDone n) := by
  subst hcw hsw hdw hvl hks hkd
  obtain rfl := funext hv
  obtain rfl := funext he
  obtain rfl := funext hp
  rw [exec_svCvt, execSvCvt, ← sp_of_vecReady hready n]
  refine (svRun_legal hready _ _ (by simp [hlegal, hks8, hkd8, hws, hwd])).trans ?_
  simp only [State.lanes, State.putLanes, List.foldl_map, List.map_map]
  rfl

/-! ## SV.MXCVT -/

theorem exec_svMxcvt_illegal (h : mxCwOk cw false = false ∨ vl % 32 ≠ 0 ∨ 256 < vl ∨ 8 < ks ∨ groupOk ws ks = false ∨
    groupOk wd kd = false) : exec (.svMxcvt n res wd ws rs2) s = ok ((u.illegal n).coreDone n) := by
  subst hcw hsw hdw hvl hks hkd
  rw [exec_svMxcvt, execSvMxcvt, ← sp_of_vecReady hready n]
  refine svRun_illegal hready _ _ ?_
  rcases h with h | h | h | h | h | h <;> simp [h]

theorem exec_svMxcvt_legal (hlegal : mxCwOk cw false = true) (hmod : vl % 32 = 0) (h256 : vl ≤ 256) (hks8 : ks ≤ 8)
    (hws : groupOk ws ks = true) (hwd : groupOk wd kd = true) {b : Nat → Nat × List (Nat × Option FVal × Bool)}
    {p : Nat → Bool} {x : State}
    (hb : ∀ j, b j = mxBlock (cwDst cw) ((List.range 32).map (fun i =>
      (fmtOf (cwSrc cw)).decode ((u.sp n).el ws sw (32 * j + i)))))
    (hp : ∀ j, p j = (List.range 32).any (fun i => (u.sp n).elPoison ws sw (32 * j + i)))
    (hx : x = u.setSp n ((u.sp n).putEls wd dw 0 ((List.range (vl / 32)).flatMap (fun j => (b j).2.map (fun e => (e.1, p j)))))) :
    exec (.svMxcvt n res wd ws rs2) s = ok ((((List.range (vl / 32)).foldl (fun t j => if p j then t else
      (b j).2.foldl (fun t e => t.amaxUpdate n (cwSlot cw) e.2.1 e.2.2) t) (if vl = 0 then x else
        x.wrReg (R.VEC_SCALE n) (leNat ((List.range (vl / 32)).map (fun j => BitVec.ofNat 8 (b j).1))))).svEnd n res wd kd 0
          0).coreDone n) := by
  subst hcw hsw hdw hvl hks hkd hx
  obtain rfl := funext hb
  obtain rfl := funext hp
  rw [exec_svMxcvt, execSvMxcvt, ← sp_of_vecReady hready n]
  refine (svRun_legal hready _ _ (by simp [hlegal, hmod, h256, hks8, hws, hwd])).trans ?_
  simp only [List.foldl_map, List.map_map, List.flatMap_map, List.any_map]
  rfl

/-! ## SV.MXEXP -/

theorem exec_svMxexp_illegal (h : mxCwOk cw true = false ∨ vl % 32 ≠ 0 ∨ 256 < vl ∨ 8 < kd ∨ groupOk ws ks = false ∨
    groupOk wd kd = false) : exec (.svMxexp n res wd ws rs2) s = ok ((u.illegal n).coreDone n) := by
  subst hcw hsw hdw hvl hks hkd
  rw [exec_svMxexp, execSvMxexp, ← sp_of_vecReady hready n]
  refine svRun_illegal hready _ _ ?_
  rcases h with h | h | h | h | h | h <;> simp [h]

theorem exec_svMxexp_legal (hlegal : mxCwOk cw true = true) (hmod : vl % 32 = 0) (h256 : vl ≤ 256) (hkd8 : kd ≤ 8)
    (hws : groupOk ws ks = true) (hwd : groupOk wd kd = true) {v : Nat → FVal} {e : Nat → Nat × Bool} {p : Nat → Bool}
    (hv : ∀ i, v i = mxValue (bits (u.rdReg (R.VEC_SCALE n)) (8 * (i / 32)) 8) (narrowVal (cwSrc cw) ((u.sp n).el ws sw i) true))
    (he : ∀ i, e i = (fmtOf (cwDst cw)).convert (v i) false) (hp : ∀ i, p i = (u.sp n).elPoison ws sw i) :
    exec (.svMxexp n res wd ws rs2) s = ok ((((List.range vl).foldl (fun t i => if p i then t else
      t.amaxUpdate n (cwSlot cw) (if (v i).isNan then none else some (v i)) (e i).2) (u.setSp n ((u.sp n).putEls wd dw 0
        ((List.range vl).map (fun i => ((e i).1, p i)))))).svEnd n res wd kd 0 0).coreDone n) := by
  subst hcw hsw hdw hvl hks hkd
  obtain rfl := funext hv
  obtain rfl := funext he
  obtain rfl := funext hp
  rw [exec_svMxexp, execSvMxexp, ← sp_of_vecReady hready n]
  refine (svRun_legal hready _ _ (by simp [hlegal, hmod, h256, hkd8, hws, hwd])).trans ?_
  simp only [List.foldl_map, List.map_map]
  rfl

end Convert

end Sys2Proof.Machine
end

section
/-! What a core's state shows of its progress leaves where its accesses go, and what a write at home does. -/

namespace Sys2Proof.Machine

open Sys2Proof

/-! ## CORE and where an access goes -/

section Route

variable (s : State) (n v : Nat)

theorem nodeReg_ne_spireStatus {a : Nat} (h : a < spireBlock 0) : a ≠ R.SPIRE_STATUS n := (ne_spireReg n _ h).symm

theorem tensCtx_ne_spireStatus (k c : Nat) : R.TENS_CTX k c ≠ R.SPIRE_STATUS n := by
  unfold R.TENS_CTX R.SPIRE_STATUS spireBlock
  omega

theorem sealed_setCore : (s.setCore n v).sealed = s.sealed := sealed_wr_spireReg s v rfl

theorem rd_setCore_node {f : Field} (h : f.addr < spireBlock 0) : (s.setCore n v).rd f = s.rd f :=
  rd_setCore_ne s n v (nodeReg_ne_spireStatus n h)

theorem target_setCore (a : Nat) : (s.setCore n v).target a = s.target a := by
  rw [State.target, State.target, State.nodeId, State.nodeId, rd_setCore_node _ _ _ (by decide)]

theorem backed_setCore (a m : Nat) : (s.setCore n v).backed a m = s.backed a m := by
  have hreserved : (s.setCore n v).reserved a m = s.reserved a m := by
    rw [State.reserved, State.reserved, rd_setCore_node (f := F.NODE_REC_STATUS_STATE) _ _ _ (by decide),
      rd_setCore_node (f := F.NODE_REC_STATUS_BASE) _ _ _ (by decide),
      rd_setCore_node (f := F.NODE_REC_LENGTH_BYTES) _ _ _ (by decide)]
    rfl
  have hscratch : (s.setCore n v).scratchBacked a m = s.scratchBacked a m := by
    simp only [State.scratchBacked, State.powered, rd_setCore_node (f := F.NODE_TERRACE_PWR_POWERED) s n v (by decide)]
  rw [State.backed, State.backed, hreserved, hscratch]

theorem inReset_setCore (k : Nat) : (s.setCore n v).inReset k = s.inReset k := rfl

theorem coreMay_setCore (a m : Nat) : (s.setCore n v).coreMay a m = s.coreMay a m := by
  rw [State.coreMay, State.coreMay, backed_setCore, inReset_setCore]

theorem ctxHit_setCore (a m : Nat) : (s.setCore n v).ctxHit a m = s.ctxHit a m := by
  have hsealed (k c : Nat) := rd_setCore_ne (f := F.TENS_CTX_SEALED k c) s n v (tensCtx_ne_spireStatus n k c)
  have hbase (k c : Nat) := rd_setCore_ne (f := F.TENS_CTX_BASE k c) s n v (tensCtx_ne_spireStatus n k c)
  have hlen (k c : Nat) := rd_setCore_ne (f := F.TENS_CTX_LENGTH k c) s n v (tensCtx_ne_spireStatus n k c)
  simp only [State.ctxHit, State.flag, hsealed, hbase, hlen]

theorem homeStatus_setCore (a m : Nat) (w : Bool) : (s.setCore n v).homeStatus a m w = s.homeStatus a m w := by
  simp only [State.homeStatus, State.flag, rd_setCore_node (f := F.NODE_PROFILE_SWITCHING) s n v (by decide), inReset_setCore,
    backed_setCore, ctxHit_setCore]
  rfl

theorem coreTarget_setCore (a m : Nat) (w : Bool) : (s.setCore n v).coreTarget a m w = s.coreTarget a m w := by
  rw [State.coreTarget, State.coreTarget, target_setCore]
  cases s.target a with
  | here l => simp only [coreMay_setCore, ctxHit_setCore]
  | self l => simp only [homeStatus_setCore]
  | pond node l => rfl
  | weir node l => rfl
  | bad => rfl

end Route

/-! ## The same write in two states that differ in registers it does not use -/

section Both

variable {l : List Nat} {s t : State} (h : WritesOnly l s t)
include h

/-- What neither uses nor changes a register keeps the difference. -/
theorem WritesOnly.map {f : State → State} (hf : ∀ (u : State) regs, f { u with regs := regs } = { f u with regs := regs }) :
    WritesOnly l (f s) (f t) := by
  obtain ⟨hframe, hregs⟩ := h
  have hfregs (u : State) : (f u).regs = u.regs := (congrArg State.regs (hf u u.regs)).trans rfl
  refine ⟨?_, fun a ha => ?_⟩
  · unfold RegsFrame at *
    generalize t.regs = regs at hframe
    rw [hframe, hf]
  · rw [State.rdReg, State.rdReg, hfregs, hfregs]
    exact hregs a ha

theorem WritesOnly.wr_both (f : Field) (v : Nat) : WritesOnly l (s.wr f v) (t.wr f v) := by
  obtain ⟨hframe, hregs⟩ := h
  refine ⟨?_, fun a ha => ?_⟩
  · unfold RegsFrame at *
    generalize t.regs = regs at hframe
    subst hframe
    rfl
  · by_cases hfa : a = f.addr
    · subst hfa
      rw [State.wr, State.wr, State.rdReg_wrReg_same, State.rdReg_wrReg_same, hregs _ ha]
    · rw [State.rdReg_wr_ne _ _ hfa, State.rdReg_wr_ne _ _ hfa, hregs a ha]

theorem WritesOnly.foldl {α : Type} (f : State → α → State)
    (hf : ∀ {u v : State} (x : α), WritesOnly l u v → WritesOnly l (f u x) (f v x)) (xs : List α) :
    WritesOnly l (xs.foldl f s) (xs.foldl f t) := by
  induction xs generalizing s t with
  | nil => exact h
  | cons x xs ih => exact ih (hf x h)

theorem WritesOnly.fresh_eq : t.fresh = s.fresh := by
  have hframe := h.regsFrame
  unfold RegsFrame at hframe
  rw [hframe]

theorem WritesOnly.ckpt_eq : t.ckpt = s.ckpt := by
  have hframe := h.regsFrame
  unfold RegsFrame at hframe
  rw [hframe]

variable (hguard : ∀ a ∈ guardRegs, a ∉ l)
include hguard

theorem WritesOnly.granuleAhead (g : Nat × Nat) : WritesOnly l (s.granuleAhead g) (t.granuleAhead g) := by
  have hrd {u v : State} (huv : WritesOnly l u v) (f : Field) (hf : f.addr ∈ guardRegs) : v.rd f = u.rd f :=
    huv.rd_eq (hguard _ hf)
  have hcopied : WritesOnly l (s.copyRange g.1 g.2 granuleBytes) (t.copyRange g.1 g.2 granuleBytes) :=
    h.map (f := fun u => u.copyRange g.1 g.2 granuleBytes) fun _ _ => rfl
  rw [State.granuleAhead, State.granuleAhead, hrd h _ (by decide), State.free, State.free, h.fresh_eq, State.inc, State.inc,
    hrd hcopied _ (by decide), State.incw, State.incw, hrd (hcopied.wr_both _ _) _ (by decide)]
  exact ((hcopied.wr_both _ _).wr_both _ _).wr_both _ _

theorem WritesOnly.copyAhead (a n : Nat) : WritesOnly l (s.copyAhead a n) (t.copyAhead a n) := by
  rw [copyAhead_eq, copyAhead_eq, h.ckpt_eq]
  split
  · exact h
  · exact (h.map (f := fun u => u.granulesApart a n) fun _ _ => rfl).foldl _ (fun g huv => huv.granuleAhead hguard g) _

theorem WritesOnly.writeCells (a : Nat) (cs : List (Byte × Bool)) : WritesOnly l (s.writeCells a cs) (t.writeCells a cs) := by
  have htouch : WritesOnly l (s.touch a (cs.map (·.1)).length) (t.touch a (cs.map (·.1)).length) :=
    (h.copyAhead hguard a _).map (f := fun u => { u with
      resv := u.resv.filter (fun r => !overlaps a (cs.map (·.1)).length r.2 64)
      domeLines := u.domeLines.filter (fun l => !overlaps a (cs.map (·.1)).length l.1 64) }) fun _ _ => rfl
  exact (htouch.map (f := fun u => u.rawWrite a (cs.map (·.1))) fun _ _ => rfl).map (f := fun u => u.setPoison _) fun _ _ => rfl

end Both

end Sys2Proof.Machine
end

section
/-! A short-vector load or store at unit stride whose elements all lie at this node, within its command (R173, R176, R177, R181): the
states of its run, one after each element, and its end. -/

namespace Sys2Proof.Machine

open Sys2Proof

/-! ## Runs -/

theorem svRunOn_steps {n : Nat} (m j : Nat) : ∀ f : Nat → State,
    (∀ k < m, (f k).svStep n = some (f (k + 1))) → svRunOn n (m + j) (f 0) = svRunOn n j (f m) := by
  induction m with
  | zero => exact fun f _ => by rw [Nat.zero_add]
  | succ m ih =>
    intro f h
    rw [Nat.add_right_comm, svRunOn, h 0 m.succ_pos]
    exact ih (fun k => f (k + 1)) fun k hk => h (k + 1) (Nat.succ_lt_succ hk)

theorem svRunOn_stops {s : State} {n : Nat} (h : s.svStep n = none) (hsealed : s.sealed = false) : ∀ j, svRunOn n j s = s
  | 0 => rfl
  | j + 1 => by simp [svRunOn, h, hsealed]

/-- A run that takes m steps, and one more to its end. -/
theorem svGo_steps {n m : Nat} {f : Nat → State} {x : State} (hsteps : ∀ k < m, (f k).svStep n = some (f (k + 1)))
    (hend : (f m).svStep n = some x) (hstops : x.svStep n = none) (hsealed : x.sealed = false) (hfuel : m < (f 0).svFuel n) :
    (f 0).svGo n = x := by
  obtain ⟨j, hj⟩ := Nat.exists_eq_add_of_lt hfuel
  rw [State.svGo, hj, show m + j + 1 + (f 0).svFuel (mirror n) = m + (j + (f 0).svFuel (mirror n) + 1) by omega,
    svRunOn_steps m _ f hsteps, svRunOn, hend]
  exact svRunOn_stops hstops hsealed _

/-! ## A run at one element -/

/-- An instruction at unit stride, about to begin an element. -/
def SvRun.atElem (store : Bool) (group base res elem : Nat) (done : List (List (Nat × Bool))) : SvRun :=
  { store := store, group := group, nf := 1, base := base, index := none, res := res, elem := elem, field := 0, off := 0,
    part := [], acc := .none, fields := [], done := done }

theorem svStart_eq (u : State) (n res : Nat) (store : Bool) (w rs1 : Nat) :
    u.svStart n res store w rs1 1 none = .atElem store w ((u.sp n).xr rs1).toNat res (u.vecIdx n) [] := rfl

theorem svBytes_pos (x : Spire) : 0 < x.svBytes := by
  rw [Spire.svBytes, svBits, Nat.mul_div_cancel_left _ (by decide)]
  positivity

/-- The definition is unfolded before it is applied, as in svField_at. -/
theorem svAddr_formed {x : Spire} {r : SvRun} {i f a : Nat} (haddr : formAddr r.base (x.svOff r i f : Nat) = some a)
    (hfit : a % 2 ^ 48 + x.svBytes ≤ 2 ^ 48) : x.svAddr r i f = some a := by
  have hdef : Spire.svAddr = Spire.svAddr := rfl
  conv at hdef => rhs; delta Spire.svAddr
  rw [hdef]
  beta_reduce
  rw [haddr]
  exact if_pos hfit

theorem svAddr_atElem {x : Spire} {store : Bool} {group base res i a : Nat} {done : List (List (Nat × Bool))}
    (haddr : formAddr base (i * x.svBytes : Nat) = some a) (hfit : a % 2 ^ 48 + x.svBytes ≤ 2 ^ 48) :
    x.svAddr (.atElem store group base res i done) i 0 = some a := by
  have hoff : x.svOff (.atElem store group base res i done) i 0 = i * x.svBytes := by
    rw [Spire.svOff]
    simp [SvRun.atElem]
  rw [← hoff] at haddr
  exact svAddr_formed haddr hfit

theorem poisonAt_of_clean {s : State} {a m i : Nat} (h : s.poisoned a m = false) (hi : i < m) : s.poisonAt (a + i) = false := by
  refine Bool.eq_false_iff.2 fun hmark => ?_
  rw [State.poisonAt, List.contains_iff_mem] at hmark
  rw [State.poisoned, List.any_eq_false] at h
  have hoff := h _ hmark
  simp only [Bool.and_eq_true, decide_eq_true_eq] at hoff
  omega

theorem map_fst_readCells (s : State) (a m : Nat) : (s.readCells a m).map (·.1) = s.readBytes a m := by
  rw [State.readCells, List.map_map]
  rfl

theorem readCells_clean {s : State} {a m : Nat} (h : s.poisoned a m = false) : (s.readCells a m).any (·.2) = false := by
  rw [State.readCells, List.any_map]
  exact List.any_eq_false.2 fun i hi => ne_true_of_eq_false (poisonAt_of_clean h (List.mem_range.1 hi))

section Elem

variable {s : State} {n group base res i : Nat} {done : List (List (Nat × Bool))}

theorem svNext_load (v : Nat) : s.svNext n (.atElem false group base res i done) (v, false) =
    s.setSv n (.atElem false group base res (i + 1) (done ++ [[(v, false)]])) := rfl

theorem svNext_store (v : Nat) : s.svNext n (.atElem true group base res i []) (v, false) =
    s.setSv n (.atElem true group base res (i + 1) []) := rfl

theorem svTake_load {cs : List (Byte × Bool)} (hlen : cs.length = (s.sp n).svBytes) (hclean : cs.any (·.2) = false) :
    s.svTake n (.atElem false group base res i done) cs =
      s.setSv n (.atElem false group base res (i + 1) (done ++ [[(leNat (cs.map (·.1)), false)]])) := by
  rw [State.svTake]
  simp only [SvRun.atElem, List.nil_append, hlen, lt_irrefl, if_false, hclean]
  exact svNext_load _

section Here

variable {store : Bool} (hsv : (s.sp n).sv = some (.atElem store group base res i done)) (hi : i < (s.sp n).vl) {a : Nat} {t : Target}
  (haddr : formAddr base (i * (s.sp n).svBytes : Nat) = some a) (hfit : a % 2 ^ 48 + (s.sp n).svBytes ≤ 2 ^ 48)
  (htarget : s.coreTarget a (s.sp n).svBytes store = (t, St.ok)) (hremote : t.remote = false)
include hsv hi haddr hfit htarget hremote

/-- An element of this node begins with its field. -/
theorem svStep_atElem (hheld : store = true ∨ s.check.twins = []) :
    s.svStep n = s.svField n (.atElem store group base res i done) := by
  rw [svStep_begins hsv hi rfl]
  refine svBegin_accepted rfl rfl rfl ?_ hheld
  rw [show (SvRun.atElem store group base res i done).elem = i from rfl, svAddr_atElem haddr hfit]
  exact (svRefused_here htarget hremote).trans (if_neg (by simp))

end Here

/-- An element is read. -/
theorem svStep_reads (hsv : (s.sp n).sv = some (.atElem false group base res i done)) (hi : i < (s.sp n).vl) {a : Nat} {t : Target}
    (haddr : formAddr base (i * (s.sp n).svBytes : Nat) = some a) (hfit : a % 2 ^ 48 + (s.sp n).svBytes ≤ 2 ^ 48)
    (htarget : s.coreTarget a (s.sp n).svBytes false = (t, St.ok)) (hremote : t.remote = false) (htwins : s.check.twins = [])
    (hclean : s.poisoned t.loc (s.sp n).svBytes = false) : s.svStep n =
      some (s.setSv n (.atElem false group base res (i + 1) (done ++ [[(s.readNat t.loc (s.sp n).svBytes, false)]]))) := by
  rw [svStep_atElem hsv hi haddr hfit htarget hremote (.inr htwins),
    svField_load (r := .atElem false group base res i done) (svAddr_atElem haddr hfit) htarget hremote rfl,
    svTake_load (by simp [State.readCells]) (readCells_clean hclean), map_fst_readCells]
  rfl

/-- An element is written. -/
theorem svStep_writes (hsv : (s.sp n).sv = some (.atElem true group base res i [])) (hi : i < (s.sp n).vl) {a : Nat} {t : Target}
    (haddr : formAddr base (i * (s.sp n).svBytes : Nat) = some a) (hfit : a % 2 ^ 48 + (s.sp n).svBytes ≤ 2 ^ 48)
    (htarget : s.coreTarget a (s.sp n).svBytes true = (t, St.ok)) (hremote : t.remote = false) (hsealed : s.sealed = false) :
    s.svStep n = some ((s.writeCells t.loc ((natLE (s.sp n).svBytes ((s.sp n).el group (svBits (s.sp n).ew) i)).map (fun b =>
      (b, (s.sp n).elPoison group (svBits (s.sp n).ew) i)))).setSv n (.atElem true group base res (i + 1) [])) := by
  have hcells : (s.sp n).svCells (.atElem true group base res i []) =
      (natLE (s.sp n).svBytes ((s.sp n).el group (svBits (s.sp n).ew) i)).map (fun b =>
        (b, (s.sp n).elPoison group (svBits (s.sp n).ew) i)) := by
    simp [Spire.svCells, SvRun.atElem]
  rw [svStep_atElem hsv hi haddr hfit htarget hremote (.inl rfl),
    svField_store (r := .atElem true group base res i []) (svAddr_atElem haddr hfit) htarget hremote rfl hsealed, svNext_store,
    hcells]

end Elem

/-! ## The end -/

/-- A spire with the memory instruction it is in, and with what its core waits for. -/
def Spire.withRun (x : Spire) (r : Option SvRun) (w : CoreWait) : Spire := { x with sv := r, wait := w }

/-- A spire between instructions of its short-vector unit. -/
def Spire.idle (x : Spire) : Spire := x.withRun none .none

/-- The core goes on after a memory instruction that leaves spire x. -/
def State.svOver (s : State) (n : Nat) (x : Spire) : State := ((s.setSp n x.idle).setCore n 1).vecDone n 0 0

section Over

variable (s : State) (n : Nat) (x : Spire)

theorem sp_svOver : (s.svOver n x).sp n = { x.idle with pc := x.pc + 4 } := by
  rw [State.svOver, State.vecDone, sp_coreNext, setX_zero, sp_wrReg, sp_setCore, State.sp_setSp_same]
  rfl

theorem svStep_svOver : (s.svOver n x).svStep n = none := by
  simp only [State.svStep, sp_svOver, Spire.idle, Spire.withRun]

theorem coreRuns_svOver : (s.svOver n x).coreRuns n = true := by
  rw [State.svOver, coreRuns_vecDone, coreRuns_setCore _ _ (by decide)]
  rfl

theorem sealed_svOver : (s.svOver n x).sealed = s.sealed :=
  (sealed_wrReg _ 0 (ne_spireReg n _ (by decide)).symm).trans (sealed_setCore (s.setSp n x.idle) n 1)

theorem keepsMem_svOver {s t : State} (h : s.keepsMem t) : s.keepsMem (t.svOver n x) := h

theorem rdReg_svOver {a : Nat} (h : a ∉ [R.SPIRE_STATUS n, R.VEC_FAULT_IDX n]) : (s.svOver n x).rdReg a = s.rdReg a := by
  simp only [List.mem_cons, List.not_mem_nil, or_false, not_or] at h
  exact (State.rdReg_wrReg_ne _ 0 h.2).trans (rdReg_setCore_ne (s.setSp n x.idle) 1 h.1)

theorem vecIdx_svOver : (s.svOver n x).vecIdx n = 0 :=
  congrArg (bits · 0 10) (State.rdReg_wrReg_same ((s.setSp n x.idle).setCore n 1) (R.VEC_FAULT_IDX n) 0)

end Over

section End

variable {s : State} {n group base res i : Nat} {done : List (List (Nat × Bool))} (hi : (s.sp n).vl ≤ i)
  (hsealed : s.sealed = false)
include hi hsealed

omit hi in
theorem svEnd_svOver (x : Spire) {r dst k : Nat} : ((s.setSp n x.idle).setCore n 1).svEnd n r dst k 0 0 = s.svOver n x :=
  svEnd_completes (.inl ((sealed_setCore _ n 1).trans hsealed))

/-- A load's elements go to its group, -/
theorem svStep_loadEnds (hsv : (s.sp n).sv = some (.atElem false group base res i done)) : s.svStep n =
    some (s.svOver n ((s.sp n).putEls group (svBits (s.sp n).ew) (i - done.length) (done.map (fun vs => vs.getD 0 (0, false))))) := by
  simp only [State.svStep, hsv]
  rw [if_pos (show (s.sp n).vl ≤ (SvRun.atElem false group base res i done).elem from hi), State.svFinish,
    if_neg (by simp [SvRun.atElem])]
  refine congrArg some ?_
  simp only [State.svPut, SvRun.atElem, Bool.false_eq_true, if_false, List.range_one, List.foldl_cons, List.foldl_nil, Nat.zero_mul,
    Nat.add_zero, State.sp_setSp_same, setSp_setSp]
  exact svEnd_svOver hsealed _

/-- and a store, whose writes are performed, leaves the spire as it was. -/
theorem svStep_storeEnds (hsv : (s.sp n).sv = some (.atElem true group base res i done)) (hout : s.unitOut n true = false) :
    s.svStep n = some (s.svOver n (s.sp n)) := by
  simp only [State.svStep, hsv]
  rw [if_pos (show (s.sp n).vl ≤ (SvRun.atElem true group base res i done).elem from hi), State.svFinish,
    if_neg (by simp [hout])]
  refine congrArg some ?_
  simp only [State.svPut, SvRun.atElem, if_true]
  exact svEnd_svOver hsealed _

end End

end Sys2Proof.Machine
end

section
/-! A load or store at unit stride of this node as a whole: its run from the first element to the last. -/

namespace Sys2Proof.Machine

open Sys2Proof

/-! ## The spire within an instruction -/

theorem setBitsAt_withRun (x : Spire) (r : Option SvRun) (c : CoreWait) (first lo w v : Nat) :
    (x.withRun r c).setBitsAt first lo w v = (x.setBitsAt first lo w v).withRun r c := by
  rw [setBitsAt_eq, setBitsAt_eq]
  split <;> rfl

/-- What the core waits for changes nothing in what is put into a group. -/
theorem putEls_withRun (x : Spire) (r : Option SvRun) (c : CoreWait) (first w start : Nat) (vals : List (Nat × Bool)) :
    (x.withRun r c).putEls first w start vals = (x.putEls first w start vals).withRun r c := by
  have hbits (l : List Nat) : l.foldl (fun x j => x.setBitsAt first ((start + j) * w) w (vals.getD j (0, false)).1) (x.withRun r c) =
      (l.foldl (fun x j => x.setBitsAt first ((start + j) * w) w (vals.getD j (0, false)).1) x).withRun r c :=
    List.foldl_hom (fun x : Spire => x.withRun r c) fun y j => setBitsAt_withRun y r c _ _ _ _
  rw [Spire.putEls, Spire.putEls, hbits]
  exact List.foldl_hom (fun x : Spire => x.withRun r c) fun y sl => rfl

theorem VecFrame.idle_eq {x y : Spire} (h : VecFrame x y) (hx : x.idle = x) : y.idle = y := by
  unfold VecFrame at h
  rw [h]
  exact congrArg (fun z : Spire => { z with v := y.v }) hx

theorem idle_of_idle {x : Spire} (hsv : x.sv = none) (hwait : x.wait = .none) : x.idle = x := by
  rw [Spire.idle, Spire.withRun, ← hsv, ← hwait]

/-- A state whose spire is in a memory instruction. -/
def State.inSvRun (b : State) (n : Nat) (r : SvRun) : State := b.setSp n ((b.sp n).withRun (some r) .sv)

section Within

variable (b : State) (n : Nat) (r : SvRun)

theorem sp_inSvRun : (b.inSvRun n r).sp n = (b.sp n).withRun (some r) .sv := State.sp_setSp_same _ _ _

theorem setSv_inSvRun (r' : SvRun) : (b.inSvRun n r).setSv n r' = b.inSvRun n r' := by
  rw [State.setSv, sp_inSvRun, State.inSvRun, setSp_setSp]
  rfl

theorem writeCells_inSvRun (a : Nat) (cs : List (Byte × Bool)) : (b.inSvRun n r).writeCells a cs = (b.writeCells a cs).inSvRun n r := by
  rw [State.inSvRun, writeCells_setSp, State.inSvRun, (homeWrite_writeCells b a cs).sp_eq]

theorem coreTarget_inSvRun (a m : Nat) (w : Bool) : (b.inSvRun n r).coreTarget a m w = b.coreTarget a m w :=
  (sameHome_setSp b n _).coreTarget_eq a m w

/-- The instruction begins. -/
theorem begins_inSvRun : (b.setSv n r).coreWait n .sv = (b.setCore n 3).inSvRun n r := by
  rw [State.coreWait, State.setSv, State.sp_setSp_same, setSp_setSp]
  rfl

end Within

/-! ## Elements of this node -/

/-- Element i of an access at unit stride lies at a place of this node. -/
def State.elemHere (u : State) (base bytes : Nat) (store : Bool) (i l : Nat) : Prop :=
  ∃ (a : Nat) (t : Target), formAddr base (i * bytes : Nat) = some a ∧ a % 2 ^ 48 + bytes ≤ 2 ^ 48 ∧
    u.coreTarget a bytes store = (t, St.ok) ∧ t.remote = false ∧ t.loc = l

section Run

variable {u : State} {n group base res start m : Nat} {loc : Nat → Nat} (hsealed : u.sealed = false)
  (hm : m = (u.sp n).vl - start)
include hm

/-- One step for each element, and one more, are within the fuel. -/
theorem lt_svFuel {store : Bool} {done : List (List (Nat × Bool))} {b : State} (hb : b.sp n = u.sp n) :
    m < (b.inSvRun n (.atElem store group base res start done)).svFuel n := by
  have hvl : (u.sp n).vl ≤ (u.sp n).vl * 1 * (u.sp n).svBytes := by
    rw [Nat.mul_one]
    exact Nat.le_mul_of_pos_right _ (svBytes_pos _)
  have hfuel : (b.inSvRun n (.atElem store group base res start done)).svFuel n =
      3 * ((u.sp n).vl * 1 * (u.sp n).svBytes) + 3 := by
    simp only [State.svFuel, sp_inSvRun, hb]
    rfl
  omega

include hsealed

/-! ## A load -/

/-- What a load has read after k elements. -/
def State.elemsRead (u : State) (loc : Nat → Nat) (bytes start k : Nat) : List (List (Nat × Bool)) :=
  (List.range k).map (fun j => [(u.readNat (loc (start + j)) bytes, false)])

omit hsealed hm in
theorem elemsRead_succ (bytes k : Nat) : u.elemsRead loc bytes start (k + 1) =
    u.elemsRead loc bytes start k ++ [[(u.readNat (loc (start + k)) bytes, false)]] := by
  rw [State.elemsRead, List.range_succ, List.map_append]
  rfl

/-- The run of a load after k elements. -/
def State.loadRun (u : State) (n group base res start : Nat) (loc : Nat → Nat) (k : Nat) : State :=
  (u.setCore n 3).inSvRun n (.atElem false group base res (start + k) (u.elemsRead loc (u.sp n).svBytes start k))

section LoadRun

omit hsealed hm
variable (u n group base res start loc) (k : Nat)

theorem sp_loadRun : (u.loadRun n group base res start loc k).sp n = (u.sp n).withRun
    (some (.atElem false group base res (start + k) (u.elemsRead loc (u.sp n).svBytes start k))) .sv := sp_inSvRun _ _ _

theorem sv_loadRun : ((u.loadRun n group base res start loc k).sp n).sv =
    some (.atElem false group base res (start + k) (u.elemsRead loc (u.sp n).svBytes start k)) := by
  rw [sp_loadRun]
  rfl

theorem vl_loadRun : ((u.loadRun n group base res start loc k).sp n).vl = (u.sp n).vl := by
  rw [sp_loadRun]
  rfl

theorem svBytes_loadRun : ((u.loadRun n group base res start loc k).sp n).svBytes = (u.sp n).svBytes := by
  rw [sp_loadRun]
  rfl

theorem rdReg_loadRun {a : Nat} (h : a ≠ R.SPIRE_STATUS n) : (u.loadRun n group base res start loc k).rdReg a = u.rdReg a :=
  rdReg_setCore_ne u 3 h

theorem keepsMem_loadRun {s : State} (h : s.keepsMem u) : s.keepsMem (u.loadRun n group base res start loc k) := h

theorem coreTarget_loadRun (a bytes : Nat) (w : Bool) :
    (u.loadRun n group base res start loc k).coreTarget a bytes w = u.coreTarget a bytes w :=
  (coreTarget_inSvRun _ n _ a bytes w).trans (coreTarget_setCore u n 3 a bytes w)

end LoadRun

section Load

variable (htwins : u.check.twins = [])
  (hhere : ∀ k < m, u.elemHere base (u.sp n).svBytes false (start + k) (loc (start + k)) ∧
    u.poisoned (loc (start + k)) (u.sp n).svBytes = false)
include htwins hhere

omit hsealed in
theorem svStep_loadRun {k : Nat} (hk : k < m) :
    (u.loadRun n group base res start loc k).svStep n = some (u.loadRun n group base res start loc (k + 1)) := by
  obtain ⟨⟨a, t, haddr, hfit, htarget, hremote, hloc⟩, hclean⟩ := hhere k hk
  have hbytes := svBytes_loadRun u n group base res start loc k
  have hvl := vl_loadRun u n group base res start loc k
  rw [← hloc, ← hbytes] at hclean
  rw [← hbytes] at haddr hfit htarget
  rw [svStep_reads (sv_loadRun ..) (by omega) haddr hfit ((coreTarget_loadRun ..).trans htarget) hremote htwins hclean, hbytes, hloc,
    State.loadRun, setSv_inSvRun, State.loadRun, elemsRead_succ]
  rfl

/-- A load of this node's elements puts them in its group within its command. -/
theorem svGo_loads : (u.loadRun n group base res start loc 0).svGo n = (u.loadRun n group base res start loc m).svOver n
    (((u.sp n).putEls group (svBits (u.sp n).ew) start ((List.range m).map (fun j =>
      (u.readNat (loc (start + j)) (u.sp n).svBytes, false)))).withRun
        (some (.atElem false group base res (start + m) (u.elemsRead loc (u.sp n).svBytes start m))) .sv) := by
  have hsealed' : (u.loadRun n group base res start loc m).sealed = false := (sealed_setCore u n 3).trans hsealed
  have hvl := vl_loadRun u n group base res start loc m
  have hends := svStep_loadEnds (by omega) hsealed' (sv_loadRun u n group base res start loc m)
  have hlen : (u.elemsRead loc (u.sp n).svBytes start m).length = m := by rw [State.elemsRead, List.length_map, List.length_range]
  have hvals : (u.elemsRead loc (u.sp n).svBytes start m).map (fun vs => vs.getD 0 (0, false)) =
      (List.range m).map (fun j => (u.readNat (loc (start + j)) (u.sp n).svBytes, false)) := by
    rw [State.elemsRead, List.map_map]
    rfl
  rw [hlen, hvals, Nat.add_sub_cancel, sp_loadRun, putEls_withRun] at hends
  exact svGo_steps (fun k hk => svStep_loadRun hm htwins hhere hk) hends (svStep_svOver _ n _)
    ((sealed_svOver _ n _).trans hsealed') (lt_svFuel hm rfl)

end Load

/-! ## A store -/

/-- The first k elements of a store written, in order. -/
def State.elemsWritten (b : State) (x : Spire) (group start : Nat) (loc : Nat → Nat) (k : Nat) : State :=
  (List.range k).foldl (fun t j => t.writeCells (loc (start + j)) ((natLE x.svBytes (x.el group (svBits x.ew) (start + j))).map
    (fun b => (b, x.elPoison group (svBits x.ew) (start + j))))) b

section Written

omit hsealed hm

theorem elemsWritten_succ (b : State) (x : Spire) (k : Nat) : b.elemsWritten x group start loc (k + 1) =
    (b.elemsWritten x group start loc k).writeCells (loc (start + k)) ((natLE x.svBytes (x.el group (svBits x.ew) (start + k))).map
      (fun b => (b, x.elPoison group (svBits x.ew) (start + k)))) := by
  rw [State.elemsWritten, List.range_succ, List.foldl_append, List.foldl_cons, List.foldl_nil, State.elemsWritten]

theorem homeWrite_elemsWritten (b : State) (x : Spire) (k : Nat) : HomeWrite b (b.elemsWritten x group start loc k) :=
  homeWrite_foldl _ (fun _ _ => homeWrite_writeCells _ _ _) _ b

theorem WritesOnly.elemsWritten {l : List Nat} {b c : State} (h : WritesOnly l b c) (hguard : ∀ a ∈ guardRegs, a ∉ l) (x : Spire)
    (k : Nat) : WritesOnly l (b.elemsWritten x group start loc k) (c.elemsWritten x group start loc k) :=
  h.foldl (fun t j => t.writeCells (loc (start + j)) ((natLE x.svBytes (x.el group (svBits x.ew) (start + j))).map
    (fun b => (b, x.elPoison group (svBits x.ew) (start + j))))) (fun _ huv => huv.writeCells hguard _ _) _

end Written

/-- The run of a store after k elements. -/
def State.storeRun (u : State) (n group base res start : Nat) (loc : Nat → Nat) (k : Nat) : State :=
  ((u.setCore n 3).elemsWritten (u.sp n) group start loc k).inSvRun n (.atElem true group base res (start + k) [])

section StoreRun

omit hsealed hm
variable (u n group base res start loc) (k : Nat)

theorem sp_storeRun : (u.storeRun n group base res start loc k).sp n =
    (u.sp n).withRun (some (.atElem true group base res (start + k) [])) .sv := by
  rw [State.storeRun, sp_inSvRun, (homeWrite_elemsWritten _ _ _).sp_eq, sp_setCore]

theorem sv_storeRun : ((u.storeRun n group base res start loc k).sp n).sv =
    some (.atElem true group base res (start + k) []) := by
  rw [sp_storeRun]
  rfl

theorem vl_storeRun : ((u.storeRun n group base res start loc k).sp n).vl = (u.sp n).vl := by
  rw [sp_storeRun]
  rfl

theorem svBytes_storeRun : ((u.storeRun n group base res start loc k).sp n).svBytes = (u.sp n).svBytes := by
  rw [sp_storeRun]
  rfl

theorem coreTarget_storeRun (a bytes : Nat) (w : Bool) :
    (u.storeRun n group base res start loc k).coreTarget a bytes w = u.coreTarget a bytes w :=
  (coreTarget_inSvRun _ n _ a bytes w).trans
    (((homeWrite_elemsWritten _ _ _).sameHome.coreTarget_eq a bytes w).trans (coreTarget_setCore u n 3 a bytes w))

theorem sealed_storeRun : (u.storeRun n group base res start loc k).sealed = u.sealed :=
  (homeWrite_elemsWritten (u.setCore n 3) (u.sp n) k).sealed_eq.trans (sealed_setCore u n 3)

theorem unitOut_storeRun : (u.storeRun n group base res start loc k).unitOut n true = u.unitOut n true := by
  have hkept := homeWrite_elemsWritten (group := group) (start := start) (loc := loc) (u.setCore n 3) (u.sp n) k
  have hfab : ((u.setCore n 3).elemsWritten (u.sp n) group start loc k).fab = u.fab := by
    have hframe := hkept.frame
    unfold MemFrame at hframe
    rw [hframe]
    rfl
  have hcheck : ((u.setCore n 3).elemsWritten (u.sp n) group start loc k).check = u.check := hkept.check_eq
  rw [State.storeRun, State.inSvRun]
  simp only [State.unitOut, State.owes, State.twinsOut, State.setSp, hfab, hcheck]

end StoreRun

section Store

variable (hhere : ∀ k < m, u.elemHere base (u.sp n).svBytes true (start + k) (loc (start + k)))
include hhere

theorem svStep_storeRun {k : Nat} (hk : k < m) :
    (u.storeRun n group base res start loc k).svStep n = some (u.storeRun n group base res start loc (k + 1)) := by
  obtain ⟨a, t, haddr, hfit, htarget, hremote, hloc⟩ := hhere k hk
  have hvl := vl_storeRun u n group base res start loc k
  rw [← svBytes_storeRun u n group base res start loc k] at haddr hfit htarget
  rw [svStep_writes (sv_storeRun ..) (by omega) haddr hfit ((coreTarget_storeRun ..).trans htarget) hremote
    ((sealed_storeRun ..).trans hsealed), sp_storeRun, hloc, State.storeRun, writeCells_inSvRun, setSv_inSvRun, State.storeRun,
    elemsWritten_succ]
  rfl

/-- A store of elements to this node writes them within its command. -/
theorem svGo_stores (hout : u.unitOut n true = false) : (u.storeRun n group base res start loc 0).svGo n =
    (u.storeRun n group base res start loc m).svOver n ((u.storeRun n group base res start loc m).sp n) := by
  have hsealed' : (u.storeRun n group base res start loc m).sealed = false := (sealed_storeRun ..).trans hsealed
  have hvl := vl_storeRun u n group base res start loc m
  exact svGo_steps (fun k hk => svStep_storeRun hsealed hm hhere hk)
    (svStep_storeEnds (by omega) hsealed' (sv_storeRun ..) ((unitOut_storeRun ..).trans hout)) (svStep_svOver _ n _)
    ((sealed_svOver _ n _).trans hsealed') (lt_svFuel hm rfl)

end Store

end Run


end Sys2Proof.Machine
end

section
/-! Short-vector memory within its command, and what stops it (R176–R181). -/

namespace Sys2Proof.Machine

open Sys2Proof

/-! ## Loads and stores of this node in one command -/

section Ready

variable {s u t : State} {n : Nat}

theorem vecIdx_of_ok (h : ok s = .next t) : t.vecIdx n = s.vecIdx n :=
  congrArg (bits · 0 10) (keepsRegs_of_ok (l := []) h (fun _ _ => rfl) _ List.not_mem_nil (spireReg_not_count n _))

theorem keepsMem_of_vecReady (h : s.vecReady n u) : s.keepsMem u := by
  obtain ⟨-, rfl⟩ := h
  exact (writesOnly_svWake s n).regsFrame.keepsMem

theorem guardRegs_apart_spireStatus : ∀ a ∈ guardRegs, a ∉ [R.SPIRE_STATUS n] :=
  fun _ ha h => spireReg_not_guard n _ (List.mem_singleton.1 h ▸ ha)

end Ready

section Here

variable {n : Fin 288} {res : Fin 3} {g rs1 : Fin 32} {s u : State} {loc : Nat → Nat} (hready : s.vecReady n u)
  (hsealed : u.sealed = false) (hsv : (u.sp n).sv = none) (hwait : (u.sp n).wait = .none)
  (hg : groupOk g (svSpan (u.sp n).span) = true) (hfits : g.val + svSpan (u.sp n).span ≤ 32)
include hready hwait hg hfits

/-- The row begins a run, which the command carries to its end when that is reached without waiting. -/
theorem svMove_runs {store : Bool} {x : State}
    (hrun : (((u.setCore n 3).inSvRun n (.atElem store g ((u.sp n).xr rs1).toNat res (u.vecIdx n) [])).svGo n) = x)
    (hx : x.coreRuns n = true) : s.svMove n res store g rs1 1 none (fun _ => true) [] = ok x := by
  have hidle : (s.sp n).wait ≠ .sv := by rw [← sp_of_vecReady hready n, hwait]; exact nofun
  rw [svMove_begins hidle hready, if_pos (by simp [hg, hfits]), show u.eccAll [] = u from rfl, svStart_eq, begins_inSvRun, hrun,
    coreDone_of_runs hx]

include hsealed

include hsv in
theorem svLd_loads (htwins : u.check.twins = [])
    (hhere : ∀ i ∈ u.lanes n, u.elemHere ((u.sp n).xr rs1).toNat (u.sp n).svBytes false i (loc i) ∧
      u.poisoned (loc i) (u.sp n).svBytes = false) :
    Does (.svLd n res g rs1 []) s (fun t => t.sp n = (((u.putLanes n g (svBits (u.sp n).ew) ((u.lanes n).map (fun i =>
      (u.readNat (loc i) (u.sp n).svBytes, false)))).vecDone n 0 0).sp n) ∧ t.coreRuns n = true ∧ t.vecIdx n = 0 ∧ s.keepsMem t ∧
      u.keepsRegs t [R.SPIRE_STATUS n, R.VEC_FAULT_IDX n]) := by
  have hgo := svGo_loads (group := g) (base := ((u.sp n).xr rs1).toNat) (res := res) (start := u.vecIdx n) (loc := loc) hsealed rfl
    htwins fun k hk => hhere _ (List.mem_map.2 ⟨k, List.mem_range.2 hk, rfl⟩)
  refine does_of_ok ((exec_svLd ..).trans (svMove_runs hready hwait hg hfits hgo (coreRuns_svOver ..))) fun t ht => ⟨?_, ?_, ?_, ?_, ?_⟩
  · have hvals : (u.lanes n).map (fun i => (u.readNat (loc i) (u.sp n).svBytes, false)) =
        (List.range ((u.sp n).vl - u.vecIdx n)).map (fun j => (u.readNat (loc (u.vecIdx n + j)) (u.sp n).svBytes, false)) := by
      rw [State.lanes, List.map_map]
      rfl
    rw [sp_of_ok ht, sp_svOver, State.vecDone, sp_coreNext, setX_zero, sp_wrReg, State.putLanes, State.sp_setSp_same, hvals]
    exact congrArg (fun x : Spire => { x with pc := x.pc + 4 })
      ((vecFrame_putEls (u.sp n) _ _ _ _).idle_eq (idle_of_idle hsv hwait))
  · rw [coreRuns_of_ok ht, coreRuns_svOver]
  · rw [vecIdx_of_ok ht, vecIdx_svOver]
  · exact keepsMem_of_ok ht (keepsMem_svOver _ _ (keepsMem_loadRun _ _ _ _ _ _ _ _ (keepsMem_of_vecReady hready)))
  · exact keepsRegs_of_ok ht fun a ha => (rdReg_svOver _ _ _ ha).trans
      (rdReg_loadRun _ _ _ _ _ _ _ _ fun h => ha (h ▸ List.mem_cons_self))

theorem svSt_stores (hout : u.unitOut n true = false)
    (hhere : ∀ i ∈ u.lanes n, u.elemHere ((u.sp n).xr rs1).toNat (u.sp n).svBytes true i (loc i)) {v : State}
    (hv : v = (u.lanes n).foldl (fun t i => t.writeCells (loc i) ((natLE (u.sp n).svBytes ((u.sp n).el g (svBits (u.sp n).ew) i)).map
      (fun b => (b, (u.sp n).elPoison g (svBits (u.sp n).ew) i)))) u) :
    Does (.svSt n res g rs1) s (fun t => v.keepsMem t ∧ t.coreRuns n = true ∧ t.vecIdx n = 0 ∧
      (t.sp n).pc = (u.sp n).pc + 4 ∧ v.keepsRegs t [R.SPIRE_STATUS n, R.VEC_FAULT_IDX n]) := by
  have hgo := svGo_stores (group := g) (base := ((u.sp n).xr rs1).toNat) (res := res) (start := u.vecIdx n) (loc := loc) hsealed rfl
    (fun k hk => hhere _ (List.mem_map.2 ⟨k, List.mem_range.2 hk, rfl⟩)) hout
  have hwritten : v = u.elemsWritten (u.sp n) g (u.vecIdx n) loc ((u.sp n).vl - u.vecIdx n) := by
    rw [hv, State.lanes, List.foldl_map]
    rfl
  have hboth : WritesOnly [R.SPIRE_STATUS n] v ((u.setCore n 3).elemsWritten (u.sp n) g (u.vecIdx n) loc
      ((u.sp n).vl - u.vecIdx n)) := by
    rw [hwritten]
    exact (writesOnly_wr (f := F.SPIRE_STATUS_CORE n) u 3 (List.mem_singleton_self _)).elemsWritten guardRegs_apart_spireStatus _ _
  refine does_of_ok ((exec_svSt ..).trans (svMove_runs hready hwait hg hfits hgo (coreRuns_svOver ..))) fun t ht => ⟨?_, ?_, ?_, ?_, ?_⟩
  · exact keepsMem_of_ok ht (keepsMem_svOver _ _ (keepsMem_setSp n _ hboth.regsFrame.keepsMem))
  · rw [coreRuns_of_ok ht, coreRuns_svOver]
  · rw [vecIdx_of_ok ht, vecIdx_svOver]
  · rw [sp_of_ok ht, sp_svOver, sp_storeRun]
    rfl
  · refine keepsRegs_of_ok ht fun a ha => (rdReg_svOver _ _ _ ha).trans (hboth.rdReg_eq a fun h => ha ?_)
    rw [List.mem_singleton.1 h]
    exact List.mem_cons_self

end Here

/-! ## An element that is refused, or lies at another node of the pond -/

section Stop

variable {s : State} {n : Nat} {r : SvRun} {a st : Nat} (hsv : (s.sp n).sv = some r) (helem : r.elem < (s.sp n).vl)
  (hacc : r.acc = .none) (hnf : r.nf = 1) (hfield : r.field = 0) (hoff : r.off = 0)
include hsv helem hacc hnf hfield hoff

theorem svStep_nowhere (haddr : (s.sp n).svAddr r r.elem 0 = none) : s.svStep n = some (s.svFault n r 0) := by
  rw [svStep_begins hsv helem hacc]
  refine svBegin_refused hnf hfield hoff ?_
  rw [haddr]
  exact svRefused_nowhere

variable (haddr : (s.sp n).svAddr r r.elem 0 = some a)
include haddr

theorem svStep_refused {t : Target} (htarget : s.coreTarget a (s.sp n).svBytes r.store = (t, st)) (hremote : t.remote = false)
    (hst : st ≠ St.ok) : s.svStep n = some ((s.noteRefusal t (s.sp n).svBytes st r.store).svFault n r 0) := by
  rw [svStep_begins hsv helem hacc]
  refine svBegin_refused hnf hfield hoff ?_
  rw [haddr, svRefused_here htarget hremote, if_pos hst]

theorem svStep_pond {node l : Nat} (htarget : s.coreTarget a (s.sp n).svBytes r.store = (.pond node l, st))
    (htwins : s.check.twins = []) : s.svStep n = if s.stalls (spireEngine n) (.pond node l) then none else some (if r.store then
      (s.setSv n { r with acc := .out }).remoteStore (spireEngine n) (.pond node l) 0
        (((s.sp n).svCells r).take (svPiece a 0 (s.sp n).svBytes)) (.unit n true)
      else (s.setSv n { r with acc := .out }).remoteLoad (spireEngine n) (svPiece a 0 (s.sp n).svBytes) (.pond node l) 0
        (.unit n true)) := by
  rw [svStep_begins hsv helem hacc, svBegin_accepted hnf hfield hoff (by rw [haddr]; exact svRefused_pond htarget) (.inr htwins),
    svField_pond (by rw [hfield, haddr]) htarget hoff]

end Stop

/-- Settles O34. A row begins a run or looks again; a run over elements of this node is carried to its end, element by element, and
stops at one that is refused; a conversion by its lanes. -/
theorem vectorMemoryAndConversions : Obligations.VectorMemoryAndConversions := by
  refine ⟨fun n res nf w rs1 wi ecc s u k fits run go hwait hready hk hfits hrun hgo => ?_,
    fun n res nf w rs1 wi ecc s hwait => ⟨(exec_svLd ..).trans (svMove_waiting hwait), (exec_svSt ..).trans (svMove_waiting hwait),
      (exec_svLseg ..).trans (svMove_waiting hwait), (exec_svSseg ..).trans (svMove_waiting hwait),
      (exec_svGth ..).trans (svMove_waiting hwait), (exec_svSct ..).trans (svMove_waiting hwait)⟩,
    fun n res wd rs1 s u k w loc hready hsealed hwait hsv htwins hk hw hg hfits hhere => ?_,
    fun n res ws rs1 s u v k w loc hready hsealed hwait hsv hout hk hw hg hfits hhere hv => ?_,
    fun s n r a st t hsv helem hacc hnf hfield hoff => ⟨svStep_nowhere hsv helem hacc hnf hfield hoff, fun haddr htarget =>
      ⟨svStep_refused hsv helem hacc hnf hfield hoff haddr htarget, fun nd l p ht htwins hp => ?_⟩⟩,
    fun s n i addr store hmtvec hi => vecFault_records s n i addr store hmtvec hi,
    fun n res wd ws rs2 s u cw sw dw ks kd hready hcw hsw hdw hks hkd =>
      ⟨exec_svCvt_illegal hready hcw hsw hdw rfl hks hkd, fun hlegal hks8 hkd8 hws hwd v e p hv he hp =>
        exec_svCvt_legal hready hcw hsw hdw rfl hks hkd hlegal hks8 hkd8 hws hwd hv he hp⟩,
    fun n res wd ws rs2 s u cw sw dw ks kd vl hready hcw hsw hdw hvl hks hkd =>
      ⟨exec_svMxcvt_illegal hready hcw hsw hdw hvl hks hkd, exec_svMxexp_illegal hready hcw hsw hdw hvl hks hkd,
        fun hlegal hmod h256 hks8 hws hwd b p x hb hp hx =>
          exec_svMxcvt_legal hready hcw hsw hdw hvl hks hkd hlegal hmod h256 hks8 hws hwd hb hp hx,
        fun hlegal hmod h256 hkd8 hws hwd v e p hv he hp =>
          exec_svMxexp_legal hready hcw hsw hdw hvl hks hkd hlegal hmod h256 hkd8 hws hwd (fun i => (hv i).trans ?_) he hp⟩⟩
  · subst hk
    have hmove (store : Bool) (m : Nat) (ix : Option Nat) (legal : Spire → Bool) (e : EccFinds) :
        s.svMove n res store w rs1 m ix legal e =
          if fits m && legal (u.sp n) then go e (run store m ix) else ok ((u.illegal n).coreDone n) := by
      rw [svMove_begins hwait hready, hfits, hgo, hrun]
      rfl
    have hplain (store : Bool) (m : Nat) (e : EccFinds) : s.svMove n res store w rs1 m none (fun _ => true) e =
        if fits m then go e (run store m none) else ok ((u.illegal n).coreDone n) := by
      rw [hmove, Bool.and_true]
    refine ⟨(exec_svLd ..).trans (hplain false 1 ecc), (exec_svSt ..).trans (hplain true 1 []),
      (exec_svLseg ..).trans (hplain false (nf + 2) ecc), (exec_svSseg ..).trans (hplain true (nf + 2) []), ?_, ?_⟩
    · rw [exec_svGth, hmove, Bool.and_assoc, Bool.and_assoc, Bool.and_assoc]
    · rw [exec_svSct, hmove, Bool.and_assoc]
  · subst hk hw
    exact svLd_loads hready hsealed hsv hwait hg hfits htwins fun i hi => by
      obtain ⟨a, t, haddr, hfit, htarget, hremote, hloc, hclean⟩ := hhere i hi
      exact ⟨⟨a, t, haddr, hfit, htarget, hremote, hloc⟩, hclean⟩
  · subst hk hw
    exact svSt_stores hready hsealed hwait hg hfits hout hhere hv
  · subst ht hp
    have hstep := svStep_pond hsv helem hacc hnf hfield hoff haddr htarget htwins
    exact ⟨fun hstall => by rw [hstep, if_pos hstall], fun hstall => by rw [hstep, if_neg (ne_true_of_eq_false hstall)]⟩
  · unfold mxValue
    generalize narrowVal (cwSrc cw) ((u.sp n).el ws sw i) true = x
    cases x <;> rfl

end Sys2Proof.Machine
end

section
/-! What the rows of the Solver Engine do to the run that a terrace holds (R201, R205–R212, R218, Table 9.7). Each row is its kind's
runner at the row's OP, and the lemmas here are stated of the runner, for every OP. -/

namespace Sys2Proof.Machine

open Sys2Proof

/-! ## No run of the row's OP -/

section Idle

variable {s : State} {t op : Nat} (n retries : Nat) (fail : Bool) (ecc : EccFinds) (hidle : s.activeRun t op = none)
include hidle

theorem runKernel_idle : s.runKernel t op retries fail ecc = s := by rw [State.runKernel, hidle]

theorem runFact_idle : s.runFact t op retries fail ecc = s := by rw [State.runFact, hidle]

theorem runIter_idle : s.runIter t op n retries fail ecc = s := by rw [State.runIter, hidle]

end Idle

/-! ## Kernels -/

section Kernel

variable {s u : State} {t op retries st macs f : Nat} {fail : Bool} {ecc : EccFinds} {r : SolveRun} {c : SArith}
  {ws : List (Nat × Int)} (hrun : s.activeRun t op = some r) (hu : u = (s.eccAll ecc).svResidue t retries fail)
  (hkernel : u.kernel r = (st, c, ws, macs, f))
include hrun hu hkernel

/-- Poison or a structure that fails its check stops the kernel before it computes. -/
theorem runKernel_stops (hst : st = St.poisonConsumed ∨ st = St.badParam) :
    s.runKernel t op retries fail ecc = (u.svScramble t r).keepRun t { r with status := some st } := by
  subst hu
  simp only [State.runKernel, hrun, hkernel]
  exact if_pos (by simpa using hst)

/-- A recompute that fails again ends the run with its words written in part. -/
theorem runKernel_mismatches (hst : ¬(st = St.poisonConsumed ∨ st = St.badParam)) (hfail : fail = true) :
    s.runKernel t op retries fail ecc =
      (u.svPartial t ws).keepRun t { u.partRun r c 0 with status := some St.residueMismatch } := by
  subst hu
  simp only [State.runKernel, hrun, hkernel]
  exact (if_neg (by simpa using hst)).trans (if_pos hfail)

theorem runKernel_computes (hst : ¬(st = St.poisonConsumed ∨ st = St.badParam)) (hfail : ¬fail = true) :
    s.runKernel t op retries fail ecc =
      ((u.svWriteAt t ws).svMacs t macs).keepRun t { r with status := some st, range := c.range, failIndex := f } := by
  subst hu
  simp only [State.runKernel, hrun, hkernel]
  exact (if_neg (by simpa using hst)).trans (if_neg hfail)

end Kernel

/-- The dot product's word, when neither operand is poisoned. -/
theorem kernel_dot {s : State} {r : SolveRun} (hop : svOp r.desc = 1) (hB : s.poisoned (svB r.desc) (8 * svN r.desc) = false)
    (hA : s.poisoned (svA r.desc) (8 * svN r.desc) = false) {q : Int} {c : SArith}
    (hq : (SArith.mk r.exps none).rnd ((SArith.mk r.exps none).dot (s.readQ (svA r.desc) (svN r.desc)) Role.a
      (s.readQ (svB r.desc) (svN r.desc)) Role.b) Role.x 0 = (q, c)) :
    s.kernel r = (if c.range.isSome then St.rangeExceeded else St.ok, c, [(svX r.desc, q)], svN r.desc, 0) := by
  simp [State.kernel, hop, hB, hA, hq]

/-- The engine reads B before A, and stops at the first that is poisoned. -/
theorem kernel_poisoned {s : State} {r : SolveRun} (hop : svOp r.desc ≤ 2)
    (hpoison : s.poisoned (svB r.desc) (8 * svN r.desc) = true ∨ s.poisoned (svA r.desc) (8 * svN r.desc) = true) :
    (s.kernel r).1 = St.poisonConsumed := by
  have h3 : svOp r.desc ≠ 3 := by omega
  have h4 : svOp r.desc ≠ 4 := by omega
  by_cases hB : s.poisoned (svB r.desc) (8 * svN r.desc) = true
  · simp [State.kernel, h3, h4, hB]
  · have hA := hpoison.resolve_left hB
    simp [State.kernel, h3, h4, hB, hop, hA]

/-! ## Factorisations -/

section Factorisation

variable {s u : State} {t op retries st k : Nat} {fail : Bool} {ecc : EccFinds} {r r' : SolveRun} {f : FactSt} {c : SArith}
  (hrun : s.activeRun t op = some r) (hu : u = (s.eccAll ecc).svResidue t retries fail)
  (hr' : r' = { r with fp := u.fingerprint r }) (hfact : u.factorise r' = (st, f, c, k))
include hrun hu hr' hfact

theorem runFact_mismatches (hst : fail = true ∧ (st = 0 ∨ st = St.rangeExceeded)) : s.runFact t op retries fail ecc =
    (u.slotPart t r' st f).keepRun t { u.partRun r' c (k - 1) with status := some St.residueMismatch } := by
  subst hu hr'
  simp only [State.runFact, hrun, hfact]
  exact if_pos (by simpa using hst)

/-- A stop leaves the other slot in part, with the panels done and the column that failed. -/
theorem runFact_stops (hst : ¬(fail = true ∧ (st = 0 ∨ st = St.rangeExceeded))) (hne : st ≠ 0) : s.runFact t op retries fail ecc =
    (u.slotPart t r' st f).keepRun t { r' with
      status := some st, range := c.range, k := k, failIndex := f.fail.elim 0 Prod.fst } := by
  subst hu hr'
  simp only [State.runFact, hrun, hfact]
  rw [if_neg (by simpa using hst), if_pos (bne_iff_ne.2 hne)]
  rcases f with ⟨_, _, _ | ⟨i, failSt⟩⟩ <;> rfl

theorem runFact_factorises (hst : ¬(fail = true ∧ (st = 0 ∨ st = St.rangeExceeded))) (hok : ¬st ≠ 0) :
    s.runFact t op retries fail ecc =
      (((u.svWriteAt t (slotWords r' f)).svMacs t (factMacs op (svN r.desc) (svNc r.desc))).keepRun t { r' with
        status := some St.ok, range := c.range, k := k }).wr (F.SOLV_STATUS_PHASE t) 2 := by
  subst hu hr'
  simp only [State.runFact, hrun, hfact]
  exact (if_neg (by simpa using hst)).trans (if_neg (by simpa using hok))

end Factorisation

/-! ## Iterative solves -/

theorem runIter_iterates {s s1 s2 : State} {t op n retries : Nat} {fail failed : Bool} {ecc : EccFinds} {r r1 r2 : SolveRun}
    (hrun : s.activeRun t op = some r)
    (hstart : (if r.started then (s.eccAll ecc, r) else (s.eccAll ecc).iterStart t r) = (s1, r1))
    (hiter : iterRun t n s1 r1 = (s2, r2)) (hfailed : failed = (fail && r2.status.isNone)) :
    s.runIter t op n retries fail ecc =
      (s2.svResidue t retries failed).keepRun t (if failed then { r2 with status := some St.residueMismatch } else r2) := by
  subst hfailed
  simp only [State.runIter, hrun, hstart, hiter]

/-- Settles O39. A row of any OP is its runner's, which leaves the run as what it computes says, or the node as it was. -/
theorem solverRunsItsOperation : Obligations.SolverRunsItsOperation := by
  refine ⟨fun t retries fail ecc s u v r st c ws macs f hu hkernel hv => ?_,
    fun t retries fail ecc s u r r' st f c k v hu hr' hfact hv => ?_,
    fun t n retries fail failed ecc s s1 s2 v r r1 r2 hstart hiter hfailed hv => ?_,
    fun t n k fail ecc s => ?_,
    fun s r hop hB hA q c hq => kernel_dot hop hB hA hq,
    fun s r hop hpoison => kernel_poisoned hop hpoison⟩
  · have hkern (op : Nat) (hrun : s.activeRun t op = some r) : ok (s.runKernel t op retries fail ecc) = ok v := by
      rw [hv]
      split_ifs with hst hfail
      · rw [runKernel_stops hrun hu hkernel hst]
      · rw [runKernel_mismatches hrun hu hkernel hst hfail]
      · rw [runKernel_computes hrun hu hkernel hst hfail]
    exact ⟨hkern 1, hkern 2, hkern 3, hkern 4⟩
  · have hslot (op : Nat) (hrun : s.activeRun t op = some r) : ok (s.runFact t op retries fail ecc) = ok (v op) := by
      rw [hv]
      split_ifs with hst hne
      · rw [runFact_mismatches hrun hu hr' hfact hst]
      · rw [runFact_stops hrun hu hr' hfact hst hne]
        rcases f with ⟨_, _, _ | ⟨i, failSt⟩⟩ <;> rfl
      · rw [runFact_factorises hrun hu hr' hfact hst hne]
    exact ⟨hslot 5, hslot 6, hslot 7, hslot 8⟩
  · have hpass (op : Nat) (hrun : s.activeRun t op = some r) : ok (s.runIter t op n retries fail ecc) = ok v := by
      rw [hv, runIter_iterates hrun hstart hiter hfailed]
    exact ⟨hpass 9, hpass 10, hpass 11⟩
  · have hkern (op : Nat) (hidle : s.activeRun t op = none) : ok (s.runKernel t op k fail ecc) = ok s :=
      congrArg ok (runKernel_idle k fail ecc hidle)
    have hslot (op : Nat) (hidle : s.activeRun t op = none) : ok (s.runFact t op k fail ecc) = ok s :=
      congrArg ok (runFact_idle k fail ecc hidle)
    have hpass (op : Nat) (hidle : s.activeRun t op = none) : ok (s.runIter t op n k fail ecc) = ok s :=
      congrArg ok (runIter_idle n k fail ecc hidle)
    exact ⟨hkern 1, hkern 2, hkern 3, hkern 4, hslot 5, hslot 6, hslot 7, hslot 8, hpass 9, hpass 10, hpass 11⟩

end Sys2Proof.Machine
end

section
/-! SOLVE, SOLVE_COMPLETE and SOLVE_DEADLINE (R202, R203, R213, R217, R220): an equation for each way they end. -/

namespace Sys2Proof.Machine

open Sys2Proof

/-! ## SOLVE -/

/-- The descriptor of an accepted SOLVE is offered to the engines of its terraces in order; the statuses they answer are kept. -/
def State.offerSolve (w : State) (q : Sub) (h : Nat) (ts : List Nat) : State × List Nat :=
  ts.foldl (fun acc x =>
    let (s, st) := acc.1.solveStart x (q.p 8 8) (w.readBytes (q.p 8 8) 128) (w.poisoned (q.p 8 8) 128) none (some h) q.deadline
    (s, acc.2 ++ [st])) (forEach ts w (fun x y => y.setPower x 2), [])

/-- One engine refuses the descriptor: no engine keeps the command's run, and its terraces settle. -/
def State.withdrawSolve (v : State) (h : Nat) (ts : List Nat) : State :=
  forEach ts { v with solver := v.solver.filter (fun e => e.2.handle != some h) }
    (fun x y => (y.wr (F.SOLV_STATUS_STATE x) 0).settlePower x)

/-- Whether a terrace that SOLVE names has a job or a solve, or the profile switches. -/
def State.solveBusy (u : State) (t : Nat) : Prop :=
  (∃ x ∈ u.members t, bit u.jobMask x = true ∨ u.rd (F.SOLV_STATUS_STATE x) ≠ 0) ∨ u.flag F.NODE_PROFILE_SWITCHING = true

theorem State.solveBusy_iff (u : State) (t : Nat) :
    ((u.members t).any (fun x => bit u.jobMask x || u.rd (F.SOLV_STATUS_STATE x) != 0) || u.flag F.NODE_PROFILE_SWITCHING) = true ↔
      u.solveBusy t := by
  simp only [State.solveBusy, Bool.or_eq_true, List.any_eq_true, bne_iff_ne]

theorem State.not_solveBusy {u : State} {t : Nat}
    (hidle : ∀ x ∈ u.members t, bit u.jobMask x = false ∧ u.rd (F.SOLV_STATUS_STATE x) = 0)
    (hprofile : u.flag F.NODE_PROFILE_SWITCHING = false) : ¬u.solveBusy t := by
  rintro (⟨x, hx, hjob | hsolve⟩ | hswitch)
  · exact Bool.false_ne_true ((hidle x hx).1.symm.trans hjob)
  · exact hsolve (hidle x hx).2
  · exact Bool.false_ne_true (hprofile.symm.trans hswitch)

section Solve

variable {s u : State} {q : Sub} (hq : s.takes q Op.solve u)
include hq

/-- A terrace that does not exist, or that is not the lower one of a Sealed pair, is refused. -/
theorem exec_solve_noTerrace (hterrace : 15 < q.p 0 1 ∨ u.sealed = true ∧ 7 < q.p 0 1) :
    exec .solve s = ok (u.refuse q St.badParam) := by
  show execSolve s = _
  rw [execSolve, withSub_takes hq rfl, if_pos (by simpa using hterrace)]

variable (h15 : q.p 0 1 ≤ 15) (hpair : u.sealed = false ∨ q.p 0 1 ≤ 7)
include h15 hpair

omit hq in
theorem solve_terrace_exists : ¬((q.p 0 1 > 15 || (u.sealed && decide (q.p 0 1 > 7))) = true) := by
  rcases hpair with hsealed | h7
  · simp [h15, hsealed]
  · simp [h15, h7]

theorem exec_solve_busy (hbusy : u.solveBusy (q.p 0 1)) : exec .solve s = ok (u.refuse q St.busy) := by
  show execSolve s = _
  rw [execSolve, withSub_takes hq rfl, if_neg (solve_terrace_exists h15 hpair), if_pos ((u.solveBusy_iff _).2 hbusy)]

variable (hidle : ¬u.solveBusy (q.p 0 1)) {w : State} {h : Nat} (haccept : u.accept q = (w, h))
include hidle haccept

/-- An accepted SOLVE whose descriptor is not 128 bytes of this node's memory on a line ends at once. -/
theorem exec_solve_noDescriptor (hdesc : 2 ^ 48 ≤ q.p 8 8 ∨ q.p 8 8 % 64 ≠ 0 ∨ w.backed (q.p 8 8) 128 = false) :
    exec .solve s = ok (w.complete h St.badParam 0 []) := by
  show execSolve s = _
  rw [execSolve, withSub_takes hq rfl, if_neg (solve_terrace_exists h15 hpair), if_neg (mt (u.solveBusy_iff _).1 hidle)]
  simp only [haccept]
  rw [if_pos (by simpa [or_assoc] using hdesc)]

variable (h48 : q.p 8 8 < 2 ^ 48) (haligned : q.p 8 8 % 64 = 0) (hbacked : w.backed (q.p 8 8) 128 = true)
  {v : State} {sts : List Nat} (hoffer : w.offerSolve q h (u.members (q.p 0 1)) = (v, sts))
include h48 haligned hbacked hoffer

theorem exec_solve_offered : exec .solve s = ok (match sts.find? (· != 0) with
    | some st => (v.withdrawSolve h (u.members (q.p 0 1))).complete h st 0 []
    | none => v) := by
  show execSolve s = _
  rw [execSolve, withSub_takes hq rfl, if_neg (solve_terrace_exists h15 hpair), if_neg (mt (u.solveBusy_iff _).1 hidle)]
  rw [State.offerSolve] at hoffer
  simp only [haccept]
  rw [if_neg (by simpa [haligned, hbacked] using h48), hoffer]
  rfl

/-- The solve starts when every engine takes its descriptor, -/
theorem exec_solve_starts (htaken : ∀ st ∈ sts, st = 0) : exec .solve s = ok v := by
  have hnone : sts.find? (· != 0) = none := List.find?_eq_none.2 fun st hst => by simp [htaken st hst]
  rw [exec_solve_offered hq h15 hpair hidle haccept h48 haligned hbacked hoffer, hnone]

/-- and ends at once, everywhere, with the first status that refuses it. -/
theorem exec_solve_endsAtOnce {st : Nat} (hst : sts.find? (· != 0) = some st) :
    exec .solve s = ok ((v.withdrawSolve h (u.members (q.p 0 1))).complete h st 0 []) := by
  rw [exec_solve_offered hq h15 hpair hidle haccept h48 haligned hbacked hoffer, hst]

end Solve

/-! ## SOLVE_COMPLETE -/

section Complete

variable {t : Fin 16} {s : State} (cycles : Nat)

theorem exec_solveComplete_noRun (hnone : mfind s.solver t = none) : exec (.solveComplete t cycles) s = ok s := by
  show execSolveComplete t cycles s = _
  rw [execSolveComplete, hnone]

variable {r : SolveRun} (hrun : mfind s.solver t = some r)
include hrun

theorem exec_solveComplete_running (hstatus : r.status = none) : exec (.solveComplete t cycles) s = ok s := by
  show execSolveComplete t cycles s = _
  rw [execSolveComplete, hrun]
  simp only [hstatus]

variable {cycles} {st : Nat} {u : State} (hstatus : r.status = some st) (hu : u = s.incw (F.SOLV_BUSY_VALUE t) cycles)
include hstatus hu

/-- A kernel, and a solve that stopped, have their record written. -/
theorem exec_solveComplete_records (hst : st ≠ St.ok ∨ (svIter r.desc = false ∧ svFact r.desc = false)) :
    exec (.solveComplete t cycles) s = ok ((u.recordRun t r st).endRun t r st) := by
  subst hu
  show execSolveComplete t cycles s = _
  rw [execSolveComplete, hrun]
  simp only [hstatus]
  have hcases : (st == St.ok && svIter r.desc) = false ∧ (st == St.ok && svFact r.desc) = false := by
    rcases hst with hne | ⟨hiter, hfact⟩
    · simp [hne]
    · simp [hiter, hfact]
  obtain ⟨hiter, hfact⟩ := hcases
  rw [hiter, hfact]
  rfl

/-- A factorisation commits its header first, -/
theorem exec_solveComplete_commits (hok : st = St.ok) (hiter : svIter r.desc = false) (hfact : svFact r.desc = true) {v : State}
    (hv : v = u.svBytes t (svX r.desc) (u.fsHeader r)) :
    exec (.solveComplete t cycles) s = ok ((v.recordRun t r St.ok).endRun t r St.ok) := by
  subst hv hu hok
  show execSolveComplete t cycles s = _
  rw [execSolveComplete, hrun]
  simp only [hstatus, hiter, hfact]
  rfl

/-- and an iterative solve puts its last iterate at X and writes the warm block. -/
theorem exec_solveComplete_converged (hok : st = St.ok) (hiter : svIter r.desc = true) {v w x : State} {r' : SolveRun} {st' : Nat}
    (hr' : r' = { r with lastBuf := 0 }) (hv : v = if r.lastBuf = 1 then u.svWrite t (svX r.desc) r.x else u)
    (hw : w = (v.svBytes t (svWarmAddr r.desc + 2) [0]).svWrite t (svWarmAddr r.desc + 64) r.x)
    (hx : x = if svWarm r.desc then (w.svBytes t (svWarmAddr r.desc) (w.warmHeader r')).wrReg (R.SOLV_WARM_FP t) r.fp else v)
    (hst' : st' = if r.warmRej then St.warmRejected else St.ok) :
    exec (.solveComplete t cycles) s = ok ((x.recordRun t r' st').endRun t r' st') := by
  subst hst' hx hw hv hr' hu hok
  show execSolveComplete t cycles s = _
  rw [execSolveComplete, hrun]
  simp only [hstatus, hiter]
  rfl

end Complete

/-! ## SOLVE_DEADLINE -/

section Deadline

variable {t : Fin 16} {s : State} (warm : Bool) (cycles : Nat)

theorem exec_solveDeadline_noRun (hnone : mfind s.solver t = none) : exec (.solveDeadline t warm cycles) s = ok s := by
  show execSolveDeadline t warm cycles s = _
  rw [execSolveDeadline, hnone]

variable {r : SolveRun} (hrun : mfind s.solver t = some r)
include hrun

theorem exec_solveDeadline_notReached (h : r.deadline = 0 ∨ s.reach r.deadline = none) :
    exec (.solveDeadline t warm cycles) s = ok s := by
  show execSolveDeadline t warm cycles s = _
  rw [execSolveDeadline, hrun]
  by_cases hzero : r.deadline = 0
  · exact if_pos hzero
  · simp only [if_neg hzero, h.resolve_left hzero]

variable {warm cycles} {u : State} (hset : r.deadline ≠ 0) (hreach : s.reach r.deadline = some u)
include hset hreach

/-- A solve that has stopped already is left to its completion, -/
theorem exec_solveDeadline_stopped (hrest : u.deadlineRun t r warm = none) : exec (.solveDeadline t warm cycles) s = ok u := by
  show execSolveDeadline t warm cycles s = _
  rw [execSolveDeadline, hrun]
  simp only [if_neg hset, hreach, hrest]

/-- and any other ends with its record. -/
theorem exec_solveDeadline_ends {v : State} {r' : SolveRun} {st : Nat} (hend : u.deadlineRun t r warm = some (v, r', st)) :
    exec (.solveDeadline t warm cycles) s =
      ok ((((v.keepRun t r').incw (F.SOLV_BUSY_VALUE t) cycles).recordRun t r' st).endRun t r' st) := by
  show execSolveDeadline t warm cycles s = _
  rw [execSolveDeadline, hrun]
  simp only [if_neg hset, hreach, hend]

end Deadline

/-- Settles O40. SOLVE, SOLVE_COMPLETE and SOLVE_DEADLINE, each by the ways it can end. -/
theorem solvesAcceptAndComplete : Obligations.SolvesAcceptAndComplete := by
  refine ⟨fun s u q hq => ⟨exec_solve_noTerrace hq, fun h15 hpair => ⟨exec_solve_busy hq h15 hpair,
      fun hidle hprofile w h haccept => ?_⟩⟩,
    fun t cycles st s u r hrun hstatus hu => ⟨exec_solveComplete_records hrun hstatus hu,
      fun hok hiter hfact v hv => exec_solveComplete_commits hrun hstatus hu hok hiter hfact hv,
      fun hok hiter v w x r' st' hr' hv hw hx hst' => exec_solveComplete_converged hrun hstatus hu hok hiter hr' hv hw hx hst'⟩,
    fun t cycles warm s hnone => ⟨exec_solveComplete_noRun cycles hnone, exec_solveDeadline_noRun warm cycles hnone⟩,
    fun t cycles s r hrun hstatus => exec_solveComplete_running cycles hrun hstatus,
    fun t warm cycles s r hrun => ⟨exec_solveDeadline_notReached warm cycles hrun,
      fun u hset hreach => ⟨exec_solveDeadline_stopped hrun hset hreach,
        fun v r' st hend => exec_solveDeadline_ends hrun hset hreach hend⟩⟩⟩
  have hfree := State.not_solveBusy hidle hprofile
  exact ⟨exec_solve_noDescriptor hq h15 hpair hfree haccept, fun h48 haligned hbacked v sts hoffer =>
    ⟨exec_solve_starts hq h15 hpair hfree haccept h48 haligned hbacked hoffer,
      fun st hst => exec_solve_endsAtOnce hq h15 hpair hfree haccept h48 haligned hbacked hoffer hst⟩⟩

end Sys2Proof.Machine
end

