-- ==== Sys2Proof/Proofs/MemoryOperations.lean ====
section
/-! Memory-side operations at their home (R235–R241, R422): an equation for each way they end. -/

namespace Sys2Proof.Machine

open Sys2Proof

/-! ## Elements and extents -/

theorem mopBytes_pos (m : Nat) : 0 < mopBytes m := by unfold mopBytes; split <;> decide

theorem mopBytes_div_self (m : Nat) : mopBytes m / mopBytes m = 1 := Nat.div_self (mopBytes_pos m)

/-- The bytes an operation spans: those of its element, or of a line. -/
def mopSpan (m : Nat) : Nat := if mopLine m then 64 else mopBytes m

/-- The bytes of its operand; a CAS brings the value to compare and the value to write. -/
def mopOperand (m : Nat) : Nat := if mopOp m = 7 then 2 * mopSpan m else mopSpan m

theorem mopSpan_element {m : Nat} (hline : mopLine m = false) : mopSpan m = mopBytes m := by simp [mopSpan, hline]

/-- An integer ADD adds modulo the element's width. -/
theorem mopElem_add {m : Nat} (x y : Nat) (hop : mopOp m = 0) (hint : mopFloat m = false) :
    mopElem m x y % 2 ^ (8 * mopBytes m) = (x + y) % 2 ^ (8 * mopBytes m) := by
  simp [mopElem, hop, hint]

/-- The poison of an extent as a fetch answers it, by 8-byte word. -/
def State.fetchPoison (s : State) (a n : Nat) : Nat :=
  maskOf ((List.range ((n + 7) / 8)).filter (fun i => s.poisonAt (a + 8 * i)))

/-! ## Whether the home takes the operation -/

section Home

variable {s : State} {a m : Nat} {v : Bytes} (retries : Nat) (bad : List Nat)

theorem mopAt_resetting (v : Bytes) (h : s.homeStatus a (mopSpan m) true = St.nodeResetting) :
    s.mopAt a m v retries bad = (s, ⟨St.nodeResetting, [], 0⟩) := by
  rw [mopSpan] at h
  simp only [State.mopAt, h, beq_self_eq_true, if_true]

variable (hserved : s.homeStatus a (mopSpan m) true ≠ St.nodeResetting)
include hserved

theorem mopAt_notAllowed (h : mopAligned a m = false ∨ v.length ≠ mopOperand m) : s.mopAt a m v retries bad =
    ((s.ev F.MEM_EVENTS_MOP_REFUSED).inc F.MEM_MOP_COUNTS_REFUSED, ⟨St.addressRefused, [], 0⟩) :=
  (if_neg (by simpa [mopSpan] using hserved)).trans (if_pos (by simpa [mopOperand, mopSpan] using h))

theorem mopAt_notServed (hallowed : ¬(mopAligned a m = false ∨ v.length ≠ mopOperand m))
    (h : s.homeStatus a (mopSpan m) true ≠ St.ok) :
    s.mopAt a m v retries bad = (s.noteCtx a (mopSpan m), ⟨s.homeStatus a (mopSpan m) true, [], 0⟩) :=
  (if_neg (by simpa [mopSpan] using hserved)).trans ((if_neg (by simpa [mopOperand, mopSpan] using hallowed)).trans
    (if_pos (by simpa [mopSpan] using h)))

end Home

/-- An operation that answers OK is one that R236 allows, at a home that serves it. -/
theorem allowed_of_mopAt_ok {s : State} {a m : Nat} {v : Bytes} (h : (s.mopAt a m v).2.status = St.ok) :
    mopAligned a m = true ∧ v.length = mopOperand m ∧ s.homeStatus a (mopSpan m) true = St.ok := by
  have hserved : s.homeStatus a (mopSpan m) true ≠ St.nodeResetting := fun hreset => by
    rw [mopAt_resetting 0 [] v hreset] at h
    cases h
  have hallowed : ¬(mopAligned a m = false ∨ v.length ≠ mopOperand m) := fun hrefused => by
    rw [mopAt_notAllowed 0 [] hserved hrefused] at h
    cases h
  have hhome : s.homeStatus a (mopSpan m) true = St.ok := by_contra fun hnot => hnot (by
    rwa [mopAt_notServed 0 [] hserved hallowed hnot] at h)
  simpa [and_assoc] using And.intro hallowed hhome

/-! ## The residues of the adder (R422) -/

section Residue

variable (s : State) (a m : Nat) (r : MopResult)

theorem mopResidue_none : s.mopResidue a m 0 [] r = (s, r) := by
  simp [State.mopResidue, State.residue]

variable {m} (hadder : mopAdder m = true) (hline : mopLine m = false)
include hadder hline

/-- A recompute that matches is counted. -/
theorem mopResidue_matches : s.mopResidue a m 1 [] r = (s.residue F.NODE_CHECK_EVENTS_MOP_RESIDUE 1 0, r) := by
  simp [State.mopResidue, hadder, hline, mopBytes_div_self]

/-- An element whose recompute mismatches again is poisoned, in memory and in what a fetch answers. -/
theorem mopResidue_fails : s.mopResidue a m 0 [0] r =
    ((s.residue F.NODE_CHECK_EVENTS_MOP_RESIDUE 0 1).setPoison (wordsOf a (mopBytes m)), { r with
      status := St.residueMismatch
      poison := if mopFetch m then r.poison ||| maskOf ((List.range ((mopBytes m + 7) / 8)).filter
        (fun j => (wordsOf a (mopBytes m)).contains (a / 8 + j))) else 0 }) := by
  simp [State.mopResidue, hadder, hline, mopBytes_div_self, sinsert]

end Residue

/-- The first word of an element is one of its words, so what a fetch of a poisoned element answers is not 0. -/
theorem maskOf_element_ne (a m : Nat) : maskOf ((List.range ((mopBytes m + 7) / 8)).filter
    (fun j => (wordsOf a (mopBytes m)).contains (a / 8 + j))) ≠ 0 := by
  have hpos := mopBytes_pos m
  have hfirst : (wordsOf a (mopBytes m)).contains (a / 8 + 0) = true := by simp [wordsOf, hpos.ne']
  obtain ⟨k, hk⟩ : ∃ k, (mopBytes m + 7) / 8 = k + 1 := Nat.exists_eq_add_one.2 (by omega)
  rw [hk, List.range_succ_eq_map, List.filter_cons, if_pos hfirst]
  simp [maskOf]

/-! ## An operation on one element (R236, R237, R241) -/

section Apply

variable {u : State} {a m : Nat} (v : Bytes)

theorem mopApply_poisoned (hop : mopOp m ≠ 6) (hpoison : u.poisoned a (mopBytes m) = true) :
    u.mopApply a m v 0 = u.ev F.MEM_EVENTS_MOP_POISON := by
  simp [State.mopApply, hpoison, hop]

variable (hclean : u.poisoned a (mopBytes m) = false)
include hclean

theorem mopApply_writes (hop : mopOp m ≠ 7) : u.mopApply a m v 0 =
    u.rawWrite a (natLE (mopBytes m) (mopElem m (u.readNat a (mopBytes m)) (fld v 0 (mopBytes m)))) := by
  simp [State.mopApply, hclean, hop]

theorem mopApply_casDiffers (hop : mopOp m = 7)
    (hdiffers : u.readNat a (mopBytes m) ≠ fld v 0 (2 * mopBytes m) % 2 ^ (8 * mopBytes m)) : u.mopApply a m v 0 = u := by
  simp [State.mopApply, hclean, hop, hdiffers]

end Apply

section Element

variable {s : State} {a m : Nat} {v : Bytes} (halign : mopAligned a m = true) (hline : mopLine m = false)
  (hlength : v.length = if mopOp m = 7 then 2 * mopBytes m else mopBytes m) (hhome : s.homeStatus a (mopBytes m) true = St.ok)
include halign hline hlength hhome

/-- An operation that its home takes is applied to its element and counted; the residues come after. -/
theorem mopAt_element (retries : Nat) (bad : List Nat) : s.mopAt a m v retries bad =
    (((s.touch a (mopBytes m)).mopApply a m v 0).incw F.MEM_MOP_COUNTS_OPS).mopResidue a m retries bad
      ⟨St.ok, if mopFetch m then s.readBytes a (mopBytes m) else [],
        if mopFetch m then s.fetchPoison a (mopBytes m) else 0⟩ := by
  have hserved : (St.ok == St.nodeResetting) = false := by decide
  simp [State.mopAt, hline, hhome, halign, hlength, hserved, mopBytes_div_self, forEach, State.fetchPoison]

theorem mopAt_element_noResidue : s.mopAt a m v =
    (((s.touch a (mopBytes m)).mopApply a m v 0).incw F.MEM_MOP_COUNTS_OPS,
      ⟨St.ok, if mopFetch m then s.readBytes a (mopBytes m) else [],
        if mopFetch m then s.fetchPoison a (mopBytes m) else 0⟩) := by
  rw [mopAt_element halign hline hlength hhome, mopResidue_none]

end Element

/-- What the adder's residues find comes after the operation as it completes without them. -/
theorem mopAt_residues {a m : Nat} {v : Bytes} {s : State} (hline : mopLine m = false) (hok : (s.mopAt a m v).2.status = St.ok)
    (retries : Nat) (bad : List Nat) :
    s.mopAt a m v retries bad = (s.mopAt a m v).1.mopResidue a m retries bad (s.mopAt a m v).2 := by
  obtain ⟨halign, hlength, hhome⟩ := allowed_of_mopAt_ok hok
  rw [mopOperand, mopSpan_element hline] at hlength
  rw [mopSpan_element hline] at hhome
  rw [mopAt_element_noResidue halign hline hlength hhome, mopAt_element halign hline hlength hhome]

/-- An engine of this node receives the result as a reply. -/
theorem mopLocal_of_mopAt {x u : State} {a m : Nat} {v : Bytes} {retries : Nat} {bad : List Nat} {r : MopResult}
    (h : x.mopAt a m v retries bad = (u, r)) (e : Nat) : x.mopLocal e a m v retries bad =
      u.send .fabricReply u.nodeId [r.status, u.nodeId * 32 + e, 0, 0, r.poison] r.old := by
  rw [State.mopLocal, h]

end Sys2Proof.Machine
end

