-- ==== Sys2Proof/Proofs/PinsAndScrub.lean ====
section
/-! Pinned sets (R231–R233), and what the scrub and an access find (R116, R240–R243). -/

namespace Sys2Proof.Machine

open Sys2Proof

/-! ## Pinned sets -/

theorem pinError_of_ne (s : State) {code : Nat} (h : code ≠ 0) :
    s.pinError code = (s.wr F.CIST_PIN_CTRL_ERROR code).ev F.CIST_EVENTS_PIN_ERROR := by
  simp [State.pinError, h]

theorem pinError_zero (s : State) : s.pinError 0 = s.wr F.CIST_PIN_CTRL_ERROR 0 := rfl

theorem flag_armed_wr_count (s : State) (n : Nat) :
    (s.wr F.CIST_PIN_CTRL_COUNT n).flag F.CIST_STATUS_ARMED = s.flag F.CIST_STATUS_ARMED := by
  rw [State.flag, State.rd_wr_apart _ _ (by decide) (by decide), State.flag]

theorem exec_cistPinArm_armed (n : Nat) {s : State} (harmed : s.rd F.CIST_STATUS_ARMED = 1) : exec (.cistPinArm n) s =
    ok (((s.wr F.CIST_PIN_CTRL_COUNT n).wr F.CIST_PIN_CTRL_ERROR 6).ev F.CIST_EVENTS_PIN_ERROR) := by
  have hflag := (flag_armed_wr_count s n).trans (State.flag_eq_true harmed)
  show ok (s.pinArm n) = _
  rw [← pinError_of_ne _ (by decide)]
  exact congrArg ok (if_pos hflag)

theorem admitted_wr (s : State) (f : Field) (v : Nat) : (s.wr f v).admitted = s.admitted := rfl

/-- A set waits for the first step boundary in time. -/
def State.armPins (s : State) (set : List (Nat × Nat)) : State :=
  let v : State := { s with pinned := { s.pinned with armed := some set } }
  (v.wr F.CIST_STATUS_ARMED 1).wr F.CIST_PIN_ARM_STEP_STEP v.boundStep

section Arm

variable {n : Nat} {s u : State} (hdisarmed : s.rd F.CIST_STATUS_ARMED = 0) (hu : u = s.wr F.CIST_PIN_CTRL_COUNT n)
  {base code : Nat} (hbase : base = u.rd F.CIST_PIN_LIST_BASE * 16) (hcode : code = u.pinCheck (u.rd F.CIST_PIN_CTRL_COUNT) base)
include hdisarmed hu hbase hcode

theorem exec_cistPinArm_fails (hfails : code ≠ 0) :
    exec (.cistPinArm n) s = ok ((u.wr F.CIST_PIN_CTRL_ERROR code).ev F.CIST_EVENTS_PIN_ERROR) := by
  have hflag := (flag_armed_wr_count s n).trans (State.flag_eq_false hdisarmed)
  subst hu hbase
  show ok (s.pinArm n) = _
  rw [State.pinArm, if_neg (by simp [hflag])]
  simp only [← hcode]
  rw [if_pos (by simpa using hfails), pinError_of_ne _ hfails]

variable (hpasses : code = 0) {set : List (Nat × Nat)} (hset : set = (List.range (u.rd F.CIST_PIN_CTRL_COUNT)).map
  (fun i => (u.readNat (base + 16 * i) 8, u.readNat (base + 16 * i + 8) 4)))
include hpasses hset

/-- A list that passes is taken: live at once without a job, armed for the first boundary in time with one. -/
theorem pinArm_passes : s.pinArm n = if (!(u.wr F.CIST_PIN_CTRL_ERROR 0).admitted) = true then
      (u.wr F.CIST_PIN_CTRL_ERROR 0).pinLive set
    else (u.wr F.CIST_PIN_CTRL_ERROR 0).armPins set := by
  have hflag := (flag_armed_wr_count s n).trans (State.flag_eq_false hdisarmed)
  subst hu hbase hset hpasses
  exact (if_neg (by simp [hflag])).trans (if_neg (by simp [← hcode]))

theorem exec_cistPinArm_live (hjob : s.admitted = false) :
    exec (.cistPinArm n) s = ok ((u.wr F.CIST_PIN_CTRL_ERROR 0).pinLive set) := by
  have hpins := pinArm_passes hdisarmed hu hbase hcode hpasses hset
  subst hu
  show ok (s.pinArm n) = _
  rw [hpins, if_pos (by simp [admitted_wr, hjob])]

theorem exec_cistPinArm_waits (hjob : s.admitted = true) {v : State}
    (hv : v = { u.wr F.CIST_PIN_CTRL_ERROR 0 with pinned := { s.pinned with armed := some set } }) :
    exec (.cistPinArm n) s = ok ((v.wr F.CIST_STATUS_ARMED 1).wr F.CIST_PIN_ARM_STEP_STEP v.boundStep) := by
  have hpins := pinArm_passes hdisarmed hu hbase hcode hpasses hset
  subst hv hu
  show ok (s.pinArm n) = _
  rw [hpins, if_neg (by simp [admitted_wr, hjob])]
  rfl

end Arm

section Disarm

variable {s : State}

theorem exec_cistPinDisarm_none (hdisarmed : s.rd F.CIST_STATUS_ARMED = 0) :
    exec .cistPinDisarm s = ok (s.wr F.CIST_PIN_CTRL_ERROR 0) := by
  show ok s.pinDisarm = _
  rw [State.pinDisarm, if_pos (by simp [State.flag_eq_false hdisarmed]), pinError_zero]

variable (harmed : s.rd F.CIST_STATUS_ARMED = 1)
include harmed

theorem exec_cistPinDisarm_tooLate (hlate : s.tooLate (s.rd F.CIST_PIN_ARM_STEP_STEP) = true) :
    exec .cistPinDisarm s = ok ((s.wr F.CIST_PIN_CTRL_ERROR 6).ev F.CIST_EVENTS_PIN_ERROR) := by
  show ok s.pinDisarm = _
  rw [State.pinDisarm, if_neg (by simp [State.flag_eq_true harmed]), if_pos hlate, pinError_of_ne _ (by decide)]

theorem exec_cistPinDisarm_drops (htime : s.tooLate (s.rd F.CIST_PIN_ARM_STEP_STEP) = false) {u : State}
    (hu : u = { s with pinned := { s.pinned with armed := none } }) :
    exec .cistPinDisarm s = ok ((u.wr F.CIST_STATUS_ARMED 0).wr F.CIST_PIN_CTRL_ERROR 0) := by
  subst hu
  show ok s.pinDisarm = _
  rw [State.pinDisarm, if_neg (by simp [State.flag_eq_true harmed]), if_neg (by simp [htime]), pinError_zero]

end Disarm

section Fill

variable {s : State} (ordinary : List Nat)

theorem exec_pinnedFillComplete_notFilling (hfilling : s.rd F.CIST_STATUS_FILLING = 0) :
    exec (.pinnedFillComplete ordinary) s = ok s := by
  show execPinnedFillComplete ordinary s = _
  rw [execPinnedFillComplete, if_pos (by simp [State.flag_eq_false hfilling])]

/-- Lines beyond the ways of their sets are held as ordinary ones, with the event. -/
theorem exec_pinnedFillComplete_filled (hfilling : s.rd F.CIST_STATUS_FILLING = 1) {u : State}
    (hu : u = { s with pinned := { s.pinned with ordinary := ordinary } }) : exec (.pinnedFillComplete ordinary) s =
      ok (if ordinary.isEmpty then u.wr F.CIST_STATUS_FILLING 0
        else (u.wr F.CIST_STATUS_FILLING 0).ev F.CIST_EVENTS_PIN_OVERFLOW) := by
  subst hu
  show execPinnedFillComplete ordinary s = _
  rw [execPinnedFillComplete, if_neg (by simp [State.flag_eq_true hfilling])]

end Fill

/-! ## The scrub (R242) -/

/-- What the scrub leaves of the line it reads. -/
def State.scrubbed (s : State) (line : Nat) : ScrubFind → State
  | .clean => s
  | .corrected die =>
    (((s.inc F.MEM_ECC_COUNTS_CORRECTED).ev F.MEM_EVENTS_CORRECTED).memError line die false).eccNote line false
  | .uncorrected die =>
    (((((s.inc F.MEM_ECC_COUNTS_POISONED_LINES).ev F.MEM_EVENTS_POISONED).ev F.MEM_EVENTS_SCRUB_POISON).memError line die
      true).setPoison (wordsOf line 64)).eccNote line true

section Scrub

variable {line : Nat} {s : State} (last : Bool)

theorem exec_scrubAccess_off (find : ScrubFind)
    (hoff : s.rd F.MEM_SCRUB_ENABLE = 0 ∨ line % 64 ≠ 0 ∨ inTiers line 64 = false) :
    exec (.scrubAccess line find last) s = ok s := by
  show execScrubAccess line find last s = _
  unfold execScrubAccess
  rw [if_pos (by simpa [State.flag, or_assoc] using hoff)]

theorem exec_scrubAccess_on (find : ScrubFind) (hon : s.rd F.MEM_SCRUB_ENABLE = 1) (haligned : line % 64 = 0)
    (htier : inTiers line 64 = true) : exec (.scrubAccess line find last) s =
      ok (if last then (s.scrubbed line find).scrubPass else s.scrubbed line find) := by
  show execScrubAccess line find last s = _
  unfold execScrubAccess
  rw [if_neg (by simp [State.flag_eq_true hon, haligned, htier])]
  cases find <;> rfl

end Scrub

/-! ## What an access meets (R116, R240, R241) -/

/-- A slice's or the Dome's SRAM: counted with its event, and its place recorded, whose device bits are free. -/
def State.sramNoted (s : State) (w : Nat) (bad dome : Bool) : State :=
  ((s.eccCount bad).wrReg R.MEM_ECC_LAST_ADDR (w / 64 * 64)).wrReg R.MEM_ECC_LAST_INFO
    (b2n bad + 2 * (if dome then 3 else 2) + 2 ^ 8 * s.free 1 256)

section Ecc

variable {a n : Nat} (last : Bool) (s : State)

theorem eccFound_tier (die : Fin 16) (bad : Bool) (htier : isScratch a = false) {line : Nat}
    (hline : line = (if last then a + n - 1 else a) / 64 * 64) : s.eccFound a n (.tier bad last die) =
      if bad then (((s.eccCount bad).memError line die bad).eccNote line bad).setPoison (wordsOf line 64)
      else ((s.eccCount bad).memError line die bad).eccNote line bad := by
  subst hline
  simp only [State.eccFound, htier, Bool.false_eq_true, if_false]

variable (dome bad : Bool) {w : Nat} (hw : w = (if last then a + n - 1 else a) / 8 * 8)
include hw

theorem eccFound_scratch (hscratch : isScratch a = true) : s.eccFound a n (.sram bad last dome) = s.scratchError w bad := by
  subst hw
  simp only [State.eccFound, hscratch, if_true]

theorem eccFound_sram (htier : isScratch a = false) : s.eccFound a n (.sram bad last dome) =
    if bad then (s.sramNoted w bad dome).setPoison [w / 8] else s.sramNoted w bad dome := by
  subst hw
  simp only [State.eccFound, htier, Bool.false_eq_true, if_false]
  rfl

omit hw

theorem rd_sramNoted {f : Field} (haddr : f.addr = R.MEM_EVENTS) : (s.sramNoted w bad dome).rd f = (s.eccCount bad).rd f := by
  rw [State.sramNoted, State.rd_wrReg_ne _ _ (by rw [haddr]; decide), State.rd_wrReg_ne _ _ (by rw [haddr]; decide)]

theorem rd_sramNoted_poisoned : (s.sramNoted w true dome).rd F.MEM_EVENTS_POISONED = 1 := by
  rw [rd_sramNoted _ _ _ rfl, State.eccCount, if_pos rfl, State.ev, State.rd_wr_same _ _ _ (by decide)]
  rfl

theorem rd_sramNoted_corrected : (s.sramNoted w false dome).rd F.MEM_EVENTS_CORRECTED = 1 := by
  rw [rd_sramNoted _ _ _ rfl, State.eccCount, if_neg Bool.false_ne_true, State.ev, State.rd_wr_same _ _ _ (by decide)]
  rfl

theorem keepsMem_sramNoted : s.keepsMem (s.sramNoted w bad dome) := by
  cases bad <;> simp [State.keepsMem, State.sramNoted, State.eccCount]

theorem rd_setPoison (ws : List Nat) (f : Field) : (s.setPoison ws).rd f = s.rd f := rfl

theorem poisonAt_setPoison (k : Nat) : (s.setPoison [k / 8]).poisonAt k = true :=
  List.contains_iff_mem.2 (mem_sinsert.2 (Or.inl rfl))

end Ecc

/-- Settles O41. Memory-side operations by the ways they end, pinned sets, the scrub, and the errors that an access meets. -/
theorem memoryOperationsPinningAndScrub : Obligations.MemoryOperationsPinningAndScrub := by
  refine ⟨⟨?rows, ?writes, ?casDiffers, ?poisoned, ?notAllowed, ?resetting, ?residue, fun m x y => mopElem_add x y⟩,
    ?arm, fun n s => exec_cistPinArm_armed n, ?disarm, ?fill, ?scrub, fun line f last s => exec_scrubAccess_off last f,
    ?tier, ?scratch, ?sram⟩
  case rows =>
    rintro e a ty fetch line mx k v retries bad ecc s _ u r rfl _ rfl
    refine ⟨?_, ?_, ?_, ?_, ?_, ?_⟩ <;> exact fun h => congrArg ok (mopLocal_of_mopAt h e)
  case writes =>
    rintro a m v s _ halign hline hop hlength hhome rfl hclean
    rw [mopAt_element_noResidue halign hline (by rwa [if_neg hop]) hhome, mopApply_writes v hclean hop]
    exact ⟨rfl, rfl, rfl⟩
  case casDiffers =>
    rintro a m v s _ halign hline hop hlength hhome rfl hclean hdiffers
    rw [mopAt_element_noResidue halign hline (by rwa [if_pos hop]) hhome, mopApply_casDiffers v hclean hop hdiffers]
    exact ⟨rfl, rfl⟩
  case poisoned =>
    rintro a m v s _ halign hline hop hlength hhome rfl hpoison
    rw [mopAt_element_noResidue halign hline hlength hhome, mopApply_poisoned v hop hpoison]
    exact ⟨rfl, rfl⟩
  case notAllowed => exact fun a m v s halign hserved => mopAt_notAllowed 0 [] hserved (Or.inl halign)
  case resetting => exact fun a m v s hreset => mopAt_resetting 0 [] v hreset
  case residue =>
    intro a m v s hadder hline hok
    rw [mopAt_residues hline hok 0 [0], mopAt_residues hline hok 1 [], mopResidue_fails _ _ _ hadder hline,
      mopResidue_matches _ _ _ hadder hline]
    refine ⟨rfl, rfl, rfl, fun hfetch => ?_, rfl⟩
    simp only [hfetch, if_true]
    exact fun hzero => maskOf_element_ne a m (Nat.or_eq_zero_iff.1 hzero).2
  case arm =>
    intro n s u hdisarmed hu base code hbase hcode set hset
    exact ⟨exec_cistPinArm_fails hdisarmed hu hbase hcode,
      fun hpasses => exec_cistPinArm_live hdisarmed hu hbase hcode hpasses hset,
      fun hpasses hjob v => exec_cistPinArm_waits hdisarmed hu hbase hcode hpasses hset hjob⟩
  case disarm =>
    exact fun s u hu => ⟨fun harmed htime => exec_cistPinDisarm_drops harmed htime hu, exec_cistPinDisarm_tooLate,
      exec_cistPinDisarm_none⟩
  case fill =>
    refine fun ordinary s u hu => ⟨fun hfilling hnone => ?_, fun hfilling hsome => ?_,
      exec_pinnedFillComplete_notFilling ordinary⟩
    · rw [exec_pinnedFillComplete_filled ordinary hfilling hu, if_pos (by simp [hnone])]
    · rw [exec_pinnedFillComplete_filled ordinary hfilling hu, if_neg (by simp [hsome])]
  case scrub =>
    intro line die last s give hon haligned htier hgive
    simp only [hgive, exec_scrubAccess_on last _ hon haligned htier]
    exact ⟨rfl, rfl, rfl⟩
  case tier =>
    exact fun a n line die last s htier hline =>
      ⟨eccFound_tier last s die false htier hline, eccFound_tier last s die true htier hline⟩
  case scratch =>
    rintro a n w _ last dome s hscratch hw rfl
    rw [eccFound_scratch last s dome false hw hscratch, eccFound_scratch last s dome true hw hscratch]
    exact ⟨rfl, rfl⟩
  case sram =>
    intro a n w last dome s htier hw
    rw [eccFound_sram last s dome true hw htier, eccFound_sram last s dome false hw htier, if_pos rfl, if_neg Bool.false_ne_true]
    exact ⟨poisonAt_setPoison _ w, (rd_setPoison _ _ _).trans (rd_sramNoted_poisoned s dome), rd_sramNoted_corrected s dome,
      keepsMem_sramNoted s dome false⟩

end Sys2Proof.Machine
end

section
/-! Requests at their home (R248–R250, R255, R257, R258, R263): an equation for each way that a home answers them. -/

namespace Sys2Proof.Machine

open Sys2Proof

/-! ## Reads (R250) -/

/-- The poison marks of the 8-byte words that n bytes at an address touch. -/
def State.readMarks (s : State) (a n : Nat) : Nat :=
  maskOf ((List.range ((a % 8 + n + 7) / 8)).filter (fun i => s.poisonAt (a / 8 * 8 + 8 * i)))

section Read

variable {p : Bytes} {n a : Nat} {s : State} (ha : a = fld p 8 6)
include ha

theorem homeRead_refused (h : s.homeStatus a n false ≠ St.ok) :
    s.homeRead p n = (s.noteRefl a n).replyReq p (s.homeStatus a n false) 0 [] 0 := by
  subst ha
  exact if_pos (by simpa using h)

variable (hok : s.homeStatus a n false = St.ok)
include hok

theorem homeRead_served (hhint : bits (fld p 1 1) 0 2 ≠ 2) :
    s.homeRead p n = s.replyReq p St.ok 0 (s.readBytes a n) (s.readMarks a n) := by
  subst ha
  exact (if_neg (by simp [hok])).trans (if_neg (by simpa using hhint))

/-- LAST_USE discards what was read, after the reply has left (R229). -/
theorem homeRead_lastUse (hhint : bits (fld p 1 1) 0 2 = 2) :
    s.homeRead p n = (s.replyReq p St.ok 0 (s.readBytes a n) (s.readMarks a n)).discard a n := by
  subst ha
  exact (if_neg (by simp [hok])).trans (if_pos (by simp [hhint]))

end Read

/-! ## Packets that pass their checks, and packets that do not (R249, Table 11.2) -/

section Packets

variable {p : Bytes} (at10 : Nat) (ecc : EccFinds) (s : State)

theorem exec_fabricRead_taken (h : reqOk p Kind.read = true) (hsize : fld p 5 1 ≤ 3 ∨ fld p 5 1 = 6) :
    exec (.fabricRead p at10 ecc) s = ok (((s.homeSeen p at10).eccAll ecc).homeRead p (2 ^ fld p 5 1)) := by
  show execFabricRead p at10 ecc s = _
  exact if_pos (by simpa [h] using hsize)

theorem exec_fabricRead_dropped (h : reqOk p Kind.read = false ∨ 3 < fld p 5 1 ∧ fld p 5 1 ≠ 6) :
    exec (.fabricRead p at10 ecc) s = ok s := by
  show execFabricRead p at10 ecc s = _
  exact if_neg (by rcases h with h | ⟨hlarge, hline⟩ <;> simp [*])

theorem exec_fabricBulkGet_taken (h : reqOk p Kind.bulkGet = true) (hsize : fld p 5 1 = 12) :
    exec (.fabricBulkGet p at10 ecc) s = ok (((s.homeSeen p at10).eccAll ecc).homeRead p 4096) := by
  show execFabricBulkGet p at10 ecc s = _
  exact if_pos (by simp [h, hsize])

theorem exec_fabricBulkGet_dropped (h : reqOk p Kind.bulkGet = false ∨ fld p 5 1 ≠ 12) :
    exec (.fabricBulkGet p at10 ecc) s = ok s := by
  show execFabricBulkGet p at10 ecc s = _
  exact if_neg (by rcases h with h | h <;> simp [h])

variable (poison retries : Nat) (bad : List Nat)

theorem exec_fabricWrite_eq :
    exec (.fabricWrite p poison at10) s = if reqOk p Kind.write then ok (s.homeWrite p poison at10) else ok s := rfl

theorem exec_fabricMop_eq : exec (.fabricMop p at10 retries bad ecc) s =
    if reqOk p Kind.mop then ok (s.homeWrite p 0 at10 retries bad ecc) else ok s := rfl

theorem exec_fabricBulkPut_eq :
    exec (.fabricBulkPut p poison at10) s = if reqOk p Kind.bulkPut then ok (s.homeWrite p poison at10) else ok s := rfl

theorem exec_fabricAck_eq :
    exec (.fabricAck p at10) s = if reqOk p Kind.ack then ok (s.homeSeen p at10) else ok s := rfl

end Packets

/-! ## Write-type requests (R257, R263) -/

/-- A request counts in the step's arrivals when it has been applied (log entry 47). -/
def State.appliedArrival (s : State) (p : Bytes) (status : Nat) : State :=
  if status == St.ok || status == St.residueMismatch then
    s.noteArrival (fld p 16 3 % 2 ^ 20) (fld p 8 8) (fld p 2 2) ((p.take (p.length - 8)).drop 32)
  else s

/-- A request is performed, its result kept in its source's record, and answered. -/
def State.performKept (s : State) (p : Bytes) (poison retries : Nat) (bad : List Nat) (r : SrcRec) : State :=
  let x := s.performReq p poison retries bad
  ((x.1.appliedArrival p x.2.status).setRec (fld p 16 3 % 2 ^ 20) { r with
    next := (r.next + 1) % 2 ^ 32
    entries := r.entries ++ [⟨fld p 20 4, x.2.status, x.2.old, x.2.poison⟩] }).replyReq p x.2.status 0 x.2.old x.2.poison

/-- The record with which a home looks at a request: the one it holds for the source, or a new one where it has room. -/
def State.recFor (s : State) (p : Bytes) (at10 : Nat) (r : SrcRec) : Prop :=
  mfind s.fab.recs (fld p 16 3 % 2 ^ 20) = some r ∨
    mfind s.fab.recs (fld p 16 3 % 2 ^ 20) = none ∧ s.fab.recs.length < 65535 ∧ r = ⟨fld p 20 4, at10, []⟩

/-- A record after a request of its source: the entries that its ACK_SEQ names are free (R255). -/
def SrcRec.heard (r : SrcRec) (p : Bytes) (at10 : Nat) : SrcRec :=
  { r with last := at10, entries := r.entries.filter (fun e => (e.seq + 2 ^ 32 - fld p 24 4) % 2 ^ 32 < 2 ^ 31) }

/-- How far a request's SEQ lies ahead of the next one of its source, modulo 2^32. -/
def SrcRec.ahead (r : SrcRec) (p : Bytes) : Nat := (fld p 20 4 + 2 ^ 32 - r.next) % 2 ^ 32

/-- What a home that has a record of the source does with a write-type request: by its SEQ, then by the room for it. -/
def State.homeTurn (s : State) (p : Bytes) (poison at10 retries : Nat) (bad : List Nat) (ecc : EccFinds) (r : SrcRec) : State :=
  if 2 ^ 31 ≤ r.ahead p then
    match r.entries.find? (fun e => e.seq == fld p 20 4) with
    | some e => ((s.inc F.FAB_REPLAY_COUNTS_REPLAYS).ev F.FAB_SEM_EVENTS_REPLAY_HIT).replyReq p e.status 0 e.data e.poison
    | none => s
  else if r.ahead p != 0 then s
  else
    match s.lineAdmit (fld p 8 6 / 64 * 64) (fld p 16 3 % 2 ^ 20) (fld p 20 4) at10 with
    | (u, some w) => u.replyReq p St.backoff w [] 0
    | (u, none) =>
      if 1024 ≤ r.entries.length || 65536 ≤ s.rd F.FAB_REPLAY_ENTRIES then s.replyReq p St.backoff 2000 [] 0
      else (u.eccAll ecc).performKept p poison retries bad r

section Write

variable {p : Bytes} {at10 : Nat} {s : State} {r : SrcRec} {poison retries : Nat} {bad : List Nat} {ecc : EccFinds}

theorem homeWrite_noRecord (hnone : mfind s.fab.recs (fld p 16 3 % 2 ^ 20) = none) (hfull : 65535 ≤ s.fab.recs.length) :
    s.homeWrite p poison at10 retries bad ecc = s.replyReq p St.backoff 2000 [] 0 := by
  simp only [State.homeWrite, hnone, if_neg (Nat.not_lt.2 hfull)]

theorem homeWrite_eq_homeTurn {r' : SrcRec} (hrec : s.recFor p at10 r) (hr' : r' = r.heard p at10) :
    s.homeWrite p poison at10 retries bad ecc =
      (s.setRec (fld p 16 3 % 2 ^ 20) r').homeTurn p poison at10 retries bad ecc r' := by
  subst hr'
  rcases hrec with hknown | ⟨hnone, hroom, rfl⟩
  · simp only [State.homeWrite, hknown]
    rfl
  · simp only [State.homeWrite, hnone, if_pos hroom]
    rfl

theorem homeTurn_replayed {e : ReplayEntry} (hold : 2 ^ 31 ≤ r.ahead p)
    (hkept : r.entries.find? (fun e => e.seq == fld p 20 4) = some e) : s.homeTurn p poison at10 retries bad ecc r =
      ((s.inc F.FAB_REPLAY_COUNTS_REPLAYS).ev F.FAB_SEM_EVENTS_REPLAY_HIT).replyReq p e.status 0 e.data e.poison := by
  rw [State.homeTurn, if_pos hold, hkept]

theorem homeTurn_freed (hold : 2 ^ 31 ≤ r.ahead p) (hfreed : r.entries.find? (fun e => e.seq == fld p 20 4) = none) :
    s.homeTurn p poison at10 retries bad ecc r = s := by
  rw [State.homeTurn, if_pos hold, hfreed]

theorem homeTurn_early (hnew : r.ahead p < 2 ^ 31) (hlacking : r.ahead p ≠ 0) :
    s.homeTurn p poison at10 retries bad ecc r = s := by
  rw [State.homeTurn, if_neg (Nat.not_le.2 hnew), if_pos (by simpa using hlacking)]

section Next

variable {u : State} (hnext : r.ahead p = 0)
include hnext

theorem homeTurn_lineFull {w : Nat}
    (hwait : s.lineAdmit (fld p 8 6 / 64 * 64) (fld p 16 3 % 2 ^ 20) (fld p 20 4) at10 = (u, some w)) :
    s.homeTurn p poison at10 retries bad ecc r = u.replyReq p St.backoff w [] 0 := by
  rw [State.homeTurn, if_neg (by simp [hnext]), if_neg (by simp [hnext]), hwait]

variable (hplace : s.lineAdmit (fld p 8 6 / 64 * 64) (fld p 16 3 % 2 ^ 20) (fld p 20 4) at10 = (u, none))
include hplace

/-- The line's queue stays as it was: the answer comes from the state before its place was asked for. -/
theorem homeTurn_noEntry (hfull : 1024 ≤ r.entries.length ∨ 65536 ≤ s.rd F.FAB_REPLAY_ENTRIES) :
    s.homeTurn p poison at10 retries bad ecc r = s.replyReq p St.backoff 2000 [] 0 := by
  rw [State.homeTurn, if_neg (by simp [hnext]), if_neg (by simp [hnext]), hplace]
  exact if_pos (by simpa using hfull)

theorem homeTurn_performs (hroom : r.entries.length < 1024) (hfree : s.rd F.FAB_REPLAY_ENTRIES < 65536) :
    s.homeTurn p poison at10 retries bad ecc r = (u.eccAll ecc).performKept p poison retries bad r := by
  rw [State.homeTurn, if_neg (by simp [hnext]), if_neg (by simp [hnext]), hplace]
  exact if_neg (by simpa using ⟨hroom, hfree⟩)

end Next

end Write

section Kept

variable {s x y : State} {p : Bytes} {m : MopResult}

theorem appliedArrival_counted (h : m.status = St.ok ∨ m.status = St.residueMismatch) : x.appliedArrival p m.status =
    x.noteArrival (fld p 16 3 % 2 ^ 20) (fld p 8 8) (fld p 2 2) ((p.take (p.length - 8)).drop 32) :=
  if_pos (by simpa using h)

theorem appliedArrival_refused (hok : m.status ≠ St.ok) (hresidue : m.status ≠ St.residueMismatch) :
    x.appliedArrival p m.status = x := if_neg (by simpa using ⟨hok, hresidue⟩)

theorem performKept_eq {poison retries : Nat} {bad : List Nat} (r : SrcRec)
    (h : s.performReq p poison retries bad = (x, m)) : s.performKept p poison retries bad r =
      ((x.appliedArrival p m.status).setRec (fld p 16 3 % 2 ^ 20) { r with
        next := (r.next + 1) % 2 ^ 32
        entries := r.entries ++ [⟨fld p 20 4, m.status, m.old, m.poison⟩] }).replyReq p m.status 0 m.old m.poison := by
  rw [State.performKept, h]

end Kept

/-! ## What performing a request does (R238, R241, R268) -/

section Perform

variable {p : Bytes} (poison : Nat) {s : State} {a : Nat} (ha : a = fld p 8 6)
include ha

theorem performReq_mop (hkind : fld p 0 1 % 16 = Kind.mop) (retries : Nat) (bad : List Nat) :
    s.performReq p poison retries bad = s.mopAt a (fld p 2 2) ((p.take (p.length - 8)).drop 32) retries bad := by
  subst ha
  exact if_pos (by simp [hkind])

theorem performReq_write {body : Bytes} (hbody : body = (p.take (p.length - 8)).drop 32)
    (hkind : fld p 0 1 % 16 = Kind.write) : s.performReq p poison =
      if s.homeStatus a body.length true == St.ok then (s.writeMarked a body poison, ⟨St.ok, [], 0⟩)
      else (s.noteCtx a body.length, ⟨s.homeStatus a body.length true, [], 0⟩) := by
  subst ha hbody
  exact (if_neg (by rw [hkind]; decide)).trans (if_pos (by simp [hkind]))

theorem performReq_bulkPut {body : Bytes} (hbody : body = (p.take (p.length - 8)).drop 32)
    (hkind : fld p 0 1 % 16 = Kind.bulkPut) : s.performReq p poison =
      if s.homeStatus a 4096 true == St.ok then
        (s.putMasked a (sub body 0 4096) (fld body 4096 512) poison, ⟨St.ok, [], 0⟩)
      else (s.noteCtx a 4096, ⟨s.homeStatus a 4096 true, [], 0⟩) := by
  subst ha hbody
  exact (if_neg (by rw [hkind]; decide)).trans (if_neg (by rw [hkind]; decide))

end Perform

/-! ## Records and tickets that expire (R258, R263) -/

section Expiry

variable {at10 : Nat} {s : State}

theorem exec_sourceRecordExpiry_known {src : Fin 1048576} {r : SrcRec} (hrec : mfind s.fab.recs src = some r) :
    exec (.sourceRecordExpiry src at10) s = if r.last + 10000000 ≤ at10 then
      ok ({ s with fab := { s.fab with recs := mdel s.fab.recs src } } : State).showReplay else ok s := by
  show execSourceRecordExpiry src at10 s = _
  rw [execSourceRecordExpiry, hrec]

theorem exec_sourceRecordExpiry_unknown {src : Fin 1048576} (hrec : mfind s.fab.recs src = none) :
    exec (.sourceRecordExpiry src at10) s = ok s := by
  show execSourceRecordExpiry src at10 s = _
  rw [execSourceRecordExpiry, hrec]

variable {line : Nat} (src : Fin 1048576) (seq : Fin 4294967296)

theorem exec_ticketReservationExpiry_queued {q : LineQueue} (hline : mfind s.fab.lines line = some q) :
    exec (.ticketReservationExpiry line src seq at10) s = ok (s.setLine line at10 { q with
      tickets := q.tickets.filter (fun t => !(t.1 == src.val && t.2.1 == seq.val && t.2.2 + 20000 < at10)) }) := by
  show execTicketReservationExpiry line src seq at10 s = _
  rw [execTicketReservationExpiry, hline]

theorem exec_ticketReservationExpiry_unqueued (hline : mfind s.fab.lines line = none) :
    exec (.ticketReservationExpiry line src seq at10) s = ok s := by
  show execTicketReservationExpiry line src seq at10 s = _
  rw [execTicketReservationExpiry, hline]

end Expiry

/-- Settles O42. A read by what its home answers, a write-type request by its SEQ and then by the room for it; a packet by its
checks, and what expires by the time. -/
theorem fabricRequestsAtTheHome : Obligations.FabricRequestsAtTheHome := by
  refine ⟨?read, ?packets, ?turn, ?noRecord, ?performs, ?expiry,
    fun src at10 s hnone => exec_sourceRecordExpiry_unknown hnone,
    fun line src seq at10 s q hq => exec_ticketReservationExpiry_queued src seq hq,
    fun line src seq at10 s hnone => exec_ticketReservationExpiry_unqueued src seq hnone⟩
  case read =>
    rintro p at10 sz n a st ecc s v rfl rfl ha rfl w hserved hlast hrefused
    have hread : State.homeRead ((s.homeSeen p at10).eccAll ecc) p n = w := by
      by_cases hok : ((s.homeSeen p at10).eccAll ecc).homeStatus a n false = St.ok
      · by_cases hhint : bits (fld p 1 1) 0 2 = 2
        · exact (homeRead_lastUse ha hok hhint).trans (hlast hok hhint).symm
        · exact (homeRead_served ha hok hhint).trans (hserved hok hhint).symm
      · exact (homeRead_refused ha hok).trans (hrefused hok).symm
    rw [← hread]
    constructor
    · rintro hpacket hsize rfl
      exact exec_fabricRead_taken at10 ecc s hpacket hsize
    · rintro hpacket hsize rfl
      exact exec_fabricBulkGet_taken at10 ecc s hpacket hsize
  case packets =>
    intro p poison at10 retries bad ecc s
    rw [exec_fabricWrite_eq, exec_fabricMop_eq, exec_fabricBulkPut_eq, exec_fabricAck_eq]
    exact ⟨fun h => if_pos h, fun h => if_pos h, fun h => if_pos h, fun h => if_pos h, fun h => if_neg (by simp [h]),
      fun h => if_neg (by simp [h]), fun h => if_neg (by simp [h]), fun h => if_neg (by simp [h]),
      exec_fabricRead_dropped at10 ecc s, exec_fabricBulkGet_dropped at10 ecc s⟩
  case turn =>
    rintro p poison at10 retries src seq d bad ecc s v r r' rfl rfl hrec hr' rfl hd
    obtain rfl : d = r'.ahead p := by rw [hd, hr']; rfl
    rw [homeWrite_eq_homeTurn hrec hr']
    refine ⟨fun e => homeTurn_replayed, homeTurn_freed, homeTurn_early, fun u w hnext => homeTurn_lineFull hnext,
      fun u => homeTurn_noEntry, ?_⟩
    intro u x y m hnext hplace hroom hfree hperform hcounted hrefused
    have hy : x.appliedArrival p m.status = y := by
      by_cases h : m.status = St.ok ∨ m.status = St.residueMismatch
      · exact (appliedArrival_counted h).trans (hcounted h).symm
      · obtain ⟨hok, hresidue⟩ := not_or.1 h
        exact (appliedArrival_refused hok hresidue).trans (hrefused hok hresidue).symm
    rw [← hy]
    exact (homeTurn_performs hnext hplace hroom hfree).trans (performKept_eq _ hperform)
  case noRecord => exact fun p poison at10 retries bad ecc s => homeWrite_noRecord
  case performs =>
    intro p poison a body s ha hbody
    refine ⟨fun hkind hok => ?_, fun hkind hno => ?_, fun hkind hok => ?_, fun hkind hno => ?_, fun hkind retries bad => ?_⟩
    · rw [performReq_write poison ha hbody hkind, if_pos (by simp [hok])]
    · rw [performReq_write poison ha hbody hkind, if_neg (by simpa using hno)]
    · rw [performReq_bulkPut poison ha hbody hkind, if_pos (by simp [hok])]
    · rw [performReq_bulkPut poison ha hbody hkind, if_neg (by simpa using hno)]
    · rw [performReq_mop poison ha hkind, hbody]
  case expiry =>
    intro src at10 s r hrec
    rw [exec_sourceRecordExpiry_known hrec, Nat.add_comm]
    exact ⟨fun hold => if_pos hold, fun hrecent => if_neg (Nat.not_le.2 hrecent)⟩

end Sys2Proof.Machine
end

section
/-! Requests at their source (R251, R255, R256, R259–R262): an equation for each way that a source sends, holds back, concludes
and acknowledges them. -/

namespace Sys2Proof.Machine

open Sys2Proof

/-! ## Requests sent again (R251, R256) -/

/-- The requests that leave again with an unreplied one: with a write-type one, all those of its destination. -/
def State.resent (s : State) (r : Req) : List Req :=
  (s.outTo r.engine r.dest).filter (fun x => !x.held && (if writeType r.kind then writeType x.kind else x.tag == r.tag))

theorem resent_writeType {r : Req} (s : State) (h : writeType r.kind = true) :
    s.resent r = (s.outTo r.engine r.dest).filter (fun x => !x.held && writeType x.kind) := by
  simp only [State.resent, h, if_true]

theorem resent_readType {r : Req} (s : State) (h : writeType r.kind = false) :
    s.resent r = (s.outTo r.engine r.dest).filter (fun x => !x.held && x.tag == r.tag) := by
  simp only [State.resent, h, Bool.false_eq_true, if_false]

/-- RETRANSMITS is kept for the 20 engines of cores and harts. -/
theorem retransmit_counted {r : Req} (s : State) (h : r.engine < 20) : s.retransmit r = (s.resent r).foldl (fun v x =>
    (v.sendAgain { x with ver := v.liveVer }).inc (F.FAB_RAE_OUT_RETRANSMITS r.engine)) s := by
  simp only [State.retransmit, State.resent, h, if_true]

theorem retransmit_uncounted {r : Req} (s : State) (h : 20 ≤ r.engine) :
    s.retransmit r = (s.resent r).foldl (fun v x => v.sendAgain { x with ver := v.liveVer }) s := by
  simp only [State.retransmit, State.resent, Nat.not_lt.2 h, if_false]

section Retransmit

variable {tag : Nat} {s : State}

theorem exec_requestRetransmit_unknown (hreq : s.fab.reqs.find? (fun r => r.tag == tag) = none) :
    exec (.requestRetransmit tag) s = ok s := by
  show execRequestRetransmit tag s = _
  rw [execRequestRetransmit, hreq]

variable {r : Req} (hreq : s.fab.reqs.find? (fun r => r.tag == tag) = some r)
include hreq

theorem exec_requestRetransmit_sends (hsent : 1 ≤ r.sends) (hagain : r.sends ≤ 3) {u : State}
    (hu : u = { s with fab := { s.fab with
      reqs := s.fab.reqs.map (fun x => if x.tag == tag then { x with sends := x.sends + 1 } else x) } }) :
    exec (.requestRetransmit tag) s = ok (u.retransmit r) := by
  subst hu
  show execRequestRetransmit tag s = _
  rw [execRequestRetransmit, hreq]
  have hdue : ¬(r.sends = 0 ∨ 4 ≤ r.sends) := by omega
  exact if_neg (by simpa using hdue)

theorem exec_requestRetransmit_notDue (h : r.sends = 0 ∨ 4 ≤ r.sends) : exec (.requestRetransmit tag) s = ok s := by
  show execRequestRetransmit tag s = _
  rw [execRequestRetransmit, hreq]
  exact if_pos (by simpa using h)

end Retransmit

/-! ## No reply by the bound (R260) -/

section Dead

variable {tag : Nat} {s : State}

theorem deadTarget_unknown (hreq : s.fab.reqs.find? (fun r => r.tag == tag) = none) : s.deadTarget tag = s := by
  rw [State.deadTarget, hreq]

theorem deadTarget_eq {r : Req} (hreq : s.fab.reqs.find? (fun r => r.tag == tag) = some r) : s.deadTarget tag =
    s.finishReq r (if r.kind == Kind.mop then St.atomicIndeterminate else St.targetDead) [] 0 := by
  rw [State.deadTarget, hreq]

theorem exec_deadTargetBound_eq {u : State} (h : s.deadTarget tag = u) :
    exec (.deadTargetBound tag) s = ok u.pump.releaseFinish := h ▸ rfl

end Dead

/-! ## Replies (R250, R255, R259) -/

/-- The checks of an arriving reply: its length, kind and CRC, and its node. -/
def State.acceptsReply (s : State) (p : Bytes) : Prop :=
  24 ≤ p.length ∧ fld p 0 1 = 8 ∧ fld p (p.length - 8) 8 = crc64 (p.take (p.length - 8)) ∧ fld p 4 3 / 32 = s.nodeId

theorem exec_fabricReplyArrival_eq {p : Bytes} {poison at10 : Nat} {s u : State} (h : s.fabricReply p poison at10 = u) :
    exec (.fabricReplyArrival p poison at10) s = ok u.pump.releaseFinish := h ▸ rfl

section Reply

variable {p : Bytes} {s : State} (poison at10 : Nat)

theorem acceptsReply_iff : s.acceptsReply p ↔ ¬(p.length < 24 || fld p 0 1 != 8 ||
    fld p (p.length - 8) 8 != crc64 (p.take (p.length - 8)) || fld p 4 3 / 32 != s.nodeId) = true := by
  simp [State.acceptsReply, and_assoc]

theorem fabricReply_dropped (h : ¬s.acceptsReply p) : s.fabricReply p poison at10 = s :=
  if_pos (not_not.1 (mt acceptsReply_iff.2 h))

variable (haccepts : s.acceptsReply p)
include haccepts

theorem fabricReply_unknown (hreq : s.fab.reqs.find? (fun r => r.tag == fld p 8 4 && r.engine == fld p 4 3 % 32) = none) :
    s.fabricReply p poison at10 = s := by
  refine (if_neg (acceptsReply_iff.1 haccepts)).trans ?_
  simp only [hreq]

variable {u : State} {r : Req}
  (hreq : s.fab.reqs.find? (fun r => r.tag == fld p 8 4 && r.engine == fld p 4 3 % 32) = some r)
include hreq

/-- The reply's source owes its home an ACK. -/
theorem fabricReply_concludes (hstatus : fld p 2 2 ≠ St.backoff)
    (hu : u = s.finishReq r (fld p 2 2) ((p.take (p.length - 8)).drop 16) poison) : s.fabricReply p poison at10 =
      { u with fab := { u.fab with owed := sinsert u.fab.owed (seqKey r.engine r.dest) } } := by
  subst hu
  refine (if_neg (acceptsReply_iff.1 haccepts)).trans ?_
  simp only [hreq]
  exact if_neg (by simpa using hstatus)

theorem fabricReply_holds (hstatus : fld p 2 2 = St.backoff) : s.fabricReply p poison at10 =
    { s with fab := { s.fab with
      reqs := s.fab.reqs.map (fun x => if x.engine == r.engine && x.dest == r.dest && writeType x.kind
        && (x.seq + 2 ^ 32 - r.seq) % 2 ^ 32 < 2 ^ 31 then { x with held := true } else x)
      holds := s.fab.holds.filter (fun h => !(h.1 == r.engine && h.2.1 == r.dest))
        ++ [(r.engine, r.dest, r.seq, at10 + 10 * fld p 12 4)] } } := by
  refine (if_neg (acceptsReply_iff.1 haccepts)).trans ?_
  simp only [hreq]
  exact if_pos (by simp [hstatus])

end Reply

/-! ## The end of a wait, and the ACK that is owed (R251, R255, R259) -/

section Timers

variable {g : Fin 24} {d : Fin 32768} {s u : State}

theorem exec_backoffResend_noHold (at10 : Nat)
    (hhold : s.fab.holds.find? (fun h => h.1 == g.val && h.2.1 == d.val) = none) : exec (.backoffResend g d at10) s = ok s := by
  show execBackoffResend g d at10 s = _
  rw [execBackoffResend, hhold]

theorem exec_backoffResend_held {at10 e' d' seq due : Nat}
    (hhold : s.fab.holds.find? (fun h => h.1 == g.val && h.2.1 == d.val) = some (e', d', seq, due))
    (hu : u = { s with fab := { s.fab with holds := s.fab.holds.filter (fun h => !(h.1 == g.val && h.2.1 == d.val)) } }) :
    exec (.backoffResend g d at10) s = if at10 < due then ok s else ok (((u.outTo g d).filter (fun x =>
      writeType x.kind && (x.seq + 2 ^ 32 - seq) % 2 ^ 32 < 2 ^ 31)).foldl (fun v x => v.sendAgain x) u) := by
  subst hu
  show execBackoffResend g d at10 s = _
  rw [execBackoffResend, hhold]

theorem exec_ackTimer_owed (howed : s.fab.owed.contains (seqKey g d) = true)
    (hu : u = { s with fab := { s.fab with owed := s.fab.owed.filter (· != seqKey g d) } }) :
    exec (.ackTimer g d) s = ok (u.sendReq (u.ackReq g d) false) := by
  subst hu
  show execAckTimer g d s = _
  exact if_neg (by simpa using howed)

theorem exec_ackTimer_notOwed (howed : s.fab.owed.contains (seqKey g d) = false) : exec (.ackTimer g d) s = ok s := by
  show execAckTimer g d s = _
  exact if_pos (by simpa using howed)

end Timers

/-! ## What a concluded request leaves to those that wait for it (R260–R262) -/

section Told

variable {r : Req} {n : Nat} (s : State)

theorem told_core {rd size : Nat} {sgn amo : Bool} (hwaiter : r.waiter = .core n rd size sgn amo) (hcarry : r.carry = [])
    (status : Nat) (data : Bytes) (poison : Nat) : s.told r status data poison =
      s.conclude r.engine r.dest r.addr status (.core n rd size sgn amo) data poison := by
  simp only [State.told, hwaiter, hcarry, List.foldl_nil]

/-- A dead load goes on with the bytes that R261 gives. -/
theorem conclude_deadLoad (engine dest addr n rd size : Nat) (sgn amo : Bool) :
    s.conclude engine dest addr St.targetDead (.core n rd size sgn amo) [] 0 =
      s.coreData n rd size sgn addr (deadBytes addr size) false := rfl

theorem told_corePost {e : Option Nat} (hwaiter : r.waiter = .corePost n e) (hcarry : r.carry = []) {status : Nat}
    (hfails : isSuccess status = false) : s.told r status [] 0 =
      ((s.postedFail r.engine r.dest r.addr status).postToEntry n e status).corePart n := by
  simp only [State.told, hwaiter, hcarry, List.foldl_nil, State.conclude, State.storeEnd, hfails, Bool.false_eq_true, if_false]

end Told

/-- Settles O43. A retransmission by how often its request was sent, a reply by its checks and its status, the bound by the kind
of request; the timers by what is held and owed. -/
theorem fabricRequestsAtTheSource : Obligations.FabricRequestsAtTheSource := by
  refine ⟨?known,
    fun tag s hreq => ⟨exec_requestRetransmit_unknown hreq, exec_deadTargetBound_eq (deadTarget_unknown hreq)⟩,
    fun r s => rfl, ?reply, ?dropped, ?resend, fun g d at10 s => exec_backoffResend_noHold at10,
    fun g d s u => exec_ackTimer_owed, fun g d s => exec_ackTimer_notOwed, ?finish, ?load, ?post⟩
  case known =>
    intro tag s u r hreq hu
    refine ⟨fun hsent hagain l hwrite hread => ?_, exec_requestRetransmit_notDue hreq, fun hmop => ?_, fun hmop => ?_⟩
    · have hl : u.resent r = l := by
        cases htype : writeType r.kind with
        | true => exact (resent_writeType u htype).trans (hwrite htype).symm
        | false => exact (resent_readType u htype).trans (hread htype).symm
      rw [exec_requestRetransmit_sends hreq hsent hagain hu, ← hl]
      exact ⟨fun hlow => congrArg ok (retransmit_counted u hlow), fun hhigh => congrArg ok (retransmit_uncounted u hhigh)⟩
    · rw [exec_deadTargetBound_eq (deadTarget_eq hreq), if_pos (by simp [hmop])]
    · rw [exec_deadTargetBound_eq (deadTarget_eq hreq), if_neg (by simpa using hmop)]
  case reply =>
    intro p poison at10 s hlength hkind hcrc hnode
    have haccepts : s.acceptsReply p := ⟨hlength, hkind, hcrc, hnode⟩
    refine ⟨fun r hreq => ⟨fun hstatus u hu => ?_, fun hstatus u hu => ?_⟩, fun hreq => ?_⟩
    · exact exec_fabricReplyArrival_eq (fabricReply_concludes poison at10 haccepts hreq hstatus hu)
    · exact exec_fabricReplyArrival_eq ((fabricReply_holds poison at10 haccepts hreq hstatus).trans hu.symm)
    · exact exec_fabricReplyArrival_eq (fabricReply_unknown poison at10 haccepts hreq)
  case dropped =>
    intro p poison at10 s hfails
    refine exec_fabricReplyArrival_eq (fabricReply_dropped poison at10 ?_)
    rintro ⟨hlength, hkind, hcrc, hnode⟩
    simp [hkind, hcrc, hnode, Nat.not_lt.2 hlength] at hfails
  case resend =>
    intro g d at10 e' d' seq due s u hhold hu
    rw [exec_backoffResend_held hhold hu]
    exact ⟨fun hdue => if_neg (Nat.not_lt.2 hdue), fun hwaits => if_pos hwaits⟩
  case finish =>
    rintro s u r status data poison rfl
    rfl
  case load =>
    intro s r n rd size sgn amo hwaiter hcarry
    rw [told_core s hwaiter hcarry, conclude_deadLoad]
  case post => exact fun s r n e st hwaiter hcarry => told_corePost s hwaiter hcarry

end Sys2Proof.Machine
end

section
/-! The machine: a step runs the front command (R354), every command ends with `ok`, so that it answers a next state whose count
registers show what is held (R360, R447, R467), and a port that is served changes its own counter and nothing else of the registers
(R296). -/

namespace Sys2Proof.Machine

open Sys2Proof

/-! ## The end of every command -/

/-- The answer of a command that ends with `ok`. -/
def EndsOk (o : Out) : Prop := ∃ u, o = ok u

theorem EndsOk.ok (u : State) : EndsOk (ok u) := ⟨u, rfl⟩

theorem EndsOk.answers {o : Out} (h : EndsOk o) : Answers o := by
  obtain ⟨u, rfl⟩ := h
  exact ⟨_, ok_eq u⟩

theorem EndsOk.countsShown {o : Out} {t : State} (h : EndsOk o) (ht : o = .next t) : t.countsShown := by
  obtain ⟨u, rfl⟩ := h
  exact ok_countsShown ht

theorem endsOk_ite {c : Prop} [Decidable c] {o o' : Out} (h : EndsOk o) (h' : EndsOk o') : EndsOk (if c then o else o') := by
  split
  · exact h
  · exact h'

/-! The shared ways in which a row reaches its effect. -/

theorem endsOk_withSub (s : State) (op : Nat) (sel : Sub → Bool) (f : Sub → State → State) : EndsOk (s.withSub op sel f) :=
  withSub_ok s op sel f

theorem endsOk_onCore (s : State) (n : Nat) (f : State → State) : EndsOk (s.onCore n f) := endsOk_ite (.ok _) (.ok _)

theorem endsOk_onHart (s : State) (h : Nat) (f : State → State) : EndsOk (s.onHart h f) := endsOk_ite (.ok _) (.ok _)

theorem endsOk_svRun (s : State) (n : Nat) (legal : Spire → Bool) (f : State → Spire → State) : EndsOk (s.svRun n legal f) :=
  endsOk_ite (.ok _) (.ok _)

theorem endsOk_svMove (s : State) (n res : Nat) (store : Bool) (w rs1 nf : Nat) (index : Option Nat) (legal : Spire → Bool)
    (ecc : EccFinds) : EndsOk (s.svMove n res store w rs1 nf index legal ecc) :=
  endsOk_ite (.ok _) (endsOk_svRun _ _ _ _)

theorem endsOk_addressed (s : State) (f : State → State) : EndsOk (s.addressed f) := endsOk_ite (.ok _) (.ok _)

theorem endsOk_starting (s : State) (t i action : Nat) (f : Entry → State → State) : EndsOk (s.starting t i action f) := by
  unfold State.starting
  split
  · exact .ok _
  · exact endsOk_ite (.ok _) (.ok _)

theorem endsOk_fieldChunkArrival (node : Fin 32768) (addr : Fin 281474976710656) (last : Bool) (p : Bytes) (s : State) :
    EndsOk (execFieldChunkArrival node addr last p s) := by
  unfold execFieldChunkArrival
  dsimp only
  repeat' refine endsOk_ite ?_ ?_
  all_goals exact .ok _

/-- Every command ends with `ok`: at once, through one of the shared ways above, or on each branch of its tests. -/
theorem exec_endsOk (c : Instr) (s : State) : EndsOk (exec c s) := by
  cases c
  case nodePowerCapWrite | holdEnd | copy | fill | gather | scatter | gemm | stencil | q64Gemm | round | svPowerDown |
      longVectorPowerDown | dot | axpy | spmv | trsolve | chol | ldlt | lu | qr | cg | bicgstab | gmres | mopAdd | mopMinMax |
      mopMinuMaxu | mopAndOrXor | mopSwap | mopCas | cistPinArm | cistPinDisarm | memScrubWrite | fabricReplyArrival |
      deadTargetBound | fabDeadBoundWrite | broadcast | reduce | allreduce | allgather | reduceScatter | collInstallArm |
      collFieldWeightWrite | sessionTimeout | rtbRefRestored | retentionSweepComplete | latchRelease =>
    dsimp only [exec, execNodePowerCapWrite, execHoldEnd, execCopy, execFill, execGather, execScatter, execGemm, execStencil,
      execQ64Gemm, execRound, execSvPowerDown, execLongVectorPowerDown, execDot, execAxpy, execSpmv, execTrsolve, execChol,
      execLdlt, execLu, execQr, execCg, execBicgstab, execGmres, execMopAdd, execMopMinMax, execMopMinuMaxu, execMopAndOrXor,
      execMopSwap, execMopCas, execCistPinArm, execCistPinDisarm, execMemScrubWrite, execFabricReplyArrival, execDeadTargetBound,
      execFabDeadBoundWrite, execBroadcast, execReduce, execAllreduce, execAllgather, execReduceScatter, execCollInstallArm,
      execCollFieldWeightWrite, execSessionTimeout, execRtbRefRestored, execRetentionSweepComplete, execLatchRelease]
    exact .ok _
  case setProfile | timebaseUnbind | timebaseBindFollower | timebaseBindMaster | timebaseBindStandby | scheduleLoad |
      scheduleArm | scheduleDisarm | scheduleResume | solve | portRetrain | fabricPlanInstall | fabricPlanRemove | routeSwap |
      jobBroadcast | ckptPolicy | ckptNow | ckptStatus | restore | jobShrink | nodeInfo | readStageReports | keepRead |
      keepWrite | marginSurvey | marginReplan | selfTest | readAgeingLog | jobAdmit | jobRelease | attest | fwStageLocal |
      fwStagePiece | fwActivate | identityRead | keyRotateNew | keyRotateErase | recordStart | recordStop | replay | panelState |
      portRelease | terraceComputeReset | towerDieComputeReset | nodeComputeReset | fullModuleReset | portEnable | portDisable |
      portDrain | portUndrain | portPolicy =>
    dsimp only [exec, execSetProfile, execTimebaseUnbind, execTimebaseBindFollower, execTimebaseBindMaster,
      execTimebaseBindStandby, execScheduleLoad, execScheduleArm, execScheduleDisarm, execScheduleResume, execSolve,
      execPortRetrain, execFabricPlanInstall, execFabricPlanRemove, execRouteSwap, execJobBroadcast, execCkptPolicy, execCkptNow,
      execCkptStatus, execRestore, execJobShrink, execNodeInfo, execReadStageReports, execKeepRead, execKeepWrite,
      execMarginSurvey, execMarginReplan, execSelfTest, execReadAgeingLog, execJobAdmit, execJobRelease, execAttest,
      execFwStageLocal, execFwStagePiece, execFwActivate, execIdentityRead, execKeyRotateNew, execKeyRotateErase,
      execRecordStart, execRecordStop, execReplay, execPanelState, execPortRelease, execTerraceComputeReset,
      execTowerDieComputeReset, execNodeComputeReset, execFullModuleReset, execPortEnable, execPortDisable, execPortDrain,
      execPortUndrain, execPortPolicy, State.portControl]
    exact endsOk_withSub _ _ _ _
  case spTq | spMq | spWait | spTime | spTwait | spAmax | spAmaxx | spEnd | spireLoadStore | spireAmo | spireFence |
      spireFenceI | spireCsrAccess =>
    dsimp only [exec, execSpTq, execSpMq, execSpWait, execSpTime, execSpTwait, execSpAmax, execSpAmaxx, execSpEnd,
      execSpireLoadStore, execSpireAmo, execSpireFence, execSpireFenceI, execSpireCsrAccess]
    exact endsOk_onCore _ _ _
  case pkst | dTwait | dTime | domeLoadStore | domeAmo | domeVectorMemory | domeFloatInstruction | domeVectorInstruction =>
    dsimp only [exec, execPkst, execDTwait, execDTime, execDomeLoadStore, execDomeAmo, execDomeVectorMemory,
      execDomeFloatInstruction, execDomeVectorInstruction]
    exact endsOk_onHart _ _ _
  case svCfg | svExt | svBcast | svPerm | svFmacc | svAddSubMul | svMinMax | svAndOrXor | svSllSrlSra | svFaddFsubFmul |
      svFminFmax | svRsumRminRmax | svFrsumFrminFrmax | svCvt | svMxcvt | svMxexp =>
    dsimp only [exec, execSvCfg, execSvExt, execSvBcast, execSvPerm, execSvFmacc, execSvAddSubMul, execSvMinMax, execSvAndOrXor,
      execSvSllSrlSra, execSvFaddFsubFmul, execSvFminFmax, execSvRsumRminRmax, execSvFrsumFrminFrmax, execSvCvt, execSvMxcvt,
      execSvMxexp, State.svBin, State.svArith, State.svReduce]
    exact endsOk_svRun _ _ _ _
  case svLd | svSt | svLseg | svSseg | svGth | svSct =>
    dsimp only [exec, execSvLd, execSvSt, execSvLseg, execSvSseg, execSvGth, execSvSct]
    exact endsOk_svMove _ _ _ _ _ _ _ _ _ _
  case tensorRun | vectorProgram | solveEntry | move | collective | fieldSend | fieldWait | reflect | digest | quiet | recordMark =>
    dsimp only [exec, execTensorRun, execVectorProgram, execSolveEntry, execMove, execCollective, execFieldSend, execFieldWait,
      execReflect, execDigest, execQuiet, execRecordMark]
    exact endsOk_starting _ _ _ _ _
  case enec | disec | getmwl | getmrl | setmwl | setmrl | getstatus | getbcr | getdcr =>
    dsimp only [exec, execEnec, execDisec, execGetmwl, execGetmrl, execSetmwl, execSetmrl, execGetstatus, execGetbcr, execGetdcr,
      State.cccFree]
    exact endsOk_addressed _ _
  case tsbReplySelect | tsbRecordSelect =>
    dsimp only [exec, execTsbReplySelect, execTsbRecordSelect, State.traySelect]
    exact endsOk_ite (endsOk_addressed _ _) (.ok _)
  case tsbCommand | tsbRecordRead =>
    dsimp only [exec, execTsbCommand, execTsbRecordRead]
    exact endsOk_ite (.ok _) (endsOk_addressed _ _)
  case fieldChunkArrival => exact endsOk_fieldChunkArrival _ _ _ _ _
  case registerWrite | profileSwitchComplete | gateWindowEnd | powerAverageUpdate | backstopStep | stepBoundary | tickSend |
      tickArrival | holdTimeout | delayRequest | delayRequestArrival | delayResponseArrival | ticksStop | standbyPromotion |
      rtbEpochEdge | rtbRefLoss | tbNowRead | alarmFire | entryFire | entryComplete | entryDeadline | barrier | endStep |
      schedRingCtrlWrite | nodeTerracePwrWrite | spTwaitExpiry | spireAmaxWrite | moverDescriptorComplete | ctxSeal | ctxDrop |
      tensorDescriptorComplete | dTwaitExpiry | solveDeadline | solveComplete | pinnedFillComplete | scrubAccess | fabricRead |
      fabricWrite | fabricMop | fabricBulkGet | fabricBulkPut | fabricAck | requestRetransmit | backoffResend | ackTimer |
      sourceRecordExpiry | cableInsert | portTrainingEnd | linkFrameArrival | linkReplayRequest | partnerSilence | lossOfSignal |
      drainNotice | drainComplete | transitPacket | collectiveBarrier | dataChunk | token | chunkAck | credit | refetch | abort |
      done | adopt | lost | chunkResend | chunkAckTimeout | reparentTimeout | broadcastRootTimeout | reflectionCopyDone |
      storeIoCompletion | drainTimeout | restoreCopyDone | shrinkDeadline | fwStageTimeout | partialResetEnd |
      remoteReplyArrival | remoteReplyTimeout | remoteRecordArrival | remoteProbe | nodeCmdRingCtrlWrite | nodeCmdRingTailWrite |
      recordResend | clientHello | ack | keepalive | norOperationDone | counterRecordTimer | counterFold | powerFail |
      standbyRestart | inputLow | feedLost | stageComplete | stageTimeout | watchdogExpiry | surveyPartEnd | surveyDeadline |
      twinTimeout | buttonPress | buttonCancel | latchWarning | latchReleaseTimeout | cableRemove | rstdaa | setdasa |
      routerAdvertisement | neighbourDiscovery | icmpv6Echo | mgmtLinkChange | mainEnRise | mainEnFall | trayResetPulse |
      temperatureSample | thermalBackstopStep | partnerSignal | feedRestored | inputRestored | standbyPowerApplied |
      eyeMonitorSample | ticketReservationExpiry | replayCommandSubmit | mgmtCommand | fabricCommandPacket =>
    dsimp only [exec, execRegisterWrite, execProfileSwitchComplete, execGateWindowEnd, execPowerAverageUpdate, execBackstopStep,
      execStepBoundary, execTickSend, execTickArrival, execHoldTimeout, execDelayRequest, execDelayRequestArrival,
      execDelayResponseArrival, execTicksStop, execStandbyPromotion, execRtbEpochEdge, execRtbRefLoss, execTbNowRead,
      execAlarmFire, execEntryFire, execEntryComplete, execEntryDeadline, execBarrier, execEndStep, execSchedRingCtrlWrite,
      execNodeTerracePwrWrite, execSpTwaitExpiry, execSpireAmaxWrite, execMoverDescriptorComplete, execCtxSeal, execCtxDrop,
      execTensorDescriptorComplete, execDTwaitExpiry, execSolveDeadline, execSolveComplete, execPinnedFillComplete,
      execScrubAccess, execFabricRead, execFabricWrite, execFabricMop, execFabricBulkGet, execFabricBulkPut, execFabricAck,
      execRequestRetransmit, execBackoffResend, execAckTimer, execSourceRecordExpiry, execCableInsert, execPortTrainingEnd,
      execLinkFrameArrival, execLinkReplayRequest, execPartnerSilence, execLossOfSignal, execDrainNotice, execDrainComplete,
      execTransitPacket, execCollectiveBarrier, execDataChunk, execToken, execChunkAck, execCredit, execRefetch, execAbort,
      execDone, execAdopt, execLost, execChunkResend, execChunkAckTimeout, execReparentTimeout, execBroadcastRootTimeout,
      execReflectionCopyDone, execStoreIoCompletion, execDrainTimeout, execRestoreCopyDone, execShrinkDeadline,
      execFwStageTimeout, execPartialResetEnd, execRemoteReplyArrival, execRemoteReplyTimeout, execRemoteRecordArrival,
      execRemoteProbe, execNodeCmdRingCtrlWrite, execNodeCmdRingTailWrite, execRecordResend, execClientHello, execAck,
      execKeepalive, execNorOperationDone, execCounterRecordTimer, execCounterFold, execPowerFail, execStandbyRestart,
      execInputLow, execFeedLost, execStageComplete, execStageTimeout, execWatchdogExpiry, execSurveyPartEnd, execSurveyDeadline,
      execTwinTimeout, execButtonPress, execButtonCancel, execLatchWarning, execLatchReleaseTimeout, execCableRemove, execRstdaa,
      execSetdasa, execRouterAdvertisement, execNeighbourDiscovery, execIcmpv6Echo, execMgmtLinkChange, execMainEnRise,
      execMainEnFall, execTrayResetPulse, execTemperatureSample, execThermalBackstopStep, execPartnerSignal, execFeedRestored,
      execInputRestored, execStandbyPowerApplied, execEyeMonitorSample, execTicketReservationExpiry, execReplayCommandSubmit,
      execMgmtCommand, execFabricCommandPacket]
    repeat' split
    all_goals exact .ok _

/-- Settles O2, as every command ends with `ok`. -/
theorem everyCommandAnswers : Obligations.EveryCommandAnswers := fun c s => (exec_endsOk c s).answers

/-! ## A step -/

theorem step_nil {s : State} (h : s.pending = []) : step s = ok s.servePorts.serveStore := by rw [step, h]

theorem step_cons {s : State} {c : Instr} {r : List Instr} (h : s.pending = c :: r) : step s = exec c { s with pending := r } := by
  rw [step, h]

theorem step_endsOk (s : State) : EndsOk (step s) := by
  cases h : s.pending with
  | nil => exact ⟨_, step_nil h⟩
  | cons c r => exact step_cons h ▸ exec_endsOk c _

/-- Settles O3: a step ends with `ok`, and `ok` writes the count registers from what is held. -/
theorem stepKeepsCountsShown : Obligations.StepKeepsCountsShown := fun s _ _ ht => (step_endsOk s).countsShown ht

/-- Settles O5. The end of a command writes five fields of four registers, and each as it reads where the counts are shown. -/
theorem endOfCommandFrame : Obligations.EndOfCommandFrame := by
  intro s t h
  refine ⟨keepsRegs_of_ok h fun _ _ => rfl, (RegsFrame.refl s).eq_of_ok h, fun hcounts hwf => ?_⟩
  rw [ok_inj h, showCounts_self s hwf hcounts]

/-! ## A port that is served -/

/-- What serving one port, or several, can change: registers of a list, the router's state and what the node has sent. -/
def PortsFrame (l : List Nat) (s t : State) : Prop :=
  t = { s with regs := t.regs, net := t.net, out := t.out } ∧ ∀ a, a ∉ l → t.rdReg a = s.rdReg a

section
variable {l : List Nat}

theorem PortsFrame.refl (s : State) : PortsFrame l s s := ⟨rfl, fun _ _ => rfl⟩

theorem PortsFrame.trans {s t u : State} (h1 : PortsFrame l s t) (h2 : PortsFrame l t u) : PortsFrame l s u := by
  obtain ⟨e1, k1⟩ := h1
  obtain ⟨e2, k2⟩ := h2
  refine ⟨?_, fun a ha => (k2 a ha).trans (k1 a ha)⟩
  rw [e1] at e2
  exact e2

theorem portsFrame_forEach (f : Nat → State → State) : ∀ (ps : List Nat) (s : State), (∀ p ∈ ps, ∀ t, PortsFrame l t (f p t)) →
    PortsFrame l s (forEach ps s f)
  | [], s, _ => .refl s
  | p :: ps, s, h => (h p (by simp) s).trans (portsFrame_forEach f ps (f p s) fun q hq => h q (by simp [hq]))

theorem portsFrame_frameOut (s : State) (p : Nat) (data : Bytes) (h : R.PORT_TX_BYTES p ∈ l) : PortsFrame l s (s.frameOut p data) :=
  ⟨rfl, fun _ ha => State.rdReg_wr_ne (f := F.PORT_TX_BYTES_BYTES p) _ _ fun e => ha (e ▸ h)⟩

theorem portsFrame_servePort (s : State) (p : Nat) (h : R.PORT_TX_BYTES p ∈ l) : PortsFrame l s (s.servePort p) := by
  unfold State.servePort
  dsimp only
  split
  · exact .refl s
  · split
    · exact .refl s
    · split
      · exact .trans (t := s.setPt p _) ⟨rfl, fun _ _ => rfl⟩ (portsFrame_frameOut _ p _ h)
      · exact .refl s

end

theorem portsFrame_servePorts (s : State) : PortsFrame ((List.range 10).map fun p => R.PORT_TX_BYTES p) s s.servePorts :=
  portsFrame_forEach _ _ s fun p hp t => portsFrame_servePort t p (List.mem_map_of_mem hp)

/-- Settles O1. A step by the queue; a served port by whether it carries traffic and its replay buffer has room. -/
theorem stepRunsTheFrontCommand : Obligations.StepRunsTheFrontCommand := by
  refine ⟨fun c r s => step_cons, fun s => step_nil, fun s hidle => if_neg (by simp [hidle]), fun s => ?_⟩
  obtain ⟨heq, hregs⟩ := portsFrame_servePorts s
  exact ⟨heq, fun a ha _ => hregs a ha⟩

end Sys2Proof.Machine
end

section
/-! PORT_CONTROL, PORT_RETRAIN and PORT_RELEASE (R283, R284, R459). -/

namespace Sys2Proof.Machine

open Sys2Proof

/-! ## PORT_CONTROL -/

section Control

variable {s u : State} {q : Sub} {op : Nat}

theorem portSel_of_op (h : q.p 1 1 = op) : portSel op q = true := by simp [portSel, h]

theorem portSel_zero_of_above (h : 4 < q.p 1 1) : portSel 0 q = true := by simp [portSel, h]

theorem portBad_of_above (h : 4 < q.p 1 1) : portBad q = true := by simp [portBad, h]

variable (htakes : s.takes q Op.portControl u) (hsel : portSel op q = true) (f : Nat → Sub → State → State)
include htakes hsel

theorem portControl_bad (hbad : portBad q = true) : s.portControl op f = ok (u.short q St.badParam []) :=
  (withSub_takes htakes hsel).trans (by rw [if_pos hbad])

theorem portControl_busy (hbad : portBad q = false) (hbusy : u.portBusy (q.p 0 1) = true) :
    s.portControl op f = ok (u.short q St.busy []) :=
  (withSub_takes htakes hsel).trans (by simp only [hbad, hbusy, Bool.false_eq_true, if_false, if_true])

theorem portControl_refused (hbad : portBad q = false) (hbusy : u.portBusy (q.p 0 1) = false) (hop : op = 1 ∨ op = 2)
    (hdrain : u.drainRefused (q.p 0 1) = true) : s.portControl op f = ok (u.short q St.badParam []) := by
  have hstops : (op == 1 || op == 2) = true := by simpa using hop
  exact (withSub_takes htakes hsel).trans (by simp only [hbad, hbusy, hstops, hdrain, Bool.and_self, Bool.false_eq_true, if_false, if_true])

/-- Otherwise the row acts, and replies its port's PORTn_STATUS. -/
theorem portControl_acts {v : State} (hbad : portBad q = false) (hbusy : u.portBusy (q.p 0 1) = false)
    (hdrain : op = 1 ∨ op = 2 → u.drainRefused (q.p 0 1) = false) (hacts : f (q.p 0 1) q u = v) :
    s.portControl op f = ok (v.short q St.ok (natLE 8 (v.rdReg (R.PORT_STATUS (q.p 0 1))))) := by
  have hruns : ((op == 1 || op == 2) && u.drainRefused (q.p 0 1)) = false := by
    rw [Bool.and_eq_false_imp, Bool.or_eq_true, beq_iff_eq, beq_iff_eq]
    exact hdrain
  subst hacts
  exact (withSub_takes htakes hsel).trans (by simp only [hbad, hbusy, hruns, Bool.false_eq_true, if_false])

end Control

/-! What each row does to its port. -/

section Undrain

variable {u : State} {p : Nat}

theorem undrain_notDrained (h : u.portState p ≠ Port.drained) : u.undrain p = u := if_pos (by simpa using h)

variable (h : u.portState p = Port.drained)
include h

theorem undrain_trained (hlanes : u.rd (F.PORT_STATUS_LANES_TRAINED p) ≠ 0) : u.undrain p = u.setPort p Port.up := by
  simp [State.undrain, h, hlanes]

theorem undrain_trains (hlanes : u.rd (F.PORT_STATUS_LANES_TRAINED p) = 0) (hcable : u.rd (F.PORT_CABLE_PRESENT p) = 1) :
    u.undrain p = u.startTraining p := by
  simp [State.undrain, State.flag, h, hlanes, hcable]

theorem undrain_waits (hlanes : u.rd (F.PORT_STATUS_LANES_TRAINED p) = 0) (hcable : u.rd (F.PORT_CABLE_PRESENT p) = 0) :
    u.undrain p = u.setPort p Port.wait := by
  simp [State.undrain, State.flag, h, hlanes, hcable]

end Undrain

/-! ## PORT_RETRAIN and PORT_RELEASE -/

section Rows

variable {s u : State} {q : Sub}

/-- The rows that drain a port for a handle test the port's number, whether it is busy, and whether its drain is refused, in this
order (R284). -/
def State.drainRow (q : Sub) (act : State → Nat → State) (s : State) : State :=
  if q.p 0 1 > 9 then s.refuse q St.badParam
  else if s.portBusy (q.p 0 1) then s.refuse q St.busy
  else if s.drainRefused (q.p 0 1) then s.refuse q St.badParam
  else act (s.accept q).1 (s.accept q).2

theorem exec_portRetrain (htakes : s.takes q Op.portRetrain u) : exec .portRetrain s = ok (State.drainRow q (fun v h =>
    if v.portState (q.p 0 1) == Port.up then v.startDrain (q.p 0 1) .retrain (some h)
    else if !v.flag (F.PORT_STATUS_ENABLED (q.p 0 1)) then v.retrainDone (q.p 0 1) h
    else (v.startTraining (q.p 0 1)).setPt (q.p 0 1) { (v.startTraining (q.p 0 1)).pt (q.p 0 1) with handle := some h }) u) := by
  show execPortRetrain s = _
  exact withSub_takes htakes rfl

theorem exec_portRelease (htakes : s.takes q Op.portRelease u) : exec .portRelease s = ok (State.drainRow q (fun v h =>
    if v.portState (q.p 0 1) == Port.drained || v.portState (q.p 0 1) == Port.off then v.complete h St.ok 0 []
    else if v.portState (q.p 0 1) == Port.down || v.portState (q.p 0 1) == Port.held then
      (v.setPt (q.p 0 1) { v.pt (q.p 0 1) with handle := some h }).stopTraining (q.p 0 1)
    else v.latchDrain (q.p 0 1) .drain (some h)) u) := by
  show execPortRelease s = _
  exact withSub_takes htakes rfl

variable (act : State → Nat → State)

theorem drainRow_noPort (h : 9 < q.p 0 1) : u.drainRow q act = u.refuse q St.badParam := if_pos h

variable (hport : q.p 0 1 ≤ 9)
include hport

theorem drainRow_busy (hbusy : u.portBusy (q.p 0 1) = true) : u.drainRow q act = u.refuse q St.busy :=
  (if_neg (not_lt.2 hport)).trans (if_pos hbusy)

variable (hbusy : u.portBusy (q.p 0 1) = false)
include hbusy

theorem drainRow_refused (hdrain : u.drainRefused (q.p 0 1) = true) : u.drainRow q act = u.refuse q St.badParam :=
  (if_neg (not_lt.2 hport)).trans ((if_neg (by simp [hbusy])).trans (if_pos hdrain))

theorem drainRow_acts (hdrain : u.drainRefused (q.p 0 1) = false) {v : State} {h : Nat} (haccept : u.accept q = (v, h)) :
    u.drainRow q act = act v h :=
  (if_neg (not_lt.2 hport)).trans ((if_neg (by simp [hbusy])).trans ((if_neg (by simp [hdrain])).trans (by rw [haccept])))

end Rows

section Latch

variable {v : State} {p : Nat} (d : DrainFor) (h : Nat)

theorem latchDrain_up (hst : v.portState p = Port.up) : v.latchDrain p d (some h) = v.startDrain p d (some h) := by
  simp [State.latchDrain, hst]

theorem latchDrain_training (hst : v.portState p = Port.train ∨ v.portState p = Port.wait) :
    v.latchDrain p d (some h) = (v.setPt p { v.pt p with handle := some h }).stopTraining p := by
  rcases hst with hst | hst <;> simp [State.latchDrain, hst, Port.up, Port.draining, Port.train, Port.wait]

end Latch

/-- Settles O44. PORT_CONTROL by its five operations, what they refuse, and the port's state; PORT_RETRAIN and PORT_RELEASE by the
checks they share and then by the port's state. -/
theorem portCommands : Obligations.PortCommands := by
  refine ⟨?control, fun s u q htakes hop => ?above, ?refused, ?retrain, ?release, ?rows⟩
  case above =>
    show execPortEnable s = _
    exact portControl_bad htakes (portSel_zero_of_above hop) _ (portBad_of_above hop)
  case control =>
    rintro s u q p htakes rfl hbad hbusy r hr
    have acts : ∀ (k : Nat) (f : Nat → Sub → State → State) (v : State), q.p 1 1 = k →
        (k = 1 ∨ k = 2 → u.drainRefused (q.p 0 1) = false) → f (q.p 0 1) q u = v → s.portControl k f = ok (r v) :=
      fun k f v hk hdrain hf => (portControl_acts htakes (portSel_of_op hk) f hbad hbusy hdrain hf).trans (by rw [hr])
    refine ⟨fun hop hoff => ?_, fun hop hon => ?_, fun hop hdrain hup => ?_, fun hop hdrain hup => ?_, fun hop hdrain hup => ?_,
      fun hop hdrain hst => ?_, fun hop hdrain hup htrain hwait => ?_, fun hop hst hlanes => ?_, fun hop hst hlanes hcable => ?_,
      fun hop hst hlanes hcable => ?_, fun hop hst => ?_, fun hop => ?_⟩
    · show execPortEnable s = _
      exact acts 0 _ _ hop (by omega) (if_neg (by simp [State.flag, hoff]))
    · show execPortEnable s = _
      exact acts 0 _ _ hop (by omega) (if_pos (by simp [State.flag, hon]))
    · show execPortDisable s = _
      exact acts 1 _ _ hop (fun _ => hdrain) (if_pos (by simp [hup]))
    · show execPortDisable s = _
      exact acts 1 _ _ hop (fun _ => hdrain) (if_neg (by simpa using hup))
    · show execPortDrain s = _
      exact acts 2 _ _ hop (fun _ => hdrain) (if_pos (by simp [hup]))
    · show execPortDrain s = _
      refine acts 2 _ _ hop (fun _ => hdrain) ((if_neg ?_).trans (if_pos (by simpa using hst)))
      rcases hst with hst | hst <;> simp [hst, Port.up, Port.train, Port.wait]
    · show execPortDrain s = _
      exact acts 2 _ _ hop (fun _ => hdrain) ((if_neg (by simpa using hup)).trans (if_neg (by simp [htrain, hwait])))
    · show execPortUndrain s = _
      exact acts 3 _ _ hop (by omega) (undrain_trained hst hlanes)
    · show execPortUndrain s = _
      exact acts 3 _ _ hop (by omega) (undrain_trains hst hlanes hcable)
    · show execPortUndrain s = _
      exact acts 3 _ _ hop (by omega) (undrain_waits hst hlanes hcable)
    · show execPortUndrain s = _
      exact acts 3 _ _ hop (by omega) (undrain_notDrained hst)
    · show execPortPolicy s = _
      exact acts 4 _ _ hop (by omega) rfl
  case refused =>
    intro s u q c k htakes hop hrow
    have row : ∃ f, exec c s = s.portControl k f := by
      simp only [List.mem_cons, Prod.mk.injEq, List.not_mem_nil, or_false] at hrow
      rcases hrow with ⟨rfl, rfl⟩ | ⟨rfl, rfl⟩ | ⟨rfl, rfl⟩ | ⟨rfl, rfl⟩ | ⟨rfl, rfl⟩
      exacts [⟨_, show execPortEnable s = _ from rfl⟩, ⟨_, show execPortDisable s = _ from rfl⟩,
        ⟨_, show execPortDrain s = _ from rfl⟩, ⟨_, show execPortUndrain s = _ from rfl⟩, ⟨_, show execPortPolicy s = _ from rfl⟩]
    obtain ⟨f, hrow⟩ := row
    rw [hrow]
    exact ⟨portControl_bad htakes (portSel_of_op hop) f, portControl_busy htakes (portSel_of_op hop) f,
      portControl_refused htakes (portSel_of_op hop) f⟩
  case retrain =>
    rintro s u v q p h htakes rfl hport hbusy hdrain haccept
    rw [exec_portRetrain htakes, drainRow_acts _ hport hbusy hdrain haccept]
    refine ⟨fun hup => ?_, fun hup hoff => ?_, fun hup hon w hw => ?_⟩
    · rw [if_pos (by simp [hup])]
    · rw [if_neg (by simpa using hup), if_pos (by simp [State.flag, hoff])]
    · rw [if_neg (by simpa using hup), if_neg (by simp [State.flag, hon]), hw]
  case release =>
    rintro s u v q p h htakes rfl hport hbusy hdrain haccept
    rw [exec_portRelease htakes, drainRow_acts _ hport hbusy hdrain haccept]
    refine ⟨fun hup => ?_, fun hst => ?_, fun hst => ?_⟩
    · rw [latchDrain_up _ _ hup]
      simp [hup, Port.up, Port.drained, Port.off, Port.down, Port.held]
    · rw [if_pos (by simpa using hst)]
    · rcases hst with hst | hst | htrain
      · simp [hst, Port.drained, Port.off, Port.down, Port.held]
      · simp [hst, Port.drained, Port.off, Port.down, Port.held]
      · rw [latchDrain_training _ _ htrain]
        rcases htrain with hst | hst <;> simp [hst, Port.drained, Port.off, Port.train, Port.wait]
  case rows =>
    intro s u q c o htakes hrow
    have row : ∃ act, exec c s = ok (u.drainRow q act) := by
      simp only [List.mem_cons, Prod.mk.injEq, List.not_mem_nil, or_false] at hrow
      rcases hrow with ⟨rfl, rfl⟩ | ⟨rfl, rfl⟩
      · exact ⟨_, exec_portRetrain htakes⟩
      · exact ⟨_, exec_portRelease htakes⟩
    obtain ⟨act, hrow⟩ := row
    rw [hrow]
    exact ⟨fun hnone => by rw [drainRow_noPort act hnone], fun hport hbusy => by rw [drainRow_busy act hport hbusy],
      fun hport hbusy hdrain => by rw [drainRow_refused act hport hbusy hdrain]⟩

end Sys2Proof.Machine
end

section
/-! The links (R278, R279, R281, R282): what a port takes of a frame, what it sends again, and how training chooses mode and lanes. -/

namespace Sys2Proof.Machine

open Sys2Proof

/-! ## Whether a port's link is live -/

theorem linked_iff {s : State} {p : Nat} :
    s.linked p = true ↔ s.portState p ∈ [Port.up, Port.draining, Port.drained, Port.held] := by
  simp [State.linked, or_assoc]

theorem linked_eq_false {s : State} {p : Nat} (h : s.portState p ∉ [Port.up, Port.draining, Port.drained, Port.held]) :
    s.linked p = false := by
  rw [← Bool.not_eq_true, linked_iff]; exact h

/-! ## A frame that arrives -/

section Frame

variable {v : State} {p seq : Nat} (ack : Nat) (data : Bytes)

theorem frameIn_next {u : State} (hseq : seq = (v.pt p).rxSeq) (hu : u = v.frameAck p ack) : v.frameIn p seq ack true data =
    (u.setPt p { u.pt p with rxSeq := ((v.pt p).rxSeq + 1) % 4096, asked := false }).incw (F.PORT_RX_BYTES_BYTES p) data.length := by
  subst hu
  exact if_pos (by simp [hseq])

theorem ne_of_seqBefore {a b : Nat} (h : seqBefore a b = true) : a ≠ b := by
  simp only [seqBefore, Bool.and_eq_true, bne_iff_ne] at h
  exact h.2

theorem frameIn_before (h : seqBefore seq (v.pt p).rxSeq = true) : v.frameIn p seq ack true data = v :=
  (if_neg (by simp [ne_of_seqBefore h])).trans (if_pos (by simp [h]))

/-- A frame that is neither the next nor an earlier one, or that failed a check, is asked for again, or not where it is asked for
already. -/
theorem frameIn_other {good : Bool} (hother : good = true → seq ≠ (v.pt p).rxSeq ∧ seqBefore seq (v.pt p).rxSeq = false) :
    v.frameIn p seq ack good data = if (v.pt p).asked && (good || seq != (v.pt p).rxSeq) then v else
      (v.setPt p { v.pt p with asked := true }).send .replayRequest p [(v.pt p).rxSeq] [] := by
  have hnext : (good && seq == (v.pt p).rxSeq) = false := by
    rw [Bool.and_eq_false_imp, beq_eq_false_iff_ne]; exact fun h => (hother h).1
  have hbefore : (good && seqBefore seq (v.pt p).rxSeq) = false := by
    rw [Bool.and_eq_false_imp]; exact fun h => (hother h).2
  simp only [State.frameIn, hnext, hbefore, Bool.false_eq_true, if_false]

variable {good : Bool} (hother : good = true → seq ≠ (v.pt p).rxSeq ∧ seqBefore seq (v.pt p).rxSeq = false)
include hother

theorem frameIn_askedAlready (hasked : (v.pt p).asked = true) (hseq : seq ≠ (v.pt p).rxSeq) : v.frameIn p seq ack good data = v := by
  rw [frameIn_other ack data hother, if_pos (by simp [hasked, hseq])]

theorem frameIn_asks (h : (v.pt p).asked = false ∨ good = false ∧ seq = (v.pt p).rxSeq) : v.frameIn p seq ack good data =
    (v.setPt p { v.pt p with asked := true }).send .replayRequest p [(v.pt p).rxSeq] [] := by
  rw [frameIn_other ack data hother, if_neg]
  rcases h with h | ⟨hgood, hseq⟩
  · simp [h]
  · simp [hgood, hseq]

end Frame

section Arrival

variable {p : Fin 10} {seq ack : Fin 4096} {fixed crc : Nat} {fail : Bool} {data : Bytes} {s v : State}

theorem exec_linkFrameArrival_unlinked (h : s.linked p = false) : exec (.linkFrameArrival p seq ack fixed fail crc data) s = ok s := by
  show execLinkFrameArrival p seq ack fixed fail crc data s = _
  exact if_pos (by simp [h])

/-- A linked port counts what the FEC found, and takes the frame as good when its CRC-32 and FEC hold. -/
theorem exec_linkFrameArrival_linked {good : Bool} {w : State} (h : s.linked p = true) (hv : s.fecFound p fixed fail = v)
    (hgood : (crc == frameCrc seq ack data && !fail) = good) (hw : v.frameIn p seq ack good data = w) :
    exec (.linkFrameArrival p seq ack fixed fail crc data) s = ok w := by
  subst hv hgood hw
  show execLinkFrameArrival p seq ack fixed fail crc data s = _
  exact if_neg (by simp [h])

theorem fecFound_eq (hfixed : fail = false → v = s.incw (F.PORT_FEC_CORRECTED p) fixed)
    (hfailed : fail = true → v = (s.incw (F.PORT_FEC_CORRECTED p) fixed).inc (F.PORT_FEC_UNCORRECTED p)) :
    s.fecFound p fixed fail = v := by
  cases fail with
  | false => exact (hfixed rfl).symm
  | true => exact (hfailed rfl).symm

end Arrival

/-! ## Replay requests, and what ends a link -/

section Link

variable {s u : State} {p : Nat}

theorem replayFrom_replays {seq : Nat} (hu : u = s.frameAck p seq) (hkept : (u.pt p).replay ≠ []) (hcount : (u.pt p).replays < 8) :
    s.replayFrom p seq = (u.pt p).replay.foldl (fun v f => v.frameSend p f.1 f.2)
      ((u.setPt p { u.pt p with replays := (u.pt p).replays + 1 }).inc (F.PORT_COUNTS_LINK_REPLAYS p)) := by
  subst hu
  exact (if_neg (by simpa using hkept)).trans (if_neg (by simpa using hcount))

theorem replayFrom_relinks {seq : Nat} (hu : u = s.frameAck p seq) (hkept : (u.pt p).replay ≠ []) (hcount : 8 ≤ (u.pt p).replays) :
    s.replayFrom p seq = u.relink p := by
  subst hu
  exact (if_neg (by simpa using hkept)).trans (if_pos hcount)

theorem replayFrom_nothing {seq : Nat} (hu : u = s.frameAck p seq) (hkept : (u.pt p).replay = []) : s.replayFrom p seq = u := by
  subst hu
  exact if_pos (by simp [hkept])

end Link

section Events

variable {s : State} {p : Fin 10}

theorem exec_linkReplayRequest_linked {seq : Fin 4096} {w : State} (h : s.linked p = true) (hw : s.replayFrom p seq = w) :
    exec (.linkReplayRequest p seq) s = ok w.removalProceed := by
  subst hw
  show execLinkReplayRequest p seq s = _
  exact if_neg (by simp [h])

theorem exec_linkReplayRequest_unlinked {seq : Fin 4096} (h : s.linked p = false) : exec (.linkReplayRequest p seq) s = ok s := by
  show execLinkReplayRequest p seq s = _
  exact if_pos (by simp [h])

theorem exec_partnerSilence_linked (h : s.linked p = true) : exec (.partnerSilence p) s = ok (s.relink p).removalProceed := by
  show execPartnerSilence p s = _
  exact if_pos h

theorem exec_partnerSilence_unlinked (h : s.linked p = false) : exec (.partnerSilence p) s = ok s := by
  show execPartnerSilence p s = _
  exact if_neg (by simp [h])

theorem exec_lossOfSignal_up (h : s.portState p = Port.up) : exec (.lossOfSignal p) s = ok (s.unannounced p).removalProceed := by
  show execLossOfSignal p s = _
  exact if_pos (by simp [h])

theorem exec_lossOfSignal_drains (h : s.portState p = Port.draining ∨ s.portState p = Port.drained ∨ s.portState p = Port.held) :
    exec (.lossOfSignal p) s = ok (s.relink p).removalProceed := by
  show execLossOfSignal p s = _
  rcases h with h | h | h <;> simp [execLossOfSignal, h, Port.up, Port.draining, Port.drained, Port.held]

theorem exec_lossOfSignal_unlinked (h : s.portState p ∉ [Port.up, Port.draining, Port.drained, Port.held]) :
    exec (.lossOfSignal p) s = ok s := by
  show execLossOfSignal p s = _
  simp only [List.mem_cons, List.not_mem_nil, or_false, not_or] at h
  simp [execLossOfSignal, h]

theorem exec_drainNotice_up (h : s.portState p = Port.up) : exec (.drainNotice p) s = ok (s.startDrain p .drain none) := by
  show execDrainNotice p s = _
  exact if_pos (by simp [h])

theorem exec_drainNotice_other (h : s.portState p ≠ Port.up) : exec (.drainNotice p) s = ok s := by
  show execDrainNotice p s = _
  exact if_neg (by simpa using h)

/-! ## The end of a drain, and the partner's signal -/

/-- A port whose drain goes on: it is not draining, frames wait or are unacknowledged, or a command of the checkpoint store waits at
it. -/
def State.drainGoesOn (s : State) (p : Nat) : Bool :=
  s.portState p != Port.draining || !(s.pt p).replay.isEmpty || !(s.pt p).queue.isEmpty || s.storeWaits p

theorem drainGoesOn_iff {s : State} {p : Nat} : s.drainGoesOn p = true ↔
    s.portState p ≠ Port.draining ∨ (s.pt p).replay ≠ [] ∨ (s.pt p).queue ≠ [] ∨ s.storeWaits p = true := by
  simp [State.drainGoesOn, or_assoc]

theorem exec_drainComplete_goesOn (h : s.drainGoesOn p = true) : exec (.drainComplete p) s = ok s := by
  show execDrainComplete p s = _
  exact if_pos h

/-- The state in which a drain that has ended leaves its port. -/
def State.drained (u : State) (p : Nat) : DrainFor → State
  | .disable => ((u.portIdle p).setPort p Port.off).portDone p
  | .retrain => (u.startTraining p).setPt p { (u.startTraining p).pt p with drain := .retrain }
  | _ => (u.setPort p Port.drained).portDone p

theorem drained_other {u : State} {p : Nat} {d : DrainFor} (hdisable : d ≠ .disable) (hretrain : d ≠ .retrain) :
    u.drained p d = (u.setPort p Port.drained).portDone p := by
  cases d with
  | disable => exact absurd rfl hdisable
  | retrain => exact absurd rfl hretrain
  | _ => rfl

theorem exec_drainComplete_ends {u : State} (h : s.drainGoesOn p = false)
    (hu : u = (s.setPt p { s.pt p with drain := .none }).ev (F.PORT_EVENTS_DRAINED p)) :
    exec (.drainComplete p) s = ok (u.drained p (s.pt p).drain).removalProceed := by
  subst hu
  show execDrainComplete p s = _
  refine (if_neg (ne_true_of_eq_false h)).trans ?_
  cases (s.pt p).drain <;> rfl

/-- A port that a partner's signal trains: it waits, is enabled, has a cable and power, and the module is not released. -/
def State.signalTrains (s : State) (p : Nat) : Bool :=
  s.portState p == Port.wait && s.flag (F.PORT_STATUS_ENABLED p) && s.flag (F.PORT_CABLE_PRESENT p)
    && !s.panel.unpowered.contains p && !s.removable

theorem exec_partnerSignal_trains (h : s.signalTrains p = true) :
    exec (.partnerSignal p) s = ok (s.startTraining p).removalProceed := by
  show execPartnerSignal p s = _
  exact if_pos h

theorem exec_partnerSignal_ignored (h : s.signalTrains p = false) : exec (.partnerSignal p) s = ok s := by
  show execPartnerSignal p s = _
  exact if_neg (ne_true_of_eq_false h)

end Events

/-! ## Training -/

section Training

theorem trainMode_lowest {s : State} {p m g x : Nat} {trains : List (Fin 256)} (hm : m ≤ s.rd (F.PORT_STATUS_MODE_FLOOR p))
    (hg : g ∈ laneGroups p m) (hx : x = (trains.getD m 0).val &&& (255 - s.rd (F.PORT_STATUS_LANES_OOS p))) (htrains : g &&& x = g) :
    ∃ m' g', s.trainMode p trains = some (m', g') ∧ m' ≤ m ∧ g' ∈ laneGroups p m' ∧
      g' &&& ((trains.getD m' 0).val &&& (255 - s.rd (F.PORT_STATUS_LANES_OOS p))) = g' := by
  subst hx
  have hfinds : (s.trainMode p trains).isSome := by
    simp only [State.trainMode, List.findSome?_isSome_iff, Option.isSome_map, List.find?_isSome, beq_iff_eq]
    exact ⟨m, List.mem_range.2 (by omega), g, hg, htrains⟩
  obtain ⟨⟨m', g'⟩, hfound⟩ := Option.isSome_iff_exists.1 hfinds
  refine ⟨m', g', hfound, ?_⟩
  obtain ⟨before, a, after, hsplit, ha, hbefore⟩ := List.findSome?_eq_some_iff.1 hfound
  obtain ⟨g'', hg'', hpair⟩ := Option.map_eq_some_iff.1 ha
  obtain ⟨rfl, rfl⟩ := Prod.mk.inj hpair
  refine ⟨?_, List.mem_of_find?_eq_some hg'', by simpa using List.find?_some hg''⟩
  by_contra hlater
  have hlower : m ∈ before := by
    have hsorted := List.pairwise_lt_range (n := s.rd (F.PORT_STATUS_MODE_FLOOR p) + 1)
    have hmem : m ∈ before ++ a :: after := hsplit ▸ List.mem_range.2 (by omega)
    rw [hsplit, List.pairwise_append, List.pairwise_cons] at hsorted
    obtain ⟨-, ⟨hafter, -⟩, -⟩ := hsorted
    rcases List.mem_append.1 hmem with h | h
    · exact h
    · rcases List.mem_cons.1 h with h | h
      · omega
      · have := hafter m h; omega
  have hnone := hbefore m hlower
  rw [Option.map_eq_none_iff, List.find?_eq_none] at hnone
  exact hnone g hg (by simpa using htrains)

variable {p : Fin 10} {trains : List (Fin 256)} {ber : Nat} {offer : Bool} {node : Fin 32768} {port : Fin 16} {spine : Bool}
  {eq : Bytes} {s u v : State}

theorem exec_portTrainingEnd_other (h : s.portState p ≠ Port.train) :
    exec (.portTrainingEnd p trains ber offer node port spine eq) s = ok s := by
  show execPortTrainingEnd p trains ber offer node port spine eq s = _
  exact if_pos (by simpa using h)

variable (h : s.portState p = Port.train) (hu : u = s.setPt p { s.pt p with drain := .none })
include h hu

theorem exec_portTrainingEnd_down (hmode : s.trainMode p trains = none) :
    exec (.portTrainingEnd p trains ber offer node port spine eq) s = ok ((u.portDown p).trainEnded p) := by
  subst hu
  show execPortTrainingEnd p trains ber offer node port spine eq s = _
  refine (if_neg (by simp [h])).trans ?_
  simp only [hmode]

theorem exec_portTrainingEnd_trained {m lanes : Nat} {fec : Bool} (hmode : s.trainMode p trains = some (m, lanes))
    (hv : v = { u with age := { u.age with
      presets := (List.range 8).foldl (fun l i => mput l (p.val * 8 + i) (sub eq (8 * i) 8)) u.age.presets } })
    (hfec : (s.shortReach p && offer && decide (ber ≤ 10000)) = fec) :
    exec (.portTrainingEnd p trains ber offer node port spine eq) s =
      ok ((v.portTrained p m lanes fec node port spine).trainEnded p) := by
  subst hu hv hfec
  show execPortTrainingEnd p trains ber offer node port spine eq s = _
  refine (if_neg (by simp [h])).trans ?_
  simp only [hmode]

end Training

/-- Settles O45. A frame by its checks and its place in the order; a replay request by what is unacknowledged and how often it was
sent; the events of a link by the port's state; training by the modes that train. -/
theorem linksDeliverAndRecover : Obligations.LinksDeliverAndRecover := by
  refine ⟨?frame, ?replay, ?unlinked, fun p s => ⟨exec_drainNotice_up, exec_drainNotice_other, exec_lossOfSignal_up,
    exec_lossOfSignal_drains⟩, ?drained, fun p s h => exec_drainComplete_goesOn (drainGoesOn_iff.2 h), ?signal, ?trained, ?lowest,
    fun p trains ber offer node port spine eq s => exec_portTrainingEnd_other⟩
  case frame =>
    intro p seq ack fixed crc fail data s u v hst hfixed hfailed
    have arrives : ∀ (good : Bool) (w : State), (crc == frameCrc seq ack data && !fail) = good → v.frameIn p seq ack good data = w →
        exec (.linkFrameArrival p seq ack fixed fail crc data) s = ok w :=
      fun good w => exec_linkFrameArrival_linked (linked_iff.2 hst) (fecFound_eq hfixed hfailed)
    refine ⟨fun hcrc hfec hseq hu => ?_, fun hcrc hfec hbefore => ?_, fun hcrc hfec hseq hbefore => ?_, fun hbad => ?_⟩
    · exact arrives true _ (by simp [hcrc, hfec]) (frameIn_next ack data hseq hu)
    · exact arrives true _ (by simp [hcrc, hfec]) (frameIn_before ack data hbefore)
    · exact ⟨fun hasked => arrives true _ (by simp [hcrc, hfec]) (frameIn_askedAlready ack data (fun _ => ⟨hseq, hbefore⟩) hasked hseq),
        fun hasked => arrives true _ (by simp [hcrc, hfec]) (frameIn_asks ack data (fun _ => ⟨hseq, hbefore⟩) (.inl hasked))⟩
    · have hgood : (crc == frameCrc seq ack data && !fail) = false := by
        rw [Bool.and_eq_false_iff, beq_eq_false_iff_ne, Bool.not_eq_false']; exact hbad
      exact ⟨fun hasked hseq => arrives false _ hgood (frameIn_askedAlready ack data (by simp) hasked hseq),
        fun h => arrives false _ hgood (frameIn_asks ack data (by simp) (h.imp_right fun hseq => ⟨rfl, hseq⟩))⟩
  case replay =>
    intro p seq s u hst hu
    have hlinked := linked_iff.2 hst
    exact ⟨fun hkept hcount => exec_linkReplayRequest_linked hlinked (replayFrom_replays hu hkept hcount),
      fun hkept hcount => exec_linkReplayRequest_linked hlinked (replayFrom_relinks hu hkept hcount),
      fun hkept => exec_linkReplayRequest_linked hlinked (replayFrom_nothing hu hkept), exec_partnerSilence_linked hlinked⟩
  case unlinked =>
    intro p seq ack fixed crc fail data s hst
    have hlinked := linked_eq_false hst
    exact ⟨exec_linkFrameArrival_unlinked hlinked, exec_linkReplayRequest_unlinked hlinked, exec_partnerSilence_unlinked hlinked,
      exec_lossOfSignal_unlinked hst⟩
  case drained =>
    intro p s u v hst hreplay hqueue hstore hu hv
    have hends : s.drainGoesOn p = false := by simp [State.drainGoesOn, hst, hreplay, hqueue, hstore]
    rw [exec_drainComplete_ends hends hu]
    refine ⟨fun hdrain => ?_, fun hdrain => ?_, fun hdisable hretrain => ?_⟩
    · rw [hdrain, State.drained]
    · rw [hdrain, State.drained, hv]
    · rw [drained_other hdisable hretrain]
  case signal =>
    refine fun p s => ⟨fun hst hon hcable hpower hremovable => exec_partnerSignal_trains ?_, fun h => exec_partnerSignal_ignored ?_⟩
    · simp [State.signalTrains, State.flag, hst, hon, hcable, hremovable, by simpa using hpower]
    · rcases h with h | h | h | h | h
      · simp [State.signalTrains, h]
      · simp [State.signalTrains, State.flag, h]
      · simp [State.signalTrains, State.flag, h]
      · rw [State.signalTrains, h]; simp
      · simp [State.signalTrains, h]
  case trained =>
    intro p trains ber offer node port spine eq s u v hst hu hv
    refine ⟨exec_portTrainingEnd_down hst hu, fun m lanes hmode => ⟨fun hshort hoffer hber => ?_, fun h => ?_⟩⟩
    · exact exec_portTrainingEnd_trained hst hu hmode (hv _ rfl) (by simp [hshort, hoffer, hber])
    · refine exec_portTrainingEnd_trained hst hu hmode (hv _ rfl) ?_
      rcases h with h | h | h
      · simp [h]
      · simp [h]
      · simp [Nat.not_le.2 h]
  case lowest =>
    intro p trains m g s hm hg htrains
    obtain ⟨m', g', hfound, hle, hmem, hall⟩ := trainMode_lowest hm hg rfl (htrains _ rfl)
    exact ⟨m', g', hfound, hle, hmem, fun x hx => hx ▸ hall⟩

end Sys2Proof.Machine
end

section
/-! Plans and routes (R285–R296, R318): transit packets, the turns of what waits at a port, the plan store, and the base set. -/

namespace Sys2Proof.Machine

open Sys2Proof

/-! ## Transit -/

section Transit

variable {tag : Fin 65536} {ver : Fin 16} {dest src : Fin 32768} {chunk : Bool} {data : Bytes} {s : State}

theorem exec_transitPacket_badChunk (hbad : chunkOk data = false) : exec (.transitPacket tag ver dest src true data) s =
    ok (s.sendPacket .collective tag ver src [fld data 1 1, dest] (chunkReply data 5 (fld data 20 3 % 2 ^ 17))) := by
  show execTransitPacket tag ver dest src true data s = _
  exact if_pos (by simp [hbad])

variable {u : State} (hgood : chunk = true → chunkOk data = true)
include hgood

theorem exec_transitPacket_routed : exec (.transitPacket tag ver dest src chunk data) s =
    ok (match s.routeTo tag ver dest with
      | (u, .port p) => (u.incw F.FAB_TRANSIT_BYTES_BYTES data.length).portSend p tag data
      | (u, .here) => u
      | (u, _) => u.routeMiss) := by
  have hpasses : ¬(chunk && !chunkOk data) = true := by
    rw [Bool.and_eq_true, not_and]; intro h; simp [hgood h]
  show execTransitPacket tag ver dest src chunk data s = _
  refine (if_neg hpasses).trans ?_
  obtain ⟨u, r⟩ := s.routeTo tag ver dest
  cases r <;> rfl

theorem exec_transitPacket_forwarded {p : Nat} (hroute : s.routeTo tag ver dest = (u, .port p)) :
    exec (.transitPacket tag ver dest src chunk data) s =
      ok ((u.incw F.FAB_TRANSIT_BYTES_BYTES data.length).portSend p tag data) := by
  rw [exec_transitPacket_routed hgood, hroute]

theorem exec_transitPacket_here (hroute : s.routeTo tag ver dest = (u, .here)) :
    exec (.transitPacket tag ver dest src chunk data) s = ok u := by
  rw [exec_transitPacket_routed hgood, hroute]

theorem exec_transitPacket_missed (hroute : s.routeTo tag ver dest = (u, .unreachable) ∨ s.routeTo tag ver dest = (u, .absent)) :
    exec (.transitPacket tag ver dest src chunk data) s = ok u.routeMiss := by
  rw [exec_transitPacket_routed hgood]
  rcases hroute with hroute | hroute <;> rw [hroute]

end Transit

/-! ## The turns of what waits at a port -/

section Turns

theorem portFront_nil (s : State) : s.portFront [] = none := rfl

/-- A tag's queue without chunks gives its first frame. -/
theorem tagFront_frame (s : State) {q : PortQueue} {f : Bytes} {fs : List Bytes} (hframes : q.frames = f :: fs)
    (hchunks : q.chunks = []) : s.tagFront q = some (f, { q with frames := fs }) := by
  simp [State.tagFront, hframes, hchunks, drrTurns, drr]

theorem tagFront_empty (s : State) {q : PortQueue} (hframes : q.frames = []) : s.tagFront q = none := by
  simp [State.tagFront, hframes]

variable {α : Type} {quantum : α → Nat} {front : α → Option (Bytes × α)} {k : Nat} {t : Turn} {q rest : α} {f : Bytes}
  {r : List (Turn × α)}

/-- A queue whose frame its deficit covers gives it, and goes on with what is left of the deficit, or leaves when it is empty. -/
theorem drr_gives {d : Nat} (hd : d = if t.on then t.deficit else t.deficit + quantum q) (hfront : front q = some (f, rest))
    (hfits : f.length ≤ d) : drr quantum front (k + 1) ((t, q) :: r) =
      some (f, if (front rest).isNone then r else (⟨d - f.length, true⟩, rest) :: r) := by
  subst hd
  simp only [drr, hfront]
  exact if_pos hfits

/-- A queue whose frame its deficit does not cover keeps the deficit and goes behind the others. -/
theorem drr_passes {d : Nat} (hd : d = if t.on then t.deficit else t.deficit + quantum q) (hfront : front q = some (f, rest))
    (hlong : d < f.length) : drr quantum front (k + 1) ((t, q) :: r) = drr quantum front k (r ++ [(⟨d, false⟩, q)]) := by
  subst hd
  simp only [drr, hfront]
  exact if_neg (Nat.not_le.2 hlong)

theorem portFront_single (s : State) {t : Turn} {q : PortQueue} (hon : t.on = false) (hframes : q.frames = [f])
    (hchunks : q.chunks = []) (hfits : f.length ≤ 4608) : s.portFront [(t, q)] = some (f, []) := by
  simp only [State.portFront, drrTurns, List.length_singleton, Nat.one_mul]
  rw [drr_gives (d := t.deficit + 4608) (by simp [hon]) (tagFront_frame s hframes hchunks) (by omega), tagFront_empty s rfl]
  rfl

/-- Two tags whose frames are as long as the quantum take turns. -/
theorem portFront_first (s : State) {x y : PortQueue} {f' : Bytes} {fs : List Bytes} (hx : x.frames = f :: f' :: fs)
    (hxc : x.chunks = []) (hf : f.length = 4608) :
    s.portFront [(⟨0, false⟩, x), (⟨0, false⟩, y)] = some (f, [(⟨0, true⟩, { x with frames := f' :: fs }), (⟨0, false⟩, y)]) := by
  simp only [State.portFront, drrTurns, List.length_cons, List.length_nil]
  rw [show ∀ n, (0 + 1 + 1) * (n + 2) = (2 * n + 3) + 1 by omega, drr_gives (d := 4608) rfl (tagFront_frame s hx hxc) hf.le,
    tagFront_frame s (q := { x with frames := f' :: fs }) rfl hxc, hf]
  rfl

theorem portFront_second (s : State) {x y : PortQueue} {f' g g' : Bytes} {fs gs : List Bytes} (hx : x.frames = f' :: fs)
    (hxc : x.chunks = []) (hf' : f'.length = 4608) (hy : y.frames = g :: g' :: gs) (hyc : y.chunks = []) (hg : g.length = 4608) :
    s.portFront [(⟨0, true⟩, x), (⟨0, false⟩, y)] = some (g, [(⟨0, true⟩, { y with frames := g' :: gs }), (⟨0, false⟩, x)]) := by
  simp only [State.portFront, drrTurns, List.length_cons, List.length_nil]
  rw [show ∀ n, (0 + 1 + 1) * (n + 2) = (2 * n + 2) + 1 + 1 by omega, drr_passes (d := 0) rfl (tagFront_frame s hx hxc) (by omega),
    List.singleton_append, drr_gives (d := 4608) rfl (tagFront_frame s hy hyc) hg.le,
    tagFront_frame s (q := { y with frames := g' :: gs }) rfl hyc, hg]
  rfl

end Turns

section Serve

variable {s : State} {p : Nat}

theorem servePort_idle (hup : s.portState p ≠ Port.up) (hdraining : s.portState p ≠ Port.draining) : s.servePort p = s :=
  if_pos (by simp [hup, hdraining])

theorem servePort_empty (hqueue : (s.pt p).queue = []) : s.servePort p = s := by
  rw [State.servePort, hqueue, portFront_nil]
  exact ite_self s

variable {f : Bytes} {l : List (Turn × PortQueue)} (hst : s.portState p = Port.up ∨ s.portState p = Port.draining)
  (hfront : s.portFront (s.pt p).queue = some (f, l))
include hst hfront

theorem servePort_front : s.servePort p =
    if (s.pt p).room f.length then (s.setPt p { s.pt p with queue := l }).frameOut p f else s := by
  rw [State.servePort, if_neg, hfront]
  rcases hst with hst | hst <;> simp [hst]

theorem servePort_sends (hroom : (s.pt p).room f.length = true) :
    s.servePort p = (s.setPt p { s.pt p with queue := l }).frameOut p f := by
  rw [servePort_front hst hfront, if_pos hroom]

theorem servePort_full (hroom : (s.pt p).room f.length = false) : s.servePort p = s := by
  rw [servePort_front hst hfront, if_neg (by simp [hroom])]

end Serve

/-- A control message goes before the chunks that wait. -/
theorem put_control {q : PortQueue} {m : Bytes} (hkind : fld m 0 1 ∉ [0, 1, 2]) (hchunks : ∀ f ∈ q.frames, f = []) :
    q.put .collective m = { q with frames := m :: q.frames } := by
  have hcontrol : ¬fld m 0 1 ≤ 2 := by
    simp only [List.mem_cons, List.not_mem_nil, or_false, not_or] at hkind
    omega
  have hnone : ∀ fs : List Bytes, (∀ f ∈ fs, f = []) → fs.takeWhile (!·.isEmpty) = [] ∧ fs.dropWhile (!·.isEmpty) = fs := by
    intro fs hfs
    cases fs with
    | nil => exact ⟨rfl, rfl⟩
    | cons f fs => simp [hfs f (by simp)]
  obtain ⟨htake, hdrop⟩ := hnone q.frames hchunks
  simp [PortQueue.put, hcontrol, htake, hdrop, show (MsgKind.collective == MsgKind.fieldChunk) = false from rfl]

/-! ## The plan store -/

section Store

variable {s u : State} {q : Sub}

theorem exec_fabricPlanInstall_bad (htakes : s.takes q Op.fabricPlanLoad u) (h : 1 < q.p 0 1 ∨ q.p 0 1 = 0 ∧ q.p 2 2 = 0) :
    exec .fabricPlanInstall s = ok (u.longNow q St.badParam 0 []) := by
  show execFabricPlanInstall s = _
  refine (withSub_takes htakes (by simp only [bne_iff_ne]; omega)).trans ?_
  rw [if_pos (by simp only [Bool.or_eq_true, decide_eq_true_eq]; omega)]

section Install

variable (htakes : s.takes q Op.fabricPlanLoad u) (hop : q.p 0 1 = 0) (hjob : q.p 2 2 ≠ 0) {st : Nat}
include htakes hop hjob

theorem exec_fabricPlanInstall_unread (hread : u.planRead (q.p 8 8) = (st, none)) :
    exec .fabricPlanInstall s = ok (u.longNow q st 0 []) := by
  show execFabricPlanInstall s = _
  refine (withSub_takes htakes (by simp [hop])).trans ?_
  rw [if_neg (by simp [hop, hjob]), hread]

theorem exec_fabricPlanInstall_read {pl : Plan} (hread : u.planRead (q.p 8 8) = (st, some pl)) : exec .fabricPlanInstall s =
    ok (if pl.jobTag != q.p 2 2 then u.longNow q St.badParam 0 []
      else if u.storeFull pl then u.longNow q St.badParam 0 []
      else if u.jobChanging || pl.sets.any (fun x => u.setInUse x.jobTag x.ver) then u.longNow q St.busy 0 []
      else (u.installPlan pl).longNow q St.ok 0 pl.digest) := by
  show execFabricPlanInstall s = _
  refine (withSub_takes htakes (by simp [hop])).trans ?_
  rw [if_neg (by simp [hop, hjob]), hread]

end Install

theorem exec_fabricPlanRemove_eq (htakes : s.takes q Op.fabricPlanLoad u) (hop : q.p 0 1 = 1) : exec .fabricPlanRemove s =
    ok (if q.p 2 2 = 0 then u.longNow q St.badParam 0 []
      else if u.jobChanging || u.net.sets.any (fun x => x.jobTag == q.p 2 2 && u.setInUse (q.p 2 2) x.ver)
        then u.longNow q St.busy 0 []
      else (u.removePlan (q.p 2 2)).longNow q St.ok 0 []) := by
  show execFabricPlanRemove s = _
  exact withSub_takes htakes (by simp [hop])

/-- ROUTE_SWAP names a version that is stored for the admitted job. -/
def State.swapKnown (u : State) (q : Sub) : Bool :=
  u.admitted && u.liveTag == q.p 0 2 && u.net.sets.any (fun x => x.jobTag == q.p 0 2 && x.ver == q.p 2 1)

theorem exec_routeSwap_eq (htakes : s.takes q Op.routeSwap u) : exec .routeSwap s =
    ok (if !u.swapKnown q then u.short q St.badParam []
      else if u.flag F.FAB_ROUTE_LIVE_ARMED then u.short q St.busy []
      else (((u.wr F.FAB_ROUTE_LIVE_ARMED 1).wr F.FAB_ROUTE_LIVE_ARMED_VER (q.p 2 1)).wr F.FAB_ROUTE_ARM_STEP_STEP
        u.boundStep).short q St.ok (natLE 8 u.boundStep)) := by
  show execRouteSwap s = _
  refine (withSub_takes htakes rfl).trans ?_
  simp only [State.swapKnown, Bool.not_and, bne]

end Store

theorem removePlan_leaves (s : State) (tag : Nat) : (s.removePlan tag).net.sets = s.net.sets.filter (·.jobTag != tag) ∧
    (s.removePlan tag).tb.relays = s.tb.relays.filter (·.jobTag != tag) ∧ s.keepsMem (s.removePlan tag) := by
  simp only [State.removePlan, State.showStore, State.keepsMem, State.wr_net, State.wr_tb, State.wr_mem, State.wr_poison,
    State.wr_undef, and_self]

/-! ## The base set -/

section Base

variable {here there : Nat} (dim : Nat)

theorem dimPort_same (h : here = there) : dimPort here there dim = none := if_pos (by omega)

theorem dimPort_up (h : (there + 8 - here) % 8 ∈ [1, 2, 3, 4]) : dimPort here there dim = some (2 * dim) := by
  simp only [List.mem_cons, List.not_mem_nil, or_false] at h
  simp only [dimPort]
  rw [if_neg (by omega), if_pos (by omega)]
  rfl

theorem dimPort_down (h : (there + 8 - here) % 8 ∈ [5, 6, 7]) : dimPort here there dim = some (2 * dim + 1) := by
  simp only [List.mem_cons, List.not_mem_nil, or_false] at h
  simp only [dimPort]
  rw [if_neg (by omega), if_neg (by omega)]

end Base

/-- Settles O46. A packet by its route, a port by what waits first at it, a plan by the checks of Table 12.7 in their order, and the
base set by the distance to the destination. -/
theorem plansAndRoutes : Obligations.PlansAndRoutes := by
  refine ⟨fun tag ver dest src chunk data s u hgood => ⟨fun p => exec_transitPacket_forwarded hgood, exec_transitPacket_here hgood,
      exec_transitPacket_missed hgood⟩, fun tag ver dest src data s => exec_transitPacket_badChunk, ?serve, ?turns, ?control, ?install,
    fun s u q st htakes hop hjob => exec_fabricPlanInstall_unread htakes hop hjob,
    fun s u q htakes => exec_fabricPlanInstall_bad htakes, ?remove, ?removed, ?swap,
    fun here there dim _ _ => ⟨dimPort_same dim, dimPort_up dim, dimPort_down dim⟩⟩
  case serve =>
    refine fun p s f t q => ⟨servePort_idle, servePort_empty, fun hst hqueue hon hframes hchunks hfits => ?_⟩
    have hfront : s.portFront (s.pt p).queue = some (f, []) := by rw [hqueue, portFront_single s hon hframes hchunks hfits]
    exact ⟨servePort_sends hst hfront, servePort_full hst hfront⟩
  case turns =>
    rintro s x y f f' g g' fs gs l hx hy hf hf' hg - hxc hyc rfl
    exact ⟨portFront_first s hx hxc hf, portFront_second s rfl hxc hf' hy hyc hg⟩
  case control =>
    intro q m hkind hchunks
    rw [put_control hkind hchunks]
    exact ⟨rfl, rfl⟩
  case install =>
    intro s u q st pl htakes hop hjob hread
    rw [exec_fabricPlanInstall_read htakes hop hjob hread]
    refine ⟨fun htag => ?_, fun htag hroom hidle hunused => ?_, fun htag hfull => ?_, fun htag hroom hbusy => ?_⟩
    · rw [if_pos (by simpa using htag)]
    · rw [if_neg (by simp [htag]), if_neg (by simp [hroom]), if_neg (by rw [hidle, hunused]; decide)]
    · rw [if_neg (by simp [htag]), if_pos hfull]
    · rw [if_neg (by simp [htag]), if_neg (by simp [hroom]), if_pos (Bool.or_eq_true _ _ ▸ hbusy)]
  case remove =>
    intro s u q htakes hop
    rw [exec_fabricPlanRemove_eq htakes hop]
    refine ⟨fun hjob hidle hunused => ?_, fun hjob => ?_, fun hjob hbusy => ?_⟩
    · rw [if_neg hjob, if_neg (by rw [hidle, hunused]; decide)]
    · rw [if_pos hjob]
    · rw [if_neg hjob, if_pos (Bool.or_eq_true _ _ ▸ hbusy)]
  case removed =>
    rintro s u tag rfl
    exact removePlan_leaves s tag
  case swap =>
    intro s u q htakes
    rw [exec_routeSwap_eq htakes]
    refine ⟨fun hadmitted htag hstored harmed => ?_, fun hadmitted htag hstored harmed => ?_, fun hunknown => ?_⟩
    · rw [if_neg (by simp [State.swapKnown, hadmitted, htag, hstored]), if_neg (by simp [State.flag, harmed])]
    · rw [if_neg (by simp [State.swapKnown, hadmitted, htag, hstored]), if_pos (by simp [State.flag, harmed])]
    · rw [if_pos]
      rw [State.swapKnown, Bool.not_eq_true', Bool.and_eq_false_iff, Bool.and_eq_false_iff, beq_eq_false_iff_ne, or_assoc]
      exact hunknown

end Sys2Proof.Machine
end

section
/-! Collective invocations (R299–R302, R310, R314, R320): how one starts, the barrier, the install of a group plan, JOB_BROADCAST. -/

namespace Sys2Proof.Machine

open Sys2Proof

/-! ## Starting an invocation -/

section Residue

variable {u : State}

theorem collResidue_none {res : Nat} (h : u.sealed = false ∨ res = 0) : u.collResidue res = (u, false) := by
  rw [State.collResidue, if_pos]
  rcases h with h | h <;> simp [h]

theorem collResidue_first {res : Nat} (hsealed : u.sealed = true) (hres : res ≠ 0) (htwo : res ≠ 2) : u.collResidue res =
    ((u.ev F.COLL_EVENTS_RESIDUE_RETRY).inc F.COLL_COUNTS_RESIDUE_RETRIES, false) := by
  rw [State.collResidue, if_neg (by simp [hsealed, hres]), if_neg htwo]

theorem collResidue_second (hsealed : u.sealed = true) : u.collResidue 2 =
    (((u.ev F.COLL_EVENTS_RESIDUE_RETRY).inc F.COLL_COUNTS_RESIDUE_RETRIES).ev F.COLL_EVENTS_RESIDUE_FAIL, true) := by
  rw [State.collResidue, if_neg (by simp [hsealed]), if_pos rfl]

end Residue

section Run

variable {g op res : Nat} {i j : CInv} {b : Bytes} {s u v w : State}

/-- A slot's invocation that a row does not start: it runs, is of another operation, or waits for the other member of a pair. -/
def State.notStarted (s : State) (op : Nat) (i : CInv) : Bool :=
  i.running || cdOp i.desc != op || !(i.bcast.isSome || !s.sealed || i.entries.length = 2)

/-- The staging region of the invocation, left undefined in each spire it lies in. -/
def State.stagingLost (s : State) (i : CInv) : State :=
  (bitList (cdMask i.desc) 18).foldl (fun s n => s.scramble (scratchAddr (18 * i.terr + n) (cdOff i.desc)) (cdLen i.desc)) s

theorem collRun_idle (h : (s.cslot g).cur = none ∨ (s.cslot g).live = none ∨
    ∃ i, (s.cslot g).cur = some i ∧ s.notStarted op i = true) : s.collRun g op res = s := by
  unfold State.collRun
  dsimp only
  split
  · rename_i i' b hcur hlive
    rw [hcur, hlive] at h
    rcases h with h | h | ⟨i, h, hnot⟩
    · exact absurd h (by simp)
    · exact absurd h (by simp)
    · cases h
      exact if_pos hnot
  · rfl

variable (hcur : (s.cslot g).cur = some i) (hlive : (s.cslot g).live = some b) (hstarts : s.notStarted op i = false)
  (hu : u = s.stagingLost i) (hbegin : v.cBegin g b { i with running := true } = (j, w))
include hcur hlive hstarts hu hbegin

theorem collRun_begun {fail : Bool} (hres : u.collResidue res = (v, fail)) : s.collRun g op res =
    if fail then (w.setCur g j).collAbort g St.residueMismatch (gpMe b) none else ((w.setCur g j).collHeld g).collCheck g := by
  subst hu
  rw [State.stagingLost] at hres
  rw [State.collRun]
  simp only [hcur, hlive]
  refine (if_neg (ne_true_of_eq_false hstarts)).trans ?_
  simp only [hres, hbegin]

theorem collRun_starts (hres : u.collResidue res = (v, false)) : s.collRun g op res = ((w.setCur g j).collHeld g).collCheck g :=
  collRun_begun hcur hlive hstarts hu hbegin hres

theorem collRun_fails (hres : u.collResidue res = (v, true)) :
    s.collRun g op res = (w.setCur g j).collAbort g St.residueMismatch (gpMe b) none :=
  collRun_begun hcur hlive hstarts hu hbegin hres

end Run

/-! ## The barrier -/

section Barrier

variable {g : Fin 16} {others : Bool} {s u : State}

theorem exec_collectiveBarrier_none (hu : u = s.collRun g 6 0) (h : (u.cslot g).cur = none ∨ (u.cslot g).live = none) :
    exec (.collectiveBarrier g others) s = ok u := by
  subst hu
  show execCollectiveBarrier g others s = _
  simp only [execCollectiveBarrier]
  split
  · rename_i hcur hlive
    rw [hcur, hlive] at h
    simp at h
  · rfl

variable {i : CInv} {b : Bytes} (hu : u = s.collRun g 6 0) (hcur : (u.cslot g).cur = some i) (hlive : (u.cslot g).live = some b)
include hu hcur hlive

theorem exec_collectiveBarrier_current : exec (.collectiveBarrier g others) s =
    if (decide (cdOp i.desc = 6) && i.running && (others || decide (gpMembers b = 1))) = true then
      ok ((i.entries.foldl (fun s e => s.entryReady e.1 e.2 St.ok) (u.endInv g i St.ok)).nextInv g)
    else ok u := by
  subst hu
  show execCollectiveBarrier g others s = _
  simp only [execCollectiveBarrier, hcur, hlive]

theorem exec_collectiveBarrier_met (hop : cdOp i.desc = 6) (hrunning : i.running = true) (h : others = true ∨ gpMembers b = 1) :
    exec (.collectiveBarrier g others) s =
      ok ((i.entries.foldl (fun s e => s.entryReady e.1 e.2 St.ok) (u.endInv g i St.ok)).nextInv g) := by
  rw [exec_collectiveBarrier_current hu hcur hlive, if_pos (by simpa [hop, hrunning] using h)]

theorem exec_collectiveBarrier_waits (h : cdOp i.desc ≠ 6 ∨ i.running = false ∨ others = false ∧ gpMembers b ≠ 1) :
    exec (.collectiveBarrier g others) s = ok u := by
  rw [exec_collectiveBarrier_current hu hcur hlive, if_neg]
  rcases h with h | h | ⟨hothers, hmembers⟩
  · simp [h]
  · simp [h]
  · simp [hothers, hmembers]

end Barrier

/-! ## The install of a group plan -/

section Install

/-- A slot that takes no plan: one is armed, or a JOB_BROADCAST runs on it. -/
def State.slotTaken (u : State) (slot : Nat) : Bool :=
  (u.cslot slot).armed.isSome || (match (u.cslot slot).cur with | some i => i.bcast.isSome | none => false)

theorem slotTaken_iff {u : State} {slot : Nat} : u.slotTaken slot = true ↔
    (u.cslot slot).armed ≠ none ∨ ∃ i : CInv, (u.cslot slot).cur = some i ∧ i.bcast ≠ none := by
  rw [State.slotTaken, Bool.or_eq_true, Option.isSome_iff_ne_none]
  cases (u.cslot slot).cur with
  | none => simp
  | some i => simp [Option.isSome_iff_ne_none]

/-- What the install of a plan b does once its checks have found an error code. -/
def State.installChecked (u : State) (slot : Nat) (r : Nat × Bytes) : State :=
  let x := u.cslot slot
  let code := if r.1 = 0 && u.slotTaken slot then 6 else r.1
  let s := u.wr F.COLL_INSTALL_ERROR code
  if code != 0 then s
  else if !s.admitted then s.groupLive slot r.2
  else (s.setSlotC slot { x with armed := some (r.2, s.boundStep) }).wr F.COLL_INSTALL_STEP_STEP s.boundStep

theorem exec_collInstallArm_checked {slot : Fin 16} {addr : Fin 281474976710656} {r : Nat × Bytes} {s u : State}
    (hu : u = (s.wr F.COLL_INSTALL_SLOT slot).wr F.COLL_INSTALL_ADDR (addr.val / 64))
    (hcheck : u.groupCheck (addr.val / 64 * 64) (some slot.val) (match u.job with | some j => some j.jobTag | none => none) = r) :
    exec (.collInstallArm slot addr) s = ok (u.installChecked slot r) := by
  subst hu hcheck
  show execCollInstallArm slot addr s = _
  rfl

variable {u : State} {slot : Nat} {b : Bytes}

theorem installChecked_error {code : Nat} (h : code ≠ 0) : u.installChecked slot (code, b) = u.wr F.COLL_INSTALL_ERROR code := by
  simp [State.installChecked, h]

theorem installChecked_taken (h : u.slotTaken slot = true) : u.installChecked slot (0, b) = u.wr F.COLL_INSTALL_ERROR 6 := by
  simp [State.installChecked, h]

variable {v : State} (hfree : u.slotTaken slot = false) (hv : v = u.wr F.COLL_INSTALL_ERROR 0)
include hfree hv

theorem installChecked_live (hjob : v.admitted = false) : u.installChecked slot (0, b) = v.groupLive slot b := by
  subst hv
  simp [State.installChecked, hfree, hjob]

theorem installChecked_armed (hjob : v.admitted = true) : u.installChecked slot (0, b) =
    (v.setSlotC slot { u.cslot slot with armed := some (b, v.boundStep) }).wr F.COLL_INSTALL_STEP_STEP v.boundStep := by
  subst hv
  simp [State.installChecked, hfree, hjob]

end Install

/-! ## JOB_BROADCAST -/

section Broadcast

variable {s u : State} {q : Sub} (htakes : s.takes q Op.jobBroadcast u)
include htakes

theorem exec_jobBroadcast_busy (h : u.bcastCheck q = St.busy) : exec .jobBroadcast s = ok (u.refuse q St.busy) := by
  show execJobBroadcast s = _
  refine (withSub_takes htakes rfl).trans ?_
  rw [if_pos (by simp [h]), h]

theorem exec_jobBroadcast_fails (hbusy : u.bcastCheck q ≠ St.busy) (h : u.bcastCheck q ≠ 0) :
    exec .jobBroadcast s = ok (u.longNow q (u.bcastCheck q) 0 []) := by
  show execJobBroadcast s = _
  refine (withSub_takes htakes rfl).trans ?_
  rw [if_neg (by simpa using hbusy), if_pos (by simpa using h)]

theorem exec_jobBroadcast_starts {v : State} {h : Nat} {b : Bytes} (hcheck : u.bcastCheck q = 0)
    (hlive : (u.cslot (q.p 0 1)).live = some b) (haccept : u.accept q = (v, h)) :
    exec .jobBroadcast s = ok ((v.setSlotC (q.p 0 1) { v.cslot (q.p 0 1) with
      cur := some (CInv.fresh (2 ^ 40 - 1) 0xFF (gpTerrace b) [] (bcastDesc q) b
        (some ⟨h, if q.p 2 2 = 0 then 200 else q.p 2 2, q.deadline, q.p 40 8, [], 0⟩))
      aborted := (v.cslot (q.p 0 1)).aborted.filter (· != bcastStamp) }).collRun (q.p 0 1) 1 0) := by
  show execJobBroadcast s = _
  refine (withSub_takes htakes rfl).trans ?_
  rw [if_neg (by rw [hcheck]; decide), if_neg (by rw [hcheck]; decide)]
  simp only [haccept, hlive, Option.getD_some, bcastStamp]

end Broadcast

/-- Settles O48. A row starts what waits for it, and a second residue mismatch ends it; the barrier by whether the others have
started; a plan by what its checks found; JOB_BROADCAST by its own checks. -/
theorem collectiveInvocationsRun : Obligations.CollectiveInvocationsRun := by
  refine ⟨fun g res s => ?rows, ?run, ?idle, ?barrier, ?noBarrier, ?install, fun w s => ?weight, fun s u q htakes =>
    ⟨exec_jobBroadcast_busy htakes, exec_jobBroadcast_fails htakes, fun v h b => exec_jobBroadcast_starts htakes⟩, ?reduce⟩
  case rows =>
    exact ⟨show execBroadcast g s = _ from rfl, show execReduce g res s = _ from rfl, show execAllreduce g res s = _ from rfl,
      show execAllgather g s = _ from rfl, show execReduceScatter g res s = _ from rfl⟩
  case weight =>
    show execCollFieldWeightWrite w s = _
    rfl
  case run =>
    intro g op res i j b s u v w hcur hlive hwaits hop hready hu hnone hfirst hsecond hbegin
    have hstarts : s.notStarted op i = false := by
      rw [State.notStarted, hwaits, hop]
      rcases hready with h | h | h <;> simp [h]
    refine ⟨fun h => collRun_starts hcur hlive hstarts hu hbegin ?_, fun hsealed hres => collRun_fails hcur hlive hstarts hu hbegin ?_⟩
    · by_cases hquiet : u.sealed = false ∨ res = 0
      · rw [collResidue_none hquiet, hnone hquiet]
      · rw [not_or, Bool.not_eq_false] at hquiet
        obtain ⟨hsealed, hres⟩ := hquiet
        have htwo : res ≠ 2 := h.resolve_left (by simp [hsealed])
        rw [collResidue_first hsealed hres htwo, hfirst hsealed hres htwo]
    · rw [hres, collResidue_second hsealed, hsecond hsealed hres]
  case idle =>
    refine fun g op res s h => collRun_idle (h.imp_right (Or.imp_right ?_))
    rintro ⟨i, hcur, hnot⟩
    refine ⟨i, hcur, ?_⟩
    rw [State.notStarted]
    rcases hnot with h | h | ⟨hbcast, hsealed, hlength⟩
    · simp [h]
    · simp [h]
    · simp [hbcast, hsealed, hlength]
  case barrier =>
    intro g others i b s u hu hcur hlive hop hrunning
    exact ⟨exec_collectiveBarrier_met hu hcur hlive hop hrunning,
      fun hothers hmembers => exec_collectiveBarrier_waits hu hcur hlive (.inr (.inr ⟨hothers, hmembers⟩))⟩
  case noBarrier =>
    rintro g others s u hu (h | h | ⟨i, hcur, h⟩)
    · exact exec_collectiveBarrier_none hu (.inl h)
    · exact exec_collectiveBarrier_none hu (.inr h)
    · cases hlive : (u.cslot g).live with
      | none => exact exec_collectiveBarrier_none hu (.inr hlive)
      | some b => exact exec_collectiveBarrier_waits hu hcur hlive (h.imp_right .inl)
  case install =>
    intro slot addr code b s u hu hcheck
    rw [exec_collInstallArm_checked hu hcheck]
    refine ⟨fun hcode => by rw [installChecked_error hcode], ?_, ?_⟩
    · rintro rfl harmed hcur v hv
      have hfree : u.slotTaken slot = false := by
        rw [← Bool.not_eq_true, slotTaken_iff, not_or, not_not]
        exact ⟨harmed, fun ⟨i, hi, hbcast⟩ => hbcast (hcur i hi)⟩
      exact ⟨fun hjob => by rw [installChecked_live hfree hv hjob], fun hjob => by rw [installChecked_armed hfree hv hjob]⟩
    · rintro rfl htaken
      rw [installChecked_taken (slotTaken_iff.2 htaken)]
  case reduce =>
    rintro d a b x y rfl rfl
    exact ⟨rfl, rfl⟩

end Sys2Proof.Machine
end

section
/-! The messages of collectives (R310–R312, R315, R321, R322): data, TOKEN and ABORT, the answers to chunks, and JOB_BROADCAST's repair. -/

namespace Sys2Proof.Machine

open Sys2Proof

/-! ## Data chunks, tokens and aborts -/

section Arrival

variable {n : Fin 32768} {p : Bytes} {res : Fin 3} {s : State}

/-- What a data chunk whose check holds does, once its combining has met residue result `res`. -/
theorem exec_dataChunk_checked {u : State} {fail : Bool} (hkind : fld p 0 1 = 0) (hok : chunkOk p = true)
    (hres : s.collResidue (if s.combines (fld p 1 1 % 16) p then res.val else 0) = (u, fail)) : exec (.dataChunk n p res) s =
      ok (if fail then u.collAbort (fld p 1 1 % 16) St.residueMismatch (gpMe ((s.cslot (fld p 1 1 % 16)).live.getD [])) none
        else u.collMsg false n p) := by
  show execDataChunk n p res s = _
  simp only [execDataChunk, hkind, hok, hres]
  rfl

theorem exec_dataChunk_damaged (hkind : fld p 0 1 = 0) (hok : chunkOk p = false) : exec (.dataChunk n p res) s =
    ok (s.sendLive .collective n [fld p 1 1 % 16] (chunkReply p 5 (gpMe ((s.cslot (fld p 1 1 % 16)).live.getD [])))) := by
  show execDataChunk n p res s = _
  simp only [execDataChunk, hkind, hok]
  rfl

theorem exec_dataChunk_uncombined (hkind : fld p 0 1 = 0) (hok : chunkOk p = true)
    (h : s.sealed = false ∨ res.val = 0 ∨ s.combines (fld p 1 1 % 16) p = false) :
    exec (.dataChunk n p res) s = ok (s.collMsg false n p) := by
  refine (exec_dataChunk_checked hkind hok (collResidue_none ?_)).trans (congrArg ok (if_neg Bool.false_ne_true))
  rcases h with h | h | h
  · exact .inl h
  · exact .inr (by simp [h])
  · exact .inr (by simp [h])

theorem exec_dataChunk_combined {u : State} (hkind : fld p 0 1 = 0) (hok : chunkOk p = true)
    (hcombines : s.combines (fld p 1 1 % 16) p = true) (hres : s.collResidue res.val = (u, false)) :
    exec (.dataChunk n p res) s = ok (u.collMsg false n p) := by
  have hres' : s.collResidue (if s.combines (fld p 1 1 % 16) p then res.val else 0) = (u, false) := by rwa [if_pos hcombines]
  exact (exec_dataChunk_checked hkind hok hres').trans (congrArg ok (if_neg Bool.false_ne_true))

theorem exec_dataChunk_mismatch {u : State} (hkind : fld p 0 1 = 0) (hok : chunkOk p = true)
    (hcombines : s.combines (fld p 1 1 % 16) p = true) (hres : s.collResidue res.val = (u, true)) : exec (.dataChunk n p res) s =
      ok (u.collAbort (fld p 1 1 % 16) St.residueMismatch (gpMe ((s.cslot (fld p 1 1 % 16)).live.getD [])) none) := by
  have hres' : s.collResidue (if s.combines (fld p 1 1 % 16) p then res.val else 0) = (u, true) := by rwa [if_pos hcombines]
  exact (exec_dataChunk_checked hkind hok hres').trans (congrArg ok (if_pos rfl))

theorem exec_dataChunk_foreign (hkind : fld p 0 1 ≠ 0) : exec (.dataChunk n p res) s = ok s :=
  show execDataChunk n p res s = _ from if_pos (by simpa using hkind)

theorem exec_token_damaged (hkind : fld p 0 1 = 2) (hok : chunkOk p = false) : exec (.token n p) s =
    ok (s.sendLive .collective n [fld p 1 1 % 16] (chunkReply p 5 (gpMe ((s.cslot (fld p 1 1 % 16)).live.getD [])))) := by
  show execToken n p s = _
  simp only [execToken, hkind, hok]
  rfl

theorem exec_token_used (hkind : fld p 0 1 = 2) (hok : chunkOk p = true) : exec (.token n p) s = ok (s.collMsg false n p) := by
  show execToken n p s = _
  simp only [execToken, hkind, hok]
  rfl

theorem exec_token_foreign (hkind : fld p 0 1 ≠ 2) : exec (.token n p) s = ok s :=
  show execToken n p s = _ from if_pos (by simpa using hkind)

theorem exec_abort_used (hkind : fld p 0 1 = 6) (hok : chunkOk p = true) : exec (.abort n p) s = ok (s.collMsg false n p) :=
  show execAbort n p s = _ from if_neg (by simp [hkind, hok])

theorem exec_abort_dropped (h : fld p 0 1 ≠ 6 ∨ chunkOk p = false) : exec (.abort n p) s = ok s :=
  show execAbort n p s = _ from if_pos (by simpa using h)

end Arrival

/-! ## What an invocation does with a message -/

section Use

variable {again : Bool} {n g : Nat} {p b : Bytes} {i j : CInv} {s u : State} (hg : g = fld p 1 1 % 16)
  (hlive : (s.cslot g).live = some b)
include hg hlive

theorem collMsg_running (hstamp : s.stampOf g p = 0) (hcur : (s.cslot g).cur = some i) (hrunning : i.running = true) :
    s.collMsg again n p = if fld p 0 1 = 6 then s.useAbort g p n else
      let r := if fld p 0 1 = 2 then s.useToken g b i p else s.useData again g b i p
      (r.2.setCur g r.1).collCheck g := by
  subst hg
  simp only [State.collMsg, hlive, hstamp, hcur, hrunning]
  rfl

theorem collMsg_joins (hstamp : s.stampOf g p = 0) (hcur : (s.cslot g).cur = some i) (hrunning : i.running = true)
    (hkind : fld p 0 1 ≠ 6) (huse : (if fld p 0 1 = 2 then s.useToken g b i p else s.useData again g b i p) = (j, u)) :
    s.collMsg again n p = (u.setCur g j).collCheck g := by
  rw [collMsg_running hg hlive hstamp hcur hrunning, if_neg hkind, huse]

theorem collMsg_waits (hstamp : s.stampOf g p = 0) (hcur : (s.cslot g).cur = some i) (hrunning : i.running = false) :
    s.collMsg again n p = s.holdMsg again g n p := by
  subst hg
  simp only [State.collMsg, hlive, hstamp, hcur, hrunning]
  rfl

theorem collMsg_early (hstamp : s.stampOf g p = 1) : s.collMsg again n p = s.holdMsg again g n p := by
  subst hg
  simp only [State.collMsg, hlive, hstamp]

theorem collMsg_stale (hstamp : s.stampOf g p = 2) : s.collMsg again n p =
    if fld p 0 1 = 0 then s.ev F.COLL_EVENTS_STALE_CHUNK
    else if fld p 0 1 = 6 then s.passAbort g (neighbours (planLinks b) (gpMe b) (some n)) p else s := by
  subst hg
  simp only [State.collMsg, hlive, hstamp]

end Use

section Data

variable {held final : Bool} {g l k n key : Nat} {b p : Bytes} {i : CInv} {s : State}
  (hlink : linkOf i.links (fld p 20 3 % 2 ^ 17) true (!gpTree b) = some l) (hk : k = fld p 12 4) (hfinal : final = bit (fld p 2 1) 1)
  (hn : n = fld p 16 4 % 2 ^ 19) (hkey : key = 2 ^ 40 * l + k * 2 + b2n final)
include hlink hk hfinal hkey

theorem useData_again (hused : i.used.contains key = true) :
    s.useData held g b i p = (i, if held then s else s.answer g b i l k final 3) := by
  subst hk hfinal hkey
  simp only [State.useData, hlink]
  exact if_pos hused

include hn

theorem useData_full (hused : i.used.contains key = false) (hlen : n = (cChunkOf b i.desc k).2.2) (hpos : n ≠ 0)
    (hfull : 4 ≤ i.occupied l) : s.useData held g b i p = (i, s) := by
  subst hk hfinal hn hkey
  simp only [State.useData, hlink]
  refine (if_neg (ne_true_of_eq_false hused)).trans ((if_neg ?_).trans (if_pos hfull))
  simpa [← hlen] using hpos

theorem useData_incomplete (hused : i.used.contains key = false) (hlen : n = (cChunkOf b i.desc k).2.2) (hpos : n ≠ 0)
    (hreduces : cdReduces i.desc = true) (hlast : final = true) (hcontrib : fld p 9 3 % 2 ^ 17 ≠ gpMembers b) :
    s.useData held g b i p = (i, s) := by
  by_cases hfull : 4 ≤ i.occupied l
  · exact useData_full hlink hk hfinal hn hkey hused hlen hpos hfull
  subst hk hn hkey
  rw [hfinal] at hused hlast
  simp only [State.useData, hlink]
  refine (if_neg (ne_true_of_eq_false hused)).trans ((if_neg ?_).trans ((if_neg hfull).trans ((if_pos ?_).trans (if_pos ?_))))
  · simpa [← hlen] using hpos
  · simp [hreduces, hlast]
  · simpa using Or.inl hcontrib

end Data

section Verify

variable {g k : Nat} {b t : Bytes} {i j : CInv} {x : CPart} {s : State} (hx : mfind i.finals k = some x)
  (ht : mfind i.tokens k = some t) (hj : j = { i with finals := mdel i.finals k, tokens := mdel i.tokens k })
include hx ht hj

theorem cVerify_matches (h : leNat t = crc64 (x.data ++ x.mask)) : s.cVerify g b i k =
    ((s.answer g b j x.link k true 3).answer g b j x.link k true 4).cFinish g b
      { j with used := sinsert j.used (2 ^ 40 * x.link + k * 2 + 1) } k x (some x.link) := by
  subst hj
  simp only [State.cVerify, hx, ht]
  exact if_pos (by simp [h])

theorem cVerify_differs (h : leNat t ≠ crc64 (x.data ++ x.mask)) : s.cVerify g b i k = (j, s.answer g b j x.link k true 5) := by
  subst hj
  simp only [State.cVerify, hx, ht]
  exact if_neg (by simp [h])

end Verify

/-! ## ACK, CREDIT and REFETCH -/

section Answers

variable {n : Fin 32768} {p b : Bytes} {g l : Nat} {i j : CInv} {s u : State}

theorem chunkOk_of_ctrlInv (hinv : s.ctrlInv p = some (g, b, i)) : chunkOk p = true := by
  rw [State.ctrlInv] at hinv
  split at hinv
  · split at hinv
    · rename_i h
      simp only [Bool.and_eq_true] at h
      exact h.1.1
    · simp at hinv
  · simp at hinv

theorem exec_chunkAck_idle (hinv : s.ctrlInv p = none) : exec (.chunkAck false n p) s = ok s := by
  show execChunkAck false n p s = _
  simp only [execChunkAck, hinv]
  exact ite_self _

theorem exec_credit_idle (hinv : s.ctrlInv p = none) : exec (.credit p) s = ok s := by
  show execCredit p s = _
  simp only [execCredit, hinv]
  exact ite_self _

theorem exec_refetch_idle (hinv : s.ctrlInv p = none) : exec (.refetch false n p) s = ok s := by
  show execRefetch false n p s = _
  simp only [execRefetch, hinv]
  exact ite_self _

section Acked

variable (hinv : s.ctrlInv p = some (g, b, i)) (hlink : linkOf i.links (fld p 20 3 % 2 ^ 17) false (!gpTree b) = some l)
include hinv hlink

theorem exec_chunkAck_frees (hkind : fld p 0 1 = 3) (hany : (i.link l).out.any (fun c => c.key == ctrlKey p) = true)
    (hpump : pumpLink g l 8 { i.setLink l { i.link l with out := (i.link l).out.filter (fun c => c.key != ctrlKey p) } with
      acked := sinsert i.acked (2 ^ 40 * l + ctrlKey p) } s = (j, u)) :
    exec (.chunkAck false n p) s = ok ((u.setCur g j).collCheck g) := by
  show execChunkAck false n p s = _
  simp only [execChunkAck, hinv, hlink]
  refine (if_neg (by simp [hkind, chunkOk_of_ctrlInv hinv])).trans ?_
  dsimp only [CInv.setLink] at hpump ⊢
  rw [hpump, hany]
  rfl

theorem exec_chunkAck_unknown (hkind : fld p 0 1 = 3) (hany : (i.link l).out.any (fun c => c.key == ctrlKey p) = false) :
    exec (.chunkAck false n p) s = ok s := by
  show execChunkAck false n p s = _
  simp only [execChunkAck, hinv, hlink]
  refine (if_neg (by simp [hkind, chunkOk_of_ctrlInv hinv])).trans ?_
  rw [hany]
  rfl

theorem exec_credit_sends (hkind : fld p 0 1 = 4)
    (hpump : pumpLink g l 8 (i.setLink l { i.link l with credits := min 4 ((i.link l).credits + 1) }) s = (j, u)) :
    exec (.credit p) s = ok (u.setCur g j) := by
  show execCredit p s = _
  simp only [execCredit, hinv, hlink, hpump]
  exact if_neg (by simp [hkind])

end Acked

section Refetched

variable {c : CChunk} (hinv : s.ctrlInv p = some (g, b, i)) (hholder : i.holder n (ctrlKey p) = some l) (hkind : fld p 0 1 = 5)
  (hfind : (i.link l).out.find? (fun c => c.key == ctrlKey p) = some c)
include hinv hholder hkind hfind

theorem exec_refetch_fails (h : 3 ≤ c.refetches) :
    exec (.refetch false n p) s = ok (s.collAbort g St.chunkUnrecoverable (gpMe b) none) := by
  show execRefetch false n p s = _
  simp only [execRefetch, hinv, hholder, hfind]
  exact (if_neg (by simp [hkind, chunkOk_of_ctrlInv hinv])).trans (if_pos h)

theorem exec_refetch_sends (h : c.refetches < 3) {x : CLink} (hx : x = { i.link l with
      out := (i.link l).out.map (fun y => if y.key == c.key then { y with refetches := y.refetches + 1 } else y) }) :
    exec (.refetch false n p) s = ok ((((s.inc F.COLL_COUNTS_REFETCHES).ev F.COLL_EVENTS_REFETCH).setCur g
      { i.setLink l x with refetches := i.refetches + 1 }).resendChunk g x c) := by
  subst hx
  show execRefetch false n p s = _
  simp only [execRefetch, hinv, hholder, hfind]
  exact (if_neg (by simp [hkind, chunkOk_of_ctrlInv hinv])).trans (if_neg (Nat.not_le_of_lt h))

end Refetched

end Answers

section Fields

variable {n : Fin 32768} {p : Bytes} {f k : FieldSend} {c : CChunk} {s u : State}

theorem exec_fieldAck_none (hfield : s.fieldOf n p = none) : exec (.chunkAck true n p) s = ok s := by
  show execChunkAck true n p s = _
  simp only [execChunkAck, hfield]
  exact ite_self _

theorem exec_fieldRefetch_none (hfield : s.fieldOf n p = none) : exec (.refetch true n p) s = ok s := by
  show execRefetch true n p s = _
  simp only [execRefetch, hfield]
  exact ite_self _

variable (hfield : s.fieldOf n p = some f) (hok : chunkOk p = true)
include hfield hok

theorem exec_fieldAck_frees (hkind : fld p 0 1 = 3) (hpump : pumpField 8 { f with
      out := f.out.filter (fun c => c.key != fld p 12 4), acked := sinsert f.acked (fld p 12 4) } s = (k, u)) :
    exec (.chunkAck true n p) s = ok (if k.acked.length = k.chunks then u.endField k St.ok else u.putField k) := by
  show execChunkAck true n p s = _
  simp only [execChunkAck, hfield, hpump]
  exact if_neg (by simp [hkind, hok])

variable (hkind : fld p 0 1 = 5) (hfind : f.out.find? (fun c => c.key == fld p 12 4) = some c)
include hkind hfind

theorem exec_fieldRefetch_fails (h : 3 ≤ c.refetches) :
    exec (.refetch true n p) s = ok (s.endField f St.chunkUnrecoverable) := by
  show execRefetch true n p s = _
  simp only [execRefetch, hfield, hfind]
  exact (if_neg (by simp [hkind, hok])).trans (if_pos h)

theorem exec_fieldRefetch_sends (h : c.refetches < 3)
    (hk : k = { f with out := f.out.map (fun y => if y.key == c.key then { y with refetches := y.refetches + 1 } else y) }) :
    exec (.refetch true n p) s = ok ((((s.inc F.COLL_COUNTS_REFETCHES).ev F.COLL_EVENTS_REFETCH).putField k).fieldChunk k c.key
      (retryMsg c.msg)) := by
  subst hk
  show execRefetch true n p s = _
  simp only [execRefetch, hfield, hfind]
  exact (if_neg (by simp [hkind, hok])).trans (if_neg (Nat.not_le_of_lt h))

end Fields

/-! ## Chunks without an answer -/

section Resend

variable {g : Fin 16} {l : Fin 17} {e : Fin 4096} {k : Nat} {s : State}

theorem exec_chunkResend_idle (hcur : (s.cslot g).cur = none) : exec (.chunkResend false g l e k) s = ok s := by
  show execChunkResend false g l e k s = _
  simp only [execChunkResend, hcur]
  rfl

theorem exec_fieldResend_idle (hsend : s.coll.sends.find? (fun f => f.terr == g.val && f.entry == e.val) = none) :
    exec (.chunkResend true g l e k) s = ok s := by
  show execChunkResend true g l e k s = _
  simp only [execChunkResend, hsend]
  rfl

section Link

variable {i : CInv} (hcur : (s.cslot g).cur = some i)
include hcur

theorem exec_chunkResend_unknown (hfind : (i.link l).out.find? (fun c => c.key == k) = none) :
    exec (.chunkResend false g l e k) s = ok s := by
  show execChunkResend false g l e k s = _
  simp only [execChunkResend, hcur, hfind]
  rfl

theorem exec_chunkResend_known {c : CChunk} (hfind : (i.link l).out.find? (fun c => c.key == k) = some c) {x : CLink}
    (hx : x = { i.link l with
      out := (i.link l).out.map (fun y => if y.key == c.key then { y with resends := y.resends + 1 } else y) }) :
    exec (.chunkResend false g l e k) s =
      if 3 ≤ c.resends then ok s else ok ((s.setCur g (i.setLink l x)).resendChunk g x c) := by
  subst hx
  show execChunkResend false g l e k s = _
  simp only [execChunkResend, hcur, hfind]
  rfl

end Link

section Field

variable {f h : FieldSend} (hsend : s.coll.sends.find? (fun f => f.terr == g.val && f.entry == e.val) = some f)
include hsend

theorem exec_fieldResend_unknown (hfind : f.out.find? (fun c => c.key == k) = none) :
    exec (.chunkResend true g l e k) s = ok s := by
  show execChunkResend true g l e k s = _
  simp only [execChunkResend, hsend, hfind]
  rfl

theorem exec_fieldResend_known {c : CChunk} (hfind : f.out.find? (fun c => c.key == k) = some c)
    (hh : h = { f with out := f.out.map (fun y => if y.key == c.key then { y with resends := y.resends + 1 } else y) }) :
    exec (.chunkResend true g l e k) s =
      if 3 ≤ c.resends then ok s else ok ((s.putField h).fieldChunk h c.key (retryMsg c.msg)) := by
  subst hh
  show execChunkResend true g l e k s = _
  simp only [execChunkResend, hsend, hfind]
  rfl

end Field

theorem exec_chunkAckTimeout_link {i : CInv} {b : Bytes} (hcur : (s.cslot g).cur = some i) (hlive : (s.cslot g).live = some b) :
    exec (.chunkAckTimeout false g l e) s =
      if (i.link l).out.isEmpty then ok s else ok (s.collAbort g St.targetDead (gpMe b) none) := by
  show execChunkAckTimeout false g l e s = _
  simp only [execChunkAckTimeout, hcur, hlive]
  rfl

theorem exec_chunkAckTimeout_idle (hcur : (s.cslot g).cur = none) : exec (.chunkAckTimeout false g l e) s = ok s := by
  show execChunkAckTimeout false g l e s = _
  simp only [execChunkAckTimeout, hcur]
  rfl

theorem exec_fieldAckTimeout_ends {f : FieldSend}
    (hsend : s.coll.sends.find? (fun f => f.terr == g.val && f.entry == e.val && !f.out.isEmpty) = some f) :
    exec (.chunkAckTimeout true g l e) s = ok (s.endField f St.targetDead) := by
  show execChunkAckTimeout true g l e s = _
  simp only [execChunkAckTimeout, hsend]
  rfl

theorem exec_fieldAckTimeout_idle
    (hsend : s.coll.sends.find? (fun f => f.terr == g.val && f.entry == e.val && !f.out.isEmpty) = none) :
    exec (.chunkAckTimeout true g l e) s = ok s := by
  show execChunkAckTimeout true g l e s = _
  simp only [execChunkAckTimeout, hsend]
  rfl

end Resend

/-! ## JOB_BROADCAST -/

section Broadcast

variable {p b : Bytes} {g : Nat} {i : CInv} {c : CBcast} {s : State}

theorem exec_done_foreign (hkind : fld p 0 1 ≠ 7) : exec (.done p) s = ok s :=
  show execDone p s = _ from if_pos (by simpa using hkind)

theorem exec_lost_foreign (hkind : fld p 0 1 ≠ 9) : exec (.lost p) s = ok s :=
  show execLost p s = _ from if_pos (by simpa using hkind)

section Unrun

variable (hbcast : s.bcastOf p = none)
include hbcast

theorem exec_done_forwards (hkind : fld p 0 1 = 7) : exec (.done p) s = ok (s.towardsRoot p) := by
  show execDone p s = _
  simp only [execDone, hkind, hbcast]
  rfl

theorem exec_lost_forwards (hkind : fld p 0 1 = 9) : exec (.lost p) s = ok (s.towardsRoot p) := by
  show execLost p s = _
  simp only [execLost, hkind, hbcast]
  rfl

theorem exec_adopt_idle : exec (.adopt p) s = ok s := by
  show execAdopt p s = _
  simp only [execAdopt, hbcast]
  exact ite_self _

end Unrun

section Runs

variable (hbcast : s.bcastOf p = some (g, b, i, c))
include hbcast

theorem exec_done_root (hkind : fld p 0 1 = 7) (hroot : cdIsRoot b i.desc = true) : exec (.done p) s =
    if gpMembers b ≤ fld p 20 3 % 2 ^ 17 then ok s else
      ok ((s.setCur g { i with bcast := some { c with members := sinsert c.members (fld p 20 3 % 2 ^ 17) } }).collCheck g) := by
  show execDone p s = _
  simp only [execDone, hkind, hbcast, hroot]
  rfl

theorem exec_done_passed (hkind : fld p 0 1 = 7) (hroot : cdIsRoot b i.desc = false) :
    exec (.done p) s = ok (s.ctrl g (i.link 0).record p) := by
  show execDone p s = _
  simp only [execDone, hkind, hbcast, hroot]
  rfl

theorem exec_lost_known (hkind : fld p 0 1 = 9) :
    exec (.lost p) s = if cdIsRoot b i.desc then ok s else ok (s.ctrl g (i.link 0).record p) := by
  show execLost p s = _
  simp only [execLost, hkind, hbcast]
  rfl

theorem exec_adopt_unknown (hkind : fld p 0 1 = 8)
    (hfind : (List.range (gpAdopt b)).find? (fun a => nbIndex (gpAdoptee b a) == fld p 20 3 % 2 ^ 17) = none) :
    exec (.adopt p) s = ok s := by
  show execAdopt p s = _
  simp only [execAdopt, hkind, hbcast, hfind]
  rfl

section Adopted

variable {a : Nat} (hkind : fld p 0 1 = 8)
  (hfind : (List.range (gpAdopt b)).find? (fun a => nbIndex (gpAdoptee b a) == fld p 20 3 % 2 ^ 17) = some a)
include hkind hfind

theorem exec_adopt_again (hlinked : (i.links.map (·.1)).contains (9 + a) = true) : exec (.adopt p) s = ok s := by
  show execAdopt p s = _
  simp only [execAdopt, hkind, hbcast, hfind, hlinked]
  rfl

/-- One chunk sent to an adopted child, from the committed bytes in memory. -/
def sendOwed (g a : Nat) (b : Bytes) (r : CInv × State) (k : Nat) : CInv × State :=
  r.2.emit g b r.1 [9 + a] k true
    ⟨0xFF, r.2.readBytes ((cDstAddr b r.1.desc k).getD 0) (cChunkOf b r.1.desc k).2.2,
      natLE (maskBytes (cChunkOf b r.1.desc k).2.2) (maskOf ((List.range ((cChunkOf b r.1.desc k).2.2 / 8)).filter
        (fun w => r.2.poisonAt ((cDstAddr b r.1.desc k).getD 0 + 8 * w)))), 1⟩ false

theorem exec_adopt_sends {j k : CInv} {u v : State} (hlinked : (i.links.map (·.1)).contains (9 + a) = false)
    (hj : j = { i.setLink (9 + a) ⟨gpAdoptee b a, 4, [], []⟩ with
      acked := (((cChunks b i.desc).filter (· < fld p 12 4)).map (fun k => 2 ^ 40 * (9 + a) + k * 2 + 1)).foldl sinsert i.acked })
    (hu : u = (s.ev F.COLL_EVENTS_REPARENT).inc F.COLL_COUNTS_REPARENTS)
    (hsent : (i.committed.filter (fld p 12 4 ≤ ·)).foldl (sendOwed g a b) (j, u) = (k, v)) :
    exec (.adopt p) s = ok ((v.setCur g k).collCheck g) := by
  have hrun : exec (.adopt p) s = ok ((((i.committed.filter (fld p 12 4 ≤ ·)).foldl (sendOwed g a b) (j, u)).2.setCur g
      ((i.committed.filter (fld p 12 4 ≤ ·)).foldl (sendOwed g a b) (j, u)).1).collCheck g) := by
    subst hj hu
    show execAdopt p s = _
    simp only [execAdopt, hkind, hbcast, hfind, hlinked]
    rfl
  rw [hrun, hsent]

end Adopted

end Runs

section Parent

variable {g : Fin 16} (hcur : (s.cslot g).cur = some i) (hlive : (s.cslot g).live = some b) (hc : i.bcast = some c)
include hcur hlive hc

theorem exec_reparent_up : exec (.reparentTimeout g 0) s =
    if cdIsRoot b i.desc || (cCommits b i.desc).all i.committed.contains then ok s
    else if gpSpares b ≤ c.tried then ok (s.endBcast g i c St.targetDead)
    else ok (((((s.ev F.COLL_EVENTS_REPARENT).inc F.COLL_COUNTS_REPARENTS).ctrl g (gpSpare b c.tried)
        (chunkMsg 8 g 0 0 i.inv i.step 0 (((cChunks b i.desc).filter (fun k => !i.committed.contains k)).headD 0) 0 (gpMe b) [])).setCur g
          { i.setLink 0 ⟨gpSpare b c.tried, 4, [], []⟩ with bcast := some { c with tried := c.tried + 1 } }).ctrl g (gpSpare b c.tried)
        (chunkMsg 9 g 0 0 i.inv i.step 0 0 0 (nbIndex (i.link 0).record) [])) := by
  show execReparentTimeout g 0 s = _
  simp only [execReparentTimeout, hcur, hlive, hc]
  rfl

theorem exec_reparent_down {l : Fin 17} {j : CInv} (hl : l.val ≠ 0)
    (hj : j = { i.setLink l { i.link l with out := [], queue := [] } with
      acked := ((cSends b i.desc i.adopted).filter (fun k => k / 2 ^ 40 == l.val)).foldl sinsert i.acked }) :
    exec (.reparentTimeout g l) s = if (i.link l).out.isEmpty then ok s else
      ok (((if cdIsRoot b i.desc then s else s.ctrl g (j.link 0).record
        (chunkMsg 9 g 0 0 i.inv i.step 0 0 0 (nbIndex (i.link l).record) [])).setCur g j).collCheck g) := by
  subst hj
  show execReparentTimeout g l s = _
  simp only [execReparentTimeout, hcur, hlive, hc]
  exact if_neg hl

theorem exec_broadcastRoot_member (hroot : cdIsRoot b i.desc = false) : exec (.broadcastRootTimeout g) s = ok s := by
  show execBroadcastRootTimeout g s = _
  simp only [execBroadcastRootTimeout, hcur, hlive, hc, hroot]
  rfl

/-- The broadcast at the root's deadline: the root counts itself once it has every chunk. -/
def CBcast.atDeadline (c : CBcast) (b : Bytes) (i : CInv) : CBcast :=
  { c with members := if (cCommits b i.desc).all i.committed.contains then sinsert c.members (gpMe b) else c.members }

theorem exec_broadcastRoot_deadline (hroot : cdIsRoot b i.desc = true) : exec (.broadcastRootTimeout g) s =
    if c.deadline = 0 then ok (s.endBcast g i (c.atDeadline b i) St.partial)
    else match s.reach c.deadline with
      | some s => ok (s.endBcast g i (c.atDeadline b i) St.partial)
      | none => ok s := by
  show execBroadcastRootTimeout g s = _
  simp only [execBroadcastRootTimeout, hcur, hlive, hc, hroot]
  rfl

end Parent

theorem exec_reparentTimeout_idle {g : Fin 16} {l : Fin 17} (hcur : (s.cslot g).cur = none) :
    exec (.reparentTimeout g l) s = ok s := by
  show execReparentTimeout g l s = _
  simp only [execReparentTimeout, hcur]

theorem exec_broadcastRootTimeout_idle {g : Fin 16} (hcur : (s.cslot g).cur = none) :
    exec (.broadcastRootTimeout g) s = ok s := by
  show execBroadcastRootTimeout g s = _
  simp only [execBroadcastRootTimeout, hcur]

theorem CBcast.atDeadline_eq {d : CBcast}
    (hall : (cCommits b i.desc).all i.committed.contains = true → d = { c with members := sinsert c.members (gpMe b) })
    (hsome : (cCommits b i.desc).all i.committed.contains = false → d = c) : c.atDeadline b i = d := by
  rw [CBcast.atDeadline]
  cases hcommits : (cCommits b i.desc).all i.committed.contains with
  | true => exact (hall hcommits).symm
  | false => exact (hsome hcommits).symm

end Broadcast

/-- Settles O49, message by message. -/
theorem collectiveMessagesAndJobBroadcast : Obligations.CollectiveMessagesAndJobBroadcast := by
  unfold Obligations.CollectiveMessagesAndJobBroadcast
  refine ⟨⟨?arrive, ?use, ?data, ?verify, ?answer, ?refetch, ?unknown, ?unknownField, ?fieldAck, ?fieldRefetch, ?resend, ?resendNone,
    ?fieldResend, ?fieldResendNone, ?timeout, ?timeoutField⟩, ?bcast, ?bcastNone, ?parent, ?idle⟩
  case arrive =>
    rintro n p res g me s rfl rfl
    refine ⟨exec_dataChunk_damaged, fun hkind hok hsealed => exec_dataChunk_uncombined hkind hok (.inl hsealed), ?_,
      exec_token_damaged, exec_token_used, exec_abort_used, exec_dataChunk_foreign, exec_token_foreign, exec_abort_dropped⟩
    rintro hkind hok hsealed u rfl
    refine ⟨fun h => exec_dataChunk_uncombined hkind hok (.inr h), fun hres hcombines => ?_, fun hres hcombines => ?_⟩
    · exact exec_dataChunk_combined hkind hok hcombines (by rw [hres]; exact collResidue_first hsealed Nat.one_ne_zero (by decide))
    · exact exec_dataChunk_mismatch hkind hok hcombines (by rw [hres]; exact collResidue_second hsealed)
  case use =>
    intro again n p b g i j s u hg hlive
    refine ⟨?_, ?_, ?_, collMsg_waits hg hlive, collMsg_early hg hlive, ?_, ?_, ?_⟩
    · intro hstamp hcur hrunning habort htoken huse
      exact collMsg_joins hg hlive hstamp hcur hrunning habort (by rw [if_neg htoken, huse])
    · intro hstamp hcur hrunning htoken huse
      exact collMsg_joins hg hlive hstamp hcur hrunning (by rw [htoken]; decide) (by rw [if_pos htoken, huse])
    · intro hstamp hcur hrunning habort
      rw [collMsg_running hg hlive hstamp hcur hrunning, if_pos habort]
    · intro hstamp hdata
      rw [collMsg_stale hg hlive hstamp, if_pos hdata]
    · intro hstamp habort
      rw [collMsg_stale hg hlive hstamp, if_neg (by rw [habort]; decide), if_pos habort]
    · intro hstamp hdata habort
      rw [collMsg_stale hg hlive hstamp, if_neg hdata, if_neg habort]
  case data =>
    intro held final g l k n key b p i s hlink hk hfinal hn hkey
    refine ⟨?_, ?_, useData_full hlink hk hfinal hn hkey, useData_incomplete hlink hk hfinal hn hkey⟩
    · rintro hused rfl
      exact useData_again hlink hk hfinal hkey hused
    · rintro hused rfl
      exact useData_again hlink hk hfinal hkey hused
  case verify => exact fun g k b t i j x s hx ht hj => ⟨cVerify_matches hx ht hj, cVerify_differs hx ht hj⟩
  case answer =>
    intro n p b g l i j s u hinv hlink
    exact ⟨fun hkind _ => exec_chunkAck_frees hinv hlink hkind, exec_chunkAck_unknown hinv hlink, exec_credit_sends hinv hlink⟩
  case refetch =>
    intro n p b g l i c s hinv hholder hkind hok hfind
    exact ⟨exec_refetch_fails hinv hholder hkind hfind, fun h x hx => exec_refetch_sends hinv hholder hkind hfind h hx⟩
  case unknown => exact fun n p s hinv => ⟨exec_chunkAck_idle hinv, exec_credit_idle hinv, exec_refetch_idle hinv⟩
  case unknownField => exact fun n p s hfield => ⟨exec_fieldAck_none hfield, exec_fieldRefetch_none hfield⟩
  case fieldAck =>
    intro n p f k s u hfield hok hkind hpump
    rw [exec_fieldAck_frees hfield hok hkind hpump]
    exact ⟨fun h => congrArg ok (if_pos h), fun h => congrArg ok (if_neg h)⟩
  case fieldRefetch =>
    intro n p f k c s hfield hok hkind hfind hk
    exact ⟨exec_fieldRefetch_fails hfield hok hkind hfind,
      fun h => exec_fieldRefetch_sends hfield hok hkind hfind h hk⟩
  case resend =>
    intro g l e k i c s hcur hfind
    refine ⟨fun h => ?_, fun h x hx => ?_⟩
    · rw [exec_chunkResend_known hcur hfind rfl, if_pos h]
    · rw [exec_chunkResend_known hcur hfind hx, if_neg (Nat.not_le_of_lt h)]
  case resendNone => exact fun g l e k i s => ⟨exec_chunkResend_unknown, exec_chunkResend_idle⟩
  case fieldResend =>
    intro g l e k f h c s hsend
    refine ⟨exec_fieldResend_unknown hsend, fun hfind hh => ?_⟩
    rw [exec_fieldResend_known hsend hfind hh]
    exact ⟨fun hc => if_pos hc, fun hc => if_neg (Nat.not_le_of_lt hc)⟩
  case fieldResendNone => exact fun g l e k s => exec_fieldResend_idle
  case timeout =>
    intro g l e i b s hcur hlive
    rw [exec_chunkAckTimeout_link hcur hlive]
    exact ⟨fun h => if_neg (by simpa using h), fun h => if_pos (by simpa using h)⟩
  case timeoutField =>
    exact fun g l e s => ⟨fun f => exec_fieldAckTimeout_ends, exec_fieldAckTimeout_idle, exec_chunkAckTimeout_idle⟩
  case bcast =>
    intro p b g i c s hbcast
    refine ⟨?_, ?_, exec_done_passed hbcast, ?_, ?_, exec_adopt_unknown hbcast, ?_⟩
    · intro hkind hroot h
      rw [exec_done_root hbcast hkind hroot, if_neg (Nat.not_le_of_lt h)]
    · intro hkind hroot h
      rw [exec_done_root hbcast hkind hroot, if_pos h]
    · intro hkind hroot
      rw [exec_lost_known hbcast hkind, if_pos hroot]
    · intro hkind hroot
      rw [exec_lost_known hbcast hkind, if_neg (ne_true_of_eq_false hroot)]
    · exact fun a hkind hfind => ⟨exec_adopt_again hbcast hkind hfind,
        fun hlinked j k u v hj hu hsent => exec_adopt_sends hbcast hkind hfind hlinked hj hu hsent⟩
  case bcastNone =>
    exact fun p s hbcast => ⟨exec_done_forwards hbcast, exec_lost_forwards hbcast, exec_done_foreign, exec_lost_foreign,
      exec_adopt_idle hbcast⟩
  case parent =>
    intro g i j b c s u hcur hlive hc
    refine ⟨?_, ?_, ?_, ?_, ?_, exec_broadcastRoot_member hcur hlive hc, ?_⟩
    · intro h
      rw [exec_reparent_up hcur hlive hc, if_pos (by simpa using h)]
    · intro hroot hall h
      rw [exec_reparent_up hcur hlive hc, hroot, hall, if_neg (by decide), if_pos h]
    · rintro hroot hall h rfl rfl
      rw [exec_reparent_up hcur hlive hc, hroot, hall, if_neg (by decide), if_neg (Nat.not_le_of_lt h)]
    · intro l hl hout
      rw [exec_reparent_down hcur hlive hc hl rfl, if_pos (by simp [hout])]
    · intro l hl hout hj
      rw [exec_reparent_down hcur hlive hc hl hj, if_neg (by simpa using hout)]
      refine ⟨fun hroot => ?_, fun hroot => ?_⟩
      · rw [if_pos hroot]
      · rw [if_neg (ne_true_of_eq_false hroot)]
    · intro d hroot hall hsome
      rw [exec_broadcastRoot_deadline hcur hlive hc hroot, CBcast.atDeadline_eq hall hsome]
      refine ⟨fun h => if_pos h, fun h hreach => ?_, fun h hreach => ?_⟩
      · rw [if_neg h, hreach]
      · rw [if_neg h, hreach]
  case idle => exact fun g l s hcur => ⟨exec_reparentTimeout_idle hcur, exec_broadcastRootTimeout_idle hcur⟩

end Sys2Proof.Machine

end

section
/-! Checkpoints and restores (R328, R331, R334, R337, R342, R346): the policy, the commands, and what each I/O lets go on. -/

namespace Sys2Proof.Machine

open Sys2Proof

/-! ## CKPT_POLICY -/

section Policy

/-- A policy whose values or whose reflection's region R328 does not allow. -/
def State.policyBad (u : State) (p : Policy) : Bool :=
  (!u.admitted || p.baseStep / 2 ^ 40 != 0 || p.drainMs < 100 || 600000 < p.drainMs
    || (p.intervalNs != 0 && p.intervalNs < u.periodNs)) ||
  (p.reflBase % granuleBytes != 0 || p.reflLen % granuleBytes != 0 || p.reflLen < 2 ^ 30 || !inDeep p.reflBase p.reflLen)

/-- The structures a policy names, each with what reading it meets. -/
def State.policyFaults (u : State) (p : Policy) : List Nat :=
  (if p.domeList = 0 then [] else [u.structFault p.domeList extentsLength]) ++ [u.structFault p.storeAddr storeLength]

/-- The status and the extents of the list a policy names: none where it names no list. -/
def State.policyExtents (u : State) (p : Policy) : Nat × List (Nat × Nat) :=
  if p.domeList = 0 then (0, []) else u.readExtents p.domeList

variable {s u : State} {q : Sub} {p : Policy} {ls ss : Nat} {es : List (Nat × Nat)} {d : Bytes}

theorem policyBad_iff : u.policyBad p = true ↔ u.admitted = false ∨ 2 ^ 40 ≤ p.baseStep ∨ p.drainMs < 100 ∨ 600000 < p.drainMs ∨
    (p.intervalNs ≠ 0 ∧ p.intervalNs < u.periodNs) ∨ p.reflBase % granuleBytes ≠ 0 ∨ p.reflLen % granuleBytes ≠ 0 ∨
    p.reflLen < 2 ^ 30 ∨ inDeep p.reflBase p.reflLen = false := by
  have hstep : p.baseStep / 2 ^ 40 ≠ 0 ↔ 2 ^ 40 ≤ p.baseStep := by omega
  simp only [State.policyBad, Bool.or_eq_true, Bool.and_eq_true, Bool.not_eq_true', bne_iff_ne, decide_eq_true_eq, hstep, or_assoc]

theorem mem_policyFaults {st : Nat} : (u.policyFaults p).contains st = true ↔
    u.structFault p.storeAddr storeLength = st ∨ p.domeList ≠ 0 ∧ u.structFault p.domeList extentsLength = st := by
  rw [State.policyFaults, List.contains_iff_mem, List.mem_append, List.mem_singleton, or_comm, eq_comm]
  by_cases h : p.domeList = 0
  · simp [h]
  · simp [h, eq_comm (a := st)]

theorem policyExtents_eq (hnone : p.domeList = 0 → ls = 0 ∧ es = []) (hsome : p.domeList ≠ 0 → u.readExtents p.domeList = (ls, es)) :
    u.policyExtents p = (ls, es) := by
  rw [State.policyExtents]
  split
  · next h => rw [(hnone h).1, (hnone h).2]
  · next h => exact hsome h

theorem structFault_of_readStore {a : Nat} (h : u.readStore a = (0, d)) : u.structFault a storeLength = 0 := by
  rw [State.readStore] at h
  split at h
  · assumption
  · exact (Prod.mk.inj h).1

theorem structFault_of_readExtents {a : Nat} (h : u.readExtents a = (0, es)) : u.structFault a extentsLength = 0 := by
  rw [State.readExtents] at h
  dsimp only at h
  split at h
  · assumption
  · exact (Prod.mk.inj h).1

theorem policyFaults_none {st : Nat} (hnone : p.domeList = 0 → ls = 0 ∧ es = [])
    (hsome : p.domeList ≠ 0 → u.readExtents p.domeList = (ls, es)) (hstore : u.readStore p.storeAddr = (ss, d)) (hl : ls = 0)
    (hs : ss = 0) (hst : st ≠ 0) : (u.policyFaults p).contains st = false := by
  subst hl hs
  rw [Bool.eq_false_iff, Ne, mem_policyFaults, structFault_of_readStore hstore]
  rintro (h | ⟨hdome, h⟩)
  · exact hst h.symm
  · exact hst (h.symm.trans (structFault_of_readExtents (hsome hdome)))

variable (htakes : s.takes q Op.ckptPolicy u) (hp : p = ckptParams q)
include htakes hp

theorem exec_ckptPolicy : exec .ckptPolicy s = ok
    (if (u.policyBad p || (u.policyFaults p).contains St.badParam) = true then u.short q St.badParam []
    else if (u.policyFaults p).contains St.poisonConsumed then u.short q St.poisonConsumed []
    else if (u.policyExtents p).1 != 0 || (u.readStore p.storeAddr).1 != 0 || !reflRules (u.policyExtents p).2 p.reflBase p.reflLen then
      u.short q St.badParam []
    else if u.ckptBusy then u.short q St.busy []
    else ({ u with ckpt := { u.ckpt with nextPolicy := some p } } : State).short q St.ok []) := by
  subst hp
  show execCkptPolicy s = _
  exact withSub_takes htakes rfl

theorem exec_ckptPolicy_bad (h : u.policyBad p = true ∨ (u.policyFaults p).contains St.badParam = true) :
    exec .ckptPolicy s = ok (u.short q St.badParam []) := by
  rw [exec_ckptPolicy htakes hp, if_pos (by simpa only [Bool.or_eq_true] using h)]

variable (hgood : u.policyBad p = false) (hbad : (u.policyFaults p).contains St.badParam = false)
include hgood hbad

theorem exec_ckptPolicy_poisoned (h : (u.policyFaults p).contains St.poisonConsumed = true) :
    exec .ckptPolicy s = ok (u.short q St.poisonConsumed []) := by
  rw [exec_ckptPolicy htakes hp, hgood, hbad, if_neg (by decide), if_pos h]

variable (hclean : (u.policyFaults p).contains St.poisonConsumed = false) (hextents : u.policyExtents p = (ls, es))
  (hstore : u.readStore p.storeAddr = (ss, d))
include hclean hextents hstore

theorem exec_ckptPolicy_read : exec .ckptPolicy s = ok
    (if ls != 0 || ss != 0 || !reflRules es p.reflBase p.reflLen then u.short q St.badParam []
    else if u.ckptBusy then u.short q St.busy []
    else ({ u with ckpt := { u.ckpt with nextPolicy := some p } } : State).short q St.ok []) := by
  rw [exec_ckptPolicy htakes hp, hgood, hbad, hclean, hextents, hstore, if_neg (by decide), if_neg (by decide)]

theorem exec_ckptPolicy_unread (h : ls ≠ 0 ∨ ss ≠ 0 ∨ reflRules es p.reflBase p.reflLen = false) :
    exec .ckptPolicy s = ok (u.short q St.badParam []) := by
  rw [exec_ckptPolicy_read htakes hp hgood hbad hclean hextents hstore, if_pos (by simpa [or_assoc] using h)]

theorem exec_ckptPolicy_accepted (hl : ls = 0) (hs : ss = 0) (hrules : reflRules es p.reflBase p.reflLen = true) :
    exec .ckptPolicy s = ok (if u.ckptBusy then u.short q St.busy []
      else ({ u with ckpt := { u.ckpt with nextPolicy := some p } } : State).short q St.ok []) := by
  rw [exec_ckptPolicy_read htakes hp hgood hbad hclean hextents hstore, if_neg (by simp [hl, hs, hrules])]

end Policy

/-! ## CKPT_NOW and RESTORE -/

section Now

variable {s u : State} {q : Sub} (htakes : s.takes q Op.ckptNow u)
include htakes

theorem exec_ckptNow_bad (h : u.ckpt.policy = none ∨ 2 ^ 40 ≤ q.p 0 8 ∨ (q.p 0 8 ≠ 0 ∧ q.p 0 8 ≤ u.step)) :
    exec .ckptNow s = ok (u.refuse q St.badParam) := by
  show execCkptNow s = _
  refine (withSub_takes htakes rfl).trans (congrArg ok (if_pos ?_))
  have hstep : q.p 0 8 / 2 ^ 40 ≠ 0 ↔ 2 ^ 40 ≤ q.p 0 8 := by omega
  simpa only [Bool.or_eq_true, Bool.and_eq_true, bne_iff_ne, hstep, decide_eq_true_eq, Option.isNone_iff_eq_none, or_assoc] using h

theorem exec_ckptNow_good (hpolicy : u.ckpt.policy ≠ none) (hsmall : q.p 0 8 < 2 ^ 40) (hlater : q.p 0 8 = 0 ∨ u.step < q.p 0 8) :
    exec .ckptNow s = ok (if u.ckpt.now.isSome then u.refuse q St.busy else
      ({ (u.accept q).1 with ckpt := { (u.accept q).1.ckpt with now := some ((u.accept q).2, q.p 0 8) } } : State).showCkpt) := by
  show execCkptNow s = _
  refine (withSub_takes htakes rfl).trans (congrArg ok (if_neg ?_))
  have hstep : q.p 0 8 / 2 ^ 40 = 0 := by omega
  have hpast : ¬(q.p 0 8 ≠ 0 ∧ q.p 0 8 ≤ u.step) := by omega
  simpa only [Bool.or_eq_true, Bool.and_eq_true, bne_iff_ne, hstep, decide_eq_true_eq, Option.isNone_iff_eq_none, hpolicy, ne_eq,
    not_true_eq_false, false_or] using hpast

end Now

section Restores

/-- A node that starts no restore: no job, one that has started a step, a checkpoint at work, or a profile switch under way. -/
def State.restoreBusy (u : State) : Bool :=
  !(match u.job with | some j => !j.anyStep | none => false) || u.ckptBusy || u.flag F.NODE_PROFILE_SWITCHING

theorem restoreBusy_iff {u : State} : u.restoreBusy = true ↔ u.job = none ∨ (∃ j, u.job = some j ∧ j.anyStep = true) ∨
    u.ckptBusy = true ∨ u.rd F.NODE_PROFILE_SWITCHING ≠ 0 := by
  rw [State.restoreBusy, State.flag, Bool.or_eq_true, Bool.or_eq_true, or_assoc]
  cases u.job with
  | none => simp
  | some j => simp

variable {s u : State} {q : Sub} (htakes : s.takes q Op.restore u)
include htakes

theorem exec_restore_busy (h : u.restoreBusy = true) : exec .restore s = ok (u.refuse q St.busy) := by
  show execRestore s = _
  exact (withSub_takes htakes rfl).trans (congrArg ok (if_pos h))

theorem exec_restore_read {st : Nat} {srcs : List RestoreSource} {trust : List Bytes} (h : u.restoreBusy = false)
    (hread : u.readSources (q.p 0 1) (q.p 8 8) (q.p 1 1) (q.p 16 8) = (st, srcs, trust)) : exec .restore s =
      ok (if st != 0 then u.longNow q st 0 [] else (u.accept q).1.restoreBegin (some (u.accept q).2) srcs trust) := by
  show execRestore s = _
  refine (withSub_takes htakes rfl).trans (congrArg ok ((if_neg (ne_true_of_eq_false h)).trans ?_))
  simp only [hread]

end Restores

/-! ## The store's I/O -/

section Io

variable {item : Nat} {data : Bytes} {good : Bool} {s : State}

theorem exec_reflectionCopyDone_idle (h : s.ckpt.copying = false) : exec .reflectionCopyDone s = ok s := by
  show execReflectionCopyDone s = _
  exact if_pos (by simp [h])

theorem exec_reflectionCopyDone_copies {u : State} (h : s.ckpt.copying = true)
    (hu : u = s.ckpt.granules.foldl (fun s g => s.copyRange g.1 g.2 granuleBytes) s) : exec .reflectionCopyDone s =
      ok ((({ u with ckpt := { u.ckpt with copying := false, granules := [] } } : State).incw
        F.CKPT_COPIED_BYTES (granuleBytes * s.ckpt.granules.length)).storePump) := by
  subst hu
  show execReflectionCopyDone s = _
  exact if_neg (by simp [h])

section Restoring

variable {r : Restore} (hrestore : s.ckpt.restore = some r)
include hrestore

theorem exec_storeIo_restoring : exec (.storeIoCompletion item good data) s =
    if !r.inFlight.any (·.1 == item) then ok s else if !good then ok (s.restoreEnd St.storeError)
    else ok (s.restoreRead r item data) := by
  show execStoreIoCompletion item good data s = _
  simp only [execStoreIoCompletion, hrestore]

theorem exec_drainTimeout_restoring :
    exec .drainTimeout s = if r.stage = 3 then ok s else ok (s.restoreEnd St.storeUnreachable) := by
  show execDrainTimeout s = _
  simp only [execDrainTimeout, hrestore]

theorem exec_restoreCopyDone_early (hstage : r.stage ≠ 3) : exec .restoreCopyDone s = ok s := by
  show execRestoreCopyDone s = _
  simp only [execRestoreCopyDone, hrestore]
  exact if_pos (by simpa using hstage)

theorem exec_restoreCopyDone_copied {u : State} (hstage : r.stage = 3)
    (hu : u = r.shards.foldl (fun v x => (v.writeCells x.2.1.dest (v.readCells (s.reflBase + x.2.2)
      x.2.1.length)).incw F.CKPT_COPIED_BYTES x.2.1.length) s) : exec .restoreCopyDone s =
      ok (u.restoreEnd (if r.shards.any (fun x => s.poisoned (s.reflBase + x.2.2) x.2.1.length) then St.poisonConsumed else St.ok)) := by
  subst hu
  show execRestoreCopyDone s = _
  simp only [execRestoreCopyDone, hrestore]
  exact if_neg (by simp [hstage])

end Restoring

section Draining

variable {d : Drain} (hrestore : s.ckpt.restore = none) (hdrain : s.ckpt.drain = some d)
include hrestore hdrain

theorem exec_storeIo_draining : exec (.storeIoCompletion item good data) s =
    if !d.inFlight.any (·.1 == item) then ok s else if !good then ok (s.endDrain St.storeError)
    else ok ((if d.order = 3 then s.incw F.CKPT_DRAINED_BYTES (d.shards.getD item ⟨0, 0, 0, 0, []⟩).length else s).setDrain
      { d with inFlight := d.inFlight.filter (·.1 != item) }).storePump := by
  show execStoreIoCompletion item good data s = _
  simp only [execStoreIoCompletion, hrestore, hdrain]

theorem exec_drainTimeout_draining :
    exec .drainTimeout s = if d.order = 7 then ok s else ok (s.endDrain St.storeUnreachable) := by
  show execDrainTimeout s = _
  simp only [execDrainTimeout, hrestore, hdrain]

end Draining

theorem exec_restoreCopyDone_none (hrestore : s.ckpt.restore = none) : exec .restoreCopyDone s = ok s := by
  show execRestoreCopyDone s = _
  simp only [execRestoreCopyDone, hrestore]

theorem exec_storeIo_none (hrestore : s.ckpt.restore = none) (hdrain : s.ckpt.drain = none) :
    exec (.storeIoCompletion item good data) s = ok s := by
  show execStoreIoCompletion item good data s = _
  simp only [execStoreIoCompletion, hrestore, hdrain]

theorem exec_drainTimeout_none (hrestore : s.ckpt.restore = none) (hdrain : s.ckpt.drain = none) : exec .drainTimeout s = ok s := by
  show execDrainTimeout s = _
  simp only [execDrainTimeout, hrestore, hdrain]

end Io

/-- Settles O50, command by command and I/O by I/O. -/
theorem checkpointsAndRestores : Obligations.CheckpointsAndRestores := by
  unfold Obligations.CheckpointsAndRestores
  refine ⟨?policy, ?policyBad, ?now, ?status, ?copy, ?restoring, ?draining, ?none, ?restore⟩
  case policy =>
    intro s u q p ls ss es d htakes hp hadmitted hbase hms hms' hinterval hreflBase hreflLen hlen hdeep hnone hsome hstore
    have hgood : u.policyBad p = false := by
      rw [Bool.eq_false_iff, Ne, policyBad_iff]
      rintro (h | h | h | h | ⟨h, h'⟩ | h | h | h | h)
      · simp [hadmitted] at h
      · omega
      · omega
      · omega
      · omega
      · exact h hreflBase
      · exact h hreflLen
      · omega
      · simp [hdeep] at h
    have hextents := policyExtents_eq hnone hsome
    have hclean : ∀ st, st ≠ 0 → ls = 0 → ss = 0 → (u.policyFaults p).contains st = false := fun st hst hl hs =>
      policyFaults_none hnone hsome hstore hl hs hst
    have haccepted := fun hl hs => exec_ckptPolicy_accepted htakes hp hgood (hclean _ (by decide) hl hs) (hclean _ (by decide) hl hs)
      hextents hstore hl hs
    refine ⟨?_, ?_, ?_, ?_, ?_⟩
    · intro hl hs hrules hbusy
      rw [haccepted hl hs hrules, if_neg (ne_true_of_eq_false hbusy)]
    · intro hl hs hrules hbusy
      rw [haccepted hl hs hrules, if_pos hbusy]
    · intro hl hs hrules
      exact exec_ckptPolicy_unread htakes hp hgood (hclean _ (by decide) hl hs) (hclean _ (by decide) hl hs) hextents hstore
        (.inr (.inr hrules))
    · exact fun h => exec_ckptPolicy_bad htakes hp (.inr (mem_policyFaults.2 h))
    · intro hbadStore hbadDome
      have hbad : (u.policyFaults p).contains St.badParam = false := by
        rw [Bool.eq_false_iff, Ne, mem_policyFaults]
        exact not_or.2 ⟨hbadStore, fun h => hbadDome h.1 h.2⟩
      refine ⟨fun h => exec_ckptPolicy_poisoned htakes hp hgood hbad (mem_policyFaults.2 h), fun hcleanStore hcleanDome h => ?_⟩
      have hclean : (u.policyFaults p).contains St.poisonConsumed = false := by
        rw [Bool.eq_false_iff, Ne, mem_policyFaults]
        exact not_or.2 ⟨hcleanStore, fun h => hcleanDome h.1 h.2⟩
      exact exec_ckptPolicy_unread htakes hp hgood hbad hclean hextents hstore (h.imp_right .inl)
  case policyBad => exact fun s u q p htakes hp h => exec_ckptPolicy_bad htakes hp (.inl (policyBad_iff.2 h))
  case now =>
    intro s u q htakes
    refine ⟨fun hpolicy hsmall hlater hnow v h haccept => ?_, fun hpolicy hsmall hlater hnow => ?_, exec_ckptNow_bad htakes⟩
    · rw [exec_ckptNow_good htakes hpolicy hsmall hlater, hnow, haccept]
      rfl
    · rw [exec_ckptNow_good htakes hpolicy hsmall hlater, if_pos (Option.isSome_iff_ne_none.2 hnow)]
  case status =>
    intro s u q htakes
    show execCkptStatus s = _
    refine (withSub_takes htakes rfl).trans ?_
    simp only [List.flatMap_cons, List.flatMap_nil, List.append_nil, List.append_assoc]
  case copy => exact fun s => ⟨exec_reflectionCopyDone_idle, fun h u hu => exec_reflectionCopyDone_copies h hu⟩
  case restoring =>
    intro item data s r hrestore
    refine ⟨fun hin => ?_, fun hin => ?_, fun good hout => ?_, fun hstage => ?_, fun hstage => ⟨?_, ?_⟩, fun hstage u hu => ⟨?_, ?_⟩⟩
    · rw [exec_storeIo_restoring hrestore, hin]
      rfl
    · rw [exec_storeIo_restoring hrestore, hin]
      rfl
    · rw [exec_storeIo_restoring hrestore, hout]
      rfl
    · rw [exec_drainTimeout_restoring hrestore, if_pos hstage]
    · rw [exec_drainTimeout_restoring hrestore, if_neg hstage]
    · exact exec_restoreCopyDone_early hrestore hstage
    · intro hclean
      rw [exec_restoreCopyDone_copied hrestore hstage hu, if_neg (ne_true_of_eq_false hclean)]
    · intro hpoison
      rw [exec_restoreCopyDone_copied hrestore hstage hu, if_pos hpoison]
  case draining =>
    intro item data s d hrestore hdrain
    refine ⟨fun hin horder => ?_, fun hin horder => ?_, fun hin => ?_, fun good hout => ?_, exec_restoreCopyDone_none hrestore,
      fun horder => ?_, fun horder => ?_⟩
    · rw [exec_storeIo_draining hrestore hdrain, hin, if_neg horder]
      rfl
    · rw [exec_storeIo_draining hrestore hdrain, hin, if_pos horder]
      rfl
    · rw [exec_storeIo_draining hrestore hdrain, hin]
      rfl
    · rw [exec_storeIo_draining hrestore hdrain, hout]
      rfl
    · rw [exec_drainTimeout_draining hrestore hdrain, if_pos horder]
    · rw [exec_drainTimeout_draining hrestore hdrain, if_neg horder]
  case none =>
    exact fun item good data s hrestore hdrain => ⟨exec_storeIo_none hrestore hdrain, exec_drainTimeout_none hrestore hdrain,
      exec_restoreCopyDone_none hrestore⟩
  case restore =>
    intro s u q htakes
    refine ⟨fun j hjob hidle hckpt hswitch st srcs trust hread => ?_, fun h => exec_restore_busy htakes (restoreBusy_iff.2 h)⟩
    have hbusy : u.restoreBusy = false := by
      rw [Bool.eq_false_iff, Ne, restoreBusy_iff]
      rintro (h | ⟨k, hk, h⟩ | h | h)
      · simp [hjob] at h
      · rw [hjob] at hk
        cases hk
        simp [hidle] at h
      · simp [hckpt] at h
      · exact h hswitch
    rw [exec_restore_read htakes hbusy hread]
    refine ⟨fun hst => ?_, fun v h hst haccept => ?_⟩
    · rw [if_pos (by simpa using hst)]
    · rw [if_neg (by simp [hst]), haccept]

end Sys2Proof.Machine

end

section
/-! Commands reach the Gatehouse (R354–R367): the checks of a packet, what each channel does with one, replies and records. -/

namespace Sys2Proof.Machine

open Sys2Proof

/-! ## The checks of a packet -/

section Checks

variable {s : State} {chan : Chan} {slot tag st : Nat} {p ps : Bytes} {live : Bool}

theorem acceptCheck_unknown (h : Op.all.contains (hdOpcode p) = false) : s.acceptCheck chan tag p ps live = St.badOpcode :=
  if_pos (by rw [h]; rfl)

theorem acceptCheck_known (h : Op.all.contains (hdOpcode p) = true) : s.acceptCheck chan tag p ps live =
    if s.channelCheck chan tag (hdOpcode p) (hdRemote p) ps != St.ok then s.channelCheck chan tag (hdOpcode p) (hdRemote p) ps
    else if s.opcodeClosed (hdOpcode p) ps live then St.busy
    else if hdDeadline p != 0 && !usesDeadline (hdOpcode p) then St.badParam
    else s.limitCheck chan (hdOpcode p) :=
  if_neg (by rw [h]; decide)

/-- What a refusal of a malformed packet notes: a Command Port's external parameters in the reflection. -/
def State.noteMalformed (s : State) (chan : Chan) (p : Bytes) : State :=
  match chan with
  | .loc _ => if hdExt p then s.noteRefl (fld p 24 8) (hdLength p) else s
  | _ => s

/-- What a channel does with a packet that passed its checks: a local one with REMOTE is forwarded, any other waits at the gate. -/
def State.takeIn (s : State) (chan : Chan) (slot : Nat) (p ps : Bytes) : State :=
  match hdRemote p, chan with
  | true, .loc c => s.forward c slot p ps
  | _, _ =>
    let u := s.recordPut (some 1) 3 0 (natLE 8 chan.code ++ sub p 0 64 ++ (if hdExt p then ps else []))
    { u with cmd := { u.cmd with gate := u.cmd.gate ++ [mkSub chan slot p ps false] } }

theorem noteMalformed_other (hchan : ∀ c : Nat, chan ≠ .loc c) : s.noteMalformed chan p = s := by
  cases chan with
  | loc c => exact absurd rfl (hchan c)
  | mgmt i => rfl
  | tray => rfl
  | fabric n => rfl

theorem submit_malformed (hparams : s.packetParams chan p = .inl st) :
    s.submit chan slot tag p = (s.noteMalformed chan p).refuse (mkSub chan slot p [] false) st := by
  delta State.submit
  dsimp only
  rw [hparams]
  rfl

theorem submit_checked (hparams : s.packetParams chan p = .inr ps) (hcheck : s.acceptCheck chan tag p ps true = st) :
    s.submit chan slot tag p = if st != St.ok then
        (if st == St.notPrivileged then s.ev F.SEC_EVENTS_PRIV_REFUSED else s).refuse (mkSub chan slot p [] false) st
      else s.takeIn chan slot p ps := by
  subst hcheck
  delta State.submit
  dsimp only
  rw [hparams]
  rfl

theorem takeIn_gate {u : State} (hremote : hdRemote p = false)
    (hu : u = s.recordPut (some 1) 3 0 (natLE 8 chan.code ++ sub p 0 64 ++ (if hdExt p then ps else []))) :
    s.takeIn chan slot p ps = { u with cmd := { u.cmd with gate := u.cmd.gate ++ [mkSub chan slot p ps false] } } := by
  subst hu
  simp only [State.takeIn, hremote]

theorem takeIn_forward {c : Nat} (hremote : hdRemote p = true) : s.takeIn (.loc c) slot p ps = s.forward c slot p ps := by
  simp only [State.takeIn, hremote]

theorem privileged_iff {op : Nat} : privileged op ps = true ↔ (op = Op.fwActivate ∨ op = Op.keyRotate ∨
    (op = Op.resetScope ∧ fld ps 0 1 = 3) ∨ (op = Op.keepWrite ∧ (fld ps 0 1 = 1 ∨ (fld ps 0 1 = 9 ∧ fld ps 4 4 < 8192)))) := by
  simp only [privileged, Bool.or_eq_true, Bool.and_eq_true, beq_iff_eq, decide_eq_true_eq, or_assoc]

theorem channelCheck_privileged {op : Nat} {remote : Bool} (hpriv : privileged op ps = true) (hchan : chan ≠ .tray) :
    s.channelCheck chan tag op remote ps = St.notPrivileged := by
  cases chan with
  | tray => exact absurd rfl hchan
  | loc c => exact if_pos hpriv
  | mgmt i => exact if_pos hpriv
  | fabric n => exact if_pos hpriv

theorem withSub_reserved {q : Sub} {r : List Sub} {op : Nat} {sel : Sub → Bool} {f : Sub → State → State} (hgate : s.cmd.gate = q :: r)
    (hop : q.opcode = op) (hsel : sel q = true) (hreserved : reservedParams op q.params = true) : s.withSub op sel f =
      ok (if Op.longs.contains op then (s.taken r).refuse q St.badParam else (s.taken r).short q St.badParam []) := by
  rw [State.withSub, hgate]
  exact (if_pos (by simp [hop, hsel])).trans (if_pos hreserved)

end Checks

/-! ## Handles and completion -/

section Handles

variable {s u : State} {q : Sub} {n h : Nat}

theorem acceptAs_key : (s.acceptAs q St.accepted).2 % 2 ^ 32 =
    (2 ^ 24 * q.chan.code + (mget s.cmd.seqs q.chan.seqKey 0 % 0xFFFFFF + 1)) % 2 ^ 32 := by
  simp only [State.acceptAs]
  split
  · exact Nat.add_mul_mod_self_left _ _ _
  · rfl

theorem accept_reply (hsilent : q.silent = false) (hn : n = mget s.cmd.seqs q.chan.seqKey 0 % 0xFFFFFF + 1)
    (hh : h = 2 ^ 24 * q.chan.code + n)
    (hcmd : u.cmd = { s.cmd with seqs := mput s.cmd.seqs q.chan.seqKey n, longs := s.cmd.longs ++ [⟨(s.accept q).2, q.chan, q.opcode,
      q.tag, q.msi, q.silent⟩] }) (hu : u = { s with cmd := u.cmd }) :
    (s.accept q).1 = (u.inc F.NODE_CMD_COUNTS_ACCEPTED).replyTo q.chan q.slot q.opcode q.tag St.accepted h [] := by
  rw [hcmd] at hu
  subst hu hh hn
  exact if_neg (ne_true_of_eq_false hsilent)

theorem complete_known {st d : Nat} {res : Bytes} {l : LongCmd} (hfind : s.cmd.longs.find? (fun l => l.handle == h) = some l)
    (hsilent : l.silent = false) (hu : u = { s with cmd := { s.cmd with longs := s.cmd.longs.filter (fun l => l.handle != h) } }) :
    s.complete h st d res = u.deliver l (u.mkRecord 0 l.opcode st (h % 2 ^ 32) l.tag d (if isSuccess st then res else [])) := by
  subst hu
  rw [State.complete, State.completeKeep, hfind]
  exact if_neg (ne_true_of_eq_false hsilent)

theorem complete_unknown {st d : Nat} {res : Bytes} (hfind : s.cmd.longs.find? (fun l => l.handle == h) = none) :
    s.complete h st d res = s := by
  rw [State.complete, State.completeKeep, hfind]

theorem toRing_eq {c : Nat} {rcd : Bytes} {msi event : Bool} : s.toRing c rcd msi event =
    if ((mget s.cmd.waiting c []).isEmpty && s.ringRoom c) = true then s.ringWrite c rcd msi
    else if (event && decide (256 ≤ (mget s.cmd.waiting c []).length)) = true then s.ev F.NODE_CMD_EVENTS_EVENT_DROPPED
    else s.setWaiting c (mget s.cmd.waiting c [] ++ [(rcd, msi)]) := rfl

end Handles

/-! ## Packets on each channel -/

section Packets

variable {sid counter client : Nat} {auth taken : Bool} {p : Bytes} {s u : State}

theorem exec_mgmtCommand_dropped (hgram : s.datagram sid counter client auth = (u, taken))
    (h : taken = false ∨ u.openFrom 2 = false ∨ u.boot.romHold = true) : exec (.mgmtCommand sid counter client auth p) s = ok u := by
  show execMgmtCommand sid counter client auth p s = _
  simp only [execMgmtCommand, hgram]
  exact if_pos (by simpa [or_assoc] using h)

variable (hgram : s.datagram sid counter client auth = (u, true)) (hopen : u.openFrom 2 = true) (hrom : u.boot.romHold = false)
include hgram hopen hrom

theorem exec_mgmtCommand_kept {i t : Nat} {p' r : Bytes}
    (hkept : u.cmd.kept.find? (fun k => k.1 == sid && k.2.1 == hdTag p) = some (i, t, p', r)) :
    exec (.mgmtCommand sid counter client auth p) s =
      if p' == p then (if r.isEmpty then ok u else ok (u.mgmtSend sid 2 r))
      else ok ((u.inc F.NODE_CMD_COUNTS_REFUSED).mgmtSend sid 2 (mkReply 0 2 (hdOpcode p) St.badParam 0 (hdTag p) [])) := by
  show execMgmtCommand sid counter client auth p s = _
  simp only [execMgmtCommand, hgram, hkept]
  exact if_neg (by simp [hopen, hrom])

theorem exec_mgmtCommand_new {v : State} (hkept : u.cmd.kept.find? (fun k => k.1 == sid && k.2.1 == hdTag p) = none)
    (hv : v = { u with cmd := { u.cmd with kept := keepNewest sid ((sid, hdTag p, p, []) :: u.cmd.kept) } }) :
    exec (.mgmtCommand sid counter client auth p) s = ok (v.submit (.mgmt sid) 0 0 p) := by
  subst hv
  show execMgmtCommand sid counter client auth p s = _
  simp only [execMgmtCommand, hgram, hkept]
  exact if_neg (by simp [hopen, hrom])

end Packets

/-- Settles O59, check by check and channel by channel. -/
theorem commandsArriveAndReply : Obligations.CommandsArriveAndReply := by
  unfold Obligations.CommandsArriveAndReply
  refine ⟨?checks, ?submit, fun op ps => privileged_iff, ?channel, ?reserved, ?replies, fun _ _ _ _ _ _ _ _ => rfl, ?accept, ?codes,
    ?complete, fun _ _ _ _ _ => complete_unknown, ?ring, ?kept, fun _ _ _ _ _ _ _ _ => exec_mgmtCommand_dropped, ?fabric, ?info,
    fun s _ _ htakes => show execPanelState s = _ from withSub_takes htakes rfl⟩
  case checks =>
    refine fun s chan tag p ps live => ⟨acceptCheck_unknown, fun hop => ?_⟩
    rw [acceptCheck_known hop]
    refine ⟨fun hchan => if_pos (by simpa using hchan), fun hchan => ?_⟩
    rw [if_neg (by simpa using hchan)]
    refine ⟨fun hclosed => if_pos hclosed, fun hclosed => ?_⟩
    rw [if_neg (ne_true_of_eq_false hclosed)]
    exact ⟨fun hd huses => if_pos (by simp [hd, huses]), fun h => if_neg (by rcases h with h | h <;> simp [h])⟩
  case submit =>
    intro s chan slot tag st p ps
    refine ⟨fun hchan hparams => ?_, ?_, fun hparams hcheck => ?_⟩
    · rw [submit_malformed hparams, noteMalformed_other hchan]
    · rintro c rfl hparams
      rw [submit_malformed hparams]
      refine ⟨fun hext => ?_, fun hext => ?_⟩
      · rw [State.noteMalformed, if_pos hext]
      · rw [State.noteMalformed, if_neg (ne_true_of_eq_false hext)]
    · rw [submit_checked hparams hcheck]
      refine ⟨?_, fun hok hpriv => ?_, ?_, ?_⟩
      · rintro rfl
        rfl
      · rw [if_pos (by simpa using hok), if_neg (by simpa using hpriv)]
      · rintro u rfl hremote hu
        exact takeIn_gate hremote hu
      · rintro c rfl hremote rfl
        exact takeIn_forward hremote
  case channel => exact fun s chan tag op remote ps hpriv => ⟨rfl, channelCheck_privileged hpriv⟩
  case reserved =>
    intro s q r op sel f hgate hop hsel hreserved
    rw [withSub_reserved hgate hop hsel hreserved]
    exact ⟨fun h => congrArg ok (if_pos h), fun h => congrArg ok (if_neg (ne_true_of_eq_false h))⟩
  case replies => exact fun s q st data hsilent => ⟨if_neg (ne_true_of_eq_false hsilent), if_neg (ne_true_of_eq_false hsilent)⟩
  case accept =>
    intro s q n h u hsilent hn hh hcmd hu
    refine ⟨accept_reply hsilent hn hh hcmd hu, ?_, by omega, by omega, fun hlt => ?_, fun hmax => ?_⟩
    · rw [hh, hn]
      exact acceptAs_key
    · rw [hn, Nat.mod_eq_of_lt hlt]
    · rw [hn, hmax]
  case codes =>
    refine ⟨fun c => rfl, fun i => rfl, rfl, fun n => rfl, fun i j => Nat.add_right_inj, fun s c k => ?_⟩
    obtain ⟨-, -, hcmd⟩ := fullReset_cleared s c
    rw [hcmd]
    rfl
  case complete =>
    intro s h st d res l u hfind hsilent hu
    rw [complete_known hfind hsilent hu]
    refine ⟨fun hst => ?_, fun hst => ?_⟩
    · rw [if_pos hst]
    · rw [if_neg (ne_true_of_eq_false hst)]
  case ring =>
    intro s c rcd msi event
    rw [toRing_eq]
    refine ⟨fun hempty hroom => if_pos (by simp [hempty, hroom]), fun hbusy => ?_⟩
    rw [if_neg (by rcases hbusy with h | h <;> simp [h])]
    refine ⟨fun hevent hfull => if_pos (by simp [hevent, hfull]), fun h => if_neg ?_⟩
    rcases h with h | h
    · simp [h]
    · simp [Nat.not_le_of_lt h]
  case kept =>
    intro sid counter client auth p s u hgram hopen hrom
    refine ⟨fun r i t hkept => ?_, fun p' r i t hkept hp => ?_, fun v => exec_mgmtCommand_new hgram hopen hrom⟩
    · rw [exec_mgmtCommand_kept hgram hopen hrom hkept, if_pos (by simp)]
      exact ⟨fun hr => if_pos (by simp [hr]), fun hr => if_neg (by simpa using hr)⟩
    · rw [exec_mgmtCommand_kept hgram hopen hrom hkept, if_neg (by simpa using hp)]
  case fabric =>
    refine fun src tag p s => ⟨fun halive hready => ?_, fun h => ?_⟩
    · exact show execFabricCommandPacket src tag p s = _ from if_pos (by simp [halive, hready])
    · exact show execFabricCommandPacket src tag p s = _ from if_neg (by rcases h with h | h <;> simp [h])
  case info =>
    intro s u q htakes
    refine ⟨fun hpage => ?_, fun hpage => ?_⟩
    · exact show execNodeInfo s = _ from (withSub_takes htakes rfl).trans (congrArg ok (if_neg (by omega)))
    · exact show execNodeInfo s = _ from (withSub_takes htakes rfl).trans (congrArg ok (if_pos hpage))

end Sys2Proof.Machine

end

section
/-! Forwarded commands (R357): the packet that goes to the target, its reply, its record, and the target that does not answer. -/

namespace Sys2Proof.Machine

open Sys2Proof

section Forward

variable {s u : State} {c slot dest : Nat} {p ps data : Bytes} {r : Remote}

theorem sendLive_here (h : dest = s.nodeId) : s.sendLive .command dest [s.liveTag] data = s.send .command dest [s.liveTag] data :=
  if_pos h

theorem sendLive_port {v : State} {k : Nat} (h : dest ≠ s.nodeId) (hroute : s.routeTo s.liveTag s.liveVer dest = (v, .port k)) :
    s.sendLive .command dest [s.liveTag] data = (v.portSend k s.liveTag data).send .command dest [s.liveTag] data := by
  rw [State.sendLive, State.sendPacket, if_neg h, hroute]
  rfl

theorem sendLive_miss {v : State} {x : Route} (h : dest ≠ s.nodeId) (hroute : s.routeTo s.liveTag s.liveVer dest = (v, x))
    (hport : ∀ k : Nat, x ≠ .port k) : s.sendLive .command dest [s.liveTag] data = v.routeMiss := by
  rw [State.sendLive, State.sendPacket, if_neg h, hroute]
  cases x with
  | port k => exact absurd rfl (hport k)
  | here => rfl
  | unreachable => rfl
  | absent => rfl

theorem forward_eq (hdest : dest = fld p 32 2) (hdata : data = forwardHeader p ++ ps)
    (hr : r = ⟨dest, c, slot, hdTag p, hdOpcode p, hdMsi p, none⟩)
    (hu : u = { s with cmd := { s.cmd with remotes := s.cmd.remotes ++ [r] } }) : s.forward c slot p ps =
      if (dest != u.nodeId && u.lookup u.liveTag u.liveVer dest == .unreachable) = true then
        ({ u with cmd := { u.cmd with remotes := u.cmd.remotes.filter (fun x => x != r) } } : State).remoteDead c slot
          (hdOpcode p) (hdTag p)
      else u.sendLive .command dest [u.liveTag] data := by
  subst hdest hdata hr hu
  rfl

end Forward

section Answer

variable {k : Fin 1024} {b : Vector (BitVec 8) 64} {s u : State} {r : Remote}

theorem exec_remoteReply_none (hnone : s.remoteAt k = none) : exec (.remoteReplyArrival k b) s = ok s := by
  show execRemoteReplyArrival k b s = _
  simp only [execRemoteReplyArrival, hnone]

theorem exec_remoteTimeout_none (hnone : s.remoteAt k = none) : exec (.remoteReplyTimeout k) s = ok s := by
  show execRemoteReplyTimeout k s = _
  simp only [execRemoteReplyTimeout, hnone]

/-- The node once a target's reply b came to remote r: a short command's is forgotten, a long one's waits for its record. -/
def State.remoteReplied (s : State) (r : Remote) (b : Bytes) : State :=
  if fld b 8 4 = 0 then s else { s with cmd := { s.cmd with remotes := s.cmd.remotes ++ [{ r with handle := some (fld b 8 4) }] } }

variable (hsome : s.remoteAt k = some r) (hu : u = s.dropRemote r)
include hsome hu

theorem exec_remoteReply {v : State} (hv : v = u.remoteReplied r b.toList) : exec (.remoteReplyArrival k b) s =
    ok (v.setSlot k (mkReply (fld (v.slot k) 2 1) 2 (fld b.toList 4 2) (fld b.toList 6 2) (fld b.toList 8 4) (fld b.toList 12 4)
      (sub b.toList 16 48))) := by
  subst hu hv
  show execRemoteReplyArrival k b s = _
  simp only [execRemoteReplyArrival, hsome]
  rfl

theorem exec_remoteTimeout : exec (.remoteReplyTimeout k) s =
    ok ((u.ev F.NODE_CMD_EVENTS_REMOTE_DEAD).replyTo (.loc r.chan) r.slot r.opcode r.tag St.targetDead 0 []) := by
  subst hu
  show execRemoteReplyTimeout k s = _
  simp only [execRemoteReplyTimeout, hsome]
  rfl

end Answer

section Record

variable {n : Fin 32768} {b : Vector (BitVec 8) 64} {s : State}

theorem exec_remoteRecord_known {r : Remote}
    (hfind : s.cmd.remotes.find? (fun r => r.target == n.val && r.handle == some (fld b.toList 8 4)) = some r) :
    exec (.remoteRecordArrival n b) s = ok ((s.dropRemote r).toRing r.chan b.toList r.msi false) := by
  show execRemoteRecordArrival n b s = _
  simp only [execRemoteRecordArrival, hfind]

theorem exec_remoteRecord_unknown
    (hfind : s.cmd.remotes.find? (fun r => r.target == n.val && r.handle == some (fld b.toList 8 4)) = none) :
    exec (.remoteRecordArrival n b) s = ok s := by
  show execRemoteRecordArrival n b s = _
  simp only [execRemoteRecordArrival, hfind]

end Record

section Probe

variable {dead : List (Fin 32768)} {s u : State} {r : Remote} {h : Nat}

theorem exec_remoteProbe_none (hnone : s.cmd.remotes = []) : exec (.remoteProbe dead) s = ok s := by
  show execRemoteProbe dead s = _
  rw [execRemoteProbe, hnone]
  rfl

/-- The end of a remote that its probe finds dead. -/
def State.remoteLost (s : State) (r : Remote) : State :=
  ((s.dropRemote r).ev F.NODE_CMD_EVENTS_REMOTE_DEAD).toRing r.chan
    (patch (s.mkRecord 0 r.opcode St.targetDead (r.handle.getD 0) r.tag 0 []) 2 (natLE 2 r.target)) r.msi false

theorem exec_remoteProbe_one (hone : s.cmd.remotes = [r]) (hhandle : r.handle = some h) (hu : u = s.sendLive .probe r.target [] []) :
    exec (.remoteProbe dead) s = ok (if (dead.any (fun d => d.val == r.target)
      || u.lookup u.liveTag u.liveVer r.target == .unreachable) = true then u.remoteLost r else u) := by
  subst hu
  show execRemoteProbe dead s = _
  have hheld : s.cmd.remotes.filter (fun r => r.handle.isSome) = [r] := by simp [hone, hhandle]
  simp only [execRemoteProbe, hheld, List.foldl_cons, List.foldl_nil, List.filter_cons, List.filter_nil]
  split <;> rfl

end Probe

/-- Settles O60: the packet, the reply, the record and the probe of a forwarded command. -/
theorem forwardedCommandsConclude : Obligations.ForwardedCommandsConclude := by
  unfold Obligations.ForwardedCommandsConclude
  refine ⟨?forward, ?reply, fun k b s hnone => ⟨exec_remoteReply_none hnone, exec_remoteTimeout_none hnone⟩,
    fun n b s => ⟨fun r => exec_remoteRecord_known, exec_remoteRecord_unknown⟩, fun dead s => exec_remoteProbe_none, ?probe⟩
  case forward =>
    intro s u c slot dest p ps data r hdest hdata hr hu
    rw [forward_eq hdest hdata hr hu]
    refine ⟨fun hhere => ?_, fun haway hgone => ?_, fun v k haway hgone hroute => ?_, fun v x haway hgone hroute hport => ?_⟩
    · rw [if_neg (by simp [hhere]), sendLive_here hhere]
    · rw [if_pos (by simp [haway, hgone])]
    · rw [if_neg (by simp [hgone]), sendLive_port haway hroute]
    · rw [if_neg (by simp [hgone]), sendLive_miss haway hroute hport]
  case reply =>
    intro k b s u r hsome hu
    refine ⟨fun hshort => ?_, fun v hlong hv => ?_, exec_remoteTimeout hsome hu⟩
    · rw [exec_remoteReply hsome hu (if_pos hshort).symm, hshort]
    · exact exec_remoteReply hsome hu (hv.trans (if_neg hlong).symm)
  case probe =>
    intro dead s u v r h hone hhandle hu
    rw [exec_remoteProbe_one hone hhandle hu]
    refine ⟨fun halive hroute => congrArg ok (if_neg (by simp [halive, hroute])), fun hdead hv => ?_⟩
    rw [if_pos (by simpa using hdead), State.remoteLost, hv, hhandle]
    rfl

end Sys2Proof.Machine

end

section
/-! The Keep and ageing (R376, R377, R382–R391): reads and writes of a region, an update's operations, counters, surveys, monitors. -/

namespace Sys2Proof.Machine

open Sys2Proof

/-! ## KEEP_READ and KEEP_WRITE -/

section Keep

variable {s u : State} {q : Sub}

/-- Parameters KEEP_READ refuses. -/
def Sub.keepReadBad (q : Sub) : Prop := q.p 0 1 > 9 ∨ q.p 8 1 = 0 ∨ q.p 8 1 > 48 ∨ q.p 4 4 + q.p 8 1 > keepLimit (q.p 0 1)

theorem exec_keepRead_bad (htakes : s.takes q Op.keepRead u) (h : q.keepReadBad) : exec .keepRead s = ok (u.short q St.badParam []) :=
  show execKeepRead s = _ from
    (withSub_takes htakes rfl).trans (congrArg ok (if_pos (by simpa [Sub.keepReadBad, or_assoc] using h)))

theorem exec_keepRead_good (htakes : s.takes q Op.keepRead u) (h : ¬q.keepReadBad) : exec .keepRead s =
    ok (if u.keep.damaged.contains (q.p 0 1) then u.short q St.digestMismatch []
      else u.short q St.ok (u.keepRead (q.p 0 1) (q.p 4 4) (q.p 8 1))) :=
  show execKeepRead s = _ from
    (withSub_takes htakes rfl).trans (congrArg ok (if_neg (by simpa [Sub.keepReadBad, or_assoc] using h)))

/-- Parameters KEEP_WRITE refuses: other regions than 1 and 9, a bad length, and the staged site key of region 9. -/
def Sub.keepWriteBad (q : Sub) : Prop := q.p 0 1 ≠ 1 ∧ q.p 0 1 ≠ 9 ∨ q.p 8 2 = 0 ∨ 4080 < q.p 8 2 ∨
  keepLimit (q.p 0 1) < q.p 4 4 + q.p 8 2 ∨ q.params.length < 16 + q.p 8 2 ∨
  q.p 0 1 = 9 ∧ overlaps (q.p 4 4) (q.p 8 2) 4096 4096 = true

/-- What KEEP_WRITE does once its parameters are good. -/
def State.keepWritten (u : State) (q : Sub) (g off n : Nat) : State :=
  if (u.keep.damaged.contains g && !(decide (off = 0) && decide ((u.region g).data.length ≤ n))) = true then
    u.short q St.digestMismatch []
  else if (u.removable || u.keep.erasing.contains g || u.keep.updates.any (·.region == g)) = true then u.short q St.busy []
  else if u.isWorn g then u.short q St.keepWorn []
  else (u.keepPut g (patch (sub (u.region g).data 0 (max (u.region g).data.length (off + n))) off (sub q.params 16 n))
    (.reply q)).keepStart

variable (htakes : s.takes q Op.keepWrite u)
include htakes

theorem exec_keepWrite : exec .keepWrite s = ok
    (if (decide (q.p 0 1 > 9) || decide (q.p 8 2 = 0) || decide (q.p 8 2 > 4080) || decide (q.p 4 4 + q.p 8 2 > keepLimit (q.p 0 1))
      || decide (q.params.length < 16 + q.p 8 2)) = true then u.short q St.badParam []
    else if (q.p 0 1 != 1 && q.p 0 1 != 9) = true then u.short q St.badParam []
    else if (q.p 0 1 == 9 && overlaps (q.p 4 4) (q.p 8 2) 4096 4096) = true then u.short q St.badParam []
    else u.keepWritten q (q.p 0 1) (q.p 4 4) (q.p 8 2)) :=
  show execKeepWrite s = _ from withSub_takes htakes rfl

theorem exec_keepWrite_bad (h : q.keepWriteBad) : exec .keepWrite s = ok (u.short q St.badParam []) := by
  rw [exec_keepWrite htakes]
  split
  · rfl
  split
  · rfl
  split
  · rfl
  next hlen hregion hsite =>
    simp only [Bool.or_eq_true, Bool.and_eq_true, decide_eq_true_eq, bne_iff_ne, beq_iff_eq] at hlen hregion hsite
    rcases h with h | h | h | h | h | h
    · exact absurd h hregion
    · omega
    · omega
    · omega
    · omega
    · exact absurd h hsite

theorem exec_keepWrite_good (h : ¬q.keepWriteBad) :
    exec .keepWrite s = ok (u.keepWritten q (q.p 0 1) (q.p 4 4) (q.p 8 2)) := by
  simp only [Sub.keepWriteBad, not_or] at h
  obtain ⟨hregion, hzero, hmax, hlimit, hlen, hsite⟩ := h
  rw [exec_keepWrite htakes, if_neg, if_neg, if_neg]
  · simpa only [Bool.and_eq_true, beq_iff_eq] using hsite
  · simpa only [Bool.and_eq_true, bne_iff_ne] using hregion
  · simp only [Bool.or_eq_true, decide_eq_true_eq]
    omega

end Keep

section Written

variable {u : State} {q : Sub} {g off n : Nat}

theorem keepWritten_damaged (hdamaged : u.keep.damaged.contains g = true) (h : off ≠ 0 ∨ n < (u.region g).data.length) :
    u.keepWritten q g off n = u.short q St.digestMismatch [] := by
  refine if_pos ?_
  rw [hdamaged, Bool.true_and, Bool.not_eq_true', Bool.and_eq_false_iff, decide_eq_false_iff_not, decide_eq_false_iff_not]
  omega

theorem keepWritten_whole (h : u.keep.damaged.contains g = false ∨ off = 0 ∧ (u.region g).data.length ≤ n) :
    u.keepWritten q g off n =
      if (u.removable || u.keep.erasing.contains g || u.keep.updates.any (·.region == g)) = true then u.short q St.busy []
      else if u.isWorn g then u.short q St.keepWorn []
      else (u.keepPut g (patch (sub (u.region g).data 0 (max (u.region g).data.length (off + n))) off (sub q.params 16 n))
        (.reply q)).keepStart := by
  refine if_neg ?_
  rcases h with h | ⟨hoff, hlen⟩
  · simp only [h, Bool.false_and, Bool.false_eq_true, not_false_iff]
  · simp [hoff, hlen]

end Written

/-! ## The operations of an update -/

section Update

variable {s u : State} {k : KeepThen} {op : NorOp} {good : Bool} {x : KUpdate} {xs : List KUpdate}

theorem exec_norDone_dead (halive : s.alive = false) : exec (.norOperationDone op good) s = ok s :=
  show execNorOperationDone op good s = _ from if_pos (by simp [halive])

theorem exec_norDone_update (halive : s.alive = true) (hupdate : s.norUpdate good = (u, k)) : exec (.norOperationDone .update good) s =
    ok ((u.keepThen k).siteChanged (sub (s.keepData 9) 512 64)).ageBudgets.removalProceed := by
  show execNorOperationDone .update good s = _
  refine (if_neg (by simp [halive])).trans ?_
  simp only [hupdate]

theorem exec_norDone_erase {g : Fin 10} (halive : s.alive = true) :
    exec (.norOperationDone (.erase g) good) s = ok (s.norErase g good).ageBudgets.removalProceed :=
  show execNorOperationDone (.erase g) good s = _ from if_neg (by simp [halive])

theorem exec_norDone_staging (halive : s.alive = true) :
    exec (.norOperationDone .staging good) s = ok (s.norStaging good).removalProceed :=
  show execNorOperationDone .staging good s = _ from if_neg (by simp [halive])

variable (hupdates : s.keep.updates = x :: xs)
include hupdates

theorem norUpdate_failed (hphase : x.phase ≠ 0) : s.norUpdate false = ((({ s with keep := { s.keep with
    remapped := s.keep.remapped ++ [(x.region, (s.region x.region).next)] } } : State).ev
      F.KEEP_EVENTS_SECTOR_REMAPPED).keepNote x.region 2, .none) := by
  simp only [State.norUpdate, hupdates]
  rw [if_neg hphase]
  rfl

theorem norUpdate_erased (hphase : x.phase = 1) : s.norUpdate true = ({ s with keep := { s.keep with
    updates := { x with phase := 2 } :: xs, erasing := s.keep.erasing.filter (· != x.region) } }, .none) := by
  simp only [State.norUpdate, hupdates, hphase]
  rfl

theorem norUpdate_programmed (hphase : x.phase = 2) {v : State} (hv : v = s.keepCommit x.region x.data) : s.norUpdate true =
    (({ v with keep := { v.keep with updates := v.keep.updates.drop 1 } } : State).keepStart, x.thn) := by
  subst hv
  simp only [State.norUpdate, hupdates, hphase]
  rfl

end Update

/-! ## Counters and the ageing log -/

section Counters

variable {sec : BitVec 32} {s u : State} {q : Sub}

theorem exec_counterRecordTimer : exec (.counterRecordTimer sec) s =
    if sec.toNat < s.keep.lastCounter + 900 then ok s else ok (s.powerOn sec.toNat).counterRecord := rfl

theorem exec_counterFold : exec (.counterFold sec) s = if sec.toNat < s.keep.lastFold + 3600000 then ok s else
    ok (({ s.powerOn sec.toNat with keep := { (s.powerOn sec.toNat).keep with lastFold := sec.toNat } } : State).keepAppend 8
      (s.powerOn sec.toNat).foldData) := rfl

variable (htakes : s.takes q Op.readAgeingLog u)
include htakes

theorem exec_readAgeingLog_damaged (hdamaged : u.keep.damaged.contains 3 = true) :
    exec .readAgeingLog s = ok (u.short q St.digestMismatch []) :=
  show execReadAgeingLog s = _ from (withSub_takes htakes rfl).trans (congrArg ok (if_pos hdamaged))

theorem exec_readAgeingLog_record {i : Nat} {r : Bytes} (hdamaged : u.keep.damaged.contains 3 = false)
    (hrec : (u.region 3).recs[q.p 0 4]? = some (i, r)) : exec .readAgeingLog s = ok (u.short q St.ok (r.take 48)) := by
  show execReadAgeingLog s = _
  refine (withSub_takes htakes rfl).trans (congrArg ok ((if_neg (ne_true_of_eq_false hdamaged)).trans ?_))
  rw [hrec]

theorem exec_readAgeingLog_none (hdamaged : u.keep.damaged.contains 3 = false) (hrec : (u.region 3).recs[q.p 0 4]? = none) :
    exec .readAgeingLog s = ok (u.short q St.badParam []) := by
  show execReadAgeingLog s = _
  refine (withSub_takes htakes rfl).trans (congrArg ok ((if_neg (ne_true_of_eq_false hdamaged)).trans ?_))
  rw [hrec]

end Counters

/-! ## Surveys, self-tests and replans -/

section Surveys

variable {s u v : State} {q : Sub}

/-- The terraces whose path margins a survey of kinds `kinds` measures. -/
def State.surveyed (u : State) (mask kinds : Nat) : List Nat :=
  if bit kinds 0 then (terraces mask).filter (fun t => !bit (u.rd F.AGE_STATUS_RETIRED) t) else []

theorem exec_marginSurvey (htakes : s.takes q Op.marginSurvey u) : exec .marginSurvey s =
    ok (if q.p 2 1 > 7 then u.refuse q St.badParam else u.queueAge q (fun h =>
      ⟨some h, false, q.p 2 1, 0, u.surveyed (q.p 0 2) (q.p 2 1), [], q.p 0 2, q.deadline, [], 0, 0, false⟩)) :=
  show execMarginSurvey s = _ from withSub_takes htakes rfl

theorem surveyed_eq {ts : List Nat} {mask kinds : Nat}
    (hpath : bit kinds 0 = true → ts = (terraces mask).filter (fun t => !bit (u.rd F.AGE_STATUS_RETIRED) t))
    (hnone : bit kinds 0 = false → ts = []) : u.surveyed mask kinds = ts := by
  rw [State.surveyed]
  cases h : bit kinds 0 with
  | true => exact (hpath h).symm
  | false => exact (hnone h).symm

theorem exec_selfTest (htakes : s.takes q Op.selfTest u) : exec .selfTest s =
    ok (if q.p 2 1 > 1 then u.refuse q St.badParam else u.queueAge q (fun h => ⟨some h, true, 0, q.p 2 1,
      (terraces (q.p 0 2)).filter (fun t => !bit (u.rd F.AGE_STATUS_RETIRED) t), [], q.p 0 2, q.deadline, [], 0, 0, false⟩)) :=
  show execSelfTest s = _ from withSub_takes htakes rfl

section Replans

variable (htakes : s.takes q Op.marginReplan u)
include htakes

theorem exec_marginReplan_busy (h : u.age.replan ≠ none ∨ u.removable = true) :
    exec .marginReplan s = ok (u.refuse q St.busy) :=
  show execMarginReplan s = _ from (withSub_takes htakes rfl).trans (congrArg ok (if_pos (by
    rcases h with h | h
    · simp [Option.isSome_iff_ne_none.2 h]
    · simp [h])))

theorem exec_marginReplan_taken {h : Nat} (hnone : u.age.replan = none) (hin : u.removable = false) (haccept : u.accept q = (v, h)) :
    exec .marginReplan s = ok
      (if v.isWorn 2 then (v.setReplan (some ⟨h, v.buildPlan, none, false, [], St.keepWorn⟩)).replanStored
      else ((v.setReplan (some ⟨h, v.buildPlan, none, false, [], St.ok⟩)).keepPut 2 v.buildPlan (.replan h)).keepStart) := by
  show execMarginReplan s = _
  refine (withSub_takes htakes rfl).trans (congrArg ok ((if_neg (by simp [hnone, hin])).trans ?_))
  simp only [haccept]

end Replans

section PartEnd

/-- A request once the part of a terrace has ended, with the records it then holds. -/
def AgeReq.ended (x : AgeReq) (t : Nat) (recs : List (Nat × Bytes)) (bad : Bool) : AgeReq :=
  if x.running.contains t then { x with
    running := x.running.filter (· != t)
    recs := recs
    failing := if x.selfTest && bad then setBit x.failing t true else x.failing } else x

variable {t : Fin 16} {m1 mr : BitVec 16} {ro : BitVec 32} {w : Fin 16} {temp : BitVec 16} {bad : Bool} {r : AgeReq}

theorem exec_surveyPartEnd_none (hfind : s.age.queue.find? (·.running.contains t.val) = none) :
    exec (.surveyPartEnd t m1 mr ro w temp bad) s = ok s := by
  show execSurveyPartEnd t m1 mr ro w temp bad s = _
  simp only [execSurveyPartEnd, hfind]

variable (hfind : s.age.queue.find? (·.running.contains t.val) = some r)
include hfind

theorem exec_surveyPartEnd_quiet (h : r.selfTest = true ∨ r.calibration = true)
    (hu : u = s.setQueue (s.age.queue.map (fun x => x.ended t x.recs bad))) :
    exec (.surveyPartEnd t m1 mr ro w temp bad) s = ok ((u.settlePower t).finishReqs.startParts t).showAge.admitFinish := by
  have hpath : (!r.selfTest && !r.calibration) = false := by rcases h with h | h <;> simp [h]
  subst hu
  show execSurveyPartEnd t m1 mr ro w temp bad s = _
  simp only [execSurveyPartEnd, hfind, hpath, Bool.false_eq_true, if_false, Bool.not_eq_true', ← Bool.not_eq_true, ite_not,
    AgeReq.ended]

theorem exec_surveyPartEnd_path (hself : r.selfTest = false) (hcal : r.calibration = false)
    (hu : u = s.setQueue (s.age.queue.map (fun x => x.ended t (mput x.recs t (s.ageRecord 1 t temp.toNat
      (natLE 2 m1.toNat ++ natLE 2 mr.toNat ++ natLE 4 ro.toNat ++ natLE 1 w))) bad)))
    (hv : v = u.wr (F.AGE_TERRACE_MARGIN_MV t) m1.toNat) :
    exec (.surveyPartEnd t m1 mr ro w temp bad) s = ok ((v.settlePower t).finishReqs.startParts t).showAge.admitFinish := by
  have hpath : (!r.selfTest && !r.calibration) = true := by simp [hself, hcal]
  subst hu hv
  show execSurveyPartEnd t m1 mr ro w temp bad s = _
  simp only [execSurveyPartEnd, hfind, hpath, if_true, Bool.not_eq_true', ← Bool.not_eq_true, ite_not, AgeReq.ended]

end PartEnd

section Deadline

variable {h : Nat} {r : AgeReq}

theorem exec_surveyDeadline_none (hfind : s.age.queue.find? (fun r => r.handle == some h) = none) :
    exec (.surveyDeadline h) s = ok s := by
  show execSurveyDeadline h s = _
  simp only [execSurveyDeadline, hfind]

variable (hfind : s.age.queue.find? (fun r => r.handle == some h) = some r)
include hfind

theorem exec_surveyDeadline_idle (hidle : r.deadline = 0 ∨ r.left = []) : exec (.surveyDeadline h) s = ok s := by
  show execSurveyDeadline h s = _
  simp only [execSurveyDeadline, hfind]
  exact if_pos (by simpa using hidle)

theorem exec_surveyDeadline_unreached (hreach : s.reach r.deadline = none) : exec (.surveyDeadline h) s = ok s := by
  show execSurveyDeadline h s = _
  simp only [execSurveyDeadline, hfind, hreach]
  exact ite_self _

theorem exec_surveyDeadline_reached (hdeadline : r.deadline ≠ 0) (hleft : r.left ≠ []) (hreach : s.reach r.deadline = some u) :
    exec (.surveyDeadline h) s = ok (u.setQueue (u.age.queue.map
      (fun x => if x.handle == some h then { x with expired := x.expired ||| maskOf x.left, left := [] } else x))).finishReqs.showAge := by
  show execSurveyDeadline h s = _
  simp only [execSurveyDeadline, hfind, hreach]
  exact if_neg (by simp [hdeadline, hleft])

end Deadline

end Surveys

/-! ## Monitors -/

section Eye

variable {p : Fin 10} {hs ws : Bytes} {temp : BitVec 16} {s u : State}

theorem exec_eyeMonitor_down (hdown : s.portState p ≠ Port.up) : exec (.eyeMonitorSample p hs ws temp) s = ok s :=
  show execEyeMonitorSample p hs ws temp s = _ from if_pos (by simpa using hdown)

variable (hup : s.portState p = Port.up)
include hup

theorem exec_eyeMonitor_noLanes (hlanes : bitList (s.rd (F.PORT_STATUS_LANES_TRAINED p)) 8 = [])
    (hu : u = { s with age := { s.age with eyeAt := mput s.age.eyeAt p (s.now, temp.toNat) } }) :
    exec (.eyeMonitorSample p hs ws temp) s = ok u := by
  subst hu
  show execEyeMonitorSample p hs ws temp s = _
  refine (if_neg (by simp [hup])).trans ?_
  simp only [hlanes, List.foldl_nil]

theorem exec_eyeMonitor_lanes {l0 wl mh : Nat} {ls : List Nat} (hlanes : bitList (s.rd (F.PORT_STATUS_LANES_TRAINED p)) 8 = l0 :: ls)
    (hu : u = { s with age := { s.age with
      eyes := (l0 :: ls).foldl (fun m l => mput m (p.val * 8 + l) (fld hs l 1, fld ws l 1)) s.age.eyes
      eyeAt := mput s.age.eyeAt p (s.now, temp.toNat) } })
    (hworst : worstLane ((l0 :: ls).map (fun l => (l, fld hs l 1))) (l0, fld hs l0 1) = (wl, mh)) :
    exec (.eyeMonitorSample p hs ws temp) s = ok (((u.wr (F.AGE_EYE_MIN_HEIGHT_MV p) mh).wr (F.AGE_EYE_MIN_WIDTH p)
      (((l0 :: ls).map (fun l => fld ws l 1)).foldl min (fld ws l0 1))).wr (F.AGE_EYE_WORST_LANE p) wl) := by
  subst hu
  show execEyeMonitorSample p hs ws temp s = _
  refine (if_neg (by simp [hup])).trans ?_
  simp only [hlanes, hworst]

end Eye

/-- Settles O52, command by command; an update's three outcomes follow its phase. -/
theorem keepAndAgeing : Obligations.KeepAndAgeing := by
  unfold Obligations.KeepAndAgeing
  refine ⟨?read, ?write, fun s u q htakes h => exec_keepWrite_bad htakes h, ?norUpdate,
    fun s g good halive => ⟨exec_norDone_erase halive, exec_norDone_staging halive⟩, fun s op good => exec_norDone_dead,
    fun s x xs hupdates => ⟨norUpdate_failed hupdates, norUpdate_erased hupdates, fun hphase v => norUpdate_programmed hupdates hphase⟩,
    ?counters, fun s u q => exec_readAgeingLog_damaged,
    fun s u q i r htakes hdamaged => ⟨exec_readAgeingLog_record htakes hdamaged, exec_readAgeingLog_none htakes hdamaged⟩,
    ?survey, ?selfTest, fun s q mk hfull => if_pos hfull, ?replan, ?offsets, fun t m1 mr ro w temp bad s => exec_surveyPartEnd_none,
    fun t m1 mr ro w temp bad s u r => exec_surveyPartEnd_quiet, fun t m1 mr ro w temp bad s u v r => exec_surveyPartEnd_path,
    fun h s u r hfind => ⟨exec_surveyDeadline_reached hfind, exec_surveyDeadline_unreached hfind, exec_surveyDeadline_idle hfind⟩,
    fun h s => exec_surveyDeadline_none, fun m ms temp s => rfl, fun p hs ws temp s => ⟨exec_eyeMonitor_down,
      fun u => exec_eyeMonitor_noLanes, fun u l0 ls wl mh hup => exec_eyeMonitor_lanes hup⟩⟩
  case read =>
    intro s u q htakes
    refine ⟨fun hregion hpos hmax hlimit => ?_, fun h => exec_keepRead_bad htakes h⟩
    rw [exec_keepRead_good htakes (by rw [Sub.keepReadBad]; omega)]
    exact ⟨fun hsound => congrArg ok (if_neg (ne_true_of_eq_false hsound)), fun hdamaged => congrArg ok (if_pos hdamaged)⟩
  case write =>
    rintro s u q g off n htakes rfl rfl rfl hregion hpos hmax hlimit hlen hsite
    have hgood : ¬q.keepWriteBad := by
      simp only [Sub.keepWriteBad, not_or]
      refine ⟨by omega, by omega, by omega, by omega, by omega, fun h => ?_⟩
      rw [hsite h.1] at h
      exact Bool.false_ne_true h.2
    rw [exec_keepWrite_good htakes hgood]
    refine ⟨fun hdamaged h => congrArg ok (keepWritten_damaged hdamaged h), fun hwhole => ?_⟩
    rw [keepWritten_whole hwhole]
    refine ⟨fun hbusy => congrArg ok (if_pos (by simpa [or_assoc] using hbusy)), fun hin herase hupdates => ?_⟩
    rw [hin, herase, hupdates]
    exact ⟨fun hworn => congrArg ok (if_pos hworn), fun hworn => congrArg ok (if_neg (ne_true_of_eq_false hworn))⟩
  case norUpdate =>
    rintro s u v k good halive hupdate rfl
    exact exec_norDone_update halive hupdate
  case counters =>
    intro sec s
    refine ⟨fun h => ?_, fun h => ?_, ?_, fun h => ?_⟩
    · rw [exec_counterRecordTimer, if_neg (by omega)]
    · rw [exec_counterRecordTimer, if_pos (by omega)]
    · rintro h u rfl
      rw [exec_counterFold, if_neg (by omega)]
    · rw [exec_counterFold, if_pos (by omega)]
  case survey =>
    intro s u q htakes
    rw [exec_marginSurvey htakes]
    refine ⟨fun h => congrArg ok (if_pos h), fun ts h hpath hnone => ?_⟩
    rw [if_neg (Nat.not_lt_of_le h), surveyed_eq hpath hnone]
  case selfTest =>
    intro s u q htakes
    rw [exec_selfTest htakes]
    exact ⟨fun h => congrArg ok (if_pos h), fun h => congrArg ok (if_neg (Nat.not_lt_of_le h))⟩
  case replan =>
    intro s u v q h htakes
    refine ⟨exec_marginReplan_busy htakes, fun hnone hin haccept => ?_⟩
    rw [exec_marginReplan_taken htakes hnone hin haccept]
    exact ⟨fun hworn => congrArg ok (if_pos hworn), fun hworn => congrArg ok (if_neg (ne_true_of_eq_false hworn))⟩
  case offsets =>
    refine fun m1 => ⟨?_, ?_, ?_⟩
    · rintro rfl
      decide
    · rintro rfl
      decide
    · rintro rfl
      decide

end Sys2Proof.Machine

end

section
/-! Supply and temperature (R378, R473–R479): the feeds, the power failure, standby, MAIN_EN, and the trip and backstop limits. -/

namespace Sys2Proof.Machine

open Sys2Proof

/-! ## The input and its feeds -/

section Input

variable {b high : Bool} {s : State}

theorem inputLow_low (hlow : s.flag F.NODE_SUPPLY_LOW = true) : s.inputLow = s := if_pos hlow

theorem inputLow_falls (hhigh : s.flag F.NODE_SUPPLY_LOW = false) :
    s.inputLow = (s.wr F.NODE_SUPPLY_LOW 1).ev F.NODE_ENV_EVENTS_LOW_INPUT := if_neg (ne_true_of_eq_false hhigh)

theorem setFeed_eq (v : Bool) :
    s.setFeed false v = s.wr F.NODE_SUPPLY_FEED_A_OK (b2n v) ∧ s.setFeed true v = s.wr F.NODE_SUPPLY_FEED_B_OK (b2n v) := by
  simp only [State.setFeed, if_true, Bool.false_eq_true, if_false, and_self]

theorem exec_feedLost_other (halive : s.alive = true) (ha : s.flag F.NODE_SUPPLY_FEED_A_OK = true)
    (hb : s.flag F.NODE_SUPPLY_FEED_B_OK = true) : exec (.feedLost b high) s =
      ok (if high then (s.setFeed b false).ev F.NODE_ENV_EVENTS_FEED_LOST else (s.setFeed b false).inputLow) := by
  show execFeedLost b high s = _
  exact if_neg (by cases b <;> simp [halive, State.feedOk, ha, hb])

theorem exec_feedLost_idle (h : s.alive = false ∨ s.flag F.NODE_SUPPLY_FEED_A_OK = false ∨ s.flag F.NODE_SUPPLY_FEED_B_OK = false) :
    exec (.feedLost b high) s = ok s := by
  show execFeedLost b high s = _
  refine if_pos ?_
  rcases h with h | h | h
  · simp [h]
  · cases b <;> simp [State.feedOk, h]
  · cases b <;> simp [State.feedOk, h]

section Alive

variable (halive : s.alive = true)
include halive

theorem exec_inputLow : exec .inputLow s = ok s.inputLow := show execInputLow s = _ from if_pos halive

theorem exec_inputRestored : exec .inputRestored s = ok (s.wr F.NODE_SUPPLY_LOW 0) :=
  show execInputRestored s = _ from if_pos halive

theorem exec_feedRestored : exec (.feedRestored b) s = ok (s.setFeed b true) :=
  show execFeedRestored b s = _ from if_pos halive

theorem exec_powerFail : exec .powerFail s = ok s.powerFail := show execPowerFail s = _ from if_pos halive

end Alive

section Dead

variable (hdead : s.alive = false)
include hdead

theorem exec_inputLow_dead : exec .inputLow s = ok s := show execInputLow s = _ from if_neg (ne_true_of_eq_false hdead)

theorem exec_inputRestored_dead : exec .inputRestored s = ok s :=
  show execInputRestored s = _ from if_neg (ne_true_of_eq_false hdead)

theorem exec_feedRestored_dead : exec (.feedRestored b) s = ok s :=
  show execFeedRestored b s = _ from if_neg (ne_true_of_eq_false hdead)

theorem exec_powerFail_dead : exec .powerFail s = ok s := show execPowerFail s = _ from if_neg (ne_true_of_eq_false hdead)

end Dead

end Input

/-! ## Standby and MAIN_EN -/

section Standby

variable {a b main : Bool} {s u v : State}

theorem exec_standbyRestart_up (hfailed : s.boot.failed = true) (hfeed : a = true ∨ b = true) :
    exec (.standbyRestart a b main) s = ok (s.standbyUp a b main) :=
  show execStandbyRestart a b main s = _ from if_pos (by simp [hfailed, hfeed])

theorem exec_standbyRestart_idle (h : s.boot.failed = false ∨ a = false ∧ b = false) : exec (.standbyRestart a b main) s = ok s :=
  show execStandbyRestart a b main s = _ from if_neg (by rcases h with h | ⟨ha, hb⟩ <;> simp [*])

theorem exec_standbyApplied_up (h : s.boot.failed = true ∨
    s.flag F.NODE_SUPPLY_FEED_A_OK = false ∧ s.flag F.NODE_SUPPLY_FEED_B_OK = false) (hfeed : a = true ∨ b = true) :
    exec (.standbyPowerApplied a b main) s = ok (s.standbyUp a b main) :=
  show execStandbyPowerApplied a b main s = _ from if_pos (by simpa [State.feedOk] using ⟨h, hfeed⟩)

theorem exec_standbyApplied_idle (h : s.boot.failed = false ∧
    (s.flag F.NODE_SUPPLY_FEED_A_OK = true ∨ s.flag F.NODE_SUPPLY_FEED_B_OK = true) ∨ a = false ∧ b = false) :
    exec (.standbyPowerApplied a b main) s = ok s := by
  show execStandbyPowerApplied a b main s = _
  refine if_neg ?_
  rcases h with ⟨hfailed, hfeed | hfeed⟩ | ⟨ha, hb⟩
  · simp [State.feedOk, hfailed, hfeed]
  · simp [State.feedOk, hfailed, hfeed]
  · simp [ha, hb]

theorem exec_mainEnRise_idle (h : s.alive = false ∨ s.flag F.NODE_SUPPLY_MAIN_EN = true) : exec .mainEnRise s = ok s :=
  show execMainEnRise s = _ from if_pos (by simpa using h)

theorem exec_mainEnFall_idle (h : s.alive = false ∨ s.flag F.NODE_SUPPLY_MAIN_EN = false) : exec .mainEnFall s = ok s :=
  show execMainEnFall s = _ from if_pos (by simpa using h)

theorem exec_mainEnRise_rises (halive : s.alive = true) (hoff : s.flag F.NODE_SUPPLY_MAIN_EN = false)
    (hu : u = s.wr F.NODE_SUPPLY_MAIN_EN 1) : exec .mainEnRise s =
      ok (if u.boot.fell then u.fullReset 4 else { u with boot := { u.boot with standby := false } }) := by
  subst hu
  show execMainEnRise s = _
  rw [execMainEnRise, if_neg (by simp [halive, hoff])]

theorem exec_mainEnFall_falls (halive : s.alive = true) (hon : s.flag F.NODE_SUPPLY_MAIN_EN = true)
    (hu : u = s.wr F.NODE_SUPPLY_MAIN_EN 0) (hv : v = if u.boot.standby then u else u.powerDown) :
    exec .mainEnFall s = ok { v with boot := { v.boot with fell := true } } := by
  subst hu hv
  show execMainEnFall s = _
  rw [execMainEnFall, if_neg (by simp [halive, hon])]

end Standby

/-! ## Temperature -/

section Trip

/-- What `tripUnit` says of the first n devices: none is at its trip temperature, or u is the hottest of those that are, the first
of equal ones. -/
def IsTrip (l : List Nat) (n : Nat) : Option (Nat × Nat) → Prop
  | none => ∀ u, u < n → l.getD u 0 < tripAt u
  | some (u, t) => u < n ∧ t = l.getD u 0 ∧ tripAt u ≤ t ∧
      ∀ v, v < n → tripAt v ≤ l.getD v 0 → l.getD v 0 ≤ t ∧ (l.getD v 0 = t → u ≤ v)

/-- One device more: it is the hottest where it is at its trip temperature and hotter than the hottest before. -/
def tripNext (l : List Nat) (best : Option (Nat × Nat)) (u : Nat) : Option (Nat × Nat) :=
  if l.getD u 0 < tripAt u then best
  else match best with
    | some (_, b) => if b < l.getD u 0 then some (u, l.getD u 0) else best
    | none => some (u, l.getD u 0)

theorem tripUnit_eq (l : List Nat) : tripUnit l = (List.range l.length).foldl (tripNext l) none := rfl

theorem forall_lt_succ_of {n : Nat} {P : Nat → Prop} (h : ∀ v, v < n → P v) (hn : P n) : ∀ v, v < n + 1 → P v := fun v hv => by
  rcases Nat.lt_succ_iff_lt_or_eq.1 hv with hv | rfl
  · exact h v hv
  · exact hn

theorem isTrip_next {l : List Nat} {n : Nat} {best : Option (Nat × Nat)} (h : IsTrip l n best) :
    IsTrip l (n + 1) (tripNext l best n) := by
  unfold tripNext
  split
  next hcool =>
    cases best with
    | none => exact forall_lt_succ_of h hcool
    | some b =>
      obtain ⟨hu, ht, htrip, hall⟩ := h
      exact ⟨by omega, ht, htrip, forall_lt_succ_of hall (fun htrip => by omega)⟩
  next hhot =>
    cases best with
    | none =>
      exact ⟨by omega, rfl, by omega, forall_lt_succ_of (fun v hv htrip => absurd (h v hv) (by omega)) (fun _ => by omega)⟩
    | some b =>
      obtain ⟨hu, ht, htrip, hall⟩ := h
      dsimp only
      split
      next hmore =>
        exact ⟨by omega, rfl, by omega, forall_lt_succ_of
          (fun v hv htrip => by have := (hall v hv htrip).1; omega) (fun _ => by omega)⟩
      next hless => exact ⟨by omega, ht, htrip, forall_lt_succ_of hall (fun _ => by omega)⟩

theorem isTrip_tripUnit (l : List Nat) : IsTrip l l.length (tripUnit l) := by
  rw [tripUnit_eq]
  generalize l.length = n
  induction n with
  | zero => exact fun u hu => absurd hu (Nat.not_lt_zero u)
  | succ n ih =>
    rw [List.range_succ, List.foldl_append, List.foldl_cons, List.foldl_nil]
    exact isTrip_next ih

theorem tripUnit_none_iff (l : List Nat) : tripUnit l = none ↔ ∀ u, u < l.length → l.getD u 0 < tripAt u := by
  have h := isTrip_tripUnit l
  refine ⟨fun hnone => by rwa [hnone] at h, fun hcool => ?_⟩
  rcases hsome : tripUnit l with _ | ⟨u, t⟩
  · rfl
  · rw [hsome] at h
    obtain ⟨hu, ht, htrip, -⟩ := h
    exact absurd (hcool u hu) (by omega)

end Trip

section Stack

variable {s u : State} {k t base : Nat} (hu : u = s.wr (F.MEM_STACK_TEMP_C k) t) (hnone : s.age.plan = [] → base = 3900)
  (hplan : s.age.plan ≠ [] → base = plRefresh s.age.plan k)
include hu hnone hplan

theorem stackTemp_eq : s.stackTemp k t =
    if t > 85 then
      (if s.rd (F.MEM_STACK_TEMP_C k) > 85 then u.wr (F.MEM_STACK_REFRESH_NS k) (base / 2)
      else (u.wr (F.MEM_STACK_REFRESH_NS k) (base / 2)).ev F.MEM_EVENTS_HOT)
    else if s.rd (F.MEM_STACK_TEMP_C k) > 85 then u.wr (F.MEM_STACK_REFRESH_NS k) base
    else u := by
  have hbase : (if s.age.plan.isEmpty then 3900 else plRefresh s.age.plan k) = base := by
    by_cases h : s.age.plan = []
    · rw [hnone h, h]
      rfl
    · rw [hplan h, if_neg (by simpa using h)]
  subst hu hbase
  rfl

theorem stackTemp_cool (h : t ≤ 85) (hwas : s.rd (F.MEM_STACK_TEMP_C k) ≤ 85) : s.stackTemp k t = u := by
  rw [stackTemp_eq hu hnone hplan, if_neg (by omega), if_neg (Nat.not_lt_of_le hwas)]

theorem stackTemp_cools (h : t ≤ 85) (hwas : 85 < s.rd (F.MEM_STACK_TEMP_C k)) :
    s.stackTemp k t = u.wr (F.MEM_STACK_REFRESH_NS k) base := by
  rw [stackTemp_eq hu hnone hplan, if_neg (by omega), if_pos hwas]

theorem stackTemp_heats (h : 85 < t) (hwas : s.rd (F.MEM_STACK_TEMP_C k) ≤ 85) :
    s.stackTemp k t = (u.wr (F.MEM_STACK_REFRESH_NS k) (base / 2)).ev F.MEM_EVENTS_HOT := by
  rw [stackTemp_eq hu hnone hplan, if_pos h, if_neg (Nat.not_lt_of_le hwas)]

theorem stackTemp_hot (h : 85 < t) (hwas : 85 < s.rd (F.MEM_STACK_TEMP_C k)) :
    s.stackTemp k t = u.wr (F.MEM_STACK_REFRESH_NS k) (base / 2) := by
  rw [stackTemp_eq hu hnone hplan, if_pos h, if_pos hwas]

end Stack

/-- What follows a temperature sample: the trip of a device, the thermal backstop of a Tower die above 100 °C, or nothing. -/
def State.sampled (w : State) (trip : Option (Nat × Nat)) (t0 t1 : Nat) : Out :=
  match trip with
  | some (k, _) => ok ((w.wr F.NODE_THERMAL_TRIP_UNIT k).ev F.NODE_ENV_EVENTS_TRIP).powerDown
  | none => if max t0 t1 > 100 then ok ((w.wr F.NODE_THERMAL_BACKSTOP_ACTIVE 1).ev F.NODE_ENV_EVENTS_HOT) else ok w

section Sample

variable {t0 t1 d a : BitVec 8} {m : Vector (BitVec 8) 8} {p : Vector (BitVec 8) 16} {s u v w : State}

theorem exec_temperatureSample_idle (h : s.alive = false ∨ s.boot.standby = true) :
    exec (.temperatureSample t0 t1 d a m p) s = ok s :=
  show execTemperatureSample t0 t1 d a m p s = _ from if_pos (by simpa using h)

theorem exec_temperatureSample (halive : s.alive = true) (hstandby : s.boot.standby = false)
    (hu : u = ((((s.wr F.NODE_THERMAL_TOWER0_C t0.toNat).wr F.NODE_THERMAL_TOWER1_C t1.toNat).wr F.NODE_THERMAL_DOME_C d.toNat).wr
      F.NODE_THERMAL_AQUEDUCT_C a.toNat).wr F.NODE_THERMAL_LPDDR_C ((p.toList.map (·.toNat)).foldl max 0))
    (hv : v = forEach (List.range 8) u (fun k x => x.stackTemp k ((m.toList.map (·.toNat)).getD k 0)))
    (hw : w = forEach (List.range 16) v (fun k x => x.wr (F.MEM_PKG_TEMP_C k) ((p.toList.map (·.toNat)).getD k 0)))
    {r : Option (Nat × Nat)}
    (hr : r = tripUnit ([t0.toNat, t1.toNat, d.toNat, a.toNat] ++ m.toList.map (·.toNat) ++ p.toList.map (·.toNat))) :
    exec (.temperatureSample t0 t1 d a m p) s = w.sampled r t0.toNat t1.toNat := by
  subst hu hv hw hr
  show execTemperatureSample t0 t1 d a m p s = _
  rw [execTemperatureSample, if_neg (by simp [halive, hstandby])]
  rfl

theorem exec_thermalBackstopStep : exec .thermalBackstopStep s = if !s.flag F.NODE_THERMAL_BACKSTOP_ACTIVE then ok s
    else if max (s.rd F.NODE_THERMAL_TOWER0_C) (s.rd F.NODE_THERMAL_TOWER1_C) ≤ 97 then ok (s.wr F.NODE_THERMAL_BACKSTOP_ACTIVE 0)
    else ok s.lowerG := by
  show execThermalBackstopStep s = _
  rw [execThermalBackstopStep]

end Sample

/-- Settles O57; the trip unit by induction on the devices compared. -/
theorem supplyAndTemperature : Obligations.SupplyAndTemperature := by
  unfold Obligations.SupplyAndTemperature
  refine ⟨?input, ?feeds, fun b high s => exec_feedLost_idle, ?dead, ?standby, ?mainEn, ?sample,
    fun t0 t1 d a m p s => exec_temperatureSample_idle, ?stack, ?trip, ?backstop⟩
  case input =>
    intro s halive
    refine ⟨fun hhigh => ?_, fun hlow => ?_, exec_inputRestored halive, ?_, ?_, exec_powerFail halive⟩
    · rw [exec_inputLow halive, inputLow_falls hhigh]
    · rw [exec_inputLow halive, inputLow_low hlow]
    · rw [exec_feedRestored halive, (setFeed_eq true).1, show b2n true = 1 from rfl]
    · rw [exec_feedRestored halive, (setFeed_eq true).2, show b2n true = 1 from rfl]
  case feeds =>
    refine fun s halive ha hb => ⟨?_, ?_, ?_, ?_⟩
    · rw [exec_feedLost_other halive ha hb, if_pos rfl, (setFeed_eq false).1, show b2n false = 0 from rfl]
    · rw [exec_feedLost_other halive ha hb, if_pos rfl, (setFeed_eq false).2, show b2n false = 0 from rfl]
    · rw [exec_feedLost_other halive ha hb, if_neg Bool.false_ne_true, (setFeed_eq false).1, show b2n false = 0 from rfl]
    · rw [exec_feedLost_other halive ha hb, if_neg Bool.false_ne_true, (setFeed_eq false).2, show b2n false = 0 from rfl]
  case dead =>
    exact fun b s hdead => ⟨exec_inputLow_dead hdead, exec_inputRestored_dead hdead, exec_feedRestored_dead hdead,
      exec_powerFail_dead hdead, exec_mainEnRise_idle (.inl hdead), exec_mainEnFall_idle (.inl hdead)⟩
  case standby =>
    refine fun a b main s => ⟨fun hfailed hfeed => ⟨exec_standbyRestart_up hfailed hfeed, exec_standbyApplied_up (.inl hfailed) hfeed⟩,
      fun hfailed => exec_standbyRestart_idle (.inl hfailed), fun ha hb => exec_standbyApplied_up (.inr ⟨ha, hb⟩),
      fun hfailed hfeed => exec_standbyApplied_idle (.inl ⟨hfailed, hfeed⟩),
      fun ha hb => ⟨exec_standbyRestart_idle (.inr ⟨ha, hb⟩), exec_standbyApplied_idle (.inr ⟨ha, hb⟩)⟩⟩
  case mainEn =>
    have hboot : ∀ {s u : State} {n : Nat}, u = s.wr F.NODE_SUPPLY_MAIN_EN n → u.boot = s.boot := fun hu => by
      rw [hu, State.wr_boot]
    refine fun s u halive => ⟨fun hoff hu => ⟨fun hfell => ?_, fun hfell => ?_, exec_mainEnFall_idle (.inr hoff)⟩,
      fun hon hu => ⟨fun hstandby => ?_, fun hstandby v hv => ?_, exec_mainEnRise_idle (.inr hon)⟩⟩
    · rw [exec_mainEnRise_rises halive hoff hu, if_pos (by rwa [hboot hu])]
    · rw [exec_mainEnRise_rises halive hoff hu, if_neg (by rw [hboot hu]; exact ne_true_of_eq_false hfell)]
    · exact exec_mainEnFall_falls halive hon hu (if_pos (by rwa [hboot hu])).symm
    · exact exec_mainEnFall_falls halive hon hu (hv.trans (if_neg (by rw [hboot hu]; exact ne_true_of_eq_false hstandby)).symm)
  case sample =>
    intro t0 t1 d a m p s u v w halive hstandby hu hv hw r hr
    rw [exec_temperatureSample halive hstandby hu hv hw hr]
    refine ⟨?_, ?_, ?_⟩
    · rintro k c rfl
      rfl
    · rintro rfl h
      exact if_pos (by omega)
    · rintro rfl h0 h1
      exact if_neg (by omega)
  case stack =>
    exact fun s u k t base hu hnone hplan => ⟨stackTemp_cool hu hnone hplan, stackTemp_cools hu hnone hplan,
      stackTemp_heats hu hnone hplan, stackTemp_hot hu hnone hplan⟩
  case trip =>
    refine fun l => ⟨tripUnit_none_iff l, fun u t hsome => ?_⟩
    have h := isTrip_tripUnit l
    rwa [hsome] at h
  case backstop =>
    intro s
    rw [exec_thermalBackstopStep]
    refine ⟨fun hoff => if_pos (by simp [hoff]), fun hon h0 h1 => ?_, fun hon h => ?_⟩
    · rw [if_neg (by simp [hon]), if_pos (by omega)]
    · rw [if_neg (by simp [hon]), if_neg (by omega)]

end Sys2Proof.Machine

end

section
/-! The stages of a bring-up (R395–R400): what ends one, what its time-out and its failure do, and the stored reports. -/

namespace Sys2Proof.Machine

open Sys2Proof

/-! ## A stage ends -/

section Complete

variable {e : BitVec 32} {good torn : Bool} {found : BitVec 16} {mask : BitVec 128} {g0 g1 : BitVec 160} {s : State}

theorem exec_stageComplete_idle {k : Fin 11} (h : s.stageRuns k = false ∨ (k.val = 7 ∧ ∃ p, p < 10 ∧ s.portState p = Port.train)) :
    exec (.stageComplete k e good torn found mask g0 g1) s = ok s := by
  show execStageComplete k e good torn found mask g0 g1 s = _
  rw [execStageComplete]
  refine if_pos ?_
  rcases h with h | ⟨hk, p, hp, htrain⟩
  · rw [h]
    rfl
  · simp only [Bool.or_eq_true, Bool.and_eq_true, beq_iff_eq, List.any_eq_true, List.mem_range]
    exact .inr ⟨hk, p, hp, htrain⟩

theorem exec_stageComplete_runs {k : Fin 11} (hruns : s.stageRuns k = true) (hports : k.val = 7 → ∀ p, p < 10 → s.portState p ≠ Port.train) :
    exec (.stageComplete k e good torn found mask g0 g1) s = match k.val with
      | 0 =>
        if good then ok (((s.wr F.FAB_NODE_ID_NODE_ID s.panel.pos).wr F.FAB_NODE_ID_VALID 1).senseCables.stagePass 0 false St.ok
          e.toNat 0 0)
        else ok (s.stageFail 0 St.deadlineMissed e.toNat 0 0)
      | 1 => ok (s.stageB1 e.toNat mask.toNat)
      | 2 => ok (s.stageB2 e.toNat good torn found.toNat mask.toNat)
      | 3 => if good then ok (s.stagePass 3 false St.ok e.toNat 0 0) else ok (s.stageFail 3 St.deadlineMissed e.toNat 0 0)
      | 4 => if good && mask.toNat = 0 then ok (s.stagePass 4 false St.ok e.toNat 0 0)
        else ok (s.stageFail 4 St.deadlineMissed e.toNat 0 mask.toNat)
      | 5 => ok (s.stageB5 e.toNat good mask.toNat)
      | 6 => ok (s.stageB6 e.toNat g0.toNat g1.toNat)
      | 7 => ok (s.stageB7 e.toNat)
      | 8 => ok (s.stageB8 e.toNat)
      | 9 => ok (s.stageB9 e.toNat (mask.toNat % 2 ^ 16 &&& (0xFFFF - s.rd F.AGE_STATUS_RETIRED)))
      | _ => ok (s.stageB10 e.toNat found.toNat) := by
  show execStageComplete k e good torn found mask g0 g1 s = _
  refine (if_neg ?_).trans rfl
  simp only [hruns, Bool.not_true, Bool.false_or, Bool.and_eq_true, beq_iff_eq, List.any_eq_true, List.mem_range]
  rintro ⟨hk, p, hp, htrain⟩
  exact hports hk p hp htrain

end Complete

/-! ## A stage's time-out -/

section Timeout

variable {k : Nat} {s : State}

theorem exec_stageTimeout_idle (h : s.stageRuns (s.rd F.NODE_STAGE_STAGE) = false) : exec .stageTimeout s = ok s := by
  show execStageTimeout s = _
  rw [execStageTimeout, h]
  rfl

/-- The status with which a stage that never ends fails. -/
def timeoutStatus (k : Nat) : Nat :=
  if k = 1 then St.signatureInvalid else if k = 6 then St.badParam else if k = 7 then St.portDegraded
    else if k = 10 then St.timebaseLost else St.deadlineMissed

theorem exec_stageTimeout_endless (hstage : s.rd F.NODE_STAGE_STAGE = k) (h : k = 8 ∨ k = 9 ∨ 11 ≤ k) :
    exec .stageTimeout s = ok s := by
  show execStageTimeout s = _
  simp only [execStageTimeout, hstage]
  refine if_pos ?_
  rcases h with h | h | h <;> simp [h]

theorem exec_stageTimeout_fails (hstage : s.rd F.NODE_STAGE_STAGE = k) (hruns : s.stageRuns k = true)
    (hends : ¬(k = 8 ∨ k = 9 ∨ 11 ≤ k)) : exec .stageTimeout s = ok (s.stageFail k (timeoutStatus k) 0 0 0) := by
  show execStageTimeout s = _
  simp only [execStageTimeout, hstage]
  refine (if_neg ?_).trans rfl
  simpa [hruns, or_assoc] using hends

end Timeout

/-! ## A stage's failure -/

section Fail

variable {s v : State} {k st e d m : Nat}

/-- The bring-up begins again: the devices go down, and memory and the reports are cleared. -/
def State.restarted (v : State) : State :=
  { v.unpower false with mem := [], poison := [], undef := [],
                         boot := { (v.unpower false).boot with reports := [], appended := false } }

/-- The node holds after a stage has failed: for B1 in the ROM. -/
def State.holds (v : State) (k : Nat) : State := { v.unpower (k == 7) with boot := { (v.unpower (k == 7)).boot with romHold := k == 1 } }

theorem stageFail_eq (hk : 2 ≤ k) (hv : v = (s.report k 2 st e d m).appendBringup) : s.stageFail k st e d m =
    if ((k == 3 || k == 4 || k == 5 || k == 7) && !v.flag F.NODE_STAGE_RETRIED) = true then
      ((v.restarted.wr F.NODE_STAGE_STAGE 0).wr F.NODE_STAGE_RETRIED 1).wr F.NODE_STAGE_DEGRADED 0
    else (v.holds k).wr F.NODE_STAGE_STATE 2 := by
  subst hv
  rw [State.stageFail]
  simp only [if_pos hk]
  rfl

end Fail

/-! ## Spires and memory -/

theorem stageB6_fails {s : State} {e f0 f1 g0 g1 : Nat} (h0 : g0 = s.goodMask 0 f0) (h1 : g1 = s.goodMask 1 f1)
    (h : popcount g0 160 < 144 ∨ popcount g1 160 < 144) : s.stageB6 e f0 f1 =
      ({ s with boot := { s.boot with good0 := g0, good1 := g1 } } : State).stageFail 6 St.badParam e
        ((popcount g0 160 - 144) + (popcount g1 160 - 144) * 256) (b2n (popcount g0 160 < 144) + 2 * b2n (popcount g1 160 < 144)) := by
  subst h0 h1
  rw [State.stageB6]
  exact if_pos (by simpa using h)

theorem goodMask_unmapped {s : State} {d f : Nat} (h : s.keep.damaged.contains 1 = true ∨ (s.region 1).data = []) :
    s.goodMask d f = (2 ^ 160 - 1) &&& f := by
  rw [State.goodMask]
  rw [if_pos (by simpa only [Bool.or_eq_true, List.isEmpty_iff] using h), Nat.sub_zero]

theorem stageB5_passes {s : State} {e m : Nat} (h : m % 2 ^ 24 = 0) : ∃ t : State,
    s.stageB5 e true m = t.stagePass 5 false St.ok e 0 0 ∧ t.mem = [] ∧ t.poison = [] ∧ t.undef = [] := by
  rw [State.stageB5]
  rw [if_neg (by simpa using h)]
  exact ⟨_, rfl, rfl, rfl, rfl⟩

/-! ## Stored reports -/

section Reports

variable {s u : State} {q : Sub} {recs : List Bytes}

/-- Whether the newest stored record is that of the current bring-up. -/
def State.recordStored (u : State) : Bool :=
  u.boot.appended && (match (u.region 4).recs.map (·.2) with | r :: _ => fld r 0 8 == u.keep.bringups | [] => false)

theorem exec_readStageReports (htakes : s.takes q Op.readStageReports u) (hrecs : recs = (u.region 4).recs.map (·.2)) :
    exec .readStageReports s = ok
      (if q.p 1 1 > 11 then u.short q St.badParam []
      else if q.p 0 1 = 0 then u.short q St.ok (u.reportOf (q.p 1 1) ++ natLE 4 u.keep.bringups)
      else if u.keep.damaged.contains 4 then u.short q St.digestMismatch []
      else match recs[(if u.recordStored then q.p 0 1 else q.p 0 1 - 1)]? with
        | some r => u.short q St.ok (sub r (64 + 32 * q.p 1 1) 32 ++ natLE 4 (fld r 0 8))
        | none => u.short q St.badParam []) := by
  subst hrecs
  show execReadStageReports s = _
  exact withSub_takes htakes rfl

theorem recordStored_iff {r0 : Bytes} (hrecs : recs = (u.region 4).recs.map (·.2)) (hhead : recs.head? = some r0) :
    u.recordStored = true ↔ u.boot.appended = true ∧ fld r0 0 8 = u.keep.bringups := by
  subst hrecs
  rw [State.recordStored, Bool.and_eq_true]
  cases hlist : (u.region 4).recs.map (·.2) with
  | nil => simp [hlist] at hhead
  | cons r rs =>
    rw [hlist] at hhead
    cases hhead
    simp

end Reports

/-- Settles O55, stage by stage. -/
theorem bringUpStages : Obligations.BringUpStages := by
  unfold Obligations.BringUpStages
  refine ⟨fun k e good torn found mask g0 g1 s => exec_stageComplete_idle, ?units, ?found, ?timeout, ?fail,
    fun s e f0 f1 g0 g1 => stageB6_fails, fun s d f => goodMask_unmapped, ?memory, ?reports⟩
  case units =>
    intro e torn found mask g0 g1 s
    refine ⟨fun hruns => ⟨?_, ?_⟩, fun hruns => ⟨?_, ?_⟩, fun hruns => ⟨?_, ?_⟩⟩
    · exact (exec_stageComplete_runs (k := 0) hruns (fun h => absurd h (by decide))).trans (if_pos rfl)
    · exact (exec_stageComplete_runs (k := 0) hruns (fun h => absurd h (by decide))).trans (if_neg Bool.false_ne_true)
    · exact (exec_stageComplete_runs (k := 3) hruns (fun h => absurd h (by decide))).trans (if_pos rfl)
    · exact (exec_stageComplete_runs (k := 3) hruns (fun h => absurd h (by decide))).trans (if_neg Bool.false_ne_true)
    · exact (exec_stageComplete_runs (k := 4) hruns (fun h => absurd h (by decide))).trans (if_pos rfl)
    · exact (exec_stageComplete_runs (k := 4) hruns (fun h => absurd h (by decide))).trans (if_neg Bool.false_ne_true)
  case found =>
    intro e good torn found mask g0 g1 s
    refine ⟨fun hruns => ?_, fun hruns => ?_, fun hruns => ?_, fun hruns => ?_, fun hruns hports => ?_, fun hruns => ?_, ?_,
      fun hruns => ?_⟩
    · exact exec_stageComplete_runs (k := 1) hruns (fun h => absurd h (by decide))
    · exact exec_stageComplete_runs (k := 2) hruns (fun h => absurd h (by decide))
    · exact exec_stageComplete_runs (k := 5) hruns (fun h => absurd h (by decide))
    · exact exec_stageComplete_runs (k := 6) hruns (fun h => absurd h (by decide))
    · exact exec_stageComplete_runs (k := 7) hruns (fun _ => hports)
    · exact exec_stageComplete_runs (k := 8) hruns (fun h => absurd h (by decide))
    · rintro bad hruns rfl
      exact exec_stageComplete_runs (k := 9) hruns (fun h => absurd h (by decide))
    · exact exec_stageComplete_runs (k := 10) hruns (fun h => absurd h (by decide))
  case timeout =>
    refine fun s => ⟨fun k hstage hruns => ⟨fun hk => ?_, ?_, ?_, ?_, ?_, exec_stageTimeout_endless hstage⟩, exec_stageTimeout_idle⟩
    · rw [exec_stageTimeout_fails hstage hruns (by omega), timeoutStatus, if_neg (by omega), if_neg (by omega), if_neg (by omega),
        if_neg (by omega)]
    · rintro rfl
      exact exec_stageTimeout_fails hstage hruns (by decide)
    · rintro rfl
      exact exec_stageTimeout_fails hstage hruns (by decide)
    · rintro rfl
      exact exec_stageTimeout_fails hstage hruns (by decide)
    · rintro rfl
      exact exec_stageTimeout_fails hstage hruns (by decide)
  case fail =>
    intro s v k st e d m hk hv
    have hone : (k == 3 || k == 4 || k == 5 || k == 7) = true := by simpa [or_assoc] using hk
    rw [stageFail_eq (by omega) hv, hone]
    refine ⟨fun hfirst => ⟨v.restarted, ?_, rfl, rfl, rfl⟩, fun hsecond => ⟨v.holds k, ?_, ?_⟩⟩
    · rw [hfirst]
      rfl
    · rw [hsecond]
      rfl
    · exact beq_false_of_ne (by omega)
  case memory =>
    rintro s e m good rfl h
    exact stageB5_passes h
  case reports =>
    intro s u q recs htakes hrecs
    rw [exec_readStageReports htakes hrecs]
    refine ⟨fun hk => ?_, fun hk hage => ?_, fun hk hage hdamaged => ?_, fun r0 r hk hage hdamaged hhead hr => ?_,
      fun r0 hk hage hdamaged hhead hr => ?_, fun hk hage hdamaged hnone => ?_⟩
    · rw [if_pos hk]
    · rw [if_neg (Nat.not_lt_of_le hk), if_pos hage]
    · rw [if_neg (Nat.not_lt_of_le hk), if_neg hage, if_pos hdamaged]
    · simp only [← recordStored_iff hrecs hhead] at hr
      rw [if_neg (Nat.not_lt_of_le hk), if_neg hage, if_neg (ne_true_of_eq_false hdamaged), hr]
    · simp only [← recordStored_iff hrecs hhead] at hr
      rw [if_neg (Nat.not_lt_of_le hk), if_neg hage, if_neg (ne_true_of_eq_false hdamaged), hr]
    · rw [if_neg (Nat.not_lt_of_le hk), if_neg hage, if_neg (ne_true_of_eq_false hdamaged), hnone]
      rfl

end Sys2Proof.Machine

end

section
/-! Recording and replay (R426, R428, R431): the ring a recording begins with, the ring a replay takes, and a twin held too long. -/

namespace Sys2Proof.Machine

open Sys2Proof

/-! ## RECORD_START and RECORD_STOP -/

section Record

variable {s u : State} {q : Sub} {c base len : Nat}

/-- A ring or a set of classes RECORD_START does not take. -/
def State.recordBad (u : State) (c base len : Nat) : Bool :=
  c = 0 || c > 7 || base % 65536 != 0 || !inDeep base len || len % 65536 != 0 || len < 2 ^ 24 || 2 ^ 36 < len || u.ringOverlaps base len

theorem recordBad_iff : u.recordBad c base len = true ↔ c = 0 ∨ 7 < c ∨ base % 65536 ≠ 0 ∨ len % 65536 ≠ 0 ∨ len < 2 ^ 24 ∨
    2 ^ 36 < len ∨ inDeep base len = false ∨ u.ringOverlaps base len = true := by
  simp only [State.recordBad, Bool.or_eq_true, Bool.not_eq_true', bne_iff_ne, decide_eq_true_eq]
  tauto

theorem exec_recordStart (htakes : s.takes q Op.recordStart u) (hc : c = q.p 0 1) (hbase : base = q.p 8 8) (hlen : len = q.p 16 8) :
    exec .recordStart s = ok
      (if u.recordBad c base len then u.short q St.badParam []
      else if (u.rd F.NODE_REC_STATUS_STATE == 1 || u.check.recorder.starting.isSome) = true then u.short q St.busy []
      else if u.admitted then ({ u with
        check := { u.check with recorder := { u.check.recorder with starting := some (c, base, len) } } } : State).short q St.ok []
      else (u.recordBegin c base len).short q St.ok []) := by
  subst hc hbase hlen
  show execRecordStart s = _
  exact withSub_takes htakes rfl

theorem recordBegin_ring (hc : c ≤ 7) (hlen : len ≤ 2 ^ 36) :
    (s.recordBegin c base len).rd F.NODE_REC_STATUS_STATE = 1 ∧ (s.recordBegin c base len).rd F.NODE_REC_STATUS_CLASSES = c ∧
    (s.recordBegin c base len).rd F.NODE_REC_LENGTH_BYTES = len ∧ (s.recordBegin c base len).rd F.NODE_REC_HEAD_OFFSET = 0 ∧
    (s.recordBegin c base len).rd F.NODE_REC_TAIL_OFFSET = 0 ∧ (s.recordBegin c base len).rd F.NODE_REC_COUNTS_WRITTEN = 0 ∧
    (s.recordBegin c base len).rd F.NODE_REC_COUNTS_DROPPED = 0 := by
  have hcounts : ∀ (t : State) (f : Field), f.addr = R.NODE_REC_COUNTS → f.fits = true → (t.wrReg R.NODE_REC_COUNTS 0).rd f = 0 := by
    intro t f haddr hfits
    rw [← haddr, State.rd_wrReg_same t 0 hfits, bits_eq, Nat.zero_div, Nat.zero_mod]
  unfold State.recordBegin
  refine ⟨?_, ?_, ?_, ?_, ?_, ?_, ?_⟩
  · simp (disch := decide) only [State.rd_wr_apart, State.rd_wrReg_ne, State.rd_wr_same]
    rfl
  · simp (disch := decide) only [State.rd_wr_apart, State.rd_wrReg_ne, State.rd_wr_same]
    exact Nat.mod_eq_of_lt (Nat.lt_succ_of_le hc)
  · simp (disch := decide) only [State.rd_wr_apart, State.rd_wrReg_ne, State.rd_wr_same]
    exact Nat.mod_eq_of_lt (hlen.trans_lt (by decide))
  · simp (disch := decide) only [State.rd_wr_apart, State.rd_wr_same]
    rfl
  · exact State.rd_wr_same _ _ 0 (by decide)
  · simp (disch := decide) only [State.rd_wr_apart]
    exact hcounts _ _ rfl (by decide)
  · simp (disch := decide) only [State.rd_wr_apart]
    exact hcounts _ _ rfl (by decide)

end Record

/-! ## REPLAY -/

section Replays

variable {s u : State} {q : Sub} {base len : Nat}

/-- A node that takes no replay: no job, one that has started a step, a checkpoint at work, or another replay. -/
def State.replayBusy (u : State) : Bool :=
  !(match u.job with | some j => !j.anyStep | none => false) || u.ckptBusy || u.check.replay.isSome

theorem replayBusy_iff : u.replayBusy = true ↔ u.job = none ∨ u.ckptBusy = true ∨ u.check.replay ≠ none ∨
    ∃ j, u.job = some j ∧ j.anyStep = true := by
  rw [State.replayBusy, Bool.or_eq_true, Bool.or_eq_true, Option.isSome_iff_ne_none]
  cases u.job with
  | none => simp
  | some j => simp only [Bool.not_not, reduceCtorEq, Option.some.injEq, exists_eq_left', false_or]; tauto

/-- A ring REPLAY does not take. -/
def replayBad (base len : Nat) : Bool :=
  base % 65536 != 0 || !inDeep base len || len % 65536 != 0 || len < 2 ^ 24 || 2 ^ 36 < len

theorem replayBad_iff : replayBad base len = true ↔ base % 65536 ≠ 0 ∨ len % 65536 ≠ 0 ∨ len < 2 ^ 24 ∨ 2 ^ 36 < len ∨
    inDeep base len = false := by
  simp only [replayBad, Bool.or_eq_true, Bool.not_eq_true', bne_iff_ne, decide_eq_true_eq]
  tauto

/-- The records of a ring after the first that ends the step before `step`. -/
def laterRecords (all : List Bytes) (step : Nat) : List Bytes :=
  (all.dropWhile (fun r => !(step != 0 && isStepRec r (step - 1)))).drop 1

/-- Records that cannot be replayed from a step: the step before it is not there, or a record after it was lost. -/
def unreplayable (all : List Bytes) (step : Nat) : Bool :=
  !(step != 0 && all.any (fun r => isStepRec r (step - 1)))
    || (laterRecords all step).any (fun r => recKind r == 1 && step ≤ fld r 16 8 && bit (recFlags r) 0)

/-- The node with the replay of the records after a step accepted. -/
def State.replayTaken (u : State) (q : Sub) (later : List Bytes) : State :=
  let v := u.accept q
  let w : State := { v.1 with check := { v.1.check with
    replay := some ⟨v.2, q.p 0 8, none, later, later.any (fun r => recKind r == 2), []⟩ } }
  if w.rd F.NODE_REC_STATUS_STATE == 1 then w else w.wr F.NODE_REC_STATUS_STATE 2

theorem exec_replay (htakes : s.takes q Op.replay u) (hbase : base = q.p 8 8) (hlen : len = q.p 16 8) :
    exec .replay s = ok
      (if u.replayBusy then u.refuse q St.busy
      else if replayBad base len then u.refuse q St.badParam
      else if unreplayable (u.recordsOf base len) (q.p 0 8) then u.longNow q St.badParam 0 []
      else u.replayTaken q (laterRecords (u.recordsOf base len) (q.p 0 8))) := by
  subst hbase hlen
  show execReplay s = _
  exact withSub_takes htakes rfl

variable {all later : List Bytes} {step : Nat}

theorem unreplayable_absent (h : step = 0 ∨ all.any (fun r => isStepRec r (step - 1)) = false) : unreplayable all step = true := by
  rcases h with h | h
  · simp only [unreplayable, h, bne_self_eq_false, Bool.false_and, Bool.not_false, Bool.true_or]
  · simp only [unreplayable, h, Bool.and_false, Bool.not_false, Bool.true_or]

theorem laterRecords_eq (hstep : 1 ≤ step) : laterRecords all step = (all.dropWhile (fun r => !isStepRec r (step - 1))).drop 1 := by
  have hne : (step != 0) = true := bne_iff_ne.2 (by omega)
  simp only [laterRecords, hne, Bool.true_and]

theorem unreplayable_there (hstep : 1 ≤ step) (hany : all.any (fun r => isStepRec r (step - 1)) = true)
    (hlater : later = (all.dropWhile (fun r => !isStepRec r (step - 1))).drop 1) :
    unreplayable all step = later.any (fun r => recKind r == 1 && step ≤ fld r 16 8 && bit (recFlags r) 0) := by
  have hne : (step != 0) = true := bne_iff_ne.2 (by omega)
  rw [unreplayable, laterRecords_eq hstep, ← hlater, hany, hne]
  rfl

end Replays

/-! ## A recorded command is submitted again -/

section Submit

variable {s u v : State} {r : Replay} {x p ps : Bytes} {first st : Nat}

/-- The record a replay submits next. -/
def Replay.next (r : Replay) : Option Bytes := r.records.find? (fun x => recKind x == 3 && r.fromStep ≤ recTime x / 2 ^ 24)

/-- The tag of the admitted job, or 0 without one. -/
def State.jobTagOrZero (s : State) : Nat := match s.job with | some j => j.jobTag | none => 0

theorem exec_replayCommandSubmit_none (hnone : s.check.replay = none) : exec .replayCommandSubmit s = ok s := by
  show execReplayCommandSubmit s = _
  simp only [execReplayCommandSubmit, hnone]

variable (hreplay : s.check.replay = some r)
include hreplay

theorem exec_replayCommandSubmit_waits (h : r.liveStart = none ∨ r.next = none ∨
    ∃ (first : Nat) (x : Bytes), r.liveStart = some first ∧ r.next = some x ∧
      s.reach (recTime x + 2 ^ 24 * (first - r.fromStep)) = none) : exec .replayCommandSubmit s = ok s := by
  show execReplayCommandSubmit s = _
  rw [Replay.next] at h
  simp only [execReplayCommandSubmit, hreplay]
  rcases h with h | h | ⟨first, x, hstart, hnext, hreach⟩
  · simp only [h]
  · simp only [h]
    cases r.liveStart <;> rfl
  · simp only [hstart, hnext, hreach]

theorem exec_replayCommandSubmit {c : Sub} (hstart : r.liveStart = some first) (hnext : r.next = some x)
    (hreach : s.reach (recTime x + 2 ^ 24 * (first - r.fromStep)) = some u)
    (hv : v = { u with check := { u.check with replay := some { r with records := r.records.erase x } } })
    (hp : p = sub (recBody x) 8 64) (hps : ps = if hdExt p then sub (recBody x) 72 (hdLength p) else sub p 24 (hdLength p))
    (hst : v.acceptCheck (chanOfCode (fld (recBody x) 0 1) v.nodeId) v.jobTagOrZero p ps false = st)
    (hc : c = mkSub (chanOfCode (fld (recBody x) 0 1) v.nodeId) 0 p ps true) : exec .replayCommandSubmit s =
      if st != St.ok then ok (v.refuse c st) else ok { v with cmd := { v.cmd with gate := v.cmd.gate ++ [c] } } := by
  subst hc hst hv hps hp
  rw [Replay.next] at hnext
  show execReplayCommandSubmit s = _
  simp only [execReplayCommandSubmit, hreplay, hstart, hnext, hreach]
  rfl

end Submit

/-! ## A twin held too long -/

section Twins

variable {k : Nat} {s u : State}

theorem exec_twinTimeout_poisons {w : Twin} (htwin : s.check.twins[k]? = some w)
    (hu : u = { s with check := { s.check with twins := s.check.twins.eraseIdx k } }) :
    exec (.twinTimeout k) s = ok ((u.poisonRange w.addr w.data.length).diverge w.pair 2 w.index w.unit) := by
  subst hu
  show execTwinTimeout k s = _
  simp only [execTwinTimeout, htwin]

theorem exec_twinTimeout_none (htwin : s.check.twins[k]? = none) : exec (.twinTimeout k) s = ok s := by
  show execTwinTimeout k s = _
  simp only [execTwinTimeout, htwin]

end Twins

/-- Settles O58, command by command. -/
theorem recordingAndReplay : Obligations.RecordingAndReplay := by
  unfold Obligations.RecordingAndReplay
  refine ⟨?start, fun s c base len hc _ _ hlen => recordBegin_ring hc hlen, fun s u q htakes => show execRecordStop s = _ from
    withSub_takes htakes rfl, ?replay, ?submit, fun s => exec_replayCommandSubmit_none,
    fun s r hreplay => exec_replayCommandSubmit_waits hreplay, fun k s u w => exec_twinTimeout_poisons,
    fun k s => exec_twinTimeout_none⟩
  case start =>
    intro s u q c base len htakes hc hbase hlen
    rw [exec_recordStart htakes hc hbase hlen]
    refine ⟨fun hbad => congrArg ok (if_pos (recordBad_iff.2 hbad)), fun hc1 hc7 hb hl hmin hmax hdeep hfree => ?_⟩
    have hgood : ¬u.recordBad c base len = true := by
      rw [recordBad_iff, hdeep, hfree]
      simp only [reduceCtorEq, or_false, Bool.false_eq_true]
      omega
    rw [if_neg hgood]
    refine ⟨fun hbusy => ?_, fun hrec hstarting => ?_⟩
    · rw [if_pos (by simpa [Option.isSome_iff_ne_none] using hbusy)]
    · rw [if_neg (by simp [hrec, hstarting])]
      exact ⟨fun hjob => congrArg ok (if_neg (ne_true_of_eq_false hjob)), fun hjob => congrArg ok (if_pos hjob)⟩
  case replay =>
    intro s u q base len htakes hbase hlen
    rw [exec_replay htakes hbase hlen]
    refine ⟨fun hbusy => congrArg ok (if_pos (replayBusy_iff.2 hbusy)), fun j hjob hidle hckpt hnone => ?_⟩
    have hfree : ¬u.replayBusy = true := by
      rw [replayBusy_iff, hjob, hckpt, hnone]
      simp [hidle]
    rw [if_neg hfree]
    refine ⟨fun hbad => congrArg ok (if_pos (replayBad_iff.2 hbad)), fun hb hl hmin hmax hdeep => ?_⟩
    have hgood : ¬replayBad base len = true := by
      rw [replayBad_iff, hdeep]
      simp only [reduceCtorEq, or_false]
      omega
    rw [if_neg hgood]
    refine ⟨fun habsent => congrArg ok (if_pos (unreplayable_absent habsent)), fun later v w h hstep hany hlater haccept hw => ?_⟩
    have htaken : u.replayTaken q later = if w.rd F.NODE_REC_STATUS_STATE == 1 then w else w.wr F.NODE_REC_STATUS_STATE 2 := by
      rw [State.replayTaken, haccept, hw]
    rw [unreplayable_there hstep hany hlater, laterRecords_eq hstep, ← hlater, htaken]
    refine ⟨fun hlost => congrArg ok (if_pos hlost), fun hkept hrec => ?_, fun hkept hrec => ?_⟩
    · rw [hkept, if_neg Bool.false_ne_true, if_pos (by simp [hrec])]
    · rw [hkept, if_neg Bool.false_ne_true, if_neg (by simp [hrec])]
  case submit =>
    intro s u v r x p ps first st hreplay hstart hnext hreach hv hp hext hinline hst c hc
    have hps : ps = if hdExt p then sub (recBody x) 72 (hdLength p) else sub p 24 (hdLength p) := by
      cases h : hdExt p with
      | true => exact hext h
      | false => exact hinline h
    rw [exec_replayCommandSubmit hreplay hstart hnext hreach hv hp hps hst hc]
    exact ⟨fun hrefused => if_pos (by simpa using hrefused), fun hok => if_neg (by simp [hok])⟩

end Sys2Proof.Machine

end

section
/-! Firmware staging, identity, attestation, the session keys and sessions (R436, R439, R442, R446–R448). -/

namespace Sys2Proof.Machine

open Sys2Proof

/-! ## FW_STAGE with the image on the node -/

section Local

variable {s u v : State} {q : Sub} {a n h : Nat}

/-- Parameters and an image of FW_STAGE mode 0 that do not fit together. -/
def State.imageBad (u : State) (q : Sub) (a n : Nat) : Bool :=
  q.p 0 1 > 1 || fwParamsBad q 0 || n < 4097 || n > 33554368 || !u.backed a n
    || (!u.poisoned a n && fwHeaderOk (u.readBytes a n) && fwLength (u.readBytes a n) != n)

theorem imageBad_iff : u.imageBad q a n = true ↔ 1 < q.p 0 1 ∨ fwParamsBad q 0 = true ∨ n < 4097 ∨ 33554368 < n ∨
    u.backed a n = false ∨ (u.poisoned a n = false ∧ fwHeaderOk (u.readBytes a n) = true ∧ fwLength (u.readBytes a n) ≠ n) := by
  simp only [State.imageBad, Bool.or_eq_true, Bool.and_eq_true, Bool.not_eq_true', bne_iff_ne, decide_eq_true_eq, or_assoc, and_assoc]

theorem exec_fwStageLocal (htakes : s.takes q Op.fwStage u) (hmode : q.p 0 1 ≠ 1) : exec .fwStageLocal s = ok
    (if u.imageBad q (q.p 8 8) (q.p 16 8) then u.refuse q St.badParam
    else if (u.sec.staging.isSome || u.removable) = true then u.refuse q St.busy
    else if u.isWorn 6 then u.refuse q St.keepWorn
    else if u.poisoned (q.p 8 8) (q.p 16 8) then (u.accept q).1.fwFail (u.accept q).2 St.signatureInvalid
    else u.fwBegin q (u.readBytes (q.p 8 8) (q.p 16 8)) true) := by
  show execFwStageLocal s = _
  exact withSub_takes htakes (bne_iff_ne.2 hmode)

theorem exec_fwStageLocal_good (htakes : s.takes q Op.fwStage u) (hmode : q.p 0 1 = 0) (ha : a = q.p 8 8) (hn : n = q.p 16 8)
    (hgood : u.imageBad q a n = false) : exec .fwStageLocal s = ok
      (if (u.sec.staging.isSome || u.removable) = true then u.refuse q St.busy
      else if u.isWorn 6 then u.refuse q St.keepWorn
      else if u.poisoned a n then (u.accept q).1.fwFail (u.accept q).2 St.signatureInvalid
      else u.fwBegin q (u.readBytes a n) true) := by
  subst ha hn
  rw [exec_fwStageLocal htakes (by omega), if_neg (ne_true_of_eq_false hgood)]

section Begin

variable {image : Bytes} {last : Bool} (haccept : s.accept q = (v, h))
include haccept

theorem fwBegin_eq : s.fwBegin q image last =
    if (!fwHeaderOk image) = true then v.fwFail h St.signatureInvalid
    else if fwSvn image < v.sec.fuses then v.fwFail h St.rollbackRefused
    else ((v.setSlotFw v.fwTarget FwSlot.empty).showStaged none).setStaging
      (some ⟨q.chan, some h, last, ((v.setSlotFw v.fwTarget FwSlot.empty).showStaged none).fwTarget, image, 1⟩) := by
  rw [State.fwBegin, haccept]

end Begin

end Local

/-! ## FW_STAGE piece by piece -/

section Piece

variable {s u : State} {q : Sub} {g : Staging}

/-- Whether the staging under way is of the channel of q. -/
def State.stagingMine (u : State) (q : Sub) : Bool :=
  match u.sec.staging with | some g => g.chan == q.chan | none => false

/-- The pieces received before. -/
def State.stagingGot (u : State) : Bytes :=
  match u.sec.staging with | some g => g.received | none => []

/-- The image with the piece of q in its place. -/
def State.stagingImage (u : State) (q : Sub) : Bytes :=
  if q.p 4 4 = 0 then q.params.drop 32 else u.stagingGot ++ q.params.drop 32

/-- A piece that is not the next of its image. -/
def State.pieceBad (u : State) (q : Sub) : Bool :=
  fwParamsBad q 1 || (q.p 4 4 != 0 && u.sec.staging.isNone) ||
    ((q.params.drop 32).isEmpty || (q.p 4 4 = 0 && (q.params.drop 32).length < 3860)
      || (q.p 4 4 != 0 && u.stagingMine q && q.p 4 4 != u.stagingGot.length)
      || (q.p 1 1 == 1 && (u.stagingImage q).length != fwLength (u.stagingImage q))
      || (u.stagingImage q).length > fwLength (u.stagingImage q))

/-- What a piece in its order does. -/
def State.pieceTaken (u : State) (q : Sub) : State :=
  match u.sec.staging with
  | some g =>
    match g.handle with
    | some h =>
      if q.p 4 4 = 0 then (u.complete h St.busy 0 []).fwBegin q (q.params.drop 32) (q.p 1 1 == 1) else u.refuse q St.busy
    | none =>
      if q.p 4 4 = 0 then u.fwBegin q (q.params.drop 32) (q.p 1 1 == 1)
      else (u.accept q).1.setStaging
        (some { g with handle := some (u.accept q).2, last := q.p 1 1 == 1, received := u.stagingImage q, phase := 2 })
  | none => u.fwBegin q (q.params.drop 32) (q.p 1 1 == 1)

theorem exec_fwStagePiece (htakes : s.takes q Op.fwStage u) (hmode : q.p 0 1 = 1) : exec .fwStagePiece s = ok
    (if u.pieceBad q then u.refuse q St.badParam
    else if (u.sec.staging.isSome && !u.stagingMine q || u.removable) = true then u.refuse q St.busy
    else if u.isWorn 6 then u.refuse q St.keepWorn
    else u.pieceTaken q) := by
  show execFwStagePiece s = _
  exact withSub_takes htakes (decide_eq_true hmode)

theorem exec_fwStagePiece_bad (htakes : s.takes q Op.fwStage u) (hmode : q.p 0 1 = 1) (hbad : u.pieceBad q = true) :
    exec .fwStagePiece s = ok (u.refuse q St.badParam) := by
  rw [exec_fwStagePiece htakes hmode, if_pos hbad]

theorem pieceBad_of (h : fwParamsBad q 1 = true ∨ q.p 4 4 ≠ 0 ∧ u.sec.staging = none ∨ q.params.drop 32 = [] ∨
    q.p 4 4 = 0 ∧ (q.params.drop 32).length < 3860) : u.pieceBad q = true := by
  simp only [State.pieceBad, Bool.or_eq_true, Bool.and_eq_true, bne_iff_ne, decide_eq_true_eq, Option.isNone_iff_eq_none,
    List.isEmpty_iff]
  tauto

theorem stagingImage_first (hfirst : q.p 4 4 = 0) : u.stagingImage q = q.params.drop 32 := if_pos hfirst

theorem pieceBad_first (hparams : fwParamsBad q 1 = false) (hfirst : q.p 4 4 = 0) (hmin : 3860 ≤ (q.params.drop 32).length)
    (hmax : (q.params.drop 32).length ≤ fwLength (q.params.drop 32))
    (hlast : q.p 1 1 = 1 → (q.params.drop 32).length = fwLength (q.params.drop 32)) : u.pieceBad q = false := by
  have hsome : ¬q.params.drop 32 = [] := fun h => by rw [h] at hmin; simp at hmin
  rw [Bool.eq_false_iff, Ne]
  simp only [State.pieceBad, stagingImage_first hfirst, Bool.or_eq_true, Bool.and_eq_true, bne_iff_ne, beq_iff_eq, decide_eq_true_eq,
    List.isEmpty_iff, hparams, hfirst, ne_eq, not_true_eq_false, false_and, or_false, false_or, hsome, true_and, Bool.false_eq_true]
  omega

theorem pieceBad_next {im : Bytes} (hparams : fwParamsBad q 1 = false) (hstaging : u.sec.staging = some g)
    (hlater : q.p 4 4 ≠ 0) (horder : q.p 4 4 = g.received.length) (him : im = g.received ++ q.params.drop 32)
    (hmin : 1 ≤ (q.params.drop 32).length) (hmax : im.length ≤ fwLength im) (hlast : q.p 1 1 = 1 → im.length = fwLength im) :
    u.stagingImage q = im ∧ u.pieceBad q = false := by
  have hgot : u.stagingGot = g.received := by rw [State.stagingGot, hstaging]
  have himage : u.stagingImage q = im := by rw [State.stagingImage, if_neg hlater, hgot, him]
  have hsome : ¬q.params.drop 32 = [] := fun h => by rw [h] at hmin; simp at hmin
  refine ⟨himage, ?_⟩
  rw [Bool.eq_false_iff, Ne]
  simp only [State.pieceBad, himage, hgot, hstaging, Bool.or_eq_true, Bool.and_eq_true, bne_iff_ne, beq_iff_eq, decide_eq_true_eq,
    List.isEmpty_iff, hparams, hlater, Option.isNone_some, horder.symm, ne_eq, not_true_eq_false, and_false, or_false, false_or, hsome,
    false_and, Bool.false_eq_true]
  omega

end Piece

/-! ## Identity, attestation and keys -/

section Identity

variable {s u v : State} {q : Sub} {log : Bytes} {h : Nat}

theorem exec_identityRead (htakes : s.takes q Op.identityRead u) : exec .identityRead s = ok
    (if q.p 0 1 ≤ 106 then u.short q St.ok (sub (identityBytes 0 5108) (48 * q.p 0 1) 48)
    else if (decide (128 ≤ q.p 0 1) && decide (q.p 0 1 ≤ 186)) = true then u.short q St.ok (sub u.sec.log (48 * (q.p 0 1 - 128)) 48)
    else u.short q St.badParam []) :=
  show execIdentityRead s = _ from withSub_takes htakes rfl

/-- Whether a command came from a Command Port. -/
def Sub.isLocal (q : Sub) : Bool := match q.chan with | .loc _ => true | _ => false

theorem isLocal_loc {c : Nat} (hchan : q.chan = .loc c) : q.isLocal = true := by rw [Sub.isLocal, hchan]

theorem isLocal_other (hchan : ∀ c : Nat, q.chan ≠ .loc c) : q.isLocal = false := by
  rw [Sub.isLocal]
  cases hq : q.chan with
  | loc c => exact absurd hq (hchan c)
  | mgmt i => rfl
  | tray => rfl
  | fabric n => rfl

/-- An OUT_ADDR that ATTEST does not take from the channel of q. -/
def State.attestBad (u : State) (q : Sub) : Bool :=
  if q.isLocal then q.p 32 8 % 64 != 0 || !u.backed (q.p 32 8) 2828 else q.p 32 8 != 0

/-- The node with a new attestation log: on a Command Port the log is in memory too. -/
def State.attested (u : State) (q : Sub) (log : Bytes) : State :=
  let v := if q.isLocal then u.write (q.p 32 8) log else u
  ({ v with sec := { v.sec with log := log } } : State).inc F.SEC_COUNTS_ATTESTS

theorem exec_attest (htakes : s.takes q Op.attest u) (hlog : log = u.attestLog (sub q.params 0 32)) : exec .attest s =
    ok (if u.attestBad q then u.refuse q St.badParam else (u.attested q log).longNow q St.ok 0 (sha3_256 log)) := by
  subst hlog
  show execAttest s = _
  exact withSub_takes htakes rfl

theorem keyRotate_busy {pair digest : Bytes} (hbusy : u.removable = true ∨ u.keep.updates.any (·.region == 9) = true) :
    u.keyRotate q pair digest = u.refuse q St.busy := if_pos (by simpa using hbusy)

section Free

variable {pair digest : Bytes} (hin : u.removable = false) (hupdates : u.keep.updates.any (·.region == 9) = false)
include hin hupdates

theorem keyRotate_worn (hworn : u.isWorn 9 = true) : u.keyRotate q pair digest = u.longNow q St.keepWorn 0 [] := by
  rw [State.keyRotate, hin, hupdates, if_neg (by decide), if_pos hworn]

theorem keyRotate_queued (hworn : u.isWorn 9 = false) (haccept : u.accept q = (v, h)) : u.keyRotate q pair digest =
    (v.keepPut 9 (patch (sub (v.keepData 9) 0 (max (v.keepData 9).length 8192)) 4096 pair) (.keyRotate h digest)).keepStart := by
  rw [State.keyRotate, hin, hupdates, if_neg (by decide), if_neg (ne_true_of_eq_false hworn), haccept]

end Free

theorem exec_keyRotateNew (htakes : s.takes q Op.keyRotate u) (hwhich : q.p 0 1 ≠ 1) : exec .keyRotateNew s =
    ok (if q.p 0 1 > 1 then u.refuse q St.badParam
      else u.keyRotate q u.newKeyPair (sha3_256 (u.newKeyPair.take 1312))) := by
  show execKeyRotateNew s = _
  exact withSub_takes htakes (bne_iff_ne.2 hwhich)

theorem exec_keyRotateNew_zero (htakes : s.takes q Op.keyRotate u) (hwhich : q.p 0 1 = 0) :
    exec .keyRotateNew s = ok (u.keyRotate q u.newKeyPair (sha3_256 (u.newKeyPair.take 1312))) := by
  rw [exec_keyRotateNew htakes (by omega), if_neg (by omega)]

theorem exec_keyRotateErase (htakes : s.takes q Op.keyRotate u) (hwhich : q.p 0 1 = 1) :
    exec .keyRotateErase s = ok (u.keyRotate q (zeros 4096) (zeros 32)) :=
  show execKeyRotateErase s = _ from withSub_takes htakes (decide_eq_true hwhich)

end Identity

/-! ## Sessions -/

section Hello

variable {client : Nat} {msg pub part : Bytes} {s : State}

/-- A CLIENT_HELLO of a known operator, signed over this node. -/
def State.helloGood (s : State) (msg : Bytes) : Bool :=
  msg.length == 4948 && s.operatorKnown (sub msg 1216 1312)
    && Config.mldsaVerify (sub msg 1216 1312) (sha3_256 (sub msg 0 2528 ++ natLE 2 s.nodeId)) (sub msg 2528 2420)

/-- The signed part of a NODE_HELLO. -/
def State.helloPart (s : State) (pub : Bytes) : Bytes :=
  (List.range 1088).map (Config.cryptoByte s.fresh 6) ++ (List.range 32).map (Config.cryptoByte s.fresh 7) ++ pub
    ++ sub (s.keepData 9) 5408 2420

theorem exec_clientHello_closed (h : s.alive = false ∨ s.openFrom 2 = false) : exec (.clientHello client msg) s = ok s :=
  show execClientHello client msg s = _ from if_pos (by simpa using h)

variable (halive : s.alive = true) (hopen : s.openFrom 2 = true)
include halive hopen

theorem exec_clientHello_keyless (hkey : s.sec.sessKey = none) :
    exec (.clientHello client msg) s = ok ((s.inc F.SEC_COUNTS_REFUSED).ev F.SEC_EVENTS_SESSION_REFUSED) := by
  show execClientHello client msg s = _
  rw [execClientHello, if_neg (by simp [halive, hopen]), hkey]

theorem exec_clientHello_keyed (hkey : s.sec.sessKey = some pub) : exec (.clientHello client msg) s =
    if (s.helloGood msg && decide (s.cmd.sessions.length < 8)) = true then
      ok (({ s with cmd := { s.cmd with
        sessions := s.cmd.sessions ++ [⟨fld (sha3_256 (msg ++ s.helloPart pub)) 0 8, none, [], client, 0, 0⟩] } } : State).send
        .nodeHello client [] (s.helloPart pub ++ (List.range 2420).map (Config.cryptoByte s.fresh 8)))
    else ok ((s.inc F.SEC_COUNTS_REFUSED).ev F.SEC_EVENTS_SESSION_REFUSED) := by
  show execClientHello client msg s = _
  rw [execClientHello, if_neg (by simp [halive, hopen]), hkey]
  rfl

end Hello

section Datagrams

variable {sid counter client : Nat} {auth taken : Bool} {kind : Fin 4} {h tag : BitVec 32} {s u : State}

theorem exec_keepalive (hgram : s.datagram sid counter client auth = (u, taken)) :
    exec (.keepalive sid counter client auth) s = if taken then ok (u.mgmtSend sid 5 []) else ok u := by
  show execKeepalive sid counter client auth s = _
  rw [execKeepalive, hgram]

theorem exec_ack (hgram : s.datagram sid counter client auth = (u, taken)) :
    exec (.ack sid counter client auth kind h tag) s = if (!taken) = true then ok u else ok { u with cmd := { u.cmd with
      mgmt := u.cmd.mgmt.filter (fun r => !(r.session == sid && fld r.record 0 1 % 4 == kind.val
        && fld r.record 8 4 == h.toNat && fld r.record 12 4 == tag.toNat)) } } := by
  show execAck sid counter client auth kind h tag s = _
  rw [execAck, hgram]

theorem datagram_unknown (hfind : s.cmd.sessions.find? (·.sid == sid) = none) :
    s.datagram sid counter client auth = (s.inc F.SEC_COUNTS_AUTH_FAILS, false) := by
  rw [State.datagram, hfind]

theorem datagram_known {x : Session} (hfind : s.cmd.sessions.find? (·.sid == sid) = some x) :
    s.datagram sid counter client auth =
      if (decide (2 ^ 32 ≤ x.received) || decide (2 ^ 32 ≤ x.sent)) = true then (s.closeSessions (·.sid == sid), false)
      else if (s.alive && auth && x.admits counter) = true then ({ s with cmd := { s.cmd with
        sessions := s.cmd.sessions.map (fun y => if y.sid == sid then y.take counter client else y) } }, true)
      else (s.inc F.SEC_COUNTS_AUTH_FAILS, false) := by
  rw [State.datagram, hfind]

end Datagrams

section Resend

variable {k : Nat} {s : State}

theorem exec_recordResend_none (hrec : s.cmd.mgmt[k]? = none) : exec (.recordResend k) s = ok s := by
  show execRecordResend k s = _
  rw [execRecordResend, hrec]

theorem exec_recordResend_some {r : MgmtRecord} (hrec : s.cmd.mgmt[k]? = some r) : exec (.recordResend k) s =
    if 50 ≤ r.sends then
      ok (({ s with cmd := { s.cmd with mgmt := s.cmd.mgmt.eraseIdx k } } : State).ev F.NODE_CMD_EVENTS_MGMT_UNACKED)
    else ok (({ s with cmd := { s.cmd with
      mgmt := lset s.cmd.mgmt k { r with sends := r.sends + 1 } } } : State).mgmtSend r.session 3 r.record) := by
  show execRecordResend k s = _
  rw [execRecordResend, hrec]

end Resend

section StageTimeout

variable {s : State}

theorem exec_fwStageTimeout_some {g : Staging} (hstaging : s.sec.staging = some g) :
    exec .fwStageTimeout s = if g.phase = 0 then ok (s.setStaging none) else ok s := by
  show execFwStageTimeout s = _
  rw [execFwStageTimeout, hstaging]

theorem exec_fwStageTimeout_none (hstaging : s.sec.staging = none) : exec .fwStageTimeout s = ok s := by
  show execFwStageTimeout s = _
  rw [execFwStageTimeout, hstaging]

end StageTimeout

/-- Settles O53, command by command. -/
theorem firmwareIdentityAndSessions : Obligations.FirmwareIdentityAndSessions := by
  unfold Obligations.FirmwareIdentityAndSessions
  refine ⟨?localGood, ?localBad, ?begins, ?piece, ?pieceBad, ?first, ?stageTimeout, ?identity, ?attest, ?rotate, ?rotateRefused, ?hello,
    ?helloRefused, fun client msg s => exec_clientHello_closed, ?messages, ?datagram, fun sid counter client auth s => datagram_unknown,
    ?resend, fun k s => exec_recordResend_none⟩
  case localGood =>
    intro s u q a n htakes hmode ha hn hparams hmin hmax hbacked hlength
    have hgood : u.imageBad q a n = false := by
      rw [Bool.eq_false_iff, Ne, imageBad_iff, hparams, hbacked, hmode]
      rintro (h | h | h | h | h | ⟨hpoison, hheader, hlen⟩)
      · omega
      · exact Bool.false_ne_true h
      · omega
      · omega
      · exact Bool.false_ne_true h.symm
      · rcases hlength with h | h | h
        · simp [hpoison] at h
        · simp [hheader] at h
        · exact hlen h
    rw [exec_fwStageLocal_good htakes hmode ha hn hgood]
    refine ⟨fun hbusy => congrArg ok (if_pos (by simpa [Option.isSome_iff_ne_none] using hbusy)), fun hstaging hin => ?_,
      fun v h hstaging hin hworn hpoison haccept => ?_, fun hstaging hin hworn hpoison => ?_⟩
    · rw [hstaging, hin, if_neg (by decide)]
      exact fun hworn => congrArg ok (if_pos hworn)
    · rw [hstaging, hin, if_neg (by decide), if_neg (ne_true_of_eq_false hworn), if_pos hpoison, haccept]
    · rw [hstaging, hin, if_neg (by decide), if_neg (ne_true_of_eq_false hworn), if_neg (ne_true_of_eq_false hpoison)]
  case localBad =>
    intro s u q htakes hmode hbad
    rw [exec_fwStageLocal htakes hmode, if_pos (imageBad_iff.2 hbad)]
  case begins =>
    intro s u v q h image last haccept
    rw [fwBegin_eq haccept]
    refine ⟨fun hheader => if_pos (by simp [hheader]), fun hheader hold => ?_, fun hheader hnew hu => ?_⟩
    · rw [if_neg (by simp [hheader]), if_pos hold]
    · rw [if_neg (by simp [hheader]), if_neg (Nat.not_lt_of_le hnew), hu]
  case piece =>
    intro s u q htakes hmode hparams hin hworn
    refine ⟨fun hstaging hfirst hmin hmax hlast => ?_, fun hstaging hlater => ?_,
      fun g im v h hstaging hchan hhandle horder hlater him hmin hmax hlast haccept => ?_⟩
    · rw [exec_fwStagePiece htakes hmode, pieceBad_first hparams hfirst hmin hmax hlast, hin, hworn, State.pieceTaken, hstaging]
      rfl
    · exact exec_fwStagePiece_bad htakes hmode (pieceBad_of (.inr (.inl ⟨hlater, hstaging⟩)))
    · obtain ⟨himage, hgood⟩ := pieceBad_next hparams hstaging hlater horder him hmin hmax hlast
      have hmine : u.stagingMine q = true := by rw [State.stagingMine, hstaging]; simp [hchan]
      rw [exec_fwStagePiece htakes hmode, hgood, hmine, hin, hworn, State.pieceTaken, hstaging]
      simp only [hhandle, if_neg hlater, himage, haccept]
      rfl
  case pieceBad =>
    intro s u q htakes hmode hbad
    refine exec_fwStagePiece_bad htakes hmode (pieceBad_of ?_)
    tauto
  case first =>
    rintro s u q g piece htakes hmode hparams hstaging rfl hfirst hmin hmax hlast
    rw [exec_fwStagePiece htakes hmode, pieceBad_first hparams hfirst hmin hmax hlast, if_neg Bool.false_ne_true]
    have hmine : u.stagingMine q = (g.chan == q.chan) := by rw [State.stagingMine, hstaging]
    rw [hmine, hstaging]
    refine ⟨fun hbusy => congrArg ok (if_pos (by simpa using hbusy)), fun hchan hin hworn => ?_, fun hchan hin hworn => ?_⟩
    · rw [if_neg (by simp [hchan, hin]), if_pos hworn]
    · rw [if_neg (by simp [hchan, hin]), if_neg (ne_true_of_eq_false hworn), State.pieceTaken, hstaging]
      refine ⟨fun hhandle => ?_, fun h hhandle => ?_⟩
      · simp only [hhandle, if_pos hfirst]
      · simp only [hhandle, if_pos hfirst]
  case stageTimeout =>
    refine fun s => ⟨fun g hstaging hphase => ?_, fun g hstaging hphase => ?_, exec_fwStageTimeout_none⟩
    · rw [exec_fwStageTimeout_some hstaging, if_pos hphase]
    · rw [exec_fwStageTimeout_some hstaging, if_neg hphase]
  case identity =>
    intro s u q htakes
    rw [exec_identityRead htakes]
    refine ⟨fun h => congrArg ok (if_pos h), fun hlow hhigh => ?_, fun hlow h => ?_⟩
    · rw [if_neg (by omega), if_pos (by simp [hlow, hhigh])]
    · rw [if_neg (by omega), if_neg (by simp only [Bool.and_eq_true, decide_eq_true_eq]; omega)]
  case attest =>
    intro s u q log htakes hlog
    rw [exec_attest htakes hlog]
    refine ⟨fun c hchan => ?_, fun hchan => ?_⟩
    · rw [State.attestBad, State.attested, isLocal_loc hchan]
      refine ⟨?_, fun hbad => congrArg ok (if_pos (by simpa using hbad))⟩
      rintro halign hbacked v rfl
      exact congrArg ok (if_neg (by simp [halign, hbacked]))
    · rw [State.attestBad, State.attested, isLocal_other hchan]
      exact ⟨fun hout => congrArg ok (if_neg (by simp [hout])), fun hout => congrArg ok (if_pos (by simpa using hout))⟩
  case rotate =>
    intro s u v q h htakes hin hupdates hworn haccept
    refine ⟨fun hwhich => ?_, fun hwhich => ?_⟩
    · rw [exec_keyRotateNew_zero htakes hwhich, keyRotate_queued hin hupdates hworn haccept]
    · rw [exec_keyRotateErase htakes hwhich, keyRotate_queued hin hupdates hworn haccept]
  case rotateRefused =>
    intro s u q htakes
    refine ⟨fun hwhich => ?_, fun hin hupdates hworn => ⟨fun hwhich => ?_, fun hwhich => ?_⟩, fun hwhich hbusy => ?_,
      fun hwhich hbusy => ?_⟩
    · rw [exec_keyRotateNew htakes (by omega), if_pos hwhich]
    · rw [exec_keyRotateNew_zero htakes hwhich, keyRotate_worn hin hupdates hworn]
    · rw [exec_keyRotateErase htakes hwhich, keyRotate_worn hin hupdates hworn]
    · rw [exec_keyRotateNew_zero htakes hwhich, keyRotate_busy hbusy]
    · rw [exec_keyRotateErase htakes hwhich, keyRotate_busy hbusy]
  case hello =>
    intro client msg pub part s halive hopen hkey hlen hknown hsigned hroom hpart
    have hpart : s.helloPart pub = part := hpart.symm
    have hgood : s.helloGood msg = true := by rw [State.helloGood, hlen, hknown, hsigned]; rfl
    rw [exec_clientHello_keyed halive hopen hkey, hgood, hpart, if_pos (by simpa using hroom)]
  case helloRefused =>
    intro client msg s halive hopen hbad
    cases hkey : s.sec.sessKey with
    | none => exact exec_clientHello_keyless halive hopen hkey
    | some pub =>
      rw [exec_clientHello_keyed halive hopen hkey, if_neg]
      rw [hkey] at hbad
      rcases hbad with h | h | h | h | h
      · simp at h
      · simp [State.helloGood, h]
      · simp [State.helloGood, h]
      · simp [Nat.not_lt_of_le h]
      · simp [State.helloGood, h]
  case messages =>
    refine fun sid counter client auth kind h tag s u => ⟨fun hgram => ⟨?_, ?_⟩, fun hgram => ⟨?_, ?_⟩, rfl⟩
    · exact (exec_keepalive hgram).trans (if_pos rfl)
    · exact (exec_ack hgram).trans (if_neg (by decide))
    · exact (exec_keepalive hgram).trans (if_neg Bool.false_ne_true)
    · exact (exec_ack hgram).trans (if_pos rfl)
  case datagram =>
    intro sid counter client auth s x hfind
    rw [datagram_known hfind]
    refine ⟨fun hfull => if_pos (by simpa only [Bool.or_eq_true, decide_eq_true_eq] using hfull), fun hreceived hsent => ?_⟩
    rw [if_neg (by simp only [Bool.or_eq_true, decide_eq_true_eq]; omega)]
    refine ⟨fun halive hauth hadmits => if_pos (by simp [halive, hauth, hadmits]), fun h => if_neg ?_⟩
    rcases h with h | h | h <;> simp [h]
  case resend =>
    intro k s r hrec
    rw [exec_recordResend_some hrec]
    exact ⟨fun h => if_neg (Nat.not_le_of_lt h), fun h => if_pos h⟩

end Sys2Proof.Machine

end

section
/-! Cables, latches and the service button (R452–R458). -/

namespace Sys2Proof.Machine

open Sys2Proof

/-! ## Power does not depend on what a receptacle senses -/

section Boot

variable {s : State} {p : Nat} {b : Bool} {m : Bytes}

theorem setPresent_boot : (s.setPresent p b).boot = s.boot := by
  rw [State.setPresent, State.wrBit, State.wr_boot, State.wr_boot]

theorem setLatch_boot : (s.setLatch p b).boot = s.boot := by
  rw [State.setLatch, State.wrBit, State.wr_boot, State.wr_boot]

theorem setWarned_boot : (s.setWarned p b).boot = s.boot := by
  rw [State.setWarned, State.wrBit, State.wr_boot]

theorem readCable_boot : (s.readCable p m).boot = s.boot := by
  rw [State.readCable]
  dsimp only
  split <;> rfl

end Boot

/-! ## Cables -/

section Insert

variable {p : Fin 10} {sig : Bool} {m : Bytes} {s u v : State}

theorem exec_cableInsert_again (hpresent : s.cablePresent p = true) : exec (.cableInsert p sig m) s = ok s :=
  show execCableInsert p sig m s = _ from if_pos hpresent

theorem exec_cableInsert_unpowered (hempty : s.cablePresent p = false) (hpower : s.boot.failed = true) :
    exec (.cableInsert p sig m) s = ok ((s.setPresent p true).readCable p m) := by
  show execCableInsert p sig m s = _
  rw [execCableInsert, if_neg (ne_true_of_eq_false hempty)]
  dsimp only
  rw [if_pos (by rw [readCable_boot, setPresent_boot, hpower])]

/-- What follows an insertion that is counted: the cable waits for a removal to end, trains, or waits for its partner. -/
def State.inserted (v : State) (p : Fin 10) (sig : Bool) : State :=
  if v.removalPending && !v.admitted then { v with panel := { v.panel with arrived := sinsert v.panel.arrived p } }
  else if sig && !v.panel.unpowered.contains p.val then v.trainWaiting p
  else if v.portState p == Port.down then v.setPort p Port.wait
  else v

theorem exec_cableInsert (hempty : s.cablePresent p = false) (hpower : s.boot.failed = false)
    (hu : u = (s.setPresent p true).readCable p m)
    (hv : v = ((({ u with keep := { u.keep with
      insertions := mput u.keep.insertions p ((mget u.keep.insertions p 0 + 1) % 2 ^ 32) } } : State).showCounters.ev
        F.PANEL_EVENTS_CABLE_IN).ev (F.PORT_EVENTS_CABLE_IN p))) :
    exec (.cableInsert p sig m) s = ok (v.inserted p sig) := by
  subst hu hv
  show execCableInsert p sig m s = _
  rw [execCableInsert, if_neg (ne_true_of_eq_false hempty)]
  dsimp only
  rw [if_neg (by rw [readCable_boot, setPresent_boot, hpower]; decide), State.inserted]
  split
  · rfl
  split
  · rfl
  split
  · rfl
  · rfl

end Insert

section Remove

variable {p : Fin 10} {s u v : State}

/-- A port in use loses its cable without a warning. -/
def State.lossUnannounced (s : State) (p : Fin 10) : Bool :=
  !bit (s.rd F.PANEL_CABLES_WARNED) p && (s.portState p == Port.up || s.portState p == Port.train || s.portState p == Port.draining)

theorem lossUnannounced_iff : s.lossUnannounced p = true ↔
    bit (s.rd F.PANEL_CABLES_WARNED) p = false ∧ s.portState p ∈ [Port.up, Port.train, Port.draining] := by
  simp only [State.lossUnannounced, Bool.and_eq_true, Bool.not_eq_true', Bool.or_eq_true, beq_iff_eq, List.mem_cons, List.not_mem_nil,
    or_false, or_assoc]

theorem exec_cableRemove_none (hempty : s.cablePresent p = false) : exec (.cableRemove p) s = ok s :=
  show execCableRemove p s = _ from if_pos (by simp [hempty])

theorem exec_cableRemove (hpresent : s.cablePresent p = true) (hpower : s.boot.failed = false)
    (hu : u = (s.setPresent p false).readCable p [])
    (hv : v = ({ u with panel := { u.panel with arrived := u.panel.arrived.filter (· != p.val) } } : State).setWarned p false) :
    exec (.cableRemove p) s = if s.lossUnannounced p then ok (((((v.unannounced p).inc F.PANEL_COUNTS_UNANNOUNCED).ev
        F.PANEL_EVENTS_UNANNOUNCED_LOSS).panelEvent 3 p).removalProceed)
      else if s.portState p == Port.off then ok v
      else ok ((v.cableGone p).replanPort p).removalProceed := by
  have hboot : v.boot.failed = false := by rw [hv, setWarned_boot, hu]; exact (congrArg _ readCable_boot).trans hpower
  subst hu
  show execCableRemove p s = _
  rw [execCableRemove, if_neg (by simp [hpresent])]
  dsimp only
  rw [← hv, if_neg (ne_true_of_eq_false hboot)]
  rfl

end Remove

/-! ## Latches -/

section Latch

variable {p : Fin 10} {s u : State} {d : DrainFor}

theorem exec_latchWarning_again (hlatched : s.latched p = true) : exec (.latchWarning p) s = ok s :=
  show execLatchWarning p s = _ from if_pos hlatched

theorem exec_latchWarning (hopen : s.latched p = false) (hu : u = s.setLatch p true) : exec (.latchWarning p) s =
    if (s.boot.failed || !u.cablePresent p) = true then ok u else ok (((((u.panelEvent 2 p).setWarned p true).inc
      F.PANEL_COUNTS_LATCH_WARNINGS).ev F.PANEL_EVENTS_LATCH_WARNING).latchDrain p .latch none).removalProceed := by
  have hboot : s.boot.failed = u.boot.failed := by rw [hu, setLatch_boot]
  show execLatchWarning p s = _
  rw [execLatchWarning, if_neg (ne_true_of_eq_false hopen), hboot, hu]

theorem exec_latchRelease : exec (.latchRelease p) s =
    ok ((s.wrBit F.PANEL_CABLES_LATCH p false).wr (F.PORT_CABLE_LATCH p) 0) := by
  show execLatchRelease p s = _
  rw [execLatchRelease, State.setLatch, show b2n false = 0 from rfl]

theorem exec_latchReleaseTimeout_idle (h : s.boot.failed = true ∨ bit (s.rd F.PANEL_CABLES_WARNED) p = false ∨ s.latched p = true ∨
    s.cablePresent p = false) : exec (.latchReleaseTimeout p) s = ok s :=
  show execLatchReleaseTimeout p s = _ from if_pos (by
    simpa only [Bool.or_eq_true, Bool.not_eq_true', or_assoc] using h)

theorem exec_latchReleaseTimeout (hwarned : bit (s.rd F.PANEL_CABLES_WARNED) p = true) (hopen : s.latched p = false)
    (hpresent : s.cablePresent p = true) (hpower : s.boot.failed = false) (hu : u = s.setWarned p false) :
    exec (.latchReleaseTimeout p) s = if (u.removalPending && !u.admitted) = true then ok u else ok (u.drainBack p .latch) := by
  subst hu
  show execLatchReleaseTimeout p s = _
  rw [execLatchReleaseTimeout, if_neg (by simp [hwarned, hopen, hpresent, hpower])]

theorem drainBack_draining {p : Nat} (hstate : s.portState p = Port.draining) (hdrain : (s.pt p).drain = d) :
    s.drainBack p d = ((s.setPt p { s.pt p with drain := .none }).setPort p Port.up).portDone p :=
  if_pos (by simp [hstate, hdrain])

theorem drainBack_undrains {p : Nat} (h : s.portState p ≠ Port.draining ∨ (s.pt p).drain ≠ d) : s.drainBack p d = s.undrain p :=
  if_neg (by rcases h with h | h <;> simp [h])

end Latch

/-! ## The service button -/

section Button

variable {s u v : State}

theorem removalPending_eq_false (h : s.rd F.PANEL_STATUS_REQUEST = 0) : s.removalPending = false := State.flag_eq_false h

theorem removalPending_eq_true (h : s.rd F.PANEL_STATUS_REQUEST ≠ 0) : s.removalPending = true := bne_iff_ne.2 h

theorem rd_request_inc {f : Field} {n : Nat} (hf : f.apart F.PANEL_STATUS_REQUEST = true ∧ F.PANEL_STATUS_REQUEST.apart f = true) :
    (s.inc f n).rd F.PANEL_STATUS_REQUEST = s.rd F.PANEL_STATUS_REQUEST :=
  State.rd_wr_apart s _ hf.2 (by decide)

theorem exec_buttonPress (hpower : s.boot.failed = false) (hu : u = s.inc F.PANEL_COUNTS_PRESSES) : exec .buttonPress s =
    if u.removalPending then ok u
    else ok (((u.wr F.PANEL_STATUS_REQUEST 1).ev F.PANEL_EVENTS_PRESS).panelEvent 0 0).removalProceed := by
  subst hu
  show execButtonPress s = _
  rw [execButtonPress, if_neg (ne_true_of_eq_false hpower)]

theorem exec_buttonCancel (hpower : s.boot.failed = false) (hu : u = s.inc F.PANEL_COUNTS_CANCELS)
    (hv : v = forEach (List.range 10) (((u.panelEvent 1 0).wr F.PANEL_STATUS_REQUEST 0).ev F.PANEL_EVENTS_CANCEL)
      (fun p x => x.drainBack p .removal)) : exec .buttonCancel s =
    if (!u.removalPending) = true then ok u
    else ok (forEach v.panel.arrived ({ v with panel := { v.panel with arrived := [] } } : State)
      (fun p x => x.trainWaiting p)).keepStart := by
  subst hu
  show execButtonCancel s = _
  rw [execButtonCancel, if_neg (ne_true_of_eq_false hpower), hv]

theorem exec_buttonPress_unpowered (hpower : s.boot.failed = true) : exec .buttonPress s = ok s :=
  show execButtonPress s = _ from if_pos hpower

theorem exec_buttonCancel_unpowered (hpower : s.boot.failed = true) : exec .buttonCancel s = ok s :=
  show execButtonCancel s = _ from if_pos hpower

end Button

/-! ## A removal that has nothing left to drain -/

theorem forEach_of_fixed {f : Nat → State → State} {s : State} : ∀ l : List Nat, (∀ i ∈ l, f i s = s) → forEach l s f = s
  | [], _ => rfl
  | i :: l, h => by
    rw [forEach, List.foldl_cons, h i List.mem_cons_self]
    exact forEach_of_fixed l (fun j hj => h j (List.mem_cons_of_mem i hj))

theorem removalProceed_removable {s : State} (hrequest : s.rd F.PANEL_STATUS_REQUEST = 1) (hjob : s.admitted = false)
    (hports : ∀ p < 10, s.portState p ∉ [Port.up, Port.train, Port.draining]) (hready : s.removalReady = true) :
    s.removalProceed = (s.wr F.PANEL_STATUS_REQUEST 2).ev F.PANEL_EVENTS_REMOVABLE := by
  rw [State.removalProceed, if_neg (by simp [hrequest, hjob])]
  dsimp only
  rw [forEach_of_fixed, if_pos hready]
  intro p hp
  have hport := hports p (List.mem_range.1 hp)
  simp only [List.mem_cons, not_or] at hport
  obtain ⟨hup, htrain, -⟩ := hport
  rw [if_neg (by simpa using hup), if_neg (by simpa using htrain)]

/-- Settles O47, event by event. -/
theorem cablesLatchesAndTheButton : Obligations.CablesLatchesAndTheButton := by
  unfold Obligations.CablesLatchesAndTheButton
  refine ⟨?insert, fun p sig m s => exec_cableInsert_again, ?remove, fun p s => exec_cableRemove_none, ?latch,
    fun p s => exec_latchWarning_again, fun p s => exec_latchRelease, ?release,
    fun p s d => ⟨drainBack_draining, drainBack_undrains⟩, fun p s h => exec_latchReleaseTimeout_idle (.inr h), ?press, ?unpowered,
    ?cancel, fun s => removalProceed_removable⟩
  case insert =>
    intro p sig m s u v hempty hpower hu hv
    rw [exec_cableInsert hempty hpower hu (hv _ rfl), State.inserted]
    refine ⟨fun hpending hjob => ?_, fun hnot hsig hunpowered => ?_, fun hnot hsilent => ?_⟩
    · rw [if_pos (by simp [hpending, hjob])]
    · rw [if_neg (by rcases hnot with h | h <;> simp [h]), if_pos (by rw [hsig, hunpowered]; rfl)]
    · have hquiet : (sig && !v.panel.unpowered.contains p.val) = false := by rcases hsilent with h | h <;> rw [h] <;> simp
      rw [if_neg (by rcases hnot with h | h <;> simp [h]), hquiet, if_neg Bool.false_ne_true]
      exact ⟨fun hdown => congrArg ok (if_pos (by simp [hdown])), fun hdown => congrArg ok (if_neg (by simpa using hdown))⟩
  case remove =>
    intro p s u v hpresent hpower hu hv
    rw [exec_cableRemove hpresent hpower hu hv]
    refine ⟨fun hwarned hport => if_pos (lossUnannounced_iff.2 ⟨hwarned, hport⟩), fun h => ?_⟩
    rw [if_neg]
    · exact ⟨fun hoff => if_pos (by simp [hoff]), fun hoff => if_neg (by simpa using hoff)⟩
    · rw [lossUnannounced_iff]
      rintro ⟨hwarned, hport⟩
      rcases h with h | h
      · simp [hwarned] at h
      · exact h hport
  case latch =>
    intro p s u hopen hpower hu
    rw [exec_latchWarning hopen hu, hpower]
    exact ⟨fun hpresent => if_neg (by simp [hpresent]), fun hempty => if_pos (by simp [hempty])⟩
  case release =>
    intro p s u hwarned hopen hpresent hpower hu
    rw [exec_latchReleaseTimeout hwarned hopen hpresent hpower hu]
    exact ⟨fun hpending hjob => if_pos (by simp [hpending, hjob]), fun h => if_neg (by rcases h with h | h <;> simp [h])⟩
  case press =>
    intro s u hpower hu
    have hrequest : u.rd F.PANEL_STATUS_REQUEST = s.rd F.PANEL_STATUS_REQUEST := by rw [hu, rd_request_inc (by decide)]
    rw [exec_buttonPress hpower hu, ← hrequest]
    refine ⟨fun hnone => if_neg ?_, fun hsome => if_pos (removalPending_eq_true hsome)⟩
    exact ne_true_of_eq_false (removalPending_eq_false hnone)
  case unpowered =>
    intro p sig m s hpower
    refine ⟨exec_buttonPress_unpowered hpower, exec_buttonCancel_unpowered hpower, exec_latchReleaseTimeout_idle (.inl hpower),
      fun hempty => exec_cableInsert_unpowered hempty hpower, fun hopen => ?_⟩
    rw [exec_latchWarning hopen rfl, if_pos (by simp [hpower])]
  case cancel =>
    intro s u v hpower hu
    have hrequest : u.rd F.PANEL_STATUS_REQUEST = s.rd F.PANEL_STATUS_REQUEST := by rw [hu, rd_request_inc (by decide)]
    rw [← hrequest]
    refine ⟨fun hnone => ?_, fun hsome hv => ?_⟩
    · rw [exec_buttonCancel hpower hu rfl, removalPending_eq_false hnone]
      rfl
    · rw [exec_buttonCancel hpower hu hv, removalPending_eq_true hsome]
      rfl

end Sys2Proof.Machine

end

section
/-! The management port and the tray service bus (R460, R461, R465–R467). -/

namespace Sys2Proof.Machine

open Sys2Proof

/-! ## The management port -/

section Mgmt

variable {pfx dst src data : Bytes} {len : Fin 129} {auto up : Bool} {life : BitVec 32} {s : State}

/-- A router advertisement from which no address is formed. -/
def State.adIgnored (s : State) (pfx : Bytes) (len : Fin 129) (auto : Bool) (life : BitVec 32) : Bool :=
  !s.alive || !s.flag F.PANEL_MGMT_LINK_UP || s.flag F.PANEL_MGMT_STATIC || s.flag F.PANEL_MGMT_ADDR_VALID || !auto
    || len.val != 64 || life == 0 || (fld pfx 0 1 == 0xFE && fld pfx 1 1 / 64 == 2)

theorem adIgnored_iff : s.adIgnored pfx len auto life = true ↔ s.alive = false ∨ s.flag F.PANEL_MGMT_LINK_UP = false ∨
    s.flag F.PANEL_MGMT_STATIC = true ∨ s.flag F.PANEL_MGMT_ADDR_VALID = true ∨ auto = false ∨ len.val ≠ 64 ∨ life = 0 ∨
    (fld pfx 0 1 = 0xFE ∧ fld pfx 1 1 / 64 = 2) := by
  simp only [State.adIgnored, Bool.or_eq_true, Bool.and_eq_true, Bool.not_eq_true', bne_iff_ne, beq_iff_eq, or_assoc]

theorem exec_routerAdvertisement_ignored (h : s.adIgnored pfx len auto life = true) :
    exec (.routerAdvertisement pfx len auto life) s = ok s :=
  show execRouterAdvertisement pfx len auto life s = _ from if_pos h

theorem exec_routerAdvertisement_taken (h : s.adIgnored pfx len auto life = false) :
    exec (.routerAdvertisement pfx len auto life) s = ok (((s.setAddr R.PANEL_MGMT_ADDR (sub pfx 0 8 ++ interfaceId)).wr
      F.PANEL_MGMT_PREFIX_LEN 64).wr F.PANEL_MGMT_ADDR_VALID 1) :=
  show execRouterAdvertisement pfx len auto life s = _ from if_neg (ne_true_of_eq_false h)

/-- Whether the port answers what comes for an address. -/
def State.answers (s : State) (dst : Bytes) : Bool := s.alive && s.flag F.PANEL_MGMT_LINK_UP && s.ownAddr dst

theorem answers_eq_true (halive : s.alive = true) (hlink : s.rd F.PANEL_MGMT_LINK_UP = 1) (hown : s.ownAddr dst = true) :
    s.answers dst = true := by rw [State.answers, halive, State.flag_eq_true hlink, hown]; rfl

theorem answers_eq_false (h : s.alive = false ∨ s.rd F.PANEL_MGMT_LINK_UP = 0 ∨ s.ownAddr dst = false) : s.answers dst = false := by
  rw [State.answers]
  rcases h with h | h | h
  · rw [h, Bool.false_and, Bool.false_and]
  · rw [State.flag_eq_false h, Bool.and_false, Bool.false_and]
  · rw [h, Bool.and_false]

theorem exec_neighbourDiscovery : exec (.neighbourDiscovery dst src) s =
    if s.answers dst then ok (s.send .neighbour (leNat src) [] (dst ++ macBytes)) else ok s := by
  show execNeighbourDiscovery dst src s = _
  rw [execNeighbourDiscovery, State.answers]

theorem exec_icmpv6Echo : exec (.icmpv6Echo dst src data) s =
    if s.answers dst then ok (s.send .icmpv6 (leNat src) [] data) else ok s := by
  show execIcmpv6Echo dst src data s = _
  rw [execIcmpv6Echo, State.answers]

theorem exec_mgmtLinkChange_same (h : s.alive = false ∨ s.flag F.PANEL_MGMT_LINK_UP = up) :
    exec (.mgmtLinkChange up) s = ok s :=
  show execMgmtLinkChange up s = _ from if_pos (by simpa using h)

theorem exec_mgmtLinkChange (halive : s.alive = true) (h : s.flag F.PANEL_MGMT_LINK_UP ≠ up) :
    exec (.mgmtLinkChange up) s = ok ((s.wr F.PANEL_MGMT_LINK_UP (b2n up)).ev F.PANEL_EVENTS_MGMT_LINK) :=
  show execMgmtLinkChange up s = _ from if_neg (by simp [halive, h])

end Mgmt

/-! ## The tray target's addresses and lengths -/

section Tray

variable {st dyn : Fin 128} {e : Fin 256} {n : Fin 65536} {k : Nat} {p r : Bytes} {s : State} {f : State → State}

theorem exec_rstdaa (halive : s.alive = true) :
    exec .rstdaa s = ok ((s.wr F.PANEL_TSB_DYN_ADDR 0).wr F.PANEL_TSB_ADDR_VALID 0) :=
  show execRstdaa s = _ from if_pos halive

theorem exec_rstdaa_dead (hdead : s.alive = false) : exec .rstdaa s = ok s :=
  show execRstdaa s = _ from if_neg (ne_true_of_eq_false hdead)

theorem exec_setdasa (halive : s.alive = true) (hnew : s.rd F.PANEL_TSB_ADDR_VALID = 0) (hst : st.val = 0x30 + s.panel.strap) :
    exec (.setdasa st dyn) s = ok ((s.wr F.PANEL_TSB_DYN_ADDR dyn).wr F.PANEL_TSB_ADDR_VALID 1) :=
  show execSetdasa st dyn s = _ from if_pos (by simp [halive, State.flag_eq_false hnew, hst])

theorem exec_setdasa_ignored (h : s.alive = false ∨ s.rd F.PANEL_TSB_ADDR_VALID = 1 ∨ st.val ≠ 0x30 + s.panel.strap) :
    exec (.setdasa st dyn) s = ok s := by
  show execSetdasa st dyn s = _
  refine if_neg ?_
  rcases h with h | h | h
  · simp [h]
  · simp [State.flag_eq_true h]
  · simp [h]

theorem addressed_eq (halive : s.alive = true) (haddr : s.rd F.PANEL_TSB_ADDR_VALID = 1) : s.addressed f = ok (f s) :=
  if_pos (by simp [halive, State.flag_eq_true haddr])

theorem addressed_none (h : s.alive = false ∨ s.rd F.PANEL_TSB_ADDR_VALID = 0) : s.addressed f = ok s := by
  refine if_neg ?_
  rcases h with h | h
  · simp [h]
  · simp [State.flag_eq_false h]

theorem exec_enec : exec (.enec e) s =
    s.addressed (fun s => if bit e 0 then (s.wr F.PANEL_TSB_IBI_ENABLED 1).ibi else s) := by
  show execEnec e s = _
  rw [execEnec]

theorem exec_disec : exec (.disec e) s =
    s.addressed (fun s => if bit e 0 then s.wr F.PANEL_TSB_IBI_ENABLED 0 else s) := by
  show execDisec e s = _
  rw [execDisec]

/-- The answer to a read of n bytes that no rule gives. -/
def State.freeAnswer (code n : Nat) (s : State) : State :=
  s.send .trayData 0 [code] ((List.range n).map (fun i => Config.freeByte s.fresh i))

theorem exec_getstatus : exec .getstatus s = s.addressed (State.freeAnswer 0x90 2) := by
  show execGetstatus s = _
  rw [execGetstatus, State.cccFree]
  rfl

theorem exec_getbcr : exec .getbcr s = s.addressed (State.freeAnswer 0x8E 1) := by
  show execGetbcr s = _
  rw [execGetbcr, State.cccFree]
  rfl

theorem exec_getdcr : exec .getdcr s = s.addressed (State.freeAnswer 0x8F 1) := by
  show execGetdcr s = _
  rw [execGetdcr, State.cccFree]
  rfl

theorem exec_getmwl : exec .getmwl s =
    s.addressed (fun s => s.send .trayData 0 [0x8B] (natLE 2 s.panel.mwl).reverse) := by
  show execGetmwl s = _
  rw [execGetmwl]

theorem exec_getmrl : exec .getmrl s =
    s.addressed (fun s => s.send .trayData 0 [0x8C] ((natLE 2 s.panel.mrl).reverse ++ [1])) := by
  show execGetmrl s = _
  rw [execGetmrl]

theorem exec_setmwl : exec (.setmwl n) s =
    s.addressed (fun s => { s with panel := { s.panel with mwl := min n.val 4161 } }) := by
  show execSetmwl n s = _
  rw [execSetmwl]

theorem exec_setmrl : exec (.setmrl n) s =
    s.addressed (fun s => { s with panel := { s.panel with mrl := min n.val 64 } }) := by
  show execSetmrl n s = _
  rw [execSetmrl]

theorem exec_tsbReplySelect : exec .tsbReplySelect s = s.traySelect 1 := by
  show execTsbReplySelect s = _
  rw [execTsbReplySelect]

theorem exec_tsbRecordSelect : exec .tsbRecordSelect s = s.traySelect 2 := by
  show execTsbRecordSelect s = _
  rw [execTsbRecordSelect]

theorem traySelect_eq (hopen : s.trayOpen = true) (halive : s.alive = true) (haddr : s.rd F.PANEL_TSB_ADDR_VALID = 1) :
    s.traySelect k = ok { s with cmd := { s.cmd with traySelect := k } } := by
  rw [State.traySelect, if_pos hopen, addressed_eq halive haddr]

theorem traySelect_none (h : s.trayOpen = false ∨ s.alive = false ∨ s.rd F.PANEL_TSB_ADDR_VALID = 0) : s.traySelect k = ok s := by
  rw [State.traySelect]
  split
  next hopen =>
    refine addressed_none (h.resolve_left ?_)
    simp [hopen]
  next => rfl

/-! ## Reads and commands of the tray -/

/-- The item a read returns: the reply, the oldest record, or zeros. -/
def State.trayItem (s : State) : Bytes :=
  if s.cmd.traySelect = 1 then (if s.cmd.trayReply.isEmpty then mkReply 0 0 0 0 0 0 [] else s.cmd.trayReply)
  else if s.cmd.traySelect = 2 then s.cmd.tray.headD (zeros 64) else zeros 64

/-- The node after a read of n bytes; all 64 bytes of a record remove it. -/
def State.trayRead (s : State) (n : Nat) : State :=
  let u := s.send .trayData 0 [] (sub s.trayItem 0 n)
  if u.cmd.traySelect = 2 && n = 64 then ({ u with cmd := { u.cmd with tray := u.cmd.tray.drop 1 } } : State).ibi else u

/-- The node after a TSB_COMMAND while the last reply is r. -/
def State.trayCommand (s : State) (p r : Bytes) : State :=
  if fld r 3 1 = 1 then { s with cmd := { s.cmd with trayReply := patch r 2 (natLE 1 ((fld r 2 1 + 1) % 256)) } }
  else ({ s with cmd := { s.cmd with trayReply := patch r 3 (natLE 1 1), traySelect := 1 } } : State).submit .tray 0 0
    (p.take (s.panel.mwl - 1))

theorem trayRead_kept {n : Nat} (h : s.cmd.traySelect ≠ 2 ∨ n ≠ 64) :
    s.trayRead n = s.send .trayData 0 [] (sub s.trayItem 0 n) := by
  refine if_neg ?_
  show ¬(decide (s.cmd.traySelect = 2) && decide (n = 64)) = true
  rcases h with h | h <;> simp [h]

theorem trayRead_removes {n : Nat} {u : State} (hselect : s.cmd.traySelect = 2) (hn : n = 64)
    (hu : u = s.send .trayData 0 [] (sub s.trayItem 0 n)) :
    s.trayRead n = ({ u with cmd := { u.cmd with tray := u.cmd.tray.drop 1 } } : State).ibi := by
  subst hu
  refine if_pos ?_
  show (decide (s.cmd.traySelect = 2) && decide (n = 64)) = true
  simp [hselect, hn]

theorem trayItem_record (hselect : s.cmd.traySelect = 2) : s.trayItem = s.cmd.tray.headD (zeros 64) := by
  rw [State.trayItem, if_neg (by omega), if_pos hselect]

variable {l : Fin 65}

theorem exec_tsbRecordRead_none (h : s.trayOpen = false ∨ s.alive = false ∨ s.rd F.PANEL_TSB_ADDR_VALID = 0) :
    exec (.tsbRecordRead l) s = ok s := by
  show execTsbRecordRead l s = _
  rw [execTsbRecordRead]
  split
  next => rfl
  next hopen => exact addressed_none (h.resolve_left (by simpa using hopen))

theorem exec_tsbCommand_none (h : s.trayOpen = false ∨ s.alive = false ∨ s.rd F.PANEL_TSB_ADDR_VALID = 0) :
    exec (.tsbCommand p) s = ok s := by
  show execTsbCommand p s = _
  rw [execTsbCommand]
  split
  next => rfl
  next hopen => exact addressed_none (h.resolve_left (by simpa using hopen))

section Open

variable (halive : s.alive = true) (haddr : s.rd F.PANEL_TSB_ADDR_VALID = 1) (hopen : s.trayOpen = true)
include halive haddr hopen

theorem exec_tsbRecordRead : exec (.tsbRecordRead l) s = ok (s.trayRead (min l.val s.panel.mrl)) := by
  show execTsbRecordRead l s = _
  rw [execTsbRecordRead, if_neg (by simp [hopen]), addressed_eq halive haddr]
  rfl

theorem exec_tsbCommand (hempty : s.cmd.trayReply = [] → r = mkReply 0 0 0 0 0 0 [])
    (hsome : s.cmd.trayReply ≠ [] → r = s.cmd.trayReply) : exec (.tsbCommand p) s = ok (s.trayCommand p r) := by
  have hr : (if s.cmd.trayReply.isEmpty then mkReply 0 0 0 0 0 0 [] else s.cmd.trayReply) = r := by
    by_cases h : s.cmd.trayReply = []
    · rw [hempty h, if_pos (by simp [h])]
    · rw [hsome h, if_neg (by simpa using h)]
  show execTsbCommand p s = _
  rw [execTsbCommand, if_neg (by simp [hopen]), addressed_eq halive haddr]
  dsimp only
  rw [hr, State.trayCommand]

end Open

end Tray

/-- Settles O54, message by message. -/
theorem managementPortAndTray : Obligations.ManagementPortAndTray := by
  unfold Obligations.ManagementPortAndTray
  refine ⟨?ad, ?adIgnored, ?own, ?link, ?address, ?codes, ?unaddressed, ?closed, ?dead, ?read, ?command⟩
  case ad =>
    intro pfx len auto life s halive hlink hstatic hvalid
    refine ⟨fun hauto hlen hlife hprefix => exec_routerAdvertisement_taken ?_, fun h => exec_routerAdvertisement_ignored ?_⟩
    · rw [Bool.eq_false_iff, Ne, adIgnored_iff, halive, State.flag_eq_true hlink, State.flag_eq_false hstatic,
        State.flag_eq_false hvalid, hauto]
      simp only [Bool.true_eq_false, Bool.false_eq_true, false_or, hlen, ne_eq, not_true_eq_false, hlife]
      exact fun h => hprefix.elim (fun hne => hne h.1) (fun hne => hne h.2)
    · exact adIgnored_iff.2 (.inr (.inr (.inr (.inr h))))
  case adIgnored =>
    intro pfx len auto life s h
    refine exec_routerAdvertisement_ignored (adIgnored_iff.2 ?_)
    rcases h with h | h | h | h
    · exact .inl h
    · exact .inr (.inl (State.flag_eq_false h))
    · exact .inr (.inr (.inl (State.flag_eq_true h)))
    · exact .inr (.inr (.inr (.inl (State.flag_eq_true h))))
  case own =>
    refine fun dst src data s => ⟨fun halive hlink hown => ?_, fun h => ?_⟩
    · rw [exec_neighbourDiscovery, exec_icmpv6Echo, answers_eq_true halive hlink hown]
      exact ⟨if_pos rfl, if_pos rfl⟩
    · rw [exec_neighbourDiscovery, exec_icmpv6Echo, answers_eq_false h]
      exact ⟨if_neg Bool.false_ne_true, if_neg Bool.false_ne_true⟩
  case link =>
    refine fun s => ⟨fun halive hdown => ⟨?_, ?_⟩, fun halive hup => ⟨?_, ?_⟩⟩
    · rw [exec_mgmtLinkChange halive (by simp [State.flag_eq_false hdown]), show b2n true = 1 from rfl]
    · exact exec_mgmtLinkChange_same (.inr (State.flag_eq_false hdown))
    · rw [exec_mgmtLinkChange halive (by simp [State.flag_eq_true hup]), show b2n false = 0 from rfl]
    · exact exec_mgmtLinkChange_same (.inr (State.flag_eq_true hup))
  case address =>
    exact fun st dyn s halive => ⟨exec_rstdaa halive, exec_setdasa halive, fun h => exec_setdasa_ignored (.inr h)⟩
  case codes =>
    intro e n s halive haddr
    have hto : ∀ f : State → State, s.addressed f = ok (f s) := fun f => addressed_eq halive haddr
    refine ⟨fun hbit => ⟨?_, ?_⟩, fun hbit => ⟨?_, ?_⟩, exec_getstatus.trans (hto _), exec_getbcr.trans (hto _),
      exec_getdcr.trans (hto _), exec_getmwl.trans (hto _), exec_getmrl.trans (hto _), exec_setmwl.trans (hto _),
      exec_setmrl.trans (hto _), fun hopen => ⟨exec_tsbReplySelect.trans (traySelect_eq hopen halive haddr),
        exec_tsbRecordSelect.trans (traySelect_eq hopen halive haddr)⟩⟩
    · rw [exec_enec, hto, if_pos hbit]
    · rw [exec_disec, hto, if_pos hbit]
    · rw [exec_enec, hto, if_neg (ne_true_of_eq_false hbit)]
    · rw [exec_disec, hto, if_neg (ne_true_of_eq_false hbit)]
  case unaddressed =>
    intro e n k p s h
    have hto : ∀ f : State → State, s.addressed f = ok s := fun f => addressed_none h
    exact ⟨exec_enec.trans (hto _), exec_disec.trans (hto _), exec_getstatus.trans (hto _), exec_getbcr.trans (hto _),
      exec_getdcr.trans (hto _), exec_getmwl.trans (hto _), exec_getmrl.trans (hto _), exec_setmwl.trans (hto _),
      exec_setmrl.trans (hto _), exec_tsbReplySelect.trans (traySelect_none (.inr h)),
      exec_tsbRecordSelect.trans (traySelect_none (.inr h)), exec_tsbRecordRead_none (.inr h), exec_tsbCommand_none (.inr h)⟩
  case closed =>
    exact fun k p s h => ⟨exec_tsbReplySelect.trans (traySelect_none (.inl h)),
      exec_tsbRecordSelect.trans (traySelect_none (.inl h)), exec_tsbRecordRead_none (.inl h), exec_tsbCommand_none (.inl h)⟩
  case dead =>
    exact fun up st dyn s hdead => ⟨exec_mgmtLinkChange_same (.inl hdead), exec_rstdaa_dead hdead, exec_setdasa_ignored (.inl hdead)⟩
  case read =>
    intro k s halive haddr hopen
    rw [exec_tsbRecordRead halive haddr hopen]
    refine ⟨fun hselect hreply => ?_, fun hselect hreply => ?_, fun hone htwo => ?_, fun hselect hall u hu => ?_,
      fun hselect hpart => ?_⟩
    · rw [trayRead_kept (.inl (by omega)), State.trayItem, if_pos hselect, if_neg (by simpa using hreply)]
    · rw [trayRead_kept (.inl (by omega)), State.trayItem, if_pos hselect, if_pos (by simp [hreply])]
    · rw [trayRead_kept (.inl htwo), State.trayItem, if_neg hone, if_neg htwo]
    · exact congrArg ok (trayRead_removes hselect hall (by rw [trayItem_record hselect, hall, hu]))
    · rw [trayRead_kept (.inr hpart), trayItem_record hselect]
  case command =>
    intro p r s halive haddr hopen hempty hsome
    rw [exec_tsbCommand halive haddr hopen hempty hsome]
    exact ⟨fun hpending => congrArg ok (if_pos hpending), fun hdone => congrArg ok (if_neg hdone)⟩

end Sys2Proof.Machine

end
